-- ==== Sys2Proof/Word.lean ====
section
/-!
DEFINITION. Words of the device and their plainest arithmetic: bytes, 32-bit and 64-bit words,
little-endian lists of bytes (00_scope.md, "Numbers, units and bit ranges"), and stamp comparison (R9).
-/

namespace Sys2Proof

/-- One byte of memory. -/
abbrev Byte := BitVec 8
/-- A register of the register space (R2), and a stamp (R9). -/
abbrev Word := BitVec 32
/-- A scalar register of a signal core. -/
abbrev DWord := BitVec 64

/-- A stamp `a` is earlier than a stamp `b` when `(b - a) mod 2^32` lies in 1 to 2^31 - 1 (R9). -/
def stampEarlier (a b : Word) : Bool :=
  let d := (b - a).toNat
  1 ≤ d && d < 2 ^ 31

end Sys2Proof
end

