-- ==== Sys2Proof/Machine/Packet.lean ====
section
/-!
DEFINITION. What the commands of the table carry as operands beside numbers: a packet of the vein fabric
(R264, R266, R267), a frame of the twin link (R429), and what a few events bring with them. All are plain data.
-/

namespace Sys2Proof

/-- The running pulse that ends: the compare unit and the pin that it was started for (R54). -/
structure PulseEnd where
  unit : BitVec 6
  pin  : BitVec 4
  deriving DecidableEq, Repr

/-- A retention bank and its supply in mV (R293). -/
structure BankSupply where
  bank : BitVec 4
  mv   : BitVec 16
  deriving DecidableEq, Repr

/-- A frame as a port receives it, with how many of the FEC codewords that came with it were corrected and how many could not
be (R300). -/
structure RxFrame where
  bytes : List Byte
  corr  : BitVec 8
  unc   : BitVec 8
  deriving DecidableEq, Repr

/-- A JESD204C link and how many samples of each of its channels it then sends (R315, R316). -/
structure JesdStart where
  link : BitVec 2
  n    : BitVec 20
  deriving DecidableEq, Repr

/-- A lane and a count of what it has received amiss: blocks with a bad sync header (R321), bits that mismatch (R319). -/
structure LaneCount where
  lane : BitVec 6
  n    : BitVec 32
  deriving DecidableEq, Repr

/-- A port whose link comes up, and what clause 72 training has chosen for lane 40, laid out as FH_LANE_FFE (R302). -/
structure PortUp where
  port : BitVec 6
  ffe  : BitVec 27
  deriving DecidableEq, Repr

/-- A packet of the vein fabric with the fields of R266 that its operation uses; a field that the operation
does not use is 0. `data` holds the bytes of the request's range in address order (R267), or for an event or an
eMark the eight payload bytes. `poison` bit `i` is the poison bit of 64-bit word `i` of the 256-byte aligned
block that holds the range (R268), and `sbe` and `dbe` bit `i` say that its check bits show a single-bit or a double-bit
error at the destination NI. `vc` and `route` are the header's as injected: on its way a packet moves to the second virtual
channel of its class (R270). `hperr` bit `i` says that HPAR bit `i` does not fit the header, and `pperr` bit `i` that the
parity of payload word `i` of a control-class packet fails (R269). The last three are the model's own: `src` the NI that
injected it, `way` the bridges it is committed to (bit 0 its exit bridge, bit 1 its entry bridge, R273, R276), `adm` the
stops that had reserved exit space for it when they closed (R279). -/
structure Packet where
  op      : BitVec 4
  dst     : BitVec 8
  init    : BitVec 12
  txn     : BitVec 12
  stamp   : BitVec 24
  spec    : Bool
  addr    : BitVec 40
  len     : BitVec 8
  atomfn  : BitVec 3
  resp    : BitVec 3
  echo    : BitVec 24
  eventId : BitVec 16
  token   : BitVec 15
  tokV    : Bool
  channel : BitVec 7
  state   : BitVec 2
  data    : List Byte
  poison  : BitVec 32
  vc      : BitVec 2
  route   : BitVec 5
  sbe     : BitVec 32
  dbe     : BitVec 32
  hperr   : BitVec 4
  pperr   : BitVec 4
  src     : BitVec 8
  way     : BitVec 2
  adm     : List Nat
  deriving DecidableEq, Repr

/-- A packet with every field 0, from which the others are made. -/
def Packet.zero : Packet where
  op := 0
  dst := 0
  init := 0
  txn := 0
  stamp := 0
  spec := false
  addr := 0
  len := 0
  atomfn := 0
  resp := 0
  echo := 0
  eventId := 0
  token := 0
  tokV := false
  channel := 0
  state := 0
  data := []
  poison := 0
  vc := 0
  route := 0
  sbe := 0
  dbe := 0
  hperr := 0
  pperr := 0
  src := 0
  way := 0
  adm := []

/-- The OP fields of the header, bits [122:64] (R266). -/
def Packet.opFields (p : Packet) : Nat :=
  match p.op.toNat with
  | 4 => p.resp.toNat + p.echo.toNat * 2 ^ 3
  | 5 => p.resp.toNat + p.echo.toNat * 2 ^ 3
  | 6 => p.eventId.toNat + p.token.toNat * 2 ^ 16 + (if p.tokV then 2 ^ 31 else 0)
  | 7 => p.channel.toNat
  | 8 => p.token.toNat + p.state.toNat * 2 ^ 15
  | 9 => p.token.toNat
  | 10 => 0
  | _ => p.addr.toNat + p.len.toNat * 2 ^ 40 + p.atomfn.toNat * 2 ^ 48

/-- Header bits [127:0] (R266). -/
def Packet.header (p : Packet) : BitVec 128 :=
  BitVec.ofNat 128 (p.op.toNat + p.vc.toNat * 2 ^ 4 + p.dst.toNat * 2 ^ 6 + p.init.toNat * 2 ^ 14 + p.txn.toNat * 2 ^ 26 +
    p.stamp.toNat * 2 ^ 38 + (if p.spec then 2 ^ 62 else 0) + p.opFields * 2 ^ 64 + p.route.toNat * 2 ^ 123)

/-- Even parity of a word. -/
def parity32 (w : Nat) : Bool := (List.range 32).foldl (fun x i => x != w.testBit i) false

/-- HPAR as the source NI makes it: bit `i` is the even parity of header bits [32*i + 31 : 32*i] (R266). -/
def Packet.hpar (p : Packet) : BitVec 4 :=
  BitVec.ofNat 4 ((List.range 4).foldl (fun n i => n + (if parity32 (p.header.toNat >>> (32 * i)) then 2 ^ i else 0)) 0)

/-- HPAR as a router receives it. -/
def Packet.hparGot (p : Packet) : BitVec 4 := p.hpar ^^^ p.hperr

/-- A frame of the twin link: the payload of R429, with whether its frame check sequence is good. -/
structure TwinFrame where
  fcsOk   : Bool
  typ     : Byte
  pos     : Bool
  hold    : Bool
  halt    : Bool
  standby : Bool
  seq     : BitVec 16
  ttx     : Word
  peerTx  : Word
  peerRx  : Word
  health  : BitVec 16
  locked  : Bool
  druses  : Word
  data    : List Byte
  deriving DecidableEq, Repr

end Sys2Proof
end

