-- ==== Sys2Proof/Syntax.lean ====
section
/-!
DEFINITION. The commands of the device: one constructor for each row of opcode_table.json, in its order.
An instruction row of a signal core carries the core `c` that issues it and every operand field of its format
(R85, R87, R117, R141) that does not select the row, so that the fields a format wants 0 are there to be checked. An
event row carries the unit it concerns and what comes from outside (a frame, image bytes, a measurement).
-/

namespace Sys2Proof

/-- The commands. -/
inductive Instr where
  /-- REGISTER_WRITE (R3): A write to a register that has no row of its own sets each field under its access type, with RWL fields handled under R6. -/
  | registerWrite (init : BitVec 12) (a : BitVec 28) (v : BitVec 32)
  /-- POWER_ON_RESET (R70): PORST_N held low for 1 µs, or a monitored rail falling, resets everything except fuses; fuses are read, repair is applied and the start sequence begins. -/
  | powerOnReset (straps : BitVec 4)
  /-- WARM_RESET (R70): WARMRST_N held low for 1 µs returns every non-RWS, non-RWL field to reset, discards all work in flight and runs the warm start of R358. -/
  | warmReset
  /-- GLOBAL_RST (R423): A write of 0x5A5A to GLOBAL_RST issues a warm reset from the reset logic, without the keystone. -/
  | globalRst (v : BitVec 32)
  /-- CONTROL_MEMORY_CLEARED (R287): Hardware finishes writing every control memory word as 0 with valid check bits, and Memory_Active becomes 1. -/
  | controlMemoryCleared
  /-- START_PLL_LOCK (R355): The PLLs lock, the hub die reaches 2.00 GHz and the compute dies reach P7, with every core held in core reset. -/
  | startPllLock
  /-- IMAGE_PASS_1 (R355): The header is read and checked, the whole copy is digested, and the key, signature and SECVER are checked. -/
  | imagePass1 (img : List Byte) (readOk : Bool)
  /-- IMAGE_PASS_2 (R356): The copy is read again, digested and compared with pass 1, and its sections are applied in order. -/
  | imagePass2 (img : List Byte) (readOk : Bool)
  /-- READY (R359): Firmware's write of 1 to BOOT_FW_READY.READY moves the device to Live. -/
  | ready (v : BitVec 32)
  /-- FW_TMO_EXPIRY (R359): FW_TMO ms after the cores are released, the device enters Live, sets FW_LATE and writes a fault record. -/
  | fwTmoExpiry
  /-- ADVANCE (R360): A write of ADVANCE = 1 with KEY = 0xA5 starts programming the rollback fuses up to the loaded SECVER. -/
  | advance (v : BitVec 32)
  /-- ROLLBACK_PROGRAMMED (R360): Rollback fuse programming ends and ADV_BUSY clears. -/
  | rollbackProgrammed
  /-- FLASH_GO (R346): A write of BOOT_FL_CTRL.GO issues a flash command through the host's flash window, or is discarded after SEAL unless FL_HOST = 1. -/
  | flashGo (v : BitVec 32)
  /-- FLASH_COMMAND_DONE (R346): A flash command issued through the window completes and BUSY clears. -/
  | flashCommandDone (data : List Byte)
  /-- CELL_ACTIVATE (R364): A DARK cell passes the capacity check and becomes WARMING. -/
  | cellActivate (fw : Bool)
  /-- CELL_DEACTIVATE (R364): A WARMING or LIVE cell becomes DRAINING. -/
  | cellDeactivate (fw : Bool)
  /-- CELL_MODIFY (R364): The descriptor of a DARK cell is replaced. -/
  | cellModify (fw : Bool)
  /-- CELL_READY (R364): Firmware moves a WARMING cell to LIVE. -/
  | cellReady (fw : Bool)
  /-- CELL_DRAINED (R364): Firmware moves a DRAINING cell to DARK. -/
  | cellDrained (fw : Bool)
  /-- MCELL_PARAM (R364): Sets NMAX and CAND of a moving cell, after the capacity check when NMAX is raised. -/
  | mcellParam (fw : Bool)
  /-- MCELL_ANCHOR (R362): Sets the anchor train and modem of a moving cell. -/
  | mcellAnchor (fw : Bool)
  /-- TRAIN_REGISTER (R362): Registers a train record with VALID = 1 and INIT = 0. -/
  | trainRegister (fw : Bool)
  /-- TRAIN_RELEASE (R364): Releases a registered train. -/
  | trainRelease (fw : Bool)
  /-- TRAIN_MODEM (R362): Rewrites one modem's words of a train record. -/
  | trainModem (fw : Bool)
  /-- TRACK_VERTICES (R363): Writes one to four vertex records, checked against the track as it would stand afterwards. -/
  | trackVertices (fw : Bool)
  /-- TRACK_DIR (R363): Writes one track directory word. -/
  | trackDir (fw : Bool)
  /-- RP_SET (R364): Writes a radio point record. -/
  | rpSet (fw : Bool)
  /-- MGMT_COMPLETION (R366): The queue manager pushes a command's completion once its completion queue has room, waiting with CPL_WAIT set while it is full. -/
  | mgmtCompletion
  /-- RELOCK (R35): A write of 1 to TIME_REF_CFG.RELOCK makes the PLL leave holdover if the reference is good. -/
  | relock
  /-- REF_SOURCE_SWITCH (R33): A write of TIME_REF_CFG.SRC or FREQ switches the time PLL's reference without losing a tick. -/
  | refSourceSwitch (v : BitVec 32)
  /-- REF_LOST (R34): A missing edge or an out-of-range frequency on the selected reference puts the time PLL into holdover. -/
  | refLost
  /-- REF_GOOD (R35): A reference within range for 100 ms counts as good again, and the PLL leaves holdover by slewing when HOLD_EXIT_AUTO = 1. -/
  | refGood
  /-- RATE (R36): A write of TIME_TB_RATE sets a timebase's rate offset, clamped to ±1,000 ppm, or is discarded under the twin lock. -/
  | rate (k : BitVec 3) (v : BitVec 32)
  /-- STEP_GO (R37): A write of STEP_GO latches the step registers and sets STEP_PENDING, or is discarded with STEP_LOST while a step is pending. -/
  | stepGo (k : BitVec 3)
  /-- STEP_APPLY (R37): The timebase adds the latched step on its next whole nanosecond, records STEP_AT, clears STEP_PENDING and sets STEPPED. -/
  | stepApply (k : BitVec 3)
  /-- TIMEBASE_VALUE_WRITE (R38): A write of TIME_TB_NS or TIME_TB_FRAC sets a stopped timebase's value; a FRAC write also clears the 8 unreadable bits. -/
  | timebaseValueWrite (k : BitVec 3) (frac : Bool) (v : BitVec 32)
  /-- MASK (R40): A write of TIME_SNAP.MASK copies the selected timebases into their snapshot registers on one tick. -/
  | mask (v : BitVec 8)
  /-- ARM (R48): A write of TIME_CMP_CFG.ARM loads the staged compare values into the live comparator, or is refused with BAD_CFG. -/
  | arm (k : BitVec 6)
  /-- COMPARE_FIRE (R47): A compare unit fires when its timebase crosses the live compare value, sends to its destination, then disarms or advances. -/
  | compareFire (k : BitVec 6)
  /-- PULSE_WIDTH_END (R54): A SYSREF or 1PPS output goes low after WIDTH ticks. -/
  | pulseWidthEnd (k : PulseEnd)
  /-- CAPTURE (R55): A capture unit latches its timebase and TB0 on its source edge and sends an event, or discards the capture with OVR while VALID = 1. -/
  | capture (j : BitVec 5) (src : BitVec 7) (rising : Bool)
  /-- PPS_INPUT_PERIOD (R426): A 1PPS input period is measured and judged, which may set its polarity or raise PPS_BAD. -/
  | ppsInputPeriod (i : BitVec 1) (high low : BitVec 32)
  /-- TXTS_POP (R62): Removes the head of a port's transmit timestamp FIFO. -/
  | txtsPop (p : BitVec 6)
  /-- EPOCH_TB (R63): A write of TIME_PTP_EPOCH_TB commits the new epoch for one-step Sync. -/
  | epochTb (p : BitVec 6) (v : BitVec 32)
  /-- ADD (R88): Integer add of two registers. -/
  | add (c : BitVec 8) (rd rs1 rs2 : BitVec 5)
  /-- SUB (R88): Integer subtract. -/
  | sub (c : BitVec 8) (rd rs1 rs2 : BitVec 5)
  /-- AND (R88): Bitwise AND. -/
  | and (c : BitVec 8) (rd rs1 rs2 : BitVec 5)
  /-- OR (R88): Bitwise OR. -/
  | or (c : BitVec 8) (rd rs1 rs2 : BitVec 5)
  /-- XOR (R88): Bitwise XOR. -/
  | xor (c : BitVec 8) (rd rs1 rs2 : BitVec 5)
  /-- SLL (R88): Logical shift left by rs2[5:0]. -/
  | sll (c : BitVec 8) (rd rs1 rs2 : BitVec 5)
  /-- SRL (R88): Logical shift right. -/
  | srl (c : BitVec 8) (rd rs1 rs2 : BitVec 5)
  /-- SRA (R88): Arithmetic shift right. -/
  | sra (c : BitVec 8) (rd rs1 rs2 : BitVec 5)
  /-- SLT (R88): Signed set-less-than. -/
  | slt (c : BitVec 8) (rd rs1 rs2 : BitVec 5)
  /-- SLTU (R88): Unsigned set-less-than. -/
  | sltu (c : BitVec 8) (rd rs1 rs2 : BitVec 5)
  /-- MIN (R88): Signed minimum. -/
  | min (c : BitVec 8) (rd rs1 rs2 : BitVec 5)
  /-- MAX (R88): Signed maximum. -/
  | max (c : BitVec 8) (rd rs1 rs2 : BitVec 5)
  /-- MINU (R88): Unsigned minimum. -/
  | minu (c : BitVec 8) (rd rs1 rs2 : BitVec 5)
  /-- MAXU (R88): Unsigned maximum. -/
  | maxu (c : BitVec 8) (rd rs1 rs2 : BitVec 5)
  /-- MUL (R88): Low 64 bits of the product. -/
  | mul (c : BitVec 8) (rd rs1 rs2 : BitVec 5)
  /-- MULH (R88): High 64 bits of the signed product. -/
  | mulh (c : BitVec 8) (rd rs1 rs2 : BitVec 5)
  /-- MULHU (R88): High 64 bits of the unsigned product. -/
  | mulhu (c : BitVec 8) (rd rs1 rs2 : BitVec 5)
  /-- CLZ (R88): Leading-zero count. -/
  | clz (c : BitVec 8) (rd rs1 rs2 : BitVec 5)
  /-- POPC (R88): Population count. -/
  | popc (c : BitVec 8) (rd rs1 rs2 : BitVec 5)
  /-- ABS (R88): Absolute value. -/
  | abs (c : BitVec 8) (rd rs1 rs2 : BitVec 5)
  /-- ADDW (R88): 32-bit add, sign-extended. -/
  | addw (c : BitVec 8) (rd rs1 rs2 : BitVec 5)
  /-- SUBW (R88): 32-bit subtract, sign-extended. -/
  | subw (c : BitVec 8) (rd rs1 rs2 : BitVec 5)
  /-- ANDW (R88): 32-bit AND, sign-extended. -/
  | andw (c : BitVec 8) (rd rs1 rs2 : BitVec 5)
  /-- ORW (R88): 32-bit OR, sign-extended. -/
  | orw (c : BitVec 8) (rd rs1 rs2 : BitVec 5)
  /-- XORW (R88): 32-bit XOR, sign-extended. -/
  | xorw (c : BitVec 8) (rd rs1 rs2 : BitVec 5)
  /-- SLLW (R88): 32-bit shift left, sign-extended. -/
  | sllw (c : BitVec 8) (rd rs1 rs2 : BitVec 5)
  /-- SRLW (R88): 32-bit logical shift right, sign-extended. -/
  | srlw (c : BitVec 8) (rd rs1 rs2 : BitVec 5)
  /-- SRAW (R88): 32-bit arithmetic shift right, sign-extended. -/
  | sraw (c : BitVec 8) (rd rs1 rs2 : BitVec 5)
  /-- MULW (R88): 32-bit multiply, sign-extended. -/
  | mulw (c : BitVec 8) (rd rs1 rs2 : BitVec 5)
  /-- ADDI (R88): Add a sign-extended immediate. -/
  | addi (c : BitVec 8) (rd rs1 : BitVec 5) (imm : BitVec 16)
  /-- ANDI (R88): AND with a zero-extended immediate. -/
  | andi (c : BitVec 8) (rd rs1 : BitVec 5) (imm : BitVec 16)
  /-- ORI (R88): OR with a zero-extended immediate. -/
  | ori (c : BitVec 8) (rd rs1 : BitVec 5) (imm : BitVec 16)
  /-- XORI (R88): XOR with a zero-extended immediate. -/
  | xori (c : BitVec 8) (rd rs1 : BitVec 5) (imm : BitVec 16)
  /-- SLTI (R88): Signed compare with an immediate. -/
  | slti (c : BitVec 8) (rd rs1 : BitVec 5) (imm : BitVec 16)
  /-- SLTIU (R88): Unsigned compare with a sign-extended immediate. -/
  | sltiu (c : BitVec 8) (rd rs1 : BitVec 5) (imm : BitVec 16)
  /-- SLLI (R88): Shift left by an immediate. -/
  | slli (c : BitVec 8) (rd rs1 : BitVec 5) (hi : BitVec 8) (sh : BitVec 6)
  /-- SRLI (R88): Logical shift right by an immediate. -/
  | srli (c : BitVec 8) (rd rs1 : BitVec 5) (hi : BitVec 8) (sh : BitVec 6)
  /-- SRAI (R88): Arithmetic shift right by an immediate. -/
  | srai (c : BitVec 8) (rd rs1 : BitVec 5) (hi : BitVec 8) (sh : BitVec 6)
  /-- LUI (R88): Load a sign-extended immediate shifted left by 16. -/
  | lui (c : BitVec 8) (rd rs1 : BitVec 5) (imm : BitVec 16)
  /-- ADDIW (R88): 32-bit add of an immediate, sign-extended. -/
  | addiw (c : BitVec 8) (rd rs1 : BitVec 5) (imm : BitVec 16)
  /-- LB (R88): Load a byte, sign-extended. -/
  | lb (c : BitVec 8) (rt base : BitVec 5) (off : BitVec 16)
  /-- LBU (R88): Load a byte, zero-extended. -/
  | lbu (c : BitVec 8) (rt base : BitVec 5) (off : BitVec 16)
  /-- LH (R88): Load 2 bytes, sign-extended. -/
  | lh (c : BitVec 8) (rt base : BitVec 5) (off : BitVec 16)
  /-- LHU (R88): Load 2 bytes, zero-extended. -/
  | lhu (c : BitVec 8) (rt base : BitVec 5) (off : BitVec 16)
  /-- LW (R88): Load 4 bytes, sign-extended. -/
  | lw (c : BitVec 8) (rt base : BitVec 5) (off : BitVec 16)
  /-- LWU (R88): Load 4 bytes, zero-extended. -/
  | lwu (c : BitVec 8) (rt base : BitVec 5) (off : BitVec 16)
  /-- LD (R88): Load 8 bytes. -/
  | ld (c : BitVec 8) (rt base : BitVec 5) (off : BitVec 16)
  /-- SB (R88): Store 1 byte, released at retirement. -/
  | sb (c : BitVec 8) (rt base : BitVec 5) (off : BitVec 16)
  /-- SH (R88): Store 2 bytes. -/
  | sh (c : BitVec 8) (rt base : BitVec 5) (off : BitVec 16)
  /-- SW (R88): Store 4 bytes. -/
  | sw (c : BitVec 8) (rt base : BitVec 5) (off : BitVec 16)
  /-- SD (R88): Store 8 bytes. -/
  | sd (c : BitVec 8) (rt base : BitVec 5) (off : BitVec 16)
  /-- SWAPD (R88): Atomic swap on 8 bytes. -/
  | swapd (c : BitVec 8) (rd rs1 rs2 : BitVec 5)
  /-- ADDD (R88): Atomic add on 8 bytes. -/
  | addd (c : BitVec 8) (rd rs1 rs2 : BitVec 5)
  /-- ANDD (R88): Atomic AND on 8 bytes. -/
  | andd (c : BitVec 8) (rd rs1 rs2 : BitVec 5)
  /-- ORD (R88): Atomic OR on 8 bytes. -/
  | ord (c : BitVec 8) (rd rs1 rs2 : BitVec 5)
  /-- MAXD (R88): Atomic signed maximum on 8 bytes. -/
  | maxd (c : BitVec 8) (rd rs1 rs2 : BitVec 5)
  /-- BEQ (R88): Branch if equal. -/
  | beq (c : BitVec 8) (rs1 rs2 : BitVec 5) (off : BitVec 16)
  /-- BNE (R88): Branch if not equal. -/
  | bne (c : BitVec 8) (rs1 rs2 : BitVec 5) (off : BitVec 16)
  /-- BLT (R88): Branch if less than, signed. -/
  | blt (c : BitVec 8) (rs1 rs2 : BitVec 5) (off : BitVec 16)
  /-- BGE (R88): Branch if greater or equal, signed. -/
  | bge (c : BitVec 8) (rs1 rs2 : BitVec 5) (off : BitVec 16)
  /-- BLTU (R88): Branch if less than, unsigned. -/
  | bltu (c : BitVec 8) (rs1 rs2 : BitVec 5) (off : BitVec 16)
  /-- BGEU (R88): Branch if greater or equal, unsigned. -/
  | bgeu (c : BitVec 8) (rs1 rs2 : BitVec 5) (off : BitVec 16)
  /-- J (R88): PC-relative jump. -/
  | j (c : BitVec 8) (off : BitVec 26)
  /-- JAL (R88): Jump and link into g31. -/
  | jal (c : BitVec 8) (off : BitVec 26)
  /-- JALR (R88): Register-indirect jump and link. -/
  | jalr (c : BitVec 8) (rd rs1 : BitVec 5) (imm : BitVec 16)
  /-- MFCR (R113): Reads a control register. -/
  | mfcr (c : BitVec 8) (rd rs1 : BitVec 5) (cr : BitVec 12)
  /-- MTCR (R113): Writes a control register, effective for the next instruction. -/
  | mtcr (c : BitVec 8) (rd rs1 : BitVec 5) (cr : BitVec 12)
  /-- FENCE (R101): Orders memory accesses; retires when earlier accesses and ILV operations are done. -/
  | fence (c : BitVec 8) (rd rs1 : BitVec 5) (cr : BitVec 12)
  /-- TRET (R108): Returns from a trap to TPC and the previous mode. -/
  | tret (c : BitVec 8) (rd rs1 : BitVec 5) (cr : BitVec 12)
  /-- BRK (R110): Raises DEBUG, or halts the core for JTAG when BRK_TRAP = 0. -/
  | brk (c : BitVec 8) (rd rs1 : BitVec 5) (cr : BitVec 12)
  /-- PREFETCH_RETURN (R99): A prefetch's response fills its prefetch buffer entry, or is discarded if it carries an error. -/
  | prefetchReturn (p : Packet)
  /-- PREFETCH_BUFFER_EXPIRY (R97): 512 cycles after a run-ahead exit, the prefetch buffer is emptied. -/
  | prefetchBufferExpiry (c : BitVec 8)
  /-- VCLAIM (R120): Sets VCOUNT from a requested count and returns it. -/
  | vclaim (c : BitVec 8) (rd rs1 z : BitVec 5) (mode : BitVec 9)
  /-- VSETCLAIM (R121): Writes VMODE[8:0], recomputes VILL and performs VCLAIM. -/
  | vsetclaim (c : BitVec 8) (rd rs1 z : BitVec 5) (mode : BitVec 9)
  /-- VADD (R129): Vector add. -/
  | vadd (c : BitVec 8) (sc : Bool) (vd vs1 vs2 : BitVec 5) (men : Bool) (m : BitVec 3)
  /-- VSUB (R129): Vector subtract. -/
  | vsub (c : BitVec 8) (sc : Bool) (vd vs1 vs2 : BitVec 5) (men : Bool) (m : BitVec 3)
  /-- VMIN (R129): Vector minimum. -/
  | vmin (c : BitVec 8) (sc : Bool) (vd vs1 vs2 : BitVec 5) (men : Bool) (m : BitVec 3)
  /-- VMAX (R129): Vector maximum. -/
  | vmax (c : BitVec 8) (sc : Bool) (vd vs1 vs2 : BitVec 5) (men : Bool) (m : BitVec 3)
  /-- VAND (R129): Vector bitwise AND. -/
  | vand (c : BitVec 8) (sc : Bool) (vd vs1 vs2 : BitVec 5) (men : Bool) (m : BitVec 3)
  /-- VOR (R129): Vector bitwise OR. -/
  | vor (c : BitVec 8) (sc : Bool) (vd vs1 vs2 : BitVec 5) (men : Bool) (m : BitVec 3)
  /-- VXOR (R129): Vector bitwise XOR. -/
  | vxor (c : BitVec 8) (sc : Bool) (vd vs1 vs2 : BitVec 5) (men : Bool) (m : BitVec 3)
  /-- VSLL (R129): Vector shift left with fin. -/
  | vsll (c : BitVec 8) (sc : Bool) (vd vs1 vs2 : BitVec 5) (men : Bool) (m : BitVec 3)
  /-- VSRL (R129): Vector logical shift right. -/
  | vsrl (c : BitVec 8) (sc : Bool) (vd vs1 vs2 : BitVec 5) (men : Bool) (m : BitVec 3)
  /-- VSRA (R129): Vector arithmetic shift right. -/
  | vsra (c : BitVec 8) (sc : Bool) (vd vs1 vs2 : BitVec 5) (men : Bool) (m : BitVec 3)
  /-- VSRAR (R129): Vector shift right with rounding. -/
  | vsrar (c : BitVec 8) (sc : Bool) (vd vs1 vs2 : BitVec 5) (men : Bool) (m : BitVec 3)
  /-- VABS (R129): Vector absolute value. -/
  | vabs (c : BitVec 8) (sc : Bool) (vd vs1 vs2 : BitVec 5) (men : Bool) (m : BitVec 3)
  /-- VNEG (R129): Vector negation. -/
  | vneg (c : BitVec 8) (sc : Bool) (vd vs1 vs2 : BitVec 5) (men : Bool) (m : BitVec 3)
  /-- VCONJ (R129): Vector complex conjugate. -/
  | vconj (c : BitVec 8) (sc : Bool) (vd vs1 vs2 : BitVec 5) (men : Bool) (m : BitVec 3)
  /-- VMUL (R129): Vector multiply. -/
  | vmul (c : BitVec 8) (sc : Bool) (vd vs1 vs2 : BitVec 5) (men : Bool) (m : BitVec 3)
  /-- VMULC (R129): Vector multiply by a conjugate. -/
  | vmulc (c : BitVec 8) (sc : Bool) (vd vs1 vs2 : BitVec 5) (men : Bool) (m : BitVec 3)
  /-- VMAC (R129): Vector multiply-accumulate. -/
  | vmac (c : BitVec 8) (sc : Bool) (vd vs1 vs2 : BitVec 5) (men : Bool) (m : BitVec 3)
  /-- VMACC (R129): Vector conjugate multiply-accumulate. -/
  | vmacc (c : BitVec 8) (sc : Bool) (vd vs1 vs2 : BitVec 5) (men : Bool) (m : BitVec 3)
  /-- VMSUB (R129): Vector multiply-subtract. -/
  | vmsub (c : BitVec 8) (sc : Bool) (vd vs1 vs2 : BitVec 5) (men : Bool) (m : BitVec 3)
  /-- VWADD (R129): Widening vector sum. -/
  | vwadd (c : BitVec 8) (sc : Bool) (vd vs1 vs2 : BitVec 5) (men : Bool) (m : BitVec 3)
  /-- VWMUL (R129): Widening vector product. -/
  | vwmul (c : BitVec 8) (sc : Bool) (vd vs1 vs2 : BitVec 5) (men : Bool) (m : BitVec 3)
  /-- VWMULC (R129): Widening conjugate product. -/
  | vwmulc (c : BitVec 8) (sc : Bool) (vd vs1 vs2 : BitVec 5) (men : Bool) (m : BitVec 3)
  /-- VWMAC (R129): Widening multiply-accumulate. -/
  | vwmac (c : BitVec 8) (sc : Bool) (vd vs1 vs2 : BitVec 5) (men : Bool) (m : BitVec 3)
  /-- VWMACC (R129): Widening conjugate multiply-accumulate. -/
  | vwmacc (c : BitVec 8) (sc : Bool) (vd vs1 vs2 : BitVec 5) (men : Bool) (m : BitVec 3)
  /-- VPOW (R129): Complex power as Q31. -/
  | vpow (c : BitVec 8) (sc : Bool) (vd vs1 vs2 : BitVec 5) (men : Bool) (m : BitVec 3)
  /-- VNARROW (R129): Narrowing shift by a scalar amount. -/
  | vnarrow (c : BitVec 8) (sc : Bool) (vd vs1 vs2 : BitVec 5) (men : Bool) (m : BitVec 3)
  /-- VCVT (R127): Type conversion between fixed and float types. -/
  | vcvt (c : BitVec 8) (sc : Bool) (vd vs1 vs2 : BitVec 5) (men : Bool) (m : BitVec 3)
  /-- VADDI (R130): Vector add of an immediate. -/
  | vaddi (c : BitVec 8) (vd vs1 : BitVec 5) (imm : BitVec 8) (men : Bool) (m : BitVec 3)
  /-- VSLLI (R130): Vector shift left by an immediate. -/
  | vslli (c : BitVec 8) (vd vs1 : BitVec 5) (imm : BitVec 8) (men : Bool) (m : BitVec 3)
  /-- VSRLI (R130): Vector logical shift right by an immediate. -/
  | vsrli (c : BitVec 8) (vd vs1 : BitVec 5) (imm : BitVec 8) (men : Bool) (m : BitVec 3)
  /-- VSRAI (R130): Vector arithmetic shift right by an immediate. -/
  | vsrai (c : BitVec 8) (vd vs1 : BitVec 5) (imm : BitVec 8) (men : Bool) (m : BitVec 3)
  /-- VSRARI (R130): Vector rounding shift right by an immediate. -/
  | vsrari (c : BitVec 8) (vd vs1 : BitVec 5) (imm : BitVec 8) (men : Bool) (m : BitVec 3)
  /-- VNARROWI (R130): Narrowing by an immediate shift. -/
  | vnarrowi (c : BitVec 8) (vd vs1 : BitVec 5) (imm : BitVec 8) (men : Bool) (m : BitVec 3)
  /-- VSPLATI (R130): Splats an immediate into active elements. -/
  | vsplati (c : BitVec 8) (vd vs1 : BitVec 5) (imm : BitVec 8) (men : Bool) (m : BitVec 3)
  /-- VREDSUM (R131): Sum reduction into element 0. -/
  | vredsum (c : BitVec 8) (d s1 s2 : BitVec 5) (men : Bool) (m : BitVec 3)
  /-- VREDMAX (R131): Maximum reduction. -/
  | vredmax (c : BitVec 8) (d s1 s2 : BitVec 5) (men : Bool) (m : BitVec 3)
  /-- VREDMIN (R131): Minimum reduction. -/
  | vredmin (c : BitVec 8) (d s1 s2 : BitVec 5) (men : Bool) (m : BitVec 3)
  /-- VEXT (R131): Extracts one element to a g register. -/
  | vext (c : BitVec 8) (d s1 s2 : BitVec 5) (men : Bool) (m : BitVec 3)
  /-- VINS (R131): Inserts a g register into one element. -/
  | vins (c : BitVec 8) (d s1 s2 : BitVec 5) (men : Bool) (m : BitVec 3)
  /-- VSPLAT (R131): Splats a g register into active elements. -/
  | vsplat (c : BitVec 8) (d s1 s2 : BitVec 5) (men : Bool) (m : BitVec 3)
  /-- VSLIDEUP (R131): Slides elements up. -/
  | vslideup (c : BitVec 8) (d s1 s2 : BitVec 5) (men : Bool) (m : BitVec 3)
  /-- VSLIDEDN (R131): Slides elements down. -/
  | vslidedn (c : BitVec 8) (d s1 s2 : BitVec 5) (men : Bool) (m : BitVec 3)
  /-- VPERM (R131): Permutes elements by index. -/
  | vperm (c : BitVec 8) (d s1 s2 : BitVec 5) (men : Bool) (m : BitVec 3)
  /-- VMV (R131): Moves active elements. -/
  | vmv (c : BitVec 8) (d s1 s2 : BitVec 5) (men : Bool) (m : BitVec 3)
  /-- VSEL (R131): Selects elements by mask. -/
  | vsel (c : BitVec 8) (d s1 s2 : BitVec 5) (men : Bool) (m : BitVec 3)
  /-- VCMPEQ (R131): Compares for equality into a mask. -/
  | vcmpeq (c : BitVec 8) (d s1 s2 : BitVec 5) (men : Bool) (m : BitVec 3)
  /-- VCMPLT (R131): Compares less-than into a mask. -/
  | vcmplt (c : BitVec 8) (d s1 s2 : BitVec 5) (men : Bool) (m : BitVec 3)
  /-- VCMPLE (R131): Compares less-or-equal into a mask. -/
  | vcmple (c : BitVec 8) (d s1 s2 : BitVec 5) (men : Bool) (m : BitVec 3)
  /-- VMAND (R131): Mask AND. -/
  | vmand (c : BitVec 8) (d s1 s2 : BitVec 5) (men : Bool) (m : BitVec 3)
  /-- VMOR (R131): Mask OR. -/
  | vmor (c : BitVec 8) (d s1 s2 : BitVec 5) (men : Bool) (m : BitVec 3)
  /-- VMXOR (R131): Mask XOR. -/
  | vmxor (c : BitVec 8) (d s1 s2 : BitVec 5) (men : Bool) (m : BitVec 3)
  /-- VMANDN (R131): Mask AND NOT. -/
  | vmandn (c : BitVec 8) (d s1 s2 : BitVec 5) (men : Bool) (m : BitVec 3)
  /-- VMPOPC (R131): Counts set mask bits below VCOUNT. -/
  | vmpopc (c : BitVec 8) (d s1 s2 : BitVec 5) (men : Bool) (m : BitVec 3)
  /-- VMFIRST (R131): Finds the lowest set mask bit below VCOUNT. -/
  | vmfirst (c : BitVec 8) (d s1 s2 : BitVec 5) (men : Bool) (m : BitVec 3)
  /-- VLD (R136): Vector load in unit-stride, strided, indexed or mask mode, stopping at the first faulting element and setting VRESUME. -/
  | vld (c : BitVec 8) (vt base s2 : BitVec 5) (men : Bool) (m : BitVec 3) (mode : BitVec 2) (z : BitVec 5)
  /-- VST (R138): Vector store: checks every active element, then releases them at retirement. -/
  | vst (c : BitVec 8) (vt base s2 : BitVec 5) (men : Bool) (m : BitVec 3) (mode : BitVec 2) (z : BitVec 5)
  /-- CCORR (R144): Complex cross-correlation over NLAG lags. -/
  | ccorr (c : BitVec 8) (d s1 s2 : BitVec 5) (param : BitVec 7)
  /-- CDESP (R144): Despreading by a sign sequence. -/
  | cdesp (c : BitVec 8) (d s1 s2 : BitVec 5) (param : BitVec 7)
  /-- CPEAK (R144): Finds the lag of peak power. -/
  | cpeak (c : BitVec 8) (d s1 s2 : BitVec 5) (param : BitVec 7)
  /-- LGINIT (R146): Initialises the Gold generator from c_init. -/
  | lginit (c : BitVec 8) (d s1 s2 : BitVec 5) (param : BitVec 7)
  /-- LGEN (R145): Generates up to 64 Gold bits into a g register. -/
  | lgen (c : BitVec 8) (d s1 s2 : BitVec 5) (param : BitVec 7)
  /-- LGENV (R145): Generates 4,096 Gold bits into a vector register. -/
  | lgenv (c : BitVec 8) (d s1 s2 : BitVec 5) (param : BitVec 7)
  /-- LCRCINIT (R145): Sets the CRC polynomial and initial register. -/
  | lcrcinit (c : BitVec 8) (d s1 s2 : BitVec 5) (param : BitVec 7)
  /-- LCRCG (R147): Feeds bits of a g register into the CRC. -/
  | lcrcg (c : BitVec 8) (d s1 s2 : BitVec 5) (param : BitVec 7)
  /-- LCRCV (R145): Feeds bits of a vector register into the CRC. -/
  | lcrcv (c : BitVec 8) (d s1 s2 : BitVec 5) (param : BitVec 7)
  /-- LCRCRD (R145): Reads the CRC register. -/
  | lcrcrd (c : BitVec 8) (d s1 s2 : BitVec 5) (param : BitVec 7)
  /-- DEMAP (R148): Computes max-log LLRs for the modulation that func selects. -/
  | demap (c : BitVec 8) (func : BitVec 4) (d s1 s2 : BitVec 5) (param : BitVec 7)
  /-- ISEL (R149): Bit selection from the circular buffer. -/
  | isel (c : BitVec 8) (d s1 s2 : BitVec 5) (param : BitVec 7)
  /-- IBIL (R149): Bit interleaving. -/
  | ibil (c : BitVec 8) (d s1 s2 : BitVec 5) (param : BitVec 7)
  /-- IDIL (R149): Bit deinterleaving of LLRs. -/
  | idil (c : BitVec 8) (d s1 s2 : BitVec 5) (param : BitVec 7)
  /-- ICOMB (R149): Inverse bit selection with saturating combining. -/
  | icomb (c : BitVec 8) (d s1 s2 : BitVec 5) (param : BitVec 7)
  /-- FUSED_RESULT (R141): A CORR, LFSR or DEMAP result arrives in the result buffer, clears the scoreboard bit and is written after retirement. -/
  | fusedResult (c : BitVec 8) (unit : BitVec 2)
  /-- ILV_OPERATION_END (R152): An ILV operation completes its writes, or stops at a failing read with a deferred trap and discards the pending operation. -/
  | ilvOperationEnd (c : BitVec 8)
  /-- TDISPATCH (R211): Gives the requesting core the best eligible thread, waits, or returns NO_OBJECT. -/
  | tdispatch (c : BitVec 8) (rd rs1 rs2 : BitVec 5)
  /-- TDISPATCH_SERVED (R212): A waiting TDISPATCH is served once a thread becomes eligible. -/
  | tdispatchServed (s : BitVec 3)
  /-- TSPAWN (R210): Creates a READY thread in the lowest FREE slot. -/
  | tspawn (c : BitVec 8) (rd rs1 rs2 : BitVec 5)
  /-- TWAIT (R213): Puts the current thread on an event's wait list, or into READY if the event's pending bit is set. -/
  | twait (c : BitVec 8) (rd rs1 rs2 : BitVec 5)
  /-- TYIELD (R213): Moves the current thread to the tail of READY. -/
  | tyield (c : BitVec 8) (rd rs1 rs2 : BitVec 5)
  /-- TEXIT (R213): Frees the current thread. -/
  | texit (c : BitVec 8) (rd rs1 rs2 : BitVec 5)
  /-- TSETPRI (R217): Changes a thread's priority. -/
  | tsetpri (c : BitVec 8) (rd rs1 rs2 : BitVec 5)
  /-- TEVENT (R217): Sends an event with the current thread's token. -/
  | tevent (c : BitVec 8) (rd rs1 rs2 : BitVec 5)
  /-- FADMIT (R222): Admits an item to an ordered flow and returns its sequence number. -/
  | fadmit (c : BitVec 8) (rd rs1 rs2 : BitVec 5)
  /-- FRELEASE (R223): Releases an admitted item with its payload. -/
  | frelease (c : BitVec 8) (rd rs1 rs2 : BitVec 5)
  /-- FVOID (R223): Voids an admitted item. -/
  | fvoid (c : BitVec 8) (rd rs1 rs2 : BitVec 5)
  /-- TOPEN (R226): Opens the lowest free token with no free notice outstanding. -/
  | topen (c : BitVec 8) (rd rs1 rs2 : BitVec 5)
  /-- TCOMMIT (R226): Commits a token and broadcasts the notice. -/
  | tcommit (c : BitVec 8) (rd rs1 rs2 : BitVec 5)
  /-- TSQUASH (R226): Squashes a token and broadcasts the notice. -/
  | tsquash (c : BitVec 8) (rd rs1 rs2 : BitVec 5)
  /-- TFREE (R226): Frees a settled token and broadcasts the free notice. -/
  | tfree (c : BitVec 8) (rd rs1 rs2 : BitVec 5)
  /-- TSTATE (R217): Returns a token's state and SETTLED. -/
  | tstate (c : BitVec 8) (rd rs1 rs2 : BitVec 5)
  /-- TATTACH (R217): Attaches an OPEN token to the current thread, or detaches it. -/
  | tattach (c : BitVec 8) (rd rs1 rs2 : BitVec 5)
  /-- CTXSV (R220): Saves the core's context to a context block. -/
  | ctxsv (c : BitVec 8) (rd rs1 rs2 : BitVec 5)
  /-- CTXLD (R220): Restores the core's context from a context block, whole or not at all. -/
  | ctxld (c : BitVec 8) (rd rs1 rs2 : BitVec 5)
  /-- COMMIT (R226): SIEVE_TOK_CMD.COMMIT performs TCOMMIT of the selected token for the host. -/
  | commit (s : BitVec 3)
  /-- SQUASH (R226): SIEVE_TOK_CMD.SQUASH performs TSQUASH of the selected token. -/
  | squash (s : BitVec 3)
  /-- FREE (R226): SIEVE_TOK_CMD.FREE performs TFREE of the selected token. -/
  | free (s : BitVec 3)
  /-- SETTLE_INTERVAL_END (R228): SETTLE × 32 ns after the last of the 22 acknowledgements, the token's SETTLED becomes 1. -/
  | settleIntervalEnd (s : BitVec 3) (tok : BitVec 12)
  /-- FLOW_HEAD_ADVANCE (R223): Once per cycle, one flow head passes its VOID items and writes at most one RELEASED item to its output queue. -/
  | flowHeadAdvance (s : BitVec 3) (flow : BitVec 14)
  /-- FLOW_STALL (R224): A head item that has stayed ADMITTED for STALL_AGE µs raises one flow-stall event. -/
  | flowStall (s : BitVec 3) (flow : BitVec 14)
  /-- FLOW_ENABLE (R225): A write of SIEVE_FLOW_CFG.EN restarts the flow at sequence 0, or voids all its items when EN = 0. -/
  | flowEnable (s : BitVec 3) (v : BitVec 32)
  /-- IDLE_GATE (R221): The sieve gates its stratum's compute clock once every core waits and no work remains. -/
  | idleGate (s : BitVec 3)
  /-- DOORBELL_PRODUCE (R237): A doorbell with DIR = 0 admits COUNT entries, or is refused whole. -/
  | doorbellProduce (init : BitVec 12) (q : BitVec 18) (n : BitVec 21)
  /-- ENTRY_ADMISSION (R238): The queue manager reads an entry's metadata, decides its fate, writes STAMP and advances TAIL. -/
  | entryAdmission (q : BitVec 18)
  /-- DOORBELL_CONSUME (R241): A doorbell with DIR = 1 advances HEAD by COUNT, or is refused whole. -/
  | doorbellConsume (init : BitVec 12) (q : BitVec 18) (n : BitVec 21)
  /-- QMGR_TAKE (R241): A read of QMGR_TAKE passes void and squashed entries and returns HEAD with AVAIL and SPEC. -/
  | qmgrTake (init : BitVec 12) (q : BitVec 18)
  /-- HARDWARE_PUSH (R239): A hardware producer writes a whole entry at TAIL, or is not performed on a full or disabled queue. -/
  | hardwarePush (init : BitVec 12) (q : BitVec 18) (payload : List Byte) (tag : BitVec 16) (tok : Option (BitVec 15)) (stamp : Option (BitVec 32))
  /-- HARDWARE_CONSUME (R240): A hardware consumer passes void and squashed entries and takes the entry at HEAD. -/
  | hardwareConsume (n : BitVec 2) (slot : BitVec 4)
  /-- QUEUE_CFG_WRITE (R245): A write to a queue's window discards protected fields while enabled, or enables the queue if its geometry is valid. -/
  | queueCfgWrite (w : BitVec 3) (v : BitVec 32)
  /-- QUEUE_DISABLE (R245): A written EN = 0 takes effect once every accepted doorbell's admission has ended. -/
  | queueDisable (q : BitVec 18)
  /-- START (R251): MOVER_CH_CMD.START fetches the descriptor at the chain head and enters RUN. -/
  | start (k : BitVec 4) (ch : BitVec 7)
  /-- STOP (R251): MOVER_CH_CMD.STOP ends the chain at once or after the present descriptor. -/
  | stop (k : BitVec 4) (ch : BitVec 7)
  /-- RETRY (R257): Reruns, or refetches, the descriptor of a HALTED channel. -/
  | retry (k : BitVec 4) (ch : BitVec 7)
  /-- SKIP (R257): Marks a HALTED channel's descriptor BAD and continues. -/
  | skip (k : BitVec 4) (ch : BitVec 7)
  /-- SHADOW_ARM (R258): Sets SHADOW_VALID. -/
  | shadowArm (k : BitVec 4) (ch : BitVec 7)
  /-- SHADOW_WRITE (R258): A write of MOVER_CH_SHADOW_LO or HI sets the shadow head and clears SHADOW_VALID. -/
  | shadowWrite (k : BitVec 4) (ch : BitVec 7) (hi : Bool) (v : BitVec 32)
  /-- DESCRIPTOR_FETCHED (R252): A descriptor fetch returns; the channel applies the token and format checks, then waits for pacing or an eMark, or starts, or halts on a failed fetch. -/
  | descriptorFetched (k : BitVec 4) (ch : BitVec 7)
  /-- PACING_TEST (R253): A paused channel retests its queue's fill and resumes when the START condition holds. -/
  | pacingTest (k : BitVec 4) (ch : BitVec 7)
  /-- DESCRIPTOR_END (R250): A descriptor's last write is answered; the channel applies QADV, sends its completion and goes to the next boundary. -/
  | descriptorEnd (k : BitVec 4) (ch : BitVec 7)
  /-- DRAIN_PUSH (R254): A DRAIN channel's QADV push is performed once its queue is enabled and has room. -/
  | drainPush (k : BitVec 4) (ch : BitVec 7)
  /-- TRANSFER_FAILURE (R257): Once the writes already issued are answered after a failed read or write, the channel acts by its policy: MARK_SKIP or HALT_LATCH. -/
  | transferFailure (k : BitVec 4) (ch : BitVec 7)
  /-- RD (R285): A read request at its target is checked for parity and answered with data, POISON or an error. -/
  | rd (p : Packet)
  /-- WR (R286): A non-posted write at its target stores its bytes, poisoned words inverted, and is answered. -/
  | wr (p : Packet)
  /-- WRP (R265): A posted write at its target is stored and a DLVD is returned. -/
  | wrp (p : Packet)
  /-- ATOM (R88): An atomic at its target returns the old word and writes old op rs2, or answers POISON. -/
  | atom (p : Packet)
  /-- RDRSP (R278): A read or atomic response matched by TXN and ECHO completes the initiator's request, or is discarded as late. -/
  | rdrsp (p : Packet)
  /-- WRRSP (R100): A write response completes a non-posted write at its initiator. -/
  | wrrsp (p : Packet)
  /-- EVT (R215): An event packet at a sieve wakes its waiters, sets the pending bit, or is dropped by its token. -/
  | evt (p : Packet)
  /-- EMARK (R255): An eMark increments a channel's EMARKS and may start a descriptor waiting in EWAIT. -/
  | emark (p : Packet)
  /-- TOKN (R227): A commit or squash notice updates a receiver's mirror and acts on its work carrying the token. -/
  | tokn (p : Packet)
  /-- FREE_NOTICE (R229): A free notice returns the receiver's token mirror to OPEN and is acknowledged. -/
  | freeNotice (p : Packet)
  /-- TOKACK (R228): An acknowledgement of a token notice is counted by the issuing sieve. -/
  | tokack (p : Packet)
  /-- DLVD (R274): Delivery of a posted write releases the source NI's order hold, and may advance the fault ring or dump ring WR. -/
  | dlvd (p : Packet)
  /-- BAD_OP (R264): A packet with a reserved OP is dropped at the first stop that sees it. -/
  | badOp (p : Packet) (node : BitVec 8)
  /-- REQUEST_TIMEOUT (R278): A request's timer expires: TIMEOUT is synthesised, or a missing DLVD or TOKACK is counted. -/
  | requestTimeout (init txn : BitVec 12)
  /-- CLOSE (R279): A write of VEIN_STOP_CTRL.CLOSE closes or reopens a stop. -/
  | close (node : BitVec 8) (v : Bool)
  /-- CLR_CNT (R279): Clears VEIN_STOP_DROP. -/
  | clrCnt (node : BitVec 8)
  /-- DRAINED (R280): A closed stop with no packets, responses or requests outstanding sets DRAINED. -/
  | drained (node : BitVec 8)
  /-- PATROL_READ (R288): Every STEP × 32 ns, a patrol engine reads one granule, counts and records errors, and writes back corrections to control memory. -/
  | patrolRead (e : BitVec 3)
  /-- CLR (R290): A write of MEM_INIT_CLR clears MEM_INIT_DONE bits. -/
  | clr (n : BitVec 7) (v : BitVec 32)
  /-- SENTINEL_TRIP (R293): An armed retention sentinel latches a trip when its bank's supply falls below the hold level. -/
  | sentinelTrip (b : BankSupply)
  /-- RETENTION_SCAN_END (R294): The wake scan of a retention bank ends, and the bank is released as retained or marked lost. -/
  | retentionScanEnd (b : BitVec 4)
  /-- FRAME_RECEIVE (R306): A received frame is checked, classified against the rules, written to its slot with trailer and decompression, and pushed as an entry, or dropped. -/
  | frameReceive (p : BitVec 6) (frame : RxFrame) (fcsOk : Bool)
  /-- TX_TAIL_WRITE (R310): A write of FH_TX_TAIL hands new descriptors to a port. -/
  | txTailWrite (p : BitVec 6) (v : BitVec 32)
  /-- TX_DESCRIPTOR (R311): The port takes its head descriptor, refuses it, withholds it by the twin gate, or holds it until LAUNCH. -/
  | txDescriptor (p : BitVec 6)
  /-- LAUNCH (R311): At a held descriptor's LAUNCH, the frame's SFD block crosses the PCS. -/
  | launch (p : BitVec 6)
  /-- FRAME_TRANSMIT_END (R311): A frame's last byte crosses the PCS; the completion is sent and HEAD advances. -/
  | frameTransmitEnd (p : BitVec 6)
  /-- JESD_MULTIBLOCK (R315): A received extended multiblock is locked, checked by CRC-12 and released into the sample rings. -/
  | jesdMultiblock (j : BitVec 2) (crcOk : Bool) (samples : List (List (BitVec 32)))
  /-- JESD_RX_ENTRY (R316): After every 2^ENTRY_LOG multiblocks, the link pushes an entry to FH_JESD_RXQ. -/
  | jesdRxEntry (j : BitVec 2)
  /-- JESD_TX_START (R315): The transmitter starts at the first LEMC boundary after TX_EN = 1.
  Samples then go out (R316); a link that has started sends them as well. -/
  | jesdTxStart (j : JesdStart)
  /-- UNDERRUN (R316): The transmit path reaches TXLIM and sends zero samples, counting an underrun. -/
  | underrun (j : BitVec 2) (ch : BitVec 4)
  /-- CDR_ACQUISITION (R317): At CDR acquisition, adaptation chooses the CTLE setting. -/
  | cdrAcquisition (l : BitVec 6) (ctle : BitVec 4)
  /-- DFE_ADAPT_STEP (R317): Every 2^16 UI, the DFE taps take one sign-sign LMS step. -/
  | dfeAdaptStep (l : BitVec 6) (up down : BitVec 12)
  /-- BITSLIP (R321): Shifts the receive word boundary by one UI. -/
  | bitslip (l : BitVec 6)
  /-- SLIP_DONE (R321): SLIP_BUSY clears 16 receive words after a slip.
  Its count: blocks that came with a bad sync header. -/
  | slipDone (l : LaneCount)
  /-- INJECT (R319): Inverts one transmitted bit. -/
  | inject (l : BitVec 6)
  /-- CNT_CLR (R319): Clears the PRBS error counter and SH_BAD. -/
  | cntClr (l : BitVec 6)
  /-- LOSS_OF_SIGNAL (R322): Amplitude below 60 mV for 1 µs squelches the receiver and takes the port down. -/
  | lossOfSignal (l : BitVec 6)
  /-- SIGNAL_RECOVERED (R322): After 10 µs above 100 mV, the lane recovers by itself. -/
  | signalRecovered (l : BitVec 6)
  /-- SHORT_DETECT (R322): The driver's current limit holding for 100 ns parks the driver at electrical idle. -/
  | shortDetect (l : BitVec 6)
  /-- SHORT_RETRY (R322): 1 ms after parking, the driver retries. -/
  | shortRetry (l : BitVec 6)
  /-- POLARITY_TOGGLE (R322): A lane with CDR lock but no data lock toggles its receive inversion every 1 ms. -/
  | polarityToggle (l : BitVec 6)
  /-- LANE_MAP (R322): Alignment markers reveal a permuted lane order, and received lanes are remapped.
  Port 33 is the twin link. -/
  | laneMap (p : BitVec 6) (map : BitVec 24)
  /-- LINK_LOST (R300): A port's link goes down. -/
  | linkLost (p : BitVec 6)
  /-- BAR0_READ (R328): A host read of BAR0 is split into 4-byte register reads. -/
  | bar0Read (off : BitVec 28) (be : List Bool)
  /-- BAR0_WRITE (R328): A host write to BAR0 is split into non-posted 4-byte register writes. -/
  | bar0Write (off : BitVec 28) (data : List Byte) (be : List Bool)
  /-- DOORBELL_WRITE (R330): A host write to a BAR2 doorbell slot performs QMGR_DB of its queue, or is dropped. -/
  | doorbellWrite (off : BitVec 22) (data : List Byte)
  /-- DOORBELL_TAKE_READ (R329): A host read of a BAR2 slot at +4 performs QMGR_TAKE of its queue. -/
  | doorbellTakeRead (off : BitVec 22)
  /-- BAR4_READ (R449): A host read of BAR4 reads counters when PERF_ACCESS.USER = 1, or is refused. -/
  | bar4Read (off : BitVec 14)
  /-- MSIX_NOTIFICATION (R332): A block names an MSI-X vector, which is sent once earlier writes complete, or is left pending. -/
  | msixNotification (v : BitVec 16)
  /-- MSIX_PENDING_SEND (R332): A pending vector is sent once its mask and enable allow it, and its pending bit clears. -/
  | msixPendingSend (v : BitVec 11)
  /-- LINK_DOWN (R326): The CXL link leaving L0 abnormally resets the port's configuration, flushes the device cache and disables the host ranges. -/
  | linkDown
  /-- FUNCTION_LEVEL_RESET (R326): A Function Level Reset has the port effects of R326. -/
  | functionLevelReset
  /-- CXL_PERST (R464): CXL_PERST_N low holds the CXL port in reset as under R326. -/
  | cxlPerst
  /-- HDM_READ (R339): A host read of the HDM window is performed as a device read, with poison on failure. -/
  | hdmRead (off : BitVec 27)
  /-- HDM_WRITE (R339): A host write to the HDM window is performed as a device write. -/
  | hdmWrite (off : BitVec 27) (data : List Byte)
  /-- BACK_INVALIDATE_RESPONSE (R340): The host's response to BISnpData or BISnpInv lets the held device access proceed. -/
  | backInvalidateResponse (line : BitVec 40) (data : Option (List Byte))
  /-- HOST_SNOOP (R342): A host snoop of the device cache returns modified data or invalidates a line. -/
  | hostSnoop (line : BitVec 52) (inv : Bool)
  /-- DC_FLUSH (R342): Writes back and invalidates the device cache. -/
  | dcFlush
  /-- DC_FLUSH_DONE (R342): A device cache flush completes and DC_BUSY clears. -/
  | dcFlushDone
  /-- IDE_FAIL (R343): An IDE integrity failure tears the streams down, and R326 follows. -/
  | ideFail
  /-- TARGET (R371): A write of PWR_DIE_REQ.TARGET starts stepping a die toward its requested P-level. -/
  | target (n : BitVec 2) (v : BitVec 3)
  /-- CLOCK_STEP_DONE (R372): A die's clock change finishes after 1 µs, and the next voltage step may start. -/
  | clockStepDone (n : BitVec 2)
  /-- VDONE (R372): A rail reports VDone; VOLT is set on a down step, or the 10 µs wait begins on an up step. -/
  | vdone (r : BitVec 3)
  /-- VOLTAGE_SETTLE_END (R372): 10 µs after VDone on an up step, VOLT is set and the clocks are raised. -/
  | voltageSettleEnd (n : BitVec 2)
  /-- AVS_FAIL (R373): A rail without VDone 1 ms after its write holds the die at its CLK level and sets AVS_FAIL. -/
  | avsFail (r : BitVec 3)
  /-- POWER_GOOD (R378): A rail's power-good asserted for 10 µs counts the rail as on. -/
  | powerGood (r : BitVec 3)
  /-- PG_FAIL (R378): A rail not good within 10 ms, or whose power-good falls, sets PG_FAIL and is treated as loss of its die. -/
  | pgFail (r : BitVec 3)
  /-- DRUSE_OFF (R381): Writing 1 to a PWR_DRUSE_OFF bit holds the druse's cores, closes its stop and waits for DRAINED. -/
  | druseOff (d : BitVec 5)
  /-- DRUSE_POWER_SWITCH_OPEN (R381): After DRAINED, or the drain limit, the druse's power switch opens and its INIT_DONE bits clear. -/
  | drusePowerSwitchOpen (d : BitVec 5)
  /-- DRAIN_FORCED (R381): At the PWR_DRAIN limit, the sequencer proceeds without DRAINED and sets DRAIN_FORCED. -/
  | drainForced (node : BitVec 8)
  /-- DRUSE_ON (R381): Writing 0 to a PWR_DRUSE_OFF bit closes the druse's switch. -/
  | druseOn (d : BitVec 5)
  /-- DRUSE_POWER_SETTLE (R381): 2 µs after switch-on, the druse stop reopens with its cores held. -/
  | drusePowerSettle (d : BitVec 5)
  /-- SLEEP_REQUEST_STANDBY (R382): PWR_SLEEP_REQ.STATE = 1 requests Standby, or is discarded. -/
  | sleepRequestStandby
  /-- SLEEP_REQUEST_DORMANT (R382): PWR_SLEEP_REQ.STATE = 2 requests Dormant, or is discarded. -/
  | sleepRequestDormant
  /-- COMMIT_CYCLE (R383): In the commit cycle, a pending enabled wake cancels the entry with WAKE_RACE; otherwise the entry commits and releases the twin token. -/
  | commitCycle
  /-- DORMANT_LINK_WAIT_END (R390): After the CXL link reaches L2, or 100 ms pass, the device drops the link, parks outputs and switches off VDD_H. -/
  | dormantLinkWaitEnd
  /-- WAKE_N (R384): WAKE_N held low for 32 always-on cycles sets its pending bit, which wakes the device if enabled. -/
  | wakeN
  /-- I2C_ADDRESS_MATCH (R391): A matching I2C address stretches SCL and sets wake source 0. -/
  | i2cAddressMatch (a : BitVec 7)
  /-- TWIN_TOKEN_CHANGE (R384): A level change on the twin token lines in Dormant sets wake source 2. -/
  | twinTokenChange (peerLow : Bool)
  /-- RELOAD_DONE (R389): The reload after Standby exit finishes, releasing cores or setting RELOAD_FAIL. -/
  | reloadDone (img : List Byte) (readOk : Bool)
  /-- I2C_WRITE (R393): An I2C write transfer performs a 4-byte register write as the keystone. -/
  | i2cWrite (a v : BitVec 32)
  /-- I2C_READ (R393): An I2C read transfer performs a 4-byte register read as the keystone. -/
  | i2cRead (a : BitVec 32)
  /-- SENSOR_CONVERSION (R396): Each 1 ms a sensor converts, the die temperature is re-evaluated, and a run, THERMAL or NO_SENSOR may follow. -/
  | sensorConversion (k : BitVec 5) (t : BitVec 12) (ok : Bool)
  /-- RUN (R397): CAL_CMD.RUN triggers a calibration run of a die, or sets PEND. -/
  | run (v : BitVec 5)
  /-- ITEM_MEASURED (R403): An item's measurement completes, USER is written and its walk starts; the last item ends the run. -/
  | itemMeasured (e : BitVec 3) (code : BitVec 10) (lock : Bool)
  /-- TAP_STEP (R400): Every 100 ns, each tap whose APPLIED differs from EFF moves one step. -/
  | tapStep
  /-- CORRIDOR_TICK (R183): Every 250 µs of TB0, the corridor engine applies table writes, propagates trains, takes inputs, predicts and computes membership. -/
  | corridorTick
  /-- CORR_TBL_DATA (R208): A write of CORR_TBL_DATA writes the selected table word while EN = 0, or is discarded. -/
  | corrTblData (v : BitVec 32)
  /-- JOB_START (R162): A free engine starts the highest-priority held job of its class, or writes TOO_LATE if the deadline has passed. -/
  | jobStart (n : BitVec 2)
  /-- ABORT_POINT (R178): At an abort point, the job ends FLUSHED, SQUASHED or TOO_LATE, or runs on; at the final point it writes out. -/
  | abortPoint (n : BitVec 2) (e : BitVec 6) (final : Bool)
  /-- HEADER_WRITTEN (R175): The answer to the header write lets the mill send the job's completion. -/
  | headerWritten (n : BitVec 2) (e : BitVec 6)
  /-- FLUSH (R178): MILL_CTRL.FLUSH ends every held and running job with FLUSHED. -/
  | flush (n : BitVec 2)
  /-- ENGINE_PARITY_ERROR (R182): A parity error in an engine's working memory ends its job FLUSHED and fences the engine. -/
  | engineParityError (n : BitVec 2) (e : BitVec 6)
  /-- FAULT_REPORT (R409): The keystone takes a fault report, gives it a SEQ, writes the record and starts the containment its code names. -/
  | faultReport
  /-- DIE_RAIL_OFF (R418): 100 µs after a die's isolation, its rail is switched off. -/
  | dieRailOff (n : BitVec 2)
  /-- FR_RD_WRITE (R413): A write of GLOBAL_FR_RD advances the consumer count, or is discarded with CFG_BAD. -/
  | frRdWrite (v : BitVec 32)
  /-- CORE_HANG (R415): A core that retires nothing for HANG µs is a core fault and restarts its druse. -/
  | coreHang (c : BitVec 8)
  /-- DRUSE_RESTART_RELEASE (R415): Once the squash notices are settled, the keystone releases the restarted druse's cores. -/
  | druseRestartRelease (d : BitVec 5)
  /-- HOLD_CORE (R415): GLOBAL_KS_CMD OP 1 holds a core in reset. -/
  | holdCore (i : BitVec 8)
  /-- RELEASE_CORE (R415): GLOBAL_KS_CMD OP 2 releases a core. -/
  | releaseCore (i : BitVec 8)
  /-- DRUSE_RESTART (R415): GLOBAL_KS_CMD OP 3 restarts a druse. -/
  | druseRestart (i : BitVec 8)
  /-- RELEASE_DRUSE (R415): GLOBAL_KS_CMD OP 4 releases a druse's held cores. -/
  | releaseDruse (i : BitVec 8)
  /-- STRATUM_RESET (R415): GLOBAL_KS_CMD OP 5 resets a stratum. -/
  | stratumReset (i : BitVec 8)
  /-- KS_DISAGREE (R421): Disagreement between the keystone halves fences the keystone and starts Safe Halt. -/
  | ksDisagree
  /-- KEYSTONE_PULSE (R422): Every 1 µs, the keystone pulses each sentinel. -/
  | keystonePulse
  /-- DIE_SENTINEL_SILENCE (R422): A die sentinel silent for 10 µs isolates its die and sets SENT_ISO. -/
  | dieSentinelSilence (n : BitVec 2)
  /-- KS_SILENT (R422): The hub sentinel silent for 10 µs fences the keystone and starts Safe Halt. -/
  | ksSilent
  /-- PIN_LIMIT (R425): An output at its current limit for 1 µs parks at high impedance and writes PIN_LIMIT. -/
  | pinLimit (pin : BitVec 6)
  /-- PIN_PARK_END (R425): 1 ms after parking, the output drives again. -/
  | pinParkEnd (pin : BitVec 6)
  /-- CLOCK_LOST (R427): A reference clock monitor detects loss and applies the outcome for that clock. -/
  | clockLost (k : BitVec 3)
  /-- DROOP (R428): A droop trip halves the die's clocks for 2 µs and may escalate to a die fault. -/
  | droop (e : BitVec 3)
  /-- DROOP_CLOCK_RESTORE (R428): 2 µs after a droop trip, the die's clocks are restored. -/
  | droopClockRestore (e : BitVec 3)
  /-- HEARTBEAT_SEND (R430): Each time TB0 crosses a multiple of 5,000 ns, the twin port sends a heartbeat. -/
  | heartbeatSend
  /-- HEARTBEAT (R430): A valid received heartbeat updates the peer's status and drives the TB0 follow servo. -/
  | heartbeat (h : TwinFrame)
  /-- HEARTBEAT_LOSS (R434): No valid heartbeat within HB_MISS × 5 µs + 1 µs declares peer loss and may trigger a claim. -/
  | heartbeatLoss
  /-- ABDICATE_FRAME (R433): A valid ABDICATE frame from the peer triggers a claim. -/
  | abdicateFrame (h : TwinFrame)
  /-- STATE_FRAME (R437): A received STATE frame is written to the receive ring, or dropped when the ring is full. -/
  | stateFrame (h : TwinFrame)
  /-- STATE_FRAME_SEND (R437): The twin port sends one STATE frame per filled transmit slot and advances TWIN_TX_HEAD. -/
  | stateFrameSend
  /-- CLAIM (R433): TWIN_CMD.CLAIM drives the token line low to claim, or is refused. -/
  | claim
  /-- ABDICATE (R432): TWIN_CMD.ABDICATE releases the token line and sends an ABDICATE frame. -/
  | abdicate
  /-- CLAIM_SAMPLE (R433): 1 µs after a claim, the peer line is sampled and the device holds the token or releases it. -/
  | claimSample
  /-- START_LEAD_CLAIM (R433): At Live with START_LEAD = 1 and the peer line high for 100 µs, the device claims. -/
  | startLeadClaim
  /-- CLR_ALL (R439): PERF_CTRL.CLR_ALL clears every counter. -/
  | clrAll
  /-- PERF_CNT_LO (R446): A read of PERF_CNT_LO returns the low bits and latches the high bits and the sampling stamp for the reader. -/
  | perfCntLo (init : BitVec 12) (i : BitVec 11)
  /-- GO (R450): PERF_DUMP_CMD.GO starts a counter dump, or refuses it. -/
  | go
  /-- DUMP_PERIOD_EXPIRY (R450): Each PERIOD µs of TB0, a dump starts. -/
  | dumpPeriodExpiry
  /-- CDR_LOCK_LOSS (R64): A receive lane loses CDR lock without loss of signal, which squelches SYNCE_CLKOUT with SRC_BAD and takes its port down. -/
  | cdrLockLoss (l : BitVec 6)
  /-- PORT_LINK_UP (R300): An Ethernet port reaches block and alignment lock, or finishes clause 72 training, and FH_PORT_STAT.LINK becomes 1. -/
  | portLinkUp (p : PortUp)
  /-- PRBS_CHECKER_LOCK (R319): After 64 consecutive matching bits the PRBS checker locks, sets CHK_LOCK and starts counting errors.
  Its count: bits that mismatch while it is locked. -/
  | prbsCheckerLock (l : LaneCount)
  /-- PRBS_CHECKER_UNLOCK (R319): When 32 of any 64 bits mismatch, the PRBS checker unlocks and stops counting until it relocks.
  Its count: bits that have mismatched before it unlocks. -/
  | prbsCheckerUnlock (l : LaneCount)
  /-- CXL_LINK_UP (R344): The CXL link completes training or returns from L1 to L0, so held MSI-X messages and wake events can be sent. -/
  | cxlLinkUp (speed : BitVec 4) (width : BitVec 5) (flit256 : Bool)
  /-- HOST_CONFIG_WRITE (R338): A host CXL.io configuration write, such as HDM decoder commit, Bus Master Enable, the MSI-X function mask or DOE/IDE_KM key setup, takes effect. -/
  | hostConfigWrite (w : BitVec 3) (v : BitVec 64)
  /-- HOST_MEMORY_RESPONSE (R335): The host answers a device CXL.cache or CXL.io request with data or a global-observation grant, and the HOST stop answers the fabric request DONE. -/
  | hostMemoryResponse (p : Packet)
  /-- JTAG_DEBUG_ACCESS (R110): A JTAG debug access, initiator 0x133, reads or writes device addresses and resumes a core halted for debug. -/
  | jtagDebugAccess (resume : Option (BitVec 8)) (write : Bool) (a : BitVec 40) (len : BitVec 8) (data : List Byte)
  /-- CLOCK_RETURN (R427): A lost reference clock returns and its monitor clears the GLOBAL_CLK_STAT bit. -/
  | clockReturn (k : BitVec 3)
  deriving DecidableEq, Repr

end Sys2Proof
end

