-- ==== Sys2Proof/Decode.lean ====
section
/-!
DEFINITION. Words and commands. opcode_table.json gives its rows no bits, so no word spells a command by the table; the
instruction words of a signal core have formats of their own (R86, R87, R88, R128 to R132, R140, R217), which are decoded and
encoded here.
-/

namespace Sys2Proof

/-- No row of the table has bits, so no word spells a command. -/
def decodeTableWord (_nbits _w : Nat) : Option Instr := none

/-! ## Fields of an instruction word (R86, R128, R140) -/

/-- The major opcode. -/
def wordOp (w : Word) : BitVec 6 := w.extractLsb' 26 6
/-- Bits [25:21]: rd, rt, rs1 of a branch, d. -/
def wordA (w : Word) : BitVec 5 := w.extractLsb' 21 5
/-- Bits [20:16]: rs1, base, rs2 of a branch, s1. -/
def wordB (w : Word) : BitVec 5 := w.extractLsb' 16 5
/-- Bits [15:11]: rs2, s2. -/
def wordC (w : Word) : BitVec 5 := w.extractLsb' 11 5
/-- Bits [15:0]: an immediate or an offset. -/
def wordImm (w : Word) : BitVec 16 := w.extractLsb' 0 16
/-- MEN in bit 10. -/
def wordMen (w : Word) : Bool := w.getLsbD 10
/-- m in bits [9:7]. -/
def wordM (w : Word) : BitVec 3 := w.extractLsb' 7 3
/-- param in bits [10:4]. -/
def wordParam (w : Word) : BitVec 7 := w.extractLsb' 4 7

/-- What a core decodes a word to: an instruction, ILLEGAL (a reserved opcode or selector), or a function code that a fused
unit does not allocate (R140), by unit: 0 CORR, 1 LFSR, 3 ILV. -/
inductive Decoded where
  | insn (i : Instr)
  | illegal
  | noFunction (unit : Nat)
  deriving DecidableEq, Repr

/-! ## Decoding, format by format -/

/-- Opcode 0x00: integer register operations (R88). -/
def decodeReg (c : BitVec 8) (w : Word) : Decoded :=
  match (w.extractLsb' 0 11).toNat with
  | 0x0 => .insn (.add c (wordA w) (wordB w) (wordC w))
  | 0x1 => .insn (.sub c (wordA w) (wordB w) (wordC w))
  | 0x2 => .insn (.and c (wordA w) (wordB w) (wordC w))
  | 0x3 => .insn (.or c (wordA w) (wordB w) (wordC w))
  | 0x4 => .insn (.xor c (wordA w) (wordB w) (wordC w))
  | 0x5 => .insn (.sll c (wordA w) (wordB w) (wordC w))
  | 0x6 => .insn (.srl c (wordA w) (wordB w) (wordC w))
  | 0x7 => .insn (.sra c (wordA w) (wordB w) (wordC w))
  | 0x8 => .insn (.slt c (wordA w) (wordB w) (wordC w))
  | 0x9 => .insn (.sltu c (wordA w) (wordB w) (wordC w))
  | 0xa => .insn (.min c (wordA w) (wordB w) (wordC w))
  | 0xb => .insn (.max c (wordA w) (wordB w) (wordC w))
  | 0xc => .insn (.minu c (wordA w) (wordB w) (wordC w))
  | 0xd => .insn (.maxu c (wordA w) (wordB w) (wordC w))
  | 0x10 => .insn (.mul c (wordA w) (wordB w) (wordC w))
  | 0x11 => .insn (.mulh c (wordA w) (wordB w) (wordC w))
  | 0x12 => .insn (.mulhu c (wordA w) (wordB w) (wordC w))
  | 0x18 => .insn (.clz c (wordA w) (wordB w) (wordC w))
  | 0x19 => .insn (.popc c (wordA w) (wordB w) (wordC w))
  | 0x1a => .insn (.abs c (wordA w) (wordB w) (wordC w))
  | 0x100 => .insn (.addw c (wordA w) (wordB w) (wordC w))
  | 0x101 => .insn (.subw c (wordA w) (wordB w) (wordC w))
  | 0x102 => .insn (.andw c (wordA w) (wordB w) (wordC w))
  | 0x103 => .insn (.orw c (wordA w) (wordB w) (wordC w))
  | 0x104 => .insn (.xorw c (wordA w) (wordB w) (wordC w))
  | 0x105 => .insn (.sllw c (wordA w) (wordB w) (wordC w))
  | 0x106 => .insn (.srlw c (wordA w) (wordB w) (wordC w))
  | 0x107 => .insn (.sraw c (wordA w) (wordB w) (wordC w))
  | 0x110 => .insn (.mulw c (wordA w) (wordB w) (wordC w))
  | _ => .illegal

/-- Opcode 0x1C: atomics (R88). -/
def decodeAtomic (c : BitVec 8) (w : Word) : Decoded :=
  match (w.extractLsb' 0 11).toNat with
  | 0x0 => .insn (.swapd c (wordA w) (wordB w) (wordC w))
  | 0x1 => .insn (.addd c (wordA w) (wordB w) (wordC w))
  | 0x2 => .insn (.andd c (wordA w) (wordB w) (wordC w))
  | 0x3 => .insn (.ord c (wordA w) (wordB w) (wordC w))
  | 0x4 => .insn (.maxd c (wordA w) (wordB w) (wordC w))
  | _ => .illegal

/-- Opcode 0x2A: threads (R217). -/
def decodeThread (c : BitVec 8) (w : Word) : Decoded :=
  match (w.extractLsb' 0 11).toNat with
  | 0x0 => .insn (.tdispatch c (wordA w) (wordB w) (wordC w))
  | 0x1 => .insn (.tspawn c (wordA w) (wordB w) (wordC w))
  | 0x2 => .insn (.twait c (wordA w) (wordB w) (wordC w))
  | 0x3 => .insn (.tyield c (wordA w) (wordB w) (wordC w))
  | 0x4 => .insn (.texit c (wordA w) (wordB w) (wordC w))
  | 0x5 => .insn (.tsetpri c (wordA w) (wordB w) (wordC w))
  | _ => .illegal

/-- Opcode 0x2B: events (R217). -/
def decodeEvent (c : BitVec 8) (w : Word) : Decoded :=
  match (w.extractLsb' 0 11).toNat with
  | 0x0 => .insn (.tevent c (wordA w) (wordB w) (wordC w))
  | _ => .illegal

/-- Opcode 0x2C: flows (R217). -/
def decodeFlow (c : BitVec 8) (w : Word) : Decoded :=
  match (w.extractLsb' 0 11).toNat with
  | 0x0 => .insn (.fadmit c (wordA w) (wordB w) (wordC w))
  | 0x1 => .insn (.frelease c (wordA w) (wordB w) (wordC w))
  | 0x2 => .insn (.fvoid c (wordA w) (wordB w) (wordC w))
  | _ => .illegal

/-- Opcode 0x2D: tokens (R217). -/
def decodeToken (c : BitVec 8) (w : Word) : Decoded :=
  match (w.extractLsb' 0 11).toNat with
  | 0x0 => .insn (.topen c (wordA w) (wordB w) (wordC w))
  | 0x1 => .insn (.tcommit c (wordA w) (wordB w) (wordC w))
  | 0x2 => .insn (.tsquash c (wordA w) (wordB w) (wordC w))
  | 0x3 => .insn (.tfree c (wordA w) (wordB w) (wordC w))
  | 0x4 => .insn (.tstate c (wordA w) (wordB w) (wordC w))
  | 0x5 => .insn (.tattach c (wordA w) (wordB w) (wordC w))
  | _ => .illegal

/-- Opcode 0x2E: context (R217). -/
def decodeContext (c : BitVec 8) (w : Word) : Decoded :=
  match (w.extractLsb' 0 11).toNat with
  | 0x0 => .insn (.ctxsv c (wordA w) (wordB w) (wordC w))
  | 0x1 => .insn (.ctxld c (wordA w) (wordB w) (wordC w))
  | _ => .illegal

/-- Opcode 0x07: shifts by an immediate, selected by imm[7:6] (R88). -/
def decodeShift (c : BitVec 8) (w : Word) : Decoded :=
  match (w.extractLsb' 6 2).toNat with
  | 0x0 => .insn (.slli c (wordA w) (wordB w) (w.extractLsb' 8 8) (w.extractLsb' 0 6))
  | 0x1 => .insn (.srli c (wordA w) (wordB w) (w.extractLsb' 8 8) (w.extractLsb' 0 6))
  | 0x2 => .insn (.srai c (wordA w) (wordB w) (w.extractLsb' 8 8) (w.extractLsb' 0 6))
  | _ => .illegal

/-- Opcode 0x29: system instructions, selected by subop (R88). -/
def decodeSys (c : BitVec 8) (w : Word) : Decoded :=
  match (w.extractLsb' 12 4).toNat with
  | 0x0 => .insn (.mfcr c (wordA w) (wordB w) (w.extractLsb' 0 12))
  | 0x1 => .insn (.mtcr c (wordA w) (wordB w) (w.extractLsb' 0 12))
  | 0x2 => .insn (.fence c (wordA w) (wordB w) (w.extractLsb' 0 12))
  | 0x3 => .insn (.tret c (wordA w) (wordB w) (w.extractLsb' 0 12))
  | 0x4 => .insn (.brk c (wordA w) (wordB w) (w.extractLsb' 0 12))
  | _ => .illegal

/-- Opcode 0x30: VC, selected by sub (R128). -/
def decodeVc (c : BitVec 8) (w : Word) : Decoded :=
  match (w.extractLsb' 14 2).toNat with
  | 0x0 => .insn (.vclaim c (wordA w) (wordB w) (w.extractLsb' 9 5) (w.extractLsb' 0 9))
  | 0x1 => .insn (.vsetclaim c (wordA w) (wordB w) (w.extractLsb' 9 5) (w.extractLsb' 0 9))
  | _ => .illegal

/-- Opcodes 0x31 and 0x32: VV and VS (R129). -/
def decodeVv (c : BitVec 8) (sc : Bool) (w : Word) : Decoded :=
  match (w.extractLsb' 0 7).toNat with
  | 0x0 => .insn (.vadd c sc (wordA w) (wordB w) (wordC w) (wordMen w) (wordM w))
  | 0x1 => .insn (.vsub c sc (wordA w) (wordB w) (wordC w) (wordMen w) (wordM w))
  | 0x2 => .insn (.vmin c sc (wordA w) (wordB w) (wordC w) (wordMen w) (wordM w))
  | 0x3 => .insn (.vmax c sc (wordA w) (wordB w) (wordC w) (wordMen w) (wordM w))
  | 0x4 => .insn (.vand c sc (wordA w) (wordB w) (wordC w) (wordMen w) (wordM w))
  | 0x5 => .insn (.vor c sc (wordA w) (wordB w) (wordC w) (wordMen w) (wordM w))
  | 0x6 => .insn (.vxor c sc (wordA w) (wordB w) (wordC w) (wordMen w) (wordM w))
  | 0x8 => .insn (.vsll c sc (wordA w) (wordB w) (wordC w) (wordMen w) (wordM w))
  | 0x9 => .insn (.vsrl c sc (wordA w) (wordB w) (wordC w) (wordMen w) (wordM w))
  | 0xa => .insn (.vsra c sc (wordA w) (wordB w) (wordC w) (wordMen w) (wordM w))
  | 0xb => .insn (.vsrar c sc (wordA w) (wordB w) (wordC w) (wordMen w) (wordM w))
  | 0xc => .insn (.vabs c sc (wordA w) (wordB w) (wordC w) (wordMen w) (wordM w))
  | 0xd => .insn (.vneg c sc (wordA w) (wordB w) (wordC w) (wordMen w) (wordM w))
  | 0xe => .insn (.vconj c sc (wordA w) (wordB w) (wordC w) (wordMen w) (wordM w))
  | 0x10 => .insn (.vmul c sc (wordA w) (wordB w) (wordC w) (wordMen w) (wordM w))
  | 0x11 => .insn (.vmulc c sc (wordA w) (wordB w) (wordC w) (wordMen w) (wordM w))
  | 0x12 => .insn (.vmac c sc (wordA w) (wordB w) (wordC w) (wordMen w) (wordM w))
  | 0x13 => .insn (.vmacc c sc (wordA w) (wordB w) (wordC w) (wordMen w) (wordM w))
  | 0x14 => .insn (.vmsub c sc (wordA w) (wordB w) (wordC w) (wordMen w) (wordM w))
  | 0x18 => .insn (.vwadd c sc (wordA w) (wordB w) (wordC w) (wordMen w) (wordM w))
  | 0x19 => .insn (.vwmul c sc (wordA w) (wordB w) (wordC w) (wordMen w) (wordM w))
  | 0x1a => .insn (.vwmulc c sc (wordA w) (wordB w) (wordC w) (wordMen w) (wordM w))
  | 0x1b => .insn (.vwmac c sc (wordA w) (wordB w) (wordC w) (wordMen w) (wordM w))
  | 0x1c => .insn (.vwmacc c sc (wordA w) (wordB w) (wordC w) (wordMen w) (wordM w))
  | 0x1d => .insn (.vpow c sc (wordA w) (wordB w) (wordC w) (wordMen w) (wordM w))
  | 0x20 => .insn (.vnarrow c sc (wordA w) (wordB w) (wordC w) (wordMen w) (wordM w))
  | 0x28 => .insn (.vcvt c sc (wordA w) (wordB w) (wordC w) (wordMen w) (wordM w))
  | _ => .illegal

/-- Opcode 0x33: VI (R130). -/
def decodeVi (c : BitVec 8) (w : Word) : Decoded :=
  match (w.extractLsb' 0 4).toNat with
  | 0x0 => .insn (.vaddi c (wordA w) (wordB w) (w.extractLsb' 8 8) (w.getLsbD 7) (w.extractLsb' 4 3))
  | 0x1 => .insn (.vslli c (wordA w) (wordB w) (w.extractLsb' 8 8) (w.getLsbD 7) (w.extractLsb' 4 3))
  | 0x2 => .insn (.vsrli c (wordA w) (wordB w) (w.extractLsb' 8 8) (w.getLsbD 7) (w.extractLsb' 4 3))
  | 0x3 => .insn (.vsrai c (wordA w) (wordB w) (w.extractLsb' 8 8) (w.getLsbD 7) (w.extractLsb' 4 3))
  | 0x4 => .insn (.vsrari c (wordA w) (wordB w) (w.extractLsb' 8 8) (w.getLsbD 7) (w.extractLsb' 4 3))
  | 0x5 => .insn (.vnarrowi c (wordA w) (wordB w) (w.extractLsb' 8 8) (w.getLsbD 7) (w.extractLsb' 4 3))
  | 0x6 => .insn (.vsplati c (wordA w) (wordB w) (w.extractLsb' 8 8) (w.getLsbD 7) (w.extractLsb' 4 3))
  | _ => .illegal

/-- Opcode 0x36: VX (R131). -/
def decodeVx (c : BitVec 8) (w : Word) : Decoded :=
  match (w.extractLsb' 0 7).toNat with
  | 0x0 => .insn (.vredsum c (wordA w) (wordB w) (wordC w) (wordMen w) (wordM w))
  | 0x1 => .insn (.vredmax c (wordA w) (wordB w) (wordC w) (wordMen w) (wordM w))
  | 0x2 => .insn (.vredmin c (wordA w) (wordB w) (wordC w) (wordMen w) (wordM w))
  | 0x8 => .insn (.vext c (wordA w) (wordB w) (wordC w) (wordMen w) (wordM w))
  | 0x9 => .insn (.vins c (wordA w) (wordB w) (wordC w) (wordMen w) (wordM w))
  | 0xa => .insn (.vsplat c (wordA w) (wordB w) (wordC w) (wordMen w) (wordM w))
  | 0x10 => .insn (.vslideup c (wordA w) (wordB w) (wordC w) (wordMen w) (wordM w))
  | 0x11 => .insn (.vslidedn c (wordA w) (wordB w) (wordC w) (wordMen w) (wordM w))
  | 0x12 => .insn (.vperm c (wordA w) (wordB w) (wordC w) (wordMen w) (wordM w))
  | 0x18 => .insn (.vmv c (wordA w) (wordB w) (wordC w) (wordMen w) (wordM w))
  | 0x19 => .insn (.vsel c (wordA w) (wordB w) (wordC w) (wordMen w) (wordM w))
  | 0x20 => .insn (.vcmpeq c (wordA w) (wordB w) (wordC w) (wordMen w) (wordM w))
  | 0x21 => .insn (.vcmplt c (wordA w) (wordB w) (wordC w) (wordMen w) (wordM w))
  | 0x22 => .insn (.vcmple c (wordA w) (wordB w) (wordC w) (wordMen w) (wordM w))
  | 0x28 => .insn (.vmand c (wordA w) (wordB w) (wordC w) (wordMen w) (wordM w))
  | 0x29 => .insn (.vmor c (wordA w) (wordB w) (wordC w) (wordMen w) (wordM w))
  | 0x2a => .insn (.vmxor c (wordA w) (wordB w) (wordC w) (wordMen w) (wordM w))
  | 0x2b => .insn (.vmandn c (wordA w) (wordB w) (wordC w) (wordMen w) (wordM w))
  | 0x2c => .insn (.vmpopc c (wordA w) (wordB w) (wordC w) (wordMen w) (wordM w))
  | 0x2d => .insn (.vmfirst c (wordA w) (wordB w) (wordC w) (wordMen w) (wordM w))
  | _ => .illegal

/-- Opcode 0x38: CORR (R144). -/
def decodeCorr (c : BitVec 8) (w : Word) : Decoded :=
  match (w.extractLsb' 0 4).toNat with
  | 0x0 => .insn (.ccorr c (wordA w) (wordB w) (wordC w) (wordParam w))
  | 0x1 => .insn (.cdesp c (wordA w) (wordB w) (wordC w) (wordParam w))
  | 0x2 => .insn (.cpeak c (wordA w) (wordB w) (wordC w) (wordParam w))
  | _ => .noFunction 0

/-- Opcode 0x39: LFSR (R145). -/
def decodeLfsr (c : BitVec 8) (w : Word) : Decoded :=
  match (w.extractLsb' 0 4).toNat with
  | 0x0 => .insn (.lginit c (wordA w) (wordB w) (wordC w) (wordParam w))
  | 0x1 => .insn (.lgen c (wordA w) (wordB w) (wordC w) (wordParam w))
  | 0x2 => .insn (.lgenv c (wordA w) (wordB w) (wordC w) (wordParam w))
  | 0x3 => .insn (.lcrcinit c (wordA w) (wordB w) (wordC w) (wordParam w))
  | 0x4 => .insn (.lcrcg c (wordA w) (wordB w) (wordC w) (wordParam w))
  | 0x5 => .insn (.lcrcv c (wordA w) (wordB w) (wordC w) (wordParam w))
  | 0x6 => .insn (.lcrcrd c (wordA w) (wordB w) (wordC w) (wordParam w))
  | _ => .noFunction 1

/-- Opcode 0x3B: ILV (R149). -/
def decodeIlv (c : BitVec 8) (w : Word) : Decoded :=
  match (w.extractLsb' 0 4).toNat with
  | 0x0 => .insn (.isel c (wordA w) (wordB w) (wordC w) (wordParam w))
  | 0x1 => .insn (.ibil c (wordA w) (wordB w) (wordC w) (wordParam w))
  | 0x2 => .insn (.idil c (wordA w) (wordB w) (wordC w) (wordParam w))
  | 0x3 => .insn (.icomb c (wordA w) (wordB w) (wordC w) (wordParam w))
  | _ => .noFunction 3

/-- The command that an instruction word of core `c` is (R87): every opcode, format and selector; ILLEGAL for a reserved one. -/
def decodeCore (c : BitVec 8) (w : Word) : Decoded :=
  match (wordOp w).toNat with
  | 0x00 => decodeReg c w
  | 0x1 => .insn (.addi c (wordA w) (wordB w) (wordImm w))
  | 0x2 => .insn (.andi c (wordA w) (wordB w) (wordImm w))
  | 0x3 => .insn (.ori c (wordA w) (wordB w) (wordImm w))
  | 0x4 => .insn (.xori c (wordA w) (wordB w) (wordImm w))
  | 0x5 => .insn (.slti c (wordA w) (wordB w) (wordImm w))
  | 0x6 => .insn (.sltiu c (wordA w) (wordB w) (wordImm w))
  | 0x7 => decodeShift c w
  | 0x8 => .insn (.lui c (wordA w) (wordB w) (wordImm w))
  | 0x9 => .insn (.addiw c (wordA w) (wordB w) (wordImm w))
  | 0x10 => .insn (.lb c (wordA w) (wordB w) (wordImm w))
  | 0x11 => .insn (.lbu c (wordA w) (wordB w) (wordImm w))
  | 0x12 => .insn (.lh c (wordA w) (wordB w) (wordImm w))
  | 0x13 => .insn (.lhu c (wordA w) (wordB w) (wordImm w))
  | 0x14 => .insn (.lw c (wordA w) (wordB w) (wordImm w))
  | 0x15 => .insn (.lwu c (wordA w) (wordB w) (wordImm w))
  | 0x16 => .insn (.ld c (wordA w) (wordB w) (wordImm w))
  | 0x18 => .insn (.sb c (wordA w) (wordB w) (wordImm w))
  | 0x19 => .insn (.sh c (wordA w) (wordB w) (wordImm w))
  | 0x1a => .insn (.sw c (wordA w) (wordB w) (wordImm w))
  | 0x1b => .insn (.sd c (wordA w) (wordB w) (wordImm w))
  | 0x1c => decodeAtomic c w
  | 0x20 => .insn (.beq c (wordA w) (wordB w) (wordImm w))
  | 0x21 => .insn (.bne c (wordA w) (wordB w) (wordImm w))
  | 0x22 => .insn (.blt c (wordA w) (wordB w) (wordImm w))
  | 0x23 => .insn (.bge c (wordA w) (wordB w) (wordImm w))
  | 0x24 => .insn (.bltu c (wordA w) (wordB w) (wordImm w))
  | 0x25 => .insn (.bgeu c (wordA w) (wordB w) (wordImm w))
  | 0x26 => .insn (.j c (w.extractLsb' 0 26))
  | 0x27 => .insn (.jal c (w.extractLsb' 0 26))
  | 0x28 => .insn (.jalr c (wordA w) (wordB w) (wordImm w))
  | 0x29 => decodeSys c w
  | 0x2a => decodeThread c w
  | 0x2b => decodeEvent c w
  | 0x2c => decodeFlow c w
  | 0x2d => decodeToken c w
  | 0x2e => decodeContext c w
  | 0x30 => decodeVc c w
  | 0x31 => decodeVv c false w
  | 0x32 => decodeVv c true w
  | 0x33 => decodeVi c w
  | 0x34 => .insn (.vld c (wordA w) (wordB w) (wordC w) (wordMen w) (wordM w) (w.extractLsb' 5 2) (w.extractLsb' 0 5))
  | 0x35 => .insn (.vst c (wordA w) (wordB w) (wordC w) (wordMen w) (wordM w) (w.extractLsb' 5 2) (w.extractLsb' 0 5))
  | 0x36 => decodeVx c w
  | 0x38 => decodeCorr c w
  | 0x39 => decodeLfsr c w
  | 0x3a => .insn (.demap c (w.extractLsb' 0 4) (wordA w) (wordB w) (wordC w) (wordParam w))
  | 0x3b => decodeIlv c w
  | _ => .illegal

/-! ## Encoding, format by format -/

/-- REG (R86). -/
def encReg (op : BitVec 6) (a b d : BitVec 5) (f : BitVec 11) : Word := op ++ a ++ b ++ d ++ f
/-- IMM, MEM and BR (R86). -/
def encImm (op : BitVec 6) (a b : BitVec 5) (i : BitVec 16) : Word := op ++ a ++ b ++ i
/-- JMP (R86). -/
def encJmp (op : BitVec 6) (i : BitVec 26) : Word := op ++ i
/-- A shift by an immediate (R88). -/
def encShift (a b : BitVec 5) (hi : BitVec 8) (k : BitVec 2) (sh : BitVec 6) : Word := 0x07#6 ++ a ++ b ++ hi ++ k ++ sh
/-- SYS (R86). -/
def encSys (a b : BitVec 5) (sub : BitVec 4) (cr : BitVec 12) : Word := 0x29#6 ++ a ++ b ++ sub ++ cr
/-- VC (R128). -/
def encVc (a b : BitVec 5) (sub : BitVec 2) (z : BitVec 5) (mode : BitVec 9) : Word := 0x30#6 ++ a ++ b ++ sub ++ z ++ mode
/-- VV, VS and VX (R128). -/
def encV (op : BitVec 6) (a b d : BitVec 5) (men : Bool) (m : BitVec 3) (f : BitVec 7) : Word :=
  op ++ a ++ b ++ d ++ BitVec.ofBool men ++ m ++ f
/-- The opcode of VV or VS. -/
def opVv (sc : Bool) : BitVec 6 := if sc then 0x32 else 0x31
/-- VI (R128). -/
def encVi (a b : BitVec 5) (imm : BitVec 8) (men : Bool) (m : BitVec 3) (f : BitVec 4) : Word :=
  0x33#6 ++ a ++ b ++ imm ++ BitVec.ofBool men ++ m ++ f
/-- VL and VST (R128). -/
def encVl (op : BitVec 6) (a b d : BitVec 5) (men : Bool) (m : BitVec 3) (mode : BitVec 2) (z : BitVec 5) : Word :=
  op ++ a ++ b ++ d ++ BitVec.ofBool men ++ m ++ mode ++ z
/-- FU (R140). -/
def encFu (op : BitVec 6) (a b d : BitVec 5) (param : BitVec 7) (f : BitVec 4) : Word := op ++ a ++ b ++ d ++ param ++ f

/-- The word of a core's instruction, none for any other command. -/
def encodeCore : Instr → Option Word
  | .add _ a b d => some (encReg 0x00 a b d 0x0)
  | .sub _ a b d => some (encReg 0x00 a b d 0x1)
  | .and _ a b d => some (encReg 0x00 a b d 0x2)
  | .or _ a b d => some (encReg 0x00 a b d 0x3)
  | .xor _ a b d => some (encReg 0x00 a b d 0x4)
  | .sll _ a b d => some (encReg 0x00 a b d 0x5)
  | .srl _ a b d => some (encReg 0x00 a b d 0x6)
  | .sra _ a b d => some (encReg 0x00 a b d 0x7)
  | .slt _ a b d => some (encReg 0x00 a b d 0x8)
  | .sltu _ a b d => some (encReg 0x00 a b d 0x9)
  | .min _ a b d => some (encReg 0x00 a b d 0xa)
  | .max _ a b d => some (encReg 0x00 a b d 0xb)
  | .minu _ a b d => some (encReg 0x00 a b d 0xc)
  | .maxu _ a b d => some (encReg 0x00 a b d 0xd)
  | .mul _ a b d => some (encReg 0x00 a b d 0x10)
  | .mulh _ a b d => some (encReg 0x00 a b d 0x11)
  | .mulhu _ a b d => some (encReg 0x00 a b d 0x12)
  | .clz _ a b d => some (encReg 0x00 a b d 0x18)
  | .popc _ a b d => some (encReg 0x00 a b d 0x19)
  | .abs _ a b d => some (encReg 0x00 a b d 0x1a)
  | .addw _ a b d => some (encReg 0x00 a b d 0x100)
  | .subw _ a b d => some (encReg 0x00 a b d 0x101)
  | .andw _ a b d => some (encReg 0x00 a b d 0x102)
  | .orw _ a b d => some (encReg 0x00 a b d 0x103)
  | .xorw _ a b d => some (encReg 0x00 a b d 0x104)
  | .sllw _ a b d => some (encReg 0x00 a b d 0x105)
  | .srlw _ a b d => some (encReg 0x00 a b d 0x106)
  | .sraw _ a b d => some (encReg 0x00 a b d 0x107)
  | .mulw _ a b d => some (encReg 0x00 a b d 0x110)
  | .addi _ a b i => some (encImm 0x1 a b i)
  | .andi _ a b i => some (encImm 0x2 a b i)
  | .ori _ a b i => some (encImm 0x3 a b i)
  | .xori _ a b i => some (encImm 0x4 a b i)
  | .slti _ a b i => some (encImm 0x5 a b i)
  | .sltiu _ a b i => some (encImm 0x6 a b i)
  | .lui _ a b i => some (encImm 0x8 a b i)
  | .addiw _ a b i => some (encImm 0x9 a b i)
  | .jalr _ a b i => some (encImm 0x28 a b i)
  | .slli _ a b hi sh => some (encShift a b hi 0x0 sh)
  | .srli _ a b hi sh => some (encShift a b hi 0x1 sh)
  | .srai _ a b hi sh => some (encShift a b hi 0x2 sh)
  | .lb _ a b i => some (encImm 0x10 a b i)
  | .lbu _ a b i => some (encImm 0x11 a b i)
  | .lh _ a b i => some (encImm 0x12 a b i)
  | .lhu _ a b i => some (encImm 0x13 a b i)
  | .lw _ a b i => some (encImm 0x14 a b i)
  | .lwu _ a b i => some (encImm 0x15 a b i)
  | .ld _ a b i => some (encImm 0x16 a b i)
  | .sb _ a b i => some (encImm 0x18 a b i)
  | .sh _ a b i => some (encImm 0x19 a b i)
  | .sw _ a b i => some (encImm 0x1a a b i)
  | .sd _ a b i => some (encImm 0x1b a b i)
  | .swapd _ a b d => some (encReg 0x1c a b d 0x0)
  | .addd _ a b d => some (encReg 0x1c a b d 0x1)
  | .andd _ a b d => some (encReg 0x1c a b d 0x2)
  | .ord _ a b d => some (encReg 0x1c a b d 0x3)
  | .maxd _ a b d => some (encReg 0x1c a b d 0x4)
  | .beq _ a b i => some (encImm 0x20 a b i)
  | .bne _ a b i => some (encImm 0x21 a b i)
  | .blt _ a b i => some (encImm 0x22 a b i)
  | .bge _ a b i => some (encImm 0x23 a b i)
  | .bltu _ a b i => some (encImm 0x24 a b i)
  | .bgeu _ a b i => some (encImm 0x25 a b i)
  | .j _ i => some (encJmp 0x26 i)
  | .jal _ i => some (encJmp 0x27 i)
  | .mfcr _ a b cr => some (encSys a b 0x0 cr)
  | .mtcr _ a b cr => some (encSys a b 0x1 cr)
  | .fence _ a b cr => some (encSys a b 0x2 cr)
  | .tret _ a b cr => some (encSys a b 0x3 cr)
  | .brk _ a b cr => some (encSys a b 0x4 cr)
  | .tdispatch _ a b d => some (encReg 0x2a a b d 0x0)
  | .tspawn _ a b d => some (encReg 0x2a a b d 0x1)
  | .twait _ a b d => some (encReg 0x2a a b d 0x2)
  | .tyield _ a b d => some (encReg 0x2a a b d 0x3)
  | .texit _ a b d => some (encReg 0x2a a b d 0x4)
  | .tsetpri _ a b d => some (encReg 0x2a a b d 0x5)
  | .tevent _ a b d => some (encReg 0x2b a b d 0x0)
  | .fadmit _ a b d => some (encReg 0x2c a b d 0x0)
  | .frelease _ a b d => some (encReg 0x2c a b d 0x1)
  | .fvoid _ a b d => some (encReg 0x2c a b d 0x2)
  | .topen _ a b d => some (encReg 0x2d a b d 0x0)
  | .tcommit _ a b d => some (encReg 0x2d a b d 0x1)
  | .tsquash _ a b d => some (encReg 0x2d a b d 0x2)
  | .tfree _ a b d => some (encReg 0x2d a b d 0x3)
  | .tstate _ a b d => some (encReg 0x2d a b d 0x4)
  | .tattach _ a b d => some (encReg 0x2d a b d 0x5)
  | .ctxsv _ a b d => some (encReg 0x2e a b d 0x0)
  | .ctxld _ a b d => some (encReg 0x2e a b d 0x1)
  | .vclaim _ a b z mode => some (encVc a b 0x0 z mode)
  | .vsetclaim _ a b z mode => some (encVc a b 0x1 z mode)
  | .vadd _ sc a b d men m => some (encV (opVv sc) a b d men m 0x0)
  | .vsub _ sc a b d men m => some (encV (opVv sc) a b d men m 0x1)
  | .vmin _ sc a b d men m => some (encV (opVv sc) a b d men m 0x2)
  | .vmax _ sc a b d men m => some (encV (opVv sc) a b d men m 0x3)
  | .vand _ sc a b d men m => some (encV (opVv sc) a b d men m 0x4)
  | .vor _ sc a b d men m => some (encV (opVv sc) a b d men m 0x5)
  | .vxor _ sc a b d men m => some (encV (opVv sc) a b d men m 0x6)
  | .vsll _ sc a b d men m => some (encV (opVv sc) a b d men m 0x8)
  | .vsrl _ sc a b d men m => some (encV (opVv sc) a b d men m 0x9)
  | .vsra _ sc a b d men m => some (encV (opVv sc) a b d men m 0xa)
  | .vsrar _ sc a b d men m => some (encV (opVv sc) a b d men m 0xb)
  | .vabs _ sc a b d men m => some (encV (opVv sc) a b d men m 0xc)
  | .vneg _ sc a b d men m => some (encV (opVv sc) a b d men m 0xd)
  | .vconj _ sc a b d men m => some (encV (opVv sc) a b d men m 0xe)
  | .vmul _ sc a b d men m => some (encV (opVv sc) a b d men m 0x10)
  | .vmulc _ sc a b d men m => some (encV (opVv sc) a b d men m 0x11)
  | .vmac _ sc a b d men m => some (encV (opVv sc) a b d men m 0x12)
  | .vmacc _ sc a b d men m => some (encV (opVv sc) a b d men m 0x13)
  | .vmsub _ sc a b d men m => some (encV (opVv sc) a b d men m 0x14)
  | .vwadd _ sc a b d men m => some (encV (opVv sc) a b d men m 0x18)
  | .vwmul _ sc a b d men m => some (encV (opVv sc) a b d men m 0x19)
  | .vwmulc _ sc a b d men m => some (encV (opVv sc) a b d men m 0x1a)
  | .vwmac _ sc a b d men m => some (encV (opVv sc) a b d men m 0x1b)
  | .vwmacc _ sc a b d men m => some (encV (opVv sc) a b d men m 0x1c)
  | .vpow _ sc a b d men m => some (encV (opVv sc) a b d men m 0x1d)
  | .vnarrow _ sc a b d men m => some (encV (opVv sc) a b d men m 0x20)
  | .vcvt _ sc a b d men m => some (encV (opVv sc) a b d men m 0x28)
  | .vaddi _ a b imm men m => some (encVi a b imm men m 0x0)
  | .vslli _ a b imm men m => some (encVi a b imm men m 0x1)
  | .vsrli _ a b imm men m => some (encVi a b imm men m 0x2)
  | .vsrai _ a b imm men m => some (encVi a b imm men m 0x3)
  | .vsrari _ a b imm men m => some (encVi a b imm men m 0x4)
  | .vnarrowi _ a b imm men m => some (encVi a b imm men m 0x5)
  | .vsplati _ a b imm men m => some (encVi a b imm men m 0x6)
  | .vld _ a b d men m mode z => some (encVl 0x34 a b d men m mode z)
  | .vst _ a b d men m mode z => some (encVl 0x35 a b d men m mode z)
  | .vredsum _ a b d men m => some (encV 0x36 a b d men m 0x0)
  | .vredmax _ a b d men m => some (encV 0x36 a b d men m 0x1)
  | .vredmin _ a b d men m => some (encV 0x36 a b d men m 0x2)
  | .vext _ a b d men m => some (encV 0x36 a b d men m 0x8)
  | .vins _ a b d men m => some (encV 0x36 a b d men m 0x9)
  | .vsplat _ a b d men m => some (encV 0x36 a b d men m 0xa)
  | .vslideup _ a b d men m => some (encV 0x36 a b d men m 0x10)
  | .vslidedn _ a b d men m => some (encV 0x36 a b d men m 0x11)
  | .vperm _ a b d men m => some (encV 0x36 a b d men m 0x12)
  | .vmv _ a b d men m => some (encV 0x36 a b d men m 0x18)
  | .vsel _ a b d men m => some (encV 0x36 a b d men m 0x19)
  | .vcmpeq _ a b d men m => some (encV 0x36 a b d men m 0x20)
  | .vcmplt _ a b d men m => some (encV 0x36 a b d men m 0x21)
  | .vcmple _ a b d men m => some (encV 0x36 a b d men m 0x22)
  | .vmand _ a b d men m => some (encV 0x36 a b d men m 0x28)
  | .vmor _ a b d men m => some (encV 0x36 a b d men m 0x29)
  | .vmxor _ a b d men m => some (encV 0x36 a b d men m 0x2a)
  | .vmandn _ a b d men m => some (encV 0x36 a b d men m 0x2b)
  | .vmpopc _ a b d men m => some (encV 0x36 a b d men m 0x2c)
  | .vmfirst _ a b d men m => some (encV 0x36 a b d men m 0x2d)
  | .ccorr _ a b d p => some (encFu 0x38 a b d p 0x0)
  | .cdesp _ a b d p => some (encFu 0x38 a b d p 0x1)
  | .cpeak _ a b d p => some (encFu 0x38 a b d p 0x2)
  | .lginit _ a b d p => some (encFu 0x39 a b d p 0x0)
  | .lgen _ a b d p => some (encFu 0x39 a b d p 0x1)
  | .lgenv _ a b d p => some (encFu 0x39 a b d p 0x2)
  | .lcrcinit _ a b d p => some (encFu 0x39 a b d p 0x3)
  | .lcrcg _ a b d p => some (encFu 0x39 a b d p 0x4)
  | .lcrcv _ a b d p => some (encFu 0x39 a b d p 0x5)
  | .lcrcrd _ a b d p => some (encFu 0x39 a b d p 0x6)
  | .demap _ f a b d p => some (encFu 0x3a a b d p f)
  | .isel _ a b d p => some (encFu 0x3b a b d p 0x0)
  | .ibil _ a b d p => some (encFu 0x3b a b d p 0x1)
  | .idil _ a b d p => some (encFu 0x3b a b d p 0x2)
  | .icomb _ a b d p => some (encFu 0x3b a b d p 0x3)
  | _ => none

/-- The core that an instruction's command names, for every command that has a word. -/
def coreOfInsn : Instr → Option (BitVec 8)
  | .add c _ _ _ => some c
  | .sub c _ _ _ => some c
  | .and c _ _ _ => some c
  | .or c _ _ _ => some c
  | .xor c _ _ _ => some c
  | .sll c _ _ _ => some c
  | .srl c _ _ _ => some c
  | .sra c _ _ _ => some c
  | .slt c _ _ _ => some c
  | .sltu c _ _ _ => some c
  | .min c _ _ _ => some c
  | .max c _ _ _ => some c
  | .minu c _ _ _ => some c
  | .maxu c _ _ _ => some c
  | .mul c _ _ _ => some c
  | .mulh c _ _ _ => some c
  | .mulhu c _ _ _ => some c
  | .clz c _ _ _ => some c
  | .popc c _ _ _ => some c
  | .abs c _ _ _ => some c
  | .addw c _ _ _ => some c
  | .subw c _ _ _ => some c
  | .andw c _ _ _ => some c
  | .orw c _ _ _ => some c
  | .xorw c _ _ _ => some c
  | .sllw c _ _ _ => some c
  | .srlw c _ _ _ => some c
  | .sraw c _ _ _ => some c
  | .mulw c _ _ _ => some c
  | .addi c _ _ _ => some c
  | .andi c _ _ _ => some c
  | .ori c _ _ _ => some c
  | .xori c _ _ _ => some c
  | .slti c _ _ _ => some c
  | .sltiu c _ _ _ => some c
  | .lui c _ _ _ => some c
  | .addiw c _ _ _ => some c
  | .jalr c _ _ _ => some c
  | .slli c _ _ _ _ => some c
  | .srli c _ _ _ _ => some c
  | .srai c _ _ _ _ => some c
  | .lb c _ _ _ => some c
  | .lbu c _ _ _ => some c
  | .lh c _ _ _ => some c
  | .lhu c _ _ _ => some c
  | .lw c _ _ _ => some c
  | .lwu c _ _ _ => some c
  | .ld c _ _ _ => some c
  | .sb c _ _ _ => some c
  | .sh c _ _ _ => some c
  | .sw c _ _ _ => some c
  | .sd c _ _ _ => some c
  | .swapd c _ _ _ => some c
  | .addd c _ _ _ => some c
  | .andd c _ _ _ => some c
  | .ord c _ _ _ => some c
  | .maxd c _ _ _ => some c
  | .beq c _ _ _ => some c
  | .bne c _ _ _ => some c
  | .blt c _ _ _ => some c
  | .bge c _ _ _ => some c
  | .bltu c _ _ _ => some c
  | .bgeu c _ _ _ => some c
  | .j c _ => some c
  | .jal c _ => some c
  | .mfcr c _ _ _ => some c
  | .mtcr c _ _ _ => some c
  | .fence c _ _ _ => some c
  | .tret c _ _ _ => some c
  | .brk c _ _ _ => some c
  | .tdispatch c _ _ _ => some c
  | .tspawn c _ _ _ => some c
  | .twait c _ _ _ => some c
  | .tyield c _ _ _ => some c
  | .texit c _ _ _ => some c
  | .tsetpri c _ _ _ => some c
  | .tevent c _ _ _ => some c
  | .fadmit c _ _ _ => some c
  | .frelease c _ _ _ => some c
  | .fvoid c _ _ _ => some c
  | .topen c _ _ _ => some c
  | .tcommit c _ _ _ => some c
  | .tsquash c _ _ _ => some c
  | .tfree c _ _ _ => some c
  | .tstate c _ _ _ => some c
  | .tattach c _ _ _ => some c
  | .ctxsv c _ _ _ => some c
  | .ctxld c _ _ _ => some c
  | .vclaim c _ _ _ _ => some c
  | .vsetclaim c _ _ _ _ => some c
  | .vadd c _ _ _ _ _ _ => some c
  | .vsub c _ _ _ _ _ _ => some c
  | .vmin c _ _ _ _ _ _ => some c
  | .vmax c _ _ _ _ _ _ => some c
  | .vand c _ _ _ _ _ _ => some c
  | .vor c _ _ _ _ _ _ => some c
  | .vxor c _ _ _ _ _ _ => some c
  | .vsll c _ _ _ _ _ _ => some c
  | .vsrl c _ _ _ _ _ _ => some c
  | .vsra c _ _ _ _ _ _ => some c
  | .vsrar c _ _ _ _ _ _ => some c
  | .vabs c _ _ _ _ _ _ => some c
  | .vneg c _ _ _ _ _ _ => some c
  | .vconj c _ _ _ _ _ _ => some c
  | .vmul c _ _ _ _ _ _ => some c
  | .vmulc c _ _ _ _ _ _ => some c
  | .vmac c _ _ _ _ _ _ => some c
  | .vmacc c _ _ _ _ _ _ => some c
  | .vmsub c _ _ _ _ _ _ => some c
  | .vwadd c _ _ _ _ _ _ => some c
  | .vwmul c _ _ _ _ _ _ => some c
  | .vwmulc c _ _ _ _ _ _ => some c
  | .vwmac c _ _ _ _ _ _ => some c
  | .vwmacc c _ _ _ _ _ _ => some c
  | .vpow c _ _ _ _ _ _ => some c
  | .vnarrow c _ _ _ _ _ _ => some c
  | .vcvt c _ _ _ _ _ _ => some c
  | .vaddi c _ _ _ _ _ => some c
  | .vslli c _ _ _ _ _ => some c
  | .vsrli c _ _ _ _ _ => some c
  | .vsrai c _ _ _ _ _ => some c
  | .vsrari c _ _ _ _ _ => some c
  | .vnarrowi c _ _ _ _ _ => some c
  | .vsplati c _ _ _ _ _ => some c
  | .vld c _ _ _ _ _ _ _ => some c
  | .vst c _ _ _ _ _ _ _ => some c
  | .vredsum c _ _ _ _ _ => some c
  | .vredmax c _ _ _ _ _ => some c
  | .vredmin c _ _ _ _ _ => some c
  | .vext c _ _ _ _ _ => some c
  | .vins c _ _ _ _ _ => some c
  | .vsplat c _ _ _ _ _ => some c
  | .vslideup c _ _ _ _ _ => some c
  | .vslidedn c _ _ _ _ _ => some c
  | .vperm c _ _ _ _ _ => some c
  | .vmv c _ _ _ _ _ => some c
  | .vsel c _ _ _ _ _ => some c
  | .vcmpeq c _ _ _ _ _ => some c
  | .vcmplt c _ _ _ _ _ => some c
  | .vcmple c _ _ _ _ _ => some c
  | .vmand c _ _ _ _ _ => some c
  | .vmor c _ _ _ _ _ => some c
  | .vmxor c _ _ _ _ _ => some c
  | .vmandn c _ _ _ _ _ => some c
  | .vmpopc c _ _ _ _ _ => some c
  | .vmfirst c _ _ _ _ _ => some c
  | .ccorr c _ _ _ _ => some c
  | .cdesp c _ _ _ _ => some c
  | .cpeak c _ _ _ _ => some c
  | .lginit c _ _ _ _ => some c
  | .lgen c _ _ _ _ => some c
  | .lgenv c _ _ _ _ => some c
  | .lcrcinit c _ _ _ _ => some c
  | .lcrcg c _ _ _ _ => some c
  | .lcrcv c _ _ _ _ => some c
  | .lcrcrd c _ _ _ _ => some c
  | .demap c _ _ _ _ _ => some c
  | .isel c _ _ _ _ => some c
  | .ibil c _ _ _ _ => some c
  | .idil c _ _ _ _ => some c
  | .icomb c _ _ _ _ => some c
  | _ => none

end Sys2Proof
end

