-- ==== Sys2Proof/Config.lean ====
section
/-!
DEFINITION. What the specification leaves open: constants without a body, so that nothing can be proved about their
values, each applied to the model's counter of free values or to the operands it depends on.
-/

namespace Sys2Proof.Config

/-- The value of a byte of data memory that nothing has written since its macro last gained power (R284): free, by the
counter of free values and the address. -/
opaque unwrittenByte : Nat → Nat → Byte

/-- Whether the parity of such a byte fails (R284): free. -/
opaque unwrittenBad : Nat → Nat → Bool

/-- Whether a failing read of such bytes writes a fault record (R284): free. -/
opaque unwrittenRecord : Nat → Bool

/-- A byte of host memory that the device has neither written nor been told: the host's. -/
opaque hostByte : Nat → Nat → Byte

/-- The byte that the host has stored at an address of its memory since the device was last told of it, as a coherent read
sees it (R336), by the counter of free values and the address: the host's. -/
opaque hostStore : Nat → Nat → Option Byte

/-- The same as a No Snoop read sees it, without what host caches hold modified (R337): the host's. -/
opaque hostStale : Nat → Nat → Option Byte

/-- Whether the branch predictor takes a branch whose sources run-ahead does not know (R92, R95): no state of the machine. -/
opaque predictTaken : Nat → Bool

/-- The target, without its two zero bits, that it gives such a JALR. -/
opaque predictTarget : Nat → BitVec 14

/-- Whether the host holds a tracked line of the HDM window modified when it is snooped (R340), and the bytes it holds: the
host's, by the counter of free values and line or address. -/
opaque hostDirty : Nat → Nat → Bool

/-- A byte of such a line. -/
opaque hostDirtyByte : Nat → Nat → Byte

/-- Whether a FRELEASE falls in the cycle of a squash of its item's token of the same tick (R231): free. -/
opaque sameCycle : Nat → Bool

/-- The fault that a unit's own checkers or monitors have found when the keystone takes a report, and its unit's index (R412): what
they find comes from outside the model, so it is free; a code that `foundFault` does not know says that they found none. -/
opaque checkerFault : Nat → Nat × Nat

/-- INIT of the events and eMarks of the TIME block, to which R83 gives no initiator number: free. -/
opaque timeInit : BitVec 12

/-- The set of the device cache that a line of host memory falls into (R342), and which of a full set's lines is given up, by
the counter of free values: not stated. -/
opaque dcSet : Nat → Nat

/-- The victim. -/
opaque dcVictim : Nat → Nat → Nat

/-- The set of the snoop filter that a line falls into, the filter's ways less one, and the way that a full set gives up
(R340): not stated. -/
opaque snoopSet : Nat → Nat

/-- Ways less one. -/
opaque snoopWays : Nat

/-- The victim. -/
opaque snoopVictim : Nat → Nat → Nat

/-- Whether a stop that closes had already reserved exit space for a packet in flight toward it from another ring (R279), by
the counter of free values, the stop and the packet's place in flight: free. -/
opaque admitted : Nat → Nat → Nat → Bool

/-- The stop that finds a packet's parity bad (R269), where it is on its way when it meets the error: free. -/
opaque parityNode : Nat → BitVec 8

/-- The 64-bit word of the corridor tables' control memory that holds a table word, by the word's key (R287), and the word of a
sieve's control memory that holds an object, by its kind (0 thread, 1 flow, 2 token) and number: the layouts are not stated. -/
opaque corrWord : Nat → Nat

/-- The word of a sieve. -/
opaque sieveWord : Nat → Nat → Nat

/-- The choice of an adaptive control-class route among the two bridges of a die (R273), by free counter, tick and die: free. -/
opaque adaptiveBridge : Nat → Nat → Nat → Bool

/-- What a counter reads whose events the model does not count (cycles, occupancies, flits, paths), by free counter, tick and
event: free. -/
opaque uncounted : Nat → Nat → Nat → BitVec 48

/-- The data word of a capture unit's event, of which R55 gives only the stamp: free. -/
opaque captureWord : Nat → Word

/-- How many of the bytes that a failing descriptor has read were written before it stopped (R257): free. -/
opaque moverProgress : Nat → Nat

/-- What a token instruction returns whose sieve lies behind a closed stop, of which R218 says nothing: free. -/
opaque sieveAnswer : Nat → BitVec 64

/-- A stamp of a result header that R174 does not define for its job: free. -/
opaque millStamp : Nat → Word

/-- The base graphs of TS 38.212 Tables 5.3.2-2 and 5.3.2-3: the shift of an edge by base graph, lifting set, row and
column, where there is an edge (R167). The standard's. -/
opaque ldpcEdge : Nat → Nat → Nat → Nat → Option Nat

/-- The coefficients f1 and f2 of the turbo code's interleaver for a block size: TS 36.212 Table 5.1.3-3 (R170). The
standard's. -/
opaque turboQpp : Nat → Nat × Nat

/-- Which of two paths of equal metric the polar list decoder puts first, by their bits (R169): not stated. -/
opaque polarTie : List Bool → List Bool → Bool

/-- Which of two paths of equal metric a Viterbi decoder or equaliser keeps, by their bits, last first (R171): not stated. -/
opaque viterbiTie : List Bool → List Bool → Bool

/-- The likelihood of a burst's window under a pattern of channel-length bits that ends at a bit of the burst, by parameters,
window, bit and pattern: it rests on the engine's channel estimate, of which R171 says nothing. -/
opaque gsmBranch : Nat → List Byte → Nat → Nat → Int

/-- The magnitude of a soft output of the equaliser, by parameters, window and index (R171): not stated. -/
opaque gsmSoft : Nat → List Byte → Nat → BitVec 7

/-- Timing offset and SNR estimate of a burst, as METRIC holds them (R174). -/
opaque gsmInfo : Nat → List Byte → BitVec 16

/-- Which way a transform's component half-way between two values of Q15 is rounded, by parameters, the symbol's samples or bins
and component (R172): not stated. -/
opaque fftTie : List Nat → List Byte → Nat → Bool

/-- The error of an FFT engine at a component: it counts modulo 5, less 2 (R172): free. -/
opaque fftError : Nat → Nat → Nat

/-- A quotient by zero in the corridor engine, whose result the specification does not state: free, by the dividend. -/
opaque corrQuot : Rat → Int

/-- The tag of an entry that the corridor engine or the receive path pushes, where the specification gives none: free. -/
opaque pushTag : Nat → BitVec 16

/-- The eAxC ID of an eCPRI message that R303 leaves unparsed, for rule keys and entries: free. -/
opaque unparsedKey : Nat → BitVec 16

/-- The buffer ring of a port's default queue, for which the specification gives no base: base and log of a slot. -/
opaque defaultBuf : Nat → BitVec 40

/-- The log of a slot of that ring. -/
opaque defaultSlotLog : Nat → BitVec 4

/-- The status of a transmit descriptor whose one-step Sync is dropped (R63), which R311 does not give: free. -/
opaque staleStatus : Nat → Byte

/-- The frequency, in Hz, that the board gives FH_REFCLK of a group (R314). -/
opaque fhRefclk : Nat → Nat

/-- Whether a SYSREF instant lies on a boundary of the LEMC whose phase an earlier one set: by link, its parameters, phase
and instant. The board's clocks decide (R315). -/
opaque lemcBoundary : Nat → Nat → BitVec 64 → BitVec 64 → Bool

/-- The data word of the event that announces a STATE frame, of which R437 says nothing: free. -/
opaque stateWord : Nat → Word

/-- Whether the board gives CXL_REFCLK under SRIS, not as a common clock (R427). -/
opaque cxlSris : Bool

/-- The SHA-384 digest of bytes, of 48 bytes: the standard's (R350). -/
opaque sha384 : List Byte → List Byte

/-- Whether an ECDSA P-384 signature over a digest verifies under a public key in SEC1 form: the standard's (R350). -/
opaque ecdsaP384 : List Byte → List Byte → List Byte → Bool

end Sys2Proof.Config
end

