-- ==== Sys2Proof/Machine/RegMap.lean ====
section
/-!
DEFINITION. The register map: every register of the register tables of the chapters, at its device address
(R1, R2), with its fields, their access types (R3) and reset values (R7). `R.<REGISTER>` is the address, with one
or two unit numbers where the table gives a family; `F.<REGISTER>_<FIELD>` is the field. One list per block of R262
holds the fields, their access types and reset values for the generic register write and the resets.
Reset values that depend on the unit are set apart in `regReset` (Machine/Ops.lean).
-/

namespace Sys2Proof.Machine

/-- A field of a register: address, lowest bit, width. -/
structure RF where
  a  : Nat
  lo : Nat
  w  : Nat
  deriving DecidableEq, Repr

/-- The access types of R3. -/
inductive Acc where
  | rw | ro | w1c | w1s | wo | rws | rwl
  deriving DecidableEq, Repr

/-- A field in a register's row of the register tables; `rep` is the lowest bit of the repeat count that a W1C flag has
beside it (R4), or 0 where it has none. -/
structure FieldDef where
  lo    : Nat
  w     : Nat
  acc   : Acc
  reset : Nat
  rep   : Nat
  deriving DecidableEq, Repr

/-- A register, or a family of `n1 * n2` registers at `base + i * s1 + j * s2`. -/
structure RegDef where
  base   : Nat
  n1     : Nat
  s1     : Nat
  n2     : Nat
  s2     : Nat
  fields : List FieldDef
  deriving DecidableEq, Repr

/-! ## GLOBAL -/

/-- GLOBAL_ID (03_hierarchy_and_address_map.md). -/
def R.GLOBAL_ID : Nat := 0x0
/-- GLOBAL_ID.PART. -/
def F.GLOBAL_ID_PART : RF := ⟨R.GLOBAL_ID, 0, 16⟩
/-- GLOBAL_ID.VENDOR. -/
def F.GLOBAL_ID_VENDOR : RF := ⟨R.GLOBAL_ID, 16, 12⟩
/-- GLOBAL_ID.FAMILY. -/
def F.GLOBAL_ID_FAMILY : RF := ⟨R.GLOBAL_ID, 28, 4⟩
/-- GLOBAL_STEP (03_hierarchy_and_address_map.md). -/
def R.GLOBAL_STEP : Nat := 0x4
/-- GLOBAL_STEP.MINOR. -/
def F.GLOBAL_STEP_MINOR : RF := ⟨R.GLOBAL_STEP, 0, 4⟩
/-- GLOBAL_STEP.MAJOR. -/
def F.GLOBAL_STEP_MAJOR : RF := ⟨R.GLOBAL_STEP, 4, 4⟩
/-- GLOBAL_SERIAL_LO (03_hierarchy_and_address_map.md). -/
def R.GLOBAL_SERIAL_LO : Nat := 0x8
/-- GLOBAL_SERIAL_LO.SERIAL. -/
def F.GLOBAL_SERIAL_LO_SERIAL : RF := ⟨R.GLOBAL_SERIAL_LO, 0, 32⟩
/-- GLOBAL_SERIAL_HI (03_hierarchy_and_address_map.md). -/
def R.GLOBAL_SERIAL_HI : Nat := 0xC
/-- GLOBAL_SERIAL_HI.SERIAL. -/
def F.GLOBAL_SERIAL_HI_SERIAL : RF := ⟨R.GLOBAL_SERIAL_HI, 0, 32⟩
/-- GLOBAL_STRAPS (03_hierarchy_and_address_map.md). -/
def R.GLOBAL_STRAPS : Nat := 0x10
/-- GLOBAL_STRAPS.ADDR_SEL. -/
def F.GLOBAL_STRAPS_ADDR_SEL : RF := ⟨R.GLOBAL_STRAPS, 0, 4⟩
/-- GLOBAL_WHOAMI (03_hierarchy_and_address_map.md). -/
def R.GLOBAL_WHOAMI : Nat := 0x14
/-- GLOBAL_WHOAMI.INIT. -/
def F.GLOBAL_WHOAMI_INIT : RF := ⟨R.GLOBAL_WHOAMI, 0, 12⟩
/-- GLOBAL_DRUSE_AVAIL (03_hierarchy_and_address_map.md). -/
def R.GLOBAL_DRUSE_AVAIL : Nat := 0x18
/-- GLOBAL_DRUSE_AVAIL.AVAIL. -/
def F.GLOBAL_DRUSE_AVAIL_AVAIL : RF := ⟨R.GLOBAL_DRUSE_AVAIL, 0, 32⟩
/-- GLOBAL_UNIT_AVAIL (03_hierarchy_and_address_map.md). -/
def R.GLOBAL_UNIT_AVAIL : Nat := 0x1C
/-- GLOBAL_UNIT_AVAIL.STRATA. -/
def F.GLOBAL_UNIT_AVAIL_STRATA : RF := ⟨R.GLOBAL_UNIT_AVAIL, 0, 8⟩
/-- GLOBAL_UNIT_AVAIL.DIES. -/
def F.GLOBAL_UNIT_AVAIL_DIES : RF := ⟨R.GLOBAL_UNIT_AVAIL, 8, 4⟩
/-- GLOBAL_UNIT_AVAIL.MILLS. -/
def F.GLOBAL_UNIT_AVAIL_MILLS : RF := ⟨R.GLOBAL_UNIT_AVAIL, 12, 4⟩
/-- GLOBAL_SCRATCH0 (03_hierarchy_and_address_map.md). -/
def R.GLOBAL_SCRATCH0 : Nat := 0x20
/-- GLOBAL_SCRATCH0.DATA. -/
def F.GLOBAL_SCRATCH0_DATA : RF := ⟨R.GLOBAL_SCRATCH0, 0, 32⟩
/-- GLOBAL_SCRATCH1 (03_hierarchy_and_address_map.md). -/
def R.GLOBAL_SCRATCH1 : Nat := 0x24
/-- GLOBAL_SCRATCH1.DATA. -/
def F.GLOBAL_SCRATCH1_DATA : RF := ⟨R.GLOBAL_SCRATCH1, 0, 32⟩
/-- GLOBAL_SCRATCH2 (03_hierarchy_and_address_map.md). -/
def R.GLOBAL_SCRATCH2 : Nat := 0x28
/-- GLOBAL_SCRATCH2.DATA. -/
def F.GLOBAL_SCRATCH2_DATA : RF := ⟨R.GLOBAL_SCRATCH2, 0, 32⟩
/-- GLOBAL_SCRATCH3 (03_hierarchy_and_address_map.md). -/
def R.GLOBAL_SCRATCH3 : Nat := 0x2C
/-- GLOBAL_SCRATCH3.DATA. -/
def F.GLOBAL_SCRATCH3_DATA : RF := ⟨R.GLOBAL_SCRATCH3, 0, 32⟩
/-- GLOBAL_KS_STAT (18_faults_and_twin_pair.md). -/
def R.GLOBAL_KS_STAT : Nat := 0x1000
/-- GLOBAL_KS_STAT.SAFE_HALT. -/
def F.GLOBAL_KS_STAT_SAFE_HALT : RF := ⟨R.GLOBAL_KS_STAT, 0, 1⟩
/-- GLOBAL_KS_STAT.KS_DISAGREE. -/
def F.GLOBAL_KS_STAT_KS_DISAGREE : RF := ⟨R.GLOBAL_KS_STAT, 1, 1⟩
/-- GLOBAL_KS_STAT.KS_SILENT. -/
def F.GLOBAL_KS_STAT_KS_SILENT : RF := ⟨R.GLOBAL_KS_STAT, 2, 1⟩
/-- GLOBAL_KS_STAT.FAULT_N. -/
def F.GLOBAL_KS_STAT_FAULT_N : RF := ⟨R.GLOBAL_KS_STAT, 3, 1⟩
/-- GLOBAL_KS_STAT.SENT_ISO. -/
def F.GLOBAL_KS_STAT_SENT_ISO : RF := ⟨R.GLOBAL_KS_STAT, 4, 4⟩
/-- GLOBAL_KS_STAT.HALT_RAIL. -/
def F.GLOBAL_KS_STAT_HALT_RAIL : RF := ⟨R.GLOBAL_KS_STAT, 8, 1⟩
/-- GLOBAL_KS_CFG (18_faults_and_twin_pair.md). -/
def R.GLOBAL_KS_CFG : Nat := 0x1004
/-- GLOBAL_KS_CFG.HANG. -/
def F.GLOBAL_KS_CFG_HANG : RF := ⟨R.GLOBAL_KS_CFG, 0, 10⟩
/-- GLOBAL_KS_CFG.RST_LIMIT. -/
def F.GLOBAL_KS_CFG_RST_LIMIT : RF := ⟨R.GLOBAL_KS_CFG, 12, 4⟩
/-- GLOBAL_KS_CMD (18_faults_and_twin_pair.md). -/
def R.GLOBAL_KS_CMD : Nat := 0x1008
/-- GLOBAL_KS_CMD.INDEX. -/
def F.GLOBAL_KS_CMD_INDEX : RF := ⟨R.GLOBAL_KS_CMD, 0, 8⟩
/-- GLOBAL_KS_CMD.OP. -/
def F.GLOBAL_KS_CMD_OP : RF := ⟨R.GLOBAL_KS_CMD, 8, 3⟩
/-- GLOBAL_KS_CMD_STAT (18_faults_and_twin_pair.md). -/
def R.GLOBAL_KS_CMD_STAT : Nat := 0x100C
/-- GLOBAL_KS_CMD_STAT.BUSY. -/
def F.GLOBAL_KS_CMD_STAT_BUSY : RF := ⟨R.GLOBAL_KS_CMD_STAT, 0, 1⟩
/-- GLOBAL_KS_CMD_STAT.REFUSED. -/
def F.GLOBAL_KS_CMD_STAT_REFUSED : RF := ⟨R.GLOBAL_KS_CMD_STAT, 1, 1⟩
/-- GLOBAL_KS_CMD_STAT.REFUSED_REP. -/
def F.GLOBAL_KS_CMD_STAT_REFUSED_REP : RF := ⟨R.GLOBAL_KS_CMD_STAT, 8, 8⟩
/-- GLOBAL_CORE_HELD (18_faults_and_twin_pair.md). -/
def R.GLOBAL_CORE_HELD (i : Nat) : Nat := 0x1010 + 4 * i
/-- GLOBAL_CORE_HELD.HELD. -/
def F.GLOBAL_CORE_HELD_HELD (i : Nat) : RF := ⟨R.GLOBAL_CORE_HELD i, 0, 32⟩
/-- GLOBAL_RESTARTS (18_faults_and_twin_pair.md). -/
def R.GLOBAL_RESTARTS : Nat := 0x1030
/-- GLOBAL_RESTARTS.COUNT. -/
def F.GLOBAL_RESTARTS_COUNT : RF := ⟨R.GLOBAL_RESTARTS, 0, 32⟩
/-- GLOBAL_FR_BASE_LO (18_faults_and_twin_pair.md). -/
def R.GLOBAL_FR_BASE_LO : Nat := 0x1040
/-- GLOBAL_FR_BASE_LO.BASE. -/
def F.GLOBAL_FR_BASE_LO_BASE : RF := ⟨R.GLOBAL_FR_BASE_LO, 0, 32⟩
/-- GLOBAL_FR_CFG (18_faults_and_twin_pair.md). -/
def R.GLOBAL_FR_CFG : Nat := 0x1044
/-- GLOBAL_FR_CFG.BASE_HI. -/
def F.GLOBAL_FR_CFG_BASE_HI : RF := ⟨R.GLOBAL_FR_CFG, 0, 8⟩
/-- GLOBAL_FR_CFG.EN. -/
def F.GLOBAL_FR_CFG_EN : RF := ⟨R.GLOBAL_FR_CFG, 8, 1⟩
/-- GLOBAL_FR_WR (18_faults_and_twin_pair.md). -/
def R.GLOBAL_FR_WR : Nat := 0x1048
/-- GLOBAL_FR_WR.WR. -/
def F.GLOBAL_FR_WR_WR : RF := ⟨R.GLOBAL_FR_WR, 0, 32⟩
/-- GLOBAL_FR_RD (18_faults_and_twin_pair.md). -/
def R.GLOBAL_FR_RD : Nat := 0x104C
/-- GLOBAL_FR_RD.RD. -/
def F.GLOBAL_FR_RD_RD : RF := ⟨R.GLOBAL_FR_RD, 0, 32⟩
/-- GLOBAL_FR_NOTIFY (18_faults_and_twin_pair.md). -/
def R.GLOBAL_FR_NOTIFY : Nat := 0x1050
/-- GLOBAL_FR_NOTIFY.EVENT_ID. -/
def F.GLOBAL_FR_NOTIFY_EVENT_ID : RF := ⟨R.GLOBAL_FR_NOTIFY, 0, 16⟩
/-- GLOBAL_FR_NOTIFY.STRATA. -/
def F.GLOBAL_FR_NOTIFY_STRATA : RF := ⟨R.GLOBAL_FR_NOTIFY, 16, 8⟩
/-- GLOBAL_FR_NOTIFY.EVT_EN. -/
def F.GLOBAL_FR_NOTIFY_EVT_EN : RF := ⟨R.GLOBAL_FR_NOTIFY, 24, 1⟩
/-- GLOBAL_FR_MSI (18_faults_and_twin_pair.md). -/
def R.GLOBAL_FR_MSI : Nat := 0x1054
/-- GLOBAL_FR_MSI.VECTOR. -/
def F.GLOBAL_FR_MSI_VECTOR : RF := ⟨R.GLOBAL_FR_MSI, 0, 11⟩
/-- GLOBAL_FR_MSI.MSI_EN. -/
def F.GLOBAL_FR_MSI_MSI_EN : RF := ⟨R.GLOBAL_FR_MSI, 11, 1⟩
/-- GLOBAL_FR_STAT (18_faults_and_twin_pair.md). -/
def R.GLOBAL_FR_STAT : Nat := 0x1058
/-- GLOBAL_FR_STAT.OVF. -/
def F.GLOBAL_FR_STAT_OVF : RF := ⟨R.GLOBAL_FR_STAT, 0, 1⟩
/-- GLOBAL_FR_STAT.CFG_BAD. -/
def F.GLOBAL_FR_STAT_CFG_BAD : RF := ⟨R.GLOBAL_FR_STAT, 1, 1⟩
/-- GLOBAL_FR_STAT.OVF_REP. -/
def F.GLOBAL_FR_STAT_OVF_REP : RF := ⟨R.GLOBAL_FR_STAT, 8, 8⟩
/-- GLOBAL_FR_LOST (18_faults_and_twin_pair.md). -/
def R.GLOBAL_FR_LOST : Nat := 0x105C
/-- GLOBAL_FR_LOST.LOST. -/
def F.GLOBAL_FR_LOST_LOST : RF := ⟨R.GLOBAL_FR_LOST, 0, 32⟩
/-- GLOBAL_DISC_NOTIFY (18_faults_and_twin_pair.md). -/
def R.GLOBAL_DISC_NOTIFY : Nat := 0x1060
/-- GLOBAL_DISC_NOTIFY.EVENT_ID. -/
def F.GLOBAL_DISC_NOTIFY_EVENT_ID : RF := ⟨R.GLOBAL_DISC_NOTIFY, 0, 16⟩
/-- GLOBAL_DISC_NOTIFY.STRATA. -/
def F.GLOBAL_DISC_NOTIFY_STRATA : RF := ⟨R.GLOBAL_DISC_NOTIFY, 16, 8⟩
/-- GLOBAL_DISC_MSI (18_faults_and_twin_pair.md). -/
def R.GLOBAL_DISC_MSI : Nat := 0x1064
/-- GLOBAL_DISC_MSI.VECTOR. -/
def F.GLOBAL_DISC_MSI_VECTOR : RF := ⟨R.GLOBAL_DISC_MSI, 0, 11⟩
/-- GLOBAL_DISC_MSI.MSI_EN. -/
def F.GLOBAL_DISC_MSI_MSI_EN : RF := ⟨R.GLOBAL_DISC_MSI, 11, 1⟩
/-- GLOBAL_PIN_GPIO (18_faults_and_twin_pair.md). -/
def R.GLOBAL_PIN_GPIO : Nat := 0x1070
/-- GLOBAL_PIN_GPIO.LIMIT. -/
def F.GLOBAL_PIN_GPIO_LIMIT : RF := ⟨R.GLOBAL_PIN_GPIO, 0, 32⟩
/-- GLOBAL_PIN_OUT (18_faults_and_twin_pair.md). -/
def R.GLOBAL_PIN_OUT : Nat := 0x1074
/-- GLOBAL_PIN_OUT.PPS_LIMIT. -/
def F.GLOBAL_PIN_OUT_PPS_LIMIT : RF := ⟨R.GLOBAL_PIN_OUT, 0, 2⟩
/-- GLOBAL_PIN_OUT.SYSREF_LIMIT. -/
def F.GLOBAL_PIN_OUT_SYSREF_LIMIT : RF := ⟨R.GLOBAL_PIN_OUT, 2, 8⟩
/-- GLOBAL_PIN_OUT.LIMIT_REP. -/
def F.GLOBAL_PIN_OUT_LIMIT_REP : RF := ⟨R.GLOBAL_PIN_OUT, 16, 8⟩
/-- GLOBAL_PPSIN (18_faults_and_twin_pair.md). -/
def R.GLOBAL_PPSIN : Nat := 0x1078
/-- GLOBAL_PPSIN.INV. -/
def F.GLOBAL_PPSIN_INV : RF := ⟨R.GLOBAL_PPSIN, 0, 2⟩
/-- GLOBAL_PPSIN.PPS_BAD. -/
def F.GLOBAL_PPSIN_PPS_BAD : RF := ⟨R.GLOBAL_PPSIN, 2, 2⟩
/-- GLOBAL_PPSIN.POL_INV. -/
def F.GLOBAL_PPSIN_POL_INV : RF := ⟨R.GLOBAL_PPSIN, 4, 2⟩
/-- GLOBAL_CLK_STAT (18_faults_and_twin_pair.md). -/
def R.GLOBAL_CLK_STAT : Nat := 0x107C
/-- GLOBAL_CLK_STAT.CORE_REF. -/
def F.GLOBAL_CLK_STAT_CORE_REF : RF := ⟨R.GLOBAL_CLK_STAT, 0, 1⟩
/-- GLOBAL_CLK_STAT.FH_REF. -/
def F.GLOBAL_CLK_STAT_FH_REF : RF := ⟨R.GLOBAL_CLK_STAT, 1, 4⟩
/-- GLOBAL_CLK_STAT.CXL_REF. -/
def F.GLOBAL_CLK_STAT_CXL_REF : RF := ⟨R.GLOBAL_CLK_STAT, 5, 1⟩
/-- GLOBAL_CLK_STAT.TIME_REF. -/
def F.GLOBAL_CLK_STAT_TIME_REF : RF := ⟨R.GLOBAL_CLK_STAT, 6, 1⟩
/-- GLOBAL_CLK_STAT.CLK_LOST. -/
def F.GLOBAL_CLK_STAT_CLK_LOST : RF := ⟨R.GLOBAL_CLK_STAT, 8, 1⟩
/-- GLOBAL_CLK_STAT.LOST_REP. -/
def F.GLOBAL_CLK_STAT_LOST_REP : RF := ⟨R.GLOBAL_CLK_STAT, 16, 8⟩
/-- GLOBAL_DROOP (18_faults_and_twin_pair.md). -/
def R.GLOBAL_DROOP : Nat := 0x1080
/-- GLOBAL_DROOP.TRIP. -/
def F.GLOBAL_DROOP_TRIP : RF := ⟨R.GLOBAL_DROOP, 0, 5⟩
/-- GLOBAL_DROOP.TRIPS. -/
def F.GLOBAL_DROOP_TRIPS : RF := ⟨R.GLOBAL_DROOP, 16, 16⟩
/-- GLOBAL_RST (18_faults_and_twin_pair.md). -/
def R.GLOBAL_RST : Nat := 0x1100
/-- GLOBAL_RST.KEY. -/
def F.GLOBAL_RST_KEY : RF := ⟨R.GLOBAL_RST, 0, 16⟩

/-- The registers of block GLOBAL, part 0. -/
def regDefsGLOBAL0 : List RegDef := [
  ⟨0x0, 1, 1, 1, 1, [⟨0, 16, .ro, 10262, 0⟩, ⟨16, 12, .ro, 229, 0⟩, ⟨28, 4, .ro, 3, 0⟩]⟩,
  ⟨0x4, 1, 1, 1, 1, [⟨0, 4, .ro, 1, 0⟩, ⟨4, 4, .ro, 1, 0⟩]⟩,
  ⟨0x8, 1, 1, 1, 1, [⟨0, 32, .ro, 0, 0⟩]⟩,
  ⟨0xC, 1, 1, 1, 1, [⟨0, 32, .ro, 0, 0⟩]⟩,
  ⟨0x10, 1, 1, 1, 1, [⟨0, 4, .ro, 0, 0⟩]⟩,
  ⟨0x14, 1, 1, 1, 1, [⟨0, 12, .ro, 0, 0⟩]⟩,
  ⟨0x18, 1, 1, 1, 1, [⟨0, 32, .ro, 4294967295, 0⟩]⟩,
  ⟨0x1C, 1, 1, 1, 1, [⟨0, 8, .ro, 255, 0⟩, ⟨8, 4, .ro, 15, 0⟩, ⟨12, 4, .ro, 15, 0⟩]⟩,
  ⟨0x20, 1, 1, 1, 1, [⟨0, 32, .rws, 0, 0⟩]⟩,
  ⟨0x24, 1, 1, 1, 1, [⟨0, 32, .rws, 0, 0⟩]⟩,
  ⟨0x28, 1, 1, 1, 1, [⟨0, 32, .rws, 0, 0⟩]⟩,
  ⟨0x2C, 1, 1, 1, 1, [⟨0, 32, .rws, 0, 0⟩]⟩]

/-- The registers of block GLOBAL, part 1. -/
def regDefsGLOBAL1 : List RegDef := [
  ⟨0x1000, 1, 1, 1, 1, [⟨0, 1, .ro, 0, 0⟩, ⟨1, 1, .rws, 0, 0⟩, ⟨2, 1, .rws, 0, 0⟩, ⟨3, 1, .ro, 0, 0⟩, ⟨4, 4, .rws, 0, 0⟩, ⟨8, 1, .rws, 0, 0⟩]⟩,
  ⟨0x1004, 1, 1, 1, 1, [⟨0, 10, .rw, 100, 0⟩, ⟨12, 4, .rw, 3, 0⟩]⟩,
  ⟨0x1008, 1, 1, 1, 1, [⟨0, 8, .wo, 0, 0⟩, ⟨8, 3, .wo, 0, 0⟩]⟩,
  ⟨0x100C, 1, 1, 1, 1, [⟨0, 1, .ro, 0, 0⟩, ⟨1, 1, .w1c, 0, 8⟩, ⟨8, 8, .ro, 0, 0⟩]⟩,
  ⟨0x1010, 8, 4, 1, 1, [⟨0, 32, .ro, 4294967295, 0⟩]⟩,
  ⟨0x1030, 1, 1, 1, 1, [⟨0, 32, .ro, 0, 0⟩]⟩,
  ⟨0x1040, 1, 1, 1, 1, [⟨0, 32, .rw, 0, 0⟩]⟩,
  ⟨0x1044, 1, 1, 1, 1, [⟨0, 8, .rw, 0, 0⟩, ⟨8, 1, .rw, 0, 0⟩]⟩,
  ⟨0x1048, 1, 1, 1, 1, [⟨0, 32, .ro, 0, 0⟩]⟩,
  ⟨0x104C, 1, 1, 1, 1, [⟨0, 32, .rw, 0, 0⟩]⟩,
  ⟨0x1050, 1, 1, 1, 1, [⟨0, 16, .rw, 0, 0⟩, ⟨16, 8, .rw, 0, 0⟩, ⟨24, 1, .rw, 0, 0⟩]⟩,
  ⟨0x1054, 1, 1, 1, 1, [⟨0, 11, .rw, 0, 0⟩, ⟨11, 1, .rw, 0, 0⟩]⟩]

/-- The registers of block GLOBAL, part 2. A 1 written to a flag of GLOBAL_PIN_GPIO clears the flag alone: LIMIT_REP, which
counts over all pins and stands in another register, keeps its count (DESIGN CHOICE: R4 does not say; log entry 93). -/
def regDefsGLOBAL2 : List RegDef := [
  ⟨0x1058, 1, 1, 1, 1, [⟨0, 1, .w1c, 0, 8⟩, ⟨1, 1, .w1c, 0, 0⟩, ⟨8, 8, .ro, 0, 0⟩]⟩,
  ⟨0x105C, 1, 1, 1, 1, [⟨0, 32, .ro, 0, 0⟩]⟩,
  ⟨0x1060, 1, 1, 1, 1, [⟨0, 16, .rw, 0, 0⟩, ⟨16, 8, .rw, 0, 0⟩]⟩,
  ⟨0x1064, 1, 1, 1, 1, [⟨0, 11, .rw, 0, 0⟩, ⟨11, 1, .rw, 0, 0⟩]⟩,
  ⟨0x1070, 1, 1, 1, 1, [⟨0, 32, .w1c, 0, 0⟩]⟩,
  ⟨0x1074, 1, 1, 1, 1, [⟨0, 2, .w1c, 0, 16⟩, ⟨2, 8, .w1c, 0, 16⟩, ⟨16, 8, .ro, 0, 0⟩]⟩,
  ⟨0x1078, 1, 1, 1, 1, [⟨0, 2, .ro, 0, 0⟩, ⟨2, 2, .w1c, 0, 0⟩, ⟨4, 2, .w1c, 0, 0⟩]⟩,
  ⟨0x107C, 1, 1, 1, 1, [⟨0, 1, .ro, 0, 0⟩, ⟨1, 4, .ro, 0, 0⟩, ⟨5, 1, .ro, 0, 0⟩, ⟨6, 1, .ro, 0, 0⟩, ⟨8, 1, .w1c, 0, 16⟩, ⟨16, 8, .ro, 0, 0⟩]⟩,
  ⟨0x1080, 1, 1, 1, 1, [⟨0, 5, .w1c, 0, 0⟩, ⟨16, 16, .ro, 0, 0⟩]⟩,
  ⟨0x1100, 1, 1, 1, 1, [⟨0, 16, .wo, 0, 0⟩]⟩]

/-- The registers of block GLOBAL. -/
def regDefsGLOBAL : List RegDef := regDefsGLOBAL0 ++ regDefsGLOBAL1 ++ regDefsGLOBAL2

/-! ## TIME -/

/-- TIME_REF_CFG (02_time_and_stamps.md). -/
def R.TIME_REF_CFG : Nat := 0x1000000
/-- TIME_REF_CFG.SRC. -/
def F.TIME_REF_CFG_SRC : RF := ⟨R.TIME_REF_CFG, 0, 1⟩
/-- TIME_REF_CFG.FREQ. -/
def F.TIME_REF_CFG_FREQ : RF := ⟨R.TIME_REF_CFG, 1, 1⟩
/-- TIME_REF_CFG.HOLD_EXIT_AUTO. -/
def F.TIME_REF_CFG_HOLD_EXIT_AUTO : RF := ⟨R.TIME_REF_CFG, 2, 1⟩
/-- TIME_REF_CFG.RELOCK. -/
def F.TIME_REF_CFG_RELOCK : RF := ⟨R.TIME_REF_CFG, 3, 1⟩
/-- TIME_REF_STAT (02_time_and_stamps.md). -/
def R.TIME_REF_STAT : Nat := 0x1000004
/-- TIME_REF_STAT.LOCK. -/
def F.TIME_REF_STAT_LOCK : RF := ⟨R.TIME_REF_STAT, 0, 1⟩
/-- TIME_REF_STAT.HOLDOVER. -/
def F.TIME_REF_STAT_HOLDOVER : RF := ⟨R.TIME_REF_STAT, 1, 1⟩
/-- TIME_REF_STAT.REF_LOST. -/
def F.TIME_REF_STAT_REF_LOST : RF := ⟨R.TIME_REF_STAT, 2, 1⟩
/-- TIME_REF_STAT.DORMANT_GAP. -/
def F.TIME_REF_STAT_DORMANT_GAP : RF := ⟨R.TIME_REF_STAT, 3, 1⟩
/-- TIME_REF_STAT.REF_LOST_REP. -/
def F.TIME_REF_STAT_REF_LOST_REP : RF := ⟨R.TIME_REF_STAT, 8, 8⟩
/-- TIME_SNAP (02_time_and_stamps.md). -/
def R.TIME_SNAP : Nat := 0x1000008
/-- TIME_SNAP.MASK. -/
def F.TIME_SNAP_MASK : RF := ⟨R.TIME_SNAP, 0, 8⟩
/-- TIME_PPSIN_CFG (02_time_and_stamps.md). -/
def R.TIME_PPSIN_CFG : Nat := 0x100000C
/-- TIME_PPSIN_CFG.POL_AUTO. -/
def F.TIME_PPSIN_CFG_POL_AUTO : RF := ⟨R.TIME_PPSIN_CFG, 0, 1⟩
/-- TIME_SYNCE_CFG (02_time_and_stamps.md). -/
def R.TIME_SYNCE_CFG : Nat := 0x1000010
/-- TIME_SYNCE_CFG.EN. -/
def F.TIME_SYNCE_CFG_EN : RF := ⟨R.TIME_SYNCE_CFG, 0, 1⟩
/-- TIME_SYNCE_CFG.LANE. -/
def F.TIME_SYNCE_CFG_LANE : RF := ⟨R.TIME_SYNCE_CFG, 8, 5⟩
/-- TIME_SYNCE_CFG.DIV. -/
def F.TIME_SYNCE_CFG_DIV : RF := ⟨R.TIME_SYNCE_CFG, 16, 3⟩
/-- TIME_SYNCE_CFG.SQUELCH_AUTO. -/
def F.TIME_SYNCE_CFG_SQUELCH_AUTO : RF := ⟨R.TIME_SYNCE_CFG, 20, 1⟩
/-- TIME_SYNCE_STAT (02_time_and_stamps.md). -/
def R.TIME_SYNCE_STAT : Nat := 0x1000014
/-- TIME_SYNCE_STAT.ACTIVE. -/
def F.TIME_SYNCE_STAT_ACTIVE : RF := ⟨R.TIME_SYNCE_STAT, 0, 1⟩
/-- TIME_SYNCE_STAT.SRC_BAD. -/
def F.TIME_SYNCE_STAT_SRC_BAD : RF := ⟨R.TIME_SYNCE_STAT, 1, 1⟩
/-- TIME_SYNCE_STAT.SRC_BAD_REP. -/
def F.TIME_SYNCE_STAT_SRC_BAD_REP : RF := ⟨R.TIME_SYNCE_STAT, 8, 8⟩
/-- TIME_TB_NS (02_time_and_stamps.md). -/
def R.TIME_TB_NS (i : Nat) : Nat := 0x1001000 + 64 * i
/-- TIME_TB_NS.NS. -/
def F.TIME_TB_NS_NS (i : Nat) : RF := ⟨R.TIME_TB_NS i, 0, 32⟩
/-- TIME_TB_FRAC (02_time_and_stamps.md). -/
def R.TIME_TB_FRAC (i : Nat) : Nat := 0x1001004 + 64 * i
/-- TIME_TB_FRAC.FRAC. -/
def F.TIME_TB_FRAC_FRAC (i : Nat) : RF := ⟨R.TIME_TB_FRAC i, 0, 32⟩
/-- TIME_TB_RATE (02_time_and_stamps.md). -/
def R.TIME_TB_RATE (i : Nat) : Nat := 0x100100C + 64 * i
/-- TIME_TB_RATE.RATE. -/
def F.TIME_TB_RATE_RATE (i : Nat) : RF := ⟨R.TIME_TB_RATE i, 0, 32⟩
/-- TIME_TB_STEP_NS (02_time_and_stamps.md). -/
def R.TIME_TB_STEP_NS (i : Nat) : Nat := 0x1001010 + 64 * i
/-- TIME_TB_STEP_NS.STEP_NS. -/
def F.TIME_TB_STEP_NS_STEP_NS (i : Nat) : RF := ⟨R.TIME_TB_STEP_NS i, 0, 32⟩
/-- TIME_TB_STEP_FRAC (02_time_and_stamps.md). -/
def R.TIME_TB_STEP_FRAC (i : Nat) : Nat := 0x1001014 + 64 * i
/-- TIME_TB_STEP_FRAC.STEP_FRAC. -/
def F.TIME_TB_STEP_FRAC_STEP_FRAC (i : Nat) : RF := ⟨R.TIME_TB_STEP_FRAC i, 0, 32⟩
/-- TIME_TB_CMD (02_time_and_stamps.md). -/
def R.TIME_TB_CMD (i : Nat) : Nat := 0x1001018 + 64 * i
/-- TIME_TB_CMD.STEP_GO. -/
def F.TIME_TB_CMD_STEP_GO (i : Nat) : RF := ⟨R.TIME_TB_CMD i, 0, 1⟩
/-- TIME_TB_SNAP_NS (02_time_and_stamps.md). -/
def R.TIME_TB_SNAP_NS (i : Nat) : Nat := 0x1001020 + 64 * i
/-- TIME_TB_SNAP_NS.SNAP_NS. -/
def F.TIME_TB_SNAP_NS_SNAP_NS (i : Nat) : RF := ⟨R.TIME_TB_SNAP_NS i, 0, 32⟩
/-- TIME_TB_SNAP_FRAC (02_time_and_stamps.md). -/
def R.TIME_TB_SNAP_FRAC (i : Nat) : Nat := 0x1001024 + 64 * i
/-- TIME_TB_SNAP_FRAC.SNAP_FRAC. -/
def F.TIME_TB_SNAP_FRAC_SNAP_FRAC (i : Nat) : RF := ⟨R.TIME_TB_SNAP_FRAC i, 0, 32⟩
/-- TIME_TB_STEP_AT (02_time_and_stamps.md). -/
def R.TIME_TB_STEP_AT (i : Nat) : Nat := 0x1001028 + 64 * i
/-- TIME_TB_STEP_AT.STEP_AT. -/
def F.TIME_TB_STEP_AT_STEP_AT (i : Nat) : RF := ⟨R.TIME_TB_STEP_AT i, 0, 32⟩
/-- TIME_TB_CFG (02_time_and_stamps.md). -/
def R.TIME_TB_CFG (i : Nat) : Nat := 0x1001008 + 64 * i
/-- TIME_TB_CFG.EN. -/
def F.TIME_TB_CFG_EN (i : Nat) : RF := ⟨R.TIME_TB_CFG i, 0, 1⟩
/-- TIME_TB_CFG.ROLE. -/
def F.TIME_TB_CFG_ROLE (i : Nat) : RF := ⟨R.TIME_TB_CFG i, 1, 3⟩
/-- TIME_TB_CFG.TWIN_LOCK. -/
def F.TIME_TB_CFG_TWIN_LOCK (i : Nat) : RF := ⟨R.TIME_TB_CFG i, 8, 1⟩
/-- TIME_TB_STAT (02_time_and_stamps.md). -/
def R.TIME_TB_STAT (i : Nat) : Nat := 0x100101C + 64 * i
/-- TIME_TB_STAT.RATE_CLAMP. -/
def F.TIME_TB_STAT_RATE_CLAMP (i : Nat) : RF := ⟨R.TIME_TB_STAT i, 0, 1⟩
/-- TIME_TB_STAT.STEPPED. -/
def F.TIME_TB_STAT_STEPPED (i : Nat) : RF := ⟨R.TIME_TB_STAT i, 1, 1⟩
/-- TIME_TB_STAT.LOCK_DISCARD. -/
def F.TIME_TB_STAT_LOCK_DISCARD (i : Nat) : RF := ⟨R.TIME_TB_STAT i, 2, 1⟩
/-- TIME_TB_STAT.STEP_LOST. -/
def F.TIME_TB_STAT_STEP_LOST (i : Nat) : RF := ⟨R.TIME_TB_STAT i, 3, 1⟩
/-- TIME_TB_STAT.LOCK_DISCARD_REP. -/
def F.TIME_TB_STAT_LOCK_DISCARD_REP (i : Nat) : RF := ⟨R.TIME_TB_STAT i, 8, 8⟩
/-- TIME_TB_STAT.STEP_PENDING. -/
def F.TIME_TB_STAT_STEP_PENDING (i : Nat) : RF := ⟨R.TIME_TB_STAT i, 16, 1⟩
/-- TIME_CMP_NS (02_time_and_stamps.md). -/
def R.TIME_CMP_NS (i : Nat) : Nat := 0x1002004 + 32 * i
/-- TIME_CMP_NS.NS. -/
def F.TIME_CMP_NS_NS (i : Nat) : RF := ⟨R.TIME_CMP_NS i, 0, 32⟩
/-- TIME_CMP_FRAC (02_time_and_stamps.md). -/
def R.TIME_CMP_FRAC (i : Nat) : Nat := 0x1002008 + 32 * i
/-- TIME_CMP_FRAC.FRAC. -/
def F.TIME_CMP_FRAC_FRAC (i : Nat) : RF := ⟨R.TIME_CMP_FRAC i, 0, 32⟩
/-- TIME_CMP_PER_NS (02_time_and_stamps.md). -/
def R.TIME_CMP_PER_NS (i : Nat) : Nat := 0x100200C + 32 * i
/-- TIME_CMP_PER_NS.PER_NS. -/
def F.TIME_CMP_PER_NS_PER_NS (i : Nat) : RF := ⟨R.TIME_CMP_PER_NS i, 0, 32⟩
/-- TIME_CMP_PER_FRAC (02_time_and_stamps.md). -/
def R.TIME_CMP_PER_FRAC (i : Nat) : Nat := 0x1002010 + 32 * i
/-- TIME_CMP_PER_FRAC.PER_FRAC. -/
def F.TIME_CMP_PER_FRAC_PER_FRAC (i : Nat) : RF := ⟨R.TIME_CMP_PER_FRAC i, 0, 32⟩
/-- TIME_CMP_DEST (02_time_and_stamps.md). -/
def R.TIME_CMP_DEST (i : Nat) : Nat := 0x1002014 + 32 * i
/-- TIME_CMP_DEST.DEST_ARGS. -/
def F.TIME_CMP_DEST_DEST_ARGS (i : Nat) : RF := ⟨R.TIME_CMP_DEST i, 0, 32⟩
/-- TIME_CMP_WIDTH (02_time_and_stamps.md). -/
def R.TIME_CMP_WIDTH (i : Nat) : Nat := 0x1002018 + 32 * i
/-- TIME_CMP_WIDTH.WIDTH. -/
def F.TIME_CMP_WIDTH_WIDTH (i : Nat) : RF := ⟨R.TIME_CMP_WIDTH i, 0, 28⟩
/-- TIME_CMP_CFG (02_time_and_stamps.md). -/
def R.TIME_CMP_CFG (i : Nat) : Nat := 0x1002000 + 32 * i
/-- TIME_CMP_CFG.EN. -/
def F.TIME_CMP_CFG_EN (i : Nat) : RF := ⟨R.TIME_CMP_CFG i, 0, 1⟩
/-- TIME_CMP_CFG.MODE. -/
def F.TIME_CMP_CFG_MODE (i : Nat) : RF := ⟨R.TIME_CMP_CFG i, 1, 2⟩
/-- TIME_CMP_CFG.TB. -/
def F.TIME_CMP_CFG_TB (i : Nat) : RF := ⟨R.TIME_CMP_CFG i, 3, 3⟩
/-- TIME_CMP_CFG.SYMPAT. -/
def F.TIME_CMP_CFG_SYMPAT (i : Nat) : RF := ⟨R.TIME_CMP_CFG i, 6, 3⟩
/-- TIME_CMP_CFG.DEST. -/
def F.TIME_CMP_CFG_DEST (i : Nat) : RF := ⟨R.TIME_CMP_CFG i, 9, 3⟩
/-- TIME_CMP_CFG.ARM. -/
def F.TIME_CMP_CFG_ARM (i : Nat) : RF := ⟨R.TIME_CMP_CFG i, 12, 1⟩
/-- TIME_CMP_STAT (02_time_and_stamps.md). -/
def R.TIME_CMP_STAT (i : Nat) : Nat := 0x100201C + 32 * i
/-- TIME_CMP_STAT.MISSED. -/
def F.TIME_CMP_STAT_MISSED (i : Nat) : RF := ⟨R.TIME_CMP_STAT i, 0, 1⟩
/-- TIME_CMP_STAT.LATE. -/
def F.TIME_CMP_STAT_LATE (i : Nat) : RF := ⟨R.TIME_CMP_STAT i, 1, 1⟩
/-- TIME_CMP_STAT.BAD_CFG. -/
def F.TIME_CMP_STAT_BAD_CFG (i : Nat) : RF := ⟨R.TIME_CMP_STAT i, 2, 1⟩
/-- TIME_CMP_STAT.ARMED. -/
def F.TIME_CMP_STAT_ARMED (i : Nat) : RF := ⟨R.TIME_CMP_STAT i, 3, 1⟩
/-- TIME_CMP_STAT.MISSED_REP. -/
def F.TIME_CMP_STAT_MISSED_REP (i : Nat) : RF := ⟨R.TIME_CMP_STAT i, 8, 8⟩
/-- TIME_CMP_STAT.COUNT. -/
def F.TIME_CMP_STAT_COUNT (i : Nat) : RF := ⟨R.TIME_CMP_STAT i, 16, 16⟩
/-- TIME_CAP_NS (02_time_and_stamps.md). -/
def R.TIME_CAP_NS (i : Nat) : Nat := 0x1004004 + 32 * i
/-- TIME_CAP_NS.NS. -/
def F.TIME_CAP_NS_NS (i : Nat) : RF := ⟨R.TIME_CAP_NS i, 0, 32⟩
/-- TIME_CAP_FRAC (02_time_and_stamps.md). -/
def R.TIME_CAP_FRAC (i : Nat) : Nat := 0x1004008 + 32 * i
/-- TIME_CAP_FRAC.FRAC. -/
def F.TIME_CAP_FRAC_FRAC (i : Nat) : RF := ⟨R.TIME_CAP_FRAC i, 0, 32⟩
/-- TIME_CAP_TB0 (02_time_and_stamps.md). -/
def R.TIME_CAP_TB0 (i : Nat) : Nat := 0x100400C + 32 * i
/-- TIME_CAP_TB0.TB0. -/
def F.TIME_CAP_TB0_TB0 (i : Nat) : RF := ⟨R.TIME_CAP_TB0 i, 0, 32⟩
/-- TIME_CAP_EVT (02_time_and_stamps.md). -/
def R.TIME_CAP_EVT (i : Nat) : Nat := 0x1004014 + 32 * i
/-- TIME_CAP_EVT.EVENT_ID. -/
def F.TIME_CAP_EVT_EVENT_ID (i : Nat) : RF := ⟨R.TIME_CAP_EVT i, 0, 16⟩
/-- TIME_CAP_EVT.STRATA. -/
def F.TIME_CAP_EVT_STRATA (i : Nat) : RF := ⟨R.TIME_CAP_EVT i, 16, 8⟩
/-- TIME_CAP_EVT.EN. -/
def F.TIME_CAP_EVT_EN (i : Nat) : RF := ⟨R.TIME_CAP_EVT i, 24, 1⟩
/-- TIME_CAP_CFG (02_time_and_stamps.md). -/
def R.TIME_CAP_CFG (i : Nat) : Nat := 0x1004000 + 32 * i
/-- TIME_CAP_CFG.EN. -/
def F.TIME_CAP_CFG_EN (i : Nat) : RF := ⟨R.TIME_CAP_CFG i, 0, 1⟩
/-- TIME_CAP_CFG.EDGE. -/
def F.TIME_CAP_CFG_EDGE (i : Nat) : RF := ⟨R.TIME_CAP_CFG i, 1, 2⟩
/-- TIME_CAP_CFG.TB. -/
def F.TIME_CAP_CFG_TB (i : Nat) : RF := ⟨R.TIME_CAP_CFG i, 3, 3⟩
/-- TIME_CAP_CFG.SRC. -/
def F.TIME_CAP_CFG_SRC (i : Nat) : RF := ⟨R.TIME_CAP_CFG i, 8, 7⟩
/-- TIME_CAP_STAT (02_time_and_stamps.md). -/
def R.TIME_CAP_STAT (i : Nat) : Nat := 0x1004010 + 32 * i
/-- TIME_CAP_STAT.VALID. -/
def F.TIME_CAP_STAT_VALID (i : Nat) : RF := ⟨R.TIME_CAP_STAT i, 0, 1⟩
/-- TIME_CAP_STAT.OVR. -/
def F.TIME_CAP_STAT_OVR (i : Nat) : RF := ⟨R.TIME_CAP_STAT i, 1, 1⟩
/-- TIME_CAP_STAT.OVR_REP. -/
def F.TIME_CAP_STAT_OVR_REP (i : Nat) : RF := ⟨R.TIME_CAP_STAT i, 8, 8⟩
/-- TIME_PTP_EPOCH_SEC_LO (02_time_and_stamps.md). -/
def R.TIME_PTP_EPOCH_SEC_LO (i : Nat) : Nat := 0x1006004 + 64 * i
/-- TIME_PTP_EPOCH_SEC_LO.SEC_LO. -/
def F.TIME_PTP_EPOCH_SEC_LO_SEC_LO (i : Nat) : RF := ⟨R.TIME_PTP_EPOCH_SEC_LO i, 0, 32⟩
/-- TIME_PTP_EPOCH_SEC_HI (02_time_and_stamps.md). -/
def R.TIME_PTP_EPOCH_SEC_HI (i : Nat) : Nat := 0x1006008 + 64 * i
/-- TIME_PTP_EPOCH_SEC_HI.SEC_HI. -/
def F.TIME_PTP_EPOCH_SEC_HI_SEC_HI (i : Nat) : RF := ⟨R.TIME_PTP_EPOCH_SEC_HI i, 0, 16⟩
/-- TIME_PTP_EPOCH_TB (02_time_and_stamps.md). -/
def R.TIME_PTP_EPOCH_TB (i : Nat) : Nat := 0x100600C + 64 * i
/-- TIME_PTP_EPOCH_TB.EPOCH_TB. -/
def F.TIME_PTP_EPOCH_TB_EPOCH_TB (i : Nat) : RF := ⟨R.TIME_PTP_EPOCH_TB i, 0, 32⟩
/-- TIME_PTP_TXTS_NS (02_time_and_stamps.md). -/
def R.TIME_PTP_TXTS_NS (i : Nat) : Nat := 0x1006010 + 64 * i
/-- TIME_PTP_TXTS_NS.NS. -/
def F.TIME_PTP_TXTS_NS_NS (i : Nat) : RF := ⟨R.TIME_PTP_TXTS_NS i, 0, 32⟩
/-- TIME_PTP_TXTS_FRAC (02_time_and_stamps.md). -/
def R.TIME_PTP_TXTS_FRAC (i : Nat) : Nat := 0x1006014 + 64 * i
/-- TIME_PTP_TXTS_FRAC.FRAC. -/
def F.TIME_PTP_TXTS_FRAC_FRAC (i : Nat) : RF := ⟨R.TIME_PTP_TXTS_FRAC i, 0, 16⟩
/-- TIME_PTP_TXTS_INFO (02_time_and_stamps.md). -/
def R.TIME_PTP_TXTS_INFO (i : Nat) : Nat := 0x1006018 + 64 * i
/-- TIME_PTP_TXTS_INFO.SEQ_ID. -/
def F.TIME_PTP_TXTS_INFO_SEQ_ID (i : Nat) : RF := ⟨R.TIME_PTP_TXTS_INFO i, 0, 16⟩
/-- TIME_PTP_TXTS_INFO.MSG_TYPE. -/
def F.TIME_PTP_TXTS_INFO_MSG_TYPE (i : Nat) : RF := ⟨R.TIME_PTP_TXTS_INFO i, 16, 4⟩
/-- TIME_PTP_TXTS_INFO.VALID. -/
def F.TIME_PTP_TXTS_INFO_VALID (i : Nat) : RF := ⟨R.TIME_PTP_TXTS_INFO i, 20, 1⟩
/-- TIME_PTP_TXTS_INFO.DEPTH. -/
def F.TIME_PTP_TXTS_INFO_DEPTH (i : Nat) : RF := ⟨R.TIME_PTP_TXTS_INFO i, 24, 5⟩
/-- TIME_PTP_CMD (02_time_and_stamps.md). -/
def R.TIME_PTP_CMD (i : Nat) : Nat := 0x100601C + 64 * i
/-- TIME_PTP_CMD.TXTS_POP. -/
def F.TIME_PTP_CMD_TXTS_POP (i : Nat) : RF := ⟨R.TIME_PTP_CMD i, 0, 1⟩
/-- TIME_PTP_CFG (02_time_and_stamps.md). -/
def R.TIME_PTP_CFG (i : Nat) : Nat := 0x1006000 + 64 * i
/-- TIME_PTP_CFG.RX_EN. -/
def F.TIME_PTP_CFG_RX_EN (i : Nat) : RF := ⟨R.TIME_PTP_CFG i, 0, 1⟩
/-- TIME_PTP_CFG.TX_EN. -/
def F.TIME_PTP_CFG_TX_EN (i : Nat) : RF := ⟨R.TIME_PTP_CFG i, 1, 1⟩
/-- TIME_PTP_CFG.TB. -/
def F.TIME_PTP_CFG_TB (i : Nat) : RF := ⟨R.TIME_PTP_CFG i, 2, 3⟩
/-- TIME_PTP_CFG.ENC_L2. -/
def F.TIME_PTP_CFG_ENC_L2 (i : Nat) : RF := ⟨R.TIME_PTP_CFG i, 5, 1⟩
/-- TIME_PTP_CFG.ENC_UDP4. -/
def F.TIME_PTP_CFG_ENC_UDP4 (i : Nat) : RF := ⟨R.TIME_PTP_CFG i, 6, 1⟩
/-- TIME_PTP_CFG.ENC_UDP6. -/
def F.TIME_PTP_CFG_ENC_UDP6 (i : Nat) : RF := ⟨R.TIME_PTP_CFG i, 7, 1⟩
/-- TIME_PTP_CFG.ONE_STEP_EN. -/
def F.TIME_PTP_CFG_ONE_STEP_EN (i : Nat) : RF := ⟨R.TIME_PTP_CFG i, 8, 1⟩
/-- TIME_PTP_STAT (02_time_and_stamps.md). -/
def R.TIME_PTP_STAT (i : Nat) : Nat := 0x1006020 + 64 * i
/-- TIME_PTP_STAT.TXTS_OVR. -/
def F.TIME_PTP_STAT_TXTS_OVR (i : Nat) : RF := ⟨R.TIME_PTP_STAT i, 0, 1⟩
/-- TIME_PTP_STAT.EPOCH_STALE. -/
def F.TIME_PTP_STAT_EPOCH_STALE (i : Nat) : RF := ⟨R.TIME_PTP_STAT i, 1, 1⟩
/-- TIME_PTP_STAT.TXTS_OVR_REP. -/
def F.TIME_PTP_STAT_TXTS_OVR_REP (i : Nat) : RF := ⟨R.TIME_PTP_STAT i, 8, 8⟩
/-- TIME_PTP_STAT.STALE_REP. -/
def F.TIME_PTP_STAT_STALE_REP (i : Nat) : RF := ⟨R.TIME_PTP_STAT i, 16, 8⟩

/-- The registers of block TIME, part 0. -/
def regDefsTIME0 : List RegDef := [
  ⟨0x1000000, 1, 1, 1, 1, [⟨0, 1, .rwl, 0, 0⟩, ⟨1, 1, .rwl, 0, 0⟩, ⟨2, 1, .rw, 1, 0⟩, ⟨3, 1, .wo, 0, 0⟩]⟩,
  ⟨0x1000004, 1, 1, 1, 1, [⟨0, 1, .ro, 0, 0⟩, ⟨1, 1, .ro, 0, 0⟩, ⟨2, 1, .w1c, 0, 8⟩, ⟨3, 1, .w1c, 0, 0⟩, ⟨8, 8, .ro, 0, 0⟩]⟩,
  ⟨0x1000008, 1, 1, 1, 1, [⟨0, 8, .wo, 0, 0⟩]⟩,
  ⟨0x100000C, 1, 1, 1, 1, [⟨0, 1, .rw, 1, 0⟩]⟩,
  ⟨0x1000010, 1, 1, 1, 1, [⟨0, 1, .rw, 0, 0⟩, ⟨8, 5, .rw, 0, 0⟩, ⟨16, 3, .rw, 0, 0⟩, ⟨20, 1, .rw, 1, 0⟩]⟩,
  ⟨0x1000014, 1, 1, 1, 1, [⟨0, 1, .ro, 0, 0⟩, ⟨1, 1, .w1c, 0, 8⟩, ⟨8, 8, .ro, 0, 0⟩]⟩,
  ⟨0x1001000, 8, 64, 1, 1, [⟨0, 32, .rw, 0, 0⟩]⟩,
  ⟨0x1001004, 8, 64, 1, 1, [⟨0, 32, .rw, 0, 0⟩]⟩,
  ⟨0x100100C, 8, 64, 1, 1, [⟨0, 32, .rw, 0, 0⟩]⟩,
  ⟨0x1001010, 8, 64, 1, 1, [⟨0, 32, .rw, 0, 0⟩]⟩,
  ⟨0x1001014, 8, 64, 1, 1, [⟨0, 32, .rw, 0, 0⟩]⟩,
  ⟨0x1001018, 8, 64, 1, 1, [⟨0, 1, .wo, 0, 0⟩]⟩]

/-- The registers of block TIME, part 1. -/
def regDefsTIME1 : List RegDef := [
  ⟨0x1001020, 8, 64, 1, 1, [⟨0, 32, .ro, 0, 0⟩]⟩,
  ⟨0x1001024, 8, 64, 1, 1, [⟨0, 32, .ro, 0, 0⟩]⟩,
  ⟨0x1001028, 8, 64, 1, 1, [⟨0, 32, .ro, 0, 0⟩]⟩,
  ⟨0x1001008, 8, 64, 1, 1, [⟨0, 1, .rw, 0, 0⟩, ⟨1, 3, .rwl, 0, 0⟩, ⟨8, 1, .ro, 0, 0⟩]⟩,
  ⟨0x100101C, 8, 64, 1, 1, [⟨0, 1, .w1c, 0, 0⟩, ⟨1, 1, .w1c, 0, 0⟩, ⟨2, 1, .w1c, 0, 8⟩, ⟨3, 1, .w1c, 0, 0⟩, ⟨8, 8, .ro, 0, 0⟩, ⟨16, 1, .ro, 0, 0⟩]⟩,
  ⟨0x1002004, 64, 32, 1, 1, [⟨0, 32, .rw, 0, 0⟩]⟩,
  ⟨0x1002008, 64, 32, 1, 1, [⟨0, 32, .rw, 0, 0⟩]⟩,
  ⟨0x100200C, 64, 32, 1, 1, [⟨0, 32, .rw, 0, 0⟩]⟩,
  ⟨0x1002010, 64, 32, 1, 1, [⟨0, 32, .rw, 0, 0⟩]⟩,
  ⟨0x1002014, 64, 32, 1, 1, [⟨0, 32, .rw, 0, 0⟩]⟩,
  ⟨0x1002018, 64, 32, 1, 1, [⟨0, 28, .rw, 1, 0⟩]⟩,
  ⟨0x1002000, 64, 32, 1, 1, [⟨0, 1, .rw, 0, 0⟩, ⟨1, 2, .rw, 0, 0⟩, ⟨3, 3, .rw, 0, 0⟩, ⟨6, 3, .rw, 0, 0⟩, ⟨9, 3, .rw, 0, 0⟩, ⟨12, 1, .wo, 0, 0⟩]⟩]

/-- The registers of block TIME, part 2. -/
def regDefsTIME2 : List RegDef := [
  ⟨0x100201C, 64, 32, 1, 1, [⟨0, 1, .w1c, 0, 8⟩, ⟨1, 1, .w1c, 0, 0⟩, ⟨2, 1, .w1c, 0, 0⟩, ⟨3, 1, .ro, 0, 0⟩, ⟨8, 8, .ro, 0, 0⟩, ⟨16, 16, .ro, 0, 0⟩]⟩,
  ⟨0x1004004, 32, 32, 1, 1, [⟨0, 32, .ro, 0, 0⟩]⟩,
  ⟨0x1004008, 32, 32, 1, 1, [⟨0, 32, .ro, 0, 0⟩]⟩,
  ⟨0x100400C, 32, 32, 1, 1, [⟨0, 32, .ro, 0, 0⟩]⟩,
  ⟨0x1004014, 32, 32, 1, 1, [⟨0, 16, .rw, 0, 0⟩, ⟨16, 8, .rw, 0, 0⟩, ⟨24, 1, .rw, 0, 0⟩]⟩,
  ⟨0x1004000, 32, 32, 1, 1, [⟨0, 1, .rw, 0, 0⟩, ⟨1, 2, .rw, 0, 0⟩, ⟨3, 3, .rw, 0, 0⟩, ⟨8, 7, .rw, 0, 0⟩]⟩,
  ⟨0x1004010, 32, 32, 1, 1, [⟨0, 1, .w1c, 0, 0⟩, ⟨1, 1, .w1c, 0, 8⟩, ⟨8, 8, .ro, 0, 0⟩]⟩,
  ⟨0x1006004, 33, 64, 1, 1, [⟨0, 32, .rw, 0, 0⟩]⟩,
  ⟨0x1006008, 33, 64, 1, 1, [⟨0, 16, .rw, 0, 0⟩]⟩,
  ⟨0x100600C, 33, 64, 1, 1, [⟨0, 32, .rw, 0, 0⟩]⟩,
  ⟨0x1006010, 33, 64, 1, 1, [⟨0, 32, .ro, 0, 0⟩]⟩,
  ⟨0x1006014, 33, 64, 1, 1, [⟨0, 16, .ro, 0, 0⟩]⟩]

/-- The registers of block TIME, part 3. -/
def regDefsTIME3 : List RegDef := [
  ⟨0x1006018, 33, 64, 1, 1, [⟨0, 16, .ro, 0, 0⟩, ⟨16, 4, .ro, 0, 0⟩, ⟨20, 1, .ro, 0, 0⟩, ⟨24, 5, .ro, 0, 0⟩]⟩,
  ⟨0x100601C, 33, 64, 1, 1, [⟨0, 1, .wo, 0, 0⟩]⟩,
  ⟨0x1006000, 33, 64, 1, 1, [⟨0, 1, .rw, 0, 0⟩, ⟨1, 1, .rw, 0, 0⟩, ⟨2, 3, .rw, 0, 0⟩, ⟨5, 1, .rw, 0, 0⟩, ⟨6, 1, .rw, 0, 0⟩, ⟨7, 1, .rw, 0, 0⟩, ⟨8, 1, .rw, 0, 0⟩]⟩,
  ⟨0x1006020, 33, 64, 1, 1, [⟨0, 1, .w1c, 0, 8⟩, ⟨1, 1, .w1c, 0, 16⟩, ⟨8, 8, .ro, 0, 0⟩, ⟨16, 8, .ro, 0, 0⟩]⟩]

/-- The registers of block TIME. -/
def regDefsTIME : List RegDef := regDefsTIME0 ++ regDefsTIME1 ++ regDefsTIME2 ++ regDefsTIME3

/-! ## QMGR -/

/-- QMGR_STAT (10_queues_and_movers.md). -/
def R.QMGR_STAT : Nat := 0x2000000
/-- QMGR_STAT.DB_FULL. -/
def F.QMGR_STAT_DB_FULL : RF := ⟨R.QMGR_STAT, 0, 1⟩
/-- QMGR_STAT.DB_UNDER. -/
def F.QMGR_STAT_DB_UNDER : RF := ⟨R.QMGR_STAT, 1, 1⟩
/-- QMGR_STAT.DB_OFF. -/
def F.QMGR_STAT_DB_OFF : RF := ⟨R.QMGR_STAT, 2, 1⟩
/-- QMGR_STAT.META_ERR. -/
def F.QMGR_STAT_META_ERR : RF := ⟨R.QMGR_STAT, 3, 1⟩
/-- QMGR_STAT.ENTRY_VOID. -/
def F.QMGR_STAT_ENTRY_VOID : RF := ⟨R.QMGR_STAT, 4, 1⟩
/-- QMGR_STAT.WR_DENIED. -/
def F.QMGR_STAT_WR_DENIED : RF := ⟨R.QMGR_STAT, 5, 1⟩
/-- QMGR_STAT.CFG_BAD. -/
def F.QMGR_STAT_CFG_BAD : RF := ⟨R.QMGR_STAT, 6, 1⟩
/-- QMGR_STAT.DB_FULL_REP. -/
def F.QMGR_STAT_DB_FULL_REP : RF := ⟨R.QMGR_STAT, 8, 8⟩
/-- QMGR_STAT.META_ERR_REP. -/
def F.QMGR_STAT_META_ERR_REP : RF := ⟨R.QMGR_STAT, 16, 8⟩
/-- QMGR_ERR_QID (10_queues_and_movers.md). -/
def R.QMGR_ERR_QID : Nat := 0x2000004
/-- QMGR_ERR_QID.QID. -/
def F.QMGR_ERR_QID_QID : RF := ⟨R.QMGR_ERR_QID, 0, 18⟩
/-- QMGR_ERR_QID.KIND. -/
def F.QMGR_ERR_QID_KIND : RF := ⟨R.QMGR_ERR_QID, 18, 4⟩
/-- QMGR_Q_SEL (10_queues_and_movers.md). -/
def R.QMGR_Q_SEL : Nat := 0x2000010
/-- QMGR_Q_SEL.QID. -/
def F.QMGR_Q_SEL_QID : RF := ⟨R.QMGR_Q_SEL, 0, 18⟩
/-- QMGR_TOK_SEL (10_queues_and_movers.md). -/
def R.QMGR_TOK_SEL : Nat := 0x2000040
/-- QMGR_TOK_SEL.TOKEN. -/
def F.QMGR_TOK_SEL_TOKEN : RF := ⟨R.QMGR_TOK_SEL, 0, 15⟩
/-- QMGR_TOK_CNT (10_queues_and_movers.md). -/
def R.QMGR_TOK_CNT : Nat := 0x2000044
/-- QMGR_TOK_CNT.COUNT. -/
def F.QMGR_TOK_CNT_COUNT : RF := ⟨R.QMGR_TOK_CNT, 0, 32⟩
/-- QMGR_DB (10_queues_and_movers.md). -/
def R.QMGR_DB (i : Nat) : Nat := 0x2800000 + 4 * i
/-- QMGR_DB.DB. -/
def F.QMGR_DB_DB (i : Nat) : RF := ⟨R.QMGR_DB i, 0, 32⟩
/-- QMGR_TAKE (10_queues_and_movers.md). -/
def R.QMGR_TAKE (i : Nat) : Nat := 0x2C00000 + 4 * i
/-- QMGR_TAKE.HEAD. -/
def F.QMGR_TAKE_HEAD (i : Nat) : RF := ⟨R.QMGR_TAKE i, 0, 21⟩
/-- QMGR_TAKE.AVAIL. -/
def F.QMGR_TAKE_AVAIL (i : Nat) : RF := ⟨R.QMGR_TAKE i, 21, 1⟩
/-- QMGR_TAKE.SPEC. -/
def F.QMGR_TAKE_SPEC (i : Nat) : RF := ⟨R.QMGR_TAKE i, 22, 1⟩
/-- QMGR_Q_BASE_LO (10_queues_and_movers.md). -/
def R.QMGR_Q_BASE_LO : Nat := 0x2000020
/-- QMGR_Q_BASE_LO.BASE. -/
def F.QMGR_Q_BASE_LO_BASE : RF := ⟨R.QMGR_Q_BASE_LO, 0, 32⟩
/-- QMGR_Q_CFG (10_queues_and_movers.md). -/
def R.QMGR_Q_CFG : Nat := 0x2000024
/-- QMGR_Q_CFG.BASE_HI. -/
def F.QMGR_Q_CFG_BASE_HI : RF := ⟨R.QMGR_Q_CFG, 0, 8⟩
/-- QMGR_Q_CFG.META_HI. -/
def F.QMGR_Q_CFG_META_HI : RF := ⟨R.QMGR_Q_CFG, 8, 8⟩
/-- QMGR_Q_CFG.ESIZE. -/
def F.QMGR_Q_CFG_ESIZE : RF := ⟨R.QMGR_Q_CFG, 16, 2⟩
/-- QMGR_Q_CFG.DLOG. -/
def F.QMGR_Q_CFG_DLOG : RF := ⟨R.QMGR_Q_CFG, 18, 5⟩
/-- QMGR_Q_CFG.EN. -/
def F.QMGR_Q_CFG_EN : RF := ⟨R.QMGR_Q_CFG, 23, 1⟩
/-- QMGR_Q_CFG.TOKQ. -/
def F.QMGR_Q_CFG_TOKQ : RF := ⟨R.QMGR_Q_CFG, 24, 1⟩
/-- QMGR_Q_CFG.HIGH_EVT_EN. -/
def F.QMGR_Q_CFG_HIGH_EVT_EN : RF := ⟨R.QMGR_Q_CFG, 25, 1⟩
/-- QMGR_Q_CFG.LOW_EVT_EN. -/
def F.QMGR_Q_CFG_LOW_EVT_EN : RF := ⟨R.QMGR_Q_CFG, 26, 1⟩
/-- QMGR_Q_CFG.HIGH_MSI_EN. -/
def F.QMGR_Q_CFG_HIGH_MSI_EN : RF := ⟨R.QMGR_Q_CFG, 27, 1⟩
/-- QMGR_Q_CFG.LOW_MSI_EN. -/
def F.QMGR_Q_CFG_LOW_MSI_EN : RF := ⟨R.QMGR_Q_CFG, 28, 1⟩
/-- QMGR_Q_CFG.NS. -/
def F.QMGR_Q_CFG_NS : RF := ⟨R.QMGR_Q_CFG, 29, 1⟩
/-- QMGR_Q_META_LO (10_queues_and_movers.md). -/
def R.QMGR_Q_META_LO : Nat := 0x2000028
/-- QMGR_Q_META_LO.META. -/
def F.QMGR_Q_META_LO_META : RF := ⟨R.QMGR_Q_META_LO, 0, 32⟩
/-- QMGR_Q_TAIL (10_queues_and_movers.md). -/
def R.QMGR_Q_TAIL : Nat := 0x200002C
/-- QMGR_Q_TAIL.TAIL. -/
def F.QMGR_Q_TAIL_TAIL : RF := ⟨R.QMGR_Q_TAIL, 0, 21⟩
/-- QMGR_Q_TAIL.VECTOR. -/
def F.QMGR_Q_TAIL_VECTOR : RF := ⟨R.QMGR_Q_TAIL, 21, 11⟩
/-- QMGR_Q_HEAD (10_queues_and_movers.md). -/
def R.QMGR_Q_HEAD : Nat := 0x2000030
/-- QMGR_Q_HEAD.HEAD. -/
def F.QMGR_Q_HEAD_HEAD : RF := ⟨R.QMGR_Q_HEAD, 0, 21⟩
/-- QMGR_Q_HEAD.LEVEL. -/
def F.QMGR_Q_HEAD_LEVEL : RF := ⟨R.QMGR_Q_HEAD, 21, 1⟩
/-- QMGR_Q_PACE (10_queues_and_movers.md). -/
def R.QMGR_Q_PACE : Nat := 0x2000034
/-- QMGR_Q_PACE.START. -/
def F.QMGR_Q_PACE_START : RF := ⟨R.QMGR_Q_PACE, 0, 16⟩
/-- QMGR_Q_PACE.STOP. -/
def F.QMGR_Q_PACE_STOP : RF := ⟨R.QMGR_Q_PACE, 16, 16⟩
/-- QMGR_Q_LEVEL (10_queues_and_movers.md). -/
def R.QMGR_Q_LEVEL : Nat := 0x2000038
/-- QMGR_Q_LEVEL.HIGH. -/
def F.QMGR_Q_LEVEL_HIGH : RF := ⟨R.QMGR_Q_LEVEL, 0, 16⟩
/-- QMGR_Q_LEVEL.LOW. -/
def F.QMGR_Q_LEVEL_LOW : RF := ⟨R.QMGR_Q_LEVEL, 16, 16⟩
/-- QMGR_Q_NOTIFY (10_queues_and_movers.md). -/
def R.QMGR_Q_NOTIFY : Nat := 0x200003C
/-- QMGR_Q_NOTIFY.EVENT_ID. -/
def F.QMGR_Q_NOTIFY_EVENT_ID : RF := ⟨R.QMGR_Q_NOTIFY, 0, 16⟩
/-- QMGR_Q_NOTIFY.STRATA. -/
def F.QMGR_Q_NOTIFY_STRATA : RF := ⟨R.QMGR_Q_NOTIFY, 16, 8⟩

/-- The registers of block QMGR, part 0. -/
def regDefsQMGR0 : List RegDef := [
  ⟨0x2000000, 1, 1, 1, 1, [⟨0, 1, .w1c, 0, 8⟩, ⟨1, 1, .w1c, 0, 0⟩, ⟨2, 1, .w1c, 0, 0⟩, ⟨3, 1, .w1c, 0, 16⟩, ⟨4, 1, .w1c, 0, 0⟩, ⟨5, 1, .w1c, 0, 0⟩, ⟨6, 1, .w1c, 0, 0⟩, ⟨8, 8, .ro, 0, 0⟩, ⟨16, 8, .ro, 0, 0⟩]⟩,
  ⟨0x2000004, 1, 1, 1, 1, [⟨0, 18, .ro, 0, 0⟩, ⟨18, 4, .ro, 0, 0⟩]⟩,
  ⟨0x2000010, 1, 1, 1, 1, [⟨0, 18, .rw, 0, 0⟩]⟩,
  ⟨0x2000040, 1, 1, 1, 1, [⟨0, 15, .rw, 0, 0⟩]⟩,
  ⟨0x2000044, 1, 1, 1, 1, [⟨0, 32, .ro, 0, 0⟩]⟩,
  ⟨0x2800000, 262144, 4, 1, 1, [⟨0, 32, .wo, 0, 0⟩]⟩,
  ⟨0x2C00000, 262144, 4, 1, 1, [⟨0, 21, .ro, 0, 0⟩, ⟨21, 1, .ro, 0, 0⟩, ⟨22, 1, .ro, 0, 0⟩]⟩,
  ⟨0x2000020, 1, 1, 1, 1, [⟨0, 32, .rw, 0, 0⟩]⟩,
  ⟨0x2000024, 1, 1, 1, 1, [⟨0, 8, .rw, 0, 0⟩, ⟨8, 8, .rw, 0, 0⟩, ⟨16, 2, .rw, 0, 0⟩, ⟨18, 5, .rw, 4, 0⟩, ⟨23, 1, .rw, 0, 0⟩, ⟨24, 1, .rw, 0, 0⟩, ⟨25, 1, .rw, 0, 0⟩, ⟨26, 1, .rw, 0, 0⟩, ⟨27, 1, .rw, 0, 0⟩, ⟨28, 1, .rw, 0, 0⟩, ⟨29, 1, .rw, 0, 0⟩]⟩,
  ⟨0x2000028, 1, 1, 1, 1, [⟨0, 32, .rw, 0, 0⟩]⟩,
  ⟨0x200002C, 1, 1, 1, 1, [⟨0, 21, .rw, 0, 0⟩, ⟨21, 11, .rw, 0, 0⟩]⟩,
  ⟨0x2000030, 1, 1, 1, 1, [⟨0, 21, .rw, 0, 0⟩, ⟨21, 1, .ro, 0, 0⟩]⟩]

/-- The registers of block QMGR, part 1. -/
def regDefsQMGR1 : List RegDef := [
  ⟨0x2000034, 1, 1, 1, 1, [⟨0, 16, .rw, 0, 0⟩, ⟨16, 16, .rw, 0, 0⟩]⟩,
  ⟨0x2000038, 1, 1, 1, 1, [⟨0, 16, .rw, 0, 0⟩, ⟨16, 16, .rw, 0, 0⟩]⟩,
  ⟨0x200003C, 1, 1, 1, 1, [⟨0, 16, .rw, 0, 0⟩, ⟨16, 8, .rw, 0, 0⟩]⟩]

/-- The registers of block QMGR. -/
def regDefsQMGR : List RegDef := regDefsQMGR0 ++ regDefsQMGR1

/-! ## MOVER -/

/-- MOVER_STAT (10_queues_and_movers.md). -/
def R.MOVER_STAT (i : Nat) : Nat := 0x3000000 + 65536 * i
/-- MOVER_STAT.EMARK_DROP. -/
def F.MOVER_STAT_EMARK_DROP (i : Nat) : RF := ⟨R.MOVER_STAT i, 0, 1⟩
/-- MOVER_STAT.EMARK_DROP_REP. -/
def F.MOVER_STAT_EMARK_DROP_REP (i : Nat) : RF := ⟨R.MOVER_STAT i, 8, 8⟩
/-- MOVER_INFO (10_queues_and_movers.md). -/
def R.MOVER_INFO (i : Nat) : Nat := 0x3000004 + 65536 * i
/-- MOVER_INFO.CHANNELS. -/
def F.MOVER_INFO_CHANNELS (i : Nat) : RF := ⟨R.MOVER_INFO i, 0, 8⟩
/-- MOVER_CH_CFG (10_queues_and_movers.md). -/
def R.MOVER_CH_CFG (i j : Nat) : Nat := 0x3001000 + 65536 * i + 64 * j
/-- MOVER_CH_CFG.POLICY. -/
def F.MOVER_CH_CFG_POLICY (i j : Nat) : RF := ⟨R.MOVER_CH_CFG i j, 0, 1⟩
/-- MOVER_CH_CFG.PACE. -/
def F.MOVER_CH_CFG_PACE (i j : Nat) : RF := ⟨R.MOVER_CH_CFG i j, 1, 2⟩
/-- MOVER_CH_CMD (10_queues_and_movers.md). -/
def R.MOVER_CH_CMD (i j : Nat) : Nat := 0x3001004 + 65536 * i + 64 * j
/-- MOVER_CH_CMD.START. -/
def F.MOVER_CH_CMD_START (i j : Nat) : RF := ⟨R.MOVER_CH_CMD i j, 0, 1⟩
/-- MOVER_CH_CMD.STOP. -/
def F.MOVER_CH_CMD_STOP (i j : Nat) : RF := ⟨R.MOVER_CH_CMD i j, 1, 1⟩
/-- MOVER_CH_CMD.RETRY. -/
def F.MOVER_CH_CMD_RETRY (i j : Nat) : RF := ⟨R.MOVER_CH_CMD i j, 2, 1⟩
/-- MOVER_CH_CMD.SKIP. -/
def F.MOVER_CH_CMD_SKIP (i j : Nat) : RF := ⟨R.MOVER_CH_CMD i j, 3, 1⟩
/-- MOVER_CH_CMD.SHADOW_ARM. -/
def F.MOVER_CH_CMD_SHADOW_ARM (i j : Nat) : RF := ⟨R.MOVER_CH_CMD i j, 4, 1⟩
/-- MOVER_CH_STAT (10_queues_and_movers.md). -/
def R.MOVER_CH_STAT (i j : Nat) : Nat := 0x3001008 + 65536 * i + 64 * j
/-- MOVER_CH_STAT.STATE. -/
def F.MOVER_CH_STAT_STATE (i j : Nat) : RF := ⟨R.MOVER_CH_STAT i j, 0, 3⟩
/-- MOVER_CH_STAT.SHADOW_VALID. -/
def F.MOVER_CH_STAT_SHADOW_VALID (i j : Nat) : RF := ⟨R.MOVER_CH_STAT i j, 3, 1⟩
/-- MOVER_CH_STAT.BAD_SEEN. -/
def F.MOVER_CH_STAT_BAD_SEEN (i j : Nat) : RF := ⟨R.MOVER_CH_STAT i j, 4, 1⟩
/-- MOVER_CH_STAT.CMD_REFUSED. -/
def F.MOVER_CH_STAT_CMD_REFUSED (i j : Nat) : RF := ⟨R.MOVER_CH_STAT i j, 5, 1⟩
/-- MOVER_CH_STAT.EMARK_OVF. -/
def F.MOVER_CH_STAT_EMARK_OVF (i j : Nat) : RF := ⟨R.MOVER_CH_STAT i j, 6, 1⟩
/-- MOVER_CH_STAT.SHADOW_SEQ. -/
def F.MOVER_CH_STAT_SHADOW_SEQ (i j : Nat) : RF := ⟨R.MOVER_CH_STAT i j, 8, 8⟩
/-- MOVER_CH_STAT.BAD_REP. -/
def F.MOVER_CH_STAT_BAD_REP (i j : Nat) : RF := ⟨R.MOVER_CH_STAT i j, 16, 8⟩
/-- MOVER_CH_STAT.EMARKS. -/
def F.MOVER_CH_STAT_EMARKS (i j : Nat) : RF := ⟨R.MOVER_CH_STAT i j, 24, 8⟩
/-- MOVER_CH_PACEQ (10_queues_and_movers.md). -/
def R.MOVER_CH_PACEQ (i j : Nat) : Nat := 0x300100C + 65536 * i + 64 * j
/-- MOVER_CH_PACEQ.QID. -/
def F.MOVER_CH_PACEQ_QID (i j : Nat) : RF := ⟨R.MOVER_CH_PACEQ i j, 0, 18⟩
/-- MOVER_CH_HEAD_LO (10_queues_and_movers.md). -/
def R.MOVER_CH_HEAD_LO (i j : Nat) : Nat := 0x3001010 + 65536 * i + 64 * j
/-- MOVER_CH_HEAD_LO.HEAD. -/
def F.MOVER_CH_HEAD_LO_HEAD (i j : Nat) : RF := ⟨R.MOVER_CH_HEAD_LO i j, 0, 32⟩
/-- MOVER_CH_HEAD_HI (10_queues_and_movers.md). -/
def R.MOVER_CH_HEAD_HI (i j : Nat) : Nat := 0x3001014 + 65536 * i + 64 * j
/-- MOVER_CH_HEAD_HI.HEAD_HI. -/
def F.MOVER_CH_HEAD_HI_HEAD_HI (i j : Nat) : RF := ⟨R.MOVER_CH_HEAD_HI i j, 0, 8⟩
/-- MOVER_CH_SHADOW_LO (10_queues_and_movers.md). -/
def R.MOVER_CH_SHADOW_LO (i j : Nat) : Nat := 0x3001018 + 65536 * i + 64 * j
/-- MOVER_CH_SHADOW_LO.SHADOW. -/
def F.MOVER_CH_SHADOW_LO_SHADOW (i j : Nat) : RF := ⟨R.MOVER_CH_SHADOW_LO i j, 0, 32⟩
/-- MOVER_CH_SHADOW_HI (10_queues_and_movers.md). -/
def R.MOVER_CH_SHADOW_HI (i j : Nat) : Nat := 0x300101C + 65536 * i + 64 * j
/-- MOVER_CH_SHADOW_HI.SHADOW_HI. -/
def F.MOVER_CH_SHADOW_HI_SHADOW_HI (i j : Nat) : RF := ⟨R.MOVER_CH_SHADOW_HI i j, 0, 8⟩
/-- MOVER_CH_CUR_LO (10_queues_and_movers.md). -/
def R.MOVER_CH_CUR_LO (i j : Nat) : Nat := 0x3001020 + 65536 * i + 64 * j
/-- MOVER_CH_CUR_LO.CUR. -/
def F.MOVER_CH_CUR_LO_CUR (i j : Nat) : RF := ⟨R.MOVER_CH_CUR_LO i j, 0, 32⟩
/-- MOVER_CH_CUR_HI (10_queues_and_movers.md). -/
def R.MOVER_CH_CUR_HI (i j : Nat) : Nat := 0x3001024 + 65536 * i + 64 * j
/-- MOVER_CH_CUR_HI.CUR_HI. -/
def F.MOVER_CH_CUR_HI_CUR_HI (i j : Nat) : RF := ⟨R.MOVER_CH_CUR_HI i j, 0, 8⟩
/-- MOVER_CH_REMAIN (10_queues_and_movers.md). -/
def R.MOVER_CH_REMAIN (i j : Nat) : Nat := 0x3001028 + 65536 * i + 64 * j
/-- MOVER_CH_REMAIN.REMAIN. -/
def F.MOVER_CH_REMAIN_REMAIN (i j : Nat) : RF := ⟨R.MOVER_CH_REMAIN i j, 0, 25⟩
/-- MOVER_CH_ERR_LO (10_queues_and_movers.md). -/
def R.MOVER_CH_ERR_LO (i j : Nat) : Nat := 0x300102C + 65536 * i + 64 * j
/-- MOVER_CH_ERR_LO.ADDR. -/
def F.MOVER_CH_ERR_LO_ADDR (i j : Nat) : RF := ⟨R.MOVER_CH_ERR_LO i j, 0, 32⟩
/-- MOVER_CH_ERR_HI (10_queues_and_movers.md). -/
def R.MOVER_CH_ERR_HI (i j : Nat) : Nat := 0x3001030 + 65536 * i + 64 * j
/-- MOVER_CH_ERR_HI.ADDR_HI. -/
def F.MOVER_CH_ERR_HI_ADDR_HI (i j : Nat) : RF := ⟨R.MOVER_CH_ERR_HI i j, 0, 8⟩
/-- MOVER_CH_ERR_HI.DIR. -/
def F.MOVER_CH_ERR_HI_DIR (i j : Nat) : RF := ⟨R.MOVER_CH_ERR_HI i j, 8, 1⟩
/-- MOVER_CH_ERR_HI.RESP. -/
def F.MOVER_CH_ERR_HI_RESP (i j : Nat) : RF := ⟨R.MOVER_CH_ERR_HI i j, 9, 3⟩
/-- MOVER_CH_ERR_HI.FETCH. -/
def F.MOVER_CH_ERR_HI_FETCH (i j : Nat) : RF := ⟨R.MOVER_CH_ERR_HI i j, 12, 1⟩
/-- MOVER_CH_ERR_HI.FMT. -/
def F.MOVER_CH_ERR_HI_FMT (i j : Nat) : RF := ⟨R.MOVER_CH_ERR_HI i j, 13, 1⟩
/-- MOVER_CH_EMARK_AT (10_queues_and_movers.md). -/
def R.MOVER_CH_EMARK_AT (i j : Nat) : Nat := 0x3001034 + 65536 * i + 64 * j
/-- MOVER_CH_EMARK_AT.STAMP. -/
def F.MOVER_CH_EMARK_AT_STAMP (i j : Nat) : RF := ⟨R.MOVER_CH_EMARK_AT i j, 0, 32⟩
/-- MOVER_CH_DONE (10_queues_and_movers.md). -/
def R.MOVER_CH_DONE (i j : Nat) : Nat := 0x3001038 + 65536 * i + 64 * j
/-- MOVER_CH_DONE.DONE. -/
def F.MOVER_CH_DONE_DONE (i j : Nat) : RF := ⟨R.MOVER_CH_DONE i j, 0, 32⟩

/-- The registers of block MOVER, part 0. -/
def regDefsMOVER0 : List RegDef := [
  ⟨0x3000000, 9, 65536, 1, 1, [⟨0, 1, .w1c, 0, 8⟩, ⟨8, 8, .ro, 0, 0⟩]⟩,
  ⟨0x3000004, 9, 65536, 1, 1, [⟨0, 8, .ro, 64, 0⟩]⟩,
  ⟨0x3001000, 9, 65536, 128, 64, [⟨0, 1, .rw, 0, 0⟩, ⟨1, 2, .rw, 0, 0⟩]⟩,
  ⟨0x3001004, 9, 65536, 128, 64, [⟨0, 1, .wo, 0, 0⟩, ⟨1, 1, .wo, 0, 0⟩, ⟨2, 1, .wo, 0, 0⟩, ⟨3, 1, .wo, 0, 0⟩, ⟨4, 1, .wo, 0, 0⟩]⟩,
  ⟨0x3001008, 9, 65536, 128, 64, [⟨0, 3, .ro, 0, 0⟩, ⟨3, 1, .ro, 0, 0⟩, ⟨4, 1, .w1c, 0, 16⟩, ⟨5, 1, .w1c, 0, 0⟩, ⟨6, 1, .w1c, 0, 0⟩, ⟨8, 8, .ro, 0, 0⟩, ⟨16, 8, .ro, 0, 0⟩, ⟨24, 8, .ro, 0, 0⟩]⟩,
  ⟨0x300100C, 9, 65536, 128, 64, [⟨0, 18, .rw, 0, 0⟩]⟩,
  ⟨0x3001010, 9, 65536, 128, 64, [⟨0, 32, .rw, 0, 0⟩]⟩,
  ⟨0x3001014, 9, 65536, 128, 64, [⟨0, 8, .rw, 0, 0⟩]⟩,
  ⟨0x3001018, 9, 65536, 128, 64, [⟨0, 32, .rw, 0, 0⟩]⟩,
  ⟨0x300101C, 9, 65536, 128, 64, [⟨0, 8, .rw, 0, 0⟩]⟩,
  ⟨0x3001020, 9, 65536, 128, 64, [⟨0, 32, .ro, 0, 0⟩]⟩,
  ⟨0x3001024, 9, 65536, 128, 64, [⟨0, 8, .ro, 0, 0⟩]⟩]

/-- The registers of block MOVER, part 1. -/
def regDefsMOVER1 : List RegDef := [
  ⟨0x3001028, 9, 65536, 128, 64, [⟨0, 25, .ro, 0, 0⟩]⟩,
  ⟨0x300102C, 9, 65536, 128, 64, [⟨0, 32, .ro, 0, 0⟩]⟩,
  ⟨0x3001030, 9, 65536, 128, 64, [⟨0, 8, .ro, 0, 0⟩, ⟨8, 1, .ro, 0, 0⟩, ⟨9, 3, .ro, 0, 0⟩, ⟨12, 1, .ro, 0, 0⟩, ⟨13, 1, .ro, 0, 0⟩]⟩,
  ⟨0x3001034, 9, 65536, 128, 64, [⟨0, 32, .ro, 0, 0⟩]⟩,
  ⟨0x3001038, 9, 65536, 128, 64, [⟨0, 32, .ro, 0, 0⟩]⟩]

/-- The registers of block MOVER. -/
def regDefsMOVER : List RegDef := regDefsMOVER0 ++ regDefsMOVER1

/-! ## SIEVE -/

/-- SIEVE_CTRL (09_sieve_scheduling_and_speculation.md). -/
def R.SIEVE_CTRL (i : Nat) : Nat := 0x4000000 + 262144 * i
/-- SIEVE_CTRL.IDLE_GATE. -/
def F.SIEVE_CTRL_IDLE_GATE (i : Nat) : RF := ⟨R.SIEVE_CTRL i, 1, 1⟩
/-- SIEVE_STAT (09_sieve_scheduling_and_speculation.md). -/
def R.SIEVE_STAT (i : Nat) : Nat := 0x4000004 + 262144 * i
/-- SIEVE_STAT.EVT_DROP. -/
def F.SIEVE_STAT_EVT_DROP (i : Nat) : RF := ⟨R.SIEVE_STAT i, 0, 1⟩
/-- SIEVE_STAT.TOK_MIX. -/
def F.SIEVE_STAT_TOK_MIX (i : Nat) : RF := ⟨R.SIEVE_STAT i, 1, 1⟩
/-- SIEVE_STAT.FLOW_STALL. -/
def F.SIEVE_STAT_FLOW_STALL (i : Nat) : RF := ⟨R.SIEVE_STAT i, 2, 1⟩
/-- SIEVE_STAT.BAD_Q. -/
def F.SIEVE_STAT_BAD_Q (i : Nat) : RF := ⟨R.SIEVE_STAT i, 3, 1⟩
/-- SIEVE_STAT.EVT_DROP_REP. -/
def F.SIEVE_STAT_EVT_DROP_REP (i : Nat) : RF := ⟨R.SIEVE_STAT i, 8, 8⟩
/-- SIEVE_STAT.FLOW_STALL_REP. -/
def F.SIEVE_STAT_FLOW_STALL_REP (i : Nat) : RF := ⟨R.SIEVE_STAT i, 16, 8⟩
/-- SIEVE_CFG (09_sieve_scheduling_and_speculation.md). -/
def R.SIEVE_CFG (i : Nat) : Nat := 0x4000008 + 262144 * i
/-- SIEVE_CFG.SETTLE. -/
def F.SIEVE_CFG_SETTLE (i : Nat) : RF := ⟨R.SIEVE_CFG i, 0, 8⟩
/-- SIEVE_CFG.STALL_STRATA. -/
def F.SIEVE_CFG_STALL_STRATA (i : Nat) : RF := ⟨R.SIEVE_CFG i, 8, 8⟩
/-- SIEVE_CFG.STALL_EVT. -/
def F.SIEVE_CFG_STALL_EVT (i : Nat) : RF := ⟨R.SIEVE_CFG i, 16, 16⟩
/-- SIEVE_OCC (09_sieve_scheduling_and_speculation.md). -/
def R.SIEVE_OCC (i : Nat) : Nat := 0x400000C + 262144 * i
/-- SIEVE_OCC.READY. -/
def F.SIEVE_OCC_READY (i : Nat) : RF := ⟨R.SIEVE_OCC i, 0, 13⟩
/-- SIEVE_OCC.WAITING. -/
def F.SIEVE_OCC_WAITING (i : Nat) : RF := ⟨R.SIEVE_OCC i, 16, 13⟩
/-- SIEVE_ITEMS (09_sieve_scheduling_and_speculation.md). -/
def R.SIEVE_ITEMS (i : Nat) : Nat := 0x4000010 + 262144 * i
/-- SIEVE_ITEMS.ITEMS. -/
def F.SIEVE_ITEMS_ITEMS (i : Nat) : RF := ⟨R.SIEVE_ITEMS i, 0, 17⟩
/-- SIEVE_TOKOCC (09_sieve_scheduling_and_speculation.md). -/
def R.SIEVE_TOKOCC (i : Nat) : Nat := 0x4000014 + 262144 * i
/-- SIEVE_TOKOCC.OPEN. -/
def F.SIEVE_TOKOCC_OPEN (i : Nat) : RF := ⟨R.SIEVE_TOKOCC i, 0, 13⟩
/-- SIEVE_TOKOCC.UNFREED. -/
def F.SIEVE_TOKOCC_UNFREED (i : Nat) : RF := ⟨R.SIEVE_TOKOCC i, 16, 13⟩
/-- SIEVE_FLOW_SEL (09_sieve_scheduling_and_speculation.md). -/
def R.SIEVE_FLOW_SEL (i : Nat) : Nat := 0x4000100 + 262144 * i
/-- SIEVE_FLOW_SEL.FLOW. -/
def F.SIEVE_FLOW_SEL_FLOW (i : Nat) : RF := ⟨R.SIEVE_FLOW_SEL i, 0, 14⟩
/-- SIEVE_FLOW_CFG (09_sieve_scheduling_and_speculation.md). -/
def R.SIEVE_FLOW_CFG (i : Nat) : Nat := 0x4000104 + 262144 * i
/-- SIEVE_FLOW_CFG.OUTQ. -/
def F.SIEVE_FLOW_CFG_OUTQ (i : Nat) : RF := ⟨R.SIEVE_FLOW_CFG i, 0, 18⟩
/-- SIEVE_FLOW_CFG.EN. -/
def F.SIEVE_FLOW_CFG_EN (i : Nat) : RF := ⟨R.SIEVE_FLOW_CFG i, 18, 1⟩
/-- SIEVE_FLOW_CFG.STALL_AGE. -/
def F.SIEVE_FLOW_CFG_STALL_AGE (i : Nat) : RF := ⟨R.SIEVE_FLOW_CFG i, 20, 12⟩
/-- SIEVE_FLOW_STAT (09_sieve_scheduling_and_speculation.md). -/
def R.SIEVE_FLOW_STAT (i : Nat) : Nat := 0x4000108 + 262144 * i
/-- SIEVE_FLOW_STAT.HEAD. -/
def F.SIEVE_FLOW_STAT_HEAD (i : Nat) : RF := ⟨R.SIEVE_FLOW_STAT i, 0, 16⟩
/-- SIEVE_FLOW_STAT.INFLIGHT. -/
def F.SIEVE_FLOW_STAT_INFLIGHT (i : Nat) : RF := ⟨R.SIEVE_FLOW_STAT i, 16, 11⟩
/-- SIEVE_FLOW_STAT.STALLED. -/
def F.SIEVE_FLOW_STAT_STALLED (i : Nat) : RF := ⟨R.SIEVE_FLOW_STAT i, 27, 1⟩
/-- SIEVE_FLOW_STAT.OUT_WAIT. -/
def F.SIEVE_FLOW_STAT_OUT_WAIT (i : Nat) : RF := ⟨R.SIEVE_FLOW_STAT i, 28, 1⟩
/-- SIEVE_TOK_SEL (09_sieve_scheduling_and_speculation.md). -/
def R.SIEVE_TOK_SEL (i : Nat) : Nat := 0x4000200 + 262144 * i
/-- SIEVE_TOK_SEL.INDEX. -/
def F.SIEVE_TOK_SEL_INDEX (i : Nat) : RF := ⟨R.SIEVE_TOK_SEL i, 0, 12⟩
/-- SIEVE_TOK_STAT (09_sieve_scheduling_and_speculation.md). -/
def R.SIEVE_TOK_STAT (i : Nat) : Nat := 0x4000204 + 262144 * i
/-- SIEVE_TOK_STAT.STATE. -/
def F.SIEVE_TOK_STAT_STATE (i : Nat) : RF := ⟨R.SIEVE_TOK_STAT i, 0, 2⟩
/-- SIEVE_TOK_STAT.SETTLED. -/
def F.SIEVE_TOK_STAT_SETTLED (i : Nat) : RF := ⟨R.SIEVE_TOK_STAT i, 2, 1⟩
/-- SIEVE_TOK_STAT.OWNER. -/
def F.SIEVE_TOK_STAT_OWNER (i : Nat) : RF := ⟨R.SIEVE_TOK_STAT i, 3, 5⟩
/-- SIEVE_TOK_STAT.ACKS. -/
def F.SIEVE_TOK_STAT_ACKS (i : Nat) : RF := ⟨R.SIEVE_TOK_STAT i, 8, 5⟩
/-- SIEVE_TOK_CMD (09_sieve_scheduling_and_speculation.md). -/
def R.SIEVE_TOK_CMD (i : Nat) : Nat := 0x4000208 + 262144 * i
/-- SIEVE_TOK_CMD.COMMIT. -/
def F.SIEVE_TOK_CMD_COMMIT (i : Nat) : RF := ⟨R.SIEVE_TOK_CMD i, 0, 1⟩
/-- SIEVE_TOK_CMD.SQUASH. -/
def F.SIEVE_TOK_CMD_SQUASH (i : Nat) : RF := ⟨R.SIEVE_TOK_CMD i, 1, 1⟩
/-- SIEVE_TOK_CMD.FREE. -/
def F.SIEVE_TOK_CMD_FREE (i : Nat) : RF := ⟨R.SIEVE_TOK_CMD i, 2, 1⟩

/-- The registers of block SIEVE, part 0. -/
def regDefsSIEVE0 : List RegDef := [
  ⟨0x4000000, 8, 262144, 1, 1, [⟨1, 1, .rw, 1, 0⟩]⟩,
  ⟨0x4000004, 8, 262144, 1, 1, [⟨0, 1, .w1c, 0, 8⟩, ⟨1, 1, .w1c, 0, 0⟩, ⟨2, 1, .w1c, 0, 16⟩, ⟨3, 1, .w1c, 0, 0⟩, ⟨8, 8, .ro, 0, 0⟩, ⟨16, 8, .ro, 0, 0⟩]⟩,
  ⟨0x4000008, 8, 262144, 1, 1, [⟨0, 8, .rw, 125, 0⟩, ⟨8, 8, .rw, 0, 0⟩, ⟨16, 16, .rw, 0, 0⟩]⟩,
  ⟨0x400000C, 8, 262144, 1, 1, [⟨0, 13, .ro, 0, 0⟩, ⟨16, 13, .ro, 0, 0⟩]⟩,
  ⟨0x4000010, 8, 262144, 1, 1, [⟨0, 17, .ro, 0, 0⟩]⟩,
  ⟨0x4000014, 8, 262144, 1, 1, [⟨0, 13, .ro, 0, 0⟩, ⟨16, 13, .ro, 0, 0⟩]⟩,
  ⟨0x4000100, 8, 262144, 1, 1, [⟨0, 14, .rw, 0, 0⟩]⟩,
  ⟨0x4000104, 8, 262144, 1, 1, [⟨0, 18, .rw, 0, 0⟩, ⟨18, 1, .rw, 0, 0⟩, ⟨20, 12, .rw, 0, 0⟩]⟩,
  ⟨0x4000108, 8, 262144, 1, 1, [⟨0, 16, .ro, 0, 0⟩, ⟨16, 11, .ro, 0, 0⟩, ⟨27, 1, .ro, 0, 0⟩, ⟨28, 1, .ro, 0, 0⟩]⟩,
  ⟨0x4000200, 8, 262144, 1, 1, [⟨0, 12, .rw, 0, 0⟩]⟩,
  ⟨0x4000204, 8, 262144, 1, 1, [⟨0, 2, .ro, 0, 0⟩, ⟨2, 1, .ro, 0, 0⟩, ⟨3, 5, .ro, 0, 0⟩, ⟨8, 5, .ro, 0, 0⟩]⟩,
  ⟨0x4000208, 8, 262144, 1, 1, [⟨0, 1, .wo, 0, 0⟩, ⟨1, 1, .wo, 0, 0⟩, ⟨2, 1, .wo, 0, 0⟩]⟩]

/-- The registers of block SIEVE. -/
def regDefsSIEVE : List RegDef := regDefsSIEVE0

/-! ## VEIN -/

/-- VEIN_CTRL (11_vein_fabric.md). -/
def R.VEIN_CTRL : Nat := 0x5000000
/-- VEIN_CTRL.CTRL_TMO. -/
def F.VEIN_CTRL_CTRL_TMO : RF := ⟨R.VEIN_CTRL, 0, 8⟩
/-- VEIN_CTRL.DATA_TMO. -/
def F.VEIN_CTRL_DATA_TMO : RF := ⟨R.VEIN_CTRL, 8, 8⟩
/-- VEIN_CTRL.ADAPT_EN. -/
def F.VEIN_CTRL_ADAPT_EN : RF := ⟨R.VEIN_CTRL, 16, 1⟩
/-- VEIN_STAT (11_vein_fabric.md). -/
def R.VEIN_STAT : Nat := 0x5000004
/-- VEIN_STAT.SBE. -/
def F.VEIN_STAT_SBE : RF := ⟨R.VEIN_STAT, 0, 1⟩
/-- VEIN_STAT.DBE. -/
def F.VEIN_STAT_DBE : RF := ⟨R.VEIN_STAT, 1, 1⟩
/-- VEIN_STAT.PAR_DROP. -/
def F.VEIN_STAT_PAR_DROP : RF := ⟨R.VEIN_STAT, 2, 1⟩
/-- VEIN_STAT.LATE_RSP. -/
def F.VEIN_STAT_LATE_RSP : RF := ⟨R.VEIN_STAT, 3, 1⟩
/-- VEIN_STAT.ID_RES. -/
def F.VEIN_STAT_ID_RES : RF := ⟨R.VEIN_STAT, 4, 1⟩
/-- VEIN_STAT.BAD_OP. -/
def F.VEIN_STAT_BAD_OP : RF := ⟨R.VEIN_STAT, 5, 1⟩
/-- VEIN_STAT.DBE_REP. -/
def F.VEIN_STAT_DBE_REP : RF := ⟨R.VEIN_STAT, 8, 8⟩
/-- VEIN_STAT.PAR_DROP_REP. -/
def F.VEIN_STAT_PAR_DROP_REP : RF := ⟨R.VEIN_STAT, 16, 8⟩
/-- VEIN_STAT.LATE_REP. -/
def F.VEIN_STAT_LATE_REP : RF := ⟨R.VEIN_STAT, 24, 8⟩
/-- VEIN_ERR_LOC (11_vein_fabric.md). -/
def R.VEIN_ERR_LOC : Nat := 0x5000008
/-- VEIN_ERR_LOC.NODE. -/
def F.VEIN_ERR_LOC_NODE : RF := ⟨R.VEIN_ERR_LOC, 0, 8⟩
/-- VEIN_ERR_LOC.KIND. -/
def F.VEIN_ERR_LOC_KIND : RF := ⟨R.VEIN_ERR_LOC, 8, 4⟩
/-- VEIN_ERR_LOC.INIT. -/
def F.VEIN_ERR_LOC_INIT : RF := ⟨R.VEIN_ERR_LOC, 12, 12⟩
/-- VEIN_BRIDGE_DIS (11_vein_fabric.md). -/
def R.VEIN_BRIDGE_DIS : Nat := 0x500000C
/-- VEIN_BRIDGE_DIS.DIS. -/
def F.VEIN_BRIDGE_DIS_DIS : RF := ⟨R.VEIN_BRIDGE_DIS, 0, 8⟩
/-- VEIN_STOP_SEL (11_vein_fabric.md). -/
def R.VEIN_STOP_SEL : Nat := 0x5000010
/-- VEIN_STOP_SEL.NODE. -/
def F.VEIN_STOP_SEL_NODE : RF := ⟨R.VEIN_STOP_SEL, 0, 8⟩
/-- VEIN_STOP_CTRL (11_vein_fabric.md). -/
def R.VEIN_STOP_CTRL : Nat := 0x5000014
/-- VEIN_STOP_CTRL.CLOSE. -/
def F.VEIN_STOP_CTRL_CLOSE : RF := ⟨R.VEIN_STOP_CTRL, 0, 1⟩
/-- VEIN_STOP_CTRL.CLR_CNT. -/
def F.VEIN_STOP_CTRL_CLR_CNT : RF := ⟨R.VEIN_STOP_CTRL, 1, 1⟩
/-- VEIN_STOP_STAT (11_vein_fabric.md). -/
def R.VEIN_STOP_STAT : Nat := 0x5000018
/-- VEIN_STOP_STAT.CLOSED. -/
def F.VEIN_STOP_STAT_CLOSED : RF := ⟨R.VEIN_STOP_STAT, 0, 1⟩
/-- VEIN_STOP_STAT.DRAINED. -/
def F.VEIN_STOP_STAT_DRAINED : RF := ⟨R.VEIN_STOP_STAT, 1, 1⟩
/-- VEIN_STOP_STAT.RES_IDS. -/
def F.VEIN_STOP_STAT_RES_IDS : RF := ⟨R.VEIN_STOP_STAT, 8, 8⟩
/-- VEIN_STOP_DROP (11_vein_fabric.md). -/
def R.VEIN_STOP_DROP : Nat := 0x500001C
/-- VEIN_STOP_DROP.DROPPED_POSTED. -/
def F.VEIN_STOP_DROP_DROPPED_POSTED : RF := ⟨R.VEIN_STOP_DROP, 0, 16⟩
/-- VEIN_STOP_DROP.DROPPED_OTHER. -/
def F.VEIN_STOP_DROP_DROPPED_OTHER : RF := ⟨R.VEIN_STOP_DROP, 16, 16⟩
/-- VEIN_RT_SEL (11_vein_fabric.md). -/
def R.VEIN_RT_SEL : Nat := 0x5000020
/-- VEIN_RT_SEL.NI. -/
def F.VEIN_RT_SEL_NI : RF := ⟨R.VEIN_RT_SEL, 0, 8⟩
/-- VEIN_RT_SEL.DEST. -/
def F.VEIN_RT_SEL_DEST : RF := ⟨R.VEIN_RT_SEL, 8, 8⟩
/-- VEIN_RT_DATA (11_vein_fabric.md). -/
def R.VEIN_RT_DATA : Nat := 0x5000024
/-- VEIN_RT_DATA.VALID. -/
def F.VEIN_RT_DATA_VALID : RF := ⟨R.VEIN_RT_DATA, 0, 1⟩
/-- VEIN_RT_DATA.SDIR. -/
def F.VEIN_RT_DATA_SDIR : RF := ⟨R.VEIN_RT_DATA, 1, 1⟩
/-- VEIN_RT_DATA.XBR. -/
def F.VEIN_RT_DATA_XBR : RF := ⟨R.VEIN_RT_DATA, 2, 1⟩
/-- VEIN_RT_DATA.PDIR. -/
def F.VEIN_RT_DATA_PDIR : RF := ⟨R.VEIN_RT_DATA, 3, 1⟩
/-- VEIN_RT_DATA.EBR. -/
def F.VEIN_RT_DATA_EBR : RF := ⟨R.VEIN_RT_DATA, 4, 1⟩
/-- VEIN_RT_DATA.DDIR. -/
def F.VEIN_RT_DATA_DDIR : RF := ⟨R.VEIN_RT_DATA, 5, 1⟩
/-- VEIN_RT_DATA.VC. -/
def F.VEIN_RT_DATA_VC : RF := ⟨R.VEIN_RT_DATA, 6, 1⟩

/-- The registers of block VEIN, part 0. -/
def regDefsVEIN0 : List RegDef := [
  ⟨0x5000000, 1, 1, 1, 1, [⟨0, 8, .rw, 16, 0⟩, ⟨8, 8, .rw, 64, 0⟩, ⟨16, 1, .rw, 1, 0⟩]⟩,
  ⟨0x5000004, 1, 1, 1, 1, [⟨0, 1, .w1c, 0, 0⟩, ⟨1, 1, .w1c, 0, 8⟩, ⟨2, 1, .w1c, 0, 16⟩, ⟨3, 1, .w1c, 0, 24⟩, ⟨4, 1, .w1c, 0, 0⟩, ⟨5, 1, .w1c, 0, 0⟩, ⟨8, 8, .ro, 0, 0⟩, ⟨16, 8, .ro, 0, 0⟩, ⟨24, 8, .ro, 0, 0⟩]⟩,
  ⟨0x5000008, 1, 1, 1, 1, [⟨0, 8, .ro, 0, 0⟩, ⟨8, 4, .ro, 0, 0⟩, ⟨12, 12, .ro, 0, 0⟩]⟩,
  ⟨0x500000C, 1, 1, 1, 1, [⟨0, 8, .rw, 0, 0⟩]⟩,
  ⟨0x5000010, 1, 1, 1, 1, [⟨0, 8, .rw, 0, 0⟩]⟩,
  ⟨0x5000014, 1, 1, 1, 1, [⟨0, 1, .rw, 0, 0⟩, ⟨1, 1, .wo, 0, 0⟩]⟩,
  ⟨0x5000018, 1, 1, 1, 1, [⟨0, 1, .ro, 0, 0⟩, ⟨1, 1, .ro, 0, 0⟩, ⟨8, 8, .ro, 0, 0⟩]⟩,
  ⟨0x500001C, 1, 1, 1, 1, [⟨0, 16, .ro, 0, 0⟩, ⟨16, 16, .ro, 0, 0⟩]⟩,
  ⟨0x5000020, 1, 1, 1, 1, [⟨0, 8, .rw, 0, 0⟩, ⟨8, 8, .rw, 0, 0⟩]⟩,
  ⟨0x5000024, 1, 1, 1, 1, [⟨0, 1, .rwl, 0, 0⟩, ⟨1, 1, .rwl, 0, 0⟩, ⟨2, 1, .rwl, 0, 0⟩, ⟨3, 1, .rwl, 0, 0⟩, ⟨4, 1, .rwl, 0, 0⟩, ⟨5, 1, .rwl, 0, 0⟩, ⟨6, 1, .rwl, 0, 0⟩]⟩]

/-- The registers of block VEIN. -/
def regDefsVEIN : List RegDef := regDefsVEIN0

/-! ## FH -/

/-- FH_GRP_CFG (13_fronthaul_lanes.md). -/
def R.FH_GRP_CFG (i : Nat) : Nat := 0x6000100 + 16 * i
/-- FH_GRP_CFG.RATE. -/
def F.FH_GRP_CFG_RATE (i : Nat) : RF := ⟨R.FH_GRP_CFG i, 0, 3⟩
/-- FH_GRP_STAT (13_fronthaul_lanes.md). -/
def R.FH_GRP_STAT (i : Nat) : Nat := 0x6000104 + 16 * i
/-- FH_GRP_STAT.CFG_BAD. -/
def F.FH_GRP_STAT_CFG_BAD (i : Nat) : RF := ⟨R.FH_GRP_STAT i, 0, 1⟩
/-- FH_LANE_CFG (13_fronthaul_lanes.md). -/
def R.FH_LANE_CFG (i : Nat) : Nat := 0x6010000 + 256 * i
/-- FH_LANE_CFG.TX_INV. -/
def F.FH_LANE_CFG_TX_INV (i : Nat) : RF := ⟨R.FH_LANE_CFG i, 0, 1⟩
/-- FH_LANE_CFG.RX_POL. -/
def F.FH_LANE_CFG_RX_POL (i : Nat) : RF := ⟨R.FH_LANE_CFG i, 1, 1⟩
/-- FH_LANE_CFG.RX_POL_AUTO. -/
def F.FH_LANE_CFG_RX_POL_AUTO (i : Nat) : RF := ⟨R.FH_LANE_CFG i, 2, 1⟩
/-- FH_LANE_CFG.BLK_AUTO. -/
def F.FH_LANE_CFG_BLK_AUTO (i : Nat) : RF := ⟨R.FH_LANE_CFG i, 3, 1⟩
/-- FH_LANE_CFG.LOOP. -/
def F.FH_LANE_CFG_LOOP (i : Nat) : RF := ⟨R.FH_LANE_CFG i, 4, 2⟩
/-- FH_LANE_CFG.ADAPT_FREEZE. -/
def F.FH_LANE_CFG_ADAPT_FREEZE (i : Nat) : RF := ⟨R.FH_LANE_CFG i, 6, 1⟩
/-- FH_LANE_CFG.CTLE_MAN. -/
def F.FH_LANE_CFG_CTLE_MAN (i : Nat) : RF := ⟨R.FH_LANE_CFG i, 7, 1⟩
/-- FH_LANE_CFG.CTLE. -/
def F.FH_LANE_CFG_CTLE (i : Nat) : RF := ⟨R.FH_LANE_CFG i, 8, 4⟩
/-- FH_LANE_STAT (13_fronthaul_lanes.md). -/
def R.FH_LANE_STAT (i : Nat) : Nat := 0x6010004 + 256 * i
/-- FH_LANE_STAT.CDR_LOCK. -/
def F.FH_LANE_STAT_CDR_LOCK (i : Nat) : RF := ⟨R.FH_LANE_STAT i, 0, 1⟩
/-- FH_LANE_STAT.BLK_LOCK. -/
def F.FH_LANE_STAT_BLK_LOCK (i : Nat) : RF := ⟨R.FH_LANE_STAT i, 1, 1⟩
/-- FH_LANE_STAT.RX_INV. -/
def F.FH_LANE_STAT_RX_INV (i : Nat) : RF := ⟨R.FH_LANE_STAT i, 2, 1⟩
/-- FH_LANE_STAT.SLIP_BUSY. -/
def F.FH_LANE_STAT_SLIP_BUSY (i : Nat) : RF := ⟨R.FH_LANE_STAT i, 3, 1⟩
/-- FH_LANE_STAT.LOS_NOW. -/
def F.FH_LANE_STAT_LOS_NOW (i : Nat) : RF := ⟨R.FH_LANE_STAT i, 4, 1⟩
/-- FH_LANE_STAT.SHORT_NOW. -/
def F.FH_LANE_STAT_SHORT_NOW (i : Nat) : RF := ⟨R.FH_LANE_STAT i, 5, 1⟩
/-- FH_LANE_STAT.CMD_REFUSED. -/
def F.FH_LANE_STAT_CMD_REFUSED (i : Nat) : RF := ⟨R.FH_LANE_STAT i, 6, 1⟩
/-- FH_LANE_STAT.FFE_BAD. -/
def F.FH_LANE_STAT_FFE_BAD (i : Nat) : RF := ⟨R.FH_LANE_STAT i, 7, 1⟩
/-- FH_LANE_STAT.CHK_LOCK. -/
def F.FH_LANE_STAT_CHK_LOCK (i : Nat) : RF := ⟨R.FH_LANE_STAT i, 8, 1⟩
/-- FH_LANE_FAULT (13_fronthaul_lanes.md). -/
def R.FH_LANE_FAULT (i : Nat) : Nat := 0x6010008 + 256 * i
/-- FH_LANE_FAULT.LOS. -/
def F.FH_LANE_FAULT_LOS (i : Nat) : RF := ⟨R.FH_LANE_FAULT i, 0, 1⟩
/-- FH_LANE_FAULT.SHORT. -/
def F.FH_LANE_FAULT_SHORT (i : Nat) : RF := ⟨R.FH_LANE_FAULT i, 1, 1⟩
/-- FH_LANE_FAULT.POL_INV. -/
def F.FH_LANE_FAULT_POL_INV (i : Nat) : RF := ⟨R.FH_LANE_FAULT i, 2, 1⟩
/-- FH_LANE_FAULT.LOS_REP. -/
def F.FH_LANE_FAULT_LOS_REP (i : Nat) : RF := ⟨R.FH_LANE_FAULT i, 8, 8⟩
/-- FH_LANE_FAULT.SHORT_REP. -/
def F.FH_LANE_FAULT_SHORT_REP (i : Nat) : RF := ⟨R.FH_LANE_FAULT i, 16, 8⟩
/-- FH_LANE_DFE (13_fronthaul_lanes.md). -/
def R.FH_LANE_DFE (i j : Nat) : Nat := 0x601000C + 256 * i + 4 * j
/-- FH_LANE_DFE.TAP0. -/
def F.FH_LANE_DFE_TAP0 (i j : Nat) : RF := ⟨R.FH_LANE_DFE i j, 0, 8⟩
/-- FH_LANE_DFE.TAP1. -/
def F.FH_LANE_DFE_TAP1 (i j : Nat) : RF := ⟨R.FH_LANE_DFE i j, 8, 8⟩
/-- FH_LANE_DFE.TAP2. -/
def F.FH_LANE_DFE_TAP2 (i j : Nat) : RF := ⟨R.FH_LANE_DFE i j, 16, 8⟩
/-- FH_LANE_DFE.TAP3. -/
def F.FH_LANE_DFE_TAP3 (i j : Nat) : RF := ⟨R.FH_LANE_DFE i j, 24, 8⟩
/-- FH_LANE_FFE (13_fronthaul_lanes.md). -/
def R.FH_LANE_FFE (i : Nat) : Nat := 0x6010018 + 256 * i
/-- FH_LANE_FFE.PRE2. -/
def F.FH_LANE_FFE_PRE2 (i : Nat) : RF := ⟨R.FH_LANE_FFE i, 0, 4⟩
/-- FH_LANE_FFE.PRE1. -/
def F.FH_LANE_FFE_PRE1 (i : Nat) : RF := ⟨R.FH_LANE_FFE i, 4, 6⟩
/-- FH_LANE_FFE.MAIN. -/
def F.FH_LANE_FFE_MAIN (i : Nat) : RF := ⟨R.FH_LANE_FFE i, 10, 7⟩
/-- FH_LANE_FFE.POST1. -/
def F.FH_LANE_FFE_POST1 (i : Nat) : RF := ⟨R.FH_LANE_FFE i, 17, 6⟩
/-- FH_LANE_FFE.POST2. -/
def F.FH_LANE_FFE_POST2 (i : Nat) : RF := ⟨R.FH_LANE_FFE i, 23, 4⟩
/-- FH_LANE_PRBS (13_fronthaul_lanes.md). -/
def R.FH_LANE_PRBS (i : Nat) : Nat := 0x601001C + 256 * i
/-- FH_LANE_PRBS.GEN. -/
def F.FH_LANE_PRBS_GEN (i : Nat) : RF := ⟨R.FH_LANE_PRBS i, 0, 3⟩
/-- FH_LANE_PRBS.CHK. -/
def F.FH_LANE_PRBS_CHK (i : Nat) : RF := ⟨R.FH_LANE_PRBS i, 4, 3⟩
/-- FH_LANE_PRBS_ERR (13_fronthaul_lanes.md). -/
def R.FH_LANE_PRBS_ERR (i : Nat) : Nat := 0x6010020 + 256 * i
/-- FH_LANE_PRBS_ERR.ERR. -/
def F.FH_LANE_PRBS_ERR_ERR (i : Nat) : RF := ⟨R.FH_LANE_PRBS_ERR i, 0, 32⟩
/-- FH_LANE_SH (13_fronthaul_lanes.md). -/
def R.FH_LANE_SH (i : Nat) : Nat := 0x6010024 + 256 * i
/-- FH_LANE_SH.SH_BAD. -/
def F.FH_LANE_SH_SH_BAD (i : Nat) : RF := ⟨R.FH_LANE_SH i, 0, 16⟩
/-- FH_LANE_CMD (13_fronthaul_lanes.md). -/
def R.FH_LANE_CMD (i : Nat) : Nat := 0x6010028 + 256 * i
/-- FH_LANE_CMD.BITSLIP. -/
def F.FH_LANE_CMD_BITSLIP (i : Nat) : RF := ⟨R.FH_LANE_CMD i, 0, 1⟩
/-- FH_LANE_CMD.INJECT. -/
def F.FH_LANE_CMD_INJECT (i : Nat) : RF := ⟨R.FH_LANE_CMD i, 1, 1⟩
/-- FH_LANE_CMD.CNT_CLR. -/
def F.FH_LANE_CMD_CNT_CLR (i : Nat) : RF := ⟨R.FH_LANE_CMD i, 2, 1⟩
/-- FH_PORT_CFG (13_fronthaul_lanes.md). -/
def R.FH_PORT_CFG (i : Nat) : Nat := 0x6040000 + 128 * i
/-- FH_PORT_CFG.RX_EN. -/
def F.FH_PORT_CFG_RX_EN (i : Nat) : RF := ⟨R.FH_PORT_CFG i, 0, 1⟩
/-- FH_PORT_CFG.TX_EN. -/
def F.FH_PORT_CFG_TX_EN (i : Nat) : RF := ⟨R.FH_PORT_CFG i, 1, 1⟩
/-- FH_PORT_CFG.SPEED. -/
def F.FH_PORT_CFG_SPEED (i : Nat) : RF := ⟨R.FH_PORT_CFG i, 2, 3⟩
/-- FH_PORT_CFG.FEC_EN. -/
def F.FH_PORT_CFG_FEC_EN (i : Nat) : RF := ⟨R.FH_PORT_CFG i, 5, 1⟩
/-- FH_PORT_CFG.TX_REV. -/
def F.FH_PORT_CFG_TX_REV (i : Nat) : RF := ⟨R.FH_PORT_CFG i, 6, 1⟩
/-- FH_PORT_CFG.CAP_PTP. -/
def F.FH_PORT_CFG_CAP_PTP (i : Nat) : RF := ⟨R.FH_PORT_CFG i, 7, 1⟩
/-- FH_PORT_CFG.LAUNCH_MIN. -/
def F.FH_PORT_CFG_LAUNCH_MIN (i : Nat) : RF := ⟨R.FH_PORT_CFG i, 8, 8⟩
/-- FH_PORT_STAT (13_fronthaul_lanes.md). -/
def R.FH_PORT_STAT (i : Nat) : Nat := 0x6040004 + 128 * i
/-- FH_PORT_STAT.LINK. -/
def F.FH_PORT_STAT_LINK (i : Nat) : RF := ⟨R.FH_PORT_STAT i, 0, 1⟩
/-- FH_PORT_STAT.CFG_BAD. -/
def F.FH_PORT_STAT_CFG_BAD (i : Nat) : RF := ⟨R.FH_PORT_STAT i, 1, 1⟩
/-- FH_PORT_STAT.LANE_MAP. -/
def F.FH_PORT_STAT_LANE_MAP (i : Nat) : RF := ⟨R.FH_PORT_STAT i, 2, 1⟩
/-- FH_PORT_STAT.FEC_UNCORR. -/
def F.FH_PORT_STAT_FEC_UNCORR (i : Nat) : RF := ⟨R.FH_PORT_STAT i, 3, 1⟩
/-- FH_PORT_STAT.LINK_LOST. -/
def F.FH_PORT_STAT_LINK_LOST (i : Nat) : RF := ⟨R.FH_PORT_STAT i, 4, 1⟩
/-- FH_PORT_STAT.UNCORR_REP. -/
def F.FH_PORT_STAT_UNCORR_REP (i : Nat) : RF := ⟨R.FH_PORT_STAT i, 8, 8⟩
/-- FH_PORT_STAT.LOST_REP. -/
def F.FH_PORT_STAT_LOST_REP (i : Nat) : RF := ⟨R.FH_PORT_STAT i, 16, 8⟩
/-- FH_PORT_LMAP (13_fronthaul_lanes.md). -/
def R.FH_PORT_LMAP (i : Nat) : Nat := 0x6040008 + 128 * i
/-- FH_PORT_LMAP.MAP0. -/
def F.FH_PORT_LMAP_MAP0 (i : Nat) : RF := ⟨R.FH_PORT_LMAP i, 0, 3⟩
/-- FH_PORT_LMAP.MAP1. -/
def F.FH_PORT_LMAP_MAP1 (i : Nat) : RF := ⟨R.FH_PORT_LMAP i, 3, 3⟩
/-- FH_PORT_LMAP.MAP2. -/
def F.FH_PORT_LMAP_MAP2 (i : Nat) : RF := ⟨R.FH_PORT_LMAP i, 6, 3⟩
/-- FH_PORT_LMAP.MAP3. -/
def F.FH_PORT_LMAP_MAP3 (i : Nat) : RF := ⟨R.FH_PORT_LMAP i, 9, 3⟩
/-- FH_PORT_LMAP.MAP4. -/
def F.FH_PORT_LMAP_MAP4 (i : Nat) : RF := ⟨R.FH_PORT_LMAP i, 12, 3⟩
/-- FH_PORT_LMAP.MAP5. -/
def F.FH_PORT_LMAP_MAP5 (i : Nat) : RF := ⟨R.FH_PORT_LMAP i, 15, 3⟩
/-- FH_PORT_LMAP.MAP6. -/
def F.FH_PORT_LMAP_MAP6 (i : Nat) : RF := ⟨R.FH_PORT_LMAP i, 18, 3⟩
/-- FH_PORT_LMAP.MAP7. -/
def F.FH_PORT_LMAP_MAP7 (i : Nat) : RF := ⟨R.FH_PORT_LMAP i, 21, 3⟩
/-- FH_PORT_FEC_CORR (13_fronthaul_lanes.md). -/
def R.FH_PORT_FEC_CORR (i : Nat) : Nat := 0x604000C + 128 * i
/-- FH_PORT_FEC_CORR.CORR. -/
def F.FH_PORT_FEC_CORR_CORR (i : Nat) : RF := ⟨R.FH_PORT_FEC_CORR i, 0, 32⟩
/-- FH_PORT_FEC_UNC (13_fronthaul_lanes.md). -/
def R.FH_PORT_FEC_UNC (i : Nat) : Nat := 0x6040010 + 128 * i
/-- FH_PORT_FEC_UNC.UNC. -/
def F.FH_PORT_FEC_UNC_UNC (i : Nat) : RF := ⟨R.FH_PORT_FEC_UNC i, 0, 32⟩
/-- FH_PORT_DROP (13_fronthaul_lanes.md). -/
def R.FH_PORT_DROP (i : Nat) : Nat := 0x6040014 + 128 * i
/-- FH_PORT_DROP.RX. -/
def F.FH_PORT_DROP_RX (i : Nat) : RF := ⟨R.FH_PORT_DROP i, 0, 16⟩
/-- FH_PORT_DROP.GATED. -/
def F.FH_PORT_DROP_GATED (i : Nat) : RF := ⟨R.FH_PORT_DROP i, 16, 16⟩
/-- FH_PORT_SAT (13_fronthaul_lanes.md). -/
def R.FH_PORT_SAT (i : Nat) : Nat := 0x6040018 + 128 * i
/-- FH_PORT_SAT.SAT. -/
def F.FH_PORT_SAT_SAT (i : Nat) : RF := ⟨R.FH_PORT_SAT i, 0, 32⟩
/-- FH_PORT_DEFQ (13_fronthaul_lanes.md). -/
def R.FH_PORT_DEFQ (i : Nat) : Nat := 0x604001C + 128 * i
/-- FH_PORT_DEFQ.QID. -/
def F.FH_PORT_DEFQ_QID (i : Nat) : RF := ⟨R.FH_PORT_DEFQ i, 0, 18⟩
/-- FH_PORT_DEFQ.EN. -/
def F.FH_PORT_DEFQ_EN (i : Nat) : RF := ⟨R.FH_PORT_DEFQ i, 18, 1⟩
/-- FH_TX_BASE_LO (13_fronthaul_lanes.md). -/
def R.FH_TX_BASE_LO (i : Nat) : Nat := 0x6040020 + 128 * i
/-- FH_TX_BASE_LO.BASE. -/
def F.FH_TX_BASE_LO_BASE (i : Nat) : RF := ⟨R.FH_TX_BASE_LO i, 0, 32⟩
/-- FH_TX_CFG (13_fronthaul_lanes.md). -/
def R.FH_TX_CFG (i : Nat) : Nat := 0x6040024 + 128 * i
/-- FH_TX_CFG.BASE_HI. -/
def F.FH_TX_CFG_BASE_HI (i : Nat) : RF := ⟨R.FH_TX_CFG i, 0, 8⟩
/-- FH_TX_CFG.DLOG. -/
def F.FH_TX_CFG_DLOG (i : Nat) : RF := ⟨R.FH_TX_CFG i, 8, 5⟩
/-- FH_TX_CFG.EN. -/
def F.FH_TX_CFG_EN (i : Nat) : RF := ⟨R.FH_TX_CFG i, 13, 1⟩
/-- FH_TX_TAIL (13_fronthaul_lanes.md). -/
def R.FH_TX_TAIL (i : Nat) : Nat := 0x6040028 + 128 * i
/-- FH_TX_TAIL.TAIL. -/
def F.FH_TX_TAIL_TAIL (i : Nat) : RF := ⟨R.FH_TX_TAIL i, 0, 17⟩
/-- FH_TX_HEAD (13_fronthaul_lanes.md). -/
def R.FH_TX_HEAD (i : Nat) : Nat := 0x604002C + 128 * i
/-- FH_TX_HEAD.HEAD. -/
def F.FH_TX_HEAD_HEAD (i : Nat) : RF := ⟨R.FH_TX_HEAD i, 0, 17⟩
/-- FH_RULE_MATCH (13_fronthaul_lanes.md). -/
def R.FH_RULE_MATCH (i : Nat) : Nat := 0x6080000 + 32 * i
/-- FH_RULE_MATCH.EN. -/
def F.FH_RULE_MATCH_EN (i : Nat) : RF := ⟨R.FH_RULE_MATCH i, 0, 1⟩
/-- FH_RULE_MATCH.PORT. -/
def F.FH_RULE_MATCH_PORT (i : Nat) : RF := ⟨R.FH_RULE_MATCH i, 1, 6⟩
/-- FH_RULE_MATCH.ENC. -/
def F.FH_RULE_MATCH_ENC (i : Nat) : RF := ⟨R.FH_RULE_MATCH i, 8, 2⟩
/-- FH_RULE_MATCH.MSGTYPE. -/
def F.FH_RULE_MATCH_MSGTYPE (i : Nat) : RF := ⟨R.FH_RULE_MATCH i, 10, 8⟩
/-- FH_RULE_MATCH.MT_ANY. -/
def F.FH_RULE_MATCH_MT_ANY (i : Nat) : RF := ⟨R.FH_RULE_MATCH i, 18, 1⟩
/-- FH_RULE_MATCH.CAP. -/
def F.FH_RULE_MATCH_CAP (i : Nat) : RF := ⟨R.FH_RULE_MATCH i, 19, 1⟩
/-- FH_RULE_MATCH.DECOMP. -/
def F.FH_RULE_MATCH_DECOMP (i : Nat) : RF := ⟨R.FH_RULE_MATCH i, 20, 2⟩
/-- FH_RULE_MATCH.W. -/
def F.FH_RULE_MATCH_W (i : Nat) : RF := ⟨R.FH_RULE_MATCH i, 22, 4⟩
/-- FH_RULE_KEY (13_fronthaul_lanes.md). -/
def R.FH_RULE_KEY (i : Nat) : Nat := 0x6080004 + 32 * i
/-- FH_RULE_KEY.VALUE. -/
def F.FH_RULE_KEY_VALUE (i : Nat) : RF := ⟨R.FH_RULE_KEY i, 0, 16⟩
/-- FH_RULE_KEY.MASK. -/
def F.FH_RULE_KEY_MASK (i : Nat) : RF := ⟨R.FH_RULE_KEY i, 16, 16⟩
/-- FH_RULE_Q (13_fronthaul_lanes.md). -/
def R.FH_RULE_Q (i : Nat) : Nat := 0x6080008 + 32 * i
/-- FH_RULE_Q.QID. -/
def F.FH_RULE_Q_QID (i : Nat) : RF := ⟨R.FH_RULE_Q i, 0, 18⟩
/-- FH_RULE_Q.NPRB_ALL. -/
def F.FH_RULE_Q_NPRB_ALL (i : Nat) : RF := ⟨R.FH_RULE_Q i, 18, 9⟩
/-- FH_RULE_BUF_LO (13_fronthaul_lanes.md). -/
def R.FH_RULE_BUF_LO (i : Nat) : Nat := 0x608000C + 32 * i
/-- FH_RULE_BUF_LO.BUF. -/
def F.FH_RULE_BUF_LO_BUF (i : Nat) : RF := ⟨R.FH_RULE_BUF_LO i, 0, 32⟩
/-- FH_RULE_BUF_HI (13_fronthaul_lanes.md). -/
def R.FH_RULE_BUF_HI (i : Nat) : Nat := 0x6080010 + 32 * i
/-- FH_RULE_BUF_HI.BUF_HI. -/
def F.FH_RULE_BUF_HI_BUF_HI (i : Nat) : RF := ⟨R.FH_RULE_BUF_HI i, 0, 8⟩
/-- FH_RULE_BUF_HI.SLOT_LOG. -/
def F.FH_RULE_BUF_HI_SLOT_LOG (i : Nat) : RF := ⟨R.FH_RULE_BUF_HI i, 8, 4⟩
/-- FH_RULE_UDP (13_fronthaul_lanes.md). -/
def R.FH_RULE_UDP (i : Nat) : Nat := 0x6080014 + 32 * i
/-- FH_RULE_UDP.UDP. -/
def F.FH_RULE_UDP_UDP (i : Nat) : RF := ⟨R.FH_RULE_UDP i, 0, 16⟩
/-- FH_JESD_CFG (13_fronthaul_lanes.md). -/
def R.FH_JESD_CFG (i : Nat) : Nat := 0x60C0000 + 256 * i
/-- FH_JESD_CFG.EN. -/
def F.FH_JESD_CFG_EN (i : Nat) : RF := ⟨R.FH_JESD_CFG i, 0, 1⟩
/-- FH_JESD_CFG.RX_EN. -/
def F.FH_JESD_CFG_RX_EN (i : Nat) : RF := ⟨R.FH_JESD_CFG i, 1, 1⟩
/-- FH_JESD_CFG.TX_EN. -/
def F.FH_JESD_CFG_TX_EN (i : Nat) : RF := ⟨R.FH_JESD_CFG i, 2, 1⟩
/-- FH_JESD_CFG.TWO. -/
def F.FH_JESD_CFG_TWO (i : Nat) : RF := ⟨R.FH_JESD_CFG i, 3, 1⟩
/-- FH_JESD_CFG.L_M1. -/
def F.FH_JESD_CFG_L_M1 (i : Nat) : RF := ⟨R.FH_JESD_CFG i, 4, 4⟩
/-- FH_JESD_CFG.CMP. -/
def F.FH_JESD_CFG_CMP (i : Nat) : RF := ⟨R.FH_JESD_CFG i, 8, 6⟩
/-- FH_JESD_CFG.REALIGN. -/
def F.FH_JESD_CFG_REALIGN (i : Nat) : RF := ⟨R.FH_JESD_CFG i, 14, 1⟩
/-- FH_JESD_PARAM (13_fronthaul_lanes.md). -/
def R.FH_JESD_PARAM (i : Nat) : Nat := 0x60C0004 + 256 * i
/-- FH_JESD_PARAM.CH_M1. -/
def F.FH_JESD_PARAM_CH_M1 (i : Nat) : RF := ⟨R.FH_JESD_PARAM i, 0, 4⟩
/-- FH_JESD_PARAM.S_M1. -/
def F.FH_JESD_PARAM_S_M1 (i : Nat) : RF := ⟨R.FH_JESD_PARAM i, 4, 2⟩
/-- FH_JESD_PARAM.E_M1. -/
def F.FH_JESD_PARAM_E_M1 (i : Nat) : RF := ⟨R.FH_JESD_PARAM i, 6, 2⟩
/-- FH_JESD_PARAM.MULT. -/
def F.FH_JESD_PARAM_MULT (i : Nat) : RF := ⟨R.FH_JESD_PARAM i, 8, 9⟩
/-- FH_JESD_PARAM.RBD. -/
def F.FH_JESD_PARAM_RBD (i : Nat) : RF := ⟨R.FH_JESD_PARAM i, 17, 7⟩
/-- FH_JESD_STAT (13_fronthaul_lanes.md). -/
def R.FH_JESD_STAT (i : Nat) : Nat := 0x60C0008 + 256 * i
/-- FH_JESD_STAT.LOCKED. -/
def F.FH_JESD_STAT_LOCKED (i : Nat) : RF := ⟨R.FH_JESD_STAT i, 0, 1⟩
/-- FH_JESD_STAT.SYSREF_MISALIGN. -/
def F.FH_JESD_STAT_SYSREF_MISALIGN (i : Nat) : RF := ⟨R.FH_JESD_STAT i, 1, 1⟩
/-- FH_JESD_STAT.CRC_ERR. -/
def F.FH_JESD_STAT_CRC_ERR (i : Nat) : RF := ⟨R.FH_JESD_STAT i, 2, 1⟩
/-- FH_JESD_STAT.UNDERRUN. -/
def F.FH_JESD_STAT_UNDERRUN (i : Nat) : RF := ⟨R.FH_JESD_STAT i, 3, 1⟩
/-- FH_JESD_STAT.CFG_BAD. -/
def F.FH_JESD_STAT_CFG_BAD (i : Nat) : RF := ⟨R.FH_JESD_STAT i, 4, 1⟩
/-- FH_JESD_STAT.CRC_REP. -/
def F.FH_JESD_STAT_CRC_REP (i : Nat) : RF := ⟨R.FH_JESD_STAT i, 8, 8⟩
/-- FH_JESD_STAT.UNDER_REP. -/
def F.FH_JESD_STAT_UNDER_REP (i : Nat) : RF := ⟨R.FH_JESD_STAT i, 16, 8⟩
/-- FH_JESD_RXQ (13_fronthaul_lanes.md). -/
def R.FH_JESD_RXQ (i : Nat) : Nat := 0x60C000C + 256 * i
/-- FH_JESD_RXQ.QID. -/
def F.FH_JESD_RXQ_QID (i : Nat) : RF := ⟨R.FH_JESD_RXQ i, 0, 18⟩
/-- FH_JESD_RXQ.EN. -/
def F.FH_JESD_RXQ_EN (i : Nat) : RF := ⟨R.FH_JESD_RXQ i, 18, 1⟩
/-- FH_JESD_RXQ.ENTRY_LOG. -/
def F.FH_JESD_RXQ_ENTRY_LOG (i : Nat) : RF := ⟨R.FH_JESD_RXQ i, 19, 4⟩
/-- FH_JESD_CH_SEL (13_fronthaul_lanes.md). -/
def R.FH_JESD_CH_SEL (i : Nat) : Nat := 0x60C0010 + 256 * i
/-- FH_JESD_CH_SEL.CH. -/
def F.FH_JESD_CH_SEL_CH (i : Nat) : RF := ⟨R.FH_JESD_CH_SEL i, 0, 4⟩
/-- FH_JESD_CH_SEL.DIR. -/
def F.FH_JESD_CH_SEL_DIR (i : Nat) : RF := ⟨R.FH_JESD_CH_SEL i, 4, 1⟩
/-- FH_JESD_RING_LO (13_fronthaul_lanes.md). -/
def R.FH_JESD_RING_LO (i : Nat) : Nat := 0x60C0014 + 256 * i
/-- FH_JESD_RING_LO.BASE. -/
def F.FH_JESD_RING_LO_BASE (i : Nat) : RF := ⟨R.FH_JESD_RING_LO i, 0, 32⟩
/-- FH_JESD_RING_HI (13_fronthaul_lanes.md). -/
def R.FH_JESD_RING_HI (i : Nat) : Nat := 0x60C0018 + 256 * i
/-- FH_JESD_RING_HI.BASE_HI. -/
def F.FH_JESD_RING_HI_BASE_HI (i : Nat) : RF := ⟨R.FH_JESD_RING_HI i, 0, 8⟩
/-- FH_JESD_RING_HI.SLOG. -/
def F.FH_JESD_RING_HI_SLOG (i : Nat) : RF := ⟨R.FH_JESD_RING_HI i, 8, 5⟩
/-- FH_JESD_POS (13_fronthaul_lanes.md). -/
def R.FH_JESD_POS (i : Nat) : Nat := 0x60C001C + 256 * i
/-- FH_JESD_POS.POS. -/
def F.FH_JESD_POS_POS (i : Nat) : RF := ⟨R.FH_JESD_POS i, 0, 20⟩
/-- FH_JESD_TXLIM (13_fronthaul_lanes.md). -/
def R.FH_JESD_TXLIM (i : Nat) : Nat := 0x60C0020 + 256 * i
/-- FH_JESD_TXLIM.LIMIT. -/
def F.FH_JESD_TXLIM_LIMIT (i : Nat) : RF := ⟨R.FH_JESD_TXLIM i, 0, 20⟩

/-- The registers of block FH, part 0. -/
def regDefsFH0 : List RegDef := [
  ⟨0x6000100, 6, 16, 1, 1, [⟨0, 3, .rw, 0, 0⟩]⟩,
  ⟨0x6000104, 6, 16, 1, 1, [⟨0, 1, .w1c, 0, 0⟩]⟩,
  ⟨0x6010000, 41, 256, 1, 1, [⟨0, 1, .rw, 0, 0⟩, ⟨1, 1, .rw, 0, 0⟩, ⟨2, 1, .rw, 1, 0⟩, ⟨3, 1, .rw, 1, 0⟩, ⟨4, 2, .rw, 0, 0⟩, ⟨6, 1, .rw, 0, 0⟩, ⟨7, 1, .rw, 0, 0⟩, ⟨8, 4, .rw, 8, 0⟩]⟩,
  ⟨0x6010004, 41, 256, 1, 1, [⟨0, 1, .ro, 0, 0⟩, ⟨1, 1, .ro, 0, 0⟩, ⟨2, 1, .ro, 0, 0⟩, ⟨3, 1, .ro, 0, 0⟩, ⟨4, 1, .ro, 0, 0⟩, ⟨5, 1, .ro, 0, 0⟩, ⟨6, 1, .w1c, 0, 0⟩, ⟨7, 1, .w1c, 0, 0⟩, ⟨8, 1, .ro, 0, 0⟩]⟩,
  ⟨0x6010008, 41, 256, 1, 1, [⟨0, 1, .w1c, 0, 8⟩, ⟨1, 1, .w1c, 0, 16⟩, ⟨2, 1, .w1c, 0, 0⟩, ⟨8, 8, .ro, 0, 0⟩, ⟨16, 8, .ro, 0, 0⟩]⟩,
  ⟨0x601000C, 41, 256, 3, 4, [⟨0, 8, .rw, 0, 0⟩, ⟨8, 8, .rw, 0, 0⟩, ⟨16, 8, .rw, 0, 0⟩, ⟨24, 8, .rw, 0, 0⟩]⟩,
  ⟨0x6010018, 41, 256, 1, 1, [⟨0, 4, .rw, 0, 0⟩, ⟨4, 6, .rw, 0, 0⟩, ⟨10, 7, .rw, 64, 0⟩, ⟨17, 6, .rw, 0, 0⟩, ⟨23, 4, .rw, 0, 0⟩]⟩,
  ⟨0x601001C, 41, 256, 1, 1, [⟨0, 3, .rw, 0, 0⟩, ⟨4, 3, .rw, 0, 0⟩]⟩,
  ⟨0x6010020, 41, 256, 1, 1, [⟨0, 32, .ro, 0, 0⟩]⟩,
  ⟨0x6010024, 41, 256, 1, 1, [⟨0, 16, .ro, 0, 0⟩]⟩,
  ⟨0x6010028, 41, 256, 1, 1, [⟨0, 1, .wo, 0, 0⟩, ⟨1, 1, .wo, 0, 0⟩, ⟨2, 1, .wo, 0, 0⟩]⟩,
  ⟨0x6040000, 33, 128, 1, 1, [⟨0, 1, .rw, 0, 0⟩, ⟨1, 1, .rw, 0, 0⟩, ⟨2, 3, .rw, 0, 0⟩, ⟨5, 1, .rw, 1, 0⟩, ⟨6, 1, .rw, 0, 0⟩, ⟨7, 1, .rw, 0, 0⟩, ⟨8, 8, .rw, 64, 0⟩]⟩]

/-- The registers of block FH, part 1. -/
def regDefsFH1 : List RegDef := [
  ⟨0x6040004, 33, 128, 1, 1, [⟨0, 1, .ro, 0, 0⟩, ⟨1, 1, .w1c, 0, 0⟩, ⟨2, 1, .w1c, 0, 0⟩, ⟨3, 1, .w1c, 0, 8⟩, ⟨4, 1, .w1c, 0, 16⟩, ⟨8, 8, .ro, 0, 0⟩, ⟨16, 8, .ro, 0, 0⟩]⟩,
  ⟨0x6040008, 33, 128, 1, 1, [⟨0, 3, .ro, 0, 0⟩, ⟨3, 3, .ro, 1, 0⟩, ⟨6, 3, .ro, 2, 0⟩, ⟨9, 3, .ro, 3, 0⟩, ⟨12, 3, .ro, 4, 0⟩, ⟨15, 3, .ro, 5, 0⟩, ⟨18, 3, .ro, 6, 0⟩, ⟨21, 3, .ro, 7, 0⟩]⟩,
  ⟨0x604000C, 33, 128, 1, 1, [⟨0, 32, .ro, 0, 0⟩]⟩,
  ⟨0x6040010, 33, 128, 1, 1, [⟨0, 32, .ro, 0, 0⟩]⟩,
  ⟨0x6040014, 33, 128, 1, 1, [⟨0, 16, .ro, 0, 0⟩, ⟨16, 16, .ro, 0, 0⟩]⟩,
  ⟨0x6040018, 33, 128, 1, 1, [⟨0, 32, .ro, 0, 0⟩]⟩,
  ⟨0x604001C, 33, 128, 1, 1, [⟨0, 18, .rw, 0, 0⟩, ⟨18, 1, .rw, 0, 0⟩]⟩,
  ⟨0x6040020, 33, 128, 1, 1, [⟨0, 32, .rw, 0, 0⟩]⟩,
  ⟨0x6040024, 33, 128, 1, 1, [⟨0, 8, .rw, 0, 0⟩, ⟨8, 5, .rw, 4, 0⟩, ⟨13, 1, .rw, 0, 0⟩]⟩,
  ⟨0x6040028, 33, 128, 1, 1, [⟨0, 17, .rw, 0, 0⟩]⟩,
  ⟨0x604002C, 33, 128, 1, 1, [⟨0, 17, .ro, 0, 0⟩]⟩,
  ⟨0x6080000, 1024, 32, 1, 1, [⟨0, 1, .rw, 0, 0⟩, ⟨1, 6, .rw, 0, 0⟩, ⟨8, 2, .rw, 0, 0⟩, ⟨10, 8, .rw, 0, 0⟩, ⟨18, 1, .rw, 0, 0⟩, ⟨19, 1, .rw, 0, 0⟩, ⟨20, 2, .rw, 0, 0⟩, ⟨22, 4, .rw, 9, 0⟩]⟩]

/-- The registers of block FH, part 2. -/
def regDefsFH2 : List RegDef := [
  ⟨0x6080004, 1024, 32, 1, 1, [⟨0, 16, .rw, 0, 0⟩, ⟨16, 16, .rw, 0, 0⟩]⟩,
  ⟨0x6080008, 1024, 32, 1, 1, [⟨0, 18, .rw, 0, 0⟩, ⟨18, 9, .rw, 0, 0⟩]⟩,
  ⟨0x608000C, 1024, 32, 1, 1, [⟨0, 32, .rw, 0, 0⟩]⟩,
  ⟨0x6080010, 1024, 32, 1, 1, [⟨0, 8, .rw, 0, 0⟩, ⟨8, 4, .rw, 11, 0⟩]⟩,
  ⟨0x6080014, 1024, 32, 1, 1, [⟨0, 16, .rw, 0, 0⟩]⟩,
  ⟨0x60C0000, 4, 256, 1, 1, [⟨0, 1, .rw, 0, 0⟩, ⟨1, 1, .rw, 0, 0⟩, ⟨2, 1, .rw, 0, 0⟩, ⟨3, 1, .rw, 0, 0⟩, ⟨4, 4, .rw, 0, 0⟩, ⟨8, 6, .rw, 0, 0⟩, ⟨14, 1, .rw, 0, 0⟩]⟩,
  ⟨0x60C0004, 4, 256, 1, 1, [⟨0, 4, .rw, 0, 0⟩, ⟨4, 2, .rw, 0, 0⟩, ⟨6, 2, .rw, 0, 0⟩, ⟨8, 9, .rw, 64, 0⟩, ⟨17, 7, .rw, 0, 0⟩]⟩,
  ⟨0x60C0008, 4, 256, 1, 1, [⟨0, 1, .ro, 0, 0⟩, ⟨1, 1, .w1c, 0, 0⟩, ⟨2, 1, .w1c, 0, 8⟩, ⟨3, 1, .w1c, 0, 16⟩, ⟨4, 1, .w1c, 0, 0⟩, ⟨8, 8, .ro, 0, 0⟩, ⟨16, 8, .ro, 0, 0⟩]⟩,
  ⟨0x60C000C, 4, 256, 1, 1, [⟨0, 18, .rw, 0, 0⟩, ⟨18, 1, .rw, 0, 0⟩, ⟨19, 4, .rw, 0, 0⟩]⟩,
  ⟨0x60C0010, 4, 256, 1, 1, [⟨0, 4, .rw, 0, 0⟩, ⟨4, 1, .rw, 0, 0⟩]⟩,
  ⟨0x60C0014, 4, 256, 1, 1, [⟨0, 32, .rw, 0, 0⟩]⟩,
  ⟨0x60C0018, 4, 256, 1, 1, [⟨0, 8, .rw, 0, 0⟩, ⟨8, 5, .rw, 10, 0⟩]⟩]

/-- The registers of block FH, part 3. -/
def regDefsFH3 : List RegDef := [
  ⟨0x60C001C, 4, 256, 1, 1, [⟨0, 20, .ro, 0, 0⟩]⟩,
  ⟨0x60C0020, 4, 256, 1, 1, [⟨0, 20, .rw, 0, 0⟩]⟩]

/-- The registers of block FH. -/
def regDefsFH : List RegDef := regDefsFH0 ++ regDefsFH1 ++ regDefsFH2 ++ regDefsFH3

/-! ## HOST -/

/-- HOST_CTRL (14_host_attachment.md). -/
def R.HOST_CTRL : Nat := 0x7000000
/-- HOST_CTRL.ERR_UR. -/
def F.HOST_CTRL_ERR_UR : RF := ⟨R.HOST_CTRL, 0, 1⟩
/-- HOST_CTRL.DC_EN. -/
def F.HOST_CTRL_DC_EN : RF := ⟨R.HOST_CTRL, 1, 1⟩
/-- HOST_CTRL.DC_FLUSH. -/
def F.HOST_CTRL_DC_FLUSH : RF := ⟨R.HOST_CTRL, 2, 1⟩
/-- HOST_LINK (14_host_attachment.md). -/
def R.HOST_LINK : Nat := 0x7000004
/-- HOST_LINK.SPEED. -/
def F.HOST_LINK_SPEED : RF := ⟨R.HOST_LINK, 0, 4⟩
/-- HOST_LINK.WIDTH. -/
def F.HOST_LINK_WIDTH : RF := ⟨R.HOST_LINK, 4, 5⟩
/-- HOST_LINK.FLIT256. -/
def F.HOST_LINK_FLIT256 : RF := ⟨R.HOST_LINK, 9, 1⟩
/-- HOST_LINK.IDE_IO. -/
def F.HOST_LINK_IDE_IO : RF := ⟨R.HOST_LINK, 10, 1⟩
/-- HOST_LINK.IDE_CM. -/
def F.HOST_LINK_IDE_CM : RF := ⟨R.HOST_LINK, 11, 1⟩
/-- HOST_STAT (14_host_attachment.md). -/
def R.HOST_STAT : Nat := 0x7000008
/-- HOST_STAT.LINK_DOWN. -/
def F.HOST_STAT_LINK_DOWN : RF := ⟨R.HOST_STAT, 0, 1⟩
/-- HOST_STAT.BAR_ERR. -/
def F.HOST_STAT_BAR_ERR : RF := ⟨R.HOST_STAT, 1, 1⟩
/-- HOST_STAT.DB_DENIED. -/
def F.HOST_STAT_DB_DENIED : RF := ⟨R.HOST_STAT, 2, 1⟩
/-- HOST_STAT.DB_BAD. -/
def F.HOST_STAT_DB_BAD : RF := ⟨R.HOST_STAT, 3, 1⟩
/-- HOST_STAT.HDM_ERR. -/
def F.HOST_STAT_HDM_ERR : RF := ⟨R.HOST_STAT, 4, 1⟩
/-- HOST_STAT.RNG_MISS. -/
def F.HOST_STAT_RNG_MISS : RF := ⟨R.HOST_STAT, 5, 1⟩
/-- HOST_STAT.IDE_FAIL. -/
def F.HOST_STAT_IDE_FAIL : RF := ⟨R.HOST_STAT, 6, 1⟩
/-- HOST_STAT.DC_BUSY. -/
def F.HOST_STAT_DC_BUSY : RF := ⟨R.HOST_STAT, 7, 1⟩
/-- HOST_STAT.DB_BAD_REP. -/
def F.HOST_STAT_DB_BAD_REP : RF := ⟨R.HOST_STAT, 8, 8⟩
/-- HOST_STAT.DB_DENIED_REP. -/
def F.HOST_STAT_DB_DENIED_REP : RF := ⟨R.HOST_STAT, 16, 8⟩
/-- HOST_STAT.HDM_ERR_REP. -/
def F.HOST_STAT_HDM_ERR_REP : RF := ⟨R.HOST_STAT, 24, 8⟩
/-- HOST_BAR_ERR (14_host_attachment.md). -/
def R.HOST_BAR_ERR : Nat := 0x700000C
/-- HOST_BAR_ERR.OFFSET. -/
def F.HOST_BAR_ERR_OFFSET : RF := ⟨R.HOST_BAR_ERR, 0, 28⟩
/-- HOST_BAR_ERR.RESP. -/
def F.HOST_BAR_ERR_RESP : RF := ⟨R.HOST_BAR_ERR, 28, 3⟩
/-- HOST_BAR_ERR.WRITE. -/
def F.HOST_BAR_ERR_WRITE : RF := ⟨R.HOST_BAR_ERR, 31, 1⟩
/-- HOST_HDM_ERR (14_host_attachment.md). -/
def R.HOST_HDM_ERR : Nat := 0x7000010
/-- HOST_HDM_ERR.OFFSET. -/
def F.HOST_HDM_ERR_OFFSET : RF := ⟨R.HOST_HDM_ERR, 0, 27⟩
/-- HOST_HDM_ERR.RESP. -/
def F.HOST_HDM_ERR_RESP : RF := ⟨R.HOST_HDM_ERR, 27, 3⟩
/-- HOST_HDM_ERR.WRITE. -/
def F.HOST_HDM_ERR_WRITE : RF := ⟨R.HOST_HDM_ERR, 30, 1⟩
/-- HOST_SF_OCC (14_host_attachment.md). -/
def R.HOST_SF_OCC : Nat := 0x7000014
/-- HOST_SF_OCC.LINES. -/
def F.HOST_SF_OCC_LINES : RF := ⟨R.HOST_SF_OCC, 0, 19⟩
/-- HOST_DB_EN (14_host_attachment.md). -/
def R.HOST_DB_EN (i : Nat) : Nat := 0x7000100 + 4 * i
/-- HOST_DB_EN.EN. -/
def F.HOST_DB_EN_EN (i : Nat) : RF := ⟨R.HOST_DB_EN i, 0, 32⟩
/-- HOST_RNG_BASE (14_host_attachment.md). -/
def R.HOST_RNG_BASE (i : Nat) : Nat := 0x7000200 + 16 * i
/-- HOST_RNG_BASE.BASE. -/
def F.HOST_RNG_BASE_BASE (i : Nat) : RF := ⟨R.HOST_RNG_BASE i, 0, 19⟩
/-- HOST_RNG_BASE.DC. -/
def F.HOST_RNG_BASE_DC (i : Nat) : RF := ⟨R.HOST_RNG_BASE i, 29, 1⟩
/-- HOST_RNG_BASE.EN. -/
def F.HOST_RNG_BASE_EN (i : Nat) : RF := ⟨R.HOST_RNG_BASE i, 31, 1⟩
/-- HOST_RNG_LIMIT (14_host_attachment.md). -/
def R.HOST_RNG_LIMIT (i : Nat) : Nat := 0x7000204 + 16 * i
/-- HOST_RNG_LIMIT.LIMIT. -/
def F.HOST_RNG_LIMIT_LIMIT (i : Nat) : RF := ⟨R.HOST_RNG_LIMIT i, 0, 19⟩
/-- HOST_RNG_HPA_LO (14_host_attachment.md). -/
def R.HOST_RNG_HPA_LO (i : Nat) : Nat := 0x7000208 + 16 * i
/-- HOST_RNG_HPA_LO.HPA. -/
def F.HOST_RNG_HPA_LO_HPA (i : Nat) : RF := ⟨R.HOST_RNG_HPA_LO i, 20, 12⟩
/-- HOST_RNG_HPA_HI (14_host_attachment.md). -/
def R.HOST_RNG_HPA_HI (i : Nat) : Nat := 0x700020C + 16 * i
/-- HOST_RNG_HPA_HI.HPA_HI. -/
def F.HOST_RNG_HPA_HI_HPA_HI (i : Nat) : RF := ⟨R.HOST_RNG_HPA_HI i, 0, 20⟩
/-- HOST_MSIX_ADDR_LO (14_host_attachment.md). -/
def R.HOST_MSIX_ADDR_LO (i : Nat) : Nat := 0x7010000 + 16 * i
/-- HOST_MSIX_ADDR_LO.ADDR. -/
def F.HOST_MSIX_ADDR_LO_ADDR (i : Nat) : RF := ⟨R.HOST_MSIX_ADDR_LO i, 0, 32⟩
/-- HOST_MSIX_ADDR_HI (14_host_attachment.md). -/
def R.HOST_MSIX_ADDR_HI (i : Nat) : Nat := 0x7010004 + 16 * i
/-- HOST_MSIX_ADDR_HI.ADDR_HI. -/
def F.HOST_MSIX_ADDR_HI_ADDR_HI (i : Nat) : RF := ⟨R.HOST_MSIX_ADDR_HI i, 0, 32⟩
/-- HOST_MSIX_DATA (14_host_attachment.md). -/
def R.HOST_MSIX_DATA (i : Nat) : Nat := 0x7010008 + 16 * i
/-- HOST_MSIX_DATA.DATA. -/
def F.HOST_MSIX_DATA_DATA (i : Nat) : RF := ⟨R.HOST_MSIX_DATA i, 0, 32⟩
/-- HOST_MSIX_VCTRL (14_host_attachment.md). -/
def R.HOST_MSIX_VCTRL (i : Nat) : Nat := 0x701000C + 16 * i
/-- HOST_MSIX_VCTRL.MASK. -/
def F.HOST_MSIX_VCTRL_MASK (i : Nat) : RF := ⟨R.HOST_MSIX_VCTRL i, 0, 1⟩
/-- HOST_MSIX_PBA (14_host_attachment.md). -/
def R.HOST_MSIX_PBA (i : Nat) : Nat := 0x7020000 + 4 * i
/-- HOST_MSIX_PBA.PEND. -/
def F.HOST_MSIX_PBA_PEND (i : Nat) : RF := ⟨R.HOST_MSIX_PBA i, 0, 32⟩

/-- The registers of block HOST, part 0. -/
def regDefsHOST0 : List RegDef := [
  ⟨0x7000000, 1, 1, 1, 1, [⟨0, 1, .rw, 0, 0⟩, ⟨1, 1, .rw, 1, 0⟩, ⟨2, 1, .wo, 0, 0⟩]⟩,
  ⟨0x7000004, 1, 1, 1, 1, [⟨0, 4, .ro, 0, 0⟩, ⟨4, 5, .ro, 0, 0⟩, ⟨9, 1, .ro, 0, 0⟩, ⟨10, 1, .ro, 0, 0⟩, ⟨11, 1, .ro, 0, 0⟩]⟩,
  ⟨0x7000008, 1, 1, 1, 1, [⟨0, 1, .w1c, 0, 0⟩, ⟨1, 1, .w1c, 0, 0⟩, ⟨2, 1, .w1c, 0, 16⟩, ⟨3, 1, .w1c, 0, 8⟩, ⟨4, 1, .w1c, 0, 24⟩, ⟨5, 1, .w1c, 0, 0⟩, ⟨6, 1, .w1c, 0, 0⟩, ⟨7, 1, .ro, 0, 0⟩, ⟨8, 8, .ro, 0, 0⟩, ⟨16, 8, .ro, 0, 0⟩, ⟨24, 8, .ro, 0, 0⟩]⟩,
  ⟨0x700000C, 1, 1, 1, 1, [⟨0, 28, .ro, 0, 0⟩, ⟨28, 3, .ro, 0, 0⟩, ⟨31, 1, .ro, 0, 0⟩]⟩,
  ⟨0x7000010, 1, 1, 1, 1, [⟨0, 27, .ro, 0, 0⟩, ⟨27, 3, .ro, 0, 0⟩, ⟨30, 1, .ro, 0, 0⟩]⟩,
  ⟨0x7000014, 1, 1, 1, 1, [⟨0, 19, .ro, 0, 0⟩]⟩,
  ⟨0x7000100, 32, 4, 1, 1, [⟨0, 32, .rwl, 4294967295, 0⟩]⟩,
  ⟨0x7000200, 8, 16, 1, 1, [⟨0, 19, .rw, 0, 0⟩, ⟨29, 1, .rw, 0, 0⟩, ⟨31, 1, .rw, 0, 0⟩]⟩,
  ⟨0x7000204, 8, 16, 1, 1, [⟨0, 19, .rw, 0, 0⟩]⟩,
  ⟨0x7000208, 8, 16, 1, 1, [⟨20, 12, .rw, 0, 0⟩]⟩,
  ⟨0x700020C, 8, 16, 1, 1, [⟨0, 20, .rw, 0, 0⟩]⟩,
  ⟨0x7010000, 2048, 16, 1, 1, [⟨0, 32, .rw, 0, 0⟩]⟩]

/-- The registers of block HOST, part 1. -/
def regDefsHOST1 : List RegDef := [
  ⟨0x7010004, 2048, 16, 1, 1, [⟨0, 32, .rw, 0, 0⟩]⟩,
  ⟨0x7010008, 2048, 16, 1, 1, [⟨0, 32, .rw, 0, 0⟩]⟩,
  ⟨0x701000C, 2048, 16, 1, 1, [⟨0, 1, .rw, 1, 0⟩]⟩,
  ⟨0x7020000, 64, 4, 1, 1, [⟨0, 32, .ro, 0, 0⟩]⟩]

/-- The registers of block HOST. -/
def regDefsHOST : List RegDef := regDefsHOST0 ++ regDefsHOST1

/-! ## PWR -/

/-- PWR_CTRL (16_power_and_wake.md). -/
def R.PWR_CTRL : Nat := 0x8000000
/-- PWR_CTRL.IDLE_EN. -/
def F.PWR_CTRL_IDLE_EN : RF := ⟨R.PWR_CTRL, 0, 1⟩
/-- PWR_CTRL.RELOAD. -/
def F.PWR_CTRL_RELOAD : RF := ⟨R.PWR_CTRL, 1, 1⟩
/-- PWR_STAT (16_power_and_wake.md). -/
def R.PWR_STAT : Nat := 0x8000004
/-- PWR_STAT.STATE. -/
def F.PWR_STAT_STATE : RF := ⟨R.PWR_STAT, 0, 3⟩
/-- PWR_STAT.WAKE_RACE. -/
def F.PWR_STAT_WAKE_RACE : RF := ⟨R.PWR_STAT, 3, 1⟩
/-- PWR_STAT.REQ_REFUSED. -/
def F.PWR_STAT_REQ_REFUSED : RF := ⟨R.PWR_STAT, 4, 1⟩
/-- PWR_STAT.DRAIN_FORCED. -/
def F.PWR_STAT_DRAIN_FORCED : RF := ⟨R.PWR_STAT, 5, 1⟩
/-- PWR_STAT.PG_FAIL. -/
def F.PWR_STAT_PG_FAIL : RF := ⟨R.PWR_STAT, 6, 1⟩
/-- PWR_STAT.AVS_FAIL. -/
def F.PWR_STAT_AVS_FAIL : RF := ⟨R.PWR_STAT, 7, 1⟩
/-- PWR_STAT.WAKE_RACE_REP. -/
def F.PWR_STAT_WAKE_RACE_REP : RF := ⟨R.PWR_STAT, 8, 8⟩
/-- PWR_STAT.RELOAD_FAIL. -/
def F.PWR_STAT_RELOAD_FAIL : RF := ⟨R.PWR_STAT, 16, 1⟩
/-- PWR_STAT.I2C_ERR. -/
def F.PWR_STAT_I2C_ERR : RF := ⟨R.PWR_STAT, 17, 1⟩
/-- PWR_SLEEP_REQ (16_power_and_wake.md). -/
def R.PWR_SLEEP_REQ : Nat := 0x8000008
/-- PWR_SLEEP_REQ.STATE. -/
def F.PWR_SLEEP_REQ_STATE : RF := ⟨R.PWR_SLEEP_REQ, 0, 2⟩
/-- PWR_WAKE_EN (16_power_and_wake.md). -/
def R.PWR_WAKE_EN : Nat := 0x800000C
/-- PWR_WAKE_EN.EN. -/
def F.PWR_WAKE_EN_EN : RF := ⟨R.PWR_WAKE_EN, 0, 4⟩
/-- PWR_WAKE_PEND (16_power_and_wake.md). -/
def R.PWR_WAKE_PEND : Nat := 0x8000010
/-- PWR_WAKE_PEND.PEND. -/
def F.PWR_WAKE_PEND_PEND : RF := ⟨R.PWR_WAKE_PEND, 0, 4⟩
/-- PWR_WAKE_AT (16_power_and_wake.md). -/
def R.PWR_WAKE_AT : Nat := 0x8000014
/-- PWR_WAKE_AT.STAMP. -/
def F.PWR_WAKE_AT_STAMP : RF := ⟨R.PWR_WAKE_AT, 0, 32⟩
/-- PWR_WAKE_CFG (16_power_and_wake.md). -/
def R.PWR_WAKE_CFG : Nat := 0x8000018
/-- PWR_WAKE_CFG.CMP. -/
def F.PWR_WAKE_CFG_CMP : RF := ⟨R.PWR_WAKE_CFG, 0, 6⟩
/-- PWR_WAKE_CFG.VECTOR. -/
def F.PWR_WAKE_CFG_VECTOR : RF := ⟨R.PWR_WAKE_CFG, 8, 11⟩
/-- PWR_WAKE_CFG.MSI_EN. -/
def F.PWR_WAKE_CFG_MSI_EN : RF := ⟨R.PWR_WAKE_CFG, 19, 1⟩
/-- PWR_WAKE_EVT (16_power_and_wake.md). -/
def R.PWR_WAKE_EVT : Nat := 0x800001C
/-- PWR_WAKE_EVT.EVENT_ID. -/
def F.PWR_WAKE_EVT_EVENT_ID : RF := ⟨R.PWR_WAKE_EVT, 0, 16⟩
/-- PWR_WAKE_EVT.STRATA. -/
def F.PWR_WAKE_EVT_STRATA : RF := ⟨R.PWR_WAKE_EVT, 16, 8⟩
/-- PWR_DRUSE_OFF (16_power_and_wake.md). -/
def R.PWR_DRUSE_OFF : Nat := 0x8000020
/-- PWR_DRUSE_OFF.OFF. -/
def F.PWR_DRUSE_OFF_OFF : RF := ⟨R.PWR_DRUSE_OFF, 0, 32⟩
/-- PWR_DRUSE_STAT (16_power_and_wake.md). -/
def R.PWR_DRUSE_STAT : Nat := 0x8000024
/-- PWR_DRUSE_STAT.ON. -/
def F.PWR_DRUSE_STAT_ON : RF := ⟨R.PWR_DRUSE_STAT, 0, 32⟩
/-- PWR_DRAIN (16_power_and_wake.md). -/
def R.PWR_DRAIN : Nat := 0x8000028
/-- PWR_DRAIN.TMO. -/
def F.PWR_DRAIN_TMO : RF := ⟨R.PWR_DRAIN, 0, 10⟩
/-- PWR_AVS_CFG (16_power_and_wake.md). -/
def R.PWR_AVS_CFG : Nat := 0x800002C
/-- PWR_AVS_CFG.DIV. -/
def F.PWR_AVS_CFG_DIV : RF := ⟨R.PWR_AVS_CFG, 0, 4⟩
/-- PWR_DIE_REQ (16_power_and_wake.md). -/
def R.PWR_DIE_REQ (i : Nat) : Nat := 0x8000100 + 16 * i
/-- PWR_DIE_REQ.TARGET. -/
def F.PWR_DIE_REQ_TARGET (i : Nat) : RF := ⟨R.PWR_DIE_REQ i, 0, 3⟩
/-- PWR_DIE_STAT (16_power_and_wake.md). -/
def R.PWR_DIE_STAT (i : Nat) : Nat := 0x8000104 + 16 * i
/-- PWR_DIE_STAT.CLK. -/
def F.PWR_DIE_STAT_CLK (i : Nat) : RF := ⟨R.PWR_DIE_STAT i, 0, 3⟩
/-- PWR_DIE_STAT.VOLT. -/
def F.PWR_DIE_STAT_VOLT (i : Nat) : RF := ⟨R.PWR_DIE_STAT i, 4, 3⟩
/-- PWR_DIE_STAT.BUSY. -/
def F.PWR_DIE_STAT_BUSY (i : Nat) : RF := ⟨R.PWR_DIE_STAT i, 8, 1⟩
/-- PWR_DIE_STAT.ON. -/
def F.PWR_DIE_STAT_ON (i : Nat) : RF := ⟨R.PWR_DIE_STAT i, 9, 1⟩
/-- PWR_RAIL_CFG (16_power_and_wake.md). -/
def R.PWR_RAIL_CFG (i : Nat) : Nat := 0x8000200 + 4 * i
/-- PWR_RAIL_CFG.AVS_RAIL. -/
def F.PWR_RAIL_CFG_AVS_RAIL (i : Nat) : RF := ⟨R.PWR_RAIL_CFG i, 0, 4⟩
/-- PWR_RAIL_CFG.EN_GPIO. -/
def F.PWR_RAIL_CFG_EN_GPIO (i : Nat) : RF := ⟨R.PWR_RAIL_CFG i, 8, 5⟩
/-- PWR_RAIL_CFG.EN_POL. -/
def F.PWR_RAIL_CFG_EN_POL (i : Nat) : RF := ⟨R.PWR_RAIL_CFG i, 13, 1⟩
/-- PWR_RAIL_CFG.EN_V. -/
def F.PWR_RAIL_CFG_EN_V (i : Nat) : RF := ⟨R.PWR_RAIL_CFG i, 14, 1⟩
/-- PWR_RAIL_CFG.PG_GPIO. -/
def F.PWR_RAIL_CFG_PG_GPIO (i : Nat) : RF := ⟨R.PWR_RAIL_CFG i, 16, 5⟩
/-- PWR_RAIL_CFG.PG_POL. -/
def F.PWR_RAIL_CFG_PG_POL (i : Nat) : RF := ⟨R.PWR_RAIL_CFG i, 21, 1⟩
/-- PWR_RAIL_CFG.PG_V. -/
def F.PWR_RAIL_CFG_PG_V (i : Nat) : RF := ⟨R.PWR_RAIL_CFG i, 22, 1⟩

/-- The registers of block PWR, part 0. -/
def regDefsPWR0 : List RegDef := [
  ⟨0x8000000, 1, 1, 1, 1, [⟨0, 1, .rw, 1, 0⟩, ⟨1, 1, .rw, 1, 0⟩]⟩,
  ⟨0x8000004, 1, 1, 1, 1, [⟨0, 3, .ro, 0, 0⟩, ⟨3, 1, .w1c, 0, 8⟩, ⟨4, 1, .w1c, 0, 0⟩, ⟨5, 1, .w1c, 0, 0⟩, ⟨6, 1, .w1c, 0, 0⟩, ⟨7, 1, .w1c, 0, 0⟩, ⟨8, 8, .ro, 0, 0⟩, ⟨16, 1, .w1c, 0, 0⟩, ⟨17, 1, .w1c, 0, 0⟩]⟩,
  ⟨0x8000008, 1, 1, 1, 1, [⟨0, 2, .wo, 0, 0⟩]⟩,
  ⟨0x800000C, 1, 1, 1, 1, [⟨0, 4, .rw, 7, 0⟩]⟩,
  ⟨0x8000010, 1, 1, 1, 1, [⟨0, 4, .w1c, 0, 0⟩]⟩,
  ⟨0x8000014, 1, 1, 1, 1, [⟨0, 32, .ro, 0, 0⟩]⟩,
  ⟨0x8000018, 1, 1, 1, 1, [⟨0, 6, .rw, 0, 0⟩, ⟨8, 11, .rw, 0, 0⟩, ⟨19, 1, .rw, 0, 0⟩]⟩,
  ⟨0x800001C, 1, 1, 1, 1, [⟨0, 16, .rw, 0, 0⟩, ⟨16, 8, .rw, 0, 0⟩]⟩,
  ⟨0x8000020, 1, 1, 1, 1, [⟨0, 32, .rw, 0, 0⟩]⟩,
  ⟨0x8000024, 1, 1, 1, 1, [⟨0, 32, .ro, 4294967295, 0⟩]⟩,
  ⟨0x8000028, 1, 1, 1, 1, [⟨0, 10, .rw, 100, 0⟩]⟩,
  ⟨0x800002C, 1, 1, 1, 1, [⟨0, 4, .rwl, 0, 0⟩]⟩]

/-- The registers of block PWR, part 1. -/
def regDefsPWR1 : List RegDef := [
  ⟨0x8000100, 4, 16, 1, 1, [⟨0, 3, .rw, 7, 0⟩]⟩,
  ⟨0x8000104, 4, 16, 1, 1, [⟨0, 3, .ro, 7, 0⟩, ⟨4, 3, .ro, 7, 0⟩, ⟨8, 1, .ro, 0, 0⟩, ⟨9, 1, .ro, 0, 0⟩]⟩,
  ⟨0x8000200, 5, 4, 1, 1, [⟨0, 4, .rwl, 0, 0⟩, ⟨8, 5, .rwl, 0, 0⟩, ⟨13, 1, .rwl, 0, 0⟩, ⟨14, 1, .rwl, 0, 0⟩, ⟨16, 5, .rwl, 0, 0⟩, ⟨21, 1, .rwl, 0, 0⟩, ⟨22, 1, .rwl, 0, 0⟩]⟩]

/-- The registers of block PWR. -/
def regDefsPWR : List RegDef := regDefsPWR0 ++ regDefsPWR1

/-! ## CAL -/

/-- CAL_CTRL (17_calibration.md). -/
def R.CAL_CTRL : Nat := 0x9000000
/-- CAL_CTRL.AUTO_EN. -/
def F.CAL_CTRL_AUTO_EN : RF := ⟨R.CAL_CTRL, 0, 1⟩
/-- CAL_CTRL.LIVE_RUN. -/
def F.CAL_CTRL_LIVE_RUN : RF := ⟨R.CAL_CTRL, 1, 1⟩
/-- CAL_CTRL.DELTA. -/
def F.CAL_CTRL_DELTA : RF := ⟨R.CAL_CTRL, 8, 5⟩
/-- CAL_CMD (17_calibration.md). -/
def R.CAL_CMD : Nat := 0x9000004
/-- CAL_CMD.RUN. -/
def F.CAL_CMD_RUN : RF := ⟨R.CAL_CMD, 0, 5⟩
/-- CAL_STAT (17_calibration.md). -/
def R.CAL_STAT : Nat := 0x9000008
/-- CAL_STAT.BUSY. -/
def F.CAL_STAT_BUSY : RF := ⟨R.CAL_STAT, 0, 5⟩
/-- CAL_STAT.PEND. -/
def F.CAL_STAT_PEND : RF := ⟨R.CAL_STAT, 8, 5⟩
/-- CAL_STAT.DONE. -/
def F.CAL_STAT_DONE : RF := ⟨R.CAL_STAT, 16, 1⟩
/-- CAL_STAT.SKIPPED. -/
def F.CAL_STAT_SKIPPED : RF := ⟨R.CAL_STAT, 17, 1⟩
/-- CAL_STAT.SKIPPED_REP. -/
def F.CAL_STAT_SKIPPED_REP : RF := ⟨R.CAL_STAT, 24, 8⟩
/-- CAL_TEMP (17_calibration.md). -/
def R.CAL_TEMP (i : Nat) : Nat := 0x9000010 + 4 * i
/-- CAL_TEMP.TEMP. -/
def F.CAL_TEMP_TEMP (i : Nat) : RF := ⟨R.CAL_TEMP i, 0, 12⟩
/-- CAL_TEMP.VALID. -/
def F.CAL_TEMP_VALID (i : Nat) : RF := ⟨R.CAL_TEMP i, 12, 1⟩
/-- CAL_DIE (17_calibration.md). -/
def R.CAL_DIE (i : Nat) : Nat := 0x9000090 + 4 * i
/-- CAL_DIE.LAST. -/
def F.CAL_DIE_LAST (i : Nat) : RF := ⟨R.CAL_DIE i, 0, 12⟩
/-- CAL_DIE.RUNS. -/
def F.CAL_DIE_RUNS (i : Nat) : RF := ⟨R.CAL_DIE i, 16, 16⟩
/-- CAL_ITEM_FUSE (17_calibration.md). -/
def R.CAL_ITEM_FUSE (i : Nat) : Nat := 0x9001000 + 16 * i
/-- CAL_ITEM_FUSE.FUSE. -/
def F.CAL_ITEM_FUSE_FUSE (i : Nat) : RF := ⟨R.CAL_ITEM_FUSE i, 0, 10⟩
/-- CAL_ITEM_USER (17_calibration.md). -/
def R.CAL_ITEM_USER (i : Nat) : Nat := 0x9001004 + 16 * i
/-- CAL_ITEM_USER.USER. -/
def F.CAL_ITEM_USER_USER (i : Nat) : RF := ⟨R.CAL_ITEM_USER i, 0, 16⟩
/-- CAL_ITEM_EFF (17_calibration.md). -/
def R.CAL_ITEM_EFF (i : Nat) : Nat := 0x9001008 + 16 * i
/-- CAL_ITEM_EFF.EFF. -/
def F.CAL_ITEM_EFF_EFF (i : Nat) : RF := ⟨R.CAL_ITEM_EFF i, 0, 10⟩
/-- CAL_ITEM_APPLIED (17_calibration.md). -/
def R.CAL_ITEM_APPLIED (i : Nat) : Nat := 0x900100C + 16 * i
/-- CAL_ITEM_APPLIED.APPLIED. -/
def F.CAL_ITEM_APPLIED_APPLIED (i : Nat) : RF := ⟨R.CAL_ITEM_APPLIED i, 0, 10⟩
/-- CAL_ITEM_APPLIED.WALK. -/
def F.CAL_ITEM_APPLIED_WALK (i : Nat) : RF := ⟨R.CAL_ITEM_APPLIED i, 10, 1⟩

/-- The registers of block CAL, part 0. -/
def regDefsCAL0 : List RegDef := [
  ⟨0x9000000, 1, 1, 1, 1, [⟨0, 1, .rw, 1, 0⟩, ⟨1, 1, .rwl, 1, 0⟩, ⟨8, 5, .rw, 8, 0⟩]⟩,
  ⟨0x9000004, 1, 1, 1, 1, [⟨0, 5, .wo, 0, 0⟩]⟩,
  ⟨0x9000008, 1, 1, 1, 1, [⟨0, 5, .ro, 0, 0⟩, ⟨8, 5, .ro, 0, 0⟩, ⟨16, 1, .w1c, 0, 0⟩, ⟨17, 1, .w1c, 0, 24⟩, ⟨24, 8, .ro, 0, 0⟩]⟩,
  ⟨0x9000010, 32, 4, 1, 1, [⟨0, 12, .ro, 0, 0⟩, ⟨12, 1, .ro, 0, 0⟩]⟩,
  ⟨0x9000090, 5, 4, 1, 1, [⟨0, 12, .ro, 0, 0⟩, ⟨16, 16, .ro, 0, 0⟩]⟩,
  ⟨0x9001000, 146, 16, 1, 1, [⟨0, 10, .ro, 0, 0⟩]⟩,
  ⟨0x9001004, 146, 16, 1, 1, [⟨0, 16, .rws, 0, 0⟩]⟩,
  ⟨0x9001008, 146, 16, 1, 1, [⟨0, 10, .ro, 0, 0⟩]⟩,
  ⟨0x900100C, 146, 16, 1, 1, [⟨0, 10, .ro, 0, 0⟩, ⟨10, 1, .ro, 0, 0⟩]⟩]

/-- The registers of block CAL. -/
def regDefsCAL : List RegDef := regDefsCAL0

/-! ## MEM -/

/-- MEM_STAT (12_memory_protection.md). -/
def R.MEM_STAT : Nat := 0xA000000
/-- MEM_STAT.PAR_ERR. -/
def F.MEM_STAT_PAR_ERR : RF := ⟨R.MEM_STAT, 0, 1⟩
/-- MEM_STAT.PATROL_ERR. -/
def F.MEM_STAT_PATROL_ERR : RF := ⟨R.MEM_STAT, 1, 1⟩
/-- MEM_STAT.CTL_SBE. -/
def F.MEM_STAT_CTL_SBE : RF := ⟨R.MEM_STAT, 2, 1⟩
/-- MEM_STAT.CTL_DBE. -/
def F.MEM_STAT_CTL_DBE : RF := ⟨R.MEM_STAT, 3, 1⟩
/-- MEM_STAT.FENCED. -/
def F.MEM_STAT_FENCED : RF := ⟨R.MEM_STAT, 4, 1⟩
/-- MEM_STAT.PAR_REP. -/
def F.MEM_STAT_PAR_REP : RF := ⟨R.MEM_STAT, 8, 8⟩
/-- MEM_STAT.PATROL_REP. -/
def F.MEM_STAT_PATROL_REP : RF := ⟨R.MEM_STAT, 16, 8⟩
/-- MEM_STAT.DBE_REP. -/
def F.MEM_STAT_DBE_REP : RF := ⟨R.MEM_STAT, 24, 8⟩
/-- MEM_ERR_ADDR_LO (12_memory_protection.md). -/
def R.MEM_ERR_ADDR_LO : Nat := 0xA000004
/-- MEM_ERR_ADDR_LO.ADDR. -/
def F.MEM_ERR_ADDR_LO_ADDR : RF := ⟨R.MEM_ERR_ADDR_LO, 0, 32⟩
/-- MEM_ERR_ADDR_HI (12_memory_protection.md). -/
def R.MEM_ERR_ADDR_HI : Nat := 0xA000008
/-- MEM_ERR_ADDR_HI.ADDR_HI. -/
def F.MEM_ERR_ADDR_HI_ADDR_HI : RF := ⟨R.MEM_ERR_ADDR_HI, 0, 8⟩
/-- MEM_ERR_ADDR_HI.MACRO. -/
def F.MEM_ERR_ADDR_HI_MACRO : RF := ⟨R.MEM_ERR_ADDR_HI, 8, 12⟩
/-- MEM_ERR_ADDR_HI.PATROL. -/
def F.MEM_ERR_ADDR_HI_PATROL : RF := ⟨R.MEM_ERR_ADDR_HI, 20, 1⟩
/-- MEM_ERR_ADDR_HI.CTL. -/
def F.MEM_ERR_ADDR_HI_CTL : RF := ⟨R.MEM_ERR_ADDR_HI, 21, 1⟩
/-- MEM_PATROL_CFG (12_memory_protection.md). -/
def R.MEM_PATROL_CFG : Nat := 0xA000010
/-- MEM_PATROL_CFG.EN. -/
def F.MEM_PATROL_CFG_EN : RF := ⟨R.MEM_PATROL_CFG, 0, 1⟩
/-- MEM_PATROL_CFG.CTL_EN. -/
def F.MEM_PATROL_CFG_CTL_EN : RF := ⟨R.MEM_PATROL_CFG, 1, 1⟩
/-- MEM_PATROL_CFG.STEP. -/
def F.MEM_PATROL_CFG_STEP : RF := ⟨R.MEM_PATROL_CFG, 8, 8⟩
/-- MEM_PATROL_STAT (12_memory_protection.md). -/
def R.MEM_PATROL_STAT : Nat := 0xA000014
/-- MEM_PATROL_STAT.PASSES. -/
def F.MEM_PATROL_STAT_PASSES : RF := ⟨R.MEM_PATROL_STAT, 0, 16⟩
/-- MEM_PATROL_STAT.MACRO. -/
def F.MEM_PATROL_STAT_MACRO : RF := ⟨R.MEM_PATROL_STAT, 16, 12⟩
/-- MEM_RET_CFG (12_memory_protection.md). -/
def R.MEM_RET_CFG : Nat := 0xA000018
/-- MEM_RET_CFG.KEEP. -/
def F.MEM_RET_CFG_KEEP : RF := ⟨R.MEM_RET_CFG, 0, 16⟩
/-- MEM_RET_LOST (12_memory_protection.md). -/
def R.MEM_RET_LOST : Nat := 0xA00001C
/-- MEM_RET_LOST.LOST. -/
def F.MEM_RET_LOST_LOST : RF := ⟨R.MEM_RET_LOST, 0, 16⟩
/-- MEM_RET_LOST.LOST_REP. -/
def F.MEM_RET_LOST_LOST_REP : RF := ⟨R.MEM_RET_LOST, 24, 8⟩
/-- MEM_RET_CAUSE (12_memory_protection.md). -/
def R.MEM_RET_CAUSE : Nat := 0xA000020
/-- MEM_RET_CAUSE.CAUSE. -/
def F.MEM_RET_CAUSE_CAUSE : RF := ⟨R.MEM_RET_CAUSE, 0, 32⟩
/-- MEM_RET_STAT (12_memory_protection.md). -/
def R.MEM_RET_STAT : Nat := 0xA000024
/-- MEM_RET_STAT.RELEASED. -/
def F.MEM_RET_STAT_RELEASED : RF := ⟨R.MEM_RET_STAT, 0, 16⟩
/-- MEM_RET_STAT.ARMED. -/
def F.MEM_RET_STAT_ARMED : RF := ⟨R.MEM_RET_STAT, 16, 16⟩
/-- MEM_REP_SEL (12_memory_protection.md). -/
def R.MEM_REP_SEL : Nat := 0xA000030
/-- MEM_REP_SEL.MACRO. -/
def F.MEM_REP_SEL_MACRO : RF := ⟨R.MEM_REP_SEL, 0, 12⟩
/-- MEM_REP_STAT (12_memory_protection.md). -/
def R.MEM_REP_STAT : Nat := 0xA000034
/-- MEM_REP_STAT.ROWS. -/
def F.MEM_REP_STAT_ROWS : RF := ⟨R.MEM_REP_STAT, 0, 3⟩
/-- MEM_REP_STAT.COLS. -/
def F.MEM_REP_STAT_COLS : RF := ⟨R.MEM_REP_STAT, 4, 2⟩
/-- MEM_REP_STAT.FENCED. -/
def F.MEM_REP_STAT_FENCED : RF := ⟨R.MEM_REP_STAT, 8, 1⟩
/-- MEM_REP_STAT.FUSE_BAD. -/
def F.MEM_REP_STAT_FUSE_BAD : RF := ⟨R.MEM_REP_STAT, 9, 1⟩
/-- MEM_REP_SUM (12_memory_protection.md). -/
def R.MEM_REP_SUM : Nat := 0xA000038
/-- MEM_REP_SUM.REPAIRED. -/
def F.MEM_REP_SUM_REPAIRED : RF := ⟨R.MEM_REP_SUM, 0, 12⟩
/-- MEM_REP_SUM.FENCED. -/
def F.MEM_REP_SUM_FENCED : RF := ⟨R.MEM_REP_SUM, 16, 12⟩
/-- MEM_INIT_DONE (12_memory_protection.md). -/
def R.MEM_INIT_DONE (i : Nat) : Nat := 0xA000100 + 4 * i
/-- MEM_INIT_DONE.DONE. -/
def F.MEM_INIT_DONE_DONE (i : Nat) : RF := ⟨R.MEM_INIT_DONE i, 0, 32⟩
/-- MEM_INIT_CLR (12_memory_protection.md). -/
def R.MEM_INIT_CLR (i : Nat) : Nat := 0xA000400 + 4 * i
/-- MEM_INIT_CLR.CLR. -/
def F.MEM_INIT_CLR_CLR (i : Nat) : RF := ⟨R.MEM_INIT_CLR i, 0, 32⟩

/-- The registers of block MEM, part 0. -/
def regDefsMEM0 : List RegDef := [
  ⟨0xA000000, 1, 1, 1, 1, [⟨0, 1, .w1c, 0, 8⟩, ⟨1, 1, .w1c, 0, 16⟩, ⟨2, 1, .w1c, 0, 0⟩, ⟨3, 1, .w1c, 0, 24⟩, ⟨4, 1, .ro, 0, 0⟩, ⟨8, 8, .ro, 0, 0⟩, ⟨16, 8, .ro, 0, 0⟩, ⟨24, 8, .ro, 0, 0⟩]⟩,
  ⟨0xA000004, 1, 1, 1, 1, [⟨0, 32, .ro, 0, 0⟩]⟩,
  ⟨0xA000008, 1, 1, 1, 1, [⟨0, 8, .ro, 0, 0⟩, ⟨8, 12, .ro, 0, 0⟩, ⟨20, 1, .ro, 0, 0⟩, ⟨21, 1, .ro, 0, 0⟩]⟩,
  ⟨0xA000010, 1, 1, 1, 1, [⟨0, 1, .rw, 0, 0⟩, ⟨1, 1, .rw, 1, 0⟩, ⟨8, 8, .rw, 8, 0⟩]⟩,
  ⟨0xA000014, 1, 1, 1, 1, [⟨0, 16, .ro, 0, 0⟩, ⟨16, 12, .ro, 0, 0⟩]⟩,
  ⟨0xA000018, 1, 1, 1, 1, [⟨0, 16, .rw, 65535, 0⟩]⟩,
  ⟨0xA00001C, 1, 1, 1, 1, [⟨0, 16, .w1c, 0, 24⟩, ⟨24, 8, .ro, 0, 0⟩]⟩,
  ⟨0xA000020, 1, 1, 1, 1, [⟨0, 32, .ro, 0, 0⟩]⟩,
  ⟨0xA000024, 1, 1, 1, 1, [⟨0, 16, .ro, 0, 0⟩, ⟨16, 16, .ro, 0, 0⟩]⟩,
  ⟨0xA000030, 1, 1, 1, 1, [⟨0, 12, .rw, 0, 0⟩]⟩,
  ⟨0xA000034, 1, 1, 1, 1, [⟨0, 3, .ro, 0, 0⟩, ⟨4, 2, .ro, 0, 0⟩, ⟨8, 1, .ro, 0, 0⟩, ⟨9, 1, .ro, 0, 0⟩]⟩,
  ⟨0xA000038, 1, 1, 1, 1, [⟨0, 12, .ro, 0, 0⟩, ⟨16, 12, .ro, 0, 0⟩]⟩]

/-- The registers of block MEM, part 1. -/
def regDefsMEM1 : List RegDef := [
  ⟨0xA000100, 112, 4, 1, 1, [⟨0, 32, .w1s, 0, 0⟩]⟩,
  ⟨0xA000400, 112, 4, 1, 1, [⟨0, 32, .wo, 0, 0⟩]⟩]

/-- The registers of block MEM. -/
def regDefsMEM : List RegDef := regDefsMEM0 ++ regDefsMEM1

/-! ## CORR -/

/-- CORR_CTRL (08_corridor_engine.md). -/
def R.CORR_CTRL : Nat := 0xB000000
/-- CORR_CTRL.EN. -/
def F.CORR_CTRL_EN : RF := ⟨R.CORR_CTRL, 0, 1⟩
/-- CORR_CTRL.HORIZON. -/
def F.CORR_CTRL_HORIZON : RF := ⟨R.CORR_CTRL, 1, 4⟩
/-- CORR_STAT (08_corridor_engine.md). -/
def R.CORR_STAT : Nat := 0xB000004
/-- CORR_STAT.RUN. -/
def F.CORR_STAT_RUN : RF := ⟨R.CORR_STAT, 0, 1⟩
/-- CORR_STAT.OVERRUN. -/
def F.CORR_STAT_OVERRUN : RF := ⟨R.CORR_STAT, 1, 1⟩
/-- CORR_STAT.BAD_REC. -/
def F.CORR_STAT_BAD_REC : RF := ⟨R.CORR_STAT, 2, 1⟩
/-- CORR_STAT.TBL_ERR. -/
def F.CORR_STAT_TBL_ERR : RF := ⟨R.CORR_STAT, 3, 1⟩
/-- CORR_STAT.MEMB_DROP. -/
def F.CORR_STAT_MEMB_DROP : RF := ⟨R.CORR_STAT, 4, 1⟩
/-- CORR_STAT.WR_DENIED. -/
def F.CORR_STAT_WR_DENIED : RF := ⟨R.CORR_STAT, 5, 1⟩
/-- CORR_STAT.OVERRUN_REP. -/
def F.CORR_STAT_OVERRUN_REP : RF := ⟨R.CORR_STAT, 8, 8⟩
/-- CORR_STAT.BAD_REC_REP. -/
def F.CORR_STAT_BAD_REC_REP : RF := ⟨R.CORR_STAT, 16, 8⟩
/-- CORR_STAT.MEMB_DROP_REP. -/
def F.CORR_STAT_MEMB_DROP_REP : RF := ⟨R.CORR_STAT, 24, 8⟩
/-- CORR_INQ0 (08_corridor_engine.md). -/
def R.CORR_INQ0 : Nat := 0xB000008
/-- CORR_INQ0.QID. -/
def F.CORR_INQ0_QID : RF := ⟨R.CORR_INQ0, 0, 18⟩
/-- CORR_INQ0.EN. -/
def F.CORR_INQ0_EN : RF := ⟨R.CORR_INQ0, 18, 1⟩
/-- CORR_INQ1 (08_corridor_engine.md). -/
def R.CORR_INQ1 : Nat := 0xB00000C
/-- CORR_INQ1.QID. -/
def F.CORR_INQ1_QID : RF := ⟨R.CORR_INQ1, 0, 18⟩
/-- CORR_INQ1.EN. -/
def F.CORR_INQ1_EN : RF := ⟨R.CORR_INQ1, 18, 1⟩
/-- CORR_MAXAGE (08_corridor_engine.md). -/
def R.CORR_MAXAGE : Nat := 0xB000010
/-- CORR_MAXAGE.MS. -/
def F.CORR_MAXAGE_MS : RF := ⟨R.CORR_MAXAGE, 0, 11⟩
/-- CORR_MEMB (08_corridor_engine.md). -/
def R.CORR_MEMB : Nat := 0xB000014
/-- CORR_MEMB.LEAD. -/
def F.CORR_MEMB_LEAD : RF := ⟨R.CORR_MEMB, 0, 4⟩
/-- CORR_MEMB.HYST. -/
def F.CORR_MEMB_HYST : RF := ⟨R.CORR_MEMB, 8, 8⟩
/-- CORR_MEMB.JOIN_MIN. -/
def F.CORR_MEMB_JOIN_MIN : RF := ⟨R.CORR_MEMB, 16, 16⟩
/-- CORR_TICK_NEXT (08_corridor_engine.md). -/
def R.CORR_TICK_NEXT : Nat := 0xB000018
/-- CORR_TICK_NEXT.NS. -/
def F.CORR_TICK_NEXT_NS : RF := ⟨R.CORR_TICK_NEXT, 0, 32⟩
/-- CORR_TBL_SEL (08_corridor_engine.md). -/
def R.CORR_TBL_SEL : Nat := 0xB000020
/-- CORR_TBL_SEL.TABLE. -/
def F.CORR_TBL_SEL_TABLE : RF := ⟨R.CORR_TBL_SEL, 0, 3⟩
/-- CORR_TBL_SEL.INDEX. -/
def F.CORR_TBL_SEL_INDEX : RF := ⟨R.CORR_TBL_SEL, 4, 16⟩
/-- CORR_TBL_SEL.WORD. -/
def F.CORR_TBL_SEL_WORD : RF := ⟨R.CORR_TBL_SEL, 24, 5⟩
/-- CORR_TBL_DATA (08_corridor_engine.md). -/
def R.CORR_TBL_DATA : Nat := 0xB000024
/-- CORR_TBL_DATA.DATA. -/
def F.CORR_TBL_DATA_DATA : RF := ⟨R.CORR_TBL_DATA, 0, 32⟩
/-- CORR_PROF_Q (08_corridor_engine.md). -/
def R.CORR_PROF_Q (i : Nat) : Nat := 0xB000100 + 16 * i
/-- CORR_PROF_Q.Q_JERK. -/
def F.CORR_PROF_Q_Q_JERK (i : Nat) : RF := ⟨R.CORR_PROF_Q i, 0, 32⟩
/-- CORR_PROF_GATE (08_corridor_engine.md). -/
def R.CORR_PROF_GATE (i : Nat) : Nat := 0xB000104 + 16 * i
/-- CORR_PROF_GATE.GATE. -/
def F.CORR_PROF_GATE_GATE (i : Nat) : RF := ⟨R.CORR_PROF_GATE i, 0, 8⟩
/-- CORR_PROF_GATE.RESET_N. -/
def F.CORR_PROF_GATE_RESET_N (i : Nat) : RF := ⟨R.CORR_PROF_GATE i, 8, 8⟩
/-- CORR_PROF_SDMIN (08_corridor_engine.md). -/
def R.CORR_PROF_SDMIN (i : Nat) : Nat := 0xB000108 + 16 * i
/-- CORR_PROF_SDMIN.SD_DLY_MIN. -/
def F.CORR_PROF_SDMIN_SD_DLY_MIN (i : Nat) : RF := ⟨R.CORR_PROF_SDMIN i, 0, 16⟩
/-- CORR_PROF_SDMIN.SD_DOP_MIN. -/
def F.CORR_PROF_SDMIN_SD_DOP_MIN (i : Nat) : RF := ⟨R.CORR_PROF_SDMIN i, 16, 16⟩
/-- CORR_PROF_INIT (08_corridor_engine.md). -/
def R.CORR_PROF_INIT (i : Nat) : Nat := 0xB00010C + 16 * i
/-- CORR_PROF_INIT.V0_SD. -/
def F.CORR_PROF_INIT_V0_SD (i : Nat) : RF := ⟨R.CORR_PROF_INIT i, 0, 16⟩
/-- CORR_PROF_INIT.A0_SD. -/
def F.CORR_PROF_INIT_A0_SD (i : Nat) : RF := ⟨R.CORR_PROF_INIT i, 16, 16⟩

/-- The registers of block CORR, part 0. -/
def regDefsCORR0 : List RegDef := [
  ⟨0xB000000, 1, 1, 1, 1, [⟨0, 1, .rw, 0, 0⟩, ⟨1, 4, .rw, 4, 0⟩]⟩,
  ⟨0xB000004, 1, 1, 1, 1, [⟨0, 1, .ro, 0, 0⟩, ⟨1, 1, .w1c, 0, 8⟩, ⟨2, 1, .w1c, 0, 16⟩, ⟨3, 1, .w1c, 0, 0⟩, ⟨4, 1, .w1c, 0, 24⟩, ⟨5, 1, .w1c, 0, 0⟩, ⟨8, 8, .ro, 0, 0⟩, ⟨16, 8, .ro, 0, 0⟩, ⟨24, 8, .ro, 0, 0⟩]⟩,
  ⟨0xB000008, 1, 1, 1, 1, [⟨0, 18, .rw, 0, 0⟩, ⟨18, 1, .rw, 0, 0⟩]⟩,
  ⟨0xB00000C, 1, 1, 1, 1, [⟨0, 18, .rw, 0, 0⟩, ⟨18, 1, .rw, 0, 0⟩]⟩,
  ⟨0xB000010, 1, 1, 1, 1, [⟨0, 11, .rw, 500, 0⟩]⟩,
  ⟨0xB000014, 1, 1, 1, 1, [⟨0, 4, .rw, 2, 0⟩, ⟨8, 8, .rw, 12, 0⟩, ⟨16, 16, .rw, 47616, 0⟩]⟩,
  ⟨0xB000018, 1, 1, 1, 1, [⟨0, 32, .ro, 0, 0⟩]⟩,
  ⟨0xB000020, 1, 1, 1, 1, [⟨0, 3, .rw, 0, 0⟩, ⟨4, 16, .rw, 0, 0⟩, ⟨24, 5, .rw, 0, 0⟩]⟩,
  ⟨0xB000024, 1, 1, 1, 1, [⟨0, 32, .rw, 0, 0⟩]⟩,
  ⟨0xB000100, 4, 16, 1, 1, [⟨0, 32, .rw, 6554, 0⟩]⟩,
  ⟨0xB000104, 4, 16, 1, 1, [⟨0, 8, .rw, 64, 0⟩, ⟨8, 8, .rw, 3, 0⟩]⟩,
  ⟨0xB000108, 4, 16, 1, 1, [⟨0, 16, .rw, 64, 0⟩, ⟨16, 16, .rw, 640, 0⟩]⟩]

/-- The registers of block CORR, part 1. -/
def regDefsCORR1 : List RegDef := [
  ⟨0xB00010C, 4, 16, 1, 1, [⟨0, 16, .rw, 12800, 0⟩, ⟨16, 16, .rw, 256, 0⟩]⟩]

/-- The registers of block CORR. -/
def regDefsCORR : List RegDef := regDefsCORR0 ++ regDefsCORR1

/-! ## MILL -/

/-- MILL_CTRL (07_decoder_mill.md). -/
def R.MILL_CTRL (i : Nat) : Nat := 0xC000000 + 1048576 * i
/-- MILL_CTRL.EN. -/
def F.MILL_CTRL_EN (i : Nat) : RF := ⟨R.MILL_CTRL i, 0, 1⟩
/-- MILL_CTRL.FLUSH. -/
def F.MILL_CTRL_FLUSH (i : Nat) : RF := ⟨R.MILL_CTRL i, 1, 1⟩
/-- MILL_STAT (07_decoder_mill.md). -/
def R.MILL_STAT (i : Nat) : Nat := 0xC000004 + 1048576 * i
/-- MILL_STAT.IDLE. -/
def F.MILL_STAT_IDLE (i : Nat) : RF := ⟨R.MILL_STAT i, 0, 1⟩
/-- MILL_STAT.FENCED. -/
def F.MILL_STAT_FENCED (i : Nat) : RF := ⟨R.MILL_STAT i, 1, 1⟩
/-- MILL_STAT.BAD_JOB. -/
def F.MILL_STAT_BAD_JOB (i : Nat) : RF := ⟨R.MILL_STAT i, 2, 1⟩
/-- MILL_STAT.ENG_FAULT. -/
def F.MILL_STAT_ENG_FAULT (i : Nat) : RF := ⟨R.MILL_STAT i, 3, 1⟩
/-- MILL_STAT.BAD_JOB_REP. -/
def F.MILL_STAT_BAD_JOB_REP (i : Nat) : RF := ⟨R.MILL_STAT i, 8, 8⟩
/-- MILL_STAT.ENG_FAULT_REP. -/
def F.MILL_STAT_ENG_FAULT_REP (i : Nat) : RF := ⟨R.MILL_STAT i, 16, 8⟩
/-- MILL_ENG_EN0 (07_decoder_mill.md). -/
def R.MILL_ENG_EN0 (i : Nat) : Nat := 0xC000008 + 1048576 * i
/-- MILL_ENG_EN0.LDPC_DEC. -/
def F.MILL_ENG_EN0_LDPC_DEC (i : Nat) : RF := ⟨R.MILL_ENG_EN0 i, 0, 8⟩
/-- MILL_ENG_EN0.LDPC_ENC. -/
def F.MILL_ENG_EN0_LDPC_ENC (i : Nat) : RF := ⟨R.MILL_ENG_EN0 i, 8, 2⟩
/-- MILL_ENG_EN0.POLAR. -/
def F.MILL_ENG_EN0_POLAR (i : Nat) : RF := ⟨R.MILL_ENG_EN0 i, 10, 2⟩
/-- MILL_ENG_EN0.TURBO. -/
def F.MILL_ENG_EN0_TURBO (i : Nat) : RF := ⟨R.MILL_ENG_EN0 i, 12, 2⟩
/-- MILL_ENG_EN0.GSMR. -/
def F.MILL_ENG_EN0_GSMR (i : Nat) : RF := ⟨R.MILL_ENG_EN0 i, 14, 4⟩
/-- MILL_ENG_EN0.BEAM. -/
def F.MILL_ENG_EN0_BEAM (i : Nat) : RF := ⟨R.MILL_ENG_EN0 i, 18, 4⟩
/-- MILL_ENG_BUSY0 (07_decoder_mill.md). -/
def R.MILL_ENG_BUSY0 (i : Nat) : Nat := 0xC000010 + 1048576 * i
/-- MILL_ENG_BUSY0.LDPC_DEC. -/
def F.MILL_ENG_BUSY0_LDPC_DEC (i : Nat) : RF := ⟨R.MILL_ENG_BUSY0 i, 0, 8⟩
/-- MILL_ENG_BUSY0.LDPC_ENC. -/
def F.MILL_ENG_BUSY0_LDPC_ENC (i : Nat) : RF := ⟨R.MILL_ENG_BUSY0 i, 8, 2⟩
/-- MILL_ENG_BUSY0.POLAR. -/
def F.MILL_ENG_BUSY0_POLAR (i : Nat) : RF := ⟨R.MILL_ENG_BUSY0 i, 10, 2⟩
/-- MILL_ENG_BUSY0.TURBO. -/
def F.MILL_ENG_BUSY0_TURBO (i : Nat) : RF := ⟨R.MILL_ENG_BUSY0 i, 12, 2⟩
/-- MILL_ENG_BUSY0.GSMR. -/
def F.MILL_ENG_BUSY0_GSMR (i : Nat) : RF := ⟨R.MILL_ENG_BUSY0 i, 14, 4⟩
/-- MILL_ENG_BUSY0.BEAM. -/
def F.MILL_ENG_BUSY0_BEAM (i : Nat) : RF := ⟨R.MILL_ENG_BUSY0 i, 18, 4⟩
/-- MILL_ENG_FENCED0 (07_decoder_mill.md). -/
def R.MILL_ENG_FENCED0 (i : Nat) : Nat := 0xC000020 + 1048576 * i
/-- MILL_ENG_FENCED0.LDPC_DEC. -/
def F.MILL_ENG_FENCED0_LDPC_DEC (i : Nat) : RF := ⟨R.MILL_ENG_FENCED0 i, 0, 8⟩
/-- MILL_ENG_FENCED0.LDPC_ENC. -/
def F.MILL_ENG_FENCED0_LDPC_ENC (i : Nat) : RF := ⟨R.MILL_ENG_FENCED0 i, 8, 2⟩
/-- MILL_ENG_FENCED0.POLAR. -/
def F.MILL_ENG_FENCED0_POLAR (i : Nat) : RF := ⟨R.MILL_ENG_FENCED0 i, 10, 2⟩
/-- MILL_ENG_FENCED0.TURBO. -/
def F.MILL_ENG_FENCED0_TURBO (i : Nat) : RF := ⟨R.MILL_ENG_FENCED0 i, 12, 2⟩
/-- MILL_ENG_FENCED0.GSMR. -/
def F.MILL_ENG_FENCED0_GSMR (i : Nat) : RF := ⟨R.MILL_ENG_FENCED0 i, 14, 4⟩
/-- MILL_ENG_FENCED0.BEAM. -/
def F.MILL_ENG_FENCED0_BEAM (i : Nat) : RF := ⟨R.MILL_ENG_FENCED0 i, 18, 4⟩
/-- MILL_ENG_EN1 (07_decoder_mill.md). -/
def R.MILL_ENG_EN1 (i : Nat) : Nat := 0xC00000C + 1048576 * i
/-- MILL_ENG_EN1.FFT. -/
def F.MILL_ENG_EN1_FFT (i : Nat) : RF := ⟨R.MILL_ENG_EN1 i, 0, 16⟩
/-- MILL_ENG_BUSY1 (07_decoder_mill.md). -/
def R.MILL_ENG_BUSY1 (i : Nat) : Nat := 0xC000014 + 1048576 * i
/-- MILL_ENG_BUSY1.FFT. -/
def F.MILL_ENG_BUSY1_FFT (i : Nat) : RF := ⟨R.MILL_ENG_BUSY1 i, 0, 16⟩
/-- MILL_ENG_FENCED1 (07_decoder_mill.md). -/
def R.MILL_ENG_FENCED1 (i : Nat) : Nat := 0xC000024 + 1048576 * i
/-- MILL_ENG_FENCED1.FFT. -/
def F.MILL_ENG_FENCED1_FFT (i : Nat) : RF := ⟨R.MILL_ENG_FENCED1 i, 0, 16⟩
/-- MILL_BAD_INFO (07_decoder_mill.md). -/
def R.MILL_BAD_INFO (i : Nat) : Nat := 0xC000018 + 1048576 * i
/-- MILL_BAD_INFO.QID. -/
def F.MILL_BAD_INFO_QID (i : Nat) : RF := ⟨R.MILL_BAD_INFO i, 0, 18⟩
/-- MILL_BAD_INFO.REASON. -/
def F.MILL_BAD_INFO_REASON (i : Nat) : RF := ⟨R.MILL_BAD_INFO i, 18, 4⟩
/-- MILL_BAD_TAG (07_decoder_mill.md). -/
def R.MILL_BAD_TAG (i : Nat) : Nat := 0xC00001C + 1048576 * i
/-- MILL_BAD_TAG.TAG. -/
def F.MILL_BAD_TAG_TAG (i : Nat) : RF := ⟨R.MILL_BAD_TAG i, 0, 16⟩
/-- MILL_JQ_CFG (07_decoder_mill.md). -/
def R.MILL_JQ_CFG (i j : Nat) : Nat := 0xC000100 + 1048576 * i + 8 * j
/-- MILL_JQ_CFG.QID. -/
def F.MILL_JQ_CFG_QID (i j : Nat) : RF := ⟨R.MILL_JQ_CFG i j, 0, 18⟩
/-- MILL_JQ_CFG.EN. -/
def F.MILL_JQ_CFG_EN (i j : Nat) : RF := ⟨R.MILL_JQ_CFG i j, 18, 1⟩
/-- MILL_JQ_CFG.PRIO. -/
def F.MILL_JQ_CFG_PRIO (i j : Nat) : RF := ⟨R.MILL_JQ_CFG i j, 20, 3⟩
/-- MILL_JQ_STAT (07_decoder_mill.md). -/
def R.MILL_JQ_STAT (i j : Nat) : Nat := 0xC000104 + 1048576 * i + 8 * j
/-- MILL_JQ_STAT.HELD. -/
def F.MILL_JQ_STAT_HELD (i j : Nat) : RF := ⟨R.MILL_JQ_STAT i j, 0, 1⟩
/-- MILL_JQ_STAT.STALL. -/
def F.MILL_JQ_STAT_STALL (i j : Nat) : RF := ⟨R.MILL_JQ_STAT i j, 1, 1⟩
/-- MILL_JQ_STAT.BAD_Q. -/
def F.MILL_JQ_STAT_BAD_Q (i j : Nat) : RF := ⟨R.MILL_JQ_STAT i j, 2, 1⟩
/-- MILL_JQ_STAT.STALL_REP. -/
def F.MILL_JQ_STAT_STALL_REP (i j : Nat) : RF := ⟨R.MILL_JQ_STAT i j, 8, 8⟩
/-- MILL_JQ_STAT.STARTED. -/
def F.MILL_JQ_STAT_STARTED (i j : Nat) : RF := ⟨R.MILL_JQ_STAT i j, 16, 16⟩

/-- The registers of block MILL, part 0. -/
def regDefsMILL0 : List RegDef := [
  ⟨0xC000000, 4, 1048576, 1, 1, [⟨0, 1, .rw, 1, 0⟩, ⟨1, 1, .wo, 0, 0⟩]⟩,
  ⟨0xC000004, 4, 1048576, 1, 1, [⟨0, 1, .ro, 1, 0⟩, ⟨1, 1, .ro, 0, 0⟩, ⟨2, 1, .w1c, 0, 8⟩, ⟨3, 1, .w1c, 0, 16⟩, ⟨8, 8, .ro, 0, 0⟩, ⟨16, 8, .ro, 0, 0⟩]⟩,
  ⟨0xC000008, 4, 1048576, 1, 1, [⟨0, 8, .rw, 255, 0⟩, ⟨8, 2, .rw, 3, 0⟩, ⟨10, 2, .rw, 3, 0⟩, ⟨12, 2, .rw, 3, 0⟩, ⟨14, 4, .rw, 15, 0⟩, ⟨18, 4, .rw, 15, 0⟩]⟩,
  ⟨0xC000010, 4, 1048576, 1, 1, [⟨0, 8, .ro, 0, 0⟩, ⟨8, 2, .ro, 0, 0⟩, ⟨10, 2, .ro, 0, 0⟩, ⟨12, 2, .ro, 0, 0⟩, ⟨14, 4, .ro, 0, 0⟩, ⟨18, 4, .ro, 0, 0⟩]⟩,
  ⟨0xC000020, 4, 1048576, 1, 1, [⟨0, 8, .ro, 0, 0⟩, ⟨8, 2, .ro, 0, 0⟩, ⟨10, 2, .ro, 0, 0⟩, ⟨12, 2, .ro, 0, 0⟩, ⟨14, 4, .ro, 0, 0⟩, ⟨18, 4, .ro, 0, 0⟩]⟩,
  ⟨0xC00000C, 4, 1048576, 1, 1, [⟨0, 16, .rw, 65535, 0⟩]⟩,
  ⟨0xC000014, 4, 1048576, 1, 1, [⟨0, 16, .ro, 0, 0⟩]⟩,
  ⟨0xC000024, 4, 1048576, 1, 1, [⟨0, 16, .ro, 0, 0⟩]⟩,
  ⟨0xC000018, 4, 1048576, 1, 1, [⟨0, 18, .ro, 0, 0⟩, ⟨18, 4, .ro, 0, 0⟩]⟩,
  ⟨0xC00001C, 4, 1048576, 1, 1, [⟨0, 16, .ro, 0, 0⟩]⟩,
  ⟨0xC000100, 4, 1048576, 16, 8, [⟨0, 18, .rw, 0, 0⟩, ⟨18, 1, .rw, 0, 0⟩, ⟨20, 3, .rw, 0, 0⟩]⟩,
  ⟨0xC000104, 4, 1048576, 16, 8, [⟨0, 1, .ro, 0, 0⟩, ⟨1, 1, .w1c, 0, 8⟩, ⟨2, 1, .w1c, 0, 0⟩, ⟨8, 8, .ro, 0, 0⟩, ⟨16, 16, .ro, 0, 0⟩]⟩]

/-- The registers of block MILL. -/
def regDefsMILL : List RegDef := regDefsMILL0

/-! ## PERF -/

/-- PERF_ACCESS (19_counters.md). -/
def R.PERF_ACCESS : Nat := 0xD000000
/-- PERF_ACCESS.USER. -/
def F.PERF_ACCESS_USER : RF := ⟨R.PERF_ACCESS, 0, 1⟩
/-- PERF_STAT (19_counters.md). -/
def R.PERF_STAT : Nat := 0xD000004
/-- PERF_STAT.USER_DENIED. -/
def F.PERF_STAT_USER_DENIED : RF := ⟨R.PERF_STAT, 0, 1⟩
/-- PERF_STAT.DUMP_OVF. -/
def F.PERF_STAT_DUMP_OVF : RF := ⟨R.PERF_STAT, 1, 1⟩
/-- PERF_STAT.DUMP_BUSY. -/
def F.PERF_STAT_DUMP_BUSY : RF := ⟨R.PERF_STAT, 2, 1⟩
/-- PERF_STAT.CFG_BAD. -/
def F.PERF_STAT_CFG_BAD : RF := ⟨R.PERF_STAT, 3, 1⟩
/-- PERF_STAT.DENIED_REP. -/
def F.PERF_STAT_DENIED_REP : RF := ⟨R.PERF_STAT, 8, 8⟩
/-- PERF_STAT.OVF_REP. -/
def F.PERF_STAT_OVF_REP : RF := ⟨R.PERF_STAT, 16, 8⟩
/-- PERF_CTRL (19_counters.md). -/
def R.PERF_CTRL : Nat := 0xD000008
/-- PERF_CTRL.CLR_ALL. -/
def F.PERF_CTRL_CLR_ALL : RF := ⟨R.PERF_CTRL, 0, 1⟩
/-- PERF_LAST_AT (19_counters.md). -/
def R.PERF_LAST_AT : Nat := 0xD00000C
/-- PERF_LAST_AT.STAMP. -/
def F.PERF_LAST_AT_STAMP : RF := ⟨R.PERF_LAST_AT, 0, 32⟩
/-- PERF_DUMP_BASE_LO (19_counters.md). -/
def R.PERF_DUMP_BASE_LO : Nat := 0xD000010
/-- PERF_DUMP_BASE_LO.BASE. -/
def F.PERF_DUMP_BASE_LO_BASE : RF := ⟨R.PERF_DUMP_BASE_LO, 0, 32⟩
/-- PERF_DUMP_CFG (19_counters.md). -/
def R.PERF_DUMP_CFG : Nat := 0xD000014
/-- PERF_DUMP_CFG.BASE_HI. -/
def F.PERF_DUMP_CFG_BASE_HI : RF := ⟨R.PERF_DUMP_CFG, 0, 8⟩
/-- PERF_DUMP_CFG.DLOG. -/
def F.PERF_DUMP_CFG_DLOG : RF := ⟨R.PERF_DUMP_CFG, 8, 5⟩
/-- PERF_DUMP_CFG.EN. -/
def F.PERF_DUMP_CFG_EN : RF := ⟨R.PERF_DUMP_CFG, 13, 1⟩
/-- PERF_DUMP_CFG.PERIOD. -/
def F.PERF_DUMP_CFG_PERIOD : RF := ⟨R.PERF_DUMP_CFG, 16, 16⟩
/-- PERF_DUMP_RANGE (19_counters.md). -/
def R.PERF_DUMP_RANGE : Nat := 0xD000018
/-- PERF_DUMP_RANGE.FIRST. -/
def F.PERF_DUMP_RANGE_FIRST : RF := ⟨R.PERF_DUMP_RANGE, 0, 11⟩
/-- PERF_DUMP_RANGE.COUNT. -/
def F.PERF_DUMP_RANGE_COUNT : RF := ⟨R.PERF_DUMP_RANGE, 16, 11⟩
/-- PERF_DUMP_CMD (19_counters.md). -/
def R.PERF_DUMP_CMD : Nat := 0xD00001C
/-- PERF_DUMP_CMD.GO. -/
def F.PERF_DUMP_CMD_GO : RF := ⟨R.PERF_DUMP_CMD, 0, 1⟩
/-- PERF_DUMP_WR (19_counters.md). -/
def R.PERF_DUMP_WR : Nat := 0xD000020
/-- PERF_DUMP_WR.WR. -/
def F.PERF_DUMP_WR_WR : RF := ⟨R.PERF_DUMP_WR, 0, 32⟩
/-- PERF_DUMP_RD (19_counters.md). -/
def R.PERF_DUMP_RD : Nat := 0xD000024
/-- PERF_DUMP_RD.RD. -/
def F.PERF_DUMP_RD_RD : RF := ⟨R.PERF_DUMP_RD, 0, 32⟩
/-- PERF_CNT_LO (19_counters.md). -/
def R.PERF_CNT_LO (i : Nat) : Nat := 0xD010000 + 8 * i
/-- PERF_CNT_LO.COUNT_LO. -/
def F.PERF_CNT_LO_COUNT_LO (i : Nat) : RF := ⟨R.PERF_CNT_LO i, 0, 32⟩
/-- PERF_CNT_HI (19_counters.md). -/
def R.PERF_CNT_HI (i : Nat) : Nat := 0xD010004 + 8 * i
/-- PERF_CNT_HI.COUNT_HI. -/
def F.PERF_CNT_HI_COUNT_HI (i : Nat) : RF := ⟨R.PERF_CNT_HI i, 0, 16⟩
/-- PERF_OCC_N (19_counters.md). -/
def R.PERF_OCC_N (i : Nat) : Nat := 0xD020000 + 8 * i
/-- PERF_OCC_N.N. -/
def F.PERF_OCC_N_N (i : Nat) : RF := ⟨R.PERF_OCC_N i, 0, 21⟩
/-- PERF_OCC_SEL (19_counters.md). -/
def R.PERF_OCC_SEL (i : Nat) : Nat := 0xD020004 + 8 * i
/-- PERF_OCC_SEL.SEL. -/
def F.PERF_OCC_SEL_SEL (i : Nat) : RF := ⟨R.PERF_OCC_SEL i, 0, 18⟩

/-- The registers of block PERF, part 0. -/
def regDefsPERF0 : List RegDef := [
  ⟨0xD000000, 1, 1, 1, 1, [⟨0, 1, .rw, 0, 0⟩]⟩,
  ⟨0xD000004, 1, 1, 1, 1, [⟨0, 1, .w1c, 0, 8⟩, ⟨1, 1, .w1c, 0, 16⟩, ⟨2, 1, .ro, 0, 0⟩, ⟨3, 1, .w1c, 0, 0⟩, ⟨8, 8, .ro, 0, 0⟩, ⟨16, 8, .ro, 0, 0⟩]⟩,
  ⟨0xD000008, 1, 1, 1, 1, [⟨0, 1, .wo, 0, 0⟩]⟩,
  ⟨0xD00000C, 1, 1, 1, 1, [⟨0, 32, .ro, 0, 0⟩]⟩,
  ⟨0xD000010, 1, 1, 1, 1, [⟨0, 32, .rw, 0, 0⟩]⟩,
  ⟨0xD000014, 1, 1, 1, 1, [⟨0, 8, .rw, 0, 0⟩, ⟨8, 5, .rw, 4, 0⟩, ⟨13, 1, .rw, 0, 0⟩, ⟨16, 16, .rw, 0, 0⟩]⟩,
  ⟨0xD000018, 1, 1, 1, 1, [⟨0, 11, .rw, 0, 0⟩, ⟨16, 11, .rw, 1184, 0⟩]⟩,
  ⟨0xD00001C, 1, 1, 1, 1, [⟨0, 1, .wo, 0, 0⟩]⟩,
  ⟨0xD000020, 1, 1, 1, 1, [⟨0, 32, .ro, 0, 0⟩]⟩,
  ⟨0xD000024, 1, 1, 1, 1, [⟨0, 32, .rw, 0, 0⟩]⟩,
  ⟨0xD010000, 1184, 8, 1, 1, [⟨0, 32, .ro, 0, 0⟩]⟩,
  ⟨0xD010004, 1184, 8, 1, 1, [⟨0, 16, .ro, 0, 0⟩]⟩]

/-- The registers of block PERF, part 1. -/
def regDefsPERF1 : List RegDef := [
  ⟨0xD020000, 1184, 8, 1, 1, [⟨0, 21, .rw, 0, 0⟩]⟩,
  ⟨0xD020004, 1184, 8, 1, 1, [⟨0, 18, .rw, 0, 0⟩]⟩]

/-- The registers of block PERF. -/
def regDefsPERF : List RegDef := regDefsPERF0 ++ regDefsPERF1

/-! ## TWIN -/

/-- TWIN_CFG (18_faults_and_twin_pair.md). -/
def R.TWIN_CFG : Nat := 0xE000000
/-- TWIN_CFG.EN. -/
def F.TWIN_CFG_EN : RF := ⟨R.TWIN_CFG, 0, 1⟩
/-- TWIN_CFG.POS. -/
def F.TWIN_CFG_POS : RF := ⟨R.TWIN_CFG, 1, 1⟩
/-- TWIN_CFG.START_LEAD. -/
def F.TWIN_CFG_START_LEAD : RF := ⟨R.TWIN_CFG, 2, 1⟩
/-- TWIN_CFG.TB_LOCK. -/
def F.TWIN_CFG_TB_LOCK : RF := ⟨R.TWIN_CFG, 3, 1⟩
/-- TWIN_CFG.HB_MISS. -/
def F.TWIN_CFG_HB_MISS : RF := ⟨R.TWIN_CFG, 4, 4⟩
/-- TWIN_CFG.ABD_MASK. -/
def F.TWIN_CFG_ABD_MASK : RF := ⟨R.TWIN_CFG, 8, 5⟩
/-- TWIN_CFG.CAP_HB. -/
def F.TWIN_CFG_CAP_HB : RF := ⟨R.TWIN_CFG, 13, 1⟩
/-- TWIN_CFG.KP. -/
def F.TWIN_CFG_KP : RF := ⟨R.TWIN_CFG, 16, 4⟩
/-- TWIN_CFG.KI. -/
def F.TWIN_CFG_KI : RF := ⟨R.TWIN_CFG, 20, 4⟩
/-- TWIN_STAT (18_faults_and_twin_pair.md). -/
def R.TWIN_STAT : Nat := 0xE000004
/-- TWIN_STAT.HOLD. -/
def F.TWIN_STAT_HOLD : RF := ⟨R.TWIN_STAT, 0, 1⟩
/-- TWIN_STAT.PEER_HOLD. -/
def F.TWIN_STAT_PEER_HOLD : RF := ⟨R.TWIN_STAT, 1, 1⟩
/-- TWIN_STAT.PEER_OK. -/
def F.TWIN_STAT_PEER_OK : RF := ⟨R.TWIN_STAT, 2, 1⟩
/-- TWIN_STAT.LOCKED. -/
def F.TWIN_STAT_LOCKED : RF := ⟨R.TWIN_STAT, 3, 1⟩
/-- TWIN_STAT.PEER_LOST. -/
def F.TWIN_STAT_PEER_LOST : RF := ⟨R.TWIN_STAT, 4, 1⟩
/-- TWIN_STAT.TAKEOVER. -/
def F.TWIN_STAT_TAKEOVER : RF := ⟨R.TWIN_STAT, 5, 1⟩
/-- TWIN_STAT.ABDICATED. -/
def F.TWIN_STAT_ABDICATED : RF := ⟨R.TWIN_STAT, 6, 1⟩
/-- TWIN_STAT.POS_CONFLICT. -/
def F.TWIN_STAT_POS_CONFLICT : RF := ⟨R.TWIN_STAT, 7, 1⟩
/-- TWIN_STAT.PEER_LOST_REP. -/
def F.TWIN_STAT_PEER_LOST_REP : RF := ⟨R.TWIN_STAT, 8, 8⟩
/-- TWIN_STAT.TAKEOVER_REP. -/
def F.TWIN_STAT_TAKEOVER_REP : RF := ⟨R.TWIN_STAT, 16, 8⟩
/-- TWIN_STAT.CMD_REFUSED. -/
def F.TWIN_STAT_CMD_REFUSED : RF := ⟨R.TWIN_STAT, 24, 1⟩
/-- TWIN_STAT.PEER_SEEN. -/
def F.TWIN_STAT_PEER_SEEN : RF := ⟨R.TWIN_STAT, 25, 1⟩
/-- TWIN_CMD (18_faults_and_twin_pair.md). -/
def R.TWIN_CMD : Nat := 0xE000008
/-- TWIN_CMD.CLAIM. -/
def F.TWIN_CMD_CLAIM : RF := ⟨R.TWIN_CMD, 0, 1⟩
/-- TWIN_CMD.ABDICATE. -/
def F.TWIN_CMD_ABDICATE : RF := ⟨R.TWIN_CMD, 1, 1⟩
/-- TWIN_PEER_HEALTH (18_faults_and_twin_pair.md). -/
def R.TWIN_PEER_HEALTH : Nat := 0xE00000C
/-- TWIN_PEER_HEALTH.HEALTH. -/
def F.TWIN_PEER_HEALTH_HEALTH : RF := ⟨R.TWIN_PEER_HEALTH, 0, 32⟩
/-- TWIN_OFFSET (18_faults_and_twin_pair.md). -/
def R.TWIN_OFFSET : Nat := 0xE000010
/-- TWIN_OFFSET.THETA. -/
def F.TWIN_OFFSET_THETA : RF := ⟨R.TWIN_OFFSET, 0, 32⟩
/-- TWIN_ASYM (18_faults_and_twin_pair.md). -/
def R.TWIN_ASYM : Nat := 0xE000014
/-- TWIN_ASYM.ASYM. -/
def F.TWIN_ASYM_ASYM : RF := ⟨R.TWIN_ASYM, 0, 16⟩
/-- TWIN_TAKE_AT (18_faults_and_twin_pair.md). -/
def R.TWIN_TAKE_AT : Nat := 0xE000018
/-- TWIN_TAKE_AT.STAMP. -/
def F.TWIN_TAKE_AT_STAMP : RF := ⟨R.TWIN_TAKE_AT, 0, 32⟩
/-- TWIN_HB_SEQ (18_faults_and_twin_pair.md). -/
def R.TWIN_HB_SEQ : Nat := 0xE00001C
/-- TWIN_HB_SEQ.TX. -/
def F.TWIN_HB_SEQ_TX : RF := ⟨R.TWIN_HB_SEQ, 0, 16⟩
/-- TWIN_HB_SEQ.RX. -/
def F.TWIN_HB_SEQ_RX : RF := ⟨R.TWIN_HB_SEQ, 16, 16⟩
/-- TWIN_TX_BASE_LO (18_faults_and_twin_pair.md). -/
def R.TWIN_TX_BASE_LO : Nat := 0xE000020
/-- TWIN_TX_BASE_LO.BASE. -/
def F.TWIN_TX_BASE_LO_BASE : RF := ⟨R.TWIN_TX_BASE_LO, 0, 32⟩
/-- TWIN_TX_CFG (18_faults_and_twin_pair.md). -/
def R.TWIN_TX_CFG : Nat := 0xE000024
/-- TWIN_TX_CFG.BASE_HI. -/
def F.TWIN_TX_CFG_BASE_HI : RF := ⟨R.TWIN_TX_CFG, 0, 8⟩
/-- TWIN_TX_CFG.DLOG. -/
def F.TWIN_TX_CFG_DLOG : RF := ⟨R.TWIN_TX_CFG, 8, 5⟩
/-- TWIN_TX_CFG.EN. -/
def F.TWIN_TX_CFG_EN : RF := ⟨R.TWIN_TX_CFG, 13, 1⟩
/-- TWIN_TX_TAIL (18_faults_and_twin_pair.md). -/
def R.TWIN_TX_TAIL : Nat := 0xE000028
/-- TWIN_TX_TAIL.TAIL. -/
def F.TWIN_TX_TAIL_TAIL : RF := ⟨R.TWIN_TX_TAIL, 0, 17⟩
/-- TWIN_TX_HEAD (18_faults_and_twin_pair.md). -/
def R.TWIN_TX_HEAD : Nat := 0xE00002C
/-- TWIN_TX_HEAD.HEAD. -/
def F.TWIN_TX_HEAD_HEAD : RF := ⟨R.TWIN_TX_HEAD, 0, 17⟩
/-- TWIN_RX_BASE_LO (18_faults_and_twin_pair.md). -/
def R.TWIN_RX_BASE_LO : Nat := 0xE000030
/-- TWIN_RX_BASE_LO.BASE. -/
def F.TWIN_RX_BASE_LO_BASE : RF := ⟨R.TWIN_RX_BASE_LO, 0, 32⟩
/-- TWIN_RX_CFG (18_faults_and_twin_pair.md). -/
def R.TWIN_RX_CFG : Nat := 0xE000034
/-- TWIN_RX_CFG.BASE_HI. -/
def F.TWIN_RX_CFG_BASE_HI : RF := ⟨R.TWIN_RX_CFG, 0, 8⟩
/-- TWIN_RX_CFG.DLOG. -/
def F.TWIN_RX_CFG_DLOG : RF := ⟨R.TWIN_RX_CFG, 8, 5⟩
/-- TWIN_RX_CFG.EN. -/
def F.TWIN_RX_CFG_EN : RF := ⟨R.TWIN_RX_CFG, 13, 1⟩
/-- TWIN_RX_TAIL (18_faults_and_twin_pair.md). -/
def R.TWIN_RX_TAIL : Nat := 0xE000038
/-- TWIN_RX_TAIL.TAIL. -/
def F.TWIN_RX_TAIL_TAIL : RF := ⟨R.TWIN_RX_TAIL, 0, 17⟩
/-- TWIN_RX_HEAD (18_faults_and_twin_pair.md). -/
def R.TWIN_RX_HEAD : Nat := 0xE00003C
/-- TWIN_RX_HEAD.HEAD. -/
def F.TWIN_RX_HEAD_HEAD : RF := ⟨R.TWIN_RX_HEAD, 0, 17⟩
/-- TWIN_RX_EVT (18_faults_and_twin_pair.md). -/
def R.TWIN_RX_EVT : Nat := 0xE000040
/-- TWIN_RX_EVT.EVENT_ID. -/
def F.TWIN_RX_EVT_EVENT_ID : RF := ⟨R.TWIN_RX_EVT, 0, 16⟩
/-- TWIN_RX_EVT.STRATA. -/
def F.TWIN_RX_EVT_STRATA : RF := ⟨R.TWIN_RX_EVT, 16, 8⟩
/-- TWIN_RX_EVT.EN. -/
def F.TWIN_RX_EVT_EN : RF := ⟨R.TWIN_RX_EVT, 24, 1⟩
/-- TWIN_RX_DROP (18_faults_and_twin_pair.md). -/
def R.TWIN_RX_DROP : Nat := 0xE000044
/-- TWIN_RX_DROP.DROP. -/
def F.TWIN_RX_DROP_DROP : RF := ⟨R.TWIN_RX_DROP, 0, 32⟩

/-- The registers of block TWIN, part 0. -/
def regDefsTWIN0 : List RegDef := [
  ⟨0xE000000, 1, 1, 1, 1, [⟨0, 1, .rwl, 0, 0⟩, ⟨1, 1, .rwl, 0, 0⟩, ⟨2, 1, .rwl, 0, 0⟩, ⟨3, 1, .rw, 1, 0⟩, ⟨4, 4, .rwl, 3, 0⟩, ⟨8, 5, .rw, 31, 0⟩, ⟨13, 1, .rw, 0, 0⟩, ⟨16, 4, .rw, 2, 0⟩, ⟨20, 4, .rw, 8, 0⟩]⟩,
  ⟨0xE000004, 1, 1, 1, 1, [⟨0, 1, .ro, 0, 0⟩, ⟨1, 1, .ro, 0, 0⟩, ⟨2, 1, .ro, 0, 0⟩, ⟨3, 1, .ro, 0, 0⟩, ⟨4, 1, .w1c, 0, 8⟩, ⟨5, 1, .w1c, 0, 16⟩, ⟨6, 1, .w1c, 0, 0⟩, ⟨7, 1, .w1c, 0, 0⟩, ⟨8, 8, .ro, 0, 0⟩, ⟨16, 8, .ro, 0, 0⟩, ⟨24, 1, .w1c, 0, 0⟩, ⟨25, 1, .ro, 0, 0⟩]⟩,
  ⟨0xE000008, 1, 1, 1, 1, [⟨0, 1, .wo, 0, 0⟩, ⟨1, 1, .wo, 0, 0⟩]⟩,
  ⟨0xE00000C, 1, 1, 1, 1, [⟨0, 32, .ro, 0, 0⟩]⟩,
  ⟨0xE000010, 1, 1, 1, 1, [⟨0, 32, .ro, 0, 0⟩]⟩,
  ⟨0xE000014, 1, 1, 1, 1, [⟨0, 16, .rw, 0, 0⟩]⟩,
  ⟨0xE000018, 1, 1, 1, 1, [⟨0, 32, .ro, 0, 0⟩]⟩,
  ⟨0xE00001C, 1, 1, 1, 1, [⟨0, 16, .ro, 0, 0⟩, ⟨16, 16, .ro, 0, 0⟩]⟩,
  ⟨0xE000020, 1, 1, 1, 1, [⟨0, 32, .rw, 0, 0⟩]⟩,
  ⟨0xE000024, 1, 1, 1, 1, [⟨0, 8, .rw, 0, 0⟩, ⟨8, 5, .rw, 4, 0⟩, ⟨13, 1, .rw, 0, 0⟩]⟩,
  ⟨0xE000028, 1, 1, 1, 1, [⟨0, 17, .rw, 0, 0⟩]⟩,
  ⟨0xE00002C, 1, 1, 1, 1, [⟨0, 17, .ro, 0, 0⟩]⟩]

/-- The registers of block TWIN, part 1. -/
def regDefsTWIN1 : List RegDef := [
  ⟨0xE000030, 1, 1, 1, 1, [⟨0, 32, .rw, 0, 0⟩]⟩,
  ⟨0xE000034, 1, 1, 1, 1, [⟨0, 8, .rw, 0, 0⟩, ⟨8, 5, .rw, 4, 0⟩, ⟨13, 1, .rw, 0, 0⟩]⟩,
  ⟨0xE000038, 1, 1, 1, 1, [⟨0, 17, .ro, 0, 0⟩]⟩,
  ⟨0xE00003C, 1, 1, 1, 1, [⟨0, 17, .rw, 0, 0⟩]⟩,
  ⟨0xE000040, 1, 1, 1, 1, [⟨0, 16, .rw, 0, 0⟩, ⟨16, 8, .rw, 0, 0⟩, ⟨24, 1, .rw, 0, 0⟩]⟩,
  ⟨0xE000044, 1, 1, 1, 1, [⟨0, 32, .ro, 0, 0⟩]⟩]

/-- The registers of block TWIN. -/
def regDefsTWIN : List RegDef := regDefsTWIN0 ++ regDefsTWIN1

/-! ## BOOT -/

/-- BOOT_STAT (15_bedrock_image_and_start.md). -/
def R.BOOT_STAT : Nat := 0xF000000
/-- BOOT_STAT.PHASE. -/
def F.BOOT_STAT_PHASE : RF := ⟨R.BOOT_STAT, 0, 4⟩
/-- BOOT_STAT.COPY. -/
def F.BOOT_STAT_COPY : RF := ⟨R.BOOT_STAT, 4, 1⟩
/-- BOOT_STAT.SEALED. -/
def F.BOOT_STAT_SEALED : RF := ⟨R.BOOT_STAT, 5, 1⟩
/-- BOOT_STAT.FW_LATE. -/
def F.BOOT_STAT_FW_LATE : RF := ⟨R.BOOT_STAT, 6, 1⟩
/-- BOOT_STAT.REASON_A. -/
def F.BOOT_STAT_REASON_A : RF := ⟨R.BOOT_STAT, 8, 4⟩
/-- BOOT_STAT.REASON_B. -/
def F.BOOT_STAT_REASON_B : RF := ⟨R.BOOT_STAT, 12, 4⟩
/-- BOOT_STAT.SECT. -/
def F.BOOT_STAT_SECT : RF := ⟨R.BOOT_STAT, 16, 12⟩
/-- BOOT_TIME (15_bedrock_image_and_start.md). -/
def R.BOOT_TIME : Nat := 0xF000004
/-- BOOT_TIME.LIVE_MS. -/
def F.BOOT_TIME_LIVE_MS : RF := ⟨R.BOOT_TIME, 0, 16⟩
/-- BOOT_BUILD (15_bedrock_image_and_start.md). -/
def R.BOOT_BUILD : Nat := 0xF000008
/-- BOOT_BUILD.BUILD_ID. -/
def F.BOOT_BUILD_BUILD_ID : RF := ⟨R.BOOT_BUILD, 0, 32⟩
/-- BOOT_LOADED (15_bedrock_image_and_start.md). -/
def R.BOOT_LOADED : Nat := 0xF00000C
/-- BOOT_LOADED.COPY. -/
def F.BOOT_LOADED_COPY : RF := ⟨R.BOOT_LOADED, 0, 1⟩
/-- BOOT_DIGEST (15_bedrock_image_and_start.md). -/
def R.BOOT_DIGEST (i : Nat) : Nat := 0xF000010 + 4 * i
/-- BOOT_DIGEST.DIGEST. -/
def F.BOOT_DIGEST_DIGEST (i : Nat) : RF := ⟨R.BOOT_DIGEST i, 0, 32⟩
/-- BOOT_FUSE (15_bedrock_image_and_start.md). -/
def R.BOOT_FUSE : Nat := 0xF000040
/-- BOOT_FUSE.ROLLBACK. -/
def F.BOOT_FUSE_ROLLBACK : RF := ⟨R.BOOT_FUSE, 0, 7⟩
/-- BOOT_FUSE.KEY_SET. -/
def F.BOOT_FUSE_KEY_SET : RF := ⟨R.BOOT_FUSE, 7, 1⟩
/-- BOOT_FUSE.ADV_BUSY. -/
def F.BOOT_FUSE_ADV_BUSY : RF := ⟨R.BOOT_FUSE, 8, 1⟩
/-- BOOT_ROLLBACK_CMD (15_bedrock_image_and_start.md). -/
def R.BOOT_ROLLBACK_CMD : Nat := 0xF000044
/-- BOOT_ROLLBACK_CMD.ADVANCE. -/
def F.BOOT_ROLLBACK_CMD_ADVANCE : RF := ⟨R.BOOT_ROLLBACK_CMD, 0, 1⟩
/-- BOOT_ROLLBACK_CMD.KEY. -/
def F.BOOT_ROLLBACK_CMD_KEY : RF := ⟨R.BOOT_ROLLBACK_CMD, 8, 8⟩
/-- BOOT_FW_READY (15_bedrock_image_and_start.md). -/
def R.BOOT_FW_READY : Nat := 0xF000048
/-- BOOT_FW_READY.READY. -/
def F.BOOT_FW_READY_READY : RF := ⟨R.BOOT_FW_READY, 0, 1⟩
/-- BOOT_MGMT_Q (15_bedrock_image_and_start.md). -/
def R.BOOT_MGMT_Q : Nat := 0xF000050
/-- BOOT_MGMT_Q.HOSTQ. -/
def F.BOOT_MGMT_Q_HOSTQ : RF := ⟨R.BOOT_MGMT_Q, 0, 18⟩
/-- BOOT_MGMT_FQ (15_bedrock_image_and_start.md). -/
def R.BOOT_MGMT_FQ : Nat := 0xF000054
/-- BOOT_MGMT_FQ.FWQ. -/
def F.BOOT_MGMT_FQ_FWQ : RF := ⟨R.BOOT_MGMT_FQ, 0, 18⟩
/-- BOOT_MGMT_HCPL (15_bedrock_image_and_start.md). -/
def R.BOOT_MGMT_HCPL : Nat := 0xF000058
/-- BOOT_MGMT_HCPL.HCPLQ. -/
def F.BOOT_MGMT_HCPL_HCPLQ : RF := ⟨R.BOOT_MGMT_HCPL, 0, 18⟩
/-- BOOT_MGMT_FCPL (15_bedrock_image_and_start.md). -/
def R.BOOT_MGMT_FCPL : Nat := 0xF00005C
/-- BOOT_MGMT_FCPL.FCPLQ. -/
def F.BOOT_MGMT_FCPL_FCPLQ : RF := ⟨R.BOOT_MGMT_FCPL, 0, 18⟩
/-- BOOT_MGMT_EVT (15_bedrock_image_and_start.md). -/
def R.BOOT_MGMT_EVT : Nat := 0xF000060
/-- BOOT_MGMT_EVT.EVENT_ID. -/
def F.BOOT_MGMT_EVT_EVENT_ID : RF := ⟨R.BOOT_MGMT_EVT, 0, 16⟩
/-- BOOT_MGMT_EVT.STRATA. -/
def F.BOOT_MGMT_EVT_STRATA : RF := ⟨R.BOOT_MGMT_EVT, 16, 8⟩
/-- BOOT_MGMT_STAT (15_bedrock_image_and_start.md). -/
def R.BOOT_MGMT_STAT : Nat := 0xF000064
/-- BOOT_MGMT_STAT.CPL_WAIT. -/
def F.BOOT_MGMT_STAT_CPL_WAIT : RF := ⟨R.BOOT_MGMT_STAT, 0, 1⟩
/-- BOOT_MGMT_STAT.BAD_Q. -/
def F.BOOT_MGMT_STAT_BAD_Q : RF := ⟨R.BOOT_MGMT_STAT, 1, 1⟩
/-- BOOT_MGMT_STAT.BAD_Q_REP. -/
def F.BOOT_MGMT_STAT_BAD_Q_REP : RF := ⟨R.BOOT_MGMT_STAT, 8, 8⟩
/-- BOOT_MGMT_REFUSED (15_bedrock_image_and_start.md). -/
def R.BOOT_MGMT_REFUSED : Nat := 0xF000068
/-- BOOT_MGMT_REFUSED.COUNT. -/
def F.BOOT_MGMT_REFUSED_COUNT : RF := ⟨R.BOOT_MGMT_REFUSED, 0, 32⟩
/-- BOOT_MGMT_DONE (15_bedrock_image_and_start.md). -/
def R.BOOT_MGMT_DONE : Nat := 0xF00006C
/-- BOOT_MGMT_DONE.COUNT. -/
def F.BOOT_MGMT_DONE_COUNT : RF := ⟨R.BOOT_MGMT_DONE, 0, 32⟩
/-- BOOT_FL_CTRL (15_bedrock_image_and_start.md). -/
def R.BOOT_FL_CTRL : Nat := 0xF000080
/-- BOOT_FL_CTRL.OPCODE. -/
def F.BOOT_FL_CTRL_OPCODE : RF := ⟨R.BOOT_FL_CTRL, 0, 8⟩
/-- BOOT_FL_CTRL.LEN. -/
def F.BOOT_FL_CTRL_LEN : RF := ⟨R.BOOT_FL_CTRL, 8, 9⟩
/-- BOOT_FL_CTRL.WRITE. -/
def F.BOOT_FL_CTRL_WRITE : RF := ⟨R.BOOT_FL_CTRL, 17, 1⟩
/-- BOOT_FL_CTRL.GO. -/
def F.BOOT_FL_CTRL_GO : RF := ⟨R.BOOT_FL_CTRL, 18, 1⟩
/-- BOOT_FL_CTRL.BUSY. -/
def F.BOOT_FL_CTRL_BUSY : RF := ⟨R.BOOT_FL_CTRL, 19, 1⟩
/-- BOOT_FL_CTRL.DENIED. -/
def F.BOOT_FL_CTRL_DENIED : RF := ⟨R.BOOT_FL_CTRL, 20, 1⟩
/-- BOOT_FL_ADDR (15_bedrock_image_and_start.md). -/
def R.BOOT_FL_ADDR : Nat := 0xF000084
/-- BOOT_FL_ADDR.ADDR. -/
def F.BOOT_FL_ADDR_ADDR : RF := ⟨R.BOOT_FL_ADDR, 0, 32⟩
/-- BOOT_CELL_STATE (15_bedrock_image_and_start.md). -/
def R.BOOT_CELL_STATE (i : Nat) : Nat := 0xF000100 + 4 * i
/-- BOOT_CELL_STATE.STATE. -/
def F.BOOT_CELL_STATE_STATE (i : Nat) : RF := ⟨R.BOOT_CELL_STATE i, 0, 32⟩
/-- BOOT_FL_BUF (15_bedrock_image_and_start.md). -/
def R.BOOT_FL_BUF (i : Nat) : Nat := 0xF001000 + 4 * i
/-- BOOT_FL_BUF.DATA. -/
def F.BOOT_FL_BUF_DATA (i : Nat) : RF := ⟨R.BOOT_FL_BUF i, 0, 32⟩

/-- The registers of block BOOT, part 0. -/
def regDefsBOOT0 : List RegDef := [
  ⟨0xF000000, 1, 1, 1, 1, [⟨0, 4, .ro, 0, 0⟩, ⟨4, 1, .ro, 0, 0⟩, ⟨5, 1, .ro, 0, 0⟩, ⟨6, 1, .w1c, 0, 0⟩, ⟨8, 4, .ro, 0, 0⟩, ⟨12, 4, .ro, 0, 0⟩, ⟨16, 12, .ro, 0, 0⟩]⟩,
  ⟨0xF000004, 1, 1, 1, 1, [⟨0, 16, .ro, 0, 0⟩]⟩,
  ⟨0xF000008, 1, 1, 1, 1, [⟨0, 32, .rwl, 0, 0⟩]⟩,
  ⟨0xF00000C, 1, 1, 1, 1, [⟨0, 1, .rwl, 0, 0⟩]⟩,
  ⟨0xF000010, 12, 4, 1, 1, [⟨0, 32, .rwl, 0, 0⟩]⟩,
  ⟨0xF000040, 1, 1, 1, 1, [⟨0, 7, .ro, 0, 0⟩, ⟨7, 1, .ro, 0, 0⟩, ⟨8, 1, .ro, 0, 0⟩]⟩,
  ⟨0xF000044, 1, 1, 1, 1, [⟨0, 1, .wo, 0, 0⟩, ⟨8, 8, .wo, 0, 0⟩]⟩,
  ⟨0xF000048, 1, 1, 1, 1, [⟨0, 1, .w1s, 0, 0⟩]⟩,
  ⟨0xF000050, 1, 1, 1, 1, [⟨0, 18, .rwl, 0, 0⟩]⟩,
  ⟨0xF000054, 1, 1, 1, 1, [⟨0, 18, .rwl, 0, 0⟩]⟩,
  ⟨0xF000058, 1, 1, 1, 1, [⟨0, 18, .rwl, 0, 0⟩]⟩,
  ⟨0xF00005C, 1, 1, 1, 1, [⟨0, 18, .rwl, 0, 0⟩]⟩]

/-- The registers of block BOOT, part 1. -/
def regDefsBOOT1 : List RegDef := [
  ⟨0xF000060, 1, 1, 1, 1, [⟨0, 16, .rwl, 0, 0⟩, ⟨16, 8, .rwl, 0, 0⟩]⟩,
  ⟨0xF000064, 1, 1, 1, 1, [⟨0, 1, .ro, 0, 0⟩, ⟨1, 1, .w1c, 0, 8⟩, ⟨8, 8, .ro, 0, 0⟩]⟩,
  ⟨0xF000068, 1, 1, 1, 1, [⟨0, 32, .ro, 0, 0⟩]⟩,
  ⟨0xF00006C, 1, 1, 1, 1, [⟨0, 32, .ro, 0, 0⟩]⟩,
  ⟨0xF000080, 1, 1, 1, 1, [⟨0, 8, .rw, 0, 0⟩, ⟨8, 9, .rw, 0, 0⟩, ⟨17, 1, .rw, 0, 0⟩, ⟨18, 1, .wo, 0, 0⟩, ⟨19, 1, .ro, 0, 0⟩, ⟨20, 1, .w1c, 0, 0⟩]⟩,
  ⟨0xF000084, 1, 1, 1, 1, [⟨0, 32, .rw, 0, 0⟩]⟩,
  ⟨0xF000100, 13, 4, 1, 1, [⟨0, 32, .ro, 0, 0⟩]⟩,
  ⟨0xF001000, 64, 4, 1, 1, [⟨0, 32, .rw, 0, 0⟩]⟩]

/-- The registers of block BOOT. -/
def regDefsBOOT : List RegDef := regDefsBOOT0 ++ regDefsBOOT1

/-- The registers of the block that holds a register-space address (bits [27:24]). -/
def regDefsOf (blk : Nat) : List RegDef :=
  match blk with
  | 0 => regDefsGLOBAL
  | 1 => regDefsTIME
  | 2 => regDefsQMGR
  | 3 => regDefsMOVER
  | 4 => regDefsSIEVE
  | 5 => regDefsVEIN
  | 6 => regDefsFH
  | 7 => regDefsHOST
  | 8 => regDefsPWR
  | 9 => regDefsCAL
  | 10 => regDefsMEM
  | 11 => regDefsCORR
  | 12 => regDefsMILL
  | 13 => regDefsPERF
  | 14 => regDefsTWIN
  | 15 => regDefsBOOT
  | _ => []

/-- Whether `a` is an address of the family. -/
def RegDef.has (d : RegDef) (a : Nat) : Bool :=
  decide (d.base ≤ a) &&
  decide ((a - d.base) / d.s1 < d.n1) &&
  decide ((a - d.base) % d.s1 / d.s2 < d.n2) &&
  decide ((a - d.base) % d.s1 % d.s2 = 0)

/-- Whether an address lies where the 64 channels that mover complexes 0 to 7 do not have would be (R246): reserved (R5). -/
def noChannel (a : Nat) : Bool :=
  decide (0x3000000 ≤ a) && decide (a < 0x3080000) && decide (0x2000 ≤ a % 0x10000) && decide (a % 0x10000 < 0x3000)

/-- The register at an address, `none` at a reserved offset (R5). -/
def regDefAt (a : Nat) : Option RegDef :=
  if noChannel a then none else (regDefsOf (a / 2 ^ 24)).find? (fun d => d.has a)

end Sys2Proof.Machine
end

