-- ==== Sys2Proof/Machine/SMap.lean ====
section
/-!
DEFINITION. Sparse maps: lists of (key, value) pairs in one canonical form, keys strictly rising and no entry equal to
the default. They hold the registers, the memories and every family of like units. A key that is not listed reads
as the default that the reader names.
-/

namespace Sys2Proof.Machine

/-- The value at a key, if one is listed. -/
def mapFind? {α : Type} : List (Nat × α) → Nat → Option α
  | [], _ => none
  | (k, v) :: m, x => if k = x then some v else mapFind? m x

/-- The value at a key, or the default. -/
def mapGet {α : Type} (m : List (Nat × α)) (d : α) (x : Nat) : α :=
  (mapFind? m x).getD d

/-- The map without a key. -/
def mapErase {α : Type} : List (Nat × α) → Nat → List (Nat × α)
  | [], _ => []
  | (k, v) :: m, x => if k = x then mapErase m x else (k, v) :: mapErase m x

/-- A pair put before the first larger key. -/
def mapPut {α : Type} : List (Nat × α) → Nat → α → List (Nat × α)
  | [], x, y => [(x, y)]
  | (k, v) :: m, x, y => if x < k then (x, y) :: (k, v) :: m else (k, v) :: mapPut m x y

/-- The map with `y` listed at `x`. -/
def mapIns {α : Type} (m : List (Nat × α)) (x : Nat) (y : α) : List (Nat × α) :=
  mapPut (mapErase m x) x y

/-- The map that reads `y` at `x` where unlisted keys read `d`: an entry equal to the default is not kept. -/
def mapSet {α : Type} [DecidableEq α] (m : List (Nat × α)) (d : α) (x : Nat) (y : α) : List (Nat × α) :=
  if y = d then mapErase m x else mapIns m x y

/-- Keys strictly rising, all of them at least `lo`. -/
def mapSorted {α : Type} : Nat → List (Nat × α) → Bool
  | _, [] => true
  | lo, (k, _) :: m => decide (lo ≤ k) && mapSorted (k + 1) m

/-- The canonical form of a map whose unlisted keys have no value. -/
def mapWf {α : Type} (m : List (Nat × α)) : Bool := mapSorted 0 m

/-- No entry equal to its default. -/
def mapNoDefault {α : Type} [DecidableEq α] (d : Nat → α) (m : List (Nat × α)) : Bool :=
  m.all (fun e => decide (e.2 ≠ d e.1))

/-- A number put into a strictly rising list. -/
def setIns : List Nat → Nat → List Nat
  | [], x => [x]
  | k :: m, x => if x < k then x :: k :: m else if x = k then k :: m else k :: setIns m x

/-- A number taken out of a list. -/
def setErase (m : List Nat) (x : Nat) : List Nat := m.filter (fun k => k ≠ x)

end Sys2Proof.Machine
end

