-- ==== Sys2Proof/Machine/State.lean ====
section
/-!
DEFINITION. The state of the device as plain data. Memory-mapped registers are one sparse map from device addresses to
32-bit words (`regs`): a register that is not listed reads its reset value (R7, `regReset`). State that no register
holds, or that registers show only through a window, has its own fields, grouped by the block that owns it. INVENTORY.md
lists every piece with the rule that names it.
-/

namespace Sys2Proof.Machine

/-! ## Outputs and reports -/

/-- The requests of R335 toward host memory: CXL.cache reads and writes, CXL.io reads and writes. -/
inductive HostReq where
  | rdCurr
  | rdShared
  | rdOwn
  | rdOwnNoData
  | woWrInvF
  | woWrInv
  | mRd
  | mWr
  deriving DecidableEq, Repr

/-- What the block sends to the outside: the model's own trace of it, oldest first. -/
inductive Out where
  /-- A message of an MSI-X vector (R332). -/
  | msix (vector : Nat) (addr : BitVec 64) (data : Word)
  /-- A SYSREF output (pins 0 to 7) or 1PPS output (pins 8 and 9) changes level (R54). -/
  | pin (pin : Nat) (high : Bool)
  /-- A frame, FCS included, has crossed the PCS of a port (R311) and leaves on its lanes: the lanes in the order in which they
  carry it (TX_REV of R322), each with whether its data is inverted (TX_INV of R318). -/
  | frame (port : Nat) (bytes : List Byte) (lanes : List (Nat × Bool))
  /-- What a lane with LOOP = 3 sends back: a received frame (R320). -/
  | echo (port : Nat) (bytes : List Byte)
  /-- A lane's generator sends a pattern, by the code of GEN, or stops (R319). -/
  | pattern (lane code : Nat)
  /-- The transmit FFE of a lane that clause 72 training has set, or none in force any more (R302). -/
  | ffe (lane : Nat) (setting : Option Word)
  /-- C16 samples that a JESD204C link sends for a channel (R316). -/
  | samples (link channel : Nat) (l : List Word)
  /-- The frequency of SYNCE_CLKOUT in Hz, 0 while it is driven low (R64). -/
  | synce (hz : Nat)
  /-- A transmitted bit of a lane is inverted (R319). -/
  | inject (lane : Nat)
  /-- A frame leaves on the twin link (R429). -/
  | twin (f : TwinFrame)
  /-- The answer to a read from outside (BAR0, BAR2, BAR4, HDM window, I2C, JTAG). -/
  | readData (bytes : List Byte) (ok : Bool)
  /-- The twin token line of the device is driven low, or released (R431). -/
  | token (low : Bool)
  /-- A rail is switched on or off (R378). -/
  | rail (r : Nat) (on : Bool)
  /-- A voltage, in mV, is written over AVSBus (R372). -/
  | avs (r mv : Nat)
  /-- An output pin is parked at high impedance, or drives again (R425). -/
  | park (pin : Nat) (parked : Bool)
  /-- A command goes to the boot flash (R346). -/
  | flash (opcode addr len : Nat) (data : List Byte)
  /-- The return of a snooped modified line of the device cache (R342). -/
  | snoopData (line : Nat) (bytes : List Byte)
  /-- A back-invalidate snoop of a window line: BISnpInv, or BISnpData (R340). -/
  | biSnp (line : Nat) (inv : Bool)
  /-- A request to the host for a line of its memory (R335). -/
  | hostReq (kind : HostReq) (line : Nat)
  /-- A write of BAR0 that fails is reported to the host as an unsupported request (R328). -/
  | unsupported
  deriving DecidableEq, Repr

/-- A fault report on its way to the keystone (R409, R410). -/
structure Report where
  stamp  : Word
  kind   : Nat
  index  : Nat
  code   : Nat
  action : Nat
  init   : Nat
  sub    : Nat
  addr   : Nat
  data0  : Nat
  data1  : Nat
  deriving DecidableEq, Repr

/-! ## Time (02) -/

/-- The live comparator of a compare unit (R47, R48). `val` is the 32.32 compare value, or in SYMBOL mode the anchor;
`sym` the index of the next symbol; `prev` the test of R47 on the last tick; `due` that it has met an instant not yet
acted on, `stamp` the TB0 value of that tick. -/
structure CmpLive where
  mode   : Nat
  tb     : Nat
  sympat : Nat
  val    : BitVec 64
  per    : BitVec 64
  sym    : Nat
  prev   : Bool
  due    : Bool
  late   : Bool
  stamp  : Word
  deriving DecidableEq, Repr

/-- The live comparator of an unarmed unit. -/
def CmpLive.reset : CmpLive := ⟨0, 0, 0, 0, 0, 0, false, false, false, 0⟩

/-- An entry of a transmit timestamp FIFO (R62). -/
structure TxTs where
  ns   : Word
  frac : BitVec 16
  seq  : BitVec 16
  typ  : BitVec 4
  deriving DecidableEq, Repr

/-- The epoch a port uses (R63). -/
structure Epoch where
  sec : BitVec 48
  tb  : Word
  deriving DecidableEq, Repr

/-- State of the TIME block that no register holds. -/
structure TimeSt where
  /-- The 8 unreadable bits below each timebase's fraction (R31). -/
  sub     : List (Nat × BitVec 8)
  /-- The step each timebase has latched: nanoseconds and fraction (R37). -/
  latch   : List (Nat × (Word × Word))
  /-- The live comparators (R48). -/
  cmp     : List (Nat × CmpLive)
  /-- The pulses in progress, by 16 times the unit plus the pin: the pin and the ticks left (R54). -/
  pulse   : List (Nat × (Nat × Nat))
  /-- The transmit timestamp FIFOs, head first (R62). -/
  txts    : List (Nat × List TxTs)
  /-- The committed epochs (R63). -/
  epoch   : List (Nat × Epoch)
  /-- Whether the selected reference is good (R34, R35). -/
  refGood : Bool
  /-- The polarity (inverted or not) of each 1PPS input's last valid period (R426). -/
  ppsLast : List (Nat × Bool)
  /-- Ticks of the timebase clock, on which R416 counts its windows. -/
  ticks   : Nat
  deriving DecidableEq, Repr

/-! ## Signal cores (04, 05, 06) -/

/-- What a core does when it is not held in core reset (`GLOBAL_CORE_HELD` says whether it is). -/
inductive CoreRun where
  /-- Executes instructions. -/
  | running
  /-- Waits in TDISPATCH (R212). -/
  | waiting
  /-- Stopped by a double trap (R109). -/
  | stopped
  /-- Halted by BRK for JTAG debug access (R110). -/
  | halted
  deriving DecidableEq, Repr

/-- A run-ahead episode (R94 to R97): run-ahead registers, INV marks, pc and store buffer. The architectural state of the
core is not touched by it, so it is its own checkpoint. -/
structure RunAhead where
  txn     : BitVec 12
  gran    : Nat
  g       : List (Nat × DWord)
  inv     : List Nat
  pc      : BitVec 16
  count   : Nat
  stopped : Bool
  sbuf    : List (Nat × Option Byte)
  deriving DecidableEq, Repr

/-- An entry of the prefetch buffer (R96): granule, the request in flight, its data once returned. -/
structure PfEntry where
  gran : Nat
  txn  : BitVec 12
  data : Option (List Byte)
  deriving DecidableEq, Repr

/-- A deferred error of a retired store or ILV operation (R102, R138, R152). -/
structure Deferred where
  code : Nat
  sub  : Nat
  addr : BitVec 40
  deriving DecidableEq, Repr

/-- A result of CORR (0), LFSR (1) or DEMAP (2) on its way to its register (R141): the register is a g register or a
vector register; `sat` says that computing it clamped. -/
structure FusedRes where
  unit : Nat
  vec  : Bool
  reg  : Nat
  val  : BitVec 4096
  sat  : Bool
  deriving DecidableEq, Repr

/-- An ILV operation with the operands and configuration latched at retirement (R142, R149, R151). -/
structure IlvOp where
  func : Nat
  llr  : Bool
  dst  : Nat
  src  : Nat
  e    : Nat
  k0   : Nat
  ncb  : Nat
  fst  : Nat
  fcnt : Nat
  qm   : Nat
  deriving DecidableEq, Repr

/-- One signal core (R84, R85, R115, R140). -/
structure Core where
  /-- g1 to g31; g0 is never listed. -/
  g        : List (Nat × DWord)
  /-- Poisoned registers, each with the address of the load that brought the poison (R112). -/
  pois     : List (Nat × BitVec 40)
  /-- Registers waiting for a load or an atomic, each with the request's transaction ID (scoreboard, R91). -/
  pend     : List (Nat × BitVec 12)
  pc       : BitVec 16
  run      : CoreRun
  /-- Control registers by number (R113); an unlisted one holds its reset value. -/
  cr       : List (Nat × DWord)
  /-- v0 to v31. -/
  v        : List (Nat × BitVec 4096)
  /-- m0 to m7. -/
  m        : List (Nat × BitVec 512)
  deferred : List Deferred
  /-- The lost-fault counter of R102. -/
  lost     : Nat
  ra       : Option RunAhead
  pf       : List PfEntry
  fres     : List FusedRes
  /-- The running ILV operation and the pending one (R151). -/
  ilv      : List IlvOp
  /-- The g register that a waiting TDISPATCH writes (R212). -/
  waitRd   : Nat
  /-- Instructions performed since core reset, to take squashed ones out of the retirement count (R442). -/
  done     : Nat
  /-- The other counted events of instructions since core reset, by their place in R444, for the same purpose (R98). -/
  tally    : List (Nat × Nat)
  /-- LFSR instructions that change LFSR state, since core reset (R154). -/
  lfsrs    : Nat
  deriving DecidableEq, Repr

/-- A core as core reset leaves it (R114), without its FU_CTRL.IMG_DIS bits. -/
def Core.reset : Core where
  g := []
  pois := []
  pend := []
  pc := 0
  run := .running
  cr := []
  v := []
  m := []
  deferred := []
  lost := 0
  ra := none
  pf := []
  fres := []
  ilv := []
  waitRd := 0
  done := 0
  tally := []
  lfsrs := 0

/-- A scalar load or atomic whose answer has not come (R91, R106): the core as it stood before the instruction, to which a
failing answer returns it, and that failing answer while older ones are still awaited. -/
structure Snap where
  core : Nat
  txn  : BitVec 12
  addr : BitVec 40
  snap : Core
  err  : Option Nat
  deriving DecidableEq, Repr

/-! ## Fabric and memory (11, 12) -/

/-- What the initiator does with the answer to a request. -/
inductive ReqKind where
  /-- A scalar load into a g register: size in bytes, sign extension (R88). -/
  | load (rd size : Nat) (signed : Bool)
  /-- A core's store (R100). -/
  | store
  /-- An atomic: the register that receives the old value (R88). -/
  | atom (rd : Nat)
  /-- A run-ahead prefetch of a granule (R96). -/
  | prefetch
  /-- A fault record as a posted write: its SEQ, CODE and ACTION (R413). -/
  | faultRec (seq : Word) (code action : Nat)
  /-- A counter snapshot record as a posted write (R450). -/
  | dumpRec
  /-- A token notice or free notice awaiting its TOKACK (R228). -/
  | notice (token : BitVec 15) (node : Nat) (free : Bool)
  /-- Any other request, whose answer only ends it. -/
  | other
  deriving DecidableEq, Repr

/-- A request that its initiator's NI holds as outstanding (R278). -/
structure Req where
  init : BitVec 12
  txn  : BitVec 12
  echo : BitVec 24
  op   : BitVec 4
  addr : BitVec 40
  len  : Nat
  kind : ReqKind
  deriving DecidableEq, Repr

/-- What a stop holds beside its router (R279, R280). -/
structure StopSt where
  closed  : Bool
  drained : Bool
  posted  : BitVec 16
  other   : BitVec 16
  deriving DecidableEq, Repr

/-- An open stop that has dropped nothing. -/
def StopSt.reset : StopSt := ⟨false, false, 0, 0⟩

/-- Repair state of a macro (R291, R292). -/
structure MacroSt where
  rows    : Nat
  cols    : Nat
  fenced  : Bool
  fuseBad : Bool
  deriving DecidableEq, Repr

/-- A macro that needed no repair. -/
def MacroSt.reset : MacroSt := ⟨0, 0, false, false⟩

/-! ## Host port (14) -/

/-- State of the host port that no register of the device holds. `hdm` is the host physical base of the committed HDM
decoder; `l1` the link's L1 of Standby; `aspm` that the host enables ASPM L1, `idleL1` that the idle link is in it (R344);
`dc` the lines of the device cache, each with whether it is owned and modified (else shared), and `dcMem` their bytes;
`snoop` the tracked lines (device address div 64); `biWait` accesses that wait for a back-invalidate response; `reqs`
device requests that wait for the host's answer; `msiHold` notifications of a vector, each with the writes before it at
the HOST stop that are not completed (R333); `msiDrop` that R326 has reset the vectors and the host has not enabled
them since (R332). -/
structure HostSt where
  busMaster : Bool
  fnMask    : Bool
  hdm       : Option Nat
  memActive : Bool
  l1        : Bool
  aspm      : Bool
  idleL1    : Bool
  dc        : List (Nat × Bool)
  dcMem     : List Host.Cell
  snoop     : List Nat
  biWait    : List (Nat × Packet)
  reqs      : List Packet
  msiHold   : List (Nat × List (BitVec 12 × BitVec 12))
  ideIo     : Bool
  ideCm     : Bool
  msiDrop   : Bool
  deriving DecidableEq, Repr

/-- The port after power-on reset, the link down (R326, R344). -/
def HostSt.reset : HostSt := ⟨false, false, none, false, false, false, false, [], [], [], [], [], [], false, false, false⟩

/-! ## Power (16) -/

/-- What a die's P-level sequencer waits for (R372): its clocks on the way down, VDone on the way down, VDone on the way up,
the 10 µs after it, its clocks on the way up. -/
inductive StepKind where
  | clkDown
  | vDown
  | vUp
  | settle
  | clkUp
  deriving DecidableEq, Repr

/-- What a sleep entry or exit waits for (R387 to R390): the device cache's flush, the compute dies' bridges to drain, VDone
of VDD_H on the way down, the host link, VDone of VDD_H on the way up, the compute rails, the retention banks, the
reload. -/
inductive SleepPhase where
  | none
  | flush
  | drain
  | hubDown
  | link
  | hubUp
  | rails
  | banks
  | reload
  deriving DecidableEq, Repr

/-- State of the power sequencer that no register holds. -/
structure PwrSt where
  /-- The device is in Dormant: the timebases hold (R41, R382). -/
  dormant  : Bool
  /-- Steps in progress by die, each toward a level (R372). -/
  steps    : List (Nat × (StepKind × Nat))
  /-- Rails whose power-good is asserted (R378). -/
  good     : List Nat
  /-- Rails the device has switched off (R378). -/
  railOff  : List Nat
  /-- A sleep request that awaits its commit cycle: true for Dormant (R383). -/
  req      : Option Bool
  /-- The entry in progress goes on to Dormant (R390). -/
  deep     : Bool
  phase    : SleepPhase
  /-- Stops whose drain has been given up (R381). -/
  forced   : List Nat
  /-- Druses on their way off, and on (R381). -/
  draining : List Nat
  settling : List Nat
  /-- The hub die is at 0.65 V and 1.00 GHz (R377). -/
  hubLow   : Bool
  /-- A wake event to deliver at Live (R385, R392). -/
  wakeDue  : Bool
  deriving DecidableEq, Repr

/-- The sequencer at reset. -/
def PwrSt.reset : PwrSt := ⟨false, [], [], [], none, false, .none, [], [], [], false, false⟩

/-! ## Queues, tokens, sieves and movers (09, 10) -/

/-- The state of a queue (R233, R236, R243, R245). `toAdmit` counts entries of accepted doorbells not yet admitted;
`closing` says that a written EN = 0 waits for them; `taken` that a TAKE has delivered the entry at HEAD. `marks` holds,
for entry counters from HEAD to TAIL, what the queue manager knows beside the metadata in memory: `none` for an entry
admitted void whose mark could not be written (R238), `some t` for one that QMGR_TOK_CNT counts under token `t` (R242). -/
structure QState where
  base      : Nat
  meta_     : Nat
  esize     : Nat
  dlog      : Nat
  en        : Bool
  tokq      : Bool
  highEvt   : Bool
  lowEvt    : Bool
  highMsi   : Bool
  lowMsi    : Bool
  ns        : Bool
  tail      : Nat
  vector    : Nat
  head      : Nat
  level     : Bool
  start     : Nat
  stop      : Nat
  high      : Nat
  low       : Nat
  eventId   : Nat
  strata    : Nat
  toAdmit     : Nat
  closing   : Bool
  taken     : Bool
  marks     : List (Nat × Option Nat)
  deriving DecidableEq, Repr

/-- A queue as control memory is cleared (R287), with DLOG at its reset value. -/
def QState.reset : QState where
  base := 0
  meta_ := 0
  esize := 0
  dlog := 4
  en := false
  tokq := false
  highEvt := false
  lowEvt := false
  highMsi := false
  lowMsi := false
  ns := false
  tail := 0
  vector := 0
  head := 0
  level := false
  start := 0
  stop := 0
  high := 0
  low := 0
  eventId := 0
  strata := 0
  toAdmit := 0
  closing := false
  taken := false
  marks := []

/-- The states of a thread (R209). -/
inductive ThreadState where
  | free
  | ready
  | running
  | waiting
  deriving DecidableEq, Repr

/-- A thread of a sieve (R209, R232): its wake information is what the next TDISPATCH writes. -/
structure Thread where
  state  : ThreadState
  prio   : Nat
  ctx    : BitVec 40
  druse  : Option Nat
  tok    : Option (BitVec 15)
  ev     : BitVec 16
  reason : Nat
  evTok  : Option (BitVec 15)
  data   : Word
  stamp  : Word
  deriving DecidableEq, Repr

/-- A FREE slot. -/
def Thread.free : Thread := ⟨.free, 0, 0, none, none, 0, 0, none, 0, 0⟩

/-- The states of an item (R223). -/
inductive ItemState where
  | admitted
  | released
  | void
  deriving DecidableEq, Repr

/-- An item of a flow (R222); `sqAt` the tick in which a squash of its token made it VOID (R231). -/
structure Item where
  state   : ItemState
  druse   : Nat
  tok     : Option (BitVec 15)
  payload : DWord
  sqAt    : Option Nat
  deriving DecidableEq, Repr

/-- An ordered flow: its configuration, the sequence number at the head, the items from there on, and whether the head's
stall event has been raised (R222 to R225). -/
structure Flow where
  outq    : Nat
  en      : Bool
  age     : Nat
  head    : BitVec 16
  items   : List Item
  stalled : Bool
  deriving DecidableEq, Repr

/-- A flow at reset. -/
def Flow.reset : Flow := ⟨0, false, 0, 0, [], false⟩

/-- The states of a token (R226), encoded as R217 gives. -/
inductive TokState where
  | free
  | open_
  | committed
  | squashed
  deriving DecidableEq, Repr

/-- A token of a sieve: state, SETTLED, owner, acknowledgements of the last notice, and whether that was a free notice
(R226 to R229). -/
structure Tok where
  state   : TokState
  settled : Bool
  owner   : Nat
  acks    : Nat
  freeN   : Bool
  deriving DecidableEq, Repr

/-- A token that was never opened. -/
def Tok.reset : Tok := ⟨.free, false, 0, 0, false⟩

/-- A sieve: threads, the READY threads in the order they entered READY, the WAITING ones in the order they began to wait,
the pending bits, the waiting TDISPATCH requests in order of arrival, flows, tokens (R209 to R226), whether it gates
its stratum's clock (R221), and the exits that R213 counts, for which R443 names no event. -/
structure Sieve where
  threads : List (Nat × Thread)
  ready   : List Nat
  waitq   : List Nat
  pend    : List Nat
  asking  : List Nat
  flows   : List (Nat × Flow)
  toks    : List (Nat × Tok)
  gated   : Bool
  exits   : Nat
  deriving DecidableEq, Repr

/-- A sieve at reset. -/
def Sieve.reset : Sieve := ⟨[], [], [], [], [], [], [], false, 0⟩

/-- What a channel's present descriptor waits for. -/
inductive ChPhase where
  /-- No descriptor. -/
  | none
  /-- Its fetch. -/
  | fetch
  /-- The answer to its last write (R250). -/
  | moved
  /-- Room in its queue for the push of R254. -/
  | push
  /-- The answers to the writes already issued, after a failure: direction, response, failing address (R257). -/
  | failed (write : Bool) (resp addr : Nat)
  /-- Pacing or an eMark (R253, R255). -/
  | held
  deriving DecidableEq, Repr

/-- State of a mover channel that its registers do not hold: the present descriptor's 32 bytes, what it waits for, the
pacing state (RUN or PAUSE), whether its token was squashed while it moved, and whether a MARK_SKIP action goes on with a
format error. -/
structure Chan where
  phase  : ChPhase
  desc   : List Byte
  pace   : Bool
  squash : Bool
  stamps : List Word
  deriving DecidableEq, Repr

/-- An idle channel. -/
def Chan.reset : Chan := ⟨.none, [], false, false, []⟩

/-- A TOKACK that a receiver owes: the receiver (R227) and the notice. -/
structure Owed where
  recv   : Nat
  notice : Packet
  deriving DecidableEq, Repr

/-! ## Fuses (12, 15, 17) -/

/-- What the fuses hold: the serial number, the 48-byte hash of the image key (empty where none is fused), the rollback
count (R360), the repair map with its faulty macros (R291, R292), the fused value of each calibration item (R399). -/
structure FuseSt where
  serial   : DWord
  key      : List Byte
  rollback : Nat
  macros   : List (Nat × MacroSt)
  cal      : List (Nat × BitVec 10)
  deriving DecidableEq, Repr

/-- Blank fuses. -/
def FuseSt.blank : FuseSt := ⟨0, [], 0, [], []⟩

/-! ## Mills (07) -/

/-- What a job's header will say (R174), once its last result write has been answered. -/
structure MillRes where
  status : Nat
  fresp  : Nat
  iter   : Nat
  pcOk   : Bool
  crcOk  : Bool
  crcV   : Bool
  et     : Bool
  unsat  : Nat
  outLen : Nat
  metric : Nat
  tStart : Word
  tEnd   : Word
  deriving DecidableEq, Repr

/-- A job of a mill, held or running: its descriptor; the queue it came from and its place in the order in which the mill took
its jobs (R162); whether it has set STALL; the input and auxiliary bytes read at its
start; its start stamp; abort points passed; bytes of results written and components saturated so far; a discard notice
that awaits an abort point; and, past its final point or ended with a header, what the header says. -/
structure MillJob where
  desc    : List Byte
  qid     : Nat
  seq     : Nat
  stalled : Bool
  inp     : List Byte
  aux     : List Byte
  tStart  : Word
  points  : Nat
  wrote   : Nat
  sat     : Nat
  flush   : Bool
  res     : Option MillRes
  deriving DecidableEq, Repr

/-- A mill: its holding slots, its engines' jobs by engine number (bits of MILL_ENG_EN0, then 32 on for MILL_ENG_EN1), the
slot that last started a job, and the jobs taken so far (R162). -/
structure MillSt where
  held : List (Nat × MillJob)
  run  : List (Nat × MillJob)
  last : Nat
  took : Nat
  deriving DecidableEq, Repr

/-- A mill at reset. -/
def MillSt.reset : MillSt := ⟨[], [], 15, 0⟩

/-! ## Corridor engine (08) -/

/-- A write of an amendment to a table word (R367): the word's key, the bits it writes, their values, and the stamp of the
amendment's admission (R183). -/
structure Amendment where
  key   : Nat
  mask  : Word
  val   : Word
  stamp : Word
  deriving DecidableEq, Repr

/-- The corridor tables (R187) by word: table * 2^24 + entry * 32 + word; the amendments' writes that wait for step 1 of a
tick (R183, R367); and, by word with a mask, the earlier values of the fields that an amendment has changed under a pending
membership change, by which membership goes on until the tick after that change completes (R206). -/
structure CorrSt where
  tbl  : List (Nat × Word)
  pend : List Amendment
  held : List (Nat × (Word × Word))
  deriving DecidableEq, Repr

/-! ## Fronthaul (13) -/

/-- The descriptor a transmit ring is at, taken and not yet ended: its 32 bytes, the frame to send, whether its first byte has
been sent (R310 to R312), and whether a change of loopback or a parked driver has cut the frame on its lanes (R320, R322). -/
structure PortTx where
  desc    : List Byte
  frame   : List Byte
  sending : Bool
  cut     : Bool
  deriving DecidableEq, Repr

/-- A sample ring of a JESD channel (R316): base, log of its samples, next sample index, limit, and whether an underrun has
been counted since the limit last moved. -/
structure JesdRing where
  base  : Nat
  slog  : Nat
  pos   : Nat
  lim   : Nat
  under : Bool
  deriving DecidableEq, Repr

/-- A ring at reset. -/
def JesdRing.reset : JesdRing := ⟨0, 10, 0, 0, false⟩

/-- State of a JESD link that its registers do not hold (R315, R316): the instant that set its LEMC phase, whether the
transmitter runs, extended multiblocks received, of the entry in the making the multiblocks so far, sample index and
stamp, entries not yet pushed (sample index, stamp, count), and its rings by channel, transmit rings from 16 on. -/
structure JesdSt where
  phase : Option (BitVec 64)
  tx    : Bool
  count : Word
  since : Nat
  idx   : Nat
  start : Word
  due   : List (Nat × (Word × Word))
  rings : List (Nat × JesdRing)
  deriving DecidableEq, Repr

/-- A link at reset. -/
def JesdSt.reset : JesdSt := ⟨none, false, 0, 0, 0, 0, [], []⟩

/-- State of the fronthaul block that no register holds: descriptors in hand by port, the receive word boundary of each lane
in bits from where its receiver first put it (R321), the JESD links; the transmit FFE that clause 72 training has set on lane 40
until the link next drops (R302); the map of the twin link's lanes, laid out as FH_PORT_LMAP (R322). -/
structure FhSt where
  tx    : List (Nat × PortTx)
  slip  : List (Nat × Nat)
  jesd  : List (Nat × JesdSt)
  train : Option Word
  tmap  : BitVec 24
  deriving DecidableEq, Repr

/-! ## Keystone and faults (18) -/

/-- State of the keystone and of the environmental fault logic that no register holds: whether it is fenced (R421, R422); the
timebase tick of its last pulse; fenced druses (R416, R292); druses that their next fault fences, and recent restart
ticks by druse (R416); druses under restart with the cores to release (R415); dies isolated by their sentinels (R422);
isolated dies whose rail is to go off (R418); parked output pins (R425); dies with halved clocks, droop trip ticks by die
and the tick of the last DROOP record (R428); dies at or above 115 °C (R428); records that wait
for the fault ring to be enabled (R424). -/
structure KsSt where
  off      : Bool
  pulse    : Nat
  fenced   : List Nat
  limited  : List Nat
  restarts : List (Nat × List Nat)
  release  : List (Nat × List Nat)
  sentIso  : List Nat
  railDue  : List Nat
  parked   : List Nat
  halved   : List Nat
  trips    : List (Nat × List Nat)
  droopAt  : List (Nat × Nat)
  hot      : List Nat
  first    : List Report
  deriving DecidableEq, Repr

/-- The keystone at reset. -/
def KsSt.reset : KsSt := ⟨false, 0, [], [], [], [], [], [], [], [], [], [], [], []⟩

/-! ## Twin link (18) -/

/-- State of the twin logic that no register holds: own token line driven low; a claim awaiting its sample; the peer's line
low; an ABDICATE frame not yet answered by a claim; heartbeat loss declared; SEQ of the last valid heartbeat, its T_TX and
arrival stamp; the servo's integrator and the heartbeats in a row within 8 ns (R435); SEQ of the next STATE frame. -/
structure TwinSt where
  line     : Bool
  claiming : Bool
  peerLow  : Bool
  abd      : Bool
  lost     : Bool
  last     : Option (BitVec 16)
  ptx      : Word
  prx      : Word
  integ    : DWord
  run      : Nat
  stSeq    : BitVec 16
  deriving DecidableEq, Repr

/-- The twin logic at reset. -/
def TwinSt.reset : TwinSt := ⟨false, false, false, false, false, none, 0, 0, 0, 0, 0⟩

/-! ## Cells and management (15) -/

/-- A completion that waits for its queue: whether the command came from FWQ, its 16 bytes, its TAG (R361, R366). -/
structure MgmtCpl where
  fw    : Bool
  bytes : List Byte
  tag   : Nat
  deriving DecidableEq, Repr

/-- The 64-byte descriptors by cell (R354), the completion that waits, whether FWQ was served last, and whether the
management queues are open (R359, R361). -/
structure MgmtSt where
  desc  : List (Nat × List Byte)
  cpl   : Option MgmtCpl
  turn  : Bool
  open_ : Bool
  deriving DecidableEq, Repr

/-! ## Start (15) -/

/-- State of the boot controller that no register holds: the digest of pass 1 and the header of the copy in use (R348, R355);
the cores it has loaded; whether the start is a warm one (R358); the rollback count being programmed (R360); the phase
whose work is in progress, which BOOT_STAT.PHASE shows but for copy B's phases 0 to 4, where it shows 5 (R355). -/
structure BootSt where
  digest : List Byte
  hdr    : List Byte
  cores  : List Nat
  warm   : Bool
  adv    : Nat
  work   : Nat
  deriving DecidableEq, Repr

/-! ## Calibration and counter dumps (17, 19) -/

/-- State of calibration that no register holds: by die under run, how many of its items have been measured (R403); dies
whose lack of a temperature has been reported (R396). -/
structure CalSt where
  done   : List (Nat × Nat)
  noTemp : List Nat
  deriving DecidableEq, Repr

/-- State of the dump engine (R450): the sequence number of the next dump; the first counter of the next record;
counters left to record. -/
structure DumpSt where
  seq  : BitVec 8
  at_  : Nat
  left : Nat
  deriving DecidableEq, Repr

/-- The device. -/
structure State where
  /-- The commands that wait, first in, first out. -/
  pending  : List Instr
  /-- Registers that do not hold their reset value. -/
  regs     : List (Nat × Word)
  /-- The data and instruction memories, by device address: only bytes that have been written since power came. -/
  mem      : List Host.Cell
  /-- Listed bytes whose parity fails (R285, R286). -/
  badPar   : List Nat
  /-- Host memory as the device sees it, by host physical address: only bytes known. -/
  hostMem  : List Host.Cell
  /-- The counter that free values are applied to: the model's own. -/
  freeCtr  : Nat
  /-- What has been sent out: the model's own trace. -/
  out      : List Out
  /-- The fault report buffer (R409), oldest first. -/
  reports  : List Report
  /-- The SEQ of the next record (R413). -/
  frNext   : Word
  /-- The counters (R439). -/
  perf     : List (Nat × BitVec 48)
  /-- Latched high parts and stamps: keyed by initiator * 2048 + counter (R446). -/
  perfHi   : List (Nat × BitVec 16)
  /-- The stamp of each initiator's last LO read (R446). -/
  perfAt   : List (Nat × Word)
  time     : TimeSt
  cores    : List (Nat × Core)
  /-- Loads and atomics whose answers have not come, each core's in program order. -/
  snaps    : List Snap
  /-- FU_CTRL.IMG_DIS of each core, from the image (R143, R157). -/
  imgDis   : List (Nat × BitVec 4)
  /-- Packets in flight, in the order sent. -/
  flight   : List Packet
  /-- Outstanding requests. -/
  outst    : List Req
  /-- Transaction IDs that timed out and are still reserved: initiator and ID (R278). -/
  resIds   : List (BitVec 12 × BitVec 12)
  /-- Requests that wait at their NI for a free transaction ID, oldest first (R266, R278). -/
  idWait   : List (Req × Packet)
  stops    : List (Nat × StopSt)
  /-- Route table entries that are not the default: keyed by NI * 256 + destination (R275). -/
  routes   : List (Nat × BitVec 7)
  macros   : List (Nat × MacroSt)
  /-- The granule each patrol engine reads next: macro index and granule (R288). -/
  patrol   : List (Nat × (Nat × Nat))
  /-- Retention banks whose armed sentinel has tripped (R293). -/
  tripped  : List Nat
  /-- The hold level code with which each armed sentinel was armed (R401). -/
  retHold  : List (Nat × Nat)
  host     : HostSt
  pwr      : PwrSt
  queues   : List (Nat × QState)
  /-- QMGR_TOK_CNT of each token (R242). -/
  tokCnt   : List (Nat × Nat)
  /-- The token mirrors: receiver * 32768 + token; an unlisted one holds OPEN (R216, R227, R229). -/
  mirrors  : List (Nat × TokState)
  sieves   : List (Nat × Sieve)
  /-- Mover channels: complex * 128 + channel. -/
  chans    : List (Nat × Chan)
  /-- Notices that movers and mills acknowledge once their work has passed (R227). -/
  owed     : List Owed
  fuse     : FuseSt
  /-- Words of control memory whose check bits show an error: macro * 8192 + 64-bit word, with 1 for a single-bit and 2
  for a double-bit error (R287). -/
  ctlErr   : List (Nat × Nat)
  mills    : List (Nat × MillSt)
  corr     : CorrSt
  fh       : FhSt
  ks       : KsSt
  twin     : TwinSt
  mgmt     : MgmtSt
  boot     : BootSt
  cal      : CalSt
  dump     : DumpSt
  deriving DecidableEq, Repr

/-- Why the device model stops with a fault. -/
inductive Fault where
  /-- Raised by every command that names a unit by number, when the specification gives the device no unit of that
  number (a mover complex above 8, a lane above 40). Safe: the hardware has no such command. -/
  | noSuchUnit
  deriving DecidableEq, Repr

/-- Why a command has no meaning in the model. -/
inductive Refusal where
  /-- Raised by the dispatch for a row that has no meaning yet. Safe: nothing is concluded about it. -/
  | notModelled (mnemonic : String)
  deriving DecidableEq, Repr

/-- The device right after power-on reset (R7, R70, R32, R114): every register at its reset value, memory unwritten,
every queue of the model empty. Fuses are blank and straps read 0 (DESIGN CHOICE, log entry 1). -/
def State.reset : State where
  pending := []
  regs := []
  mem := []
  badPar := []
  hostMem := []
  freeCtr := 0
  out := []
  reports := []
  frNext := 0
  perf := []
  perfHi := []
  perfAt := []
  time := ⟨[], [], [], [], [], [], true, [], 0⟩
  cores := []
  snaps := []
  imgDis := []
  flight := []
  outst := []
  resIds := []
  idWait := []
  stops := []
  routes := []
  macros := []
  patrol := []
  tripped := []
  retHold := []
  host := HostSt.reset
  pwr := PwrSt.reset
  queues := []
  tokCnt := []
  mirrors := []
  sieves := []
  chans := []
  owed := []
  fuse := FuseSt.blank
  ctlErr := []
  mills := []
  corr := ⟨[], [], []⟩
  fh := ⟨[], [], [], none, 0xFAC688⟩
  ks := KsSt.reset
  twin := TwinSt.reset
  mgmt := ⟨[], none, false, false⟩
  boot := ⟨[], [], [], false, 0, 0⟩
  cal := ⟨[], []⟩
  dump := ⟨0, 0, 0⟩

end Sys2Proof.Machine
end

