-- ==== Sys2Proof/Machine/Ops.lean ====
section
/-!
DEFINITION. The named operations over registers, counters, fault reports, packets and memory that every command's
meaning is written with. Reading functions and state-changing functions are kept apart: a state-changing function
takes the state last and answers a state.
-/

namespace Sys2Proof.Machine

/-! ## Registers (R1 to R7) -/

/-- The word a list of field values makes. -/
def fieldsWord (l : List (FieldDef)) : Word :=
  l.foldl (fun w f => w ||| (BitVec.ofNat 32 (f.reset % 2 ^ f.w) <<< f.lo)) 0

/-- The reset value of a register (R7). The timebase, mover and rail registers whose reset value depends on the
unit are set apart (02, 10, 16). -/
def regReset (a : Nat) : Word :=
  if a = R.TIME_TB_CFG 0 then 0xB
  else if a = R.MOVER_INFO 8 then 128
  else if R.PWR_RAIL_CFG 0 ≤ a && a ≤ R.PWR_RAIL_CFG 4 then BitVec.ofNat 32 ((a - R.PWR_RAIL_CFG 0) / 4)
  else match regDefAt a with
    | some d => fieldsWord d.fields
    | none => 0

/-- The stored value of a register. -/
def State.reg (s : State) (a : Nat) : Word := mapGet s.regs (regReset a) a

/-- A register takes a value. -/
def State.setReg (s : State) (a : Nat) (v : Word) : State :=
  { s with regs := mapSet s.regs (regReset a) a v }

/-- The bits of a field, as a mask of the word. -/
def RF.mask (f : RF) : Word := BitVec.ofNat 32 (2 ^ f.w - 1) <<< f.lo

/-- A field of a word. -/
def fieldOf (v : Word) (f : RF) : Nat := (v.toNat >>> f.lo) % 2 ^ f.w

/-- A word with one field replaced. -/
def withField (v : Word) (f : RF) (x : Nat) : Word :=
  (v &&& ~~~ f.mask) ||| (BitVec.ofNat 32 (x % 2 ^ f.w) <<< f.lo)

/-- The value of a field. -/
def State.get (s : State) (f : RF) : Nat := fieldOf (s.reg f.a) f

/-- Whether a one-bit field is 1. -/
def State.on (s : State) (f : RF) : Bool := s.get f = 1

/-- A field takes a value. -/
def State.put (s : State) (f : RF) (x : Nat) : State :=
  s.setReg f.a (withField (s.reg f.a) f x)

/-- One bit of a field. -/
def State.bit (s : State) (f : RF) (i : Nat) : Bool := (s.get f).testBit i

/-- One bit of a field takes a value. -/
def State.putBit (s : State) (f : RF) (i : Nat) (b : Bool) : State :=
  if b then s.put f (s.get f ||| 2 ^ i) else s.put f (s.get f &&& (2 ^ f.w - 1 - 2 ^ i % 2 ^ f.w))

/-- TB0 now: every stamp's value (R9, R42). -/
def State.now (s : State) : Word := s.reg (R.TIME_TB_NS 0)

/-! ## Small records -/

/-- A number as `n` little-endian bytes. -/
def toBytes (n x : Nat) : List Byte := (List.range n).map (fun i => BitVec.ofNat 8 (x >>> (8 * i)))

/-- The number that little-endian bytes hold. -/
def ofBytes (l : List Byte) : Nat := l.foldr (fun b x => b.toNat + 256 * x) 0

/-- `n` bytes of a list from offset `o`, zero-filled past its end. -/
def slice (l : List Byte) (o n : Nat) : List Byte := (List.range n).map (fun i => l.getD (o + i) 0)

/-- The little-endian number in `n` bytes of a list from offset `o`. -/
def fieldAt (l : List Byte) (o n : Nat) : Nat := ofBytes (slice l o n)

/-- Bits [hi:lo] of a number. -/
def bitsOf (x hi lo : Nat) : Nat := (x >>> lo) % 2 ^ (hi + 1 - lo)

/-- A signed number of `w` bits read from a number. -/
def sgn (w x : Nat) : Int := (BitVec.ofNat w x).toInt

/-- The lowest number below `n` that a test accepts. -/
def lowestFrom (n : Nat) (p : Nat → Bool) : Option Nat := (List.range n).find? p

/-! ## Counters (R439) -/

/-- Counter `i` counts `n` more, modulo 2^48. -/
def State.count (s : State) (i n : Nat) : State :=
  { s with perf := mapSet s.perf 0 i (mapGet s.perf 0 i + BitVec.ofNat 48 n) }

/-! ## Fault reports (R409) -/

/-- A block reports a fault: the report joins the 64-entry buffer with the stamp of its detection, or meets it full and
is lost (R409). -/
def State.report (s : State) (r : Report) : State :=
  if s.reports.length < 64 then
    { (s.count 1161 1) with reports := (s.count 1161 1).reports ++ [{ r with stamp := s.now }] }
  else ((s.count 1161 1).count 1162 1).put F.GLOBAL_FR_LOST_LOST (min (2 ^ 32 - 1) (s.get F.GLOBAL_FR_LOST_LOST + 1))

/-- Whether a die is isolated, by the keystone or its sentinel (R418, R422). -/
def State.dieIso (s : State) (n : Nat) : Bool := !s.bit F.GLOBAL_UNIT_AVAIL_DIES n || s.ks.sentIso.contains n

/-- A report of a code on a unit, with no access behind it. -/
def mkReport (kind index code action : Nat) : Report :=
  { stamp := 0, kind := kind, index := index, code := code, action := action, init := 0xFFF, sub := 0, addr := 0,
    data0 := 0, data1 := 0 }

/-- The oldest report leaves the buffer. -/
def State.popReport (s : State) : State := { s with reports := s.reports.tail }

/-! ## Output -/

/-- Something goes out. -/
def State.emit (s : State) (o : Out) : State := { s with out := s.out ++ [o] }

/-! ## Stops and nodes (R260 to R262) -/

/-- The node of a stop of the spine. -/
def nodeSpine (pos : Nat) : Nat := 128 + pos
/-- The node of a druse's stop (R260). -/
def nodeDruse (d : Nat) : Nat := 32 * (d / 8) + (if d % 8 < 4 then 1 + d % 8 else 4 + d % 8)
/-- The node of a stratum's stop. -/
def nodeStratum (t : Nat) : Nat := 32 * (t / 2) + (if t % 2 = 0 then 5 else 7)
/-- The node of a mill's stop. -/
def nodeMill (n : Nat) : Nat := 32 * n + 6
/-- The node of bridge stop `b` of die `n`, on its die ring. -/
def nodeBridge (n b : Nat) : Nat := 32 * n + 12 * b
/-- The node of bridge stop `b` of die `n`, on the spine (R261). -/
def nodeBridgeSpine (n b : Nat) : Nat := nodeSpine (if b = 0 then 1 + 2 * n else 11 + 2 * n)
/-- The stop of the AON agents: keystone, boot controller, GLOBAL, PWR and BOOT. -/
def nodeAon : Nat := nodeSpine 14
/-- The stop of the registers without a stop of their own. -/
def nodeRegs : Nat := nodeSpine 16

/-- Whether a node ID names a stop (R262). -/
def nodeValid (n : Nat) : Bool :=
  if n / 32 < 4 then n % 32 < 13 else n / 32 = 4 && n % 32 < 18

/-- Whether a node ID names a stop with a network interface: every stop but the bridges (R260, R261). -/
def nodeHasNi (n : Nat) : Bool :=
  if n / 32 < 4 then 0 < n % 32 && n % 32 < 12
  else n / 32 = 4 && n % 32 < 18 && !([1, 3, 5, 7, 11, 13, 15, 17].contains (n % 32))

/-- Ring of a node. -/
def ringOf (n : Nat) : Nat := n / 32
/-- Position of a node on its ring. -/
def posOf (n : Nat) : Nat := n % 32

/-- The stop of an initiator (R83, R260, R261). -/
def nodeOfInit (i : Nat) : Nat :=
  if i < 0x100 then nodeDruse (i / 8)
  else if i < 0x108 then nodeStratum (i - 0x100)
  else if i = 0x108 then nodeSpine 6
  else if 0x110 ≤ i && i < 0x114 then nodeMill (i - 0x110)
  else if 0x118 ≤ i && i < 0x120 then nodeStratum (i - 0x118)
  else if i = 0x120 then nodeSpine 4
  else if i = 0x121 then nodeSpine 8
  else if i = 0x122 || i = 0x123 || i = 0x124 then nodeSpine 9
  else if i = 0x130 then nodeSpine 0
  else if i = 0x133 || i = 0xFFF then nodeRegs
  else nodeAon

/-- Where a device address lies (R78, R79). -/
inductive Tgt where
  | reg (off : Nat)
  | core (c off : Nat)
  | druse (d off : Nat)
  | strat (t off : Nat)
  | hub (off : Nat)
  | host
  | nowhere
  deriving DecidableEq, Repr

/-- The row of R78 that an address falls into. -/
def tgtOf (a : Nat) : Tgt :=
  if a < 0x10000000 then .reg a
  else if 0x100000000 ≤ a && a < 0x108000000 then .core ((a - 0x100000000) / 0x80000) ((a - 0x100000000) % 0x80000)
  else if 0x200000000 ≤ a && a < 0x208000000 then .druse ((a - 0x200000000) / 0x400000) ((a - 0x200000000) % 0x400000)
  else if 0x300000000 ≤ a && a < 0x304000000 then .strat ((a - 0x300000000) / 0x800000) ((a - 0x300000000) % 0x800000)
  else if 0x400000000 ≤ a && a < 0x402000000 then .hub (a - 0x400000000)
  else if 0x8000000000 ≤ a && a < 0x10000000000 then .host
  else .nowhere

/-- The first address of a core's window (R78). -/
def coreWin (c : Nat) : Nat := 0x100000000 + c * 0x80000
/-- The first address of a druse's window. -/
def druseWin (d : Nat) : Nat := 0x200000000 + d * 0x400000
/-- The first address of a stratum buffer's window. -/
def stratWin (t : Nat) : Nat := 0x300000000 + t * 0x800000
/-- The first address of the hub buffers. -/
def hubWin : Nat := 0x400000000

/-- The stop that holds a block of register space (R261, R262). -/
def nodeOfReg (off : Nat) : Nat :=
  match off / 2 ^ 24 with
  | 0 => nodeAon
  | 1 => nodeSpine 12
  | 2 => nodeSpine 4
  | 3 => if off / 2 ^ 16 % 256 < 8 then nodeStratum (off / 2 ^ 16 % 256)
         else if off / 2 ^ 16 % 256 = 8 then nodeSpine 6 else nodeRegs
  | 4 => if off % 2 ^ 24 / 0x40000 < 8 then nodeStratum (off % 2 ^ 24 / 0x40000) else nodeRegs
  | 5 => nodeRegs
  | 6 => nodeSpine 9
  | 7 => nodeSpine 0
  | 8 => nodeAon
  | 9 => nodeRegs
  | 10 => nodeRegs
  | 11 => nodeSpine 8
  | 12 => if off % 2 ^ 24 / 0x100000 < 4 then nodeMill (off % 2 ^ 24 / 0x100000) else nodeRegs
  | 13 => nodeRegs
  | 14 => nodeSpine 9
  | _ => nodeAon

/-- The destination stop of an address, where one exists (R262). -/
def nodeOfAddr (a : Nat) : Option Nat :=
  match tgtOf a with
  | .reg off => some (nodeOfReg off)
  | .core c _ => some (nodeDruse (c / 8))
  | .druse d _ => some (nodeDruse d)
  | .strat t _ => some (nodeStratum t)
  | .hub off => some (nodeSpine (if off < 0x1000000 then 2 else 10))
  | .host => some (nodeSpine 0)
  | .nowhere => none

/-! ## Response codes (R277) -/

/-- Performed. -/
def rDone : Nat := 0
/-- Read data includes a poisoned word. -/
def rPoison : Nat := 1
/-- No target at the address. -/
def rNoTarget : Nat := 2
/-- The stop is closed. -/
def rDomainOff : Nat := 3
/-- The initiator's timer expired. -/
def rTimeout : Nat := 4
/-- The access is not permitted. -/
def rRights : Nat := 5
/-- Control memory with an uncorrectable error. -/
def rParity : Nat := 6

/-! ## Routes (R275, R276) -/

/-- Whether going up from `p` to `q` on a ring of `n` stops is the shorter way, ties included. -/
def shorterUp (n p q : Nat) : Bool := (q + n - p) % n ≤ (p + n - q) % n

/-- The default entry of the route table of NI `src` for `dst` (R275): bits VALID, SDIR, XBR, PDIR, EBR, DDIR, VC. -/
def defaultRoute (src dst : Nat) : BitVec 7 :=
  if !nodeValid dst then 0
  else
    let rs := ringOf src
    let rd := ringOf dst
    if rs = rd then
      if rs < 4 then 1 ||| (if shorterUp 13 (posOf src) (posOf dst) then 0 else 2)
      else 1 ||| (if shorterUp 18 (posOf src) (posOf dst) then 0 else 8)
    else
      let xbr := if posOf src ≤ 6 then 0 else 1
      let ebr := if posOf dst ≤ 6 then 0 else 1
      let ps := if rs < 4 then posOf (nodeBridgeSpine rs xbr) else posOf src
      let pd := if rd < 4 then posOf (nodeBridgeSpine rd ebr) else posOf dst
      let sdir : BitVec 7 := if rs < 4 && xbr = 0 then 2 else 0
      let xb : BitVec 7 := if rs < 4 && xbr = 1 then 4 else 0
      let pdir : BitVec 7 := if shorterUp 18 ps pd then 0 else 8
      let eb : BitVec 7 := if rd < 4 && ebr = 1 then 16 else 0
      let ddir : BitVec 7 := if rd < 4 && ebr = 1 then 32 else 0
      1 ||| sdir ||| xb ||| pdir ||| eb ||| ddir

/-- The entry of the route table of NI `src` for `dst`. -/
def State.route (s : State) (src dst : Nat) : BitVec 7 := mapGet s.routes (defaultRoute src dst) (src * 256 + dst)

/-- Whether a packet is a response (R264). -/
def pktIsRsp (p : Packet) : Bool := [4, 5, 9, 10].contains p.op.toNat

/-- Whether a packet is of the control class (R264): an atomic is not, an access to register space is, and a read response is
of its request's class, which its virtual channel shows. -/
def pktCtl (p : Packet) : Bool :=
  match p.op.toNat with
  | 3 => false
  | 4 => decide (2 ≤ p.vc.toNat)
  | 0 => decide (tgtOf p.addr.toNat = .reg p.addr.toNat)
  | 1 => decide (tgtOf p.addr.toNat = .reg p.addr.toNat)
  | 2 => decide (tgtOf p.addr.toNat = .reg p.addr.toNat)
  | _ => true

/-- Whether every router finds a packet's parity good: HPAR fits the header, and in the control class the payload's parity
holds (R269). -/
def pktParityOk (p : Packet) : Bool := decide (p.hparGot = p.hpar) && (!pktCtl p || decide (p.pperr = 0))

/-- The stop that injected a packet: its initiator's; of a response, event or eMark the one it names. -/
def pktFrom (p : Packet) : Nat :=
  if pktIsRsp p || [6, 7].contains p.op.toNat then p.src.toNat else nodeOfInit p.init.toNat

/-- The stop of the TIME block. -/
def nodeTime : Nat := nodeSpine 12

/-- The state of a stop. -/
def State.stop (s : State) (n : Nat) : StopSt := mapGet s.stops StopSt.reset n

/-- A stop's state is replaced. -/
def State.setStop (s : State) (n : Nat) (x : StopSt) : State := { s with stops := mapSet s.stops StopSt.reset n x }

/-- The route that a packet follows: of the table in the data class, of the default routes in the control class with
ADAPT_EN = 0 (R273, R275). -/
def State.routeOf (s : State) (ctl : Bool) (src dst : Nat) : BitVec 7 := if ctl then defaultRoute src dst else s.route src dst

/-- The bridge of die `n` that a packet takes where its route names bridge `b`: a control-class packet with ADAPT_EN = 1 either
bridge, as free exit space decides (R273); the die's other bridge where VEIN_BRIDGE_DIS disables the one chosen (R276). -/
def State.bridgeOf (s : State) (ctl : Bool) (n : Nat) (b : Bool) : Nat :=
  let x : Bool := if ctl && s.on F.VEIN_CTRL_ADAPT_EN then
      Config.adaptiveBridge s.freeCtr s.time.ticks (n + 8 * s.flight.length) else b
  let k := if x then 1 else 0
  if s.bit F.VEIN_BRIDGE_DIS_DIS (2 * n + k) then 1 - k else k

/-- The entry bridge that a packet from `src` takes into the die of `dst`: the route's EBR. -/
def State.entryBridge (s : State) (ctl : Bool) (src dst : Nat) : Nat :=
  s.bridgeOf ctl (ringOf dst) ((s.routeOf ctl src dst).getLsbD 4)

/-- The exit bridge that a packet from stop `src` takes out of its die: the route's XBR. -/
def State.exitBridge (s : State) (ctl : Bool) (src dst : Nat) : Nat :=
  s.bridgeOf ctl (ringOf src) ((s.routeOf ctl src dst).getLsbD 2)

/-- Whether a leg of a ring of `n` stops from `p` to `q`, decreasing or not, crosses the dateline between its last position and
0 (R270). -/
def crossesDateline (down : Bool) (p q : Nat) : Bool := if down then decide (p < q) else decide (q < p)

/-- ROUTE and the bridges of a data-class packet (R275): the entry's directions and bridges; a bridge that is disabled gives way
to its die's other one with the default directions toward and from it (R276). -/
def State.dataRoute (s : State) (src dst : Nat) : BitVec 5 × BitVec 2 :=
  let e := s.route src dst
  let far := decide (ringOf src ≠ ringOf dst)
  let xb := s.exitBridge false src dst
  let eb := s.entryBridge false src dst
  let swapX := far && decide (ringOf src < 4) && decide (xb ≠ (if e.getLsbD 2 then 1 else 0))
  let swapE := far && decide (ringOf dst < 4) && decide (eb ≠ (if e.getLsbD 4 then 1 else 0))
  let ps := if ringOf src < 4 then posOf (nodeBridgeSpine (ringOf src) xb) else posOf src
  let pd := posOf (nodeBridgeSpine (ringOf dst) eb)
  let sdir := if swapX then decide (xb = 0) else e.getLsbD 1
  let pdir := if swapE then !shorterUp 18 ps pd else e.getLsbD 3
  let ddir := if swapE then decide (eb = 1) else e.getLsbD 5
  let b (x : Bool) (n : Nat) : Nat := if x then 2 ^ n else 0
  (BitVec.ofNat 5 (b sdir 0 + b (decide (xb = 1)) 1 + b pdir 2 + b (decide (eb = 1)) 3 + b ddir 4),
    BitVec.ofNat 2 (b (decide (xb = 1)) 0 + b (decide (eb = 1)) 1))

/-- The virtual channel on which a data-class packet enters its first ring: D1 where the route's entry names it and that leg
does not cross the dateline, else D0 (R270, R275). -/
def State.dataVc (s : State) (src dst : Nat) (r : BitVec 5) : BitVec 2 :=
  let die := decide (ringOf src < 4)
  let down := if die then r.getLsbD 0 else r.getLsbD 2
  let leave := if ringOf src = ringOf dst then posOf dst
    else if die then posOf (nodeBridge (ringOf src) (if r.getLsbD 1 then 1 else 0))
    else posOf (nodeBridgeSpine (ringOf dst) (if r.getLsbD 3 then 1 else 0))
  if (s.route src dst).getLsbD 6 && !crossesDateline down (posOf src) leave then 1 else 0

/-- The stops on a packet's way at which a close is met, in order: the bridges of its source's and of its destination's die that
it is committed to, and the destination. -/
def wayStops (src dst : Nat) (way : BitVec 2) : List Nat :=
  let xb := if way.getLsbD 0 then 1 else 0
  let eb := if way.getLsbD 1 then 1 else 0
  (if ringOf src = ringOf dst then []
   else
    (if ringOf src < 4 then [nodeBridge (ringOf src) xb, nodeBridgeSpine (ringOf src) xb] else []) ++
    (if ringOf dst < 4 then [nodeBridgeSpine (ringOf dst) eb, nodeBridge (ringOf dst) eb] else [])) ++ [dst]

/-- The stops on a packet's way. -/
def pktStops (p : Packet) : List Nat := wayStops (pktFrom p) p.dst.toNat p.way

/-- Whether an outstanding request goes to the registers of a stop. -/
def reqToStop (n : Nat) (r : Req) : Bool :=
  decide (r.op.toNat ≤ 3) && (match tgtOf r.addr.toNat with
    | .reg off => decide (nodeOfReg off = n)
    | _ => false)

/-- Whether the NI still holds a control-class request: an earlier one of the same initiator to the same stop has not been
answered, nor its timer expired (R274, R278). No event, eMark, notice or response is held. -/
def State.heldAtNi (s : State) (p : Packet) : Bool :=
  decide (p.op.toNat ≤ 2) && pktCtl p && s.outst.any (fun r => decide (r.init = p.init) && decide (r.txn = p.txn)) &&
  (s.outst.takeWhile (fun r => !(decide (r.init = p.init) && decide (r.txn = p.txn)))).any
    (fun r => decide (r.init = p.init) && reqToStop p.dst.toNat r)

/-- Whether a stop that closes had reserved exit space for packet `i` of those in flight (R272, R279): surely where it leaves its
first ring there, else freely; not for one that its NI still holds. -/
def State.reserved (s : State) (node i : Nat) (p : Packet) : Bool :=
  !(s.stop node).closed && (pktStops p).contains node && !s.heldAtNi p &&
  (decide ((pktStops p).head? = some node) || Config.admitted s.freeCtr node i)

/-- The closed stop that a packet meets, if any: one that had not admitted it before it closed (R279). -/
def State.closedStop (s : State) (p : Packet) : Option Nat := (pktStops p).find? (fun n => (s.stop n).closed && !p.adm.contains n)

/-- Whether bridge `b` of die `n` is closed on either side. -/
def State.bridgeClosed (s : State) (n b : Nat) : Bool :=
  (s.stop (nodeBridgeSpine n b)).closed || (s.stop (nodeBridge n b)).closed

/-- Whether a request from stop `src` meets a closed stop on its way to `dst`: the stop itself, or a bridge of the source's
or the destination's die on either side (R279). -/
def State.closedOnWay (s : State) (ctl : Bool) (src dst : Nat) : Bool :=
  (s.stop dst).closed ||
  (decide (ringOf src ≠ ringOf dst) &&
    ((decide (ringOf dst < 4) && s.bridgeClosed (ringOf dst) (s.entryBridge ctl src dst)) ||
     (decide (ringOf src < 4) && s.bridgeClosed (ringOf src) (s.exitBridge ctl src dst))))

/-! ## Packets in flight -/

/-- What the source NI makes of a packet at injection: its stamp, virtual channel, route and the bridges it is committed to
(R266, R273, R275). -/
def State.inject (s : State) (p : Packet) : Packet :=
  let src := pktFrom p
  let dst := p.dst.toNat
  if pktCtl p then
    { p with
      stamp := s.now.truncate 24
      vc := 2
      route := 0
      way := BitVec.ofNat 2 (s.exitBridge true src dst % 2 + s.entryBridge true src dst % 2 * 2)
      src := BitVec.ofNat 8 src }
  else
    { p with
      stamp := s.now.truncate 24
      vc := s.dataVc src dst (s.dataRoute src dst).1
      route := (s.dataRoute src dst).1
      way := (s.dataRoute src dst).2
      src := BitVec.ofNat 8 src }

/-- A packet enters the fabric. -/
def State.send (s : State) (p : Packet) : State := { s with flight := s.flight ++ [s.inject p] }

/-- A packet leaves the fabric: the first one in flight that equals it. -/
def State.arrive (s : State) (p : Packet) : State := { s with flight := s.flight.erase p }

/-- The event packets of one event from a stop: one to the sieve of each stratum in the mask (R214, R266). -/
def State.sendEventFrom (s : State) (src : Nat) (init : BitVec 12) (strata eventId word : Nat) (tok : Option (BitVec 15)) : State :=
  (List.range 8).foldl (fun s t =>
    if strata.testBit t then
      s.send { Packet.zero with
        op := 6, dst := BitVec.ofNat 8 (nodeStratum t), init := init, src := BitVec.ofNat 8 src,
        eventId := BitVec.ofNat 16 eventId, token := tok.getD 0, tokV := tok.isSome,
        data := toBytes 4 word ++ toBytes 4 s.now.toNat }
    else s) s

/-- The event packets of an agent with an initiator number. -/
def State.sendEvent (s : State) (init strata eventId word : Nat) (tok : Option (BitVec 15)) : State :=
  s.sendEventFrom (nodeOfInit init) (BitVec.ofNat 12 init) strata eventId word tok

/-- An eMark packet of the TIME block to a channel of a mover complex (R53, R255). -/
def State.sendEmark (s : State) (k ch word : Nat) : State :=
  s.send { Packet.zero with
    op := 7, dst := BitVec.ofNat 8 (if k < 8 then nodeStratum k else nodeSpine 6), init := Config.timeInit,
    src := BitVec.ofNat 8 nodeTime,
    channel := BitVec.ofNat 7 ch, data := toBytes 4 word ++ toBytes 4 s.now.toNat }

/-- Whether an initiator has `n` transaction IDs that it neither has outstanding nor holds reserved (R266, R278): without one it
sends no request. -/
def State.idsFree (s : State) (init n : Nat) : Bool :=
  decide ((s.outst.filter (fun r => r.init.toNat = init)).length + (s.resIds.filter (fun r => r.1.toNat = init)).length + n ≤ 4096)

/-- The lowest transaction ID that an initiator neither has outstanding nor holds reserved (R266, R278). -/
def State.freeTxn (s : State) (init : Nat) : BitVec 12 :=
  BitVec.ofNat 12 ((lowestFrom 4096 (fun t =>
    !(s.outst.any (fun r => r.init.toNat = init && r.txn.toNat = t)) &&
    !(s.resIds.any (fun r => r.1.toNat = init && r.2.toNat = t)))).getD 0)

/-- A request leaves its NI under a free transaction ID, and is outstanding from then on. -/
def State.launchNow (s : State) (r : Req) (p : Packet) : State :=
  let t := s.freeTxn r.init.toNat
  { s with outst := s.outst ++ [{ r with
      txn := t
      echo := s.now.truncate 24 }] }.send { p with txn := t }

/-- A request leaves its NI, or waits there for a transaction ID (R266, R278). -/
def State.launch (s : State) (r : Req) (p : Packet) : State :=
  if s.idsFree r.init.toNat 1 then s.launchNow r p else { s with idWait := s.idWait ++ [(r, p)] }

/-- A transaction ID of an initiator has become free: the first request that waits for one leaves. -/
def State.wakeId (s : State) (init : BitVec 12) : State :=
  match s.idWait.find? (fun e => e.1.init = init) with
  | some e => if s.idsFree init.toNat 1 then { s with idWait := s.idWait.erase e }.launchNow e.1 e.2 else s
  | none => s

/-- An initiator sends a request and holds it outstanding (R278). A request whose address decodes to no stop, or whose
route entry has VALID = 0, is not sent: the NI answers it NO_TARGET (R276). -/
def State.request (s : State) (init op addr len : Nat) (atomfn : BitVec 3) (spec : Bool) (data : List Byte)
    (poison : BitVec 32) (kind : ReqKind) : State :=
  let r : Req := ⟨BitVec.ofNat 12 init, 0, 0, BitVec.ofNat 4 op, BitVec.ofNat 40 addr, len, kind⟩
  let sendable := match nodeOfAddr addr with
    | some d => (s.route (nodeOfInit init) d).getLsbD 0
    | none => false
  if sendable then
    s.launch r { Packet.zero with
      op := BitVec.ofNat 4 op, dst := BitVec.ofNat 8 ((nodeOfAddr addr).getD 0), init := BitVec.ofNat 12 init,
      spec := spec, addr := BitVec.ofNat 40 addr, len := BitVec.ofNat 8 (len - 1), atomfn := atomfn,
      data := data, poison := poison }
  else
    (s.count 726 1).launch r { Packet.zero with
      op := if op = 1 || op = 2 then 5 else 4, dst := BitVec.ofNat 8 (nodeOfInit init), init := BitVec.ofNat 12 init,
      resp := BitVec.ofNat 3 rNoTarget, echo := s.now.truncate 24, src := BitVec.ofNat 8 (nodeOfInit init), vc := 2 }

/-- The posted writes of fault records and counter snapshots (R265): a WRP that waits for its DLVD. -/
def State.postWrite (s : State) (init addr : Nat) (data : List Byte) (kind : ReqKind) : State :=
  s.request init 2 addr data.length 0 false data 0 kind

/-! ## Data memory (R282 to R286) -/

/-- The macro that holds an address of a data memory (R283). -/
def macroOf (a : Nat) : Nat :=
  match tgtOf a with
  | .core c off => if off < 0x40000 then 4 * c + off / 0x10000 else 1024 + c
  | .druse d off => 1280 + 32 * d + off / 0x10000
  | .strat t off => 2304 + 96 * t + off / 0x10000
  | .hub off => 3072 + off / 0x10000
  | _ => 0

/-- The class of a data memory for the memory counters (R443): core data, instruction, druse, stratum buffer, retention
bank, hub buffer. -/
def memClass (a : Nat) : Nat :=
  match tgtOf a with
  | .core _ off => if off < 0x40000 then 0 else 1
  | .druse _ _ => 2
  | .strat _ off => if off < 0x400000 then 3 else 4
  | _ => 5

/-- The retention bank that holds an offset of stratum `t`'s buffer (R283). -/
def bankOf (t off : Nat) : Option Nat := if off < 0x400000 then none else some (2 * t + (off - 0x400000) / 0x100000)

/-- The first address of a retention bank (R81). -/
def bankBase (b : Nat) : Nat := stratWin (b / 2) + 0x400000 + (b % 2) * 0x100000

/-- Repair state of a macro. -/
def State.macroSt (s : State) (m : Nat) : MacroSt := mapGet s.macros MacroSt.reset m

/-- Whether a core is held in core reset (GLOBAL_CORE_HELD). -/
def State.held (s : State) (c : Nat) : Bool := s.bit (F.GLOBAL_CORE_HELD_HELD (c / 32)) (c % 32)

/-- A core's hold bit is written. -/
def State.setHeld (s : State) (c : Nat) (b : Bool) : State := s.putBit (F.GLOBAL_CORE_HELD_HELD (c / 32)) (c % 32) b

/-- The state of a core. -/
def State.core (s : State) (c : Nat) : Core := mapGet s.cores Core.reset c

/-- A core's state is replaced. -/
def State.setCore (s : State) (c : Nat) (k : Core) : State := { s with cores := mapSet s.cores Core.reset c k }

/-- The value of a byte of memory: the stored one, or a free one where nothing has been written (R284). -/
def State.byteAt (s : State) (a : Nat) : Byte := (mapFind? s.mem a).getD (Config.unwrittenByte s.freeCtr a)

/-- Whether the parity of a byte fails: as stored, or free where nothing has been written (R284, R285). -/
def State.badAt (s : State) (a : Nat) : Bool :=
  if (mapFind? s.mem a).isSome then s.badPar.contains a
  else s.badPar.contains a || Config.unwrittenBad s.freeCtr a

/-- The bytes of a range. -/
def State.bytesAt (s : State) (a n : Nat) : List Byte := (List.range n).map (fun i => s.byteAt (a + i))

/-- The addresses of a range whose parity fails, lowest first. -/
def State.badIn (s : State) (a n : Nat) : List Nat := ((List.range n).map (a + ·)).filter s.badAt

/-- Whether the 64-bit word that holds an address is stored poison: all eight bytes fail (R285, R286). -/
def State.wordPoisoned (s : State) (a : Nat) : Bool := (List.range 8).all (fun i => s.badAt (8 * (a / 8) + i))

/-- Whether any byte of the word has never been written. -/
def State.wordUnwritten (s : State) (a : Nat) : Bool :=
  (List.range 8).any (fun i => (mapFind? s.mem (8 * (a / 8) + i)).isNone)

/-- The poison bits of a read response: bit `i` for word `i` of the 256-byte block (R268, R285). -/
def State.poisonIn (s : State) (a n : Nat) : BitVec 32 :=
  (s.badIn a n).foldl (fun w x => w ||| (1#32 <<< (x % 256 / 8))) 0

/-- The failing bytes of a read that belong to words that are not stored poison (R285). -/
def State.ordinaryBad (s : State) (a n : Nat) : List Nat := (s.badIn a n).filter (fun x => !s.wordPoisoned x)

/-- The failing bytes of a read that its record is made from (R285): none unless one of them belongs to a word that is not
stored poison; bytes of words not wholly written may or may not count (R284). -/
def State.recordedBad (s : State) (a n : Nat) : List Nat :=
  let l := if Config.unwrittenRecord s.freeCtr then s.badIn a n else (s.badIn a n).filter (fun x => !s.wordUnwritten x)
  if l.all s.wordPoisoned then [] else l

/-- What a read leaves behind (R285): nothing for a speculative read; one fault record, PAR_ERR and MEM_ERR_* for a
read that meets an ordinary parity error; a count for one that meets stored poison only. Unwritten bytes may or may
not make a record (R284). -/
def State.readNote (s : State) (init a n : Nat) (spec : Bool) : State :=
  if spec then s
  else match s.badIn a n with
    | [] => s
    | y :: _ =>
      if (s.ordinaryBad a n).isEmpty then s.count (734 + memClass y) 1
      else match s.recordedBad a n with
      | [] => s
      | x :: _ =>
        let s2 := (s.put F.MEM_STAT_PAR_ERR 1).put F.MEM_STAT_PAR_REP (min 255 (s.get F.MEM_STAT_PAR_REP + 1))
        let s3 := (s2.setReg R.MEM_ERR_ADDR_LO (BitVec.ofNat 32 x)).setReg R.MEM_ERR_ADDR_HI
          (BitVec.ofNat 32 (x / 2 ^ 32 % 256 + macroOf x * 256))
        (s3.count (728 + memClass x) 1).report
          { mkReport 6 (macroOf x) 0x08 0 with
            init := init, sub := rPoison, addr := x,
            data0 := (s2.reg R.MEM_STAT).toNat }

/-- The free values of unwritten bytes are new ones from now on. -/
def State.fresh (s : State) : State := { s with freeCtr := s.freeCtr + 1 }

/-- A read of memory as a whole: what it leaves behind, and new free values. -/
def State.readEffect (s : State) (init a n : Nat) (spec : Bool) : State := (s.readNote init a n spec).fresh

/-- A byte is written with good parity (R284). -/
def State.writeByte (s : State) (a : Nat) (b : Byte) : State :=
  { s with mem := mapIns s.mem a b, badPar := setErase s.badPar a }

/-- Bytes are written from an address on. -/
def State.writeBytes (s : State) (a : Nat) : List Byte → State
  | [] => s
  | b :: l => (s.writeByte a b).writeBytes (a + 1) l

/-- The eight parity bits of a word are inverted: stored poison (R286). -/
def State.poisonWord (s : State) (a : Nat) : State :=
  { s with badPar := (List.range 8).foldl (fun l i => setIns l (8 * (a / 8) + i)) s.badPar }

/-- A write of bytes whose packet marks 64-bit words as poisoned: those words become stored poison (R286). -/
def State.writePoison (s : State) (a : Nat) (l : List Byte) (poison : BitVec 32) : State :=
  (List.range 33).foldl (fun s i =>
      if poison.getLsbD i && decide (a / 256 * 256 + 8 * i < a + l.length) && decide (a < a / 256 * 256 + 8 * i + 8) then
        s.poisonWord (a / 256 * 256 + 8 * i) else s)
    (s.writeBytes a l)

/-- Memory loses power: every byte of a range is unwritten again and its parity undefined (R284). -/
def State.loseRange (s : State) (a n : Nat) : State :=
  { s with
    mem := s.mem.filter (fun c => decide (c.1 < a) || decide (a + n ≤ c.1))
    badPar := s.badPar.filter (fun x => decide (x < a) || decide (a + n ≤ x)) }

/-! ## Host memory (R334, R335, R342) -/

/-- The host range that a device address matches: the lowest-numbered (R334). -/
def State.hostRange (s : State) (a : Nat) : Option Nat :=
  lowestFrom 8 (fun r => s.on (F.HOST_RNG_BASE_EN r) && decide (s.get (F.HOST_RNG_BASE_BASE r) ≤ a / 2 ^ 20 % 2 ^ 19) &&
    decide (a / 2 ^ 20 % 2 ^ 19 ≤ s.get (F.HOST_RNG_LIMIT_LIMIT r)))

/-- The host physical address of a device address (R334). -/
def State.hpa? (s : State) (a : Nat) : Option Nat :=
  match s.hostRange a with
  | none => none
  | some r =>
    let h := s.get (F.HOST_RNG_HPA_HI_HPA_HI r) * 2 ^ 32 + s.get (F.HOST_RNG_HPA_LO_HPA r) * 2 ^ 20 +
      (a - 0x8000000000 - s.get (F.HOST_RNG_BASE_BASE r) * 2 ^ 20)
    if h < 2 ^ 52 then some h else none

/-- Whether an access to a device address may allocate in the device cache (R335, R342). -/
def State.hostCached (s : State) (a : Nat) (ns : Bool) : Bool :=
  !ns && s.on F.HOST_CTRL_DC_EN && !s.on F.HOST_STAT_DC_BUSY &&
  (match s.hostRange a with
   | some r => s.on (F.HOST_RNG_BASE_DC r)
   | none => false)

/-- Whether the device cache holds a line of host memory. -/
def State.dcHas (s : State) (h : Nat) : Bool := (mapFind? s.host.dc (h / 64)).isSome

/-- A byte of host memory as far as the device knows it, else the host's. -/
def State.hostKnown (s : State) (h : Nat) : Byte := (mapFind? s.hostMem h).getD (Config.hostByte s.freeCtr h)

/-- The latest globally visible value of a byte of host memory, which a coherent read returns (R336): what the host has stored
since, else what the device knows. -/
def State.hostVisible (s : State) (h : Nat) : Byte := (Config.hostStore s.freeCtr h).getD (s.hostKnown h)

/-- A byte that a No Snoop read returns: memory's, past the device cache and without what host caches hold (R335, R337). -/
def State.hostNs (s : State) (h : Nat) : Byte := (Config.hostStale s.freeCtr h).getD (s.hostKnown h)

/-- A byte that a coherent read returns: from the device cache where its line is held, else the host's memory's. -/
def State.hostByteAt (s : State) (h : Nat) : Byte :=
  match if s.dcHas h then mapFind? s.host.dcMem h else none with
  | some b => b
  | none => s.hostVisible h

/-- What goes to the host over the link: a request for a line; it takes an idle link out of L1 (R335, R344). -/
def State.hostAsk (s : State) (k : HostReq) (line : Nat) : State :=
  { (s.emit (.hostReq k line)) with host := { s.host with idleL1 := false } }

/-- A modified line is written back to host memory, and leaves the cache (R342). -/
def State.dcEvict (s : State) (line : Nat) : State :=
  let dirty := mapGet s.host.dc false line
  let own := s.host.dcMem.filter (fun c => c.1 / 64 = line)
  { s with
    hostMem := if dirty then own.foldl (fun m c => mapIns m c.1 c.2) s.hostMem else s.hostMem
    host := { s.host with dc := mapErase s.host.dc line, dcMem := s.host.dcMem.filter (fun c => c.1 / 64 ≠ line) } }

/-- The lines of the device cache in the set of a line. -/
def State.dcSetLines (s : State) (line : Nat) : List Nat :=
  (s.host.dc.map (fun e => e.1)).filter (fun x => Config.dcSet x % 2048 = Config.dcSet line % 2048)

/-- A line comes into the device cache; a full set of 16 ways gives up one of its lines first (R342). -/
def State.dcFetch (s : State) (line : Nat) : State :=
  if (mapFind? s.host.dc line).isSome then s.count 1124 1
  else
    let s1 := if s.host.dc.length < 16 || (s.dcSetLines line).length < 16 then s
      else (s.dcEvict ((s.dcSetLines line).getD (Config.dcVictim s.freeCtr line % 16) 0)).count 1126 1
    let s2 := s1.count 1125 1
    { s2 with host := { s2.host with
        dc := mapIns s2.host.dc line false,
        dcMem := (List.range 64).foldl (fun m i => mapIns m (64 * line + i) (s2.hostVisible (64 * line + i))) s2.host.dcMem } }

/-- How many lines of host memory a range touches. -/
def hostLines (h n : Nat) : Nat := if n = 0 then 0 else (h + n - 1) / 64 - h / 64 + 1

/-- The lines of host memory that a range touches. -/
def hostLinesOf (h n : Nat) : List Nat := (List.range (hostLines h n)).map (fun i => h / 64 + i)

/-- Whether a range holds a line whole. -/
def wholeLine (h n line : Nat) : Bool := decide (h ≤ 64 * line) && decide (64 * line + 64 ≤ h + n)

/-- What a coherent read asks the host for each line of a range (R335): nothing for a line that the device cache holds and the
access may use, RdShared for one to allocate, RdCurr past the cache; a No Snoop read asks with MRd. -/
def State.hostAskRead (s : State) (h n : Nat) (cached ns : Bool) : State :=
  (hostLinesOf h n).foldl (fun t x =>
    if cached then (if t.dcHas (64 * x) then t else t.hostAsk .rdShared x)
    else t.hostAsk (if ns then .mRd else .rdCurr) x) s

/-- What a write asks the host for each line of a range (R335): nothing for a line that the device cache owns, RdOwnNoData or
RdOwn for one that it must make owned, WOWrInvF or WOWrInv past the cache; a No Snoop write goes out with MWr. -/
def State.hostAskWrite (s : State) (h n : Nat) (cached ns : Bool) : State :=
  (hostLinesOf h n).foldl (fun t x =>
    if cached then
      (if mapGet t.host.dc false x then t else t.hostAsk (if wholeLine h n x then .rdOwnNoData else .rdOwn) x)
    else t.hostAsk (if ns then .mWr else if wholeLine h n x then .woWrInvF else .woWrInv) x) s

/-- A byte is written to host memory: in the device cache where the access allocates there, its line coming in with the first
byte of an access in it; past the cache over CXL.cache, whose line leaves the cache; over CXL.io into memory only (R335,
R337). -/
def State.hostWriteByte (s : State) (h : Nat) (b : Byte) (cached ns fetch : Bool) : State :=
  if cached then
    let s1 := if fetch then s.dcFetch (h / 64) else s
    { s1 with host := { s1.host with dc := mapIns s1.host.dc (h / 64) true, dcMem := mapIns s1.host.dcMem h b } }
  else
    let s1 := if !ns && s.dcHas h then s.dcEvict (h / 64) else s
    { s1 with hostMem := mapIns s1.hostMem h b }

/-- The rest of an access's bytes are written to host memory from a host physical address on. -/
def State.hostPutBytes (s : State) (h : Nat) (cached ns fetch : Bool) : List Byte → State
  | [] => s
  | b :: l => (s.hostWriteByte h b cached ns (fetch || decide (h % 64 = 0))).hostPutBytes (h + 1) cached ns false l

/-- Bytes are written to host memory from a host physical address on, through the device cache or past it over CXL.cache or,
with `ns`, CXL.io (R335). -/
def State.hostWriteBytes (s : State) (h : Nat) (cached ns : Bool) (l : List Byte) : State :=
  (if cached then s else s.count (if ns then 1120 else 1118) (hostLines h l.length)).hostPutBytes h cached ns true l

end Sys2Proof.Machine
end

