-- ==== Sys2Proof/Machine/Flags.lean ====
section
/-!
DEFINITION. Status flags of registers with their repeat counts (R4), and the generic write of a register field by
field under the access types of R3 with SEAL (R6) and the warm reset of R7.
-/

namespace Sys2Proof.Machine

/-- Hardware sets a flag that has no repeat count. -/
def State.flag (s : State) (f : RF) : State := s.put f 1

/-- Hardware sets a flag and adds `n` to its repeat count, which saturates at 255 (R4). -/
def State.flagRepN (s : State) (f rep : RF) (n : Nat) : State :=
  (s.put f 1).put rep (min 255 (s.get rep + n))

/-- Hardware sets a flag and its repeat count increments (R4). -/
def State.flagRep (s : State) (f rep : RF) : State := s.flagRepN f rep 1

/-- Hardware sets a bit of a flag field and the repeat count beside it increments (R4). -/
def State.flagBitRep (s : State) (f rep : RF) (i : Nat) : State :=
  (s.put f (s.get f ||| 2 ^ i)).put rep (min 255 (s.get rep + 1))

/-- The place of a field in a word. -/
def FieldDef.rf (a : Nat) (f : FieldDef) : RF := ⟨a, f.lo, f.w⟩

/-- What a software write does to one field (R3, R4, R6): `v` is the written word, `w` the word so far. -/
def FieldDef.write (sealed : Bool) (a : Nat) (v : Word) (w : Word) (f : FieldDef) : Word :=
  let x := fieldOf v (f.rf a)
  let y := fieldOf w (f.rf a)
  match f.acc with
  | .rw => withField w (f.rf a) x
  | .rws => withField w (f.rf a) x
  | .ro => w
  | .wo => w
  | .w1s => withField w (f.rf a) (y ||| x)
  | .w1c =>
    let w1 := withField w (f.rf a) (y &&& (2 ^ f.w - 1 - x))
    if f.rep ≠ 0 && x ≠ 0 then withField w1 ⟨a, f.rep, 8⟩ 0 else w1
  | .rwl => if sealed then w else withField w (f.rf a) x

/-- The word a register holds after a write, from the word it held. -/
def writeWord (sealed : Bool) (a : Nat) (d : RegDef) (v old : Word) : Word :=
  d.fields.foldl (fun w f => f.write sealed a v w) old

/-- Whether SEAL has been applied (R6). -/
def State.sealed (s : State) : Bool := s.on F.BOOT_STAT_SEALED

/-- Whether a write carries a changed value for an RWL field after SEAL (R6). -/
def State.rwlRefused (s : State) (a : Nat) (v : Word) : Bool :=
  match regDefAt a with
  | some d => s.sealed && d.fields.any (fun f => f.acc = .rwl && fieldOf v (f.rf a) ≠ fieldOf (s.reg a) (f.rf a))
  | none => false

/-- A write of a register with no action of its own: every field under its access type; a reserved offset takes
nothing (R3 to R6). -/
def State.writeFields (s : State) (a : Nat) (v : Word) : State :=
  match regDefAt a with
  | some d => s.setReg a (writeWord s.sealed a d v (s.reg a))
  | none => s

/-- The answer to a register write: RIGHTS when it carries a changed RWL value after SEAL, else DONE (R6). -/
def State.writeResp (s : State) (a : Nat) (v : Word) : Nat := if s.rwlRefused a v then rRights else rDone

/-- The word of a register after warm reset: RWS and RWL fields keep their values, the others return to their reset
value (R7); the timebase fields of R32 and the MEM_INIT_DONE bits of R290 keep theirs. -/
def warmWord (a : Nat) (w : Word) : Word :=
  if (0x1001000 ≤ a && a < 0x1001200 && (a % 64 = 0 || a % 64 = 4 || a % 64 = 12)) ||
     (R.MEM_INIT_DONE 0 ≤ a && a ≤ R.MEM_INIT_DONE 111) then w
  else
    match regDefAt a with
    | some d =>
      let w1 := d.fields.foldl (fun x f =>
        if f.acc = .rws || f.acc = .rwl then withField x (f.rf a) (fieldOf w (f.rf a)) else x) (regReset a)
      if 0x1001000 ≤ a && a < 0x1001200 && a % 64 = 8 then withField w1 ⟨a, 0, 1⟩ (fieldOf w ⟨a, 0, 1⟩) else w1
    | none => 0

/-- Every register goes through warm reset (R7). -/
def State.warmRegs (s : State) : State :=
  (s.regs.map (·.1)).foldl (fun t a => t.setReg a (warmWord a (s.reg a))) s

/-- The registers of an address range return to their reset values but for RWS and RWL fields, as in a reset of their
block. -/
def State.resetRange (s : State) (lo hi : Nat) : State :=
  ((s.regs.map (·.1)).filter (fun a => decide (lo ≤ a) && decide (a < hi))).foldl (fun t a =>
    match regDefAt a with
    | some d => t.setReg a (d.fields.foldl (fun x f =>
        if f.acc = .rws || f.acc = .rwl then withField x (f.rf a) (fieldOf (s.reg a) (f.rf a)) else x) (regReset a))
    | none => t) s

end Sys2Proof.Machine
end

