-- ==== Sys2Proof/WellFormed.lean ====
section
/-!
DEFINITION. Well-formed commands: every operand that names a unit by number names one that the device has. A command
that does not is stopped by its meaning with `Fault.noSuchUnit`; these checks are the ones the meanings make.
-/

namespace Sys2Proof

/-- A mover complex has 64 channels, the hub complex (8) has 128 (R246). -/
def chanOk (k ch : Nat) : Bool := decide (k < 8 ∧ ch < 64) || decide (k = 8 ∧ ch < 128)
/-- Ports 0 to 31 and the maintenance port 32 (R299). -/
def portOk (p : Nat) : Bool := decide (p ≤ 32)
/-- Lanes 0 to 40 (R297). -/
def laneOk (l : Nat) : Bool := decide (l ≤ 40)
/-- The 38 engines of a mill, numbered as in R411: bits of MILL_ENG_EN0 (0 to 21), then of MILL_ENG_EN1 from 32 on. -/
def engineOk (e : Nat) : Bool := decide (e < 22) || decide (32 ≤ e ∧ e < 48)
/-- Compute dies 0 to 3 and the hub die 4, and their rails (R65, R370). -/
def dieOk (e : Nat) : Bool := decide (e < 5)
/-- The stops of R260 and R261 by node ID (R262). -/
def stopOk (n : Nat) : Bool := decide (n / 32 < 4 ∧ n % 32 < 13) || decide (n / 32 = 4 ∧ n % 32 < 18)
/-- The pins that limit their current (R411, R425): GPIO 0 to 31, 1PPS outputs, SYSREF outputs. -/
def pinOk (p : Nat) : Bool := decide (p < 42)
/-- The reference clocks of R427: CORE_REFCLK, four FH_REFCLK, CXL_REFCLK, TIME_REFCLK. -/
def clockOk (k : Nat) : Bool := decide (k < 7)
/-- CORR, LFSR and DEMAP return results (R141). -/
def resultUnitOk (u : Nat) : Bool := decide (u < 3)
/-- The 112 words of MEM_INIT_DONE (R290). -/
def initWordOk (n : Nat) : Bool := decide (n < 112)
/-- The 1,184 counters (R439). -/
def counterOk (i : Nat) : Bool := decide (i < 1184)

/-- Whether every unit that a command names exists. -/
def Instr.wf (i : Instr) : Bool :=
  match i with
  | .registerWrite _ _ _ => true
  | .powerOnReset _ => true
  | .warmReset => true
  | .globalRst _ => true
  | .controlMemoryCleared => true
  | .startPllLock => true
  | .imagePass1 _ _ => true
  | .imagePass2 _ _ => true
  | .ready _ => true
  | .fwTmoExpiry => true
  | .advance _ => true
  | .rollbackProgrammed => true
  | .flashGo _ => true
  | .flashCommandDone _ => true
  | .cellActivate _ => true
  | .cellDeactivate _ => true
  | .cellModify _ => true
  | .cellReady _ => true
  | .cellDrained _ => true
  | .mcellParam _ => true
  | .mcellAnchor _ => true
  | .trainRegister _ => true
  | .trainRelease _ => true
  | .trainModem _ => true
  | .trackVertices _ => true
  | .trackDir _ => true
  | .rpSet _ => true
  | .mgmtCompletion => true
  | .relock => true
  | .refSourceSwitch _ => true
  | .refLost => true
  | .refGood => true
  | .rate _ _ => true
  | .stepGo _ => true
  | .stepApply _ => true
  | .timebaseValueWrite _ _ _ => true
  | .mask _ => true
  | .arm _ => true
  | .compareFire _ => true
  | .pulseWidthEnd k => decide (k.pin.toNat < 10)
  | .capture _ _ _ => true
  | .ppsInputPeriod _ _ _ => true
  | .txtsPop p => portOk p.toNat
  | .epochTb p _ => portOk p.toNat
  | .add _ _ _ _ => true
  | .sub _ _ _ _ => true
  | .and _ _ _ _ => true
  | .or _ _ _ _ => true
  | .xor _ _ _ _ => true
  | .sll _ _ _ _ => true
  | .srl _ _ _ _ => true
  | .sra _ _ _ _ => true
  | .slt _ _ _ _ => true
  | .sltu _ _ _ _ => true
  | .min _ _ _ _ => true
  | .max _ _ _ _ => true
  | .minu _ _ _ _ => true
  | .maxu _ _ _ _ => true
  | .mul _ _ _ _ => true
  | .mulh _ _ _ _ => true
  | .mulhu _ _ _ _ => true
  | .clz _ _ _ _ => true
  | .popc _ _ _ _ => true
  | .abs _ _ _ _ => true
  | .addw _ _ _ _ => true
  | .subw _ _ _ _ => true
  | .andw _ _ _ _ => true
  | .orw _ _ _ _ => true
  | .xorw _ _ _ _ => true
  | .sllw _ _ _ _ => true
  | .srlw _ _ _ _ => true
  | .sraw _ _ _ _ => true
  | .mulw _ _ _ _ => true
  | .addi _ _ _ _ => true
  | .andi _ _ _ _ => true
  | .ori _ _ _ _ => true
  | .xori _ _ _ _ => true
  | .slti _ _ _ _ => true
  | .sltiu _ _ _ _ => true
  | .slli _ _ _ _ _ => true
  | .srli _ _ _ _ _ => true
  | .srai _ _ _ _ _ => true
  | .lui _ _ _ _ => true
  | .addiw _ _ _ _ => true
  | .lb _ _ _ _ => true
  | .lbu _ _ _ _ => true
  | .lh _ _ _ _ => true
  | .lhu _ _ _ _ => true
  | .lw _ _ _ _ => true
  | .lwu _ _ _ _ => true
  | .ld _ _ _ _ => true
  | .sb _ _ _ _ => true
  | .sh _ _ _ _ => true
  | .sw _ _ _ _ => true
  | .sd _ _ _ _ => true
  | .swapd _ _ _ _ => true
  | .addd _ _ _ _ => true
  | .andd _ _ _ _ => true
  | .ord _ _ _ _ => true
  | .maxd _ _ _ _ => true
  | .beq _ _ _ _ => true
  | .bne _ _ _ _ => true
  | .blt _ _ _ _ => true
  | .bge _ _ _ _ => true
  | .bltu _ _ _ _ => true
  | .bgeu _ _ _ _ => true
  | .j _ _ => true
  | .jal _ _ => true
  | .jalr _ _ _ _ => true
  | .mfcr _ _ _ _ => true
  | .mtcr _ _ _ _ => true
  | .fence _ _ _ _ => true
  | .tret _ _ _ _ => true
  | .brk _ _ _ _ => true
  | .prefetchReturn _ => true
  | .prefetchBufferExpiry _ => true
  | .vclaim _ _ _ _ _ => true
  | .vsetclaim _ _ _ _ _ => true
  | .vadd _ _ _ _ _ _ _ => true
  | .vsub _ _ _ _ _ _ _ => true
  | .vmin _ _ _ _ _ _ _ => true
  | .vmax _ _ _ _ _ _ _ => true
  | .vand _ _ _ _ _ _ _ => true
  | .vor _ _ _ _ _ _ _ => true
  | .vxor _ _ _ _ _ _ _ => true
  | .vsll _ _ _ _ _ _ _ => true
  | .vsrl _ _ _ _ _ _ _ => true
  | .vsra _ _ _ _ _ _ _ => true
  | .vsrar _ _ _ _ _ _ _ => true
  | .vabs _ _ _ _ _ _ _ => true
  | .vneg _ _ _ _ _ _ _ => true
  | .vconj _ _ _ _ _ _ _ => true
  | .vmul _ _ _ _ _ _ _ => true
  | .vmulc _ _ _ _ _ _ _ => true
  | .vmac _ _ _ _ _ _ _ => true
  | .vmacc _ _ _ _ _ _ _ => true
  | .vmsub _ _ _ _ _ _ _ => true
  | .vwadd _ _ _ _ _ _ _ => true
  | .vwmul _ _ _ _ _ _ _ => true
  | .vwmulc _ _ _ _ _ _ _ => true
  | .vwmac _ _ _ _ _ _ _ => true
  | .vwmacc _ _ _ _ _ _ _ => true
  | .vpow _ _ _ _ _ _ _ => true
  | .vnarrow _ _ _ _ _ _ _ => true
  | .vcvt _ _ _ _ _ _ _ => true
  | .vaddi _ _ _ _ _ _ => true
  | .vslli _ _ _ _ _ _ => true
  | .vsrli _ _ _ _ _ _ => true
  | .vsrai _ _ _ _ _ _ => true
  | .vsrari _ _ _ _ _ _ => true
  | .vnarrowi _ _ _ _ _ _ => true
  | .vsplati _ _ _ _ _ _ => true
  | .vredsum _ _ _ _ _ _ => true
  | .vredmax _ _ _ _ _ _ => true
  | .vredmin _ _ _ _ _ _ => true
  | .vext _ _ _ _ _ _ => true
  | .vins _ _ _ _ _ _ => true
  | .vsplat _ _ _ _ _ _ => true
  | .vslideup _ _ _ _ _ _ => true
  | .vslidedn _ _ _ _ _ _ => true
  | .vperm _ _ _ _ _ _ => true
  | .vmv _ _ _ _ _ _ => true
  | .vsel _ _ _ _ _ _ => true
  | .vcmpeq _ _ _ _ _ _ => true
  | .vcmplt _ _ _ _ _ _ => true
  | .vcmple _ _ _ _ _ _ => true
  | .vmand _ _ _ _ _ _ => true
  | .vmor _ _ _ _ _ _ => true
  | .vmxor _ _ _ _ _ _ => true
  | .vmandn _ _ _ _ _ _ => true
  | .vmpopc _ _ _ _ _ _ => true
  | .vmfirst _ _ _ _ _ _ => true
  | .vld _ _ _ _ _ _ _ _ => true
  | .vst _ _ _ _ _ _ _ _ => true
  | .ccorr _ _ _ _ _ => true
  | .cdesp _ _ _ _ _ => true
  | .cpeak _ _ _ _ _ => true
  | .lginit _ _ _ _ _ => true
  | .lgen _ _ _ _ _ => true
  | .lgenv _ _ _ _ _ => true
  | .lcrcinit _ _ _ _ _ => true
  | .lcrcg _ _ _ _ _ => true
  | .lcrcv _ _ _ _ _ => true
  | .lcrcrd _ _ _ _ _ => true
  | .demap _ _ _ _ _ _ => true
  | .isel _ _ _ _ _ => true
  | .ibil _ _ _ _ _ => true
  | .idil _ _ _ _ _ => true
  | .icomb _ _ _ _ _ => true
  | .fusedResult _ unit => resultUnitOk unit.toNat
  | .ilvOperationEnd _ => true
  | .tdispatch _ _ _ _ => true
  | .tdispatchServed _ => true
  | .tspawn _ _ _ _ => true
  | .twait _ _ _ _ => true
  | .tyield _ _ _ _ => true
  | .texit _ _ _ _ => true
  | .tsetpri _ _ _ _ => true
  | .tevent _ _ _ _ => true
  | .fadmit _ _ _ _ => true
  | .frelease _ _ _ _ => true
  | .fvoid _ _ _ _ => true
  | .topen _ _ _ _ => true
  | .tcommit _ _ _ _ => true
  | .tsquash _ _ _ _ => true
  | .tfree _ _ _ _ => true
  | .tstate _ _ _ _ => true
  | .tattach _ _ _ _ => true
  | .ctxsv _ _ _ _ => true
  | .ctxld _ _ _ _ => true
  | .commit _ => true
  | .squash _ => true
  | .free _ => true
  | .settleIntervalEnd _ _ => true
  | .flowHeadAdvance _ _ => true
  | .flowStall _ _ => true
  | .flowEnable _ _ => true
  | .idleGate _ => true
  | .doorbellProduce _ _ _ => true
  | .entryAdmission _ => true
  | .doorbellConsume _ _ _ => true
  | .qmgrTake _ _ => true
  | .hardwarePush _ _ _ _ _ _ => true
  | .hardwareConsume _ _ => true
  | .queueCfgWrite _ _ => true
  | .queueDisable _ => true
  | .start k ch => chanOk k.toNat ch.toNat
  | .stop k ch => chanOk k.toNat ch.toNat
  | .retry k ch => chanOk k.toNat ch.toNat
  | .skip k ch => chanOk k.toNat ch.toNat
  | .shadowArm k ch => chanOk k.toNat ch.toNat
  | .shadowWrite k ch _ _ => chanOk k.toNat ch.toNat
  | .descriptorFetched k ch => chanOk k.toNat ch.toNat
  | .pacingTest k ch => chanOk k.toNat ch.toNat
  | .descriptorEnd k ch => chanOk k.toNat ch.toNat
  | .drainPush k ch => chanOk k.toNat ch.toNat
  | .transferFailure k ch => chanOk k.toNat ch.toNat
  | .rd _ => true
  | .wr _ => true
  | .wrp _ => true
  | .atom _ => true
  | .rdrsp _ => true
  | .wrrsp _ => true
  | .evt _ => true
  | .emark _ => true
  | .tokn _ => true
  | .freeNotice _ => true
  | .tokack _ => true
  | .dlvd _ => true
  | .badOp _ node => stopOk node.toNat
  | .requestTimeout _ _ => true
  | .close node _ => stopOk node.toNat
  | .clrCnt node => stopOk node.toNat
  | .drained node => stopOk node.toNat
  | .patrolRead e => dieOk e.toNat
  | .clr n _ => initWordOk n.toNat
  | .sentinelTrip _ => true
  | .retentionScanEnd _ => true
  | .frameReceive p _ _ => portOk p.toNat
  | .txTailWrite p _ => portOk p.toNat
  | .txDescriptor p => portOk p.toNat
  | .launch p => portOk p.toNat
  | .frameTransmitEnd p => portOk p.toNat
  | .jesdMultiblock _ _ _ => true
  | .jesdRxEntry _ => true
  | .jesdTxStart _ => true
  | .underrun _ _ => true
  | .cdrAcquisition l _ => laneOk l.toNat
  | .dfeAdaptStep l _ _ => laneOk l.toNat
  | .bitslip l => laneOk l.toNat
  | .slipDone l => laneOk l.lane.toNat
  | .inject l => laneOk l.toNat
  | .cntClr l => laneOk l.toNat
  | .lossOfSignal l => laneOk l.toNat
  | .signalRecovered l => laneOk l.toNat
  | .shortDetect l => laneOk l.toNat
  | .shortRetry l => laneOk l.toNat
  | .polarityToggle l => laneOk l.toNat
  | .laneMap p _ => portOk p.toNat || decide (p.toNat = 33)
  | .linkLost p => portOk p.toNat
  | .bar0Read _ _ => true
  | .bar0Write _ _ _ => true
  | .doorbellWrite _ _ => true
  | .doorbellTakeRead _ => true
  | .bar4Read _ => true
  | .msixNotification _ => true
  | .msixPendingSend _ => true
  | .linkDown => true
  | .functionLevelReset => true
  | .cxlPerst => true
  | .hdmRead _ => true
  | .hdmWrite _ _ => true
  | .backInvalidateResponse _ _ => true
  | .hostSnoop _ _ => true
  | .dcFlush => true
  | .dcFlushDone => true
  | .ideFail => true
  | .target _ _ => true
  | .clockStepDone _ => true
  | .vdone r => dieOk r.toNat
  | .voltageSettleEnd _ => true
  | .avsFail r => dieOk r.toNat
  | .powerGood r => dieOk r.toNat
  | .pgFail r => dieOk r.toNat
  | .druseOff _ => true
  | .drusePowerSwitchOpen _ => true
  | .drainForced node => stopOk node.toNat
  | .druseOn _ => true
  | .drusePowerSettle _ => true
  | .sleepRequestStandby => true
  | .sleepRequestDormant => true
  | .commitCycle => true
  | .dormantLinkWaitEnd => true
  | .wakeN => true
  | .i2cAddressMatch _ => true
  | .twinTokenChange _ => true
  | .reloadDone _ _ => true
  | .i2cWrite _ _ => true
  | .i2cRead _ => true
  | .sensorConversion _ _ _ => true
  | .run _ => true
  | .itemMeasured e _ _ => dieOk e.toNat
  | .tapStep => true
  | .corridorTick => true
  | .corrTblData _ => true
  | .jobStart _ => true
  | .abortPoint _ e _ => engineOk e.toNat
  | .headerWritten _ e => engineOk e.toNat
  | .flush _ => true
  | .engineParityError _ e => engineOk e.toNat
  | .faultReport => true
  | .dieRailOff _ => true
  | .frRdWrite _ => true
  | .coreHang _ => true
  | .druseRestartRelease _ => true
  | .holdCore _ => true
  | .releaseCore _ => true
  | .druseRestart _ => true
  | .releaseDruse _ => true
  | .stratumReset _ => true
  | .ksDisagree => true
  | .keystonePulse => true
  | .dieSentinelSilence _ => true
  | .ksSilent => true
  | .pinLimit pin => pinOk pin.toNat
  | .pinParkEnd pin => pinOk pin.toNat
  | .clockLost k => clockOk k.toNat
  | .droop e => dieOk e.toNat
  | .droopClockRestore e => dieOk e.toNat
  | .heartbeatSend => true
  | .heartbeat _ => true
  | .heartbeatLoss => true
  | .abdicateFrame _ => true
  | .stateFrame _ => true
  | .stateFrameSend => true
  | .claim => true
  | .abdicate => true
  | .claimSample => true
  | .startLeadClaim => true
  | .clrAll => true
  | .perfCntLo _ i => counterOk i.toNat
  | .go => true
  | .dumpPeriodExpiry => true
  | .cdrLockLoss l => laneOk l.toNat
  | .portLinkUp p => portOk p.port.toNat
  | .prbsCheckerLock l => laneOk l.lane.toNat
  | .prbsCheckerUnlock l => laneOk l.lane.toNat
  | .cxlLinkUp _ _ _ => true
  | .hostConfigWrite _ _ => true
  | .hostMemoryResponse _ => true
  | .jtagDebugAccess _ _ _ _ _ => true
  | .clockReturn k => clockOk k.toNat

end Sys2Proof
end

