-- ==== Sys2Proof/Machine/Time.lean ====
section
/-!
DEFINITION. Timebases, reference, compare units, capture units and PTP registers (02_time_and_stamps.md, R31 to R64,
and the 1PPS inputs of R426).
-/

namespace Sys2Proof.Machine

/-- A free value has been used. -/
def State.bumpFree (s : State) : State := { s with freeCtr := s.freeCtr + 1 }

/-! ## Reference (R33 to R35) -/

/-- The PLL leaves holdover by slewing: the timebases keep their phase (R35). -/
def State.leaveHoldover (s : State) : State := (s.put F.TIME_REF_STAT_HOLDOVER 0).put F.TIME_REF_STAT_LOCK 1

/-- A write of RELOCK: the PLL leaves holdover if the reference is good (R35). -/
def State.relock (s : State) : State :=
  if s.on F.TIME_REF_STAT_HOLDOVER && s.time.refGood then s.leaveHoldover else s

/-- A write of TIME_REF_CFG: SRC, FREQ and HOLD_EXIT_AUTO under their access types, and RELOCK where its bit is 1. No
timebase steps (R33). -/
def State.writeRefCfg (s : State) (v : Word) : State :=
  let s1 := s.writeFields R.TIME_REF_CFG v
  if v.getLsbD 3 then s1.relock else s1

/-- The time PLL loses its selected reference and enters holdover (R34). -/
def State.loseRef (s : State) : State :=
  let s1 := (s.put F.TIME_REF_STAT_LOCK 0).put F.TIME_REF_STAT_HOLDOVER 1
  let s2 := s1.flagRep F.TIME_REF_STAT_REF_LOST F.TIME_REF_STAT_REF_LOST_REP
  { s2.count 1178 1 with time := { s2.time with refGood := false } }

/-- The reference has been good for 100 ms (R35). -/
def State.goodRef (s : State) : State :=
  let s1 := { s with time := { s.time with refGood := true } }
  if s1.on F.TIME_REF_CFG_HOLD_EXIT_AUTO && s1.on F.TIME_REF_STAT_HOLDOVER then s1.leaveHoldover else s1

/-- RELOCK (R35). -/
def execRelock (s : State) : Host.Outcome State Fault Refusal := .next s.relock

/-- REF_SOURCE_SWITCH (R33). -/
def execRefSourceSwitch (v : Word) (s : State) : Host.Outcome State Fault Refusal := .next (s.writeRefCfg v)

/-- REF_LOST (R34). -/
def execRefLost (s : State) : Host.Outcome State Fault Refusal := .next s.loseRef

/-- REF_GOOD (R35). -/
def execRefGood (s : State) : Host.Outcome State Fault Refusal := .next s.goodRef

/-! ## Timebases (R31, R32, R36 to R40) -/

/-- The nanosecond and fraction fields of a timebase as one 32.32 value. -/
def State.tbVal (s : State) (k : Nat) : BitVec 64 := s.reg (R.TIME_TB_NS k) ++ s.reg (R.TIME_TB_FRAC k)

/-- A timebase's 32.32 value is replaced; the 8 bits below stay. -/
def State.setTbVal (s : State) (k : Nat) (v : BitVec 64) : State :=
  (s.setReg (R.TIME_TB_NS k) (v.extractLsb' 32 32)).setReg (R.TIME_TB_FRAC k) (v.extractLsb' 0 32)

/-- The 8 unreadable bits below a timebase's fraction (R31). -/
def State.tbSub (s : State) (k : Nat) : BitVec 8 := mapGet s.time.sub 0 k

/-- Those bits are replaced. -/
def State.setTbSub (s : State) (k : Nat) (b : BitVec 8) : State :=
  { s with time := { s.time with sub := mapSet s.time.sub 0 k b } }

/-- Whether a timebase runs (R32). -/
def State.tbOn (s : State) (k : Nat) : Bool := s.on (F.TIME_TB_CFG_EN k)

/-- The nearest rate within plus and minus 1,000 ppm (R36). -/
def clampRate (v : Word) : Int :=
  if v.toInt > 1099511627 then 1099511627 else if v.toInt < -1099511627 then -1099511627 else v.toInt

/-- A rate offset is set, clamped (R36); under the twin lock the write is discarded (R39). -/
def State.writeRate (s : State) (k : Nat) (v : Word) : State :=
  if k = 0 && s.on (F.TIME_TB_CFG_TWIN_LOCK 0) then
    s.flagRep (F.TIME_TB_STAT_LOCK_DISCARD 0) (F.TIME_TB_STAT_LOCK_DISCARD_REP 0)
  else if clampRate v ≠ v.toInt then
    (s.setReg (R.TIME_TB_RATE k) (BitVec.ofInt 32 (clampRate v))).flag (F.TIME_TB_STAT_RATE_CLAMP k)
  else s.setReg (R.TIME_TB_RATE k) v

/-- A step is latched (R37): discarded under the twin lock (R39), or while one is pending. -/
def State.stepGo (s : State) (k : Nat) : State :=
  if k = 0 && s.on (F.TIME_TB_CFG_TWIN_LOCK 0) then
    s.flagRep (F.TIME_TB_STAT_LOCK_DISCARD 0) (F.TIME_TB_STAT_LOCK_DISCARD_REP 0)
  else if s.on (F.TIME_TB_STAT_STEP_PENDING k) then s.flag (F.TIME_TB_STAT_STEP_LOST k)
  else
    let s1 := s.put (F.TIME_TB_STAT_STEP_PENDING k) 1
    { s1 with time := { s1.time with
        latch := mapIns s1.time.latch k (s.reg (R.TIME_TB_STEP_NS k), s.reg (R.TIME_TB_STEP_FRAC k)) } }

/-- The latched step as a 32.32 value: signed nanoseconds and a fraction above them (R37). -/
def State.stepVal (s : State) (k : Nat) : BitVec 64 :=
  let l := mapGet s.time.latch (0, 0) k
  l.1 ++ l.2

/-- The pending step of a timebase is added and recorded (R37). `s` already holds the tick's increments, and TB0's own
step first where TB0 steps. -/
def State.applyStep (s : State) (k : Nat) : State :=
  let s1 := s.setTbVal k (s.tbVal k + s.stepVal k)
  let s2 := s1.setReg (R.TIME_TB_STEP_AT k) s1.now
  let s3 := (s2.put (F.TIME_TB_STAT_STEP_PENDING k) 0).flag (F.TIME_TB_STAT_STEPPED k)
  { s3 with time := { s3.time with latch := mapErase s3.time.latch k } }

/-- A timebase after one tick's increment of 2^40 + RATE units of 2^-40 ns (R31, R36). -/
def State.incTb (s : State) (k : Nat) : State :=
  let v : BitVec 72 := (s.tbVal k ++ s.tbSub k) + BitVec.ofInt 72 (2 ^ 40 + (s.reg (R.TIME_TB_RATE k)).toInt)
  (s.setTbVal k (v.extractLsb' 8 64)).setTbSub k (v.extractLsb' 0 8)

/-- One timebase on one tick: its increment where it runs, and its pending step where its nanosecond field changes or
it is stopped (R31, R37). -/
def State.tickTb (s : State) (k : Nat) : State :=
  if s.tbOn k then
    let s1 := s.incTb k
    if s1.on (F.TIME_TB_STAT_STEP_PENDING k) && s1.reg (R.TIME_TB_NS k) ≠ s.reg (R.TIME_TB_NS k) then s1.applyStep k
    else s1
  else if s.on (F.TIME_TB_STAT_STEP_PENDING k) then s.applyStep k
  else s

/-- A stopped timebase's value is written; a write of the fraction also clears the 8 bits below it. While the
timebase runs, and for TB0 always, the write is discarded (R38). -/
def State.writeTb (s : State) (k : Nat) (frac : Bool) (v : Word) : State :=
  if k = 0 || s.tbOn k then s
  else if frac then (s.setReg (R.TIME_TB_FRAC k) v).setTbSub k 0
  else s.setReg (R.TIME_TB_NS k) v

/-- The timebases whose mask bits are 1 copy their fields into their snapshot registers (R40). -/
def State.snapshot (s : State) (m : BitVec 8) : State :=
  (List.range 8).foldl (fun t k =>
    if m.getLsbD k then
      (t.setReg (R.TIME_TB_SNAP_NS k) (s.reg (R.TIME_TB_NS k))).setReg (R.TIME_TB_SNAP_FRAC k) (s.reg (R.TIME_TB_FRAC k))
    else t) s

/-! ## Compare units (R46 to R54) -/

/-- The live comparator of a unit. -/
def State.cmpLive (s : State) (k : Nat) : CmpLive := mapGet s.time.cmp CmpLive.reset k

/-- The live comparator is replaced. -/
def State.setCmpLive (s : State) (k : Nat) (c : CmpLive) : State :=
  { s with time := { s.time with cmp := mapSet s.time.cmp CmpLive.reset k c } }

/-- Symbols per 0.5 ms of a pattern, and the lengths of the first and of each other symbol in Ts (R51). -/
def symPattern (p : Nat) : Nat × Nat × Nat :=
  match p with
  | 0 => (7, 2208, 2192)
  | 1 => (14, 1112, 1096)
  | 2 => (28, 564, 548)
  | 3 => (7, 2208, 2192)
  | _ => (6, 2560, 2560)

/-- The start of symbol `n` of a pattern after its anchor, in units of 2^-32 ns, rounded to the nearest with a tie going
upward (R51). -/
def symStart (p n : Nat) : Nat :=
  let ts := if n = 0 then 0 else (symPattern p).2.1 + (n - 1) * (symPattern p).2.2
  (ts * 3125 * 2 ^ 32 * 2 + 96) / 192

/-- The compare value that the test of R47 uses. -/
def CmpLive.target (c : CmpLive) : BitVec 64 :=
  if c.mode = 2 then c.val + BitVec.ofNat 64 (symStart c.sympat c.sym) else c.val

/-- The test of R47. -/
def cmpTest (tb cmp : BitVec 64) : Bool := (tb - cmp).toNat < 2 ^ 63

/-- A write of ARM: the staged values become live, or are refused with BAD_CFG (R48). A value that already lies at or
before the timebase fires on the next tick and is late (R49). DESIGN CHOICE (log entry 94): on a stopped timebase, where no
unit fires (R47), LATE waits with the firing until the timebase runs. -/
def State.arm (s : State) (k : Nat) : State :=
  let mode := s.get (F.TIME_CMP_CFG_MODE k)
  let sym := s.get (F.TIME_CMP_CFG_SYMPAT k)
  let per : BitVec 64 := s.reg (R.TIME_CMP_PER_NS k) ++ s.reg (R.TIME_CMP_PER_FRAC k)
  if mode = 3 || (mode = 2 && 5 ≤ sym) || (mode = 1 && per.toNat < 16 * 2 ^ 32) then s.flag (F.TIME_CMP_STAT_BAD_CFG k)
  else
    let tb := s.get (F.TIME_CMP_CFG_TB k)
    let c : CmpLive := {
      mode := mode, tb := tb, sympat := sym, val := s.reg (R.TIME_CMP_NS k) ++ s.reg (R.TIME_CMP_FRAC k), per := per,
      sym := 0, prev := false, due := false, late := false, stamp := 0 }
    (s.setCmpLive k { c with late := cmpTest (s.tbVal tb) c.target }).put (F.TIME_CMP_STAT_ARMED k) 1

/-- An armed unit makes the test of R47 on the values after a tick. -/
def State.testCmp (s : State) (k : Nat) : State :=
  if !s.on (F.TIME_CMP_STAT_ARMED k) then s
  else
    let c := s.cmpLive k
    if c.due then s
    else
      let t := cmpTest (s.tbVal c.tb) c.target
      if t && !c.prev && s.tbOn c.tb then s.setCmpLive k { c with prev := t, due := true, stamp := s.now }
      else s.setCmpLive k { c with prev := t }

/-- Whether an output pin is high: some unit's pulse on it still runs (R54). -/
def State.pinHigh (s : State) (pin : Nat) : Bool := s.time.pulse.any (fun e => e.2.1 = pin && e.2.2 ≠ 0)

/-- A unit's output goes high for WIDTH ticks, or its width count restarts; a pulse of the unit on another pin runs on (R54). -/
def State.startPulse (s : State) (k pin : Nat) : State :=
  let s1 := { s with time := { s.time with
    pulse := mapIns s.time.pulse (16 * k + pin) (pin, max 1 (s.get (F.TIME_CMP_WIDTH_WIDTH k))) } }
  if s.pinHigh pin then s1 else s1.emit (.pin pin true)

/-- A width count ends: its pin goes low unless another unit still drives it (R54). `key` is 16 times the unit plus the pin. -/
def State.endPulse (s : State) (key : Nat) : State :=
  match mapFind? s.time.pulse key with
  | none => s
  | some (pin, left) =>
    if left ≠ 0 then s
    else
      let s1 := { s with time := { s.time with pulse := mapErase s.time.pulse key } }
      if s1.pinHigh pin then s1 else s1.emit (.pin pin false)

/-- The data word of a firing: the firing count, this firing included, and in SYMBOL mode the symbol's index (R53). -/
def firingWord (count : Nat) (c : CmpLive) : Nat := count + (if c.mode = 2 then c.sym * 2 ^ 16 else 0)

/-- A firing goes to its destination (R52, R53); an eMark for a complex that does not exist is dropped (R255). -/
def State.fireDest (s : State) (k : Nat) (c : CmpLive) : State :=
  let a := s.get (F.TIME_CMP_DEST_DEST_ARGS k)
  let w := firingWord (s.get (F.TIME_CMP_STAT_COUNT k)) c
  match s.get (F.TIME_CMP_CFG_DEST k) with
  | 1 => s.sendEventFrom nodeTime Config.timeInit (bitsOf a 23 16) (bitsOf a 15 0) w none
  | 2 => s.startPulse k (bitsOf a 2 0)
  | 3 => s.startPulse k (8 + bitsOf a 0 0)
  | 4 => if bitsOf a 3 0 < 9 then s.sendEmark (bitsOf a 3 0) (bitsOf a 10 4) w
    else s.flagRep (F.MOVER_STAT_EMARK_DROP 8) (F.MOVER_STAT_EMARK_DROP_REP 8)
  | _ => s

/-- Periods from the live value that lie at or before the timebase, when its test passes (R50). -/
def missedPeriods (tb : BitVec 64) (c : CmpLive) : Nat := (tb - c.val).toNat / c.per.toNat + 1

/-- The instants that the advance of a SYMBOL unit passes over, and the unit after it (R50): `c` names the first
instant, which lies at or before the timebase. -/
def skipSymbols (tb : BitVec 64) (c : CmpLive) : Nat × CmpLive :=
  let n := (symPattern c.sympat).1
  let d := (tb - c.val).toNat
  let q := d / (500000 * 2 ^ 32)
  let r := d % (500000 * 2 ^ 32)
  let j := ((List.range n).filter (fun i => symStart c.sympat i ≤ r)).length
  let a := c.val + BitVec.ofNat 64 (q * 500000 * 2 ^ 32)
  (q * n + j - c.sym,
    if j < n then { c with val := a, sym := j } else { c with val := a + BitVec.ofNat 64 (500000 * 2 ^ 32), sym := 0 })

/-- The unit after an instant and the number of instants it then passes over (R46, R50). -/
def advanceCmp (tb : BitVec 64) (c : CmpLive) : Nat × CmpLive :=
  let c0 := { c with prev := false, due := false, late := false }
  if c.mode = 1 then
    let c1 := { c0 with val := c.val + c.per }
    if cmpTest tb c1.val then
      (missedPeriods tb c1, { c1 with val := c1.val + BitVec.ofNat 64 (missedPeriods tb c1 * c.per.toNat) })
    else (0, c1)
  else
    let c1 := if c.sym + 1 < (symPattern c.sympat).1 then { c0 with sym := c.sym + 1 }
      else { c0 with val := c.val + BitVec.ofNat 64 (500000 * 2 ^ 32), sym := 0 }
    if cmpTest tb c1.target then skipSymbols tb c1 else (0, c1)

/-- A unit acts on the instant it has met: it fires, or with EN = 0 the instant is suppressed; then it disarms or
advances (R47, R49, R50). -/
def State.compareFire (s : State) (k : Nat) : State :=
  let c := s.cmpLive k
  if !(s.on (F.TIME_CMP_STAT_ARMED k) && c.due) then s
  else
    let en := s.on (F.TIME_CMP_CFG_EN k)
    let s1 := if c.late then s.flag (F.TIME_CMP_STAT_LATE k) else s
    let s2 := if en then (s1.put (F.TIME_CMP_STAT_COUNT k) (s1.get (F.TIME_CMP_STAT_COUNT k) + 1)).fireDest k c else s1
    if c.mode = 0 then (s2.setCmpLive k CmpLive.reset).put (F.TIME_CMP_STAT_ARMED k) 0
    else
      let adv := advanceCmp (s.tbVal c.tb) c
      let s3 := s2.setCmpLive k adv.2
      if en && adv.1 ≠ 0 then
        (s3.flagRepN (F.TIME_CMP_STAT_MISSED k) (F.TIME_CMP_STAT_MISSED_REP k) adv.1).count 1173 adv.1
      else s3

/-! ## The timebase clock -/

/-- One tick of the timebase clock: TB0, then the other timebases, then the compare tests and the width counts (R31,
R37, R47, R54, R58). In Dormant the clock stops (R41). -/
def State.tick (s : State) : State :=
  if s.pwr.dormant then s
  else
    let s1 := (List.range 8).foldl State.tickTb s
    let s2 := (List.range 64).foldl State.testCmp s1
    { s2 with time := { s2.time with
        pulse := s2.time.pulse.map (fun e => (e.1, (e.2.1, e.2.2 - 1)))
        ticks := s2.time.ticks + 1 } }

/-- Whether the next tick adds the pending step of a timebase: one that stops its clock adds none, a stopped timebase takes it
on any tick, a running one on a tick that changes its nanosecond field (R37, R41). -/
def State.stepDue (s : State) (k : Nat) : Bool :=
  !s.pwr.dormant && s.on (F.TIME_TB_STAT_STEP_PENDING k) &&
  (!s.tbOn k || decide ((s.incTb k).reg (R.TIME_TB_NS k) ≠ s.reg (R.TIME_TB_NS k)))

/-- STEP_APPLY is the tick that adds the pending step (R37): with the tick's increment and the compare tests on the stepped value
(R58). Without such a step it is no tick. -/
def State.stepApply (s : State) (k : Nat) : State := if s.stepDue k then s.tick else s

/-! ## Capture units (R55 to R57) -/

/-- Whether a capture unit is set to capture an edge of a source (R55, R56); with POL_AUTO = 0 a 1PPS input is active high
(R426). -/
def State.captures (s : State) (j src : Nat) (rising : Bool) : Bool :=
  s.on (F.TIME_CAP_CFG_EN j) && s.get (F.TIME_CAP_CFG_SRC j) = src &&
  (if src = 1 || src = 2 then decide (rising = !(s.on F.TIME_PPSIN_CFG_POL_AUTO && s.bit F.GLOBAL_PPSIN_INV (src - 1)))
   else if 0x10 ≤ src && src ≤ 0x2F then
     (match s.get (F.TIME_CAP_CFG_EDGE j) with
      | 0 => rising
      | 1 => !rising
      | _ => true)
   else (0x40 ≤ src && src ≤ 0x5F) || src = 0x60 || src = 0x61)

/-- A capture unit meets an edge of its source (R55, R57). -/
def State.capture (s : State) (j src : Nat) (rising : Bool) : State :=
  if !s.captures j src rising then s
  else if s.on (F.TIME_CAP_STAT_VALID j) then
    (s.flagRep (F.TIME_CAP_STAT_OVR j) (F.TIME_CAP_STAT_OVR_REP j)).count 1172 1
  else
    let tb := s.get (F.TIME_CAP_CFG_TB j)
    let s1 := ((s.setReg (R.TIME_CAP_NS j) (s.reg (R.TIME_TB_NS tb))).setReg (R.TIME_CAP_FRAC j)
      (s.reg (R.TIME_TB_FRAC tb))).setReg (R.TIME_CAP_TB0 j) s.now
    let s2 := s1.put (F.TIME_CAP_STAT_VALID j) 1
    if s2.on (F.TIME_CAP_EVT_EN j) then
      (s2.sendEventFrom nodeTime Config.timeInit (s2.get (F.TIME_CAP_EVT_STRATA j)) (s2.get (F.TIME_CAP_EVT_EVENT_ID j))
        (Config.captureWord s2.freeCtr).toNat none).bumpFree
    else s2

/-! ## 1PPS inputs (R426) -/

/-- Whether a 1PPS period is valid: phases in ns (R426). -/
def ppsValid (high low : Nat) : Bool :=
  decide (999000000 ≤ high + low) && decide (high + low ≤ 1001000000) && decide (100 ≤ min high low) &&
  decide (min high low ≤ 500000000)

/-- A 1PPS input's period is judged (R426): the shorter phase is the pulse, two consecutive valid periods that agree set
the polarity, an invalid period is reported. -/
def State.ppsPeriod (s : State) (i high low : Nat) : State :=
  if !s.on F.TIME_PPSIN_CFG_POL_AUTO then s.putBit F.GLOBAL_PPSIN_INV i false
  else if ppsValid high low then
    let inv := decide (low < high)
    let s1 := { s with time := { s.time with ppsLast := mapIns s.time.ppsLast i inv } }
    if mapFind? s.time.ppsLast i = some inv && s.bit F.GLOBAL_PPSIN_INV i ≠ inv then
      let s2 := s1.putBit F.GLOBAL_PPSIN_INV i inv
      if inv then s2.putBit F.GLOBAL_PPSIN_POL_INV i true else s2
    else s1
  else
    let s1 := { s with time := { s.time with ppsLast := mapErase s.time.ppsLast i } }
    let s2 := s1.putBit F.GLOBAL_PPSIN_PPS_BAD i true
    s2.report { mkReport 9 (42 + i) 0x33 0 with data0 := (s2.reg R.GLOBAL_PPSIN).toNat }

/-! ## PTP registers (R62, R63) -/

/-- The transmit timestamp FIFO of a port, head first. -/
def State.txts (s : State) (p : Nat) : List TxTs := mapGet s.time.txts [] p

/-- The FIFO is replaced. -/
def State.setTxts (s : State) (p : Nat) (l : List TxTs) : State :=
  { s with time := { s.time with txts := mapSet s.time.txts [] p l } }

/-- A transmit timestamp is pushed, or discarded when 16 are held (R62). -/
def State.pushTxts (s : State) (p : Nat) (t : TxTs) : State :=
  if (s.txts p).length < 16 then s.setTxts p (s.txts p ++ [t])
  else (s.flagRep (F.TIME_PTP_STAT_TXTS_OVR p) (F.TIME_PTP_STAT_TXTS_OVR_REP p)).count 1176 1

/-- The head of the FIFO is removed; an empty FIFO stays so (R62). -/
def State.popTxts (s : State) (p : Nat) : State := s.setTxts p (s.txts p).tail

/-- A write of TIME_PTP_EPOCH_TB commits the epoch (R63). -/
def State.commitEpoch (s : State) (p : Nat) (v : Word) : State :=
  let s1 := s.setReg (R.TIME_PTP_EPOCH_TB p) v
  { s1 with time := { s1.time with
      epoch := mapIns s1.time.epoch p ⟨(s.reg (R.TIME_PTP_EPOCH_SEC_HI p)).truncate 16 ++ s.reg (R.TIME_PTP_EPOCH_SEC_LO p), v⟩ } }

/-- What the timestamp registers of a port show: the head of its FIFO (R62). -/
def State.txtsView (s : State) (p off : Nat) : Word :=
  match s.txts p with
  | [] => 0
  | t :: l =>
    match off with
    | 0x10 => t.ns
    | 0x14 => t.frac.zeroExtend 32
    | _ => BitVec.ofNat 32 (t.seq.toNat + t.typ.toNat * 2 ^ 16 + 2 ^ 20 + (l.length + 1) * 2 ^ 24)

/-! ## Commands -/

/-- RATE (R36, R39). -/
def execRate (k : BitVec 3) (v : Word) (s : State) : Host.Outcome State Fault Refusal := .next (s.writeRate k.toNat v)

/-- STEP_GO (R37, R39). -/
def execStepGo (k : BitVec 3) (s : State) : Host.Outcome State Fault Refusal := .next (s.stepGo k.toNat)

/-- STEP_APPLY (R37). -/
def execStepApply (k : BitVec 3) (s : State) : Host.Outcome State Fault Refusal := .next (s.stepApply k.toNat)

/-- TIMEBASE_VALUE_WRITE (R38). -/
def execTimebaseValueWrite (k : BitVec 3) (frac : Bool) (v : Word) (s : State) : Host.Outcome State Fault Refusal :=
  .next (s.writeTb k.toNat frac v)

/-- MASK (R40). -/
def execMask (v : BitVec 8) (s : State) : Host.Outcome State Fault Refusal := .next (s.snapshot v)

/-- PULSE_WIDTH_END (R54). -/
def execPulseWidthEnd (k : PulseEnd) (s : State) : Host.Outcome State Fault Refusal :=
  .next (s.endPulse (16 * k.unit.toNat + k.pin.toNat))

/-- CAPTURE (R55 to R57). -/
def execCapture (j : BitVec 5) (src : BitVec 7) (rising : Bool) (s : State) : Host.Outcome State Fault Refusal :=
  .next (s.capture j.toNat src.toNat rising)

/-- PPS_INPUT_PERIOD (R426). -/
def execPpsInputPeriod (i : BitVec 1) (high low : Word) (s : State) : Host.Outcome State Fault Refusal :=
  .next (s.ppsPeriod i.toNat high.toNat low.toNat)

/-- TXTS_POP (R62). -/
def execTxtsPop (p : BitVec 6) (s : State) : Host.Outcome State Fault Refusal :=
  if portOk p.toNat then .next (s.popTxts p.toNat) else .fault .noSuchUnit

/-- EPOCH_TB (R63). -/
def execEpochTb (p : BitVec 6) (v : Word) (s : State) : Host.Outcome State Fault Refusal :=
  if portOk p.toNat then .next (s.commitEpoch p.toNat v) else .fault .noSuchUnit

end Sys2Proof.Machine
end

