-- ==== Sys2Proof/Machine/Lane.lean ====
section
/-!
DEFINITION. Lanes, groups and port configuration of the fronthaul block, with lane faults, equalisation, patterns and
alignment (13_fronthaul_lanes.md, R297 to R302, R317 to R323; the squelch of 02, R64).
-/

namespace Sys2Proof.Machine

/-! ## Groups and rates (R297, R298) -/

/-- The group of a lane. -/
def groupOf (l : Nat) : Nat := if l < 40 then l / 8 else 5

/-- Whether R297 lists a rate code for a group; that of lane 32 in Standby is not one that RATE chooses. -/
def rateOk (g r : Nat) : Bool :=
  if g < 4 then decide (1 ≤ r) && decide (r ≤ 4)
  else if g = 4 then decide (2 ≤ r) && decide (r ≤ 3)
  else decide (r = 1) || decide (r = 5)

/-- The rate in force: RATE, or 0 (off) for a code not listed for the group. -/
def State.grpRate (s : State) (g : Nat) : Nat :=
  if rateOk g (s.get (F.FH_GRP_CFG_RATE g)) then s.get (F.FH_GRP_CFG_RATE g) else 0

/-- The rate of a lane: in Standby lane 32 runs alone of the twin link's, at 10.3125 Gb/s (R297). -/
def State.laneRate (s : State) (l : Nat) : Nat :=
  if groupOf l = 4 && decide (s.get F.PWR_STAT_STATE = 3) then (if l = 32 then 1 else 0) else s.grpRate (groupOf l)

/-- The lanes of the twin link: all eight in one bond, in Standby lane 32 alone (R301). -/
def State.twinLanes (s : State) : List Nat := ((List.range 8).map (32 + ·)).filter (fun l => decide (s.laneRate l ≠ 0))

/-- Whether a lane receives: its clock recovery is locked, and it has a signal. -/
def State.laneRx (s : State) (l : Nat) : Bool := s.on (F.FH_LANE_STAT_CDR_LOCK l) && !s.on (F.FH_LANE_STAT_LOS_NOW l)

/-- Whether the twin link receives. -/
def State.twinRx (s : State) : Bool := !s.twinLanes.isEmpty && s.twinLanes.all s.laneRx

/-- Whether a lane carries no mission data: its generator runs, its driver is parked, or it sends back what it receives (R319,
R320, R322). -/
def State.laneTaken (s : State) (l : Nat) : Bool :=
  (decide (1 ≤ s.get (F.FH_LANE_PRBS_GEN l)) && decide (s.get (F.FH_LANE_PRBS_GEN l) ≤ 6)) || s.on (F.FH_LANE_STAT_SHORT_NOW l) ||
  decide (s.get (F.FH_LANE_CFG_LOOP l) = 3)

/-- Whether a frame leaves whole on the twin link. -/
def State.twinTx (s : State) : Bool := !s.twinLanes.isEmpty && !s.twinLanes.any s.laneTaken

/-- The transmit FFE in force on a lane: that of clause 72 training where it has set one (R302), else FH_LANE_FFE. -/
def State.laneFfe (s : State) (l : Nat) : Word := if l = 40 then s.fh.train.getD (s.reg (R.FH_LANE_FFE l)) else s.reg (R.FH_LANE_FFE l)

/-- Whether the lane runs PAM4. -/
def State.lanePam4 (s : State) (l : Nat) : Bool := decide (s.laneRate l = 3)

/-! ## Port shapes (R299) -/

/-- The lanes a port of a speed has at a rate, 0 where the table has no such port. -/
def portWidth (speed rate : Nat) : Nat :=
  match speed, rate with
  | 1, 1 => 1
  | 2, 2 => 1
  | 3, 3 => 1
  | 4, 2 => 4
  | 4, 3 => 2
  | 5, 3 => 4
  | 6, 3 => 8
  | _, _ => 0

/-- The first lane of a port. -/
def portLane (p : Nat) : Nat := if p = 32 then 40 else p

/-- The lanes of a port as configured; the maintenance port has lane 40 at either of its rates (R302). -/
def State.portLanes (s : State) (p : Nat) : Nat :=
  if p = 32 then (if s.grpRate 5 = 0 then 0 else 1)
  else portWidth (s.get (F.FH_PORT_CFG_SPEED p)) (s.grpRate (p / 8))

/-- Whether a port has an enable bit at 1. -/
def State.portEn (s : State) (p : Nat) : Bool := s.on (F.FH_PORT_CFG_RX_EN p) || s.on (F.FH_PORT_CFG_TX_EN p)

/-- Whether a port has a lane. -/
def State.portHas (s : State) (p l : Nat) : Bool :=
  decide (portLane p ≤ l) && decide (l < portLane p + s.portLanes p)

/-- Whether a port's SPEED fits its group's rate, its alignment and its neighbours' lanes (R299). -/
def State.portFits (s : State) (p : Nat) : Bool :=
  let n := s.portLanes p
  decide (0 < n) && decide (portLane p % n = 0) &&
  !((List.range 33).any (fun q => q ≠ p && s.portEn q &&
    (List.range n).any (fun i => s.portHas q (portLane p + i))))

/-- Whether a group carries an enabled port or JESD link (R298). -/
def State.grpBusy (s : State) (g : Nat) : Bool :=
  (List.range 33).any (fun p => decide (groupOf (portLane p) = g) && s.portEn p) ||
  (List.range 4).any (fun j => (decide (j = g) || (s.on (F.FH_JESD_CFG_TWO j) && decide (j % 2 = 0) && decide (j + 1 = g))) &&
    (s.on (F.FH_JESD_CFG_EN j) || s.on (F.FH_JESD_CFG_RX_EN j) || s.on (F.FH_JESD_CFG_TX_EN j)))

/-! ## Flags with their fault records (R322) -/

/-- A fault flag of a lane has been set: its record. -/
def State.laneReport (s : State) (l : Nat) : State :=
  s.report { mkReport 4 l 0x30 0 with data0 := (s.reg (R.FH_LANE_FAULT l)).toNat }

/-- A status flag of a port has been set: its record. -/
def State.portReport (s : State) (p : Nat) : State :=
  s.report { mkReport 5 p 0x31 0 with data0 := (s.reg (R.FH_PORT_STAT p)).toNat }

/-- A port's link goes down (R300); what training set on lane 40 goes with it (R302). -/
def State.linkDown (s : State) (p : Nat) : State :=
  if s.on (F.FH_PORT_STAT_LINK p) then
    let s1 := ((s.put (F.FH_PORT_STAT_LINK p) 0).flagRep (F.FH_PORT_STAT_LINK_LOST p) (F.FH_PORT_STAT_LOST_REP p)).portReport p
    if p = 32 && s1.fh.train.isSome then ({ s1 with fh := { s1.fh with train := none } } : State).emit (.ffe 40 none) else s1
  else s

/-- The ports that have a lane go down, and the JESD links lose extended multiblock lock. -/
def State.laneDown (s : State) (l : Nat) : State :=
  let s1 := (List.range 33).foldl (fun s p => if s.portHas p l then s.linkDown p else s) s
  (List.range 4).foldl (fun s j =>
    if decide (groupOf l = j) || (s.on (F.FH_JESD_CFG_TWO j) && decide (j % 2 = 0) && decide (groupOf l = j + 1)) then
      s.put (F.FH_JESD_STAT_LOCKED j) 0 else s) s1

/-! ## Synchronous Ethernet (R64) -/

/-- Whether the source lane lets SYNCE_CLKOUT be driven. -/
def State.synceGood (s : State) : Bool :=
  let l := s.get F.TIME_SYNCE_CFG_LANE
  decide (1 ≤ s.laneRate l) && decide (s.laneRate l ≤ 3) && s.on (F.FH_LANE_STAT_CDR_LOCK l) &&
  !(s.on F.TIME_SYNCE_CFG_SQUELCH_AUTO && s.on (F.FH_LANE_STAT_LOS_NOW l))

/-- The rate of a rate code in b/s, and the divisor that makes 156.25 MHz of it (R64). -/
def synceRate (code : Nat) : Nat × Nat :=
  match code with
  | 1 => (10312500000, 66)
  | 2 => (25781250000, 165)
  | _ => (53125000000, 340)

/-- The frequency of SYNCE_CLKOUT while it is driven: DIV above 4 acts as 4 (R64). -/
def State.synceHz (s : State) : Nat :=
  let r := synceRate (s.laneRate (s.get F.TIME_SYNCE_CFG_LANE))
  r.1 / r.2 / 2 ^ min 4 (s.get F.TIME_SYNCE_CFG_DIV)

/-- SYNCE_CLKOUT goes low. -/
def State.synceLow (s : State) : State :=
  if s.on F.TIME_SYNCE_STAT_ACTIVE then (s.put F.TIME_SYNCE_STAT_ACTIVE 0).emit (.synce 0) else s

/-- SYNCE_CLKOUT is driven, or squelched with SRC_BAD: when its source goes bad, or is found bad as `now` asks. -/
def State.synce (s : State) (now : Bool) : State :=
  if !s.on F.TIME_SYNCE_CFG_EN then s.synceLow
  else if s.synceGood then
    if s.on F.TIME_SYNCE_STAT_ACTIVE && !now then s else (s.put F.TIME_SYNCE_STAT_ACTIVE 1).emit (.synce s.synceHz)
  else if s.on F.TIME_SYNCE_STAT_ACTIVE || now then s.synceLow.flagRep F.TIME_SYNCE_STAT_SRC_BAD F.TIME_SYNCE_STAT_SRC_BAD_REP
  else s

/-- A write of TIME_SYNCE_CFG. -/
def State.writeSynce (s : State) (v : Word) : State := (s.writeFields R.TIME_SYNCE_CFG v).synce true

/-! ## Transmit lanes (R318, R320, R322) -/

/-- The lanes of a port in the order in which they carry a frame, each with whether its data is inverted. -/
def State.txLanes (s : State) (p : Nat) : List (Nat × Bool) :=
  let l := (List.range (s.portLanes p)).map (fun i => (portLane p + i, s.on (F.FH_LANE_CFG_TX_INV (portLane p + i))))
  if s.on (F.FH_PORT_CFG_TX_REV p) then l.reverse else l

/-- Whether a test holds of some lane of a port. -/
def State.anyLane (s : State) (p : Nat) (f : Nat → Bool) : Bool := (List.range (s.portLanes p)).any (fun i => f (portLane p + i))

/-- Whether a lane's receiver takes what its own transmitter sends: a near-end loopback (R320). -/
def State.laneLooped (s : State) (l : Nat) : Bool :=
  decide (s.get (F.FH_LANE_CFG_LOOP l) = 1) || decide (s.get (F.FH_LANE_CFG_LOOP l) = 2)

/-- Whether a port receives its own frames. -/
def State.looped (s : State) (p : Nat) : Bool := decide (0 < s.portLanes p) && !s.anyLane p (fun l => !s.laneLooped l)

/-- Whether a port's lanes send back what they receive (R320). -/
def State.echoes (s : State) (p : Nat) : Bool := s.anyLane p (fun l => decide (s.get (F.FH_LANE_CFG_LOOP l) = 3))

/-- The frame that a port has on its lanes is cut on a lane: its bits there are lost (R320, R322). -/
def State.cutLane (s : State) (l : Nat) : State :=
  { s with fh := { s.fh with tx := s.fh.tx.map (fun (e : Nat × PortTx) =>
      if s.portHas e.1 l && e.2.sending then (e.1, { e.2 with cut := true }) else e) } }

/-! ## Patterns (R319) -/

/-- The two taps of a pattern's sequence, in bits back: PRBS7 x^7 + x^6 + 1, PRBS9 x^9 + x^5 + 1, PRBS13 x^13 + x^12 + x^2 + x + 1,
PRBS15 x^15 + x^14 + 1, PRBS23 x^23 + x^18 + 1, PRBS31 x^31 + x^28 + 1. PRESUMED: as ITU-T O.150 and IEEE 802.3 have them. -/
def prbsTaps (code : Nat) : List Nat :=
  match code with
  | 1 => [7, 6]
  | 2 => [9, 5]
  | 3 => [13, 12, 2, 1]
  | 4 => [15, 14]
  | 5 => [23, 18]
  | 6 => [31, 28]
  | _ => []

/-- The bit that a pattern has after the bits `l`, latest first. -/
def prbsNext (code : Nat) (l : List Bool) : Bool := (prbsTaps code).foldl (fun b k => xor b (l.getD (k - 1) false)) false

/-- `n` bits of a pattern after the bits `l`, latest first: the generator's sequence, and what the checker predicts. -/
def prbsSeq (code : Nat) (l : List Bool) : Nat → List Bool
  | 0 => []
  | n + 1 => prbsNext code l :: prbsSeq code (prbsNext code l :: l) n

/-! ## Register writes -/

/-- A write of FH_GRP_CFG: discarded while the group carries an enabled port or link (R298). -/
def State.writeGrp (s : State) (g : Nat) (v : Word) : State :=
  if s.grpBusy g then s.flag (F.FH_GRP_STAT_CFG_BAD g)
  else (s.writeFields (R.FH_GRP_CFG g) v).synce false

/-- Whether a port is enabled with a SPEED of the table that does not fit (R299). -/
def State.portUnfit (s : State) (p : Nat) : Bool :=
  s.portEn p && decide (1 ≤ s.get (F.FH_PORT_CFG_SPEED p)) && decide (s.get (F.FH_PORT_CFG_SPEED p) ≤ 6) && !s.portFits p

/-- A port that does not fit goes or stays down with CFG_BAD (R299). -/
def State.misfit (s : State) (p : Nat) : State := ((s.linkDown p).flag (F.FH_PORT_STAT_CFG_BAD p)).portReport p

/-- A write of FH_PORT_CFG: an enabled port that does not fit stays down, and so does a neighbour whose lanes it takes (R299). -/
def State.writePortCfg (s : State) (p : Nat) (v : Word) : State :=
  let s1 := s.writeFields (R.FH_PORT_CFG p) v
  let s2 := if s1.portEn p && s1.portFits p then s1 else s1.linkDown p
  (List.range 33).foldl (fun t q => if s2.portUnfit q && (decide (q = p) || !s.portUnfit q) then t.misfit q else t) s2

/-- A write of FH_TX_BASE_LO (`hi` false) or FH_TX_CFG: while EN = 1 only EN is taken (R310). -/
def State.writeTxRing (s : State) (p : Nat) (hi : Bool) (v : Word) : State :=
  if !hi then
    if s.on (F.FH_TX_CFG_EN p) then s else s.setReg (R.FH_TX_BASE_LO p) (v &&& 0xFFFFFFC0)
  else if s.on (F.FH_TX_CFG_EN p) then s.put (F.FH_TX_CFG_EN p) (bitsOf v.toNat 13 13)
  else s.writeFields (R.FH_TX_CFG p) v

/-- A write of FH_LANE_CFG; with RX_POL_AUTO = 0 the receive inversion follows RX_POL (R322), and a change of LOOP loses the
frame in flight on the lane (R320). -/
def State.writeLaneCfg (s : State) (l : Nat) (v : Word) : State :=
  let s0 := s.writeFields (R.FH_LANE_CFG l) v
  let s1 := if s0.get (F.FH_LANE_CFG_LOOP l) = s.get (F.FH_LANE_CFG_LOOP l) then s0 else s0.cutLane l
  if s1.on (F.FH_LANE_CFG_RX_POL_AUTO l) then s1
  else s1.put (F.FH_LANE_STAT_RX_INV l) (s1.get (F.FH_LANE_CFG_RX_POL l))

/-- The largest magnitude of DFE tap `t`, 1 to 12 (R317). -/
def tapLimit (t : Nat) : Int := if t ≤ 2 then 127 else 63

/-- A tap value within its range. -/
def tapClamp (t : Nat) (x : Int) : Int := max (-(tapLimit t)) (min (tapLimit t) x)

/-- The field of DFE tap `t` of a lane. -/
def tapField (l t : Nat) : RF := ⟨R.FH_LANE_DFE l ((t - 1) / 4), 8 * ((t - 1) % 4), 8⟩

/-- Tap `t` of a lane. -/
def State.tap (s : State) (l t : Nat) : Int := sgn 8 (s.get (tapField l t))

/-- Tap `t` takes a value, clamped. -/
def State.setTap (s : State) (l t : Nat) (x : Int) : State := s.put (tapField l t) ((tapClamp t x) % 256).toNat

/-- A write of FH_LANE_DFE `k`: taken while ADAPT_FREEZE = 1, each tap clamped (R317). -/
def State.writeDfe (s : State) (l k : Nat) (v : Word) : State :=
  if s.on (F.FH_LANE_CFG_ADAPT_FREEZE l) then
    (List.range 4).foldl (fun s i => s.setTap l (4 * k + i + 1) (sgn 8 (v.toNat >>> (8 * i)))) s
  else s

/-- The sum of the magnitudes of a transmit FFE setting (R318). -/
def ffeSum (v : Word) : Nat :=
  (sgn 4 v.toNat).natAbs + (sgn 6 (v.toNat >>> 4)).natAbs + bitsOf v.toNat 16 10 + (sgn 6 (v.toNat >>> 17)).natAbs +
  (sgn 4 (v.toNat >>> 23)).natAbs

/-- A write of FH_LANE_FFE: discarded with FFE_BAD where the magnitudes sum to more than 64 (R318). -/
def State.writeFfe (s : State) (l : Nat) (v : Word) : State :=
  if 64 < ffeSum v then s.flag (F.FH_LANE_STAT_FFE_BAD l) else s.writeFields (R.FH_LANE_FFE l) v

/-- A write of FH_LANE_PRBS: the generator starts, changes or stops, and cuts the frame in flight (R319); a checker that is turned
off or to another pattern holds no lock. -/
def State.writePrbs (s : State) (l : Nat) (v : Word) : State :=
  let s0 := s.writeFields (R.FH_LANE_PRBS l) v
  let s1 := if s0.get (F.FH_LANE_PRBS_GEN l) % 7 = s.get (F.FH_LANE_PRBS_GEN l) % 7 then s0
    else (s0.cutLane l).emit (.pattern l (s0.get (F.FH_LANE_PRBS_GEN l) % 7))
  if s1.get (F.FH_LANE_PRBS_CHK l) = s.get (F.FH_LANE_PRBS_CHK l) then s1 else s1.put (F.FH_LANE_STAT_CHK_LOCK l) 0

/-- BITSLIP: the receive word boundary shifts by one UI, while BLK_AUTO = 0; a slip while another is busy is refused
(R321). -/
def State.bitslip (s : State) (l : Nat) : State :=
  if s.on (F.FH_LANE_CFG_BLK_AUTO l) then s
  else if s.on (F.FH_LANE_STAT_SLIP_BUSY l) then s.flag (F.FH_LANE_STAT_CMD_REFUSED l)
  else
    let s1 := s.put (F.FH_LANE_STAT_SLIP_BUSY l) 1
    { s1 with fh := { s1.fh with
        slip := mapSet s1.fh.slip 0 l ((mapGet s1.fh.slip 0 l + (if s.lanePam4 l then 2 else 1)) % 66) } }

/-- CNT_CLR: the error counters of a lane clear (R319). -/
def State.cntClr (s : State) (l : Nat) : State := (s.put (F.FH_LANE_PRBS_ERR_ERR l) 0).put (F.FH_LANE_SH_SH_BAD l) 0

/-- A write of FH_LANE_CMD: each of its bits is a command. -/
def State.writeLaneCmd (s : State) (l : Nat) (v : Word) : State :=
  let s1 := if v.getLsbD 0 then s.bitslip l else s
  let s2 := if v.getLsbD 1 then s1.emit (.inject l) else s1
  if v.getLsbD 2 then s2.cntClr l else s2

/-! ## Locks and lane faults (R317, R319, R322) -/

/-- A lane reaches lock: inverted by its own search, it sets POL_INV (R322). -/
def State.laneLocked (s : State) (l : Nat) : State :=
  if s.on (F.FH_LANE_CFG_RX_POL_AUTO l) && s.on (F.FH_LANE_STAT_RX_INV l) then
    (s.flag (F.FH_LANE_FAULT_POL_INV l)).laneReport l
  else s

/-- A receiver's clock recovery locks; adaptation chooses the CTLE setting unless CTLE_MAN = 1 (R317). -/
def State.cdrLock (s : State) (l ctle : Nat) : State :=
  if s.laneRate l = 0 || s.on (F.FH_LANE_STAT_LOS_NOW l) then s
  else
    let s1 := s.put (F.FH_LANE_STAT_CDR_LOCK l) 1
    (if s1.on (F.FH_LANE_CFG_CTLE_MAN l) then s1 else s1.put (F.FH_LANE_CFG_CTLE l) ctle).synce false

/-- A receiver's clock recovery loses lock: what rests on it goes too. -/
def State.cdrLoss (s : State) (l : Nat) : State :=
  if s.on (F.FH_LANE_STAT_CDR_LOCK l) then
    let s1 := ((s.put (F.FH_LANE_STAT_CDR_LOCK l) 0).put (F.FH_LANE_STAT_BLK_LOCK l) 0).put (F.FH_LANE_STAT_CHK_LOCK l) 0
    (((s1.count (1023 + 2 * l) 1).laneDown l).synce false)
  else s

/-- One step of sign-sign LMS: a tap whose bit is 1 in `up` rises by one, in `down` falls, while the receiver is locked
and not frozen (R317). -/
def State.dfeStep (s : State) (l : Nat) (up down : BitVec 12) : State :=
  if s.on (F.FH_LANE_STAT_CDR_LOCK l) && !s.on (F.FH_LANE_CFG_ADAPT_FREEZE l) then
    (List.range 12).foldl (fun s i =>
      s.setTap l (i + 1) (s.tap l (i + 1) + (if up.getLsbD i then 1 else 0) - (if down.getLsbD i then 1 else 0))) s
  else s

/-- The receiver finds no signal and is squelched: its data locks go, its clock recovery is not said to (R322, R64). -/
def State.laneLos (s : State) (l : Nat) : State :=
  if s.on (F.FH_LANE_STAT_LOS_NOW l) then s
  else
    let s1 := ((s.put (F.FH_LANE_STAT_LOS_NOW l) 1).put (F.FH_LANE_STAT_BLK_LOCK l) 0).put (F.FH_LANE_STAT_CHK_LOCK l) 0
    let s2 := (s1.flagRep (F.FH_LANE_FAULT_LOS l) (F.FH_LANE_FAULT_LOS_REP l)).laneReport l
    (s2.laneDown l).synce false

/-- The signal is back (R322). -/
def State.laneSignal (s : State) (l : Nat) : State := (s.put (F.FH_LANE_STAT_LOS_NOW l) 0).synce false

/-- The driver's current limit holds: the driver parks (R322). -/
def State.laneShort (s : State) (l : Nat) : State :=
  if s.on (F.FH_LANE_STAT_SHORT_NOW l) then s
  else
    (((s.put (F.FH_LANE_STAT_SHORT_NOW l) 1).flagRep (F.FH_LANE_FAULT_SHORT l) (F.FH_LANE_FAULT_SHORT_REP l)).laneReport l).cutLane l

/-- Whether a lane has any of the locks that end the polarity search (R322). -/
def State.laneDataLock (s : State) (l : Nat) : Bool :=
  s.on (F.FH_LANE_STAT_BLK_LOCK l) || s.on (F.FH_LANE_STAT_CHK_LOCK l)

/-- A lane with CDR lock and no data lock toggles its receive inversion (R322, R323). -/
def State.polToggle (s : State) (l : Nat) : State :=
  if s.on (F.FH_LANE_CFG_RX_POL_AUTO l) && s.on (F.FH_LANE_STAT_CDR_LOCK l) && !s.laneDataLock l then
    (s.put (F.FH_LANE_STAT_RX_INV l) (1 - s.get (F.FH_LANE_STAT_RX_INV l))).count (1024 + 2 * l) 1
  else s

/-- Whether the checker of a lane is on (R319). -/
def State.prbsOn (s : State) (l : Nat) : Bool :=
  decide (1 ≤ s.get (F.FH_LANE_PRBS_CHK l)) && decide (s.get (F.FH_LANE_PRBS_CHK l) ≤ 6)

/-- A checker that is locked counts mismatching bits (R319). -/
def State.prbsErrs (s : State) (l n : Nat) : State :=
  if s.on (F.FH_LANE_STAT_CHK_LOCK l) then
    s.put (F.FH_LANE_PRBS_ERR_ERR l) (min (2 ^ 32 - 1) (s.get (F.FH_LANE_PRBS_ERR_ERR l) + n))
  else s

/-- The checker locks (R319); `n` bits then mismatch while it is locked. -/
def State.prbsLock (s : State) (l n : Nat) : State :=
  (if s.prbsOn l && !s.on (F.FH_LANE_STAT_CHK_LOCK l) then (s.put (F.FH_LANE_STAT_CHK_LOCK l) 1).laneLocked l else s).prbsErrs l n

/-- The checker unlocks, after `n` more mismatching bits (R319). -/
def State.prbsUnlock (s : State) (l n : Nat) : State := (s.prbsErrs l n).put (F.FH_LANE_STAT_CHK_LOCK l) 0

/-- Receive words of a lane have come: blocks with a bad sync header count, and a slip is done (R321). -/
def State.slipDone (s : State) (l bad : Nat) : State :=
  let s1 := s.put (F.FH_LANE_SH_SH_BAD l) (min 65535 (s.get (F.FH_LANE_SH_SH_BAD l) + bad))
  s1.put (F.FH_LANE_STAT_SLIP_BUSY l) 0

/-- Whether a lane can have block lock: by its own search, or with BLK_AUTO = 0 at a boundary that firmware has found, where SH_BAD
is 0 (R321). -/
def State.aligned (s : State) (l : Nat) : Bool := s.on (F.FH_LANE_CFG_BLK_AUTO l) || decide (s.get (F.FH_LANE_SH_SH_BAD l) = 0)

/-- A port's PCS is locked on every lane: its link is up (R300). Clause 72 training has set lane 40's FFE to `ffe` (R302). -/
def State.linkUp (s : State) (p : Nat) (ffe : Word) : State :=
  if s.portEn p && s.portFits p && !s.on (F.FH_PORT_STAT_LINK p) &&
      (List.range (s.portLanes p)).all (fun i => s.laneRx (portLane p + i) && s.aligned (portLane p + i)) then
    let s1 := (List.range (s.portLanes p)).foldl (fun s i =>
      (s.put (F.FH_LANE_STAT_BLK_LOCK (portLane p + i)) 1).laneLocked (portLane p + i)) (s.put (F.FH_PORT_STAT_LINK p) 1)
    if p = 32 && s.grpRate 5 = 1 then ({ s1 with fh := { s1.fh with train := some ffe } } : State).emit (.ffe 40 (some ffe)) else s1
  else s

/-- The map under which every physical lane carries its own logical lane. -/
def lmapId : BitVec 24 := (List.range 8).foldl (fun (m : BitVec 24) i => m ||| BitVec.ofNat 24 (i <<< (3 * i))) 0

/-- Whether a lane map permutes the lanes of a port of `n` lanes. -/
def lmapOk (n : Nat) (m : BitVec 24) : Bool :=
  (List.range 8).all (fun k => if k < n then (List.range n).any (fun i => bitsOf m.toNat (3 * i + 2) (3 * i) = k)
    else decide (bitsOf m.toNat (3 * k + 2) (3 * k) = k))

/-- The alignment markers give the lane order of a bonded port, or of the twin link as port 33, whose map no register shows
(R322). -/
def State.laneMap (s : State) (p : Nat) (m : BitVec 24) : State :=
  if p = 33 then (if s.twinLanes.length = 8 && lmapOk 8 m then { s with fh := { s.fh with tmap := m } } else s)
  else if 2 ≤ s.portLanes p && lmapOk (s.portLanes p) m then
    let s1 := s.setReg (R.FH_PORT_LMAP p) (m.zeroExtend 32)
    if m = lmapId then s1 else (s1.flag (F.FH_PORT_STAT_LANE_MAP p)).portReport p
  else s

/-! ## Commands -/

/-- A command on lane `l`. -/
def onLane (l : Nat) (s : State) : Host.Outcome State Fault Refusal := if laneOk l then .next s else .fault .noSuchUnit

/-- A command on port `p`. -/
def onPort (p : Nat) (s : State) : Host.Outcome State Fault Refusal := if portOk p then .next s else .fault .noSuchUnit

/-- CDR_ACQUISITION (R317). -/
def execCdrAcquisition (l : BitVec 6) (ctle : BitVec 4) (s : State) : Host.Outcome State Fault Refusal :=
  onLane l.toNat (s.cdrLock l.toNat ctle.toNat)

/-- DFE_ADAPT_STEP (R317). -/
def execDfeAdaptStep (l : BitVec 6) (up down : BitVec 12) (s : State) : Host.Outcome State Fault Refusal :=
  onLane l.toNat (s.dfeStep l.toNat up down)

/-- BITSLIP (R321). -/
def execBitslip (l : BitVec 6) (s : State) : Host.Outcome State Fault Refusal := onLane l.toNat (s.bitslip l.toNat)

/-- SLIP_DONE (R321). -/
def execSlipDone (l : LaneCount) (s : State) : Host.Outcome State Fault Refusal :=
  onLane l.lane.toNat (s.slipDone l.lane.toNat l.n.toNat)

/-- INJECT (R319). -/
def execInject (l : BitVec 6) (s : State) : Host.Outcome State Fault Refusal := onLane l.toNat (s.emit (.inject l.toNat))

/-- CNT_CLR (R319). -/
def execCntClr (l : BitVec 6) (s : State) : Host.Outcome State Fault Refusal := onLane l.toNat (s.cntClr l.toNat)

/-- LOSS_OF_SIGNAL (R322). -/
def execLossOfSignal (l : BitVec 6) (s : State) : Host.Outcome State Fault Refusal := onLane l.toNat (s.laneLos l.toNat)

/-- SIGNAL_RECOVERED (R322). -/
def execSignalRecovered (l : BitVec 6) (s : State) : Host.Outcome State Fault Refusal :=
  onLane l.toNat (s.laneSignal l.toNat)

/-- SHORT_DETECT (R322). -/
def execShortDetect (l : BitVec 6) (s : State) : Host.Outcome State Fault Refusal := onLane l.toNat (s.laneShort l.toNat)

/-- SHORT_RETRY (R322). -/
def execShortRetry (l : BitVec 6) (s : State) : Host.Outcome State Fault Refusal :=
  onLane l.toNat (s.put (F.FH_LANE_STAT_SHORT_NOW l.toNat) 0)

/-- POLARITY_TOGGLE (R322). -/
def execPolarityToggle (l : BitVec 6) (s : State) : Host.Outcome State Fault Refusal :=
  onLane l.toNat (s.polToggle l.toNat)

/-- LANE_MAP (R322). -/
def execLaneMap (p : BitVec 6) (map : BitVec 24) (s : State) : Host.Outcome State Fault Refusal :=
  if p.toNat = 33 then .next (s.laneMap 33 map) else onPort p.toNat (s.laneMap p.toNat map)

/-- LINK_LOST (R300). -/
def execLinkLost (p : BitVec 6) (s : State) : Host.Outcome State Fault Refusal := onPort p.toNat (s.linkDown p.toNat)

/-- CDR_LOCK_LOSS (R64). -/
def execCdrLockLoss (l : BitVec 6) (s : State) : Host.Outcome State Fault Refusal := onLane l.toNat (s.cdrLoss l.toNat)

/-- PORT_LINK_UP (R300). -/
def execPortLinkUp (p : PortUp) (s : State) : Host.Outcome State Fault Refusal :=
  onPort p.port.toNat (s.linkUp p.port.toNat (p.ffe.zeroExtend 32))

/-- PRBS_CHECKER_LOCK (R319). -/
def execPrbsCheckerLock (l : LaneCount) (s : State) : Host.Outcome State Fault Refusal :=
  onLane l.lane.toNat (s.prbsLock l.lane.toNat l.n.toNat)

/-- PRBS_CHECKER_UNLOCK (R319). -/
def execPrbsCheckerUnlock (l : LaneCount) (s : State) : Host.Outcome State Fault Refusal :=
  onLane l.lane.toNat (s.prbsUnlock l.lane.toNat l.n.toNat)

end Sys2Proof.Machine
end

