-- ==== Sys2Proof/Machine/Access.lean ====
section
/-!
DEFINITION. Accesses to memory windows over the fabric: what a target answers (R78 to R82, R276, R279, R284 to R286,
R292, R295, R334), and the reads and writes that engines make inside one of their steps.
-/

namespace Sys2Proof.Machine

/-- The pieces of a range that lie in one 256-byte block each (R267). -/
def blocksOf (a n : Nat) : List (Nat × Nat) :=
  (List.range (n / 256 + 2)).filterMap (fun i =>
    let lo := max a ((a / 256 + i) * 256)
    let hi := min (a + n) ((a / 256 + i + 1) * 256)
    if lo < hi then some (lo, hi - lo) else none)

/-- The whole granules of 64 bytes that a range touches (R249): first address and length. -/
def granules (a n : Nat) : Nat × Nat :=
  if n = 0 then (a, 0) else (a / 64 * 64, ((a + n - 1) / 64 + 1) * 64 - a / 64 * 64)

/-- Whether a core executes in its own right: neither held in core reset nor halted by debug (R80). -/
def State.coreLive (s : State) (c : Nat) : Bool := !s.held c && (s.core c).run ≠ .halted

/-- Whether a retention bank has been released (R295). -/
def State.bankReleased (s : State) (b : Nat) : Bool := s.bit F.MEM_RET_STAT_RELEASED b

/-- What the memory behind a window answers to an access inside one block, once the access has reached it: register space,
which takes single words only (R82), reserved
parts and fenced macros NO_TARGET (R78, R292), unreleased retention banks DOMAIN_OFF (R295), writes to the instruction
memory of a live core RIGHTS (R80), host addresses without a range NO_TARGET (R334). -/
def State.windowResp (s : State) (a : Nat) (write : Bool) : Nat :=
  match tgtOf a with
  | .reg _ => rNoTarget
  | .core c off =>
    if 0x50000 ≤ off then rNoTarget
    else if 0x40000 ≤ off && write && s.coreLive c then rRights
    else rDone
  | .druse _ off => if 0x200000 ≤ off then rNoTarget else rDone
  | .strat t off =>
    if 0x600000 ≤ off then rNoTarget
    else if (s.macroSt (macroOf a)).fenced then rNoTarget
    else match bankOf t off with
      | some b => if s.bankReleased b then rDone else rDomainOff
      | none => rDone
  | .hub _ => if (s.macroSt (macroOf a)).fenced then rNoTarget else rDone
  | .host => if (s.hpa? a).isSome then rDone else rNoTarget
  | .nowhere => rNoTarget

/-- Whether an address lies in a memory window and not in register space. -/
def isMemAddr (a : Nat) : Bool :=
  match tgtOf a with
  | .reg _ => false
  | .nowhere => false
  | _ => true

/-- Whether an access to an address is of the control class (R264). -/
def ctlAddr (a : Nat) : Bool := !isMemAddr a

/-- What an access of an initiator to one block is answered: by its own NI (R276), by a closed stop (R279), or by the
memory. -/
def State.accessResp (s : State) (init a : Nat) (write : Bool) : Nat :=
  match nodeOfAddr a with
  | none => rNoTarget
  | some d =>
    if !(s.route (nodeOfInit init) d).getLsbD 0 then rNoTarget
    else if s.closedOnWay (ctlAddr a) (nodeOfInit init) d then rDomainOff
    else s.windowResp a write

/-- Whether an address is a host address. -/
def isHostAddr (a : Nat) : Bool := decide (tgtOf a = .host)

/-- The answer to an engine's access over a range: that of the first block that is not answered DONE. -/
def State.rangeResp (s : State) (init a n : Nat) (write : Bool) : Nat :=
  match (blocksOf a n).find? (fun b => s.accessResp init b.1 write ≠ rDone) with
  | some b => s.accessResp init b.1 write
  | none => rDone

/-- The lines of a range of device memory that the snoop filter tracks (R340). -/
def State.trackedIn (s : State) (a n : Nat) : List Nat :=
  s.host.snoop.filter (fun x => decide (a / 64 ≤ x) && decide (x ≤ (a + n - 1) / 64) && decide (0 < n))

/-- A back-invalidate snoop of a tracked line by an engine's access, with its answer: BISnpData, or BISnpInv for a write; the
host's modified data comes back to memory, and a write ends the tracking (R340, R341). What the host held is free. -/
def State.biOne (s : State) (inv : Bool) (line : Nat) : State :=
  let s1 := (s.emit (.biSnp line inv)).count 1123 1
  let s2 := if Config.hostDirty s.freeCtr line then
      s1.writeBytes (64 * line) ((List.range 64).map (fun i => Config.hostDirtyByte s.freeCtr (64 * line + i))) else s1
  if inv then { s2 with host := { s2.host with snoop := setErase s2.host.snoop line } } else s2

/-- The snoops that an engine's access to a range of device memory sends before it (R340). -/
def State.snooped (s : State) (a n : Nat) (inv : Bool) : State := (s.trackedIn a n).foldl (fun t x => t.biOne inv x) s

/-- The byte an engine reads: of the host's memory for a host address, with `ns` past every cache, of the device's
otherwise. -/
def State.engByteNs (s : State) (ns : Bool) (a : Nat) : Byte :=
  if isHostAddr a then
    match s.hpa? a with
    | some h => if ns then s.hostNs h else s.hostByteAt h
    | none => 0
  else s.byteAt a

/-- The bytes an engine reads, host caches snooped first. -/
def State.engBytesNs (s : State) (ns : Bool) (a n : Nat) : List Byte :=
  let t := s.snooped a n false
  (List.range n).map (fun i => t.engByteNs ns (a + i))

/-- The bytes an engine reads coherently. -/
def State.engBytes (s : State) (a n : Nat) : List Byte := s.engBytesNs false a n

/-- The answer to an engine's read of exactly a range: an error of a block, else POISON where a byte read fails its parity
(R285), else DONE. -/
def State.exactResp (s : State) (init a n : Nat) : Nat :=
  if s.rangeResp init a n false ≠ rDone then s.rangeResp init a n false
  else if !isHostAddr a && !((s.snooped a n false).badIn a n).isEmpty then rPoison
  else rDone

/-- The answer to an engine's read of the granules that a range touches: an error of a block, else as `exactResp`. -/
def State.readResp (s : State) (init a n : Nat) : Nat :=
  if s.rangeResp init a n false ≠ rDone then s.rangeResp init a n false
  else if !isHostAddr a && !((s.snooped a n false).badIn (granules a n).1 (granules a n).2).isEmpty then rPoison
  else rDone

/-- Lines of host memory that a range touches are asked of the host, and come into the device cache (R335). -/
def State.hostFetchRange (s : State) (a n : Nat) (ns : Bool) : State :=
  (List.range ((granules a n).2 / 64)).foldl (fun s i =>
    match s.hpa? ((granules a n).1 + 64 * i) with
    | some h =>
      let c := s.hostCached ((granules a n).1 + 64 * i) ns
      let s1 := s.hostAskRead (h / 64 * 64) 64 c ns
      if c then s1.dcFetch (h / 64) else s1.count (if ns then 1119 else 1117) 1
    | none => s) s

/-- A miss of the host ranges (R334). -/
def State.rangeMiss (s : State) (a : Nat) : State :=
  if isHostAddr a && (s.hpa? a).isNone then s.flag F.HOST_STAT_RNG_MISS else s

/-- The block at which an engine's access to a range fails. -/
def State.failBlock (s : State) (init a n : Nat) (write : Bool) : Nat :=
  match (blocksOf a n).find? (fun b => s.accessResp init b.1 write ≠ rDone) with
  | some b => b.1
  | none => a

/-- What an engine's read of exactly a range leaves behind: the host's modified lines in memory (R340), the memory's record of
a parity error (R285), the device cache's lines. -/
def State.exactEffect (s : State) (init a n : Nat) (ns : Bool) : State :=
  if s.rangeResp init a n false ≠ rDone then s.rangeMiss (s.failBlock init a n false)
  else if isHostAddr a then (s.hostFetchRange a n ns).fresh
  else (s.snooped a n false).readEffect init a n false

/-- What an engine's read of whole granules leaves behind. -/
def State.engReadEffect (s : State) (init a n : Nat) (ns : Bool) : State :=
  if s.rangeResp init a n false ≠ rDone then s.rangeMiss (s.failBlock init a n false)
  else if isHostAddr a then (s.hostFetchRange a n ns).fresh
  else (s.snooped a n false).readEffect init (granules a n).1 (granules a n).2 false

/-- An engine's write of bytes over a range, once it is answered DONE: host bytes by the path of R335, device bytes
into memory once host caches have given up its lines (R340). -/
def State.engPut (s : State) (a : Nat) (l : List Byte) (ns : Bool) : State :=
  if isHostAddr a then
    match s.hpa? a with
    | some h => (s.hostAskWrite h l.length (s.hostCached a ns) ns).hostWriteBytes h (s.hostCached a ns) ns l
    | none => s
  else (s.snooped a l.length true).writeBytes a l

/-- An engine's write to memory windows: performed block by block, each only where it is answered DONE. -/
def State.engWrite (s : State) (init a : Nat) (l : List Byte) (ns : Bool) : State :=
  (blocksOf a l.length).foldl (fun t b =>
    if t.accessResp init b.1 true = rDone then t.engPut b.1 ((l.drop (b.1 - a)).take b.2) ns
    else t.rangeMiss b.1) s

end Sys2Proof.Machine
end

