-- ==== Sys2Proof/Machine/Control.lean ====
section
/-!
DEFINITION. Control memory: the words that hold queue state, the corridor tables and sieve state, and what every read of one
does with an error of its check bits (R283, R287).
-/

namespace Sys2Proof.Machine

/-! ## The words (R283) -/

/-- The key of 64-bit word `w` of control macro `m`. -/
def ctlKey (m w : Nat) : Nat := m * 8192 + w

/-- The four words of a queue's 32 bytes of state: 2,048 queues to a macro (DEDUCED, log entry 90). -/
def ctlQueue (q : Nat) : List Nat := (List.range 4).map (fun i => ctlKey 3584 0 + 4 * q + i)

/-- The word of a queue that holds a window register. -/
def ctlQueueWord (q w : Nat) : Nat := ctlKey 3584 0 + 4 * q + w % 8 / 2

/-- The word that holds a word of a corridor table. -/
def ctlTable (key : Nat) : Nat := ctlKey 3712 0 + Config.corrWord key % (48 * 8192)

/-- The word of sieve `t` that holds an object: kind 0 a thread, 1 a flow, 2 a token. -/
def ctlSieve (t kind i : Nat) : Nat := ctlKey (3760 + 2 * t) 0 + Config.sieveWord kind i % (2 * 8192)

/-- The memory counter class of a control macro: queue state, corridor tables, sieve state. -/
def ctlClass (m : Nat) : Nat := if m < 3712 then 0 else if m < 3760 then 1 else 2

/-- The queue that a word of queue state belongs to. -/
def ctlQueueOf (k : Nat) : Nat := (k - ctlKey 3584 0) / 4

/-! ## Reads (R287) -/

/-- Whether a read of words meets a double-bit error. -/
def State.ctlBad (s : State) (l : List Nat) : Bool :=
  if s.ctlErr.isEmpty then false else l.any (fun k => decide (2 ≤ mapGet s.ctlErr 0 k))

/-- A double-bit error of control memory (R287): the queue it belongs to is disabled, a table word sets TBL_ERR, sieve
state is a stratum fault. -/
def State.ctlDouble (s : State) (k : Nat) (patrol : Bool) : State :=
  let m := k / 8192
  let s1 := (s.flagRep F.MEM_STAT_CTL_DBE F.MEM_STAT_DBE_REP).count (753 + ctlClass m) 1
  let s2 := s1.setReg R.MEM_ERR_ADDR_HI (BitVec.ofNat 32 (m * 256 + (if patrol then 2 ^ 20 else 0) + 2 ^ 21))
  let s3 := s2.report { mkReport 6 m 0x0A (if ctlClass m = 2 then 4 else 0) with data0 := (s1.reg R.MEM_STAT).toNat }
  if m < 3712 then
    let i := ctlQueueOf k
    let q := mapGet s3.queues QState.reset i
    let s4 := s3.count 503 1
    { s4 with queues := mapSet s4.queues QState.reset i { q with en := false } }.report (mkReport 14 2 0x13 0)
  else if m < 3760 then
    let s4 := s3.flag F.CORR_STAT_TBL_ERR
    s4.report { mkReport 14 11 0x14 0 with data0 := (s4.reg R.CORR_STAT).toNat }
  else s3

/-- One word is read: a single-bit error is corrected in the stored word, a double-bit error acts. -/
def State.ctlWord (s : State) (patrol : Bool) (k : Nat) : State :=
  match mapGet s.ctlErr 0 k with
  | 0 => s
  | 1 => ({ s with ctlErr := mapErase s.ctlErr k }.flag F.MEM_STAT_CTL_SBE).count (750 + ctlClass (k / 8192)) 1
  | _ => s.ctlDouble k patrol

/-- Words of control memory are read by their block. -/
def State.ctlRead (s : State) (l : List Nat) : State :=
  if s.ctlErr.isEmpty then s else l.foldl (fun t k => t.ctlWord false k) s

/-- A word is written: its check bits are valid. -/
def State.ctlWrite (s : State) (k : Nat) : State := { s with ctlErr := mapErase s.ctlErr k }

/-- The sieve state of a die is written with valid check bits, when it regains power (R287). -/
def State.ctlPower (s : State) (n : Nat) : State :=
  { s with ctlErr := s.ctlErr.filter (fun e => decide (e.1 < ctlKey (3760 + 4 * n) 0) || decide (ctlKey (3764 + 4 * n) 0 ≤ e.1)) }

/-! ## Idle gating (R77, R221) -/

/-- The sieve of a stratum ungates its clock: for an event, work of its mover complex, a register access. -/
def State.ungate (s : State) (t : Nat) : State :=
  if (mapGet s.sieves Sieve.reset t).gated then
    { s with sieves := mapSet s.sieves Sieve.reset t { mapGet s.sieves Sieve.reset t with gated := false } }
  else s

/-- Work arrives for a mover complex; complex 8 serves no stratum. -/
def State.moverWork (s : State) (k : Nat) : State := if k < 8 then s.ungate k else s

/-- A register access to a stratum's blocks: its sieve's, or its mover complex's (R77). -/
def State.ungateAt (s : State) (a : Nat) : State :=
  match a / 2 ^ 24 with
  | 3 => s.moverWork (a / 2 ^ 16 % 256)
  | 4 => if a % 2 ^ 24 / 0x40000 < 8 then s.ungate (a % 2 ^ 24 / 0x40000) else s
  | _ => s

end Sys2Proof.Machine
end

