-- ==== Sys2Proof/Machine/Memory.lean ====
section
/-!
DEFINITION. Repair, power loss, initialisation marks, the patrol and the retention banks
(12_memory_protection.md, R283 to R296).
-/

namespace Sys2Proof.Machine

/-! ## Power of the memories (R282) -/

/-- Whether a compute die's rail is on. -/
def State.dieOn (s : State) (n : Nat) : Bool := s.on (F.PWR_DIE_STAT_ON n)

/-- Whether a druse is powered: its switch closed and its die on. -/
def State.druseOn (s : State) (d : Nat) : Bool := s.bit F.PWR_DRUSE_STAT_ON d && s.dieOn (d / 8)

/-- Whether the power domain of a macro is on (R282, R288). -/
def State.macroOn (s : State) (m : Nat) : Bool :=
  if m < 1024 then s.druseOn (m / 32)
  else if m < 1280 then s.druseOn ((m - 1024) / 8)
  else if m < 2304 then s.druseOn ((m - 1280) / 32)
  else if m < 3072 then s.dieOn ((m - 2304) / 192)
  else if m < 3760 then !s.pwr.dormant
  else s.dieOn ((m - 3760) / 4)

/-- The first address of a data macro (R283). -/
def macroBase (m : Nat) : Nat :=
  if m < 1024 then coreWin (m / 4) + m % 4 * 0x10000
  else if m < 1280 then coreWin (m - 1024) + 0x40000
  else if m < 2304 then druseWin ((m - 1280) / 32) + (m - 1280) % 32 * 0x10000
  else if m < 3072 then stratWin ((m - 2304) / 96) + (m - 2304) % 96 * 0x10000
  else hubWin + (m - 3072) * 0x10000

/-! ## Initialisation marks (R290) -/

/-- Whether a macro is declared written. -/
def State.initDone (s : State) (m : Nat) : Bool := s.bit (F.MEM_INIT_DONE_DONE (m / 32)) (m % 32)

/-- The declarations of `n` macros from `m` on are withdrawn. -/
def State.clearInit (s : State) (m n : Nat) : State :=
  (List.range n).foldl (fun s i => s.putBit (F.MEM_INIT_DONE_DONE ((m + i) / 32)) ((m + i) % 32) false) s

/-- A write of MEM_INIT_CLR (R290). -/
def State.initClr (s : State) (n : Nat) (v : Word) : State :=
  s.setReg (R.MEM_INIT_DONE n) (s.reg (R.MEM_INIT_DONE n) &&& ~~~ v)

/-- A druse's memories lose power (R284, R290). -/
def State.loseDruse (s : State) (d : Nat) : State :=
  ((((s.loseRange (coreWin (8 * d)) (8 * 0x80000)).loseRange (druseWin d) 0x400000).clearInit (32 * d) 32).clearInit
    (1024 + 8 * d) 8).clearInit (1280 + 32 * d) 32

/-- A retention bank loses its contents. -/
def State.loseBank (s : State) (b : Nat) : State :=
  (s.loseRange (bankBase b) 0x100000).clearInit (macroOf (bankBase b)) 16

/-- A compute die loses power: its druses and the first 4 MB of its stratum buffers (R284). -/
def State.loseDie (s : State) (n : Nat) : State :=
  let s1 := (List.range 8).foldl (fun s i => s.loseDruse (8 * n + i)) s
  [2 * n, 2 * n + 1].foldl (fun s t => (s.loseRange (stratWin t) 0x400000).clearInit (2304 + 96 * t) 64) s1

/-- The hub buffers lose power, in Dormant (R284). -/
def State.loseHub (s : State) : State := (s.loseRange hubWin 0x2000000).clearInit 3072 512

/-! ## Repair (R291, R292) -/

/-- The druse whose memory a macro belongs to. -/
def macroDruse (m : Nat) : Option Nat :=
  if m < 1024 then some (m / 32)
  else if m < 1280 then some ((m - 1024) / 8)
  else if m < 2304 then some ((m - 1280) / 32)
  else none

/-- What the fuse map makes of a macro: an entry that fails its own check, as one with too many faulty rows or columns,
fences it (R292). -/
def MacroSt.applied (m : MacroSt) : MacroSt :=
  let bad := m.fuseBad || decide (4 < m.rows) || decide (2 < m.cols)
  { m with
    fuseBad := bad
    fenced := m.fenced || bad }

/-- A fenced macro is reported, and fences its druse where it belongs to one (R292). -/
def State.fenceMacro (s : State) (m : Nat) : State :=
  let s1 := (s.put F.MEM_STAT_FENCED 1).report
    { mkReport 6 m 0x0B (if (macroDruse m).isSome then 3 else 0) with data0 := (s.reg R.MEM_STAT).toNat ||| 16 }
  match macroDruse m with
  | some d =>
    let s2 := ((s1.putBit F.GLOBAL_DRUSE_AVAIL_AVAIL d false).putBit F.PWR_DRUSE_STAT_ON d false).setStop (nodeDruse d)
      { s1.stop (nodeDruse d) with closed := true }
    { s2 with ks := { s2.ks with fenced := setIns s2.ks.fenced d } }
  | none => s1

/-- The repair controller reads the fuse map and steers faulty rows and columns to spares (R291). -/
def State.repair (s : State) : State :=
  let l := s.fuse.macros.map (fun (e : Nat × MacroSt) => (e.1, e.2.applied))
  let fenced := l.filter (fun (e : Nat × MacroSt) => e.2.fenced)
  let used := l.filter (fun (e : Nat × MacroSt) => !e.2.fenced && decide (0 < e.2.rows + e.2.cols))
  let s1 := { s with macros := l.foldl (fun (m : List (Nat × MacroSt)) (e : Nat × MacroSt) => mapSet m MacroSt.reset e.1 e.2) [] }
  let s2 := (s1.put F.MEM_REP_SUM_REPAIRED used.length).put F.MEM_REP_SUM_FENCED fenced.length
  fenced.foldl (fun s e => s.fenceMacro e.1) s2

/-- What MEM_REP_STAT reads (R291). -/
def State.repView (s : State) : Word :=
  let m := s.macroSt (s.get F.MEM_REP_SEL_MACRO)
  if 3775 < s.get F.MEM_REP_SEL_MACRO then 0
  else BitVec.ofNat 32 (min 4 m.rows + min 2 m.cols * 16 + (if m.fenced then 256 else 0) + (if m.fuseBad then 512 else 0))

/-- A control memory macro is fenced: the start sequence loads no image (R292). -/
def State.ctlFenced (s : State) : Bool := s.macros.any (fun e => decide (3584 ≤ e.1) && e.2.fenced)

/-! ## Patrol (R288, R289) -/

/-- The macros that patrol engine `e` walks, by position: its die's data macros, then its control macros. -/
def patrolMacro (e j : Nat) : Nat :=
  if e < 4 then
    if j < 256 then 256 * e + j
    else if j < 320 then 1024 + 64 * e + (j - 256)
    else if j < 576 then 1280 + 256 * e + (j - 320)
    else if j < 768 then 2304 + 192 * e + (j - 576)
    else 3760 + 4 * e + (j - 768)
  else if j < 512 then 3072 + j
  else 3584 + (j - 512)

/-- Macros of an engine's walk. -/
def patrolCount (e : Nat) : Nat := if e < 4 then 772 else 688

/-- Whether an engine reads a macro (R288). -/
def State.patrols (s : State) (m : Nat) : Bool :=
  if m < 3584 then s.on F.MEM_PATROL_CFG_EN && s.initDone m && !(s.macroSt m).fenced && s.macroOn m
  else s.on F.MEM_PATROL_CFG_CTL_EN && s.macroOn m

/-- The first position from `j` on whose macro the engine reads. -/
def State.patrolFrom (s : State) (e j : Nat) : Option Nat :=
  ((List.range (patrolCount e)).filter (fun i => decide (j ≤ i))).find? (fun i => s.patrols (patrolMacro e i))

/-- A pass is completed. -/
def State.passDone (s : State) (e : Nat) : State :=
  (s.put F.MEM_PATROL_STAT_PASSES (s.get F.MEM_PATROL_STAT_PASSES + 1)).count (745 + e) 1

/-- A parity error that the patrol finds in a data granule (R285, R288). -/
def State.patrolData (s : State) (a : Nat) : State :=
  match s.badIn a 64 with
  | [] => s
  | x :: _ =>
    if (s.ordinaryBad a 64).isEmpty then s.count (734 + memClass x) 1
    else
      let s1 := s.flagRep F.MEM_STAT_PATROL_ERR F.MEM_STAT_PATROL_REP
      let s2 := (s1.setReg R.MEM_ERR_ADDR_LO (BitVec.ofNat 32 a)).setReg R.MEM_ERR_ADDR_HI
        (BitVec.ofNat 32 (a / 2 ^ 32 % 256 + macroOf a * 256 + 2 ^ 20))
      s2.report { mkReport 6 (macroOf a) 0x09 0 with
        sub := rPoison
        addr := x
        data0 := (s1.reg R.MEM_STAT).toNat }

/-- What the patrol does with a granule of control memory: it corrects a single-bit error and reports a double-bit one
(R287, R288). -/
def State.patrolCtl (s : State) (m g : Nat) : State :=
  if s.ctlErr.isEmpty then s else (List.range 8).foldl (fun t i => t.ctlWord true (ctlKey m (8 * g + i))) s

/-- One read of a patrol engine (R288). -/
def State.patrolRead (s : State) (e : Nat) : State :=
  let p := mapGet s.patrol (0, 0) e
  let start : Option (Nat × Nat × State) :=
    if s.patrols (patrolMacro e p.1) then some (p.1, p.2, s)
    else match s.patrolFrom e (p.1 + 1) with
      | some j => some (j, 0, s)
      | none => match s.patrolFrom e 0 with
        | some j => some (j, 0, if p = (0, 0) then s else s.passDone e)
        | none => none
  match start with
  | none => s
  | some (j, g, s0) =>
    let m := patrolMacro e j
    let s1 := (if m < 3584 then s0.patrolData (macroBase m + 64 * g) else s0.patrolCtl m g).count (740 + e) 1
    let s2 := if e = 4 then s1.put F.MEM_PATROL_STAT_MACRO m else s1
    let at_ (t : State) (x : Nat × Nat) : State := { t with patrol := mapSet t.patrol (0, 0) e x, freeCtr := t.freeCtr + 1 }
    if g < 1023 then at_ s2 (j, g + 1)
    else match s.patrolFrom e (j + 1) with
      | some j' => at_ s2 (j', 0)
      | none => at_ (s2.passDone e) (0, 0)

/-! ## Retention banks (R293 to R296) -/

/-- Whether Standby entry arms the sentinel of a bank (R293). -/
def State.armable (s : State) (b : Nat) : Bool :=
  s.bit F.MEM_RET_CFG_KEEP b &&
  (List.range 16).all (fun i => s.initDone (macroOf (bankBase b) + i) && !(s.macroSt (macroOf (bankBase b) + i)).fenced)

/-- Standby entry: RELEASED clears, the sentinels of the banks to keep are armed, each with its item's EFF (R293, R295,
R401). -/
def State.armBanks (s : State) : State :=
  (List.range 16).foldl (fun s b => s.putBit F.MEM_RET_STAT_ARMED b (s.armable b))
    ({ s with
      tripped := []
      retHold := ((List.range 16).filter s.armable).map (fun b => (b, s.get (F.CAL_ITEM_EFF_EFF (21 + b)))) }.put
        F.MEM_RET_STAT_RELEASED 0)

/-- The hold level of an armed bank, in mV: 0.400 V and 5 mV for each code (R398), by the code it was armed with (R401). -/
def State.holdMv (s : State) (b : Nat) : Nat := 400 + 5 * mapGet s.retHold 0 b

/-- The retention supply of a bank has fallen to `mv`: an armed sentinel latches a trip where that is below its hold level
(R293). -/
def State.sentinelTrip (s : State) (b mv : Nat) : State :=
  if s.bit F.MEM_RET_STAT_ARMED b && decide (mv < s.holdMv b) then
    let s1 := s.loseRange (bankBase b) 0x100000
    { s1.count 758 1 with tripped := setIns s1.tripped b }
  else s

/-- The 64-bit words of a bank that are stored poison. -/
def State.bankPoison (s : State) (b : Nat) : Nat :=
  (s.badPar.filter (fun x => decide (bankBase b ≤ x) && decide (x < bankBase b + 0x100000) && decide (x % 8 = 0) &&
    s.wordPoisoned x)).length

/-- Whether the scan of a bank meets a parity error that is not stored poison; of unwritten bytes it may (R284, R294). -/
def State.scanFails (s : State) (b : Nat) : Bool :=
  s.badPar.any (fun x => decide (bankBase b ≤ x) && decide (x < bankBase b + 0x100000) && !s.wordPoisoned x) ||
  (decide ((s.mem.filter (fun c => decide (bankBase b ≤ c.1) && decide (c.1 < bankBase b + 0x100000))).length < 0x100000) &&
    Config.unwrittenRecord s.freeCtr)

/-- Why a bank is lost at wake: 0 retained, 1 SENTINEL, 2 PARITY, 3 NOT_KEPT. -/
def State.bankCause (s : State) (b : Nat) : Nat :=
  if !s.bit F.MEM_RET_STAT_ARMED b then 3
  else if s.tripped.contains b then 1
  else if s.scanFails b then 2
  else 0

/-- The wake's check of a bank ends: released as retained, or marked lost (R294). -/
def State.bankEnd (s : State) (b : Nat) : State :=
  let c := s.bankCause b
  let s0 := if c = 0 || c = 2 then s.count 738 (s.bankPoison b) else s
  let s1 := { ((s0.putBit F.MEM_RET_STAT_ARMED b false).putBit F.MEM_RET_STAT_RELEASED b true) with
    freeCtr := s.freeCtr + 1
    retHold := mapErase s.retHold b }
  let s2 := s1.setReg R.MEM_RET_CAUSE (withField (s1.reg R.MEM_RET_CAUSE) ⟨R.MEM_RET_CAUSE, 2 * b, 2⟩ c)
  if c = 0 then s2.count 757 1
  else
    ((s2.flagBitRep F.MEM_RET_LOST_LOST F.MEM_RET_LOST_LOST_REP b).clearInit (macroOf (bankBase b)) 16).count 756 1 |>.report
      { mkReport 6 (macroOf (bankBase b)) 0x0C 0 with data0 := c }

/-! ## Commands -/

/-- PATROL_READ (R288). -/
def execPatrolRead (e : BitVec 3) (s : State) : Host.Outcome State Fault Refusal :=
  if e.toNat < 5 then .next (s.patrolRead e.toNat) else .fault .noSuchUnit

/-- CLR (R290). -/
def execClr (n : BitVec 7) (v : BitVec 32) (s : State) : Host.Outcome State Fault Refusal :=
  if n.toNat < 112 then .next (s.initClr n.toNat v) else .fault .noSuchUnit

/-- SENTINEL_TRIP (R293). -/
def execSentinelTrip (b : BankSupply) (s : State) : Host.Outcome State Fault Refusal :=
  .next (s.sentinelTrip b.bank.toNat b.mv.toNat)

end Sys2Proof.Machine
end

