-- ==== Sys2Proof/Machine/Cal.lean ====
section
/-!
DEFINITION. Temperature-triggered calibration (17_calibration.md, R395 to R407) and the temperature faults of R428.
-/

namespace Sys2Proof.Machine

/-! ## Items and taps (R398 to R400) -/

/-- The largest tap of an item's range. -/
def itemMax (i : Nat) : Nat :=
  if i < 16 then 63 else if i < 21 then 127 else if i < 37 then 63 else if i < 105 then 1023 else 63

/-- The die of an item. -/
def itemDie (i : Nat) : Nat :=
  if i < 16 then i / 4 else if i < 21 then i - 16 else if i < 37 then (i - 21) / 4 else 4

/-- The items of a die, in ascending index. -/
def dieItems (n : Nat) : List Nat := (List.range 146).filter (fun i => itemDie i = n)

/-- EFF of an item: clamp(FUSE + USER, 0, the largest tap). -/
def State.calEff (s : State) (i : Nat) : Nat :=
  (max 0 (min (itemMax i : Int) ((s.get (F.CAL_ITEM_FUSE_FUSE i) : Int) + sgn 16 (s.get (F.CAL_ITEM_USER_USER i))))).toNat

/-- EFF and WALK of an item follow its values. -/
def State.calRefresh (s : State) (i : Nat) : State :=
  (s.put (F.CAL_ITEM_EFF_EFF i) (s.calEff i)).put (F.CAL_ITEM_APPLIED_WALK i)
    (if s.get (F.CAL_ITEM_APPLIED_APPLIED i) = s.calEff i then 0 else 1)

/-- The fused values of the items, and APPLIED at FUSE where the taps are loaded (R399). -/
def State.calFuses (s : State) (applied : Bool) : State :=
  (List.range 146).foldl (fun s i =>
    let f := (mapGet s.fuse.cal 0 i).toNat
    let s1 := s.put (F.CAL_ITEM_FUSE_FUSE i) f
    (if applied then s1.put (F.CAL_ITEM_APPLIED_APPLIED i) f else s1).calRefresh i) s

/-- An item's tap moves one step toward EFF. -/
def State.tapStep1 (s : State) (i : Nat) : State :=
  let a := s.get (F.CAL_ITEM_APPLIED_APPLIED i)
  let e := s.get (F.CAL_ITEM_EFF_EFF i)
  if a = e then s
  else ((s.put (F.CAL_ITEM_APPLIED_APPLIED i) (if a < e then a + 1 else a - 1)).calRefresh i).count 1159 1

/-- Every tap that differs from EFF moves one step (R400); none in Dormant (R407). -/
def State.tapStep (s : State) : State := if s.pwr.dormant then s else (List.range 146).foldl State.tapStep1 s

/-- A write of CAL_ITEM_USER. -/
def State.writeCalUser (s : State) (i : Nat) (v : Word) : State := (s.writeFields (R.CAL_ITEM_USER i) v).calRefresh i

/-! ## Temperatures (R395, R396) -/

/-- The die of a sensor; 4 is the hub die. -/
def sensorDie (k : Nat) : Nat := if k < 24 then k / 6 else 4

/-- The reading of a sensor, in 1/16 °C. -/
def State.reading (s : State) (k : Nat) : Int := sgn 12 (s.get (F.CAL_TEMP_TEMP k))

/-- The valid sensors of a die. -/
def State.validSensors (s : State) (n : Nat) : List Nat :=
  (List.range 32).filter (fun k => decide (sensorDie k = n) && s.on (F.CAL_TEMP_VALID k))

/-- The valid sensor of a die with the highest reading, the lowest-numbered of equals. -/
def State.hottest (s : State) (n : Nat) : Option Nat :=
  (s.validSensors n).find? (fun k => (s.validSensors n).all (fun j => decide (s.reading j ≤ s.reading k)))

/-- The temperature of a die. -/
def State.dieTemp (s : State) (n : Nat) : Option Int := (s.hottest n).map s.reading

/-- Whether a die is powered. -/
def State.diePowered (s : State) (n : Nat) : Bool := if n < 4 then s.dieOn n else !s.pwr.dormant

/-! ## Runs (R397, R403 to R407) -/

/-- A run of a die starts. -/
def State.calStart (s : State) (n : Nat) : State :=
  let s1 := match s.dieTemp n with
    | some t => s.put (F.CAL_DIE_LAST n) (t % 4096).toNat
    | none => s
  let s2 := s1.putBit F.CAL_STAT_BUSY n true
  { s2 with cal := { s2.cal with done := mapIns s2.cal.done n 0 } }

/-- A trigger or a command for a die: a run starts, or one is pending after the one in progress (R405). -/
def State.calTrigger (s : State) (n : Nat) : State :=
  if !s.diePowered n then s
  else if s.bit F.CAL_STAT_BUSY n then (s.putBit F.CAL_STAT_PEND n true).count 1160 1
  else s.calStart n

/-- A run of a die ends (R403, R405). -/
def State.calEnd (s : State) (n : Nat) : State :=
  let s1 := ((s.putBit F.CAL_STAT_BUSY n false).put (F.CAL_DIE_RUNS n) (s.get (F.CAL_DIE_RUNS n) + 1)).flag F.CAL_STAT_DONE
  let s2 := { s1.count (1153 + n) 1 with cal := { s1.cal with done := mapErase s1.cal.done n } }
  if s2.bit F.CAL_STAT_PEND n then (s2.putBit F.CAL_STAT_PEND n false).calStart n else s2

/-- Whether an item can be measured: a lane's offset and a port's timestamps need their lanes locked (R404). -/
def State.itemLocked (s : State) (i : Nat) : Bool :=
  if i < 37 then true
  else if i < 105 then
    let p := (i - 37) / 2
    if p = 33 then (List.range 8).any (fun l => s.on (F.FH_LANE_STAT_CDR_LOCK (32 + l)))
    else decide (0 < s.portLanes p) &&
      (List.range (s.portLanes p)).all (fun l => s.on (F.FH_LANE_STAT_CDR_LOCK (portLane p + l)))
  else s.on (F.FH_LANE_STAT_CDR_LOCK (i - 105))

/-- The next item of a die's run has been measured, or is skipped for want of lock (R403, R404). -/
def State.itemMeasured (s : State) (n : Nat) (code : Nat) (lock : Bool) : State :=
  match if s.bit F.CAL_STAT_BUSY n then mapFind? s.cal.done n else none with
  | none => s
  | some k =>
    let i := (dieItems n).getD k 0
    let skip : Bool := decide (37 ≤ i) && !(lock && s.itemLocked i)
    let s1 := if skip then (s.flagRep F.CAL_STAT_SKIPPED F.CAL_STAT_SKIPPED_REP).count 1158 1
      else (s.put (F.CAL_ITEM_USER_USER i) (((code : Int) - s.get (F.CAL_ITEM_FUSE_FUSE i)) % 65536).toNat).calRefresh i
    if k + 1 < (dieItems n).length then { s1 with cal := { s1.cal with done := mapIns s1.cal.done n (k + 1) } }
    else s1.calEnd n

/-- Runs of some dies end where they stand, with nothing pending (R407). -/
def State.calStop (s : State) (l : List Nat) : State :=
  l.foldl (fun s n =>
    let s1 := (s.putBit F.CAL_STAT_BUSY n false).putBit F.CAL_STAT_PEND n false
    { s1 with cal := { s1.cal with done := mapErase s1.cal.done n } }) s

/-- At Live each die's LAST takes its temperature, and with LIVE_RUN every powered die runs (R406). -/
def State.calLive (s : State) : State :=
  let s1 := (List.range 5).foldl (fun s n => match s.dieTemp n with
    | some t => s.put (F.CAL_DIE_LAST n) (t % 4096).toNat
    | none => s) s
  if s1.on F.CAL_CTRL_LIVE_RUN then (List.range 5).foldl State.calTrigger s1 else s1

/-- Temperature faults at a die's evaluation (R428): once per crossing of 115 °C, and of 125 °C on a compute die. -/
def State.thermal (s : State) (n k : Nat) (t : Int) : State :=
  let mark (s : State) (x : Nat) (on : Bool) : State := { s with ks := { s.ks with
    hot := if on then setIns s.ks.hot x else setErase s.ks.hot x } }
  let s1 := if decide (1840 ≤ t) && !s.ks.hot.contains n then s.report (mkReport 10 k 0x2B 0) else s
  let s2 := if decide (2000 ≤ t) && decide (n < 4) && !s.ks.hot.contains (8 + n) then s1.report (mkReport 10 k 0x2B 5) else s1
  mark (mark s2 n (decide (1840 ≤ t))) (8 + n) (decide (2000 ≤ t))

/-- A sensor converts, and its die's temperature is evaluated (R395 to R397). -/
def State.sensor (s : State) (k t : Nat) (ok : Bool) : State :=
  let n := sensorDie k
  if !s.diePowered n then s
  else
    let s1 := if ok then (s.put (F.CAL_TEMP_TEMP k) t).put (F.CAL_TEMP_VALID k) 1 else s.put (F.CAL_TEMP_VALID k) 0
    match s1.hottest n with
    | none =>
      if s1.cal.noTemp.contains n then s1
      else { s1.report (mkReport 13 n 0x2C 0) with cal := { s1.cal with noTemp := setIns s1.cal.noTemp n } }
    | some h =>
      let x := s1.reading h
      let s2 := ({ s1 with cal := { s1.cal with noTemp := setErase s1.cal.noTemp n } } : State).thermal n h x
      let far := (x - sgn 12 (s2.get (F.CAL_DIE_LAST n))).natAbs
      if s2.on F.CAL_CTRL_AUTO_EN && decide (s2.get F.BOOT_STAT_PHASE = 8) &&
          decide (16 * max 1 (s2.get F.CAL_CTRL_DELTA) < far) then s2.calTrigger n
      else s2

/-- A write of CAL_CMD. -/
def State.calRun (s : State) (v : Nat) : State :=
  (List.range 5).foldl (fun s n => if v.testBit n then s.calTrigger n else s) s

/-! ## Commands -/

/-- SENSOR_CONVERSION (R395, R396). -/
def execSensorConversion (k : BitVec 5) (t : BitVec 12) (ok : Bool) (s : State) : Host.Outcome State Fault Refusal :=
  .next (s.sensor k.toNat t.toNat ok)

/-- RUN (R397). -/
def execRun (v : BitVec 5) (s : State) : Host.Outcome State Fault Refusal := .next (s.calRun v.toNat)

/-- ITEM_MEASURED (R403, R404). -/
def execItemMeasured (e : BitVec 3) (code : BitVec 10) (lock : Bool) (s : State) : Host.Outcome State Fault Refusal :=
  if dieOk e.toNat then .next (s.itemMeasured e.toNat code.toNat lock) else .fault .noSuchUnit

/-- TAP_STEP (R400). -/
def execTapStep (s : State) : Host.Outcome State Fault Refusal := .next s.tapStep

end Sys2Proof.Machine
end

