-- ==== Sys2Proof/Machine/Queue.lean ====
section
/-!
DEFINITION. MSI-X notifications (R332) and the hardware queues (10_queues_and_movers.md, R233 to R245).
-/

namespace Sys2Proof.Machine

/-! ## MSI-X (R332, R326) -/

/-- Whether the port can send a message of a vector now: neither mask set, Bus Master Enable set, the link not in the L1 of
Standby. -/
def State.msixOpen (s : State) (v : Nat) : Bool :=
  !s.on (F.HOST_MSIX_VCTRL_MASK v) && !s.host.fnMask && s.host.busMaster && decide (s.get F.HOST_LINK_SPEED ≠ 0) && !s.host.l1

/-- A message goes out; a link in ASPM L1 returns to L0 for it (R344). -/
def State.msixSend (s : State) (v : Nat) : State :=
  let s1 := (s.count 1127 1).emit
    (.msix v (s.reg (R.HOST_MSIX_ADDR_HI v) ++ s.reg (R.HOST_MSIX_ADDR_LO v)) (s.reg (R.HOST_MSIX_DATA v)))
  { s1 with host := { s1.host with idleL1 := false } }

/-- A vector whose earlier writes are completed: the message is sent, or the vector's pending bit is set (R332). -/
def State.msixNow (s : State) (v : Nat) : State :=
  if s.msixOpen v then s.msixSend v
  else if s.bit (F.HOST_MSIX_PBA_PEND (v / 32)) (v % 32) then s
  else (s.putBit (F.HOST_MSIX_PBA_PEND (v / 32)) (v % 32) true).count 1128 1

/-- The device writes to host memory that wait at the HOST stop. -/
def State.hostWrites (s : State) : List (BitVec 12 × BitVec 12) :=
  (s.host.reqs.filter (fun p => decide (p.op ≠ 0))).map (fun p => (p.init, p.txn))

/-- A block names a vector: at once, or once the device writes that reached the HOST stop before are completed (R333); a
vector above 2,047, or one that R326 has reset, drops it (R332). -/
def State.msix (s : State) (v : Nat) : State :=
  if 2048 ≤ v || s.host.msiDrop then s
  else if s.hostWrites.isEmpty then s.msixNow v
  else { s with host := { s.host with msiHold := s.host.msiHold ++ [(v, s.hostWrites)] } }

/-- A device write to host memory is completed: notifications that waited for it alone go on, in their order (R333). -/
def State.msixRelease (s : State) (w : BitVec 12 × BitVec 12) : State :=
  let l := s.host.msiHold.map (fun e => (e.1, e.2.erase w))
  ((l.filter (fun e => e.2.isEmpty)).foldl (fun t e => t.msixNow e.1)
    { s with host := { s.host with msiHold := l.filter (fun e => !e.2.isEmpty) } })

/-- A pending vector is sent once mask and enable allow (R332), and the writes before it at the HOST stop are completed
(R333). -/
def State.msixPending (s : State) (v : Nat) : State :=
  if s.bit (F.HOST_MSIX_PBA_PEND (v / 32)) (v % 32) && s.msixOpen v && s.hostWrites.isEmpty then
    (s.putBit (F.HOST_MSIX_PBA_PEND (v / 32)) (v % 32) false).msixSend v
  else s

/-! ## Token mirrors (R227, R229) -/

/-- The queue manager as a receiver of token notices; sieve `t` is `t`, mover complex `k` is `8 + k`, mill `n` is `17 + n`. -/
def recvQm : Nat := 21

/-- The stop of a receiver. -/
def recvNode (r : Nat) : Nat :=
  if r < 8 then nodeStratum r
  else if r < 16 then nodeStratum (r - 8)
  else if r = 16 then nodeSpine 6
  else if r < 21 then nodeMill (r - 17)
  else nodeSpine 4

/-- A receiver's mirror of a token. -/
def State.mirror (s : State) (r tok : Nat) : TokState := mapGet s.mirrors .open_ (r * 32768 + tok)

/-- A mirror takes a state. -/
def State.setMirror (s : State) (r tok : Nat) (x : TokState) : State :=
  { s with mirrors := mapSet s.mirrors .open_ (r * 32768 + tok) x }

/-! ## Queue state (R233 to R236) -/

/-- A queue. -/
def State.q (s : State) (i : Nat) : QState := mapGet s.queues QState.reset i

/-- A queue's state is replaced. -/
def State.setQ (s : State) (i : Nat) (q : QState) : State := { s with queues := mapSet s.queues QState.reset i q }

/-- Fill level (R236). -/
def QState.fill (q : QState) : Nat := (q.tail + 2 ^ 21 - q.head) % 2 ^ 21

/-- Entries that the ring still has room for, those already accepted counted (R237, R244). -/
def QState.room (q : QState) : Nat := 2 ^ q.dlog - (q.fill + q.toAdmit)

/-- Whether the queue takes doorbells and delivers: EN, and no written EN = 0 (R245). -/
def QState.open_ (q : QState) : Bool := q.en && !q.closing

/-- Entry size in bytes. -/
def QState.size (q : QState) : Nat := 16 * 2 ^ q.esize

/-- The payload address of entry counter `n`. -/
def QState.slot (q : QState) (n : Nat) : Nat := q.base + n % 2 ^ q.dlog * q.size

/-- The metadata address of entry counter `n`. -/
def QState.metaAt (q : QState) (n : Nat) : Nat := q.meta_ + n % 2 ^ q.dlog * 8

/-- A threshold in entries: units of 2^TS (R236). -/
def QState.scale (q : QState) (x : Nat) : Nat := x * 2 ^ (q.dlog - 16)

/-- An error of a queue is recorded in QMGR_ERR_QID. -/
def State.qErr (s : State) (i kind : Nat) : State := (s.put F.QMGR_ERR_QID_QID i).put F.QMGR_ERR_QID_KIND kind

/-- META_ERR with its fault record (R238). -/
def State.metaErr (s : State) (i : Nat) : State :=
  let s1 := ((s.flagRep F.QMGR_STAT_META_ERR F.QMGR_STAT_META_ERR_REP).qErr i 3).count 501 1
  s1.report { mkReport 14 2 0x12 0 with
    init := 0x120
    addr := i
    data0 := (s1.reg R.QMGR_STAT).toNat }

/-- The metadata word of an entry in memory: the answer to the read of its 8 bytes, and them. -/
def State.metaRead (s : State) (q : QState) (n : Nat) : Nat × List Byte :=
  (s.exactResp 0x120 (q.metaAt n) 8, s.engBytesNs q.ns (q.metaAt n) 8)

/-- What the read leaves behind. -/
def State.metaEffect (s : State) (q : QState) (n : Nat) : State := s.exactEffect 0x120 (q.metaAt n) 8 q.ns

/-- TOKEN of a metadata word. -/
def metaTok (l : List Byte) : Nat := fieldAt l 6 2 % 2 ^ 15
/-- TOK_V of a metadata word. -/
def metaTokV (l : List Byte) : Bool := (fieldAt l 6 2).testBit 15
/-- Whether a metadata word says void (R235). -/
def metaVoid (l : List Byte) : Bool := !metaTokV l && decide (metaTok l ≠ 0)

/-! ## Thresholds (R243) -/

/-- A threshold's notification: the event, and the MSI-X vector. -/
def State.qNotify (s : State) (i : Nat) (high : Bool) : State :=
  let q := s.q i
  let s1 := s.count (if high then 498 else 499) 1
  let s2 := if (if high then q.highEvt else q.lowEvt) then
      s1.sendEvent 0x120 q.strata q.eventId (i + (if high then 2 ^ 18 else 0)) none else s1
  if (if high then q.highMsi else q.lowMsi) then (s2.count 500 1).msix q.vector else s2

/-- What the queue manager knows of an entry beside its metadata in memory: `none` nothing. -/
def QState.mark (q : QState) (n : Nat) : Option (Option Nat) := mapFind? q.marks n

/-- The token under which QMGR_TOK_CNT counts an entry. -/
def QState.counted (q : QState) (n : Nat) : Option Nat := (q.mark n).getD none

/-- The test of R243 after a change of fill level. -/
def State.qTest (s : State) (i : Nat) : State :=
  let q := s.q i
  if !q.open_ then s
  else if !q.level && decide (q.scale q.high ≤ q.fill) then (s.setQ i { q with level := true }).qNotify i true
  else if q.level && decide (q.fill ≤ q.scale q.low) then (s.setQ i { q with level := false }).qNotify i false
  else s

/-! ## Admission (R237, R238) -/

/-- One more entry carries a token. -/
def State.tokAdd (s : State) (tok : Nat) : State :=
  { s with tokCnt := mapSet s.tokCnt 0 tok (min (2 ^ 32 - 1) (mapGet s.tokCnt 0 tok + 1)) }

/-- One entry fewer carries a token. -/
def State.tokSub (s : State) (tok : Nat) : State := { s with tokCnt := mapSet s.tokCnt 0 tok (mapGet s.tokCnt 0 tok - 1) }

/-- The fates of an entry at admission (R238). -/
inductive Fate where
  | live (tok : Option Nat)
  | metaErr
  | badToken
  | squashed
  deriving DecidableEq, Repr

/-- The fate that R238 gives an entry with a metadata word read with an answer. -/
def State.fate (s : State) (q : QState) (resp : Nat) (l : List Byte) : Fate :=
  if resp ≠ rDone then .metaErr
  else if metaVoid l then .badToken
  else if metaTokV l && !q.tokq then .badToken
  else if metaTokV l && decide (s.mirror recvQm (metaTok l) = .squashed) then .squashed
  else .live (if metaTokV l then some (metaTok l) else none)

/-- The flags and counts of a fate. -/
def State.fateEffect (s : State) (i : Nat) : Fate → State
  | .live tok =>
    let s1 := s.count 488 1
    (match tok with
     | some t => s1.tokAdd t
     | none => s1)
  | .metaErr => (s.count 490 1).metaErr i
  | .badToken => ((s.count 490 1).flag F.QMGR_STAT_ENTRY_VOID).qErr i 4
  | .squashed => s.count 490 1

/-- Whether a fate is void. -/
def Fate.void : Fate → Bool
  | .live _ => false
  | _ => true

/-- What is kept of an admitted entry: that it is void, which its mark in memory may not say (R238), or the token it is counted
under. -/
def Fate.mark (f : Fate) (n : Nat) (l : List (Nat × Option Nat)) : List (Nat × Option Nat) :=
  match f with
  | .live (some t) => mapIns l n (some t)
  | .live none => mapErase l n
  | _ => mapIns l n none

/-- The first entry of the accepted doorbells is admitted (R238): its fate, its STAMP, TAIL. A void entry is marked by
TOKEN = 0x7FFF with TOK_V = 0 (R235). A failing write of STAMP sets META_ERR. An uncorrectable error of the queue's state
has disabled it (R245, R287), and admits nothing. -/
def State.admitOne (s : State) (i : Nat) : State :=
  let q := s.q i
  if q.toAdmit = 0 then s
  else if s.ctlBad (ctlQueue i) then s.ctlRead (ctlQueue i)
  else
    let s0 := s.ctlRead (ctlQueue i)
    let r := s0.metaRead q q.tail
    let f := s0.fate q r.1 r.2
    let s1 := (s0.metaEffect q q.tail).fateEffect i f
    let bad := decide (s1.rangeResp 0x120 (q.metaAt q.tail) 8 true ≠ rDone)
    let s2 := s1.engWrite 0x120 (q.metaAt q.tail) (toBytes 4 s.now.toNat) q.ns
    let s3 := if f.void then s2.engWrite 0x120 (q.metaAt q.tail + 6) [0xFF, 0x7F] q.ns else s2
    let s4 := if bad then s3.metaErr i else s3
    (s4.setQ i { s4.q i with
      tail := (q.tail + 1) % 2 ^ 21
      toAdmit := q.toAdmit - 1
      marks := f.mark q.tail (s4.q i).marks }).qTest i

/-- A produce doorbell (R237). -/
def State.produce (s : State) (i n : Nat) : State :=
  let s := s.ctlRead (ctlQueue i)
  let q := s.q i
  let s0 := s.count 492 1
  if n = 0 then s0
  else if !q.open_ then ((s0.flag F.QMGR_STAT_DB_OFF).qErr i 2).count 494 1
  else if q.room < n then ((s0.flagRep F.QMGR_STAT_DB_FULL F.QMGR_STAT_DB_FULL_REP).qErr i 0).count 494 1
  else s0.setQ i { q with toAdmit := q.toAdmit + n }

/-! ## Consuming (R240, R241) -/

/-- The token that an entry is counted under is counted one less. -/
def State.uncount (s : State) (t : Option Nat) : State :=
  match t with
  | some x => s.tokSub x
  | none => s

/-- The entry at HEAD leaves the ring: its token's count falls unless its delivery has lowered it (R242). -/
def State.passHead (s : State) (i : Nat) : State :=
  let q := s.q i
  (s.setQ i { q with
    head := (q.head + 1) % 2 ^ 21
    taken := false
    marks := mapErase q.marks q.head }).uncount (q.counted q.head)

/-- Entries leave the ring. -/
def State.passHeads (s : State) (i : Nat) : Nat → State
  | 0 => s
  | n + 1 => (s.passHead i).passHeads i n

/-- Whether an entry was admitted void. -/
def QState.void (q : QState) (n : Nat) : Bool := decide (q.mark n = some none)

/-- Whether the entry at HEAD is passed over: void, squashed, or with unreadable metadata; not once TAKE delivered it. -/
def State.headDead (s : State) (i : Nat) : Bool :=
  let q := s.q i
  let r := s.metaRead q q.head
  !q.taken && (q.void q.head || decide (r.1 ≠ rDone) || metaVoid r.2 ||
    (metaTokV r.2 && decide (s.mirror recvQm (metaTok r.2) = .squashed)))

/-- HEAD passes every void and squashed entry at the front, at most `n` of them. -/
def State.skipDead (s : State) (i : Nat) : Nat → State
  | 0 => s
  | n + 1 =>
    let q := s.q i
    if q.fill = 0 || !s.headDead i then s
    else
      let r := s.metaRead q q.head
      let s0 := s.metaEffect q q.head
      let s1 := if q.void q.head then s0 else if r.1 ≠ rDone then s0.metaErr i
        else if metaVoid r.2 then s0 else s0.count 491 1
      (s1.passHead i).skipDead i n

/-- A consume doorbell (R241). -/
def State.consume (s : State) (i n : Nat) : State :=
  let s := s.ctlRead (ctlQueue i)
  let q := s.q i
  let s0 := s.count 493 1
  if n = 0 then s0
  else if !q.open_ then ((s0.flag F.QMGR_STAT_DB_OFF).qErr i 2).count 494 1
  else if q.fill < n then ((s0.flag F.QMGR_STAT_DB_UNDER).qErr i 1).count 494 1
  else (s0.passHeads i n).qTest i

/-- What a TAKE read returns (R241): HEAD, AVAIL, SPEC. -/
def State.takeWord (s : State) (i : Nat) : Word :=
  let q := s.q i
  let r := s.metaRead q q.head
  let avail := q.open_ && decide (q.fill ≠ 0)
  let spec := avail && metaTokV r.2 && decide (s.mirror recvQm (metaTok r.2) = .open_)
  BitVec.ofNat 32 (q.head + (if avail then 2 ^ 21 else 0) + (if spec then 2 ^ 22 else 0))

/-- The side effects of a TAKE read (R241): void and squashed entries are passed, the live entry at HEAD is delivered. -/
def State.takeEffect (s : State) (i : Nat) : State :=
  let s0 := (s.ctlRead (ctlQueue i)).count 495 1
  if !(s.q i).open_ then s0
  else
    let s1 := s0.skipDead i (s0.q i).fill
    let s2 := if (s1.q i).fill = (s0.q i).fill then s1 else s1.qTest i
    let q := s2.q i
    if q.fill = 0 || q.taken then s2
    else
      ((s2.metaEffect q q.head).setQ i { q with
        taken := true
        marks := mapErase q.marks q.head }).count 489 1 |>.uncount (q.counted q.head)

/-- The slot and metadata word of the entry that a hardware consumer takes, once void and squashed entries are passed; none that
a TAKE has delivered, which is its taker's (R240). -/
def State.hwHead (s : State) (i : Nat) : Option (Nat × List Byte) :=
  let s0 := s.ctlRead (ctlQueue i)
  let s1 := s0.skipDead i (s0.q i).fill
  let q := s1.q i
  if q.open_ && decide (q.fill ≠ 0) && !q.taken then some (q.slot q.head, (s1.metaRead q q.head).2) else none

/-- A hardware consumer takes the entry at HEAD (R240). -/
def State.hwConsume (s : State) (i : Nat) : State :=
  let s0 := s.ctlRead (ctlQueue i)
  if !(s0.q i).open_ then s0
  else
    let s1 := s0.skipDead i (s0.q i).fill
    let q := s1.q i
    if q.fill = 0 || q.taken then (if q.fill = (s0.q i).fill then s1 else s1.qTest i)
    else (((s1.metaEffect q q.head).count 489 1).passHead i).qTest i

/-- What a hardware consumer's read of the `n` bytes of the entry it takes leaves behind. -/
def State.headEffect (s : State) (init i n : Nat) : State :=
  match s.hwHead i with
  | some h => s.engReadEffect init h.1 n (s.q i).ns
  | none => s

/-! ## Hardware producers (R239) -/

/-- Whether a hardware push would be performed. -/
def State.pushOk (s : State) (i : Nat) : Bool := (s.q i).open_ && decide (0 < (s.q i).room) && !s.ctlBad (ctlQueue i)

/-- A metadata word. -/
def metaWord (stamp : Word) (tag : Nat) (tok : Option (BitVec 15)) : List Byte :=
  toBytes 4 stamp.toNat ++ toBytes 2 tag ++ toBytes 2 ((tok.getD 0).toNat + (if tok.isSome then 2 ^ 15 else 0))

/-- A hardware producer pushes an entry at TAIL; a full or closed queue takes none (R239). Its token is judged as R238 and
R227 give. -/
def State.hwPush (s : State) (i : Nat) (payload : List Byte) (tag : Nat) (tok : Option (BitVec 15)) (stamp : Option Word) :
    State :=
  let s := s.ctlRead (ctlQueue i)
  let q := s.q i
  if !q.open_ then s
  else if q.room = 0 then s.count 497 1
  else
    let w := metaWord (stamp.getD s.now) tag tok
    let f := s.fate q rDone w
    let w1 := if f.void then w.take 6 ++ [0xFF, 0x7F] else w
    let bad := decide (s.rangeResp 0x120 (q.metaAt q.tail) 8 true ≠ rDone)
    let s1 := ((s.count 496 1).engWrite 0x120 (q.slot q.tail) (slice payload 0 q.size) q.ns).engWrite 0x120
      (q.metaAt q.tail) w1 q.ns
    let s2 := s1.fateEffect i f
    let s3 := if bad then s2.metaErr i else s2
    (s3.setQ i { s3.q i with
      tail := (q.tail + 1) % 2 ^ 21
      marks := f.mark q.tail (s3.q i).marks }).qTest i

/-! ## The queue window (R245) -/

/-- The non-reserved memory window, or the host memory, that holds an address: its first address and the one after its
last (R78, R234). -/
def windowOf (a : Nat) : Option (Nat × Nat) :=
  match tgtOf a with
  | .core c off => if off < 0x50000 then some (coreWin c, coreWin c + 0x50000) else none
  | .druse d off => if off < 0x200000 then some (druseWin d, druseWin d + 0x200000) else none
  | .strat t off => if off < 0x600000 then some (stratWin t, stratWin t + 0x600000) else none
  | .hub _ => some (hubWin, hubWin + 0x2000000)
  | .host => some (0x8000000000, 0x10000000000)
  | _ => none

/-- Whether a range of at least one byte lies wholly within one window. -/
def inOneWindow (a n : Nat) : Bool :=
  match windowOf a with
  | some w => decide (a + n ≤ w.2)
  | none => false

/-- Whether two ranges meet. -/
def rangesMeet (a n b m : Nat) : Bool := decide (a < b + m) && decide (b < a + n)

/-- Whether a queue's geometry lets it be enabled (R233, R234, R245). -/
def QState.valid (q : QState) : Bool :=
  decide (4 ≤ q.dlog) && decide (q.dlog ≤ 20) && inOneWindow q.base (2 ^ q.dlog * q.size) &&
  inOneWindow q.meta_ (2 ^ q.dlog * 8) && !rangesMeet q.base (2 ^ q.dlog * q.size) q.meta_ (2 ^ q.dlog * 8) &&
  decide (q.base % 64 = 0) && decide (q.meta_ % 64 = 0)

/-- What a window register reads. -/
def QState.view (q : QState) (w : Nat) : Word :=
  let b (x : Bool) (n : Nat) : Nat := if x then 2 ^ n else 0
  BitVec.ofNat 32 (match w with
    | 0 => q.base % 2 ^ 32
    | 1 => q.base / 2 ^ 32 + q.meta_ / 2 ^ 32 * 2 ^ 8 + q.esize * 2 ^ 16 + q.dlog * 2 ^ 18 + b q.en 23 + b q.tokq 24 +
        b q.highEvt 25 + b q.lowEvt 26 + b q.highMsi 27 + b q.lowMsi 28 + b q.ns 29
    | 2 => q.meta_ % 2 ^ 32
    | 3 => q.tail + q.vector * 2 ^ 21
    | 4 => q.head + b q.level 21
    | 5 => q.start + q.stop * 2 ^ 16
    | 6 => q.high + q.low * 2 ^ 16
    | _ => q.eventId + q.strata * 2 ^ 16)

/-- The bits of a window register that are protected while EN = 1. -/
def qProtected (w : Nat) : Word :=
  match w with
  | 0 => 0xFFFFFFC0
  | 1 => 0x217FFFFF
  | 2 => 0xFFFFFFC0
  | 3 => 0x1FFFFF
  | 4 => 0x1FFFFF
  | _ => 0

/-- A queue with the fields of a window register taken from a word; EN and LEVEL apart. -/
def QState.load (q : QState) (w : Nat) (v : Word) : QState :=
  let x := v.toNat
  match w with
  | 0 => { q with base := q.base / 2 ^ 32 * 2 ^ 32 + x / 64 * 64 }
  | 1 => { q with
      base := q.base % 2 ^ 32 + bitsOf x 7 0 * 2 ^ 32
      meta_ := q.meta_ % 2 ^ 32 + bitsOf x 15 8 * 2 ^ 32
      esize := bitsOf x 17 16
      dlog := bitsOf x 22 18
      tokq := x.testBit 24
      highEvt := x.testBit 25
      lowEvt := x.testBit 26
      highMsi := x.testBit 27
      lowMsi := x.testBit 28
      ns := x.testBit 29 }
  | 2 => { q with meta_ := q.meta_ / 2 ^ 32 * 2 ^ 32 + x / 64 * 64 }
  | 3 => { q with
      tail := bitsOf x 20 0
      vector := bitsOf x 31 21
      taken := q.taken && decide (bitsOf x 20 0 = q.tail) }
  | 4 => { q with
      head := bitsOf x 20 0
      taken := q.taken && decide (bitsOf x 20 0 = q.head) }
  | 5 => { q with
      start := bitsOf x 15 0
      stop := bitsOf x 31 16 }
  | 6 => { q with
      high := bitsOf x 15 0
      low := bitsOf x 31 16 }
  | _ => { q with
      eventId := bitsOf x 15 0
      strata := bitsOf x 23 16 }

/-- Whether an entry counter lies from HEAD to TAIL. -/
def QState.holds (q : QState) (n : Nat) : Bool := decide ((n + 2 ^ 21 - q.head) % 2 ^ 21 < q.fill)

/-- The marks of entries that a write of HEAD or TAIL has taken out of the ring are dropped, and their tokens counted less. -/
def State.qTrim (s : State) (i : Nat) : State :=
  let q := s.q i
  if q.marks.isEmpty then s
  else (q.marks.filter (fun e => !q.holds e.1)).foldl (fun t e => t.uncount e.2)
    (s.setQ i { q with marks := q.marks.filter (fun e => q.holds e.1) })

/-- A write to a queue's window register (R245); the word of control memory that holds it is valid again (R287). -/
def State.qWrite (s : State) (w : Nat) (v : Word) : State :=
  let i := s.get F.QMGR_Q_SEL_QID
  let s := s.ctlWrite (ctlQueueWord i w)
  let q := s.q i
  if q.en then
    let p := qProtected w
    let q1 := q.load w ((v &&& ~~~ p) ||| (q.view w &&& p))
    let s1 := if v &&& p = q.view w &&& p then s else (s.flag F.QMGR_STAT_WR_DENIED).qErr i 5
    if w = 1 && !v.getLsbD 23 then
      s1.setQ i (if q.toAdmit = 0 then { q1 with en := false, closing := false } else { q1 with closing := true })
    else if w = 1 then s1.setQ i { q1 with closing := false }
    else s1.setQ i q1
  else
    let q1 := q.load w v
    if w = 1 && v.getLsbD 23 then
      if q1.valid then s.setQ i { q1 with
        en := true
        level := false }
      else ((s.setQ i q1).flag F.QMGR_STAT_CFG_BAD).qErr i 6
    else (s.setQ i q1).qTrim i

/-- A written EN = 0 takes effect once every accepted doorbell's admission has ended (R245). -/
def State.qDisable (s : State) (i : Nat) : State :=
  let q := s.q i
  if q.closing && decide (q.toAdmit = 0) then s.setQ i { q with
    en := false
    closing := false }
  else s

/-- A write of a doorbell word (R247). -/
def State.doorbell (s : State) (i : Nat) (v : Word) : State :=
  if v.getLsbD 21 then s.consume i (bitsOf v.toNat 20 0) else s.produce i (bitsOf v.toNat 20 0)

/-- A notice reaches the queue manager's mirror (R227, R229, R242). -/
def State.qmNotice (s : State) (tok : Nat) (x : TokState) : State := (s.setMirror recvQm tok x).count 502 1

/-! ## Commands -/

/-- DOORBELL_PRODUCE (R237). -/
def execDoorbellProduce (_init : BitVec 12) (q : BitVec 18) (n : BitVec 21) (s : State) : Host.Outcome State Fault Refusal :=
  .next (s.produce q.toNat n.toNat)

/-- ENTRY_ADMISSION (R238). -/
def execEntryAdmission (q : BitVec 18) (s : State) : Host.Outcome State Fault Refusal := .next (s.admitOne q.toNat)

/-- DOORBELL_CONSUME (R241). -/
def execDoorbellConsume (_init : BitVec 12) (q : BitVec 18) (n : BitVec 21) (s : State) : Host.Outcome State Fault Refusal :=
  .next (s.consume q.toNat n.toNat)

/-- QMGR_TAKE (R241). -/
def execQmgrTake (_init : BitVec 12) (q : BitVec 18) (s : State) : Host.Outcome State Fault Refusal :=
  .next ((s.takeEffect q.toNat).emit (.readData (toBytes 4 ((s.takeEffect q.toNat).takeWord q.toNat).toNat) true))

/-- HARDWARE_PUSH (R239): only the fronthaul receive path supplies a STAMP. -/
def execHardwarePush (init : BitVec 12) (q : BitVec 18) (payload : List Byte) (tag : BitVec 16) (tok : Option (BitVec 15))
    (stamp : Option (BitVec 32)) (s : State) : Host.Outcome State Fault Refusal :=
  .next (s.hwPush q.toNat payload tag.toNat tok (if init = 0x122 then stamp else none))

/-- QUEUE_CFG_WRITE (R245). -/
def execQueueCfgWrite (w : BitVec 3) (v : BitVec 32) (s : State) : Host.Outcome State Fault Refusal :=
  .next (s.qWrite w.toNat v)

/-- QUEUE_DISABLE (R245). -/
def execQueueDisable (q : BitVec 18) (s : State) : Host.Outcome State Fault Refusal := .next (s.qDisable q.toNat)

/-- MSIX_NOTIFICATION (R332). -/
def execMsixNotification (v : BitVec 16) (s : State) : Host.Outcome State Fault Refusal := .next (s.msix v.toNat)

/-- MSIX_PENDING_SEND (R332). -/
def execMsixPendingSend (v : BitVec 11) (s : State) : Host.Outcome State Fault Refusal := .next (s.msixPending v.toNat)

end Sys2Proof.Machine
end

