-- ==== Sys2Proof/Machine/Track.lean ====
section
/-!
DEFINITION. The corridor engine's arithmetic (08_corridor_engine.md, R186 to R201): exact rationals, the trigonometric
quantities, propagation, the scalar update, the position on the track and the prediction of a pair.
-/

namespace Sys2Proof.Machine

/-! ## Rounding (R186) -/

/-- An exact quotient; by zero a value that the specification does not state. -/
def qdiv (a b : Rat) : Rat := if b = 0 then (Config.corrQuot a : Rat) else a / b

/-- A value rounded to a unit, half up, as a count of units. -/
def roundTo (x unit : Rat) : Int := (x / unit + 1 / 2).floor

/-- A count saturated to a signed width. -/
def satS (w : Nat) (x : Int) : Int := max (-(2 ^ (w - 1))) (min (2 ^ (w - 1) - 1) x)

/-- A count saturated to an unsigned width. -/
def satU (w : Nat) (x : Int) : Int := max 0 (min (2 ^ w - 1) x)

/-- Speed of light in m/s. -/
def lightC : Rat := 299792458

/-! ## cosq, sinq and LOG2T (R186, R199) -/

/-- Cosine of a turn of 65,536 units for the first quarter, as a fixed-point number of 96 fraction bits: the sum of the
cosine's series, whose error lies far below the distance of any of its values from a rounding limit. -/
def cosFix (h : Nat) : Int :=
  let one : Int := 2 ^ 96
  let tau : Int := 497805226624462170461043889244  -- floor(2 pi * 2^96)
  let x : Int := tau * h / 65536
  let x2 : Int := x * x / one
  ((List.range 24).foldl (fun (a : Int × Int) k =>
    let t := -(a.2 * x2 / one / ((2 * (k : Int) + 1) * (2 * k + 2)))
    (a.1 + t, t)) (one, one)).1

/-- cosq of R186 within the first quarter turn. -/
def cosQ1 (h : Nat) : Int := (32767 * cosFix h * 2 + 2 ^ 96) / 2 ^ 97

/-- cosq of R186. -/
def cosq (h : Nat) : Int :=
  let x := h % 65536
  if x ≤ 16384 then cosQ1 x
  else if x ≤ 32768 then -cosQ1 (32768 - x)
  else if x ≤ 49152 then -cosQ1 (x - 32768)
  else cosQ1 (65536 - x)

/-- sinq of R186. -/
def sinq (h : Nat) : Int := cosq (h % 65536 + 49152)

/-- LOG2T of R199: round(256 log2(1 + m/64)), by comparing 512th powers. -/
def log2T (m : Nat) : Int := (((List.range 256).filter (fun k => 2 ^ (2 * k + 1) * 64 ^ 512 ≤ (64 + m) ^ 512)).length : Nat)

/-! ## Tracker (R192, R195, R196) -/

/-- A tracker's state in the units of R192: S, V, A in 2^-16 m, m/s, m/s²; the six covariances in 2^-16. -/
structure Trk where
  s : Int
  v : Int
  a : Int
  p : List Int

/-- 2^-16. -/
def u16th : Rat := 1 / 65536

/-- The place of a covariance in the record: PSS, PSV, PSA, PVV, PVA, PAA. -/
def covIx (i j : Nat) : Nat :=
  match min i j, max i j with
  | 0, k => k
  | 1, k => 2 + k
  | _, _ => 5

/-- A covariance's real value. -/
def Trk.cov (x : Trk) (i j : Nat) : Rat := (x.p.getD (covIx i j) 0 : Rat) * u16th

/-- Rows and columns of the six covariances in order. -/
def covPairs : List (Nat × Nat) := [(0, 0), (0, 1), (0, 2), (1, 1), (1, 2), (2, 2)]

/-- An entry of F of R195. -/
def propF (d : Rat) (i j : Nat) : Rat := if i = j then 1 else if j = i + 1 then d else if i = 0 ∧ j = 2 then d * d / 2 else 0

/-- An entry of Q of R195. -/
def propQ (d : Rat) (i j : Nat) : Rat :=
  match min i j, max i j with
  | 0, 0 => d ^ 5 / 20
  | 0, 1 => d ^ 4 / 8
  | 0, _ => d ^ 3 / 6
  | 1, 1 => d ^ 3 / 3
  | 1, _ => d ^ 2 / 2
  | _, _ => d

/-- A sum over the three components. -/
def sum3 (f : Nat → Rat) : Rat := f 0 + f 1 + f 2

/-- propagate of R195 over `d` seconds with jerk density `q`. -/
def Trk.propagate (x : Trk) (d q : Rat) : Trk :=
  let s : Rat := x.s * u16th
  let v : Rat := x.v * u16th
  let a : Rat := x.a * u16th
  { s := satU 48 (roundTo (s + v * d + a * d * d / 2) u16th)
    v := satS 32 (roundTo (v + a * d) u16th)
    a := x.a
    p := covPairs.map (fun e => satS 64 (roundTo
      (sum3 (fun k => sum3 (fun l => propF d e.1 k * x.cov k l * propF d e.2 l)) + q * propQ d e.1 e.2) u16th)) }

/-- The outcome of a scalar update (R196). -/
inductive Upd where
  | bad
  | gated
  | done (x : Trk)

/-- update of R196: measured and model value, row, variance, gate in 1/16 deviations. -/
def Trk.update (x : Trk) (z h : Rat) (row : Nat → Rat) (r : Rat) (gate : Nat) : Upd :=
  let y := z - h
  let ph (i : Nat) : Rat := sum3 (fun j => x.cov i j * row j)
  let sv := sum3 (fun i => row i * ph i) + r
  if sv ≤ 0 then .bad
  else if y * y * 256 > (gate : Rat) * gate * sv then .gated
  else
    let raw := covPairs.map (fun e => satS 64 (roundTo (x.cov e.1 e.2 - ph e.1 * ph e.2 / sv) u16th))
    let diag (i : Nat) : Int := max 1 (raw.getD (covIx i i) 0)
    .done {
      s := satU 48 (roundTo ((x.s : Rat) * u16th + ph 0 * y / sv) u16th)
      v := satS 32 (roundTo ((x.v : Rat) * u16th + ph 1 * y / sv) u16th)
      a := satS 32 (roundTo ((x.a : Rat) * u16th + ph 2 * y / sv) u16th)
      p := covPairs.map (fun e =>
        if e.1 = e.2 then diag e.1
        else
          let m : Int := Nat.sqrt (diag e.1 * diag e.2).toNat
          max (-m) (min m (raw.getD (covIx e.1 e.2) 0))) }

/-! ## Places (R189) -/

/-- A place on the track: coordinates in 1/16 m, heading, in a tunnel, beyond the track's ends. -/
structure Place where
  x    : Int
  y    : Int
  h    : Nat
  tun  : Bool
  offt : Bool

/-- A vertex as R188 gives it: X, Y, CHAIN, CURV, HDG, TUNNEL. -/
structure Vertex where
  x     : Int
  y     : Int
  chain : Int
  curv  : Int
  hdg   : Nat
  tun   : Bool

/-- locate of R189 from the vertices of a track; `sm` in 1/16 m. -/
def locate (vs : Nat → Vertex) (f l : Nat) (sm : Int) : Place :=
  let ch (i : Nat) : Int := 4 * (vs i).chain
  let i := (((List.range (l - f)).map (f + ·)).reverse.find? (fun i => ch i ≤ sm)).getD f
  let a := vs i
  let b := vs (i + 1)
  let k : Rat := qdiv ((sm - ch i : Int) : Rat) ((ch (i + 1) - ch i : Int) : Rat)
  { x := satS 64 (roundTo ((4 * a.x : Int) + k * ((4 * b.x - 4 * a.x : Int) : Rat)) 1)
    y := satS 64 (roundTo ((4 * a.y : Int) + k * ((4 * b.y - 4 * a.y : Int) : Rat)) 1)
    h := ((roundTo ((a.hdg : Rat) + ((sm - ch i : Int) : Rat) / 16 * (a.curv : Rat) / 65536) 1) % 65536).toNat
    tun := a.tun
    offt := decide (sm < ch f) || decide (ch l ≤ sm) }

/-! ## Radio points and pairs (R190, R199, R200) -/

/-- A radio point record. -/
structure Rp where
  x     : Int
  y     : Int
  feed  : Int
  az    : Nat
  g0    : Int
  plexp : Int
  bwk   : Int
  fb    : Int
  valid : Bool
  leaky : Bool
  omni  : Bool
  open_ : Bool
  tun   : Bool
  dly0  : Int
  cov0  : Int
  cov1  : Int
  att   : Int
  vf    : Nat

/-- The distance and the cosine of the angle between heading and line of sight (R199). -/
def Rp.geom (r : Rp) (p : Place) : Nat × Rat :=
  let dx := p.x - 4 * r.x
  let dy := p.y - 4 * r.y
  let d := max 16 (Nat.sqrt (dx * dx + dy * dy).toNat)
  (d, ((cosq p.h * dx + sinq p.h * dy : Int) : Rat) / (32767 * (d : Rat)))

/-- 256/VF. -/
def Rp.slow (r : Rp) : Rat := qdiv 256 r.vf

/-- A prediction. -/
structure Pair where
  dopDl : Int
  dopUl : Int
  delay : Int
  angC  : Int
  angS  : Int
  gain  : Int
  deriving DecidableEq

/-- pair() of R199, and R200 for a leaky feeder; `v` in 2^-16 m/s, carriers in kHz. -/
def Rp.pair (r : Rp) (p : Place) (sm v : Int) (fdl ful : Nat) : Pair :=
  if r.leaky then
    let l : Int := (sm - 4 * r.feed).natAbs
    { dopDl := 0
      dopUl := 0
      delay := satU 32 (roundTo ((r.dly0 : Rat) + (l : Rat) / 16 * r.slow / lightC * 64000000000) 1)
      angC := 32767
      angS := 0
      gain := satS 16 (r.g0 - r.att * l / 1600) }
  else
    let dx := p.x - 4 * r.x
    let dy := p.y - 4 * r.y
    let d := (r.geom p).1
    let ctu := (r.geom p).2
    let dop (f : Nat) : Int := satS 32 (roundTo (-((f : Rat) * 1000) * ((v : Rat) * u16th) * ctu / lightC * 64) 1)
    let angC := satS 16 (roundTo (((cosq r.az * dx + sinq r.az * dy : Int) : Rat) / (d : Rat)) 1)
    let dq := d % 2 ^ 32
    let e := if dq = 0 then 31 else Nat.log2 dq
    let m := (dq <<< (31 - e)) >>> 25 % 64
    let l2 : Int := 256 * e + log2T m - 1024
    let pl : Int := (r.plexp * l2 * 771) >>> 13
    let pt : Int := if r.omni then 0 else min (128 * r.fb) (128 * r.bwk * (32767 - angC) / 32767)
    { dopDl := dop fdl
      dopUl := dop ful
      delay := satU 32 (roundTo ((r.dly0 : Rat) + (d : Rat) / 16 / lightC * 64000000000) 1)
      angC := angC
      angS := satS 16 (roundTo (((cosq r.az * dy - sinq r.az * dx : Int) : Rat) / (d : Rat)) 1)
      gain := satS 16 (r.g0 - pl - pt) }

/-- Whether a modem at `sm` is one that a radio point serves (R199). -/
def Rp.serves (r : Rp) (p : Place) (sm : Int) : Bool :=
  r.valid && decide (4 * r.cov0 ≤ sm) && decide (sm ≤ 4 * r.cov1) && (if p.tun then r.tun else r.open_)

end Sys2Proof.Machine
end

