-- ==== Sys2Proof/Machine/Corridor.lean ====
section
/-!
DEFINITION. The corridor engine (08_corridor_engine.md, R183 to R208): its tables, the tick and its five steps, moving-cell
membership, and the table registers.
-/

namespace Sys2Proof.Machine

/-- Whether a cell index is a moving cell's (R354). -/
def isMoving (c : Nat) : Bool := decide (64 ≤ c) && decide (c < 80)

/-! ## Tables (R187 to R192, R208) -/

/-- The key of a table word. -/
def cKey (t i w : Nat) : Nat := t * 2 ^ 24 + i * 32 + w

/-- A table word. -/
def State.cw (s : State) (t i w : Nat) : Word := mapGet s.corr.tbl 0 (cKey t i w)

/-- A table word is written. -/
def State.setCw (s : State) (t i w : Nat) (v : Word) : State :=
  { s with corr := { s.corr with tbl := mapSet s.corr.tbl 0 (cKey t i w) v } }

/-- The bits of a mask of a word take the values of another. -/
def maskWord (mask v old : Word) : Word := (old &&& ~~~ mask) ||| (v &&& mask)

/-- The moving cell that a table word belongs to. -/
def keyCell (key : Nat) : Option Nat :=
  if key / 2 ^ 24 = 3 ∧ isMoving (key % 2 ^ 24 / 32) then some (key % 2 ^ 24 / 32) else none

/-- The bits of a moving cell's word that hold ANCHOR, AMODEM, ANCHOR_V and NMAX, or CAND (R206). -/
def membMask (key : Nat) : Word :=
  if key % 32 = 2 then 0xFFFFF else if 16 ≤ key % 32 ∧ key % 32 < 24 then 0xFFFFFFFF else 0

/-- Whether a cell has a membership change pending. -/
def CorrSt.pending (c : CorrSt) (cell : Nat) : Bool := (mapGet c.tbl 0 (cKey 3 cell 2)).getLsbD 26

/-- An amendment's write is applied; membership keeps the values it replaces under a pending change (R206). -/
def CorrSt.apply (c : CorrSt) (e : Amendment) : CorrSt :=
  let old := mapGet c.tbl 0 e.key
  let h := mapGet c.held (0, 0) e.key
  let m := e.mask &&& membMask e.key &&& ~~~ h.1
  let keep : Bool := match keyCell e.key with
    | some x => c.pending x
    | none => false
  { c with
    tbl := mapSet c.tbl 0 e.key (maskWord e.mask e.val old)
    held := if keep && decide (m ≠ 0) then mapIns c.held e.key (h.1 ||| m, maskWord m old h.2) else c.held }

/-- The tables after every write that waits. -/
def CorrSt.applied (c : CorrSt) : CorrSt := { c.pend.foldl CorrSt.apply c with pend := [] }

/-- The tables after the writes of the amendments admitted before `now` (R183). -/
def CorrSt.step (c : CorrSt) (now : Word) : CorrSt :=
  { (c.pend.filter (fun e => stampEarlier e.stamp now)).foldl CorrSt.apply c with
    pend := c.pend.filter (fun e => !stampEarlier e.stamp now) }

/-- The tables as membership sees them: cells with a change pending by their earlier values (R206). -/
def CorrSt.asHeld (c : CorrSt) : CorrSt :=
  { c with tbl := c.held.foldl (fun (m : List (Nat × Word)) (e : Nat × (Word × Word)) =>
      match keyCell e.1 with
      | some x => if c.pending x then mapSet m 0 e.1 (maskWord e.2.1 e.2.2 (mapGet m 0 e.1)) else m
      | none => m) c.tbl }

/-- The earlier values that are kept on: those of cells whose change still pends. -/
def CorrSt.dropHeld (c : CorrSt) : CorrSt :=
  { c with held := c.held.filter (fun e => match keyCell e.1 with
      | some x => c.pending x
      | none => false) }

/-- The words of control memory that hold a record of a table. -/
def corrKeys (t i n : Nat) : List Nat := (List.range n).map (fun w => ctlTable (cKey t i w))

/-- An amendment writes the bits of a mask of a table word: at once while EN = 0, else at a tick (R183, R367). -/
def State.amend (s : State) (t i w : Nat) (mask v : Word) : State :=
  let e : Amendment := ⟨cKey t i w, mask, v, s.now⟩
  { s with corr := if s.on F.CORR_CTRL_EN then { s.corr with pend := s.corr.pend ++ [e] } else s.corr.apply e }

/-- Entries and words of a table. -/
def corrSize (t : Nat) : Nat × Nat :=
  match t with
  | 0 => (65536, 6)
  | 1 => (256, 8)
  | 2 => (1024, 32)
  | 3 => (80, 32)
  | 4 => (16, 1)
  | _ => (0, 0)

/-- Whether a record of a table has an uncorrectable error, and is skipped (R287). -/
def State.recBad (s : State) (t i : Nat) : Bool := if s.ctlErr.isEmpty then false else s.ctlBad (corrKeys t i (corrSize t).2)

/-- A record of a table is read: its errors are corrected, or set TBL_ERR (R287). -/
def State.readRec (s : State) (t i : Nat) : State := if s.ctlErr.isEmpty then s else s.ctlRead (corrKeys t i (corrSize t).2)

/-- Records of a table are read. -/
def State.readRecs (s : State) (t : Nat) (l : List Nat) : State := if s.ctlErr.isEmpty then s else l.foldl (fun u i => u.readRec t i) s

/-- Whether CORR_TBL_SEL selects a word. -/
def State.corrSel (s : State) : Option (Nat × Nat × Nat) :=
  let t := s.get F.CORR_TBL_SEL_TABLE
  let i := s.get F.CORR_TBL_SEL_INDEX
  let w := s.get F.CORR_TBL_SEL_WORD
  if i < (corrSize t).1 ∧ w < (corrSize t).2 then some (t, i, w) else none

/-- What CORR_TBL_DATA reads (R208). -/
def State.corrDataView (s : State) : Word :=
  match s.corrSel with
  | some (t, i, w) => s.cw t i w
  | none => 0

/-- A write of CORR_TBL_DATA (R208). -/
def State.corrData (s : State) (v : Word) : State :=
  if s.on F.CORR_CTRL_EN then s.flag F.CORR_STAT_WR_DENIED
  else match s.corrSel with
    | some (t, i, w) => (s.setCw t i w v).ctlWrite (ctlTable (cKey t i w))
    | none => s

/-- The word of control memory behind CORR_TBL_DATA. -/
def State.corrDataKey (s : State) : List Nat :=
  match s.corrSel with
  | some (t, i, w) => [ctlTable (cKey t i w)]
  | none => []

/-- A write of CORR_CTRL: EN going to 1 places the first tick on the next TB0 tick (R183); with EN = 0 the writes that wait
take effect at once (R367). -/
def State.corrCtrl (s : State) (v : Word) : State :=
  let s1 := s.writeFields R.CORR_CTRL v
  if v.getLsbD 0 then if s.on F.CORR_CTRL_EN then s1 else s1.setReg R.CORR_TICK_NEXT (s.now + 1)
  else { s1 with corr := s1.corr.applied }

/-! ## Records -/

/-- A bit of a word as a Bool. -/
def wbit (w : Word) (i : Nat) : Bool := w.getLsbD i

/-- A vertex. -/
def State.vertex (s : State) (i : Nat) : Vertex where
  x := (s.cw 0 i 0).toInt
  y := (s.cw 0 i 1).toInt
  chain := (s.cw 0 i 2).toNat
  curv := (s.cw 0 i 3).toInt
  hdg := (s.cw 0 i 4).toNat % 65536
  tun := wbit (s.cw 0 i 4) 16

/-- A radio point. -/
def State.rp (s : State) (r : Nat) : Rp :=
  let w (i : Nat) : Nat := (s.cw 1 r i).toNat
  { x := (s.cw 1 r 0).toInt
    y := (s.cw 1 r 1).toInt
    feed := w 0
    az := w 2 % 65536
    g0 := sgn 16 (w 2 / 65536)
    plexp := bitsOf (w 3) 7 0
    bwk := bitsOf (w 3) 15 8
    fb := bitsOf (w 3) 23 16
    valid := (w 3).testBit 24
    leaky := (w 3).testBit 25
    omni := (w 3).testBit 26
    open_ := (w 3).testBit 27
    tun := (w 3).testBit 28
    dly0 := (s.cw 1 r 4).toInt
    cov0 := w 5
    cov1 := w 6
    att := bitsOf (w 7) 15 0
    vf := bitsOf (w 7) 23 16 }

/-- Word 0 of a train. -/
def State.tr0 (s : State) (t : Nat) : Nat := (s.cw 2 t 0).toNat
/-- VALID of a train. -/
def State.trValid (s : State) (t : Nat) : Bool := (s.tr0 t).testBit 0
/-- INIT of a train. -/
def State.trInit (s : State) (t : Nat) : Bool := (s.tr0 t).testBit 1
/-- PROF. -/
def State.trProf (s : State) (t : Nat) : Nat := bitsOf (s.tr0 t) 3 2
/-- Modems of a train. -/
def State.trMods (s : State) (t : Nat) : Nat := bitsOf (s.tr0 t) 9 8 + 1
/-- GATED. -/
def State.trGated (s : State) (t : Nat) : Nat := bitsOf (s.tr0 t) 23 16

/-- Bits of a train's word 0 are replaced. -/
def State.setTr0 (s : State) (t hi lo x : Nat) : State :=
  s.setCw 2 t 0 (withField (s.cw 2 t 0) ⟨0, lo, hi + 1 - lo⟩ x)

/-- The tracker of a train. -/
def State.trk (s : State) (t : Nat) : Trk where
  s := (s.cw 2 t 1).toNat + (s.cw 2 t 2).toNat % 65536 * 2 ^ 32
  v := (s.cw 2 t 3).toInt
  a := (s.cw 2 t 4).toInt
  p := (List.range 6).map (fun k => sgn 64 ((s.cw 2 t (5 + 2 * k)).toNat + (s.cw 2 t (6 + 2 * k)).toNat * 2 ^ 32))

/-- The tracker of a train is stored. -/
def State.setTrk (s : State) (t : Nat) (x : Trk) : State :=
  let s1 := ((((s.setCw 2 t 1 (BitVec.ofInt 32 x.s)).setCw 2 t 2 (BitVec.ofInt 32 (x.s / 2 ^ 32 % 65536))).setCw 2 t 3
    (BitVec.ofInt 32 x.v)).setCw 2 t 4 (BitVec.ofInt 32 x.a))
  (List.range 6).foldl (fun s k =>
    let y := BitVec.ofInt 64 (x.p.getD k 0)
    (s.setCw 2 t (5 + 2 * k) (y.extractLsb' 0 32)).setCw 2 t (6 + 2 * k) (y.extractLsb' 32 32)) s1

/-- OFF of a modem, in 1/16 m. -/
def State.modOff (s : State) (t k : Nat) : Int := sgn 16 (s.cw 2 t (19 + k)).toNat
/-- CELL of a modem. -/
def State.modCell (s : State) (t k : Nat) : Nat := bitsOf (s.cw 2 t (19 + k)).toNat 22 16
/-- A bit of a modem's word: 23 CELL_V, 24 OUT_EN, 25 OUTSEL. -/
def State.modBit (s : State) (t k b : Nat) : Bool := wbit (s.cw 2 t (19 + k)) b

/-- Word `w` of a cell. -/
def State.cell (s : State) (c w : Nat) : Nat := (s.cw 3 c w).toNat
/-- A radio point's bit in a bitmap of a cell. -/
def State.cellBit (s : State) (c base r : Nat) : Bool := wbit (s.cw 3 c (base + r / 32)) (r % 32)

/-- A modem's carriers: F_DL and F_UL of its cell, or 0 (R199). -/
def State.modCarrier (s : State) (t k : Nat) : Nat × Nat :=
  if s.modBit t k 23 then (s.cell (s.modCell t k) 0, s.cell (s.modCell t k) 1) else (0, 0)

/-- Seconds between two stamps (R194, R195). -/
def stampSecs (a b : Word) : Rat := ((a - b).toInt : Rat) / 1000000000

/-- The position of a modem at `sm` on its train's track. -/
def State.place (s : State) (t : Nat) (sm : Int) : Place :=
  let d := (s.cw 4 (bitsOf (s.tr0 t) 7 4) 0).toNat
  locate s.vertex (d % 65536) (d / 65536) sm

/-- The vertices of a train's track. -/
def State.placeVertices (s : State) (t : Nat) : List Nat :=
  let d := (s.cw 4 (bitsOf (s.tr0 t) 7 4) 0).toNat
  (List.range (d / 65536)).map (d % 65536 + ·)

/-- Whether a record that a train's place on its track rests on is skipped: the train's, its track's, a vertex's (R287). -/
def State.trainBad (s : State) (t : Nat) : Bool :=
  if s.ctlErr.isEmpty then false
  else s.recBad 2 t || s.recBad 4 (bitsOf (s.tr0 t) 7 4) || (s.placeVertices t).any (s.recBad 0)

/-- Those records are read. -/
def State.readTrain (s : State) (t : Nat) : State :=
  if s.ctlErr.isEmpty then s
  else ((s.readRec 2 t).readRec 4 (bitsOf (s.tr0 t) 7 4)).readRecs 0 (s.placeVertices t)

/-! ## Step 2 (R195) -/

/-- A train is brought forward to the tick. -/
def State.trainForward (s0 : State) (t : Nat) : State :=
  let s := s0.readRec 2 t
  if s.trInit t && !s.recBad 2 t then
    (s.setTrk t ((s.trk t).propagate (stampSecs s.now (s.cw 2 t 17)) ((s.reg (R.CORR_PROF_Q (s.trProf t))).toNat * u16th))).setCw
      2 t 17 s.now
  else s

/-! ## Step 3 (R193, R194, R197, R198) -/

/-- A position report initialises a tracker (R198). -/
def State.trkInit (s : State) (t : Nat) (pos spd : Int) (spdV : Bool) (sdp sdv : Nat) (tm : Word) : State :=
  let tau := stampSecs tm s.now
  let v0 : Rat := if spdV then (spd : Rat) / 256 else 0
  let p := s.trProf t
  let sv : Rat := if spdV then (sdv : Rat) / 256 else (s.get (F.CORR_PROF_INIT_V0_SD p) : Rat) / 256
  let sa : Rat := (s.get (F.CORR_PROF_INIT_A0_SD p) : Rat) / 256
  let sp : Rat := (sdp : Rat) / 16
  let c (x : Rat) : Int := satS 64 (roundTo (x * x) u16th)
  let x : Trk := {
    s := satU 48 (roundTo ((pos : Rat) / 16 - v0 * tau) u16th)
    v := satS 32 (roundTo v0 u16th)
    a := 0
    p := [c sp, 0, 0, c sv, 0, c sa] }
  ((((s.setTrk t x).setCw 2 t 17 s.now).setCw 2 t 18 tm).setTr0 t 1 1 1).setTr0 t 23 16 0 |>.count 534 1

/-- A record is stale (R194). -/
def State.corrStale (s : State) (tm : Word) : Bool :=
  let d := (tm - s.now).toInt
  let ms := max 1 (min 2000 (s.get F.CORR_MAXAGE_MS))
  decide (0 < d) || decide ((ms : Int) * 1000000 < -d)

/-- A bad record (R194). -/
def State.badRec (s : State) : State := (s.flagRep F.CORR_STAT_BAD_REC F.CORR_STAT_BAD_REC_REP).count 525 1

/-- The gate of a train's profile. -/
def State.gate (s : State) (t : Nat) : Nat := s.get (F.CORR_PROF_GATE_GATE (s.trProf t))

/-- The model position and speed at a record's time (R197). -/
def Trk.at_ (x : Trk) (tau : Rat) : Rat × Rat :=
  ((x.s : Rat) * u16th + (x.v : Rat) * u16th * tau + (x.a : Rat) * u16th * tau * tau / 2,
    (x.v : Rat) * u16th + (x.a : Rat) * u16th * tau)

/-- The row of a position-like measurement times a factor. -/
def rowPos (k tau : Rat) (i : Nat) : Rat := k * (if i = 0 then 1 else if i = 1 then tau else tau * tau / 2)
/-- The row of a speed-like measurement times a factor. -/
def rowVel (k tau : Rat) (i : Nat) : Rat := k * (if i = 0 then 0 else if i = 1 then 1 else tau)

/-- The SPD update of a position report, after its POS (R197). -/
def State.spdUpdate (s : State) (t : Nat) (spd : Int) (sdv : Nat) (tm : Word) : State :=
  let tau := stampSecs tm s.now
  let x := s.trk t
  match x.update ((spd : Rat) / 256) (x.at_ tau).2 (rowVel 1 tau) ((sdv : Rat) / 256 * ((sdv : Rat) / 256)) (s.gate t) with
  | .bad => s.count 525 1
  | .gated => s.count 523 1
  | .done x2 => (s.setTrk t x2).setCw 2 t 18 tm

/-- A position report (R197, R198): POS, then SPD where SPD_V is 1, whatever came of POS; a report that initialises the
tracker updates it no more. -/
def State.posReport (s : State) (l : List Byte) : State :=
  let w := fieldAt l 0 4
  let t := bitsOf w 17 8
  let tm : Word := BitVec.ofNat 32 (fieldAt l 4 4)
  let pos : Int := fieldAt l 8 4
  let spd : Int := sgn 32 (fieldAt l 12 4)
  let spdV := w.testBit 22
  let sdp := max 1 (fieldAt l 16 2)
  let sdv := max 1 (fieldAt l 18 2)
  let tau := stampSecs tm s.now
  if decide (bitsOf w 31 23 ≠ 0) || decide (fieldAt l 20 12 ≠ 0) || !s.trValid t then s.badRec
  else if s.corrStale tm then s.count 524 1
  else
    let s1 := if bitsOf w 21 18 = bitsOf (s.tr0 t) 7 4 then s else s.setTr0 t 7 4 (bitsOf w 21 18)
    if !s1.trInit t then (s1.trkInit t pos spd spdV sdp sdv tm).count 522 1
    else
      let x := s1.trk t
      let spdOf (u : State) : State := if spdV then u.spdUpdate t spd sdv tm else u
      match x.update ((pos : Rat) / 16) (x.at_ tau).1 (rowPos 1 tau) ((sdp : Rat) / 16 * ((sdp : Rat) / 16)) (s1.gate t) with
      | .bad => spdOf (s1.count 525 1)
      | .gated =>
        let n := min 255 (s1.trGated t + 1)
        let s2 := (s1.count 523 1).setTr0 t 23 16 n
        if s1.get (F.CORR_PROF_GATE_RESET_N (s1.trProf t)) ≠ 0 && decide (s1.get (F.CORR_PROF_GATE_RESET_N (s1.trProf t)) ≤ n) then
          s2.trkInit t pos spd spdV sdp sdv tm
        else spdOf s2
      | .done x1 => spdOf ((((s1.setTrk t x1).setCw 2 t 18 tm).setTr0 t 23 16 0).count 522 1)

/-- One scalar update of a measurement record is applied. -/
def State.measured (s : State) (t : Nat) (tm : Word) : Upd → State
  | .bad => s.count 525 1
  | .gated => s.count 527 1
  | .done x => ((s.setTrk t x).setCw 2 t 18 tm).count 526 1

/-- A measurement record (R197). -/
def State.measRecord (s : State) (l : List Byte) : State :=
  let w := fieldAt l 0 4
  let t := bitsOf w 17 8
  let k := bitsOf w 19 18
  let r := s.rp (bitsOf w 27 20)
  let tm : Word := BitVec.ofNat 32 (fieldAt l 4 4)
  let tau := stampSecs tm s.now
  if decide (bitsOf w 31 30 ≠ 0) || decide (fieldAt l 20 12 ≠ 0) || !s.trValid t || decide (s.trMods t ≤ k) || !r.valid ||
    !s.trInit t || !s.modBit t k 23 then s.badRec
  else if s.corrStale tm then s.count 535 1
  else
    let sm (x : Trk) : Int := roundTo ((x.at_ tau).1 + (s.modOff t k : Rat) / 16) (1 / 16)
    let prof := s.trProf t
    let sdDly : Rat := (max (fieldAt l 16 2) (s.get (F.CORR_PROF_SDMIN_SD_DLY_MIN prof)) : Nat)
    let sdDop : Rat := (max (fieldAt l 18 2) (s.get (F.CORR_PROF_SDMIN_SD_DOP_MIN prof)) : Nat)
    let ful : Rat := ((s.modCarrier t k).2 * 1000 : Nat)
    let s1 :=
      if !w.testBit 28 then s
      else
        let x := s.trk t
        let z : Rat := (((fieldAt l 8 4 : Nat) : Int) - r.dly0 : Int) / 64000000000 * lightC
        let rr : Rat := sdDly / 64000000000 * lightC
        if r.leaky then
          let d := sm x - 4 * r.feed
          s.measured t tm (x.update z ((d.natAbs : Rat) / 16 * r.slow) (rowPos ((d.sign : Rat) * r.slow) tau) (rr * rr) (s.gate t))
        else
          let g := r.geom (s.place t (sm x))
          s.measured t tm (x.update z ((g.1 : Rat) / 16) (rowPos g.2 tau) (rr * rr) (s.gate t))
    if !w.testBit 29 || r.leaky then s1
    else
      let x := s1.trk t
      let g := r.geom (s1.place t (sm x))
      let z : Rat := qdiv (-((sgn 32 (fieldAt l 12 4) : Int) : Rat) / 64 * lightC) ful
      let rr : Rat := qdiv (sdDop / 64 * lightC) ful
      s1.measured t tm (x.update z ((x.at_ tau).2 * g.2) (rowVel g.2 tau) (rr * rr) (s1.gate t))

/-- An input record is applied; one whose train or radio point has an uncorrectable error is skipped (R287). -/
def State.corrRecord (s0 : State) (l : List Byte) : State :=
  let t := bitsOf (fieldAt l 0 4) 17 8
  let r := bitsOf (fieldAt l 0 4) 27 20
  match fieldAt l 0 1 with
  | 1 =>
    let s := s0.readRec 2 t
    if s.recBad 2 t then s else s.posReport l
  | 2 =>
    let s := (s0.readTrain t).readRec 1 r
    if s.trainBad t || s.recBad 1 r then s else s.measRecord l
  | _ => s0.badRec

/-- Entries of an input queue are taken, at most `n` (R193). -/
def State.corrTake (s : State) (q : Nat) : Nat → State
  | 0 => s
  | n + 1 =>
    match s.hwHead q with
    | none => s.hwConsume q
    | some (a, m) =>
      if (metaTokV m && decide (s.mirror recvQm (metaTok m) = .open_)) || !stampEarlier (BitVec.ofNat 32 (fieldAt m 0 4)) s.now then s
      else (((s.headEffect 0x121 q 32).hwConsume q).corrRecord (s.engBytesNs (s.q q).ns a 32)).corrTake q n

/-- An input queue in step 3. -/
def State.corrInput (s : State) (en : Bool) (q : Nat) : State :=
  if !en then s
  else if (s.q q).esize ≠ 1 then s.flagRep F.CORR_STAT_BAD_REC F.CORR_STAT_BAD_REC_REP
  else s.corrTake q 2048

/-! ## Step 4 (R199 to R202) -/

/-- The prediction horizon in steps (R183). -/
def State.horizon (s : State) : Nat := if s.get F.CORR_CTRL_HORIZON = 0 then 16 else s.get F.CORR_CTRL_HORIZON

/-- The propagated copy of a train's tracker (R199). -/
def State.trkAhead (s : State) (t : Nat) : Trk :=
  (s.trk t).propagate ((s.horizon : Rat) / 4000) ((s.reg (R.CORR_PROF_Q (s.trProf t))).toNat * u16th)

/-- The predicted chainage of a modem in 1/16 m. -/
def State.modAhead (s : State) (t k : Nat) : Int :=
  roundTo ((s.trkAhead t).s * u16th + (s.modOff t k : Rat) / 16) (1 / 16)

/-- The radio points that a modem's place admits, in ascending order. -/
def State.servers (s : State) (t k : Nat) : List Nat :=
  let sm := s.modAhead t k
  let p := s.place t sm
  (List.range 256).filter (fun r => (s.rp r).serves p sm && !s.recBad 1 r)

/-- The pairs of a modem: at most 64 (R199). -/
def State.pairs (s : State) (t k : Nat) : List (Nat × Pair) :=
  let sm := s.modAhead t k
  let p := s.place t sm
  let f := s.modCarrier t k
  ((s.servers t k).take 64).map (fun r => (r, (s.rp r).pair p sm (s.trkAhead t).v f.1 f.2))

/-- The prediction record (R201, R202). -/
def State.predRecord (s : State) (t k r : Nat) (x : Pair) : List Byte :=
  let sm := s.modAhead t k
  let p := s.place t sm
  let y := s.trkAhead t
  let b (c : Bool) (n : Nat) : Nat := if c then 2 ^ n else 0
  let c := s.modCell t k
  let anchor := s.modBit t k 23 && decide (64 ≤ c) && wbit (s.cw 3 c 2) 12 && decide (bitsOf (s.cell c 2) 9 0 = t) &&
    decide (bitsOf (s.cell c 2) 11 10 = k)
  let sigS := min 65535 (Nat.sqrt ((y.p.getD 0 0).toNat / 256))
  let sigV := min 65535 (Nat.sqrt (y.p.getD 3 0).toNat)
  let age := (s.now - s.cw 2 t 18).toNat / 1000000
  let conf := 255 - min 255 (sigS / 16 + age / 16)
  toBytes 4 (0x81 + t * 2 ^ 8 + k * 2 ^ 18 + r * 2 ^ 20 + b p.offt 28 + b (s.rp r).leaky 29 + b p.tun 30 + b anchor 31) ++
  toBytes 4 (s.now + BitVec.ofNat 32 (250000 * s.horizon)).toNat ++
  toBytes 4 (BitVec.ofInt 32 x.dopDl).toNat ++ toBytes 4 (BitVec.ofInt 32 x.dopUl).toNat ++
  toBytes 4 (BitVec.ofInt 32 x.delay).toNat ++ toBytes 2 (BitVec.ofInt 16 x.angC).toNat ++
  toBytes 2 (BitVec.ofInt 16 x.angS).toNat ++ toBytes 2 (BitVec.ofInt 16 x.gain).toNat ++ toBytes 1 conf ++ toBytes 1 0 ++
  toBytes 2 sigS ++ toBytes 2 sigV

/-- Whether a modem writes a record of a pair (R192, R202). -/
def State.outAdmits (s : State) (t k r : Nat) : Bool :=
  s.modBit t k 24 && (!s.modBit t k 25 ||
    s.cellBit (s.modCell t k) (if 64 ≤ s.modCell t k then 8 else 16) r)

/-- A record goes to a queue, or is dropped (R202). -/
def State.predPush (s : State) (q : Nat) (l : List Byte) : State :=
  if s.pushOk q then
    { ((s.hwPush q l (Config.pushTag s.freeCtr).toNat none none).count 530 1) with freeCtr := s.freeCtr + 1 }
  else s.count 531 1

/-- A modem's predictions. -/
def State.modPredict (s : State) (t k : Nat) : State :=
  let s1 := (s.count 528 (s.pairs t k).length).count 529 ((s.servers t k).length - 64)
  (s.pairs t k).foldl (fun u (e : Nat × Pair) =>
    if s.outAdmits t k e.1 then u.predPush (bitsOf (s.cw 2 t (23 + k)).toNat 17 0) (s.predRecord t k e.1 e.2) else u) s1

/-- Step 4. -/
def State.predict (s : State) : State :=
  (List.range 1024).foldl (fun s0 t =>
    let s := if s0.trInit t then s0.readTrain t else s0
    if s.trInit t && !s.trainBad t then (List.range (s.trMods t)).foldl (fun s k => s.modPredict t k) s else s)
    (s.readRecs 1 (List.range 256))

/-! ## Step 5 (R203 to R206) -/

/-- COUNT of a moving cell's compare unit. -/
def State.cellCount (s : State) (c : Nat) : Nat := s.get (F.TIME_CMP_STAT_COUNT (bitsOf (s.cell c 2) 25 20))

/-- A pending change of a moving cell completes (R204). -/
def State.cellComplete (s : State) (c : Nat) : State :=
  if s.recBad 3 c then s
  else if wbit (s.cw 3 c 2) 26 && decide ((s.cellCount c + 65536 - bitsOf (s.cell c 4) 31 16) % 65536 < 32768) then
    ((List.range 8).foldl (fun s i => s.setCw 3 c (8 + i) (s.cw 3 c (24 + i))) s).setCw 3 c 2
      (withField (s.cw 3 c 2) ⟨0, 26, 1⟩ 0)
  else s

/-- Whether a valid cell is locked for the tick (R203). -/
def State.cellLocked (s : State) (c : Nat) : Bool :=
  wbit (s.cw 3 c 2) 26 || !wbit (s.cw 3 c 2) 12 || !s.trInit (bitsOf (s.cell c 2) 9 0) || s.trainBad (bitsOf (s.cell c 2) 9 0)

/-- VALID of a cell whose record is not skipped. -/
def State.cellValid (s : State) (c : Nat) : Bool := wbit (s.cw 3 c 2) 28 && !s.recBad 3 c

/-- CARRIER of a cell. -/
def State.carrier (s : State) (c : Nat) : Nat := bitsOf (s.cell c 2) 30 29

/-- Whether a locked cell holds a radio point on a carrier (R203). -/
def State.heldOn (s : State) (carrier r : Nat) : Bool :=
  ((List.range 16).map (64 + ·)).any (fun c => s.cellValid c && s.cellLocked c && decide (s.carrier c = carrier) &&
    (s.cellBit c 8 r || (wbit (s.cw 3 c 2) 26 && s.cellBit c 24 r)))

/-- The best `n` of a list of scored radio points, ties by the lower number. -/
def bestOf : Nat → List (Nat × Int) → List (Nat × Int)
  | 0, _ => []
  | n + 1, l =>
    match l with
    | [] => []
    | e :: m =>
      let b := m.foldl (fun (b x : Nat × Int) => if b.2 < x.2 then x else b) e
      b :: bestOf n (l.filter (fun x => x.1 ≠ b.1))

/-- The desired set of an unlocked cell, with scores (R205). -/
def State.desired (s : State) (c : Nat) : List (Nat × Int) :=
  let w := s.cell c 2
  let l := (s.pairs (bitsOf w 9 0) (bitsOf w 11 10)).filter (fun e =>
    decide (bitsOf w 11 10 < s.trMods (bitsOf w 9 0)) && s.cellBit c 16 e.1 &&
    decide (sgn 16 (s.get F.CORR_MEMB_JOIN_MIN) ≤ e.2.gain) && !s.heldOn (s.carrier c) e.1)
  bestOf (bitsOf w 19 13) (l.map (fun e =>
    (e.1, e.2.gain + (if s.cellBit c 8 e.1 then 32 * (s.get F.CORR_MEMB_HYST : Int) else 0))))

/-- The score of a radio point in a desired set. -/
def scoreIn (l : List (Nat × Int)) (r : Nat) : Option Int := (l.find? (fun e => e.1 = r)).map (·.2)

/-- The desired sets after conflicts are resolved: a radio point stays where its score is highest, ties by the lower cell
(R205). -/
def State.resolved (s : State) (c : Nat) : List Nat :=
  let cells := ((List.range 16).map (64 + ·)).filter (fun x => s.cellValid x && !s.cellLocked x && decide (s.carrier x = s.carrier c))
  ((s.desired c).filter (fun e => cells.all (fun x =>
    decide (x = c) || (match scoreIn (s.desired x) e.1 with
      | none => true
      | some y => decide (y < e.2) || (decide (y = e.2) && decide (c < x)))))).map (·.1)

/-- The membership record (R205). -/
def membRecord (c n eff : Nat) (now : Word) (bits : List Word) : List Byte :=
  toBytes 4 (0x82 + (c - 64) * 2 ^ 8 + n * 2 ^ 15) ++ toBytes 4 now.toNat ++ toBytes 4 eff ++ toBytes 4 0 ++
  (bits.map (fun (w : Word) => toBytes 4 w.toNat)).flatten ++ toBytes 16 0

/-- A cell's set is changed: record, NEXT, EFF, PENDING, event; a full MEMBQ stops it (R205). -/
def State.cellChange (s : State) (c : Nat) (set : List Nat) : State :=
  let bits := (List.range 8).map (fun i => bitWord32 (set.filterMap (fun r => if r / 32 = i then some (r % 32) else none)))
  let q := bitsOf (s.cell c 3) 17 0
  let eff := (s.cellCount c + max 1 (s.get F.CORR_MEMB_LEAD)) % 65536
  if (List.range 8).all (fun i => s.cw 3 c (8 + i) = bits.getD i 0) then s
  else if !s.pushOk q then (s.flagRep F.CORR_STAT_MEMB_DROP F.CORR_STAT_MEMB_DROP_REP).count 533 1
  else
    let s1 := s.hwPush q (membRecord c set.length eff s.now bits) (Config.pushTag s.freeCtr).toNat none none
    let s2 := (List.range 8).foldl (fun s i => s.setCw 3 c (24 + i) (bits.getD i 0)) { s1 with freeCtr := s1.freeCtr + 1 }
    let s3 := (s2.setCw 3 c 4 (withField (s2.cw 3 c 4) ⟨0, 16, 16⟩ eff)).setCw 3 c 2 (withField (s2.cw 3 c 2) ⟨0, 26, 1⟩ 1)
    (s3.count 532 1).sendEvent 0x121 (bitsOf (s.cell c 3) 31 24) (bitsOf (s.cell c 4) 15 0)
      (c - 64 + eff * 2 ^ 4 + set.length * 2 ^ 20) none
where
  /-- A word with the listed bits set. -/
  bitWord32 (l : List Nat) : Word := l.foldl (fun w i => w ||| BitVec.ofNat 32 (2 ^ i)) 0

/-- Step 5. A cell whose change completes in this tick is computed by the values that an amendment replaced under it; the
amendment counts from the next tick (R206). -/
def State.membership (s0 : State) : State :=
  let cells := (List.range 16).map (64 + ·)
  let s := s0.readRecs 3 cells
  let s1 := cells.foldl State.cellComplete s
  let v := cells.foldl State.cellComplete { s with corr := s.corr.asHeld }
  let s2 := cells.foldl (fun u c => if v.cellValid c && !v.cellLocked c then u.cellChange c (v.resolved c) else u) s1
  { s2 with corr := { s2.corr with held := s1.corr.dropHeld.held } }

/-! ## The tick (R183, R184) -/

/-- The five steps at TB0 = T. -/
def State.corrSteps (s : State) : State :=
  let s1 := { s with corr := s.corr.step s.now }
  let s2 := (List.range 1024).foldl State.trainForward s1
  let s3 := (s2.corrInput (s2.on F.CORR_INQ0_EN) (s2.get F.CORR_INQ0_QID)).corrInput (s2.on F.CORR_INQ1_EN) (s2.get F.CORR_INQ1_QID)
  s3.predict.membership

/-- CORRIDOR_TICK: due once TB0 has reached CORR_TICK_NEXT; ticks that have passed beyond it by then are skipped (R184). -/
def State.corrTick (s : State) : State :=
  let late := (s.now - s.reg R.CORR_TICK_NEXT).toNat
  if !s.on F.CORR_CTRL_EN || decide (2 ^ 31 ≤ late) || s.pwr.dormant || decide (s.get F.PWR_STAT_STATE = 3) then s
  else
    let k := late / 250000
    let s1 := (s.setReg R.CORR_TICK_NEXT (s.reg R.CORR_TICK_NEXT + BitVec.ofNat 32 (250000 * (k + 1)))).count 520 1
    let s2 := if k = 0 then s1 else (s1.flagRepN F.CORR_STAT_OVERRUN F.CORR_STAT_OVERRUN_REP k).count 521 k
    s2.corrSteps

/-- INIT of every train is cleared (R185). -/
def State.clearTrackers (s : State) : State := (List.range 1024).foldl (fun s t => s.setTr0 t 1 1 0) s

/-- PENDING of every moving cell is cleared (R185). -/
def State.clearPending (s : State) : State :=
  ((List.range 16).map (64 + ·)).foldl (fun s c => s.setCw 3 c 2 (withField (s.cw 3 c 2) ⟨0, 26, 1⟩ 0)) s

/-- VALID of every cell is cleared: no cell is WARMING or LIVE (R191). -/
def State.clearValid (s : State) : State :=
  (List.range 80).foldl (fun s c => s.setCw 3 c 2 (withField (s.cw 3 c 2) ⟨0, 28, 1⟩ 0)) s

/-! ## Commands -/

/-- CORRIDOR_TICK (R183). -/
def execCorridorTick (s : State) : Host.Outcome State Fault Refusal := .next s.corrTick

/-- CORR_TBL_DATA (R208). -/
def execCorrTblData (v : BitVec 32) (s : State) : Host.Outcome State Fault Refusal := .next (s.corrData v)

end Sys2Proof.Machine
end

