-- ==== Sys2Proof/Machine/Cells.lean ====
section
/-!
DEFINITION. Cells, capacity and the management queues (15_bedrock_image_and_start.md, R353, R354, R361 to R369;
01_corridor_service.md, R12 to R26; 18, R419).
-/

namespace Sys2Proof.Machine

/-! ## Descriptors (R354) -/

/-- The descriptor of a cell, where it has one. -/
def State.desc? (s : State) (c : Nat) : Option (List Byte) := mapFind? s.mgmt.desc c

/-- A cell's descriptor is replaced. -/
def State.setDesc (s : State) (c : Nat) (d : List Byte) : State :=
  { s with mgmt := { s.mgmt with desc := mapIns s.mgmt.desc c d } }

/-- Word `i` of a record. -/
def recWord (d : List Byte) (i : Nat) : Nat := fieldAt d (4 * i) 4

/-- TECH: 0 NR, 1 LTE, 2 GSM-R. -/
def cdTech (d : List Byte) : Nat := bitsOf (recWord d 0) 9 8
/-- HOME. -/
def cdHome (d : List Byte) : Nat := bitsOf (recWord d 0) 12 11
/-- CARRIER. -/
def cdCarrier (d : List Byte) : Nat := bitsOf (recWord d 0) 17 16
/-- MU. -/
def cdMu (d : List Byte) : Nat := bitsOf (recWord d 0) 19 18
/-- ECP. -/
def cdEcp (d : List Byte) : Bool := (recWord d 0).testBit 20
/-- Antennas of an instance. -/
def cdAnt (d : List Byte) : Nat := 2 ^ bitsOf (recWord d 0) 23 22
/-- START. -/
def cdStart (d : List Byte) : Bool := (recWord d 0).testBit 24
/-- BW, in units of 200 kHz. -/
def cdBw (d : List Byte) : Nat := bitsOf (recWord d 1) 11 0
/-- NTRX. -/
def cdTrx (d : List Byte) : Nat := bitsOf (recWord d 1) 14 12
/-- NMAX. -/
def cdNmax (d : List Byte) : Nat := bitsOf (recWord d 1) 22 16
/-- Whether radio point `r` is in RPS. -/
def cdRp (d : List Byte) (r : Nat) : Bool := (fieldAt d (16 + r / 8) 1).testBit (r % 8)
/-- The radio points of RPS. -/
def cdRps (d : List Byte) : List Nat := (List.range 256).filter (cdRp d)
/-- PCI. -/
def cdPci (d : List Byte) : Nat := bitsOf (recWord d 14) 9 0
/-- FB_HOME. -/
def cdFbHome (d : List Byte) : Nat := bitsOf (recWord d 15) 1 0
/-- FB_V. -/
def cdFbV (d : List Byte) : Bool := (recWord d 15).testBit 2

/-- A descriptor with its home replaced. -/
def cdSetHome (d : List Byte) (h : Nat) : List Byte :=
  toBytes 4 (withField (BitVec.ofNat 32 (recWord d 0)) ⟨0, 11, 2⟩ h).toNat ++ d.drop 4

/-- The channel bandwidths in MHz that FR1 defines for a numerology (R12). -/
def nrBands (mu : Nat) : List Nat :=
  match mu with
  | 0 => [3, 5, 10, 15, 20, 25, 30, 35, 40, 45, 50]
  | 1 => [5, 10, 15, 20, 25, 30, 35, 40, 45, 50, 60, 70, 80, 90, 100]
  | 2 => [10, 15, 20, 25, 30, 35, 40, 45, 50, 60, 70, 80, 90, 100]
  | _ => []

/-- Whether a carrier centre, in kHz, lies in FR1 (R12), which TS 38.104 bounds at 410 MHz and 7,125 MHz (PRESUMED, log
entry 89). -/
def inFr1 (khz : Nat) : Bool := decide (410000 ≤ khz) && decide (khz ≤ 7125000)

/-- Whether a descriptor asks only for what R12 to R14 support (R15). A GSM-R transceiver has one transmit and one or two
receive paths, so ANT_LOG above 1 is no GSM-R cell's. -/
def cdSupported (d : List Byte) : Bool :=
  match cdTech d with
  | 0 => !cdEcp d && decide (cdBw d % 5 = 0) && (nrBands (cdMu d)).contains (cdBw d / 5) &&
      decide (cdPci d ≤ 1007) && inFr1 (recWord d 2) && inFr1 (recWord d 3)
  | 1 => [7, 15, 25, 50, 75, 100].contains (cdBw d) && decide (cdPci d ≤ 503)
  | 2 => decide (cdBw d = 0) && decide (cdPci d ≤ 63) && decide (cdAnt d ≤ 2) && !cdEcp d
  | _ => false

/-- Whether a descriptor is well formed for a cell (R15, R20, R21, R354). -/
def cdOk (c : Nat) (d : List Byte) : Bool :=
  decide (d.length = 64) && decide (bitsOf (recWord d 0) 7 0 = c) && decide (c < 208) &&
  decide (bitsOf (recWord d 0) 31 25 = 0) && decide (bitsOf (recWord d 1) 31 23 = 0) &&
  decide (bitsOf (recWord d 12) 23 18 = 0) && decide (bitsOf (recWord d 13) 31 22 = 0) &&
  decide (bitsOf (recWord d 14) 31 10 = 0) && decide (bitsOf (recWord d 15) 31 3 = 0) &&
  ((recWord d 0).testBit 10 == isMoving c) && decide (1 ≤ bitsOf (recWord d 0) 15 13) &&
  ((cdTech d == 2) == decide (80 ≤ c)) && decide (cdMu d < 3) && cdSupported d &&
  (if isMoving c then decide (1 ≤ cdNmax d) && decide (cdNmax d ≤ 64)
   else decide (1 ≤ (cdRps d).length) && decide ((cdRps d).length ≤ (if c < 64 then 16 else 8))) &&
  (decide (c < 80) || (decide (1 ≤ cdTrx d) && decide (cdTrx d ≤ 4)))

/-- Whether two cells' descriptors conflict under R21 and R22: they share a radio point's carrier slot, and are not both
moving cells of the same carrier. -/
def cdConflict (c : Nat) (d : List Byte) (c2 : Nat) (d2 : List Byte) : Bool :=
  decide (c ≠ c2) && decide (cdCarrier d = cdCarrier d2) && (cdRps d).any (cdRp d2) &&
  !(isMoving c && isMoving c2 && decide (cdTech d = cdTech d2) && decide (cdBw d = cdBw d2) && decide (cdMu d = cdMu d2) &&
    (cdEcp d == cdEcp d2) && decide (cdAnt d = cdAnt d2))

/-- Whether a descriptor conflicts with another cell's present one. -/
def State.conflicts (s : State) (c : Nat) (d : List Byte) : Bool :=
  s.mgmt.desc.any (fun (e : Nat × List Byte) => cdConflict c d e.1 e.2)

/-! ## Capacity (R16 to R19, R25, R26) -/

/-- Work of a cell with a maximum membership, in CAU. -/
def cdCau (c nmax : Nat) (d : List Byte) : Rat :=
  let n : Nat := if isMoving c then nmax else (cdRps d).length
  let b : Rat := (cdBw d : Rat) / 5
  match cdTech d with
  | 0 => max (b / 20) (1 / 4) * cdAnt d * n
  | 1 => 9 / 10 * max b 5 / 20 * cdAnt d * n
  | _ => 1 / 4 * cdTrx d * n

/-- The state of a cell: 0 DARK, 1 WARMING, 2 LIVE, 3 DRAINING (R364, R367). -/
def State.cellState (s : State) (c : Nat) : Nat := fieldOf (s.reg (R.BOOT_CELL_STATE (c / 16))) ⟨0, 2 * (c % 16), 2⟩

/-- Capacity by level (R18). -/
def levelCau (l : Nat) : Nat := [512, 464, 416, 368, 320, 256, 192, 128].getD l 128

/-- Whether a stratum is isolated (R417). -/
def State.stratumIso (s : State) (t : Nat) : Bool := !s.bit F.GLOBAL_UNIT_AVAIL_STRATA t

/-- The level that the check of R26 uses for a die (R376). -/
def State.checkLevel (s : State) (n : Nat) : Nat :=
  if s.on (F.PWR_DIE_STAT_BUSY n) then max (s.get (F.PWR_DIE_STAT_CLK n)) (s.get (F.PWR_DIE_REQ_TARGET n))
  else s.get (F.PWR_DIE_STAT_CLK n)

/-- The capacity of a die: half for an isolated stratum (R417), none for an isolated die. -/
def State.dieCau (s : State) (n : Nat) : Rat :=
  if s.dieIso n then 0
  else if s.stratumIso (2 * n) || s.stratumIso (2 * n + 1) then (levelCau (s.checkLevel n) : Rat) / 2
  else levelCau (s.checkLevel n)

/-- The load of a die: the cells homed on it that are not DARK, one cell taken as given. -/
def State.dieLoad (s : State) (n c : Nat) : Rat :=
  (s.mgmt.desc.filter (fun (e : Nat × List Byte) => decide (e.1 ≠ c) && decide (s.cellState e.1 ≠ 0) &&
    decide (cdHome e.2 = n))).foldl (fun (x : Rat) e => x + cdCau e.1 (cdNmax e.2) e.2) 0

/-- Whether a cell fits its home die with a maximum membership (R26). -/
def State.fits (s : State) (c nmax : Nat) (d : List Byte) : Bool :=
  decide (s.dieLoad (cdHome d) c + cdCau c nmax d ≤ s.dieCau (cdHome d))

/-! ## Cell records and states (R191, R367) -/

/-- A table word with the writes that wait for the next tick. -/
def State.cwNew (s : State) (t i w : Nat) : Word := mapGet s.corr.applied.tbl 0 (cKey t i w)

/-- A cell's record is written from its descriptor: F_DL, F_UL, the image's fields of words 2 to 4, CAND (R191). -/
def State.writeCellRec (s : State) (c : Nat) (d : List Byte) : State :=
  if 80 ≤ c then s
  else
    let w (x : Nat) : Word := BitVec.ofNat 32 x
    let s1 := (s.amend 3 c 0 0xFFFFFFFF (w (recWord d 2))).amend 3 c 1 0xFFFFFFFF (w (recWord d 3))
    let s2 := if isMoving c then
        ((s1.amend 3 c 2 0x6BFFE000 (w (cdNmax d * 2 ^ 13 + bitsOf (recWord d 13) 21 16 * 2 ^ 20 + 2 ^ 27 + cdCarrier d * 2 ^ 29))).amend
          3 c 3 0xFF03FFFF (w (recWord d 12))).amend 3 c 4 0xFFFF (w (bitsOf (recWord d 13) 15 0))
      else s1
    (List.range 8).foldl (fun s i => s.amend 3 c (16 + i) 0xFFFFFFFF (w (recWord d (4 + i)))) s2

/-- A cell enters a state: the register, VALID and the empty members of R206, the event of R367. -/
def State.setCellState (s : State) (c x tag : Nat) : State :=
  let a := R.BOOT_CELL_STATE (c / 16)
  let valid : Bool := decide (x = 1) || decide (x = 2)
  let was : Bool := decide (s.cellState c = 1) || decide (s.cellState c = 2)
  let s1 := s.setReg a (withField (s.reg a) ⟨0, 2 * (c % 16), 2⟩ x)
  let s2 := if 80 ≤ c then s1
    else
      let s2 := s1.amend 3 c 2 0x10000000 (if valid then 0x10000000 else 0)
      if valid && !was && isMoving c then (List.range 8).foldl (fun s i => s.amend 3 c (8 + i) 0xFFFFFFFF 0) s2 else s2
  s2.sendEvent 0x120 (s.get F.BOOT_MGMT_EVT_STRATA) (s.get F.BOOT_MGMT_EVT_EVENT_ID) (c + x * 2 ^ 8 + tag * 2 ^ 16) none

/-! ## Rehoming (R419) -/

/-- The cells homed on an isolated die, or on a die with an isolated stratum, are rehomed. -/
def State.rehome (s : State) (n : Nat) : State :=
  (s.mgmt.desc.map (·.1)).foldl (fun s c =>
    match s.desc? c with
    | none => s
    | some d =>
      if cdHome d ≠ n || s.cellState c = 0 then s
      else if cdFbV d && decide (cdFbHome d ≠ n) && !s.dieIso (cdFbHome d) then
        (s.setDesc c (cdSetHome d (cdFbHome d))).setCellState c 1 0
      else if s.dieIso n then s.setCellState c 0 0
      else s) s

/-! ## The management queues (R361, R362) -/

/-- The command queue of a writer. -/
def State.cmdQ (s : State) (fw : Bool) : Nat := if fw then s.get F.BOOT_MGMT_FQ_FWQ else s.get F.BOOT_MGMT_Q_HOSTQ

/-- The completion queue of a writer. -/
def State.cplQ (s : State) (fw : Bool) : Nat := if fw then s.get F.BOOT_MGMT_FCPL_FCPLQ else s.get F.BOOT_MGMT_HCPL_HCPLQ

/-- The management queues open at Live; a queue of the wrong entry size is not used and sets BAD_Q (R359, R361). -/
def State.openMgmt (s : State) : State :=
  let bad := [((s.q (s.cmdQ false)).esize ≠ 3 : Bool), ((s.q (s.cmdQ true)).esize ≠ 3 : Bool),
    ((s.q (s.cplQ false)).esize ≠ 0 : Bool), ((s.q (s.cplQ true)).esize ≠ 0 : Bool)]
  let s1 := (bad.filter id).foldl (fun s _ => s.flagRep F.BOOT_MGMT_STAT_BAD_Q F.BOOT_MGMT_STAT_BAD_Q_REP) s
  { s1 with mgmt := { s1.mgmt with open_ := true } }

/-- The command at the head of a writer's queue: its 128 bytes. -/
def State.mgmtHead (s : State) (fw : Bool) : Option (List Byte) :=
  if (s.q (s.cmdQ fw)).esize ≠ 3 then none
  else (s.hwHead (s.cmdQ fw)).map (fun h => s.engBytesNs (s.q (s.cmdQ fw)).ns h.1 128)

/-- The command that the queue manager takes next: none while a completion waits; alternately where both queues hold one
(R361). -/
def State.mgmtNext (s : State) : Option (Bool × List Byte) :=
  if !s.mgmt.open_ || s.mgmt.cpl.isSome then none
  else match s.mgmtHead false, s.mgmtHead true with
    | some h, some f => if s.mgmt.turn then some (false, h) else some (true, f)
    | some h, none => some (false, h)
    | none, some f => some (true, f)
    | none, none => none

/-- OPCODE. -/
def mcOp (l : List Byte) : Nat := fieldAt l 0 1
/-- TAG. -/
def mcTag (l : List Byte) : Nat := fieldAt l 2 2
/-- OBJECT. -/
def mcObj (l : List Byte) : Nat := fieldAt l 4 4

/-- Whether every byte of a command outside its arguments is 0 (R362). `args` gives offset and length of each argument. -/
def mcZero (l : List Byte) (args : List (Nat × Nat)) : Bool :=
  (List.range 128).all (fun i => [0, 2, 3, 4, 5, 6, 7].contains i || args.any (fun (a : Nat × Nat) =>
    decide (a.1 ≤ i) && decide (i < a.1 + a.2)) || decide (l.getD i 0 = 0))

/-! ## The checks of R363 and the effects of R362 -/

/-- The outcome of a command: the check of R363 that refuses it, or its effect. -/
inductive Verdict where
  | badFormat
  | rights
  | noObject
  | stateRefused
  | accepted (t : State)
  deriving Repr

/-- The status and the check order of an outcome (R363, R366, R368). -/
def Verdict.status : Verdict → Nat × Nat
  | .badFormat => (1, 1)
  | .rights => (7, 2)
  | .noObject => (2, 3)
  | .stateRefused => (3, 4)
  | .accepted _ => (0, 0)

/-- The checks of R363 in order, then the effect. -/
def verdict (bad rights noObj refused : Bool) (t : State) : Verdict :=
  if bad then .badFormat else if rights then .rights else if noObj then .noObject else if refused then .stateRefused
  else .accepted t

/-- CELL_ACTIVATE, CELL_DEACTIVATE, CELL_READY, CELL_DRAINED: a cell in one of the states `src` enters `dst`; `host` says
whose command it is. -/
def State.cellMove (s : State) (fw host : Bool) (l : List Byte) (src : List Nat) (dst : Nat) : Verdict :=
  let c := mcObj l
  let d := (s.desc? c).getD []
  verdict (!mcZero l []) (fw == host) (decide (208 ≤ c) || (s.desc? c).isNone)
    (!src.contains (s.cellState c) || (decide (dst = 1) && !s.fits c (cdNmax d) d)) (s.setCellState c dst (mcTag l))

/-- CELL_MODIFY: the descriptor of a DARK cell is replaced (R364). Its CELL must be OBJECT, so an OBJECT beyond the table is
BAD_FORMAT (R363). -/
def State.cellModify (s : State) (fw : Bool) (l : List Byte) : Verdict :=
  let c := mcObj l
  let d := slice l 16 64
  verdict (!mcZero l [(16, 64)] || !cdOk c d) fw (s.desc? c).isNone
    (decide (s.cellState c ≠ 0) || s.conflicts c d) ((s.setDesc c d).writeCellRec c d)

/-- MCELL_PARAM: NMAX and CAND of a moving cell (R362, R364). -/
def State.mcellParam (s : State) (fw : Bool) (l : List Byte) : Verdict :=
  let c := mcObj l
  let d := (s.desc? c).getD []
  let n := fieldAt l 16 1
  let d1 := d.take 4 ++ toBytes 4 (withField (BitVec.ofNat 32 (recWord d 1)) ⟨0, 16, 7⟩ n).toNat ++ slice d 8 8 ++
    slice l 20 32 ++ d.drop 48
  verdict (!mcZero l [(16, 1), (20, 32)] || decide (n = 0) || decide (64 < n)) fw (!isMoving c || (s.desc? c).isNone)
    (decide (s.cellState c = 3) || s.conflicts c d1 ||
      (decide (s.cellState c ≠ 0) && decide (cdNmax d < n) && !s.fits c n d))
    ((List.range 8).foldl (fun s i => s.amend 3 c (16 + i) 0xFFFFFFFF (BitVec.ofNat 32 (recWord d1 (4 + i))))
      ((s.setDesc c d1).amend 3 c 2 0x000FE000 (BitVec.ofNat 32 (n * 2 ^ 13))))

/-- MCELL_ANCHOR: the anchor of a moving cell (R362, R364). -/
def State.mcellAnchor (s : State) (fw : Bool) (l : List Byte) : Verdict :=
  let c := mcObj l
  let w := fieldAt l 16 4
  let tr := (s.cwNew 2 (bitsOf w 9 0) 0).toNat
  verdict (!mcZero l [(16, 4)] || decide (bitsOf w 31 13 ≠ 0)) fw
    (!isMoving c || (s.desc? c).isNone || (w.testBit 12 && (!tr.testBit 0 || decide (bitsOf tr 9 8 < bitsOf w 11 10))))
    (decide (s.cellState c = 3)) (s.amend 3 c 2 0x1FFF (BitVec.ofNat 32 w))

/-- Whether a modem's two words keep their reserved bits and ranges (R192). -/
def modemOk (a b : Nat) : Bool :=
  decide (bitsOf a 31 26 = 0) && (!a.testBit 23 || decide (bitsOf a 22 16 < 80)) && decide (bitsOf b 31 18 = 0)

/-- TRAIN_REGISTER (R192, R362, R364). -/
def State.trainRegister (s : State) (fw : Bool) (l : List Byte) : Verdict :=
  let t := mcObj l
  let w := fieldAt l 16 4
  let m (i : Nat) : Nat := fieldAt l (20 + 4 * i) 4
  verdict (!mcZero l [(16, 36)] || decide (bitsOf w 1 0 ≠ 0) || decide (bitsOf w 15 10 ≠ 0) || decide (bitsOf w 31 24 ≠ 0) ||
      (List.range 4).any (fun k => !modemOk (m k) (m (4 + k)))) fw (decide (1024 ≤ t))
    ((s.cwNew 2 t 0).getLsbD 0)
    ((List.range 8).foldl (fun s i => s.amend 2 t (19 + i) 0xFFFFFFFF (BitVec.ofNat 32 (m i)))
      (s.amend 2 t 0 0xFFFFFFFF (BitVec.ofNat 32 (w + 1))))

/-- Whether a train is the anchor of a cell that is not DARK (R364). -/
def State.isAnchor (s : State) (t : Nat) : Bool :=
  ((List.range 16).map (64 + ·)).any (fun c => decide (s.cellState c ≠ 0) && (s.cwNew 3 c 2).getLsbD 12 &&
    decide (bitsOf (s.cwNew 3 c 2).toNat 9 0 = t))

/-- TRAIN_RELEASE: VALID and INIT go to 0. -/
def State.trainRelease (s : State) (fw : Bool) (l : List Byte) : Verdict :=
  let t := mcObj l
  verdict (!mcZero l []) fw (decide (1024 ≤ t)) (!(s.cwNew 2 t 0).getLsbD 0 || s.isAnchor t) (s.amend 2 t 0 3 0)

/-- TRAIN_MODEM (R362). -/
def State.trainModem (s : State) (fw : Bool) (l : List Byte) : Verdict :=
  let t := mcObj l
  let k := fieldAt l 16 1
  verdict (!mcZero l [(16, 1), (20, 8)] || decide (3 < k) || !modemOk (fieldAt l 20 4) (fieldAt l 24 4)) fw
    (decide (1024 ≤ t)) (!(s.cwNew 2 t 0).getLsbD 0)
    ((s.amend 2 t (19 + k) 0xFFFFFFFF (BitVec.ofNat 32 (fieldAt l 20 4))).amend 2 t (23 + k) 0xFFFFFFFF
      (BitVec.ofNat 32 (fieldAt l 24 4)))

/-- Whether a track is valid (R189), its directory word and its vertices' chainages given. -/
def trackOk (dir : Nat) (chain : Nat → Nat) : Bool :=
  decide (dir % 65536 < dir / 65536) &&
  (List.range (dir / 65536 - dir % 65536)).all (fun i => decide (chain (dir % 65536 + i) < chain (dir % 65536 + i + 1)))

/-- CHAIN of a vertex, with the writes that wait. -/
def State.chainNew (s : State) (i : Nat) : Nat := (s.cwNew 0 i 2).toNat

/-- TRACK_VERTICES: one to four vertex records; a track that is valid stays valid (R189, R362, R363). -/
def State.trackVertices (s : State) (fw : Bool) (l : List Byte) : Verdict :=
  let v := mcObj l
  let n := fieldAt l 16 1
  let w (i k : Nat) : Nat := fieldAt l (20 + 24 * i + 4 * k) 4
  let chain (i : Nat) : Nat := if v ≤ i ∧ i < v + n then w (i - v) 2 else s.chainNew i
  let dir (k : Nat) : Nat := (s.cwNew 4 k 0).toNat
  verdict (!mcZero l [(16, 1), (20, 24 * n)] || decide (n = 0) || decide (4 < n) ||
      (List.range n).any (fun i => decide (bitsOf (w i 4) 31 17 ≠ 0) || decide (w i 5 ≠ 0)) ||
      (List.range 16).any (fun k => trackOk (dir k) s.chainNew && !trackOk (dir k) chain)) fw (decide (65536 < v + n))
    false
    ((List.range n).foldl (fun s i => (List.range 6).foldl (fun s k =>
      s.amend 0 (v + i) k 0xFFFFFFFF (BitVec.ofNat 32 (w i k))) s) s)

/-- TRACK_DIR: the track as it would stand must be valid (R189, R363). -/
def State.trackDir (s : State) (fw : Bool) (l : List Byte) : Verdict :=
  let w := fieldAt l 16 4
  verdict (!mcZero l [(16, 4)] || !trackOk w s.chainNew) fw (decide (16 ≤ mcObj l)) false
    (s.amend 4 (mcObj l) 0 0xFFFFFFFF (BitVec.ofNat 32 w))

/-- Whether a radio point record keeps its reserved bits and ranges (R190). -/
def rpOk (l : List Byte) : Bool :=
  decide (bitsOf (recWord l 3) 31 29 = 0) && decide (bitsOf (recWord l 7) 31 24 = 0) &&
  (!(recWord l 3).testBit 25 || (decide (recWord l 1 = 0) && decide (bitsOf (recWord l 7) 23 16 ≠ 0)))

/-- Whether a radio point is in RPS of a cell that is not DARK (R364). -/
def State.rpUsed (s : State) (r : Nat) : Bool :=
  s.mgmt.desc.any (fun (e : Nat × List Byte) => decide (s.cellState e.1 ≠ 0) && cdRp e.2 r)

/-- RP_SET (R190, R362, R364). -/
def State.rpSet (s : State) (fw : Bool) (l : List Byte) : Verdict :=
  let r := mcObj l
  let d := slice l 16 32
  verdict (!mcZero l [(16, 32)] || !rpOk d) fw (decide (256 ≤ r)) (!(recWord d 3).testBit 24 && s.rpUsed r)
    ((List.range 8).foldl (fun s i => s.amend 1 r i 0xFFFFFFFF (BitVec.ofNat 32 (recWord d i))) s)

/-- The queue manager takes the next command where it is `fw`'s and has an opcode of `ops`: it decides it, applies it, and
makes its completion (R361, R363, R365, R366). -/
def State.mgmt1 (s : State) (fw : Bool) (ops : Nat → Bool) (f : State → List Byte → Verdict) : State :=
  match s.mgmtNext with
  | none => s
  | some (w, l) =>
    if w ≠ fw || !ops (mcOp l) then s
    else
      let s1 := (s.headEffect 0x120 (s.cmdQ fw) 128).hwConsume (s.cmdQ fw)
      let v := f s1 l
      let t := match v with
        | .accepted t => t
        | _ => s1
      let st := v.status
      let t1 := (t.setReg R.BOOT_MGMT_DONE (t.reg R.BOOT_MGMT_DONE + 1)).setReg R.BOOT_MGMT_REFUSED
        (if st.1 = 3 && t.reg R.BOOT_MGMT_REFUSED ≠ 0xFFFFFFFF then t.reg R.BOOT_MGMT_REFUSED + 1 else t.reg R.BOOT_MGMT_REFUSED)
      { t1 with mgmt := { t1.mgmt with
          turn := fw
          cpl := some {
            fw := fw
            tag := mcTag l
            bytes := toBytes 1 st.1 ++ toBytes 1 (mcOp l) ++ toBytes 2 (mcTag l) ++ toBytes 4 (mcObj l) ++ toBytes 4 st.2 ++
              toBytes 4 0 } } }

/-- The command opcodes of R362. -/
def mgmtOps : List Nat := [1, 2, 3, 4, 5, 0x10, 0x11, 0x20, 0x21, 0x22, 0x30, 0x31, 0x32]

/-- The completion that waits is pushed, or waits on with CPL_WAIT (R361); a queue of the wrong entry size takes none. -/
def State.pushCpl (s : State) : State :=
  match s.mgmt.cpl with
  | none => s
  | some c =>
    let q := s.cplQ c.fw
    let gone : State := { s with mgmt := { s.mgmt with cpl := none } }.put F.BOOT_MGMT_STAT_CPL_WAIT 0
    if (s.q q).esize ≠ 0 then gone
    else if s.pushOk q then gone.hwPush q c.bytes c.tag none none
    else s.put F.BOOT_MGMT_STAT_CPL_WAIT 1

/-- The completion of a command; a command with an unknown opcode, which no other step takes, is refused and completed
here (R363). -/
def State.mgmtComplete (s : State) : State :=
  let s1 := (s.mgmt1 false (fun o => !mgmtOps.contains o) (fun _ _ => .badFormat)).mgmt1 true
    (fun o => !mgmtOps.contains o) (fun _ _ => .badFormat)
  s1.pushCpl

/-! ## Commands -/

/-- CELL_ACTIVATE (R364). -/
def execCellActivate (fw : Bool) (s : State) : Host.Outcome State Fault Refusal :=
  .next (s.mgmt1 fw (· = 0x01) (fun s l => s.cellMove fw true l [0] 1))

/-- CELL_DEACTIVATE (R364). -/
def execCellDeactivate (fw : Bool) (s : State) : Host.Outcome State Fault Refusal :=
  .next (s.mgmt1 fw (· = 0x02) (fun s l => s.cellMove fw true l [1, 2] 3))

/-- CELL_MODIFY (R364). -/
def execCellModify (fw : Bool) (s : State) : Host.Outcome State Fault Refusal :=
  .next (s.mgmt1 fw (· = 0x03) (fun s l => s.cellModify fw l))

/-- CELL_READY (R364). -/
def execCellReady (fw : Bool) (s : State) : Host.Outcome State Fault Refusal :=
  .next (s.mgmt1 fw (· = 0x04) (fun s l => s.cellMove fw false l [1] 2))

/-- CELL_DRAINED (R364). -/
def execCellDrained (fw : Bool) (s : State) : Host.Outcome State Fault Refusal :=
  .next (s.mgmt1 fw (· = 0x05) (fun s l => s.cellMove fw false l [3] 0))

/-- MCELL_PARAM (R362). -/
def execMcellParam (fw : Bool) (s : State) : Host.Outcome State Fault Refusal :=
  .next (s.mgmt1 fw (· = 0x10) (fun s l => s.mcellParam fw l))

/-- MCELL_ANCHOR (R362). -/
def execMcellAnchor (fw : Bool) (s : State) : Host.Outcome State Fault Refusal :=
  .next (s.mgmt1 fw (· = 0x11) (fun s l => s.mcellAnchor fw l))

/-- TRAIN_REGISTER (R362). -/
def execTrainRegister (fw : Bool) (s : State) : Host.Outcome State Fault Refusal :=
  .next (s.mgmt1 fw (· = 0x20) (fun s l => s.trainRegister fw l))

/-- TRAIN_RELEASE (R364). -/
def execTrainRelease (fw : Bool) (s : State) : Host.Outcome State Fault Refusal :=
  .next (s.mgmt1 fw (· = 0x21) (fun s l => s.trainRelease fw l))

/-- TRAIN_MODEM (R362). -/
def execTrainModem (fw : Bool) (s : State) : Host.Outcome State Fault Refusal :=
  .next (s.mgmt1 fw (· = 0x22) (fun s l => s.trainModem fw l))

/-- TRACK_VERTICES (R363). -/
def execTrackVertices (fw : Bool) (s : State) : Host.Outcome State Fault Refusal :=
  .next (s.mgmt1 fw (· = 0x30) (fun s l => s.trackVertices fw l))

/-- TRACK_DIR (R363). -/
def execTrackDir (fw : Bool) (s : State) : Host.Outcome State Fault Refusal :=
  .next (s.mgmt1 fw (· = 0x31) (fun s l => s.trackDir fw l))

/-- RP_SET (R364). -/
def execRpSet (fw : Bool) (s : State) : Host.Outcome State Fault Refusal :=
  .next (s.mgmt1 fw (· = 0x32) (fun s l => s.rpSet fw l))

/-- MGMT_COMPLETION (R361, R366). -/
def execMgmtCompletion (s : State) : Host.Outcome State Fault Refusal := .next s.mgmtComplete

end Sys2Proof.Machine
end

