-- ==== Sys2Proof/Machine/HostPort.lean ====
section
/-!
DEFINITION. The host link, its reset, configuration writes, device cache flush and snoops, and IDE
(14_host_attachment.md, R324 to R326, R338, R342 to R344; R464 of 20).
-/

namespace Sys2Proof.Machine

/-! ## The device cache (R342) -/

/-- Every modified line is written back and every line invalidated. -/
def State.dcFlushAll (s : State) : State :=
  (s.host.dc.map (fun (e : Nat × Bool) => e.1)).foldl State.dcEvict s

/-- A flush begins: DC_BUSY reads 1 until it is done. -/
def State.dcFlush (s : State) : State := s.put F.HOST_STAT_DC_BUSY 1

/-- A flush in progress completes. -/
def State.dcFlushEnd (s : State) : State :=
  if s.on F.HOST_STAT_DC_BUSY then s.dcFlushAll.put F.HOST_STAT_DC_BUSY 0 else s

/-- A write of HOST_CTRL: DC_FLUSH flushes, and so does a DC_EN that goes to 0. -/
def State.writeHostCtrl (s : State) (v : Word) : State :=
  let s1 := s.writeFields R.HOST_CTRL v
  if v.getLsbD 2 || (s.on F.HOST_CTRL_DC_EN && !s1.on F.HOST_CTRL_DC_EN) then s1.dcFlush else s1

/-- The bytes of a line of the device cache. -/
def State.dcLine (s : State) (line : Nat) : List Byte := (List.range 64).map (fun i => s.hostByteAt (64 * line + i))

/-- A host snoop of a line: a modified line is returned; an invalidating snoop removes the line, another leaves it clean. -/
def State.hostSnoop (s0 : State) (line : Nat) (inv : Bool) : State :=
  let s := { s0 with host := { s0.host with idleL1 := false } }
  match mapFind? s.host.dc line with
  | none => s
  | some dirty =>
    let s1 := if dirty then s.emit (.snoopData line (s.dcLine line)) else s
    let s2 := s1.dcEvict line
    if inv then s2
    else { s2 with host := { s2.host with
        dc := mapIns s2.host.dc line false
        dcMem := s1.host.dcMem } }

/-! ## Reset of the port (R326) -/

/-- What the port does when it stops taking part in the link: configuration space, MSI-X table and HDM decoder reset, the
device cache written back and invalidated, the HOST registers at their reset values, the IDE streams ended. Requests
outstanding toward host memory, and accesses that wait for the host's snoop response, are answered no more. -/
def State.linkReset (s : State) : State :=
  let s1 := s.dcFlushAll.resetRange 0x7000000 0x8000000
  { s1 with host := { s1.host with
      busMaster := false
      fnMask := false
      hdm := none
      l1 := false
      aspm := false
      idleL1 := false
      msiHold := []
      snoop := []
      biWait := []
      reqs := []
      ideIo := false
      ideCm := false
      msiDrop := true } }

/-- The link is up: it has a speed. -/
def State.linkIsUp (s : State) : Bool := decide (s.get F.HOST_LINK_SPEED ≠ 0)

/-- The link is lost (R326): the port resets, LINK_DOWN with its record. -/
def State.linkLost (s : State) : State :=
  if s.linkIsUp then
    let s1 := s.linkReset.flag F.HOST_STAT_LINK_DOWN
    s1.report { mkReport 14 7 0x38 0 with data0 := (s1.reg R.HOST_STAT).toNat }
  else s

/-- CXL_PERST_N low holds the port in reset (R464). -/
def State.perst (s : State) : State := if s.linkIsUp then s.linkLost else s.linkReset

/-- An IDE integrity failure of a stream in use (R343). -/
def State.ideFail (s : State) : State :=
  if s.host.ideIo || s.host.ideCm then
    let s1 := s.linkReset.flag F.HOST_STAT_IDE_FAIL
    s1.report { mkReport 14 7 0x39 0 with data0 := (s1.reg R.HOST_STAT).toNat }
  else s

/-! ## The link and the configuration space -/

/-- Whether R324 lists a link of a speed code, width and flit mode. -/
def linkOk (speed width : Nat) (flit256 : Bool) : Bool :=
  decide (1 ≤ speed) && decide (speed ≤ 4) && [1, 2, 4, 8, 16].contains width && (flit256 || decide (speed ≤ 3))

/-- The link completes training, or returns from L1 to L0 (R344). In Dormant it stays in L2. -/
def State.linkTrained (s : State) (speed width : Nat) (flit256 : Bool) : State :=
  if s.pwr.dormant then s
  else if s.linkIsUp then { s with host := { s.host with
      l1 := false
      idleL1 := false } }
  else if linkOk speed width flit256 && (!s.on F.GLOBAL_CLK_STAT_CXL_REF || Config.cxlSris) then
    (((s.put F.HOST_LINK_SPEED speed).put F.HOST_LINK_WIDTH width).put F.HOST_LINK_FLIT256 (if flit256 then 1 else 0)).count
      1131 1
  else s

/-- A configuration write of the host (R326, R332, R338, R343): by selector 0 Bus Master Enable, 1 the MSI-X function mask,
2 the HDM decoder committed at a base address of a multiple of 128 MB, 3 the decoder uncommitted, 4 the CXL.io and 5 the
CXL.cachemem IDE stream's keys set or removed, 6 ASPM L1 enabled or not (R324, R344). Others change nothing of the device. -/
def State.hostConfig (s0 : State) (w : Nat) (v : BitVec 64) : State :=
  if !s0.linkIsUp then s0
  else
    let s := { s0 with host := { s0.host with idleL1 := false } }
    let b : Bool := v.getLsbD 0
    match w with
    | 0 => { s with host := { s.host with
        busMaster := b
        msiDrop := s.host.msiDrop && !b } }
    | 1 => { s with host := { s.host with fnMask := b } }
    | 2 => if v.toNat % 2 ^ 27 = 0 && decide (v.toNat < 2 ^ 52) then { s with host := { s.host with hdm := some v.toNat } } else s
    | 3 => { s with host := { s.host with
        hdm := none
        snoop := [] } }
    | 4 => { s with host := { s.host with ideIo := b } }.put F.HOST_LINK_IDE_IO (if b then 1 else 0)
    | 5 => { s with host := { s.host with ideCm := b } }.put F.HOST_LINK_IDE_CM (if b then 1 else 0)
    | 6 => { s with host := { s.host with aspm := b } }
    | _ => s

/-- The idle link enters L1 where the host enables ASPM (R344): nothing of the device's waits for the host. -/
def State.linkIdle (s : State) : State :=
  if s.host.aspm && s.linkIsUp && !s.host.l1 && s.host.reqs.isEmpty && s.host.biWait.isEmpty && s.host.msiHold.isEmpty then
    { s with host := { s.host with idleL1 := true } }
  else s

/-! ## Commands -/

/-- LINK_DOWN (R326). -/
def execLinkDown (s : State) : Host.Outcome State Fault Refusal := .next s.linkLost

/-- FUNCTION_LEVEL_RESET (R326). -/
def execFunctionLevelReset (s : State) : Host.Outcome State Fault Refusal := .next s.linkReset

/-- CXL_PERST (R464). -/
def execCxlPerst (s : State) : Host.Outcome State Fault Refusal := .next s.perst

/-- CXL_LINK_UP (R344). -/
def execCxlLinkUp (speed : BitVec 4) (width : BitVec 5) (flit256 : Bool) (s : State) : Host.Outcome State Fault Refusal :=
  .next (s.linkTrained speed.toNat width.toNat flit256)

/-- HOST_CONFIG_WRITE (R338). -/
def execHostConfigWrite (w : BitVec 3) (v : BitVec 64) (s : State) : Host.Outcome State Fault Refusal :=
  .next (s.hostConfig w.toNat v)

/-- HOST_SNOOP (R342). -/
def execHostSnoop (line : BitVec 52) (inv : Bool) (s : State) : Host.Outcome State Fault Refusal :=
  .next (s.hostSnoop (line.toNat / 64) inv)

/-- DC_FLUSH (R342). -/
def execDcFlush (s : State) : Host.Outcome State Fault Refusal := .next s.dcFlush

/-- IDE_FAIL (R343). -/
def execIdeFail (s : State) : Host.Outcome State Fault Refusal := .next s.ideFail

end Sys2Proof.Machine
end

