-- ==== Sys2Proof/Machine/Operands.lean ====
section
/-!
DEFINITION. Operand forms of the signal core: registers, immediates, effective addresses (R84, R86, R88, R89), the core
control registers with their access and reset values (R113, R114, R119, R157, R232), and the element types and groups of
the vector extension (R116, R117).
-/

namespace Sys2Proof.Machine

/-! ## g registers and poison (R84, R112) -/

/-- The value of a g register; g0 reads 0 (R84). -/
def Core.gr (k : Core) (r : Nat) : DWord := if r = 0 then 0 else mapGet k.g 0 r

/-- A clean value is written to a g register: its poison and any load still on its way to it go; g0 discards it. -/
def Core.setG (k : Core) (r : Nat) (v : DWord) : Core :=
  if r = 0 then k
  else { k with g := mapSet k.g 0 r v, pois := mapErase k.pois r, pend := mapErase k.pend r }

/-- A poisoned value is written, with the address of the load that brought it (R112). -/
def Core.setPoisoned (k : Core) (r : Nat) (v : DWord) (a : BitVec 40) : Core :=
  if r = 0 then k
  else { k with g := mapSet k.g 0 r v, pois := mapIns k.pois r a, pend := mapErase k.pend r }

/-- A g register waits for a request's answer (R91). -/
def Core.await (k : Core) (r : Nat) (t : BitVec 12) : Core := if r = 0 then k else { k with pend := mapIns k.pend r t }

/-! ## Immediates and effective addresses -/

/-- sext of a 16-bit immediate. -/
def sext16 (i : BitVec 16) : DWord := i.signExtend 64
/-- zext of a 16-bit immediate. -/
def zext16 (i : BitVec 16) : DWord := i.zeroExtend 64

/-- ea of a MEM-format instruction (R89), before its checks. -/
def Core.ea (k : Core) (base : Nat) (off : BitVec 16) : DWord := k.gr base + sext16 off

/-- The W form of a result: bits [31:0] sign-extended (R88). -/
def wForm (v : DWord) : DWord := (v.truncate 32).signExtend 64

/-- Whether a 64-bit address lies in register space. -/
def inRegSpace (a : DWord) : Bool := a.toNat < 0x10000000

/-- Whether an address lies in a core's own data memory (R79). -/
def ownData (c a : Nat) : Bool := decide (coreWin c ≤ a) && decide (a < coreWin c + 0x40000)

/-! ## Control registers (R113) -/

/-- CORE_ID. -/
def crCoreId : Nat := 0x000
/-- TSTAT. -/
def crTstat : Nat := 0x001
/-- TPC. -/
def crTpc : Nat := 0x002
/-- TCAUSE. -/
def crTcause : Nat := 0x003
/-- TADDR. -/
def crTaddr : Nat := 0x004
/-- TVEC. -/
def crTvec : Nat := 0x005
/-- CORE_CFG. -/
def crCfg : Nat := 0x008
/-- VMODE. -/
def crVmode : Nat := 0x040
/-- VCOUNT. -/
def crVcount : Nat := 0x041
/-- VRESUME. -/
def crVresume : Nat := 0x042
/-- VSAT. -/
def crVsat : Nat := 0x043
/-- FU_CTRL. -/
def crFuCtrl : Nat := 0x080
/-- CORR_CFG. -/
def crCorr : Nat := 0x081
/-- LFSR_GOLD. -/
def crGold : Nat := 0x082
/-- LFSR_CRC. -/
def crCrc : Nat := 0x083
/-- DEMAP_CFG. -/
def crDemap : Nat := 0x084
/-- ILV_RM. -/
def crIlvRm : Nat := 0x085
/-- ILV_FILL. -/
def crIlvFill : Nat := 0x086
/-- ILV_QM. -/
def crIlvQm : Nat := 0x087
/-- ILV_STAT. -/
def crIlvStat : Nat := 0x088
/-- SCTX_THREAD. -/
def crSctxThread : Nat := 0x0C0
/-- SCTX_CTXPTR. -/
def crSctxPtr : Nat := 0x0C1
/-- SCTX_WAKE. -/
def crSctxWake : Nat := 0x0C2
/-- SCTX_WAKE_INFO. -/
def crSctxInfo : Nat := 0x0C3

/-- Reset values of the control registers: TVEC 0x0040, CORE_CFG with all enables and RA_LIMIT 128, VMODE with SAT. -/
def crReset (n : Nat) : DWord :=
  match n with
  | 0x005 => 0x40
  | 0x008 => 0x80F
  | 0x040 => 0x100
  | _ => 0

/-- The stored value of a control register. -/
def Core.crv (k : Core) (n : Nat) : DWord := mapGet k.cr (crReset n) n

/-- A control register takes a value. -/
def Core.setCr (k : Core) (n : Nat) (v : DWord) : Core := { k with cr := mapSet k.cr (crReset n) n v }

/-- Bits [hi:lo] of a control register. -/
def Core.crBits (k : Core) (n hi lo : Nat) : Nat := bitsOf (k.crv n).toNat hi lo

/-- Whether the core is in task mode (TSTAT.MODE). -/
def Core.task (k : Core) : Bool := (k.crv crTstat).getLsbD 0

/-- Whether a control register is allocated (R113, R119, R157, R232). -/
def crAllocated (n : Nat) : Bool :=
  n ≤ 8 || (0x40 ≤ n && n ≤ 0x43) || (0x80 ≤ n && n ≤ 0x88) || (0xC0 ≤ n && n ≤ 0xC3)

/-- The bits of a control register that an MTCR writes; VMODE and VCOUNT have rules of their own (R119). -/
def crMask (n : Nat) : DWord :=
  match n with
  | 0x001 => 0x6
  | 0x002 => 0xFFFC
  | 0x003 => 0x1FFFF
  | 0x004 => 0xFFFFFFFFFF
  | 0x005 => 0xFFFC
  | 0x006 => 0xFFFFFFFFFFFFFFFF
  | 0x007 => 0xFFFFFFFFFFFFFFFF
  | 0x008 => 0xFFF
  | 0x042 => 0x1FF
  | 0x043 => 0x1
  | 0x080 => 0x10
  | 0x081 => 0x7F073F7F01FF
  | 0x082 => 0x7FFFFFFF7FFFFFFF
  | 0x083 => 0x7FFFFFF
  | 0x084 => 0x3F
  | 0x085 => 0x1FFFF0001FFFF
  | 0x086 => 0x1FFFF0001FFFF
  | 0x087 => 0xF
  | _ => 0

/-! ## Element types and groups (R116, R117) -/

/-- Element width of an ETYPE, 0 where it is reserved. -/
def ewOf (e : Nat) : Nat :=
  match e with
  | 0 => 8
  | 1 => 16
  | 2 => 32
  | 3 => 16
  | 4 => 32
  | 5 => 32
  | 6 => 64
  | 7 => 16
  | 8 => 32
  | _ => 0

/-- Component width of an ETYPE. -/
def cwOf (e : Nat) : Nat :=
  match e with
  | 5 => 16
  | 6 => 32
  | _ => ewOf e

/-- VILL of an ETYPE and a SPAN code (R117). -/
def vill (e span : Nat) : Bool := ewOf e = 0 || 2 ^ span * 4096 / ewOf e > 512

/-- ETYPE in VMODE. -/
def Core.etype (k : Core) : Nat := k.crBits crVmode 3 0
/-- Registers in a group. -/
def Core.span (k : Core) : Nat := 2 ^ k.crBits crVmode 5 4
/-- RMODE. -/
def Core.rmode (k : Core) : Nat := k.crBits crVmode 7 6
/-- SAT. -/
def Core.satOn (k : Core) : Bool := (k.crv crVmode).getLsbD 8
/-- FU_DIS. -/
def Core.fuDis (k : Core) : Nat := k.crBits crVmode 15 12
/-- VILL. -/
def Core.villOn (k : Core) : Bool := (k.crv crVmode).getLsbD 63
/-- VLMAX: the elements of a group (R117, R120). -/
def Core.vlmax (k : Core) : Nat := k.span * 4096 / ewOf k.etype
/-- VCOUNT. -/
def Core.vcount (k : Core) : Nat := k.crBits crVcount 9 0
/-- VRESUME. -/
def Core.vresume (k : Core) : Nat := k.crBits crVresume 8 0

/-- VMODE after a write of its software bits, VILL recomputed; VCOUNT is cut to the new VLMAX (R119). -/
def Core.writeVmode (k : Core) (v : DWord) : Core :=
  let w := v &&& 0xF1FF
  let e := bitsOf w.toNat 3 0
  let sp := bitsOf w.toNat 5 4
  let bad := vill e sp
  let k1 := k.setCr crVmode (if bad then w ||| 0x8000000000000000 else w)
  k1.setCr crVcount (BitVec.ofNat 64 (if bad then 0 else min k.vcount (2 ^ sp * 4096 / ewOf e)))

/-- VCOUNT after a write of a 64-bit value (R119). -/
def Core.writeVcount (k : Core) (v : DWord) : Core :=
  k.setCr crVcount (BitVec.ofNat 64 (if k.villOn then 0 else min v.toNat k.vlmax))

/-- The effect of an MTCR on the control registers (R113, R119): bits outside the register's writable fields keep their
values. -/
def Core.writeCr (k : Core) (n : Nat) (v : DWord) : Core :=
  if n = crVmode then k.writeVmode v
  else if n = crVcount then k.writeVcount v
  else k.setCr n ((k.crv n &&& ~~~ crMask n) ||| (v &&& crMask n))

/-- What an MFCR of an allocated register reads: CORE_ID and FU_CTRL are made from what they show, the others are
stored (R113, R157). -/
def State.readCr (s : State) (c n : Nat) : DWord :=
  let k := s.core c
  if n = crCoreId then BitVec.ofNat 64 (c + (c / 8) * 2 ^ 8 + (c / 32) * 2 ^ 13 + (c / 64) * 2 ^ 16)
  else if n = crFuCtrl then
    BitVec.ofNat 64 ((mapGet s.imgDis 0 c).toNat + k.crBits crFuCtrl 4 4 * 16 +
      (if k.fres.any (fun r => r.unit = 0) then 2 ^ 8 else 0) + (if k.fres.any (fun r => r.unit = 1) then 2 ^ 9 else 0) +
      (if k.fres.any (fun r => r.unit = 2) then 2 ^ 10 else 0) + (if k.ilv.isEmpty then 0 else 2 ^ 11) +
      (if 2 ≤ k.ilv.length then 2 ^ 12 else 0))
  else k.crv n

end Sys2Proof.Machine
end

