-- ==== Sys2Proof/Machine/CoreOps.lean ====
section
/-!
DEFINITION. What every instruction of a signal core shares: traps (R106 to R112), the scoreboard, run-ahead (R94 to R97),
retirement, and loads and stores with their requests (R88, R89, R100 to R103).
-/

namespace Sys2Proof.Machine

/-- A trap's code, subcause and address. -/
structure Trap where
  code : Nat
  sub  : Nat
  addr : Nat
  deriving DecidableEq, Repr

/-- ILLEGAL (R110). -/
def trapIllegal : Trap := ⟨0x01, 0, 0⟩
/-- UNDEF_FUSED with a subcause (R143). -/
def trapFused (sub : Nat) : Trap := ⟨0x02, sub, 0⟩
/-- PRIV (R105). -/
def trapPriv (addr : Nat) : Trap := ⟨0x04, 0, addr⟩
/-- MEM_FAULT with a subcause (R111). -/
def trapMem (sub addr : Nat) : Trap := ⟨0x08, sub, addr⟩
/-- DATA_POISON with a subcause (R112). -/
def trapPoison (sub addr : Nat) : Trap := ⟨0x10, sub, addr⟩

/-- Counter of a core's stratum for a core event (R443, R444). -/
def coreEvent (c o : Nat) : Nat := 24 * (c / 32) + o

/-- Trap entry (R107): with INTRAP set the core stops and the keystone hears of a double trap (R109). -/
def State.trapTo (s : State) (c : Nat) (t : Trap) (deferred : Bool) (restart : BitVec 16) : State :=
  let k := s.core c
  let cause := BitVec.ofNat 64 (t.code + t.sub * 256 + (if deferred then 2 ^ 16 else 0))
  if (k.crv crTstat).getLsbD 2 then
    ((s.setCore c { k with run := .stopped }).count (coreEvent c 23) 1).report
      { mkReport 1 c 0x01 2 with
        sub := t.sub
        data1 := cause.toNat }
  else
    let k1 := { k with pf := [], pc := (k.crv crTvec).truncate 16 }
    let k2 := (((k1.setCr crTpc (restart.zeroExtend 64)).setCr crTcause cause).setCr crTaddr (BitVec.ofNat 64 t.addr)).setCr
      crTstat (BitVec.ofNat 64 ((if k.task then 2 else 0) + 4))
    let s1 := (s.setCore c k2).count (coreEvent c 12) 1
    let s2 := if t.code = 0x10 then s1.count (coreEvent c 13) 1 else s1
    if t.code = 0x02 then s2.count (coreEvent c 14) 1 else s2

/-- A trap of the instruction at the pc. -/
def State.trap (s : State) (c : Nat) (t : Trap) : State := s.trapTo c t false (s.core c).pc

/-- The first deferred error is taken as a trap at the instruction boundary; the others are counted (R102). -/
def State.takeDeferred (s : State) (c : Nat) : State :=
  match (s.core c).deferred with
  | [] => s
  | d :: l =>
    let k := s.core c
    ((s.setCore c { k with deferred := [], lost := k.lost + l.length }).count (coreEvent c 15) 1).trapTo c
      ⟨d.code, d.sub, d.addr.toNat⟩ true k.pc

/-- An instruction retires: the pc goes to the given target (R85). -/
def State.retireTo (s : State) (c : Nat) (pc : BitVec 16) : State :=
  let k := s.core c
  (s.setCore c { k with pc := pc, done := k.done + 1 }).count (coreEvent c 0) 1

/-- An instruction retires and the pc moves past it. -/
def State.retire (s : State) (c : Nat) : State := s.retireTo c ((s.core c).pc + 4)

/-- A core's record is changed by a function. -/
def State.mapCore (s : State) (c : Nat) (f : Core → Core) : State := s.setCore c (f (s.core c))

/-- An instruction writes a g register and retires. -/
def State.retireG (s : State) (c rd : Nat) (v : DWord) : State := (s.mapCore c (fun k => k.setG rd v)).retire c

/-- Whether a core executes instructions: not held in core reset, not waiting, stopped or halted. -/
def State.coreRuns (s : State) (c : Nat) : Bool := !s.held c && (s.core c).run = .running

/-- An event of an instruction is counted in its stratum, and in the core's tally, by which a squash takes it back (R98). -/
def State.tallied (s : State) (c o n : Nat) : State :=
  (s.count (coreEvent c o) n).mapCore c (fun k => { k with tally := mapSet k.tally 0 o (mapGet k.tally 0 o + n) })

/-- Whether a load or an atomic of the core has not been answered. -/
def State.awaits (s : State) (c : Nat) : Bool := s.snaps.any (fun x => x.core = c)

/-- The registers an instruction reads and writes, as numbers of g and v registers. -/
structure Use where
  rs : List Nat
  rd : List Nat
  vs : List Nat
  vd : List Nat

/-- An instruction that only touches g registers. -/
def useG (rs rd : List Nat) : Use := ⟨rs, rd, [], []⟩

/-- How run-ahead treats an instruction (R95). The functions compute from a reader of g registers. -/
inductive RaKind where
  /-- An integer operation. -/
  | alu (f : (Nat → DWord) → DWord)
  /-- A branch or jump: the target that it resolves to from the pc, the taken target where the instruction gives it, and
  whether it writes the link. -/
  | branch (f : (Nat → DWord) → BitVec 16 → BitVec 16) (taken : BitVec 16 → Option (BitVec 16)) (link : Bool)
  /-- A scalar load. -/
  | load (size : Nat) (signed : Bool) (base : Nat) (off : BitVec 16)
  /-- A scalar store. -/
  | store (size rt base : Nat) (off : BitVec 16)
  /-- A vector unit-stride load of a number of bytes from an offset to the base, in elements of some bytes. -/
  | vunit (base off bytes eb : Nat)
  /-- Not executed: another vector instruction, a fused-unit instruction, an atomic. -/
  | skip
  /-- The core stops advancing: FENCE, SYS, sieve and context instructions. -/
  | stop

/-! ## Run-ahead -/

/-- The granules whose loads a core has outstanding. -/
def State.loadGranules (s : State) (c : Nat) : List Nat :=
  s.outst.filterMap (fun r => match r.kind with
    | .load _ _ _ => if r.init.toNat = c then some (r.addr.toNat / 64) else none
    | _ => none)

/-- A prefetch of a granule is sent, or dropped and counted (R96). -/
def State.prefetch (s : State) (c gran : Nat) : State :=
  let k := s.core c
  if (s.loadGranules c).contains gran || k.pf.any (fun e => e.gran = gran) || 16 ≤ k.pf.length || !s.idsFree c 1 then
    s.count (coreEvent c 8) 1
  else
    ((s.setCore c { k with pf := k.pf ++ [⟨gran, s.freeTxn c, none⟩] }).count (coreEvent c 7) 1).request
      c 0 (64 * gran) 64 0 true [] 0 .prefetch

/-- Whether run-ahead itself has written a g register. -/
def RunAhead.wrote (r : RunAhead) (x : Nat) : Bool := r.inv.contains x || (mapFind? r.g x).isSome

/-- Whether a g register is INV: its value depends on a load that has not returned, or on one that brought poison, which an
instruction would trap on (R95, R112). -/
def RunAhead.isInv (k : Core) (r : RunAhead) (x : Nat) : Bool :=
  x ≠ 0 && (r.inv.contains x || (((mapFind? k.pend x).isSome || (mapFind? k.pois x).isSome) && (mapFind? r.g x).isNone))

/-- Whether an instruction waits in run-ahead for a fused unit's result (R141). -/
def RunAhead.waits (k : Core) (r : RunAhead) (use : Use) : Bool :=
  k.fres.any (fun f => !f.vec && (use.rd.contains f.reg || (use.rs.contains f.reg && !r.wrote f.reg)))

/-- A g register as run-ahead sees it. -/
def RunAhead.gr (k : Core) (r : RunAhead) (x : Nat) : DWord := if x = 0 then 0 else (mapFind? r.g x).getD (k.gr x)

/-- A valid run-ahead result. -/
def RunAhead.put (r : RunAhead) (x : Nat) (v : DWord) : RunAhead :=
  if x = 0 then r else { r with g := mapIns r.g x v, inv := setErase r.inv x }

/-- Destinations become INV. -/
def RunAhead.putInv (r : RunAhead) (l : List Nat) : RunAhead :=
  { r with inv := l.foldl (fun i x => if x = 0 then i else setIns i x) r.inv }

/-- The episode after one more instruction, with the pc it goes to. -/
def RunAhead.next (r : RunAhead) (pc : BitVec 16) : RunAhead := { r with pc := pc, count := r.count + 1 }

/-- RA_LIMIT as it acts (CORE_CFG). -/
def Core.raLimit (k : Core) : Nat := max 16 (k.crBits crCfg 11 4)

/-- A load in run-ahead from the core's own data memory, earlier run-ahead stores first: nothing where a byte is that of an
INV store or fails its parity. -/
def State.raRead (s : State) (r : RunAhead) (a n : Nat) : Option (List Byte) :=
  let l := (List.range n).map (fun i =>
    (mapFind? r.sbuf (a + i)).getD (if s.badAt (a + i) then none else some (s.byteAt (a + i))))
  if l.all Option.isSome then some (l.filterMap id) else none

/-- The pc that the branch predictor gives a branch or jump with an INV source: free, the taken target or the next
instruction, or for a JALR any target; never taken with BP_EN = 0 (R92, R95). -/
def State.predicted (s : State) (c : Nat) (pc : BitVec 16) (taken : Option (BitVec 16)) : BitVec 16 :=
  if !((s.core c).crv crCfg).getLsbD 2 then pc + 4
  else match taken with
    | some t => if Config.predictTaken s.freeCtr then t else pc + 4
    | none => (Config.predictTarget s.freeCtr ++ 0#2 : BitVec 16)

/-- A loaded value extended to 64 bits. -/
def extendLoad (size : Nat) (signed : Bool) (l : List Byte) : DWord :=
  if signed then BitVec.ofInt 64 (sgn (8 * size) (ofBytes l)) else BitVec.ofNat 64 (ofBytes l)

/-- One instruction of a run-ahead episode (R95), whose would-be traps are judged on the registers as run-ahead sees them;
`traps` stands for one that needs no operand. Nothing architectural changes but the prefetch buffer. -/
def State.raStep (s : State) (c : Nat) (r : RunAhead) (use : Use) (kind : RaKind) (traps : Bool) : State :=
  let k := s.core c
  let n := r.next (r.pc + 4)
  let inv := use.rs.any (RunAhead.isInv k r)
  let set (t : State) (x : RunAhead) : State := (t.mapCore c (fun k => { k with ra := some x })).count (coreEvent c 6) 1
  let wait := match kind with
    | .skip => false
    | .stop => false
    | _ => r.waits k use
  if r.stopped || k.raLimit ≤ r.count || wait then s
  else match kind with
    | .stop => s.mapCore c (fun k => { k with ra := some { r with stopped := true } })
    | .skip => set s (n.putInv use.rd)
    | .alu f => if inv || traps then set s (n.putInv use.rd) else set s (use.rd.foldl (fun x d => x.put d (f (r.gr k))) n)
    | .branch f taken link =>
      let n1 := if link then use.rd.foldl (fun x d => x.put d ((r.pc + 4).zeroExtend 64)) n else n
      let t := f (r.gr k) r.pc
      if traps then set s (n.putInv use.rd)
      else if inv then set s.fresh { n1 with pc := s.predicted c r.pc (taken r.pc) }
      else if t.toNat % 4 ≠ 0 then set s (n.putInv use.rd)
      else set s { n1 with pc := t }
    | .load size signed base off =>
      let a := (r.gr k base + sext16 off).toNat
      if inv || traps || 2 ^ 40 ≤ a || a % size ≠ 0 then set s (n.putInv use.rd)
      else if ownData c a then
        match s.raRead r a size with
        | some l => set s (use.rd.foldl (fun x d => x.put d (extendLoad size signed l)) n)
        | none => set s (n.putInv use.rd)
      else if isMemAddr a then set (if a / 64 = r.gran then s.count (coreEvent c 8) 1 else s.prefetch c (a / 64)) (n.putInv use.rd)
      else set s (n.putInv use.rd)
    | .store size rt base off =>
      let a := (r.gr k base + sext16 off).toNat
      if r.isInv k base || traps || 2 ^ 40 ≤ a || a % size ≠ 0 then set s n
      else set s { n with
        sbuf := (List.range size).foldl (fun m i =>
          mapIns m (a + i) (if r.isInv k rt then none else some ((r.gr k rt).extractLsb' (8 * i) 8))) n.sbuf }
    | .vunit base off bytes eb =>
      if inv || traps then set s n
      else
        let a := (r.gr k base + BitVec.ofNat 64 off).toNat
        if bytes = 0 || 2 ^ 40 < a + bytes || a % eb ≠ 0 || !isMemAddr a || ownData c a then set s n
        else set ((List.range (min 8 ((granules a bytes).2 / 64))).foldl (fun t i =>
          if a / 64 + i = r.gran then t.count (coreEvent c 8) 1 else t.prefetch c (a / 64 + i)) s) n

/-- The first source register that waits for a scalar load from a memory window other than the core's own data memory:
the request it waits for (R94). -/
def State.trigger (s : State) (c : Nat) (use : Use) : Option Req :=
  (use.rs.filterMap (fun r => mapFind? (s.core c).pend r)).findSome? (fun t =>
    s.outst.find? (fun q => decide (q.init.toNat = c) && decide (q.txn = t) && decide (0x10000000 ≤ q.addr.toNat) &&
      (match q.kind with
       | .load _ _ _ => true
       | _ => false)))

/-- An instruction needs a result that has not come: the core enters run-ahead on it, or waits (R91, R94). -/
def State.needWait (s : State) (c : Nat) (use : Use) (kind : RaKind) : State :=
  let k := s.core c
  match if (k.crv crCfg).getLsbD 0 then s.trigger c use else none with
  | none => s
  | some q =>
    let r : RunAhead := ⟨q.txn, q.addr.toNat / 64, [], [], k.pc, 0, false, []⟩
    ((s.setCore c { k with pf := [], ra := some r }).count (coreEvent c 5) 1).raStep c r use kind false

/-! ## Issue -/

/-- Whether a register that an instruction reads waits for a load, or one that it reads or writes waits for a fused
unit's result (R91, R141). -/
def Core.notReady (k : Core) (use : Use) : Bool :=
  use.rs.any (fun r => (mapFind? k.pend r).isSome) ||
  k.fres.any (fun f => if f.vec then (use.vs ++ use.vd).contains f.reg else (use.rs ++ use.rd).contains f.reg)

/-- The address of the load that brought a poisoned register that an instruction reads: of two such registers the first in
the order of the instruction's operands (DESIGN CHOICE: R112 does not say which; log entry 97). -/
def Core.poisoned (k : Core) (use : Use) : Option (BitVec 40) := use.rs.findSome? (fun r => mapFind? k.pois r)

/-- The device address of an instruction word (R79). -/
def insnAddr (c : Nat) (pc : BitVec 16) : Nat := coreWin c + 0x40000 + pc.toNat

/-- Whether the word at a pc fails its parity (R112); that of a byte never written is free (R284). -/
def State.fetchBadAt (s : State) (c : Nat) (pc : BitVec 16) : Bool := !(s.badIn (insnAddr c pc) 4).isEmpty

/-- Whether the word at the core's pc fails its parity. -/
def State.fetchBad (s : State) (c : Nat) : Bool := s.fetchBadAt c (s.core c).pc

/-- A trap that waits until every older load has been answered (R106). -/
def State.trapWhenOldest (s : State) (c : Nat) (t : Trap) : State := if s.awaits c then s else s.trap c t

/-- One instruction of a core. `bad` is a trap that needs no operand (ILLEGAL, UNDEF_FUSED, PRIV), `chk` one that its
operands decide (UNDEF_FUSED, PRIV, MEM_FAULT), in the order of R111; `wait` says that it waits at SC or CK for room;
`oldest` that it acts only as the oldest instruction not yet retired (R93, R102, R218); `act` is its effect. A core that
does not run, and an instruction that waits, leave the state as it is. -/
def State.runInsn (s : State) (c : Nat) (use : Use) (kind : RaKind) (bad chk : Option Trap) (wait oldest : Bool)
    (act : State) : State :=
  if !s.coreRuns c then s
  else match (s.core c).ra with
    | some r => s.raStep c r use kind (bad.isSome || s.fetchBadAt c r.pc)
    | none =>
      if !(s.core c).deferred.isEmpty then (if s.awaits c then s else s.takeDeferred c)
      else if s.fetchBad c then
        (if s.awaits c then s
         else (s.readEffect c (insnAddr c (s.core c).pc) 4 false).trap c (trapPoison 0x02 (insnAddr c (s.core c).pc)))
      else match bad with
        | some t => s.trapWhenOldest c t
        | none =>
          if (s.core c).notReady use then s.needWait c use kind
          else match chk with
            | some t => s.trapWhenOldest c t
            | none =>
              if wait || (oldest && s.awaits c) then s
              else match (s.core c).poisoned use with
                | some a => s.trapWhenOldest c (trapPoison 0x01 a.toNat)
                | none => act

/-- ILLEGAL where a condition holds. -/
def illegalIf (b : Bool) : Option Trap := if b then some trapIllegal else none

/-! ## Memory -/

/-- The address checks of a scalar access in their order (R89, R105): PRIV for register space in task mode, the 40-bit
range, alignment. -/
def State.checkEa (s : State) (c : Nat) (ea : DWord) (size : Nat) (counterRead : Bool) : Option Trap :=
  if (s.core c).task && inRegSpace ea && !counterRead then some (trapPriv ea.toNat)
  else if 2 ^ 40 ≤ ea.toNat then some (trapMem 0x12 (ea.toNat % 2 ^ 40))
  else if ea.toNat % size ≠ 0 then some (trapMem 0x10 ea.toNat)
  else none

/-- Whether an address is that of a counter register while PERF_ACCESS.USER = 1 (R105, R448). -/
def State.counterOpen (s : State) (ea : DWord) : Bool :=
  s.on F.PERF_ACCESS_USER && decide (0xD010000 ≤ ea.toNat) && decide (ea.toNat < 0xD010000 + 8 * 1184)

/-- Outstanding scalar loads of a core (R103). -/
def State.loadsOut (s : State) (c : Nat) : Nat :=
  (s.outst.filter (fun r => decide (r.init.toNat = c) && (match r.kind with
    | .load _ _ _ => true
    | _ => false))).length

/-- Outstanding stores and atomics of a core (R103). -/
def State.storesOut (s : State) (c : Nat) : Nat :=
  (s.outst.filter (fun r => decide (r.init.toNat = c) && (match r.kind with
    | .store => true
    | .atom _ => true
    | _ => false))).length

/-- The prefetch buffer's entry for a granule. -/
def Core.pfEntry (k : Core) (gran : Nat) : Option PfEntry := k.pf.find? (fun e => e.gran = gran)

/-- Whether a load waits: its granule's prefetch is in flight (R97), 16 loads are outstanding (R103) or no transaction ID is
free (R266). A load from the core's own data memory that finds bad parity waits until it is the oldest, so that squashed work
leaves no record of it (R98). -/
def State.loadWaits (s : State) (c a size : Nat) : Bool :=
  if ownData c a then s.awaits c && !(s.badIn a size).isEmpty
  else match if isMemAddr a then (s.core c).pfEntry (a / 64) else none with
    | some e => e.data.isNone
    | none => decide (16 ≤ s.loadsOut c) || !s.idsFree c 1

/-- A scalar load acts (R88, R97, R100, R112): from the core's own data memory or the prefetch buffer at once, from
elsewhere by a read request whose answer writes the register. -/
def State.doLoad (s : State) (c rt size : Nat) (signed : Bool) (a : Nat) : State :=
  if ownData c a then
    let v := extendLoad size signed (s.bytesAt a size)
    let s1 := s.readEffect c a size false
    (s1.mapCore c (fun k => if (s.badIn a size).isEmpty then k.setG rt v else k.setPoisoned rt v (BitVec.ofNat 40 a))).retire c
  else match (if isMemAddr a then (s.core c).pfEntry (a / 64) else none) with
    | some e =>
      ((s.retireG c rt (extendLoad size signed (slice (e.data.getD []) (a % 64) size))).tallied c 9 1).tallied c 10 1
    | none =>
      let t := s.freeTxn c
      let s1 := { s with snaps := s.snaps ++ [(⟨c, t, BitVec.ofNat 40 a, s.core c, none⟩ : Snap)] }
      (((s1.mapCore c (fun k => k.await rt t)).request c 0 a size 0 false [] 0 (.load rt size signed)).retire c).tallied c 10 1

/-- A store of the core's own invalidates the prefetched granules that it overlaps (R97). -/
def Core.dropPf (k : Core) (a n : Nat) : Core :=
  { k with pf := k.pf.filter (fun e => decide (64 * e.gran + 64 ≤ a) || decide (a + n ≤ 64 * e.gran)) }

/-- A scalar store acts (R88, R100, R102): into the core's own data memory at once, elsewhere by a non-posted write. -/
def State.doStore (s : State) (c size : Nat) (v : DWord) (a : Nat) : State :=
  let l := toBytes size v.toNat
  let s1 := s.mapCore c (fun k => k.dropPf a size)
  if ownData c a then (s1.writeBytes a l).retire c
  else (s1.request c 1 a size 0 false l 0 .store).retire c

/-- The prefetch buffer is emptied (R97). -/
def State.dropPrefetch (s : State) (c : Nat) : State := s.mapCore c (fun k => { k with pf := [] })

/-- Requests of squashed loads stay outstanding, but their answers only end them (R98). -/
def State.orphan (s : State) (c : Nat) (keep : List (BitVec 12)) : State :=
  { s with outst := s.outst.map (fun (r : Req) =>
      if decide (r.init.toNat = c) && !keep.contains r.txn then
        (match r.kind with
         | .load _ _ _ => { r with kind := .other }
         | .atom _ => { r with kind := .other }
         | _ => r)
      else r) }

/-- The counts of the events of squashed instructions are taken back (R98): `l` lists places in R444 with their excess. -/
def State.untally (s : State) (c : Nat) (l : List (Nat × Nat)) : State :=
  { s with perf := l.foldl (fun m e =>
      mapSet m 0 (coreEvent c e.1) (mapGet m 0 (coreEvent c e.1) - BitVec.ofNat 48 e.2)) s.perf }

/-- The oldest unanswered load or atomic of a core has failed: the core returns to that instruction, which traps
(R106, R110, R111). -/
def State.failOldest (s : State) (c : Nat) : State :=
  match s.snaps.find? (fun x => x.core = c) with
  | none => s
  | some x =>
    match x.err with
    | none => s
    | some e =>
      let d := s.core c
      let excess := (0, d.done - x.snap.done) :: d.tally.map (fun (e : Nat × Nat) => (e.1, e.2 - mapGet x.snap.tally 0 e.1))
      let s1 := { s with snaps := s.snaps.filter (fun y => y.core ≠ c) }
      let s2 := (s1.setCore c { x.snap with deferred := d.deferred, lost := d.lost, ra := none, pf := d.pf }).orphan c []
      (s2.untally c excess).trap c (trapMem e x.addr.toNat)

/-- A clean value arrives for a request's register: in the core and in every later snapshot that waits for it. -/
def Core.deliver (k : Core) (rd : Nat) (t : BitVec 12) (v : DWord) (poison : Option (BitVec 40)) : Core :=
  if mapFind? k.pend rd = some t then
    (match poison with
     | some a => k.setPoisoned rd v a
     | none => k.setG rd v)
  else k

/-- An answered load or atomic: its value reaches the core and the later snapshots; its own snapshot goes. A run-ahead
episode that it triggered ends (R97). -/
def State.answerLoad (s : State) (c rd : Nat) (t : BitVec 12) (v : DWord) (poison : Option (BitVec 40)) : State :=
  let s1 := { s with snaps := (s.snaps.filter (fun (x : Snap) => !(decide (x.core = c) && decide (x.txn = t)))).map (fun (x : Snap) =>
    if x.core = c then { x with snap := x.snap.deliver rd t v poison } else x) }
  (s1.mapCore c (fun k =>
    let k1 := k.deliver rd t v poison
    { k1 with ra := match k1.ra with
        | some r => if r.txn = t then none else some r
        | none => none })).failOldest c

/-- A load or atomic is answered with an error: it traps once it is the oldest (R97, R106). -/
def State.failLoad (s : State) (c : Nat) (t : BitVec 12) (e : Nat) : State :=
  let s1 := { s with snaps := s.snaps.map (fun (x : Snap) =>
    if decide (x.core = c) && decide (x.txn = t) then { x with err := some e } else x) }
  (s1.mapCore c (fun k => { k with ra := match k.ra with
      | some r => if r.txn = t then none else some r
      | none => none })).failOldest c

/-- Whether a load of a core is younger than the trigger load of its run-ahead episode (R95). -/
def State.pastTrigger (s : State) (c : Nat) (t : BitVec 12) : Bool :=
  match (s.core c).ra with
  | none => false
  | some r => (((s.snaps.filter (fun x => x.core = c)).dropWhile (fun x => x.txn ≠ r.txn)).drop 1).any (fun x => x.txn = t)

/-- A load is sent anew, and its register waits for the new request (R97). -/
def State.resend (s : State) (c : Nat) (r : Req) : State :=
  let t := s.freeTxn c
  let move (k : Core) : Core :=
    { k with pend := k.pend.map (fun (e : Nat × BitVec 12) => if e.2 = r.txn then (e.1, t) else e) }
  ({ s with snaps := s.snaps.map (fun (x : Snap) =>
      if x.core = c then { x with
        snap := move x.snap
        txn := if x.txn = r.txn then t else x.txn } else x) }.mapCore c move).request c 0 r.addr.toNat r.len 0 false [] 0 r.kind

/-- A load is answered with an error or poison. One that run-ahead has turned into a prefetch is sent anew (DEDUCED: R95
makes a younger load a prefetch, whose failed entry R97 never uses; log entry 101); any other fails, or takes its poison. -/
def State.badLoad (s : State) (c rd size : Nat) (signed : Bool) (r : Req) (resp : Nat) (data : List Byte) : State :=
  if s.pastTrigger c r.txn then s.resend c r
  else if resp = rPoison then s.answerLoad c rd r.txn (extendLoad size signed (slice data 0 size)) (some r.addr)
  else s.failLoad c r.txn resp

/-- An error of a retired store, or of an ILV operation, waits as a deferred trap (R102, R152). -/
def State.defer (s : State) (c code sub : Nat) (a : BitVec 40) : State :=
  s.mapCore c (fun k => { k with deferred := k.deferred ++ [(⟨code, sub, a⟩ : Deferred)] })

/-- Core reset (R70, R114, R155): the core's state returns to reset, its fused operations and waiting answers are
discarded, with the errors of its stores and its waiting TDISPATCH. -/
def State.resetCore (s : State) (c : Nat) : State :=
  let s1 := (s.setCore c Core.reset).orphan c []
  { s1 with
    snaps := s1.snaps.filter (fun x => x.core ≠ c)
    outst := s1.outst.map (fun (r : Req) => if decide (r.init.toNat = c) && decide (r.kind = .store) then { r with kind := .other } else r)
    sieves := mapSet s1.sieves Sieve.reset (c / 32)
      { mapGet s1.sieves Sieve.reset (c / 32) with
        asking := (mapGet s1.sieves Sieve.reset (c / 32)).asking.filter (fun x => x ≠ c) } }

end Sys2Proof.Machine
end

