-- ==== Sys2Proof/Machine/VecArith.lean ====
section
/-!
DEFINITION. Arithmetic of vector elements: rounding and fin (R124), the fixed-point operations of R125 on elements of real
and complex types, binary16 and binary32 under R126, and the conversions of R127. An element is a number below 2^EW.
-/

namespace Sys2Proof.Machine

/-! ## Fixed point (R124, R125) -/

/-- rnd of R124: `x` shifted right by `n` and rounded; modes 0 RHU, 1 RNE, 2 TRN, 3 RTZ. -/
def rnd (x : Int) (n mode : Nat) : Int :=
  if n = 0 then x
  else
    let q := x >>> n
    let r := x - q * 2 ^ n
    let h : Int := 2 ^ (n - 1)
    match mode with
    | 0 => if h ≤ r then q + 1 else q
    | 1 => if h < r ∨ (r = h ∧ q % 2 = 1) then q + 1 else q
    | 2 => q
    | _ => if x < 0 ∧ r ≠ 0 then q + 1 else q

/-- fin of R124: the `w` bits of the result, and whether it clamped. -/
def fin (sat : Bool) (x : Int) (w : Nat) (force : Bool) : Nat × Bool :=
  let lo : Int := -(2 ^ (w - 1))
  let hi : Int := 2 ^ (w - 1) - 1
  let bits (y : Int) : Nat := (y % 2 ^ w).toNat
  if lo ≤ x ∧ x ≤ hi then (bits x, false)
  else if !sat && !force then (bits x, false)
  else if x < lo then (bits lo, true) else (bits hi, true)

/-- The modes that an operation works under: SAT, RMODE, ETYPE. -/
structure VMode where
  sat : Bool
  rm  : Nat
  e   : Nat
  deriving DecidableEq, Repr

/-- The modes in VMODE. -/
def Core.vmode (k : Core) : VMode := ⟨k.satOn, k.rmode, k.etype⟩

/-- R of R116: a real fixed-point type. -/
def tyR (e : Nat) : Bool := e ≤ 4
/-- C of R116: a complex type. -/
def tyC (e : Nat) : Bool := e = 5 || e = 6
/-- F of R116: a float type. -/
def tyF (e : Nat) : Bool := e = 7 || e = 8
/-- Q15 or Q31. -/
def tyQ (e : Nat) : Bool := e = 3 || e = 4
/-- The types of the widening and narrowing operations. -/
def tyNarrow (e : Nat) : Bool := e = 0 || e = 1 || e = 3 || e = 5

/-- Real part of a complex element with components of `w` bits, or the element itself. -/
def reOf (w x : Nat) : Int := sgn w x
/-- Imaginary part. -/
def imOf (w x : Nat) : Int := sgn w (x >>> w)

/-- A complex element from its components' bits. -/
def mkC (w : Nat) (re im : Nat × Bool) : Nat × Bool := (re.1 + im.1 * 2 ^ w, re.2 || im.2)

/-- An operation on each component of an element: of one operand. -/
def perComp (e : Nat) (f : Int → Nat × Bool) (a : Nat) : Nat × Bool :=
  if tyC e then mkC (cwOf e) (f (reOf (cwOf e) a)) (f (imOf (cwOf e) a)) else f (sgn (cwOf e) a)

/-- An operation on each component of an element: of two operands. -/
def perComp2 (e : Nat) (f : Int → Int → Nat × Bool) (a b : Nat) : Nat × Bool :=
  if tyC e then mkC (cwOf e) (f (reOf (cwOf e) a) (reOf (cwOf e) b)) (f (imOf (cwOf e) a) (imOf (cwOf e) b))
  else f (sgn (cwOf e) a) (sgn (cwOf e) b)

/-- The two components of the exact product of complex elements, `b` conjugated or not (R125). -/
def cprod (w : Nat) (conj : Bool) (a b : Nat) : Int × Int :=
  let ar := reOf w a
  let ai := imOf w a
  let br := reOf w b
  let bi := imOf w b
  if conj then (ar * br + ai * bi, ai * br - ar * bi) else (ar * br - ai * bi, ar * bi + ai * br)

/-! ## Floats (R126) -/

/-- A float format: exponent bits and fraction bits. -/
structure Flt where
  eb : Nat
  mb : Nat
  deriving DecidableEq, Repr

/-- binary16 and binary32. -/
def fltOf (e : Nat) : Flt := if e = 7 then ⟨5, 10⟩ else ⟨8, 23⟩

/-- What a float's bits say: a finite number is a sign, a magnitude and an exponent of two. -/
inductive FVal where
  | nan
  | inf (neg : Bool)
  | num (neg : Bool) (m : Nat) (e : Int)
  deriving DecidableEq, Repr

/-- Exponent bias of a format. -/
def Flt.bias (f : Flt) : Nat := 2 ^ (f.eb - 1) - 1

/-- The value of float bits; a subnormal reads as zero of its sign (R126). -/
def Flt.decode (f : Flt) (x : Nat) : FVal :=
  let neg := x.testBit (f.eb + f.mb)
  let ex := (x >>> f.mb) % 2 ^ f.eb
  let fr := x % 2 ^ f.mb
  if ex = 2 ^ f.eb - 1 then (if fr = 0 then .inf neg else .nan)
  else if ex = 0 then .num neg 0 0
  else .num neg (2 ^ f.mb + fr) ((ex : Int) - f.bias - f.mb)

/-- The sign bit. -/
def Flt.sign (f : Flt) (neg : Bool) : Nat := if neg then 2 ^ (f.eb + f.mb) else 0
/-- The quiet NaN of R126. -/
def Flt.qnan (f : Flt) : Nat := (2 ^ f.eb - 1) * 2 ^ f.mb + 2 ^ (f.mb - 1)
/-- An infinity. -/
def Flt.infBits (f : Flt) (neg : Bool) : Nat := f.sign neg + (2 ^ f.eb - 1) * 2 ^ f.mb
/-- The largest finite magnitude. -/
def Flt.maxBits (f : Flt) (neg : Bool) : Nat := f.sign neg + (2 ^ f.eb - 1) * 2 ^ f.mb - 1

/-- Whether a magnitude with a remainder is rounded up: RMODE 0 and 1 to even, 2 toward negative, 3 toward zero. -/
def roundUp (rm : Nat) (neg : Bool) (q rem half : Nat) : Bool :=
  match rm with
  | 2 => neg && decide (rem ≠ 0)
  | 3 => false
  | _ => decide (half < rem) || (decide (rem = half) && decide (rem ≠ 0) && decide (q % 2 = 1))

/-- The float nearest to `m * 2^e` under RMODE; a subnormal result is written as zero of its sign (R126). -/
def Flt.round (f : Flt) (rm : Nat) (neg : Bool) (m : Nat) (e : Int) : Nat :=
  if m = 0 then f.sign neg
  else
    let top : Int := Nat.log2 m + e
    let q : Int := max (top - f.mb) (1 - f.bias - f.mb)
    let sh := (q - e).toNat
    let lsh := (e - q).toNat
    let base := if e < q then m >>> sh else m <<< lsh
    let rem := if e < q then m % 2 ^ sh else 0
    let r := if roundUp rm neg base rem (if e < q then 2 ^ (sh - 1) else 0) then base + 1 else base
    let big := r = 2 ^ (f.mb + 1)
    let r2 := if big then 2 ^ f.mb else r
    let q2 := if big then q + 1 else q
    let ex := (q2 + f.mb + f.bias).toNat
    if r2 < 2 ^ f.mb then f.sign neg
    else if 2 ^ f.eb - 1 ≤ ex then
      (match rm with
       | 2 => if neg then f.infBits true else f.maxBits false
       | 3 => f.maxBits neg
       | _ => f.infBits neg)
    else f.sign neg + ex * 2 ^ f.mb + (r2 - 2 ^ f.mb)

/-- The signed sum of two finite numbers, on their smaller exponent. -/
def exactSum (na : Bool) (ma : Nat) (ea : Int) (nb : Bool) (mb : Nat) (eb : Int) : Int × Int :=
  let e := min ea eb
  let x : Int := (ma : Int) * 2 ^ (ea - e).toNat
  let y : Int := (mb : Int) * 2 ^ (eb - e).toNat
  ((if na then -x else x) + (if nb then -y else y), e)

/-- The sum of two values, rounded once. -/
def Flt.addVal (f : Flt) (rm : Nat) (a b : FVal) : Nat :=
  match a, b with
  | .nan, _ => f.qnan
  | _, .nan => f.qnan
  | .inf x, .inf y => if x = y then f.infBits x else f.qnan
  | .inf x, .num _ _ _ => f.infBits x
  | .num _ _ _, .inf y => f.infBits y
  | .num na ma ea, .num nb mb eb =>
    let s := exactSum na ma ea nb mb eb
    if s.1 = 0 then f.sign (if na = nb then na else decide (rm = 2))
    else f.round rm (decide (s.1 < 0)) s.1.natAbs s.2

/-- The exact product of two values. -/
def FVal.mul (a b : FVal) : FVal :=
  match a, b with
  | .nan, _ => .nan
  | _, .nan => .nan
  | .inf x, .inf y => .inf (x != y)
  | .inf x, .num y m _ => if m = 0 then .nan else .inf (x != y)
  | .num x m _, .inf y => if m = 0 then .nan else .inf (x != y)
  | .num x m e, .num y n g => .num (x != y) (m * n) (e + g)

/-- A value with its sign flipped. -/
def FVal.neg : FVal → FVal
  | .nan => .nan
  | .inf x => .inf (!x)
  | .num x m e => .num (!x) m e

/-- A value without its sign. -/
def FVal.abs : FVal → FVal
  | .nan => .nan
  | .inf _ => .inf false
  | .num _ m e => .num false m e

/-- The bits of a value. -/
def Flt.bits (f : Flt) (rm : Nat) : FVal → Nat
  | .nan => f.qnan
  | .inf x => f.infBits x
  | .num x m e => f.round rm x m e

/-- Sum of two floats. -/
def Flt.add (f : Flt) (rm a b : Nat) : Nat := f.addVal rm (f.decode a) (f.decode b)
/-- Difference. -/
def Flt.sub (f : Flt) (rm a b : Nat) : Nat := f.addVal rm (f.decode a) (f.decode b).neg
/-- Product. -/
def Flt.mul (f : Flt) (rm a b : Nat) : Nat := f.bits rm ((f.decode a).mul (f.decode b))
/-- Fused multiply-add: `d + a * b`, or with `sub` `d - a * b`, rounded once. -/
def Flt.fma (f : Flt) (rm : Nat) (sub : Bool) (d a b : Nat) : Nat :=
  let p := (f.decode a).mul (f.decode b)
  f.addVal rm (f.decode d) (if sub then p.neg else p)

/-- Whether one value is below another; with a NaN it is not. `zeros` orders -0 below +0. -/
def FVal.lt (zeros : Bool) (a b : FVal) : Bool :=
  match a, b with
  | .nan, _ => false
  | _, .nan => false
  | .inf x, .inf y => x && !y
  | .inf x, .num _ _ _ => x
  | .num _ _ _, .inf y => !y
  | .num na ma ea, .num nb mb eb =>
    let s := exactSum na ma ea (!nb) mb eb
    if ma = 0 && mb = 0 then zeros && na && !nb else s.1 < 0

/-- Equality of values: NaN is unequal, the zeros are equal. -/
def FVal.eq (a b : FVal) : Bool := a ≠ .nan && b ≠ .nan && !FVal.lt false a b && !FVal.lt false b a

/-- Smaller or larger of two floats; the other operand where one is NaN (R126). -/
def Flt.minMax (f : Flt) (rm : Nat) (mx : Bool) (a b : Nat) : Nat :=
  let x := f.decode a
  let y := f.decode b
  f.bits rm (if x = .nan then y else if y = .nan then x
    else if FVal.lt true y x then (if mx then x else y) else (if mx then y else x))

/-- A float's bits as R126 writes them: no subnormal, one NaN. -/
def Flt.canon (f : Flt) (rm a : Nat) : Nat := f.bits rm (f.decode a)

/-! ## Conversions (R127) -/

/-- A fixed-point number of `fb` fraction bits as a float. -/
def toFloat (f : Flt) (rm : Nat) (x : Int) (fb : Nat) : Nat := f.round rm (decide (x < 0)) x.natAbs (-(fb : Int))

/-- A float as a fixed-point number of `w` bits with `fb` fraction bits (R127). -/
def fromFloat (f : Flt) (rm a w fb : Nat) : Nat × Bool :=
  match f.decode a with
  | .nan => (0, true)
  | .inf neg => fin true (if neg then -(2 ^ w) else 2 ^ w) w true
  | .num neg m e =>
    let x : Int := if neg then -(m : Int) else m
    let sh := e + fb
    fin true (if 0 ≤ sh then x * 2 ^ sh.toNat else rnd x (-sh).toNat rm) w true

/-- Whether VCVT converts from one type to another. -/
def cvtOk (src dst : Nat) : Bool :=
  (src = 7 && (dst = 1 || dst = 3)) || (dst = 7 && (src = 1 || src = 3)) ||
  (src = 8 && (dst = 2 || dst = 4)) || (dst = 8 && (src = 2 || src = 4))

/-- VCVT of one element (R127). -/
def cvt (rm src dst a : Nat) : Nat × Bool :=
  let fb (e : Nat) : Nat := if tyQ e then ewOf e - 1 else 0
  if tyF src then fromFloat (fltOf src) rm a (ewOf dst) (fb dst)
  else (toFloat (fltOf dst) rm (sgn (ewOf src) a) (fb src), false)

/-! ## Element operations (R125, R129, R130) -/

/-- a + b. -/
def elAdd (m : VMode) (a b : Nat) : Nat × Bool :=
  if tyF m.e then ((fltOf m.e).add m.rm a b, false) else perComp2 m.e (fun x y => fin m.sat (x + y) (cwOf m.e) false) a b

/-- a - b. -/
def elSub (m : VMode) (a b : Nat) : Nat × Bool :=
  if tyF m.e then ((fltOf m.e).sub m.rm a b, false) else perComp2 m.e (fun x y => fin m.sat (x - y) (cwOf m.e) false) a b

/-- Minimum, or maximum with `mx`. -/
def elMinMax (mx : Bool) (m : VMode) (a b : Nat) : Nat × Bool :=
  if tyF m.e then ((fltOf m.e).minMax m.rm mx a b, false)
  else if decide (sgn (cwOf m.e) a ≤ sgn (cwOf m.e) b) = mx then (b, false) else (a, false)

/-- |a|. -/
def elAbs (m : VMode) (a : Nat) : Nat × Bool :=
  if tyF m.e then ((fltOf m.e).bits m.rm ((fltOf m.e).decode a).abs, false)
  else perComp m.e (fun x => fin m.sat x.natAbs (cwOf m.e) false) a

/-- -a. -/
def elNeg (m : VMode) (a : Nat) : Nat × Bool :=
  if tyF m.e then ((fltOf m.e).bits m.rm ((fltOf m.e).decode a).neg, false)
  else perComp m.e (fun x => fin m.sat (-x) (cwOf m.e) false) a

/-- Complex conjugate. -/
def elConj (m : VMode) (a : Nat) : Nat × Bool :=
  mkC (cwOf m.e) (a % 2 ^ cwOf m.e, false) (fin m.sat (-(imOf (cwOf m.e) a)) (cwOf m.e) false)

/-- The shifts: 0 sll, 1 srl, 2 sra, 3 srar. -/
def elShift (kind : Nat) (m : VMode) (k a : Nat) : Nat × Bool :=
  let w := cwOf m.e
  perComp m.e (fun x =>
    match kind with
    | 0 => fin m.sat (x * 2 ^ k) w false
    | 1 => if w ≤ k then (0, false) else ((x % 2 ^ w).toNat >>> k, false)
    | 2 => (((x >>> min k (w - 1)) % 2 ^ w).toNat, false)
    | _ => fin m.sat (rnd x k m.rm) w false) a

/-- a * b, and a * conj(b). -/
def elMul (conj : Bool) (m : VMode) (a b : Nat) : Nat × Bool :=
  let w := cwOf m.e
  if tyF m.e then ((fltOf m.e).mul m.rm a b, false)
  else if tyC m.e then
    let p := cprod w conj a b
    mkC w (fin m.sat (rnd p.1 (w - 1) m.rm) w false) (fin m.sat (rnd p.2 (w - 1) m.rm) w false)
  else if tyQ m.e then fin m.sat (rnd (sgn w a * sgn w b) (w - 1) m.rm) w false
  else fin m.sat (sgn w a * sgn w b) w false

/-- d + a * b, d + a * conj(b), and with `sub` d - a * b. -/
def elMac (conj sub : Bool) (m : VMode) (d a b : Nat) : Nat × Bool :=
  let w := cwOf m.e
  let g (x : Int) : Int := if sub then -x else x
  if tyF m.e then ((fltOf m.e).fma m.rm sub d a b, false)
  else if tyC m.e then
    let p := cprod w conj a b
    mkC w (fin m.sat (rnd (reOf w d * 2 ^ (w - 1) + g p.1) (w - 1) m.rm) w false)
      (fin m.sat (rnd (imOf w d * 2 ^ (w - 1) + g p.2) (w - 1) m.rm) w false)
  else if tyQ m.e then fin m.sat (rnd (sgn w d * 2 ^ (w - 1) + g (sgn w a * sgn w b)) (w - 1) m.rm) w false
  else fin m.sat (sgn w d + g (sgn w a * sgn w b)) w false

/-- Widening sum. -/
def elWadd (m : VMode) (a b : Nat) : Nat × Bool :=
  let w := cwOf m.e
  let s (x y : Int) : Nat × Bool := fin m.sat (if tyQ m.e || tyC m.e then x * 2 ^ 16 + y * 2 ^ 16 else x + y) (2 * w) false
  if tyC m.e then mkC (2 * w) (s (reOf w a) (reOf w b)) (s (imOf w a) (imOf w b)) else s (sgn w a) (sgn w b)

/-- Widening product, added to `d`. -/
def elWmac (conj : Bool) (m : VMode) (d a b : Nat) : Nat × Bool :=
  let w := cwOf m.e
  if tyC m.e then
    let p := cprod w conj a b
    mkC (2 * w) (fin m.sat (reOf (2 * w) d + p.1 * 2) (2 * w) false) (fin m.sat (imOf (2 * w) d + p.2 * 2) (2 * w) false)
  else
    let p := sgn w a * sgn w b
    fin m.sat (sgn (2 * w) d + (if tyQ m.e then p * 2 else p)) (2 * w) false

/-- Power of a C16 element as Q31. -/
def elPow (m : VMode) (a : Nat) : Nat × Bool :=
  fin m.sat ((reOf 16 a * reOf 16 a + imOf 16 a * imOf 16 a) * 2) 32 false

/-- Narrowing of an element of twice the width by `k`. -/
def elNarrow (m : VMode) (k a : Nat) : Nat × Bool :=
  let w := cwOf m.e
  let n (x : Int) : Nat × Bool := fin m.sat (rnd x k m.rm) w true
  if tyC m.e then mkC w (n (reOf (2 * w) a)) (n (imOf (2 * w) a)) else n (sgn (2 * w) a)

/-- Signed less-than of two elements of a real or float type. -/
def elLt (m : VMode) (a b : Nat) : Bool :=
  if tyF m.e then FVal.lt false ((fltOf m.e).decode a) ((fltOf m.e).decode b)
  else sgn (cwOf m.e) a < sgn (cwOf m.e) b

/-- Equality of two elements. -/
def elEq (m : VMode) (a b : Nat) : Bool :=
  if tyF m.e then FVal.eq ((fltOf m.e).decode a) ((fltOf m.e).decode b) else a = b

end Sys2Proof.Machine
end

