-- ==== Sys2Proof/Machine/Vector.lean ====
section
/-!
DEFINITION. The vector instructions of the signal core (05_vector_extension.md, R115 to R139). A vector instruction acts
at once; a memory instruction reaches its memory inside its own step, after the core's earlier stores are answered.
-/

namespace Sys2Proof.Machine

/-! ## Groups, elements and masks (R117, R122) -/

/-- A vector register. -/
def Core.vr (k : Core) (r : Nat) : BitVec 4096 := mapGet k.v 0 r

/-- A vector register is replaced. -/
def Core.setV (k : Core) (r : Nat) (x : BitVec 4096) : Core := { k with v := mapSet k.v 0 r x }

/-- A mask register. -/
def Core.mr (k : Core) (r : Nat) : BitVec 512 := mapGet k.m 0 r

/-- A mask register is replaced. -/
def Core.setM (k : Core) (r : Nat) (x : BitVec 512) : Core := { k with m := mapSet k.m 0 r x }

/-- Element `i` of width `ew` of the group at `g`. -/
def Core.elem (k : Core) (g ew i : Nat) : Nat := ((k.vr (g + ew * i / 4096)).extractLsb' (ew * i % 4096) ew).toNat

/-- Element `i` of a group takes a value. -/
def Core.setElem (k : Core) (g ew i x : Nat) : Core :=
  let r := g + ew * i / 4096
  let o := ew * i % 4096
  k.setV r ((k.vr r &&& ~~~ ((BitVec.ofNat 4096 (2 ^ ew - 1)) <<< o)) ||| (BitVec.ofNat 4096 (x % 2 ^ ew) <<< o))

/-- Elements of a group take values, in the order of the list. -/
def Core.setElems (k : Core) (g ew : Nat) (l : List (Nat × Nat)) : Core := l.foldl (fun k e => k.setElem g ew e.1 e.2) k

/-- The elements from VRESUME to VCOUNT. -/
def Core.span_ (k : Core) : List Nat := (List.range k.vcount).filter (fun i => k.vresume ≤ i)

/-- The active elements of an instruction (R122). -/
def Core.active (k : Core) (men : Bool) (m : BitVec 3) : List Nat :=
  k.span_.filter (fun i => !men || (k.mr m.toNat).getLsbD i)

/-- Element width of VMODE. -/
def Core.ew (k : Core) : Nat := ewOf k.etype

/-- The registers of a group. -/
def groupRegs (g n : Nat) : List Nat := (List.range n).map (g + ·)

/-- Whether two groups share a register. -/
def groupsMeet (g n h l : Nat) : Bool := decide (g < h + l) && decide (h < g + n)

/-! ## Legality (R123, R128) -/

/-- What makes every instruction of opcodes 0x31 to 0x36 illegal whatever its operands: VILL, an m without MEN, and but
for memory instructions a VRESUME that is not 0. -/
def Core.vBad (k : Core) (men : Bool) (m : BitVec 3) (mem : Bool) : Bool :=
  k.villOn || (!men && decide (m ≠ 0)) || (!mem && decide (k.vresume ≠ 0))

/-- Whether a field is not aligned to a group of `n` registers. -/
def unaligned (r : BitVec 5) (n : Nat) : Bool := r.toNat % n ≠ 0

/-- Whether a 5-bit field names no mask register. -/
def badMask (r : BitVec 5) : Bool := 8 ≤ r.toNat

/-! ## Completion -/

/-- A vector instruction completes: its result and VSAT stand, VRESUME is 0, beats are counted (R124, R137, R444). -/
def State.vRetire (s : State) (c beats : Nat) (r : Core × Bool) : State :=
  let set := r.2 && (r.1.crv crVsat) = 0
  let k1 := (if set then r.1.setCr crVsat 1 else r.1).setCr crVresume 0
  let s1 := (s.setCore c k1).tallied c 16 beats
  (if set then s1.tallied c 17 1 else s1).retire c

/-- B of R133. -/
def Core.beats (k : Core) (ew : Nat) : Nat := max 1 ((k.vcount * ew + 1023) / 1024)

/-- An element-wise result: active elements of the group at `vd` take the values of `f`. -/
def Core.vMap (k : Core) (vd ew : Nat) (is : List Nat) (f : Nat → Nat × Bool) : Core × Bool :=
  (k.setElems vd ew (is.map (fun i => (i, (f i).1))), is.any (fun i => (f i).2))

/-- A mask result: the bits of the listed elements take the values of `f`. -/
def Core.mMap (k : Core) (md : Nat) (is : List Nat) (f : Nat → Bool) : Core × Bool :=
  (k.setM md (is.foldl (fun x i =>
    if f i then x ||| ((1#512) <<< i) else x &&& ~~~ ((1#512) <<< i)) (k.mr md)), false)

/-- A vector instruction that is not a memory access: its registers, what makes it illegal, its beats and its result. -/
def State.vInsn (s : State) (c : BitVec 8) (use : Use) (bad : Bool) (beats : Nat) (r : Core → Core × Bool) : State :=
  s.runInsn c.toNat use .skip (illegalIf bad) none false false (s.vRetire c.toNat beats (r (s.core c.toNat)))

/-! ## VV and VS (R129) -/

/-- A binary VV or VS instruction whose operands and result are groups of SPAN: `f` gets the modes and the previous
destination, vs1 and vs2 elements. -/
def State.vBin (s : State) (c : BitVec 8) (sc : Bool) (vd vs1 vs2 : BitVec 5) (men : Bool) (m : BitVec 3)
    (types : Nat → Bool) (f : VMode → Nat → Nat → Nat → Nat × Bool) : State :=
  let k := s.core c.toNat
  let n := k.span
  s.vInsn c ⟨if sc then [vs2.toNat] else [], [],
      groupRegs vs1.toNat n ++ (if sc then [] else groupRegs vs2.toNat n), groupRegs vd.toNat n⟩
    (k.vBad men m false || !types k.etype || unaligned vd n || unaligned vs1 n || (!sc && unaligned vs2 n))
    (k.beats k.ew)
    (fun k => k.vMap vd.toNat k.ew (k.active men m) (fun i =>
      f k.vmode (k.elem vd.toNat k.ew i) (k.elem vs1.toNat k.ew i)
        (if sc then (k.gr vs2.toNat).toNat % 2 ^ k.ew else k.elem vs2.toNat k.ew i)))

/-- The shift amount of a VV or VS shift: the low 6 bits of the element, or of the scalar (R129). -/
def shiftBy (b : Nat) : Nat := b % 64

/-- A shift of VV or VS. In VS the amount is g[rs2][5:0]. -/
def State.vShift (s : State) (c : BitVec 8) (sc : Bool) (vd vs1 vs2 : BitVec 5) (men : Bool) (m : BitVec 3)
    (kind : Nat) : State :=
  s.vBin c sc vd vs1 vs2 men m (fun e => tyR e || tyC e) (fun x _ a b => elShift kind x (shiftBy b) a)

/-- A unary function: the vs2 field is 0, and VS is reserved. -/
def State.vUn (s : State) (c : BitVec 8) (sc : Bool) (vd vs1 vs2 : BitVec 5) (men : Bool) (m : BitVec 3)
    (types : Nat → Bool) (f : VMode → Nat → Nat × Bool) : State :=
  let k := s.core c.toNat
  let n := k.span
  s.vInsn c ⟨[], [], groupRegs vs1.toNat n, groupRegs vd.toNat n⟩
    (k.vBad men m false || sc || decide (vs2 ≠ 0) || !types k.etype || unaligned vd n || unaligned vs1 n)
    (k.beats k.ew)
    (fun k => k.vMap vd.toNat k.ew (k.active men m) (fun i => f k.vmode (k.elem vs1.toNat k.ew i)))

/-- A widening instruction: vd is a group of twice SPAN in the type of twice the width, apart from its sources (R123,
R125). A vd that starts at a source's register overlaps it too: the groups differ in size and so are not identical (DESIGN
CHOICE: R123 does not say what identical means of them; log entry 98). -/
def State.vWide (s : State) (c : BitVec 8) (sc : Bool) (vd vs1 vs2 : BitVec 5) (men : Bool) (m : BitVec 3)
    (types : Nat → Bool) (f : VMode → Nat → Nat → Nat → Nat × Bool) : State :=
  let k := s.core c.toNat
  let n := k.span
  s.vInsn c ⟨if sc then [vs2.toNat] else [], [],
      groupRegs vs1.toNat n ++ (if sc then [] else groupRegs vs2.toNat n), groupRegs vd.toNat (2 * n)⟩
    (k.vBad men m false || !types k.etype || unaligned vd (2 * n) || unaligned vs1 n || (!sc && unaligned vs2 n) ||
      groupsMeet vd.toNat (2 * n) vs1.toNat n || (!sc && groupsMeet vd.toNat (2 * n) vs2.toNat n))
    (k.beats (2 * k.ew))
    (fun k => k.vMap vd.toNat (2 * k.ew) (k.active men m) (fun i =>
      f k.vmode (k.elem vd.toNat (2 * k.ew) i) (k.elem vs1.toNat k.ew i)
        (if sc then (k.gr vs2.toNat).toNat % 2 ^ k.ew else k.elem vs2.toNat k.ew i)))

/-- A narrowing instruction by a shift amount: vs1 is a group of twice SPAN in the type of twice the width, apart from vd
(R123, R125). -/
def State.vNarrow (s : State) (c : BitVec 8) (rs : List Nat) (bad : Bool) (vd vs1 : BitVec 5) (men : Bool) (m : BitVec 3)
    (amount : Core → Nat) : State :=
  let k := s.core c.toNat
  let n := k.span
  s.vInsn c ⟨rs, [], groupRegs vs1.toNat (2 * n), groupRegs vd.toNat n⟩
    (k.vBad men m false || bad || !tyNarrow k.etype || unaligned vd n || unaligned vs1 (2 * n) ||
      groupsMeet vd.toNat n vs1.toNat (2 * n))
    (k.beats (2 * k.ew))
    (fun k => k.vMap vd.toNat k.ew (k.active men m) (fun i => elNarrow k.vmode (amount k) (k.elem vs1.toNat (2 * k.ew) i)))

/-! ## VI (R130) -/

/-- An immediate instruction on a group. -/
def State.vImm (s : State) (c : BitVec 8) (vd vs1 : BitVec 5) (men : Bool) (m : BitVec 3) (bad : Bool)
    (f : VMode → Nat → Nat × Bool) : State :=
  let k := s.core c.toNat
  let n := k.span
  s.vInsn c ⟨[], [], groupRegs vs1.toNat n, groupRegs vd.toNat n⟩
    (k.vBad men m false || bad || !(tyR k.etype || tyC k.etype) || unaligned vd n || unaligned vs1 n)
    (k.beats k.ew)
    (fun k => k.vMap vd.toNat k.ew (k.active men m) (fun i => f k.vmode (k.elem vs1.toNat k.ew i)))

/-- A shift by an immediate: imm8[7:6] must be 0. -/
def State.vShiftImm (s : State) (c : BitVec 8) (vd vs1 : BitVec 5) (imm : BitVec 8) (men : Bool) (m : BitVec 3)
    (kind : Nat) : State :=
  s.vImm c vd vs1 men m (64 ≤ imm.toNat) (fun x a => elShift kind x (imm.toNat % 64) a)

/-! ## VX (R131) -/

/-- A reduction into element 0 of vd; with VCOUNT = 0 nothing is touched (R123, R131). -/
def State.vRed (s : State) (c : BitVec 8) (d s1 s2 : BitVec 5) (men : Bool) (m : BitVec 3) (types : Nat → Bool)
    (f : VMode → Nat → List Nat → Nat × Bool) : State :=
  let k := s.core c.toNat
  let n := k.span
  s.vInsn c ⟨[], [], groupRegs s1.toNat n ++ groupRegs s2.toNat n, groupRegs d.toNat n⟩
    (k.vBad men m false || !types k.etype || unaligned d n || unaligned s1 n || unaligned s2 n)
    (k.beats k.ew)
    (fun k => if k.vcount = 0 then (k, false)
      else
        let r := f k.vmode (k.elem s2.toNat k.ew 0) ((k.active men m).map (fun i => k.elem s1.toNat k.ew i))
        (k.setElem d.toNat k.ew 0 r.1, r.2))

/-- VREDSUM's sum: exact and then fin, or for floats in ascending order with a rounding each. -/
def elRedSum (m : VMode) (x : Nat) (l : List Nat) : Nat × Bool :=
  let w := cwOf m.e
  if tyF m.e then (l.foldl (fun acc y => (fltOf m.e).add m.rm acc y) ((fltOf m.e).canon m.rm x), false)
  else if tyC m.e then
    mkC w (fin m.sat (l.foldl (fun acc y => acc + reOf w y) (reOf w x)) w false)
      (fin m.sat (l.foldl (fun acc y => acc + imOf w y) (imOf w x)) w false)
  else fin m.sat (l.foldl (fun acc y => acc + sgn w y) (sgn w x)) w false

/-- VREDMAX's and VREDMIN's choice. -/
def elRedMinMax (mx : Bool) (m : VMode) (x : Nat) (l : List Nat) : Nat × Bool :=
  (l.foldl (fun acc y => (elMinMax mx m acc y).1) (if tyF m.e then (fltOf m.e).canon m.rm x else x), false)

/-- A move between groups: `f` gives the raw value of a destination element, or nothing where it keeps its value. `apart`
says that vd may not overlap a source. -/
def State.vMove (s : State) (c : BitVec 8) (rs : List Nat) (d : BitVec 5) (src : List (BitVec 5)) (men : Bool) (m : BitVec 3)
    (bad apart : Bool) (twice : Nat) (is : Core → List Nat) (f : Core → Nat → Option Nat) : State :=
  let k := s.core c.toNat
  let n := k.span
  s.vInsn c ⟨rs, [], src.flatMap (fun g => groupRegs g.toNat n), groupRegs d.toNat n⟩
    (k.vBad men m false || bad || unaligned d n || src.any (fun g => unaligned g n) ||
      (apart && src.any (fun g => groupsMeet d.toNat n g.toNat n)))
    (twice * k.beats k.ew)
    (fun k => (k.setElems d.toNat k.ew ((is k).filterMap (fun i => (f k i).map (fun x => (i, x)))), false))

/-- A comparison into a mask register. -/
def State.vCmp (s : State) (c : BitVec 8) (d s1 s2 : BitVec 5) (men : Bool) (m : BitVec 3) (types : Nat → Bool)
    (f : VMode → Nat → Nat → Bool) : State :=
  let k := s.core c.toNat
  let n := k.span
  s.vInsn c ⟨[], [], groupRegs s1.toNat n ++ groupRegs s2.toNat n, []⟩
    (k.vBad men m false || badMask d || !types k.etype || unaligned s1 n || unaligned s2 n)
    (k.beats k.ew)
    (fun k => k.mMap d.toNat (k.active men m) (fun i => f k.vmode (k.elem s1.toNat k.ew i) (k.elem s2.toNat k.ew i)))

/-- A logical function of mask registers. -/
def State.vMaskOp (s : State) (c : BitVec 8) (d s1 s2 : BitVec 5) (men : Bool) (m : BitVec 3) (f : Bool → Bool → Bool) :
    State :=
  let k := s.core c.toNat
  s.vInsn c (useG [] []) (k.vBad men m false || men || badMask d || badMask s1 || badMask s2) 1
    (fun k => k.mMap d.toNat (List.range k.vcount) (fun i => f ((k.mr s1.toNat).getLsbD i) ((k.mr s2.toNat).getLsbD i)))

/-- A function of a mask register into a g register. -/
def State.vMaskG (s : State) (c : BitVec 8) (d s1 : BitVec 5) (men : Bool) (m : BitVec 3) (f : Core → List Nat → DWord) :
    State :=
  let k := s.core c.toNat
  s.vInsn c (useG [] [d.toNat]) (k.vBad men m false || men || badMask s1) 1
    (fun k => (k.setG d.toNat (f k ((List.range k.vcount).filter (fun i => (k.mr s1.toNat).getLsbD i))), false))

/-! ## Vector memory access (R132 to R138) -/

/-- Bytes of an element. -/
def Core.eb (k : Core) : Nat := k.ew / 8

/-- ISPAN of R132. -/
def Core.ispan (k : Core) : Nat := max 1 (k.vlmax / 128)

/-- The address of element `i`: unit-stride, strided, indexed (R132). -/
def Core.vAddr (k : Core) (mode base s2 i : Nat) : DWord :=
  match mode with
  | 0 => k.gr base + BitVec.ofNat 64 (i * k.eb)
  | 1 => k.gr base + BitVec.ofNat 64 i * k.gr s2
  | 2 => k.gr base + BitVec.ofNat 64 (k.elem s2 32 i)
  | _ => k.gr base + BitVec.ofNat 64 i

/-- The pieces that an access makes: each element's address, or in mask mode each byte's (R132). -/
def Core.vPieces (k : Core) (mode base s2 : Nat) (men : Bool) (m : BitVec 3) : List (Nat × DWord) :=
  if k.vcount ≤ k.vresume then []
  else if mode = 3 then (List.range ((k.vcount + 7) / 8)).map (fun i => (i, k.vAddr 3 base s2 i))
  else (k.active men m).map (fun i => (i, k.vAddr mode base s2 i))

/-- The checks of R135 on an element of `eb` bytes. Register space gives VMEM_FAULT in both modes, where R105 names PRIV for a
load or store in task mode (DESIGN CHOICE between the two; log entry 96). -/
def vCheck (eb : Nat) (a : DWord) : Option Trap :=
  if 2 ^ 40 ≤ a.toNat then some ⟨0x0C, 0x12, a.toNat % 2 ^ 40⟩
  else if a.toNat % eb ≠ 0 then some ⟨0x0C, 0x10, a.toNat⟩
  else if inRegSpace a then some ⟨0x0C, 0x02, a.toNat⟩
  else none

/-- The response to an element's access. -/
def State.vResp (s : State) (c a : Nat) (write : Bool) : Nat := if ownData c a then rDone else s.accessResp c a write

/-- The prefetched granule that holds an element, which its load reads in place of memory (R97). -/
def State.vPf (s : State) (c a : Nat) : Option PfEntry :=
  if ownData c a || !isMemAddr a then none else (s.core c).pfEntry (a / 64)

/-- The bytes that a vector load reads of an element. -/
def State.vLoaded (s : State) (c eb a : Nat) : List Byte :=
  match s.vPf c a with
  | some e => slice (e.data.getD []) (a % 64) eb
  | none => s.engBytes a eb

/-- Why a load stops at an element: a check of R135, an error response, or POISON: the read of its granule finds a failing
byte in its 64-bit word (R136, R268, R285). -/
def State.vLoadStop (s : State) (c eb : Nat) (a : DWord) : Option Trap :=
  match vCheck eb a with
  | some t => some t
  | none =>
    if (s.vPf c a.toNat).isSome then none
    else if s.vResp c a.toNat false ≠ rDone then some ⟨0x0C, s.vResp c a.toNat false, a.toNat⟩
    else if !isHostAddr a.toNat && !(s.badIn (a.toNat / 8 * 8) 8).isEmpty then some (trapPoison 0x03 a.toNat)
    else none

/-- What the reads of a vector load leave behind: each granule's parity record (R285), the device cache's lines; a free
value is used. -/
def State.vReadEffect (s : State) (c eb : Nat) (l : List (Nat × DWord)) (stop : Option (Nat × DWord)) : State :=
  let read := (l ++ stop.toList).filter (fun e =>
    (vCheck eb e.2).isNone && (s.vPf c e.2.toNat).isNone && decide (s.vResp c e.2.toNat false = rDone))
  let s1 := ((read.map (fun e => e.2.toNat / 64)).eraseDups).foldl (fun t g =>
    if isHostAddr (64 * g) then t.hostFetchRange (64 * g) 64 false else t.readNote c (64 * g) 64 false) s
  let s2 := match stop with
    | some e => if (vCheck eb e.2).isNone && decide (s.vResp c e.2.toNat false ≠ rDone) then s1.rangeMiss e.2.toNat else s1
    | none => s1
  { s2 with freeCtr := s2.freeCtr + 1 }

/-- A vector instruction stops at element `i` with a trap (R136): VRESUME is set to the element. -/
def State.vStop (s : State) (c i : Nat) (t : Trap) : State :=
  (s.mapCore c (fun k => k.setCr crVresume (BitVec.ofNat 64 i))).trap c t

/-- The beats of an access: those of R133 for the core's own data memory. -/
def Core.memBeats (k : Core) (c mode : Nat) (l : List (Nat × DWord)) : Nat :=
  if l.all (fun e => ownData c e.2.toNat) then
    (if mode = 1 || mode = 2 then (k.vcount + 7) / 8 else k.beats k.ew) else 0

/-- VLD's effect (R132, R136, R137). -/
def State.doVld (s : State) (c : Nat) (vt base s2 : Nat) (men : Bool) (m : BitVec 3) (mode : Nat) : State :=
  let k := s.core c
  let eb := if mode = 3 then 1 else k.eb
  let l := k.vPieces mode base s2 men m
  let stop := l.find? (fun e => (s.vLoadStop c eb e.2).isSome)
  let ok := l.takeWhile (fun e => (s.vLoadStop c eb e.2).isNone)
  let byte (a : DWord) : Nat := ofBytes (s.vLoaded c eb a.toNat)
  let s1 := s.vReadEffect c eb ok stop
  match stop with
  | some e =>
    (if mode = 3 then s1
      else s1.mapCore c (fun k => k.setElems vt k.ew (ok.map (fun e => (e.1, byte e.2))))) |>.vStop c
        (if mode = 3 then k.vresume else e.1) ((s.vLoadStop c eb e.2).getD trapIllegal)
  | none =>
    let k2 := if mode = 3 then
        (if l.isEmpty then k
         else (k.mMap vt (List.range k.vcount) (fun i => (l.map (fun e => byte e.2)).getD (i / 8) 0 |>.testBit (i % 8))).1)
      else k.setElems vt k.ew (ok.map (fun e => (e.1, byte e.2)))
    let s2 := s1.vRetire c (k.memBeats c mode l) (k2, false)
    let s3 := if l.any (fun e => (s.vPf c e.2.toNat).isSome) then s2.tallied c 9 1 else s2
    if l.any (fun e => !ownData c e.2.toNat) then s3.tallied c 10 1 else s3

/-- Whether a vector load waits: for the core's older stores, for room (R103), or for the prefetch of one of its granules
(R97). -/
def State.vldWaits (s : State) (c base s2 : Nat) (men : Bool) (m : BitVec 3) (mode : Nat) : Bool :=
  decide (16 ≤ s.loadsOut c) || decide (s.storesOut c ≠ 0) ||
  ((s.core c).vPieces mode base s2 men m).any (fun e => match s.vPf c e.2.toNat with
    | some x => x.data.isNone
    | none => false)

/-- The bytes that a store's piece writes. -/
def Core.vBytes (k : Core) (vt mode i : Nat) : List Byte :=
  if mode = 3 then [(k.mr vt).extractLsb' (8 * i) 8] else toBytes k.eb (k.elem vt k.ew i)

/-- Pieces of a store are performed in ascending order; one that is answered with an error waits as a deferred trap
(R134, R138). -/
def State.vRelease (s : State) (c vt mode : Nat) (l : List (Nat × DWord)) : State :=
  let k := s.core c
  l.foldl (fun t e =>
    if t.vResp c e.2.toNat true = rDone then
      (t.engPut e.2.toNat (k.vBytes vt mode e.1) false).mapCore c (fun k => k.dropPf e.2.toNat k.eb)
    else (t.rangeMiss e.2.toNat).defer c 0x08 (t.vResp c e.2.toNat true) (e.2.truncate 40)) s

/-- Why a store traps before it releases a piece: a check of R135, or in mask mode, which is performed whole or not at all, an
error response (R138). -/
def State.vStoreStop (s : State) (c eb mode : Nat) (a : DWord) : Option Trap :=
  match vCheck eb a with
  | some t => some t
  | none =>
    if mode = 3 && s.vResp c a.toNat true ≠ rDone then some ⟨0x0C, s.vResp c a.toNat true, a.toNat⟩ else none

/-- VST's effect (R132, R136 to R138). -/
def State.doVst (s : State) (c : Nat) (vt base s2 : Nat) (men : Bool) (m : BitVec 3) (mode : Nat) : State :=
  let k := s.core c
  let eb := if mode = 3 then 1 else k.eb
  let l := k.vPieces mode base s2 men m
  match l.find? (fun e => (s.vStoreStop c eb mode e.2).isSome) with
  | some e =>
    (if mode = 3 then (if (vCheck eb e.2).isNone then s.rangeMiss e.2.toNat else s)
     else s.vRelease c vt mode (l.takeWhile (fun e => (vCheck eb e.2).isNone))).vStop c
      (if mode = 3 then k.vresume else e.1) ((s.vStoreStop c eb mode e.2).getD trapIllegal)
  | none =>
    let s1 := s.vRelease c vt mode l
    s1.vRetire c (k.memBeats c mode l) (s1.core c, false)

/-- What makes a vector memory instruction illegal (R123, R132): `load` asks that vt stays apart from the index group. -/
def Core.vMemBad (k : Core) (vt s2 : BitVec 5) (men : Bool) (m : BitVec 3) (mode : BitVec 2) (z : BitVec 5) (load : Bool) :
    Bool :=
  k.vBad men m true || decide (z ≠ 0) ||
  (if mode = 3 then badMask vt || men else unaligned vt k.span) ||
  (match mode.toNat with
   | 1 => false
   | 2 => unaligned s2 k.ispan || (load && groupsMeet vt.toNat k.span s2.toNat k.ispan)
   | _ => decide (s2 ≠ 0))

/-- The registers of a vector memory instruction: g registers read, vector registers of vt and of the index. -/
def Core.vMemUse (k : Core) (vt base s2 : BitVec 5) (mode : BitVec 2) (load : Bool) : Use :=
  let data := if mode = 3 then [] else groupRegs vt.toNat k.span
  let idx := if mode = 2 then groupRegs s2.toNat k.ispan else []
  ⟨base.toNat :: (if mode = 1 then [s2.toNat] else []), [], if load then idx else data ++ idx, if load then data else []⟩

/-! ## VC (R120, R121) -/

/-- VCLAIM's count. -/
def Core.claim (k : Core) (req : DWord) : Nat := if k.villOn then 0 else min req.toNat k.vlmax

/-- VCLAIM on a core: VCOUNT and rd take the count. -/
def Core.vclaim (k : Core) (rd rs1 : Nat) : Core :=
  (k.setCr crVcount (BitVec.ofNat 64 (k.claim (k.gr rs1)))).setG rd (BitVec.ofNat 64 (k.claim (k.gr rs1)))

/-- VCLAIM: the mode and z fields must be 0 (R120, R128). -/
def execVclaim (c : BitVec 8) (rd rs1 z : BitVec 5) (mode : BitVec 9) (s : State) : Host.Outcome State Fault Refusal :=
  .next (s.runInsn c.toNat (useG [rs1.toNat] [rd.toNat]) .skip (illegalIf (z ≠ 0 || mode ≠ 0)) none false false
    ((s.mapCore c.toNat (fun k => k.vclaim rd.toNat rs1.toNat)).retire c.toNat))

/-- VSETCLAIM: VMODE[8:0] from the immediate, then VCLAIM (R121). -/
def execVsetclaim (c : BitVec 8) (rd rs1 z : BitVec 5) (mode : BitVec 9) (s : State) : Host.Outcome State Fault Refusal :=
  .next (s.runInsn c.toNat (useG [rs1.toNat] [rd.toNat]) .skip (illegalIf (z ≠ 0)) none false false
    ((s.mapCore c.toNat (fun k =>
      (k.writeVmode ((k.crv crVmode &&& 0xF000) ||| mode.zeroExtend 64)).vclaim rd.toNat rs1.toNat)).retire c.toNat))

/-! ## VV and VS instructions -/

/-- VADD (R129). -/
def execVadd (c : BitVec 8) (sc : Bool) (vd vs1 vs2 : BitVec 5) (men : Bool) (m : BitVec 3) (s : State) :
    Host.Outcome State Fault Refusal :=
  .next (s.vBin c sc vd vs1 vs2 men m (fun e => e ≤ 8) (fun x _ a b => elAdd x a b))

/-- VSUB (R129). -/
def execVsub (c : BitVec 8) (sc : Bool) (vd vs1 vs2 : BitVec 5) (men : Bool) (m : BitVec 3) (s : State) :
    Host.Outcome State Fault Refusal :=
  .next (s.vBin c sc vd vs1 vs2 men m (fun e => e ≤ 8) (fun x _ a b => elSub x a b))

/-- VMIN (R129). -/
def execVmin (c : BitVec 8) (sc : Bool) (vd vs1 vs2 : BitVec 5) (men : Bool) (m : BitVec 3) (s : State) :
    Host.Outcome State Fault Refusal :=
  .next (s.vBin c sc vd vs1 vs2 men m (fun e => tyR e || tyF e) (fun x _ a b => elMinMax false x a b))

/-- VMAX (R129). -/
def execVmax (c : BitVec 8) (sc : Bool) (vd vs1 vs2 : BitVec 5) (men : Bool) (m : BitVec 3) (s : State) :
    Host.Outcome State Fault Refusal :=
  .next (s.vBin c sc vd vs1 vs2 men m (fun e => tyR e || tyF e) (fun x _ a b => elMinMax true x a b))

/-- VAND (R129). -/
def execVand (c : BitVec 8) (sc : Bool) (vd vs1 vs2 : BitVec 5) (men : Bool) (m : BitVec 3) (s : State) :
    Host.Outcome State Fault Refusal :=
  .next (s.vBin c sc vd vs1 vs2 men m (fun _ => true) (fun _ _ a b => (a &&& b, false)))

/-- VOR (R129). -/
def execVor (c : BitVec 8) (sc : Bool) (vd vs1 vs2 : BitVec 5) (men : Bool) (m : BitVec 3) (s : State) :
    Host.Outcome State Fault Refusal :=
  .next (s.vBin c sc vd vs1 vs2 men m (fun _ => true) (fun _ _ a b => (a ||| b, false)))

/-- VXOR (R129). -/
def execVxor (c : BitVec 8) (sc : Bool) (vd vs1 vs2 : BitVec 5) (men : Bool) (m : BitVec 3) (s : State) :
    Host.Outcome State Fault Refusal :=
  .next (s.vBin c sc vd vs1 vs2 men m (fun _ => true) (fun _ _ a b => (a ^^^ b, false)))

/-- VMUL (R129). -/
def execVmul (c : BitVec 8) (sc : Bool) (vd vs1 vs2 : BitVec 5) (men : Bool) (m : BitVec 3) (s : State) :
    Host.Outcome State Fault Refusal :=
  .next (s.vBin c sc vd vs1 vs2 men m (fun e => e ≤ 8) (fun x _ a b => elMul false x a b))

/-- VMULC (R129). -/
def execVmulc (c : BitVec 8) (sc : Bool) (vd vs1 vs2 : BitVec 5) (men : Bool) (m : BitVec 3) (s : State) :
    Host.Outcome State Fault Refusal :=
  .next (s.vBin c sc vd vs1 vs2 men m tyC (fun x _ a b => elMul true x a b))

/-- VMAC (R129). -/
def execVmac (c : BitVec 8) (sc : Bool) (vd vs1 vs2 : BitVec 5) (men : Bool) (m : BitVec 3) (s : State) :
    Host.Outcome State Fault Refusal :=
  .next (s.vBin c sc vd vs1 vs2 men m (fun e => e ≤ 8) (fun x d a b => elMac false false x d a b))

/-- VMACC (R129). -/
def execVmacc (c : BitVec 8) (sc : Bool) (vd vs1 vs2 : BitVec 5) (men : Bool) (m : BitVec 3) (s : State) :
    Host.Outcome State Fault Refusal :=
  .next (s.vBin c sc vd vs1 vs2 men m tyC (fun x d a b => elMac true false x d a b))

/-- VMSUB (R129). -/
def execVmsub (c : BitVec 8) (sc : Bool) (vd vs1 vs2 : BitVec 5) (men : Bool) (m : BitVec 3) (s : State) :
    Host.Outcome State Fault Refusal :=
  .next (s.vBin c sc vd vs1 vs2 men m (fun e => e ≤ 8) (fun x d a b => elMac false true x d a b))

/-- VSLL (R129). -/
def execVsll (c : BitVec 8) (sc : Bool) (vd vs1 vs2 : BitVec 5) (men : Bool) (m : BitVec 3) (s : State) :
    Host.Outcome State Fault Refusal :=
  .next (s.vShift c sc vd vs1 vs2 men m 0)

/-- VSRL (R129). -/
def execVsrl (c : BitVec 8) (sc : Bool) (vd vs1 vs2 : BitVec 5) (men : Bool) (m : BitVec 3) (s : State) :
    Host.Outcome State Fault Refusal :=
  .next (s.vShift c sc vd vs1 vs2 men m 1)

/-- VSRA (R129). -/
def execVsra (c : BitVec 8) (sc : Bool) (vd vs1 vs2 : BitVec 5) (men : Bool) (m : BitVec 3) (s : State) :
    Host.Outcome State Fault Refusal :=
  .next (s.vShift c sc vd vs1 vs2 men m 2)

/-- VSRAR (R129). -/
def execVsrar (c : BitVec 8) (sc : Bool) (vd vs1 vs2 : BitVec 5) (men : Bool) (m : BitVec 3) (s : State) :
    Host.Outcome State Fault Refusal :=
  .next (s.vShift c sc vd vs1 vs2 men m 3)

/-- VABS, unary (R129). -/
def execVabs (c : BitVec 8) (sc : Bool) (vd vs1 vs2 : BitVec 5) (men : Bool) (m : BitVec 3) (s : State) :
    Host.Outcome State Fault Refusal :=
  .next (s.vUn c sc vd vs1 vs2 men m (fun e => tyR e || tyF e) elAbs)

/-- VNEG, unary (R129). -/
def execVneg (c : BitVec 8) (sc : Bool) (vd vs1 vs2 : BitVec 5) (men : Bool) (m : BitVec 3) (s : State) :
    Host.Outcome State Fault Refusal :=
  .next (s.vUn c sc vd vs1 vs2 men m (fun e => e ≤ 8) elNeg)

/-- VCONJ, unary (R129). -/
def execVconj (c : BitVec 8) (sc : Bool) (vd vs1 vs2 : BitVec 5) (men : Bool) (m : BitVec 3) (s : State) :
    Host.Outcome State Fault Refusal :=
  .next (s.vUn c sc vd vs1 vs2 men m tyC elConj)

/-- VWADD (R125, R129). -/
def execVwadd (c : BitVec 8) (sc : Bool) (vd vs1 vs2 : BitVec 5) (men : Bool) (m : BitVec 3) (s : State) :
    Host.Outcome State Fault Refusal :=
  .next (s.vWide c sc vd vs1 vs2 men m tyNarrow (fun x _ a b => elWadd x a b))

/-- VWMUL (R125, R129). -/
def execVwmul (c : BitVec 8) (sc : Bool) (vd vs1 vs2 : BitVec 5) (men : Bool) (m : BitVec 3) (s : State) :
    Host.Outcome State Fault Refusal :=
  .next (s.vWide c sc vd vs1 vs2 men m tyNarrow (fun x _ a b => elWmac false x 0 a b))

/-- VWMULC (R125, R129). -/
def execVwmulc (c : BitVec 8) (sc : Bool) (vd vs1 vs2 : BitVec 5) (men : Bool) (m : BitVec 3) (s : State) :
    Host.Outcome State Fault Refusal :=
  .next (s.vWide c sc vd vs1 vs2 men m (fun e => e = 5) (fun x _ a b => elWmac true x 0 a b))

/-- VWMAC (R125, R129). -/
def execVwmac (c : BitVec 8) (sc : Bool) (vd vs1 vs2 : BitVec 5) (men : Bool) (m : BitVec 3) (s : State) :
    Host.Outcome State Fault Refusal :=
  .next (s.vWide c sc vd vs1 vs2 men m tyNarrow (fun x d a b => elWmac false x d a b))

/-- VWMACC (R125, R129). -/
def execVwmacc (c : BitVec 8) (sc : Bool) (vd vs1 vs2 : BitVec 5) (men : Bool) (m : BitVec 3) (s : State) :
    Host.Outcome State Fault Refusal :=
  .next (s.vWide c sc vd vs1 vs2 men m (fun e => e = 5) (fun x d a b => elWmac true x d a b))

/-- VPOW, of one operand: the vs2 field is 0, and VS is reserved (R125, R129). -/
def execVpow (c : BitVec 8) (sc : Bool) (vd vs1 vs2 : BitVec 5) (men : Bool) (m : BitVec 3) (s : State) :
    Host.Outcome State Fault Refusal :=
  .next (s.vUn c sc vd vs1 vs2 men m (fun e => e = 5) elPow)

/-- VNARROW: VS only, by g[rs2][5:0] (R129). -/
def execVnarrow (c : BitVec 8) (sc : Bool) (vd vs1 vs2 : BitVec 5) (men : Bool) (m : BitVec 3) (s : State) :
    Host.Outcome State Fault Refusal :=
  .next (s.vNarrow c [vs2.toNat] (!sc) vd vs1 men m (fun k => (k.gr vs2.toNat).toNat % 64))

/-- VCVT: VV only, vs2 names the destination type (R127, R129). -/
def execVcvt (c : BitVec 8) (sc : Bool) (vd vs1 vs2 : BitVec 5) (men : Bool) (m : BitVec 3) (s : State) :
    Host.Outcome State Fault Refusal :=
  let k := s.core c.toNat
  .next (s.vInsn c ⟨[], [], groupRegs vs1.toNat k.span, groupRegs vd.toNat k.span⟩
    (k.vBad men m false || sc || !cvtOk k.etype vs2.toNat || unaligned vd k.span || unaligned vs1 k.span)
    (k.beats k.ew)
    (fun k => k.vMap vd.toNat k.ew (k.active men m) (fun i => cvt k.rmode k.etype vs2.toNat (k.elem vs1.toNat k.ew i))))

/-! ## VI instructions -/

/-- VADDI (R130). -/
def execVaddi (c : BitVec 8) (vd vs1 : BitVec 5) (imm : BitVec 8) (men : Bool) (m : BitVec 3) (s : State) :
    Host.Outcome State Fault Refusal :=
  .next (s.vImm c vd vs1 men m false (fun x a => perComp x.e (fun y => fin x.sat (y + imm.toInt) (cwOf x.e) false) a))

/-- VSLLI (R130). -/
def execVslli (c : BitVec 8) (vd vs1 : BitVec 5) (imm : BitVec 8) (men : Bool) (m : BitVec 3) (s : State) :
    Host.Outcome State Fault Refusal :=
  .next (s.vShiftImm c vd vs1 imm men m 0)

/-- VSRLI (R130). -/
def execVsrli (c : BitVec 8) (vd vs1 : BitVec 5) (imm : BitVec 8) (men : Bool) (m : BitVec 3) (s : State) :
    Host.Outcome State Fault Refusal :=
  .next (s.vShiftImm c vd vs1 imm men m 1)

/-- VSRAI (R130). -/
def execVsrai (c : BitVec 8) (vd vs1 : BitVec 5) (imm : BitVec 8) (men : Bool) (m : BitVec 3) (s : State) :
    Host.Outcome State Fault Refusal :=
  .next (s.vShiftImm c vd vs1 imm men m 2)

/-- VSRARI (R130). -/
def execVsrari (c : BitVec 8) (vd vs1 : BitVec 5) (imm : BitVec 8) (men : Bool) (m : BitVec 3) (s : State) :
    Host.Outcome State Fault Refusal :=
  .next (s.vShiftImm c vd vs1 imm men m 3)

/-- VNARROWI: imm8[7:6] must be 0 (R130). -/
def execVnarrowi (c : BitVec 8) (vd vs1 : BitVec 5) (imm : BitVec 8) (men : Bool) (m : BitVec 3) (s : State) :
    Host.Outcome State Fault Refusal :=
  .next (s.vNarrow c [] (64 ≤ imm.toNat) vd vs1 men m (fun _ => imm.toNat % 64))

/-- VSPLATI: vs1 must be 0 (R130). -/
def execVsplati (c : BitVec 8) (vd vs1 : BitVec 5) (imm : BitVec 8) (men : Bool) (m : BitVec 3) (s : State) :
    Host.Outcome State Fault Refusal :=
  .next (s.vImm c vd vs1 men m (vs1 ≠ 0) (fun x _ => ((imm.toInt % 2 ^ cwOf x.e).toNat, false)))

/-! ## VX instructions -/

/-- VREDSUM (R131). -/
def execVredsum (c : BitVec 8) (d s1 s2 : BitVec 5) (men : Bool) (m : BitVec 3) (s : State) :
    Host.Outcome State Fault Refusal :=
  .next (s.vRed c d s1 s2 men m (fun e => e ≤ 8) elRedSum)

/-- VREDMAX (R131). -/
def execVredmax (c : BitVec 8) (d s1 s2 : BitVec 5) (men : Bool) (m : BitVec 3) (s : State) :
    Host.Outcome State Fault Refusal :=
  .next (s.vRed c d s1 s2 men m (fun e => tyR e || tyF e) (elRedMinMax true))

/-- VREDMIN (R131). -/
def execVredmin (c : BitVec 8) (d s1 s2 : BitVec 5) (men : Bool) (m : BitVec 3) (s : State) :
    Host.Outcome State Fault Refusal :=
  .next (s.vRed c d s1 s2 men m (fun e => tyR e || tyF e) (elRedMinMax false))

/-- VEXT: MEN = 0; VCOUNT is ignored (R122, R131). -/
def execVext (c : BitVec 8) (d s1 s2 : BitVec 5) (men : Bool) (m : BitVec 3) (s : State) :
    Host.Outcome State Fault Refusal :=
  let k := s.core c.toNat
  .next (s.vInsn c ⟨[s2.toNat], [d.toNat], groupRegs s1.toNat k.span, []⟩
    (k.vBad men m false || men || unaligned s1 k.span) 1
    (fun k => (k.setG d.toNat (BitVec.ofInt 64 (sgn k.ew (k.elem s1.toNat k.ew ((k.gr s2.toNat).toNat % k.vlmax)))), false)))

/-- VINS: MEN = 0; VCOUNT is ignored (R122, R131). -/
def execVins (c : BitVec 8) (d s1 s2 : BitVec 5) (men : Bool) (m : BitVec 3) (s : State) :
    Host.Outcome State Fault Refusal :=
  let k := s.core c.toNat
  .next (s.vInsn c ⟨[s1.toNat, s2.toNat], [], [], groupRegs d.toNat k.span⟩
    (k.vBad men m false || men || unaligned d k.span) 1
    (fun k => (k.setElem d.toNat k.ew ((k.gr s2.toNat).toNat % k.vlmax) (k.gr s1.toNat).toNat, false)))

/-- VSPLAT: s2 is 0 (R131). -/
def execVsplat (c : BitVec 8) (d s1 s2 : BitVec 5) (men : Bool) (m : BitVec 3) (s : State) :
    Host.Outcome State Fault Refusal :=
  .next (s.vMove c [s1.toNat] d [] men m (s2 ≠ 0) false 1 (fun k => k.active men m)
    (fun k _ => some (k.gr s1.toNat).toNat))

/-- VSLIDEUP (R131). -/
def execVslideup (c : BitVec 8) (d s1 s2 : BitVec 5) (men : Bool) (m : BitVec 3) (s : State) :
    Host.Outcome State Fault Refusal :=
  .next (s.vMove c [s2.toNat] d [s1] men m false true 2 (fun k => k.active men m)
    (fun k i => if (k.gr s2.toNat).toNat ≤ i then some (k.elem s1.toNat k.ew (i - (k.gr s2.toNat).toNat)) else none))

/-- VSLIDEDN (R131). -/
def execVslidedn (c : BitVec 8) (d s1 s2 : BitVec 5) (men : Bool) (m : BitVec 3) (s : State) :
    Host.Outcome State Fault Refusal :=
  .next (s.vMove c [s2.toNat] d [s1] men m false true 2 (fun k => k.active men m)
    (fun k i => some (if i + (k.gr s2.toNat).toNat < k.vlmax then k.elem s1.toNat k.ew (i + (k.gr s2.toNat).toNat) else 0)))

/-- VPERM (R131). -/
def execVperm (c : BitVec 8) (d s1 s2 : BitVec 5) (men : Bool) (m : BitVec 3) (s : State) :
    Host.Outcome State Fault Refusal :=
  .next (s.vMove c [] d [s1, s2] men m false true 2 (fun k => k.active men m)
    (fun k i => some (if k.elem s2.toNat k.ew i % 2 ^ 16 < k.vlmax then k.elem s1.toNat k.ew (k.elem s2.toNat k.ew i % 2 ^ 16) else 0)))

/-- VMV: s2 is 0 (R131). -/
def execVmv (c : BitVec 8) (d s1 s2 : BitVec 5) (men : Bool) (m : BitVec 3) (s : State) :
    Host.Outcome State Fault Refusal :=
  .next (s.vMove c [] d [s1] men m (s2 ≠ 0) false 1 (fun k => k.active men m)
    (fun k i => some (k.elem s1.toNat k.ew i)))

/-- VSEL: MEN = 1; the mask selects (R122, R131). -/
def execVsel (c : BitVec 8) (d s1 s2 : BitVec 5) (men : Bool) (m : BitVec 3) (s : State) :
    Host.Outcome State Fault Refusal :=
  .next (s.vMove c [] d [s1, s2] men m (!men) false 1 (fun k => k.span_)
    (fun k i => some (k.elem (if (k.mr m.toNat).getLsbD i then s1.toNat else s2.toNat) k.ew i)))

/-- VCMPEQ (R131). -/
def execVcmpeq (c : BitVec 8) (d s1 s2 : BitVec 5) (men : Bool) (m : BitVec 3) (s : State) :
    Host.Outcome State Fault Refusal :=
  .next (s.vCmp c d s1 s2 men m (fun _ => true) elEq)

/-- VCMPLT (R131). -/
def execVcmplt (c : BitVec 8) (d s1 s2 : BitVec 5) (men : Bool) (m : BitVec 3) (s : State) :
    Host.Outcome State Fault Refusal :=
  .next (s.vCmp c d s1 s2 men m (fun e => tyR e || tyF e) elLt)

/-- VCMPLE (R131). -/
def execVcmple (c : BitVec 8) (d s1 s2 : BitVec 5) (men : Bool) (m : BitVec 3) (s : State) :
    Host.Outcome State Fault Refusal :=
  .next (s.vCmp c d s1 s2 men m (fun e => tyR e || tyF e) (fun x a b => elLt x a b || elEq x a b))

/-- VMAND (R131). -/
def execVmand (c : BitVec 8) (d s1 s2 : BitVec 5) (men : Bool) (m : BitVec 3) (s : State) :
    Host.Outcome State Fault Refusal :=
  .next (s.vMaskOp c d s1 s2 men m (fun a b => a && b))

/-- VMOR (R131). -/
def execVmor (c : BitVec 8) (d s1 s2 : BitVec 5) (men : Bool) (m : BitVec 3) (s : State) :
    Host.Outcome State Fault Refusal :=
  .next (s.vMaskOp c d s1 s2 men m (fun a b => a || b))

/-- VMXOR (R131). -/
def execVmxor (c : BitVec 8) (d s1 s2 : BitVec 5) (men : Bool) (m : BitVec 3) (s : State) :
    Host.Outcome State Fault Refusal :=
  .next (s.vMaskOp c d s1 s2 men m (fun a b => a != b))

/-- VMANDN (R131). -/
def execVmandn (c : BitVec 8) (d s1 s2 : BitVec 5) (men : Bool) (m : BitVec 3) (s : State) :
    Host.Outcome State Fault Refusal :=
  .next (s.vMaskOp c d s1 s2 men m (fun a b => a && !b))

/-- VMPOPC (R131). -/
def execVmpopc (c : BitVec 8) (d s1 _s2 : BitVec 5) (men : Bool) (m : BitVec 3) (s : State) :
    Host.Outcome State Fault Refusal :=
  .next (s.vMaskG c d s1 men m (fun _ l => BitVec.ofNat 64 l.length))

/-- VMFIRST: all ones where no bit is set (R131). -/
def execVmfirst (c : BitVec 8) (d s1 _s2 : BitVec 5) (men : Bool) (m : BitVec 3) (s : State) :
    Host.Outcome State Fault Refusal :=
  .next (s.vMaskG c d s1 men m (fun _ l => match l with
    | [] => 0xFFFFFFFFFFFFFFFF
    | i :: _ => BitVec.ofNat 64 i))

/-! ## Vector memory instructions -/

/-- VLD (R132, R134 to R137). In run-ahead a unit-stride load prefetches (R95). -/
def execVld (c : BitVec 8) (vt base s2 : BitVec 5) (men : Bool) (m : BitVec 3) (mode : BitVec 2) (z : BitVec 5) (s : State) :
    Host.Outcome State Fault Refusal :=
  let k := s.core c.toNat
  .next (s.runInsn c.toNat (k.vMemUse vt base s2 mode true)
    (if mode = 0 then .vunit base.toNat (k.vresume * k.eb) ((k.vcount - k.vresume) * k.eb) k.eb else .skip)
    (illegalIf (k.vMemBad vt s2 men m mode z true)) none
    (s.vldWaits c.toNat base.toNat s2.toNat men m mode.toNat) true
    (s.doVld c.toNat vt.toNat base.toNat s2.toNat men m mode.toNat))

/-- VST (R132, R134 to R138). -/
def execVst (c : BitVec 8) (vt base s2 : BitVec 5) (men : Bool) (m : BitVec 3) (mode : BitVec 2) (z : BitVec 5) (s : State) :
    Host.Outcome State Fault Refusal :=
  let k := s.core c.toNat
  .next (s.runInsn c.toNat (k.vMemUse vt base s2 mode false) .skip
    (illegalIf (k.vMemBad vt s2 men m mode z false)) none (decide (s.storesOut c.toNat ≠ 0)) true
    (s.doVst c.toNat vt.toNat base.toNat s2.toNat men m mode.toNat))

end Sys2Proof.Machine
end

