-- ==== Sys2Proof/Machine/Fused.lean ====
section
/-!
DEFINITION. The fused units (06_fused_units.md, R140 to R157). A result of CORR, LFSR or DEMAP is computed at issue and
reaches its register with FUSED_RESULT; an ILV operation is performed by ILV_OPERATION_END.
-/

namespace Sys2Proof.Machine

/-! ## Issue and refusal (R140 to R143) -/

/-- The refusals that need no operand, in table order: IMAGE_DIS, VMODE_DIS, MODE (R143); after ILLEGAL. -/
def State.fuBad (s : State) (c unit : Nat) (illegal mode : Bool) : Option Trap :=
  if illegal then some trapIllegal
  else if (mapGet s.imgDis 0 c).getLsbD unit then some (trapFused 0x01)
  else if ((s.core c).fuDis).testBit unit then some (trapFused 0x02)
  else if mode then some (trapFused 0x03)
  else none

/-- RANGE where a condition holds (R143). -/
def rangeIf (b : Bool) : Option Trap := if b then some (trapFused 0x04) else none

/-- A fused instruction retires. -/
def State.fuRetire (s : State) (c : Nat) : State := (s.tallied c 18 1).retire c

/-- A result is on its way to its register (R141). -/
def Core.fuPush (k : Core) (r : FusedRes) : Core := { k with fres := k.fres ++ [r] }

/-- A result for a g register; g0 takes none. -/
def Core.fuG (k : Core) (unit rd : Nat) (v : DWord) : Core :=
  if rd = 0 then k else k.fuPush ⟨unit, false, rd, v.zeroExtend 4096, false⟩

/-! ## CORR (R144) -/

/-- CORR_CFG.N. -/
def Core.corrN (k : Core) : Nat := k.crBits crCorr 8 0
/-- CORR_CFG.NLAG. -/
def Core.corrL (k : Core) : Nat := k.crBits crCorr 22 16
/-- CORR_CFG.SHIFT. -/
def Core.corrK (k : Core) : Nat := k.crBits crCorr 29 24
/-- CORR_CFG.SF_LOG. -/
def Core.corrSf (k : Core) : Nat := k.crBits crCorr 34 32
/-- CORR_CFG.NSYM. -/
def Core.corrM (k : Core) : Nat := k.crBits crCorr 46 40

/-- Sum of pairs of integers. -/
def sumC (l : List (Int × Int)) : Int × Int := l.foldl (fun a x => (a.1 + x.1, a.2 + x.2)) (0, 0)

/-- A C32 result component pair: rounded by SHIFT and saturated (R144). -/
def Core.corrOut (k : Core) (x : Int × Int) : Nat × Bool :=
  mkC 32 (fin true (rnd x.1 k.corrK k.rmode) 32 true) (fin true (rnd x.2 k.corrK k.rmode) 32 true)

/-- C32 elements packed from element 0 of a register, the rest 0. -/
def packC32 (l : List Nat) : BitVec 4096 :=
  (l.zipIdx).foldl (fun x e => x ||| (BitVec.ofNat 4096 e.1 <<< (64 * e.2))) 0

/-- CORR's vector result. -/
def Core.corrPush (k : Core) (vd : Nat) (l : List (Int × Int)) : Core :=
  k.fuPush ⟨0, true, vd, packC32 (l.map (fun x => (k.corrOut x).1)), l.any (fun x => (k.corrOut x).2)⟩

/-- CCORR's sums: one for each lag. -/
def Core.ccorrSums (k : Core) (vs1 vs2 : Nat) : List (Int × Int) :=
  (List.range k.corrL).map (fun l => sumC ((List.range k.corrN).map (fun i =>
    cprod 16 true (k.elem vs1 32 (i + l)) (k.elem vs2 32 i))))

/-- CDESP's sums: one for each symbol. -/
def Core.cdespSums (k : Core) (vs1 rs2 : Nat) : List (Int × Int) :=
  (List.range k.corrM).map (fun m => sumC ((List.range (2 ^ k.corrSf)).map (fun j =>
    let x := k.elem vs1 32 (m * 2 ^ k.corrSf + j)
    if (k.gr rs2).getLsbD j then (-(reOf 16 x), -(imOf 16 x)) else (reOf 16 x, imOf 16 x))))

/-- Power of a C32 element. -/
def Core.power32 (k : Core) (v i : Nat) : Nat :=
  (reOf 32 (k.elem v 64 i) * reOf 32 (k.elem v 64 i) + imOf 32 (k.elem v 64 i) * imOf 32 (k.elem v 64 i)).toNat

/-- The lowest lag of maximum power. -/
def Core.peak (k : Core) (v : Nat) : Nat :=
  (List.range k.corrL).foldl (fun b i => if k.power32 v b < k.power32 v i then i else b) 0

/-- CCORR (R144). -/
def execCcorr (c : BitVec 8) (d s1 s2 : BitVec 5) (param : BitVec 7) (s : State) : Host.Outcome State Fault Refusal :=
  let k := s.core c.toNat
  .next (s.runInsn c.toNat ⟨[], [], groupRegs s1.toNat 4 ++ groupRegs s2.toNat 2, [d.toNat]⟩ .skip
    (s.fuBad c.toNat 0 (param ≠ 0 || unaligned s1 4 || unaligned s2 2) false)
    (rangeIf (decide (k.corrN = 0) || decide (256 < k.corrN) || decide (k.corrL = 0) || decide (64 < k.corrL) ||
      decide (512 < k.corrN + k.corrL - 1) || decide (47 < k.corrK))) false false
    ((s.mapCore c.toNat (fun k => k.corrPush d.toNat (k.ccorrSums s1.toNat s2.toNat))).fuRetire c.toNat))

/-- CDESP (R144). -/
def execCdesp (c : BitVec 8) (d s1 s2 : BitVec 5) (param : BitVec 7) (s : State) : Host.Outcome State Fault Refusal :=
  let k := s.core c.toNat
  .next (s.runInsn c.toNat ⟨[s2.toNat], [], groupRegs s1.toNat 4, [d.toNat]⟩ .skip
    (s.fuBad c.toNat 0 (param ≠ 0 || unaligned s1 4) false)
    (rangeIf (decide (k.corrSf = 0) || decide (6 < k.corrSf) || decide (k.corrM = 0) || decide (64 < k.corrM) ||
      decide (512 < k.corrM * 2 ^ k.corrSf) || decide (47 < k.corrK))) false false
    ((s.mapCore c.toNat (fun k => k.corrPush d.toNat (k.cdespSums s1.toNat s2.toNat))).fuRetire c.toNat))

/-- CPEAK: s2 must be 0 (R144). -/
def execCpeak (c : BitVec 8) (d s1 s2 : BitVec 5) (param : BitVec 7) (s : State) : Host.Outcome State Fault Refusal :=
  let k := s.core c.toNat
  .next (s.runInsn c.toNat ⟨[], [d.toNat], [s1.toNat], []⟩ .skip
    (s.fuBad c.toNat 0 (param ≠ 0 || decide (s2 ≠ 0)) false)
    (rangeIf (decide (k.corrL = 0) || decide (64 < k.corrL))) false false
    ((s.mapCore c.toNat (fun k => k.fuG 0 d.toNat
      (BitVec.ofNat 64 (k.peak s1.toNat + k.power32 s1.toNat (k.peak s1.toNat) / 2 ^ 32 * 2 ^ 32)))).fuRetire c.toNat))

/-! ## LFSR (R145 to R147) -/

/-- One step of the Gold generator: x1 and x2 of 31 bits each (R146). -/
def goldStep (g : Nat × Nat) : Nat × Nat :=
  let b1 := (g.1 ^^^ (g.1 >>> 3)) % 2
  let b2 := (g.2 ^^^ (g.2 >>> 1) ^^^ (g.2 >>> 2) ^^^ (g.2 >>> 3)) % 2
  (g.1 / 2 + b1 * 2 ^ 30, g.2 / 2 + b2 * 2 ^ 30)

/-- `n` steps. -/
def goldSteps : Nat → Nat × Nat → Nat × Nat
  | 0, g => g
  | n + 1, g => goldSteps n (goldStep g)

/-- The next `n` output bits, the first lowest. -/
def goldBits : Nat → Nat × Nat → Nat
  | 0, _ => 0
  | n + 1, g => (g.1 ^^^ g.2) % 2 + 2 * goldBits n (goldStep g)

/-- The Gold state in LFSR_GOLD. -/
def Core.gold (k : Core) : Nat × Nat := (k.crBits crGold 30 0, k.crBits crGold 62 32)

/-- The Gold state is replaced. -/
def Core.setGold (k : Core) (g : Nat × Nat) : Core := k.setCr crGold (BitVec.ofNat 64 (g.1 + g.2 * 2 ^ 32))

/-- Width of a CRC (R147). -/
def crcW (p : Nat) : Nat :=
  match p with
  | 3 => 16
  | 4 => 11
  | 5 => 6
  | _ => 24

/-- Polynomial of a CRC (R147). -/
def crcPoly (p : Nat) : Nat :=
  match p with
  | 0 => 0x864CFB
  | 1 => 0x800063
  | 2 => 0xB2B117
  | 3 => 0x1021
  | 4 => 0x621
  | _ => 0x21

/-- crc_step of R147. -/
def crcStep (p reg : Nat) (b : Bool) : Nat :=
  let r := reg * 2 % 2 ^ crcW p
  if b != reg.testBit (crcW p - 1) then r ^^^ crcPoly p else r

/-- Bits 0 to n - 1 of a number are fed, bit 0 first. -/
def crcFeed (p reg n x : Nat) : Nat := (List.range n).foldl (fun r i => crcStep p r (x.testBit i)) reg

/-- LFSR_CRC.POLY. -/
def Core.poly (k : Core) : Nat := k.crBits crCrc 26 24
/-- The used bits of LFSR_CRC.REG. -/
def Core.crcReg (k : Core) : Nat := k.crBits crCrc 23 0 % 2 ^ crcW k.poly

/-- LFSR_CRC takes a polynomial code and a register value. -/
def Core.setCrc (k : Core) (p reg : Nat) : Core := k.setCr crCrc (BitVec.ofNat 64 (reg % 2 ^ 24 + p * 2 ^ 24))

/-- Checkpoint slots in use (R154): the LFSR instructions that change LFSR state and have not retired, those since the oldest
load or atomic that has not been answered. -/
def State.lfsrSlots (s : State) (c : Nat) : Nat :=
  match s.snaps.find? (fun x => x.core = c) with
  | some x => (s.core c).lfsrs - x.snap.lfsrs
  | none => 0

/-- An LFSR instruction that changes no LFSR state: the g and v registers it reads and writes, what is illegal, whether it is
refused with MODE or RANGE, and its effect. -/
def State.lfsrRead (s : State) (c : BitVec 8) (use : Use) (illegal mode range : Bool) (f : Core → Core) : State :=
  s.runInsn c.toNat use .skip (s.fuBad c.toNat 1 illegal mode) (rangeIf range) false false
    ((s.mapCore c.toNat f).fuRetire c.toNat)

/-- An LFSR instruction that changes LFSR state: it takes one of 8 checkpoint slots, or waits for one (R154). -/
def State.lfsr (s : State) (c : BitVec 8) (use : Use) (illegal mode range : Bool) (f : Core → Core) : State :=
  s.runInsn c.toNat use .skip (s.fuBad c.toNat 1 illegal mode) (rangeIf range) (decide (8 ≤ s.lfsrSlots c.toNat)) false
    ((s.mapCore c.toNat (fun k => { f k with lfsrs := k.lfsrs + 1 })).fuRetire c.toNat)

/-- LGINIT (R145, R146). -/
def execLginit (c : BitVec 8) (d s1 s2 : BitVec 5) (param : BitVec 7) (s : State) : Host.Outcome State Fault Refusal :=
  .next (s.lfsr c (useG [s1.toNat] []) (param ≠ 0 || decide (d ≠ 0) || decide (s2 ≠ 0)) false false
    (fun k => k.setGold (goldSteps 1600 (1, (k.gr s1.toNat).toNat % 2 ^ 31))))

/-- LGEN: n - 1 in param[9:4] (R145). -/
def execLgen (c : BitVec 8) (d s1 s2 : BitVec 5) (param : BitVec 7) (s : State) : Host.Outcome State Fault Refusal :=
  let n := param.toNat % 64 + 1
  .next (s.lfsr c (useG [] [d.toNat]) (decide (64 ≤ param.toNat) || decide (s1 ≠ 0) || decide (s2 ≠ 0)) false false
    (fun k => (k.fuG 1 d.toNat (BitVec.ofNat 64 (goldBits n k.gold))).setGold (goldSteps n k.gold)))

/-- LGENV (R145). -/
def execLgenv (c : BitVec 8) (d s1 s2 : BitVec 5) (param : BitVec 7) (s : State) : Host.Outcome State Fault Refusal :=
  .next (s.lfsr c ⟨[], [], [], [d.toNat]⟩ (param ≠ 0 || decide (s1 ≠ 0) || decide (s2 ≠ 0)) false false
    (fun k => (k.fuPush ⟨1, true, d.toNat, BitVec.ofNat 4096 (goldBits 4096 k.gold), false⟩).setGold
      (goldSteps 4096 k.gold)))

/-- LCRCINIT: POLY in param[6:4], codes 6 and 7 refused with MODE (R145). -/
def execLcrcinit (c : BitVec 8) (d s1 s2 : BitVec 5) (param : BitVec 7) (s : State) : Host.Outcome State Fault Refusal :=
  let p := param.toNat % 8
  .next (s.lfsr c (useG [s1.toNat] []) (decide (8 ≤ param.toNat) || decide (d ≠ 0) || decide (s2 ≠ 0)) (decide (6 ≤ p)) false
    (fun k => k.setCrc p ((k.gr s1.toNat).toNat % 2 ^ crcW p)))

/-- LCRCG: n - 1 in param[9:4] (R145, R147). -/
def execLcrcg (c : BitVec 8) (d s1 s2 : BitVec 5) (param : BitVec 7) (s : State) : Host.Outcome State Fault Refusal :=
  let n := param.toNat % 64 + 1
  .next (s.lfsr c (useG [s1.toNat] []) (decide (64 ≤ param.toNat) || decide (d ≠ 0) || decide (s2 ≠ 0))
    (decide (6 ≤ (s.core c.toNat).poly)) false
    (fun k => k.setCrc k.poly (crcFeed k.poly k.crcReg n (k.gr s1.toNat).toNat)))

/-- LCRCV: n = g[rs2], RANGE outside 1 to 4,096 (R145, R147). -/
def execLcrcv (c : BitVec 8) (d s1 s2 : BitVec 5) (param : BitVec 7) (s : State) : Host.Outcome State Fault Refusal :=
  let n := ((s.core c.toNat).gr s2.toNat).toNat
  .next (s.lfsr c ⟨[s2.toNat], [], [s1.toNat], []⟩ (param ≠ 0 || decide (d ≠ 0)) (decide (6 ≤ (s.core c.toNat).poly))
    (decide (n = 0) || decide (4096 < n))
    (fun k => k.setCrc k.poly (crcFeed k.poly k.crcReg n (k.vr s1.toNat).toNat)))

/-- LCRCRD, which takes no slot (R145, R154). -/
def execLcrcrd (c : BitVec 8) (d s1 s2 : BitVec 5) (param : BitVec 7) (s : State) : Host.Outcome State Fault Refusal :=
  .next (s.lfsrRead c (useG [] [d.toNat]) (param ≠ 0 || decide (s1 ≠ 0) || decide (s2 ≠ 0))
    (decide (6 ≤ (s.core c.toNat).poly)) false (fun k => k.fuG 1 d.toNat (BitVec.ofNat 64 k.crcReg)))

/-! ## DEMAP (R148) -/

/-- Qm of a modulation. -/
def demapQ (f : Nat) : Nat := 2 * f + 2
/-- A of a modulation. -/
def demapA (f : Nat) : Int :=
  match f with
  | 1 => 10362
  | 2 => 5056
  | _ => 2513

/-- The LLRs of one component, from bit pair 0 on (R148). -/
def demapComp (f w dshift rm : Nat) (scale : Int) : Nat → Int → List Int
  | 0, _ => []
  | n + 1, t =>
    let hi : Int := 2 ^ (w - 1) - 1
    max (-hi) (min hi (rnd (t * scale) dshift rm)) ::
      demapComp f w dshift rm scale n (demapA f * 2 ^ n - (t.natAbs : Int))

/-- The LLRs of symbol `i`: bit 2j + c is that of component c (R148). -/
def Core.demapSym (k : Core) (f w vs1 vs2 i : Nat) : List Int :=
  let q := demapQ f
  let sc := sgn 16 (k.elem vs2 16 i)
  let re := demapComp f w (k.crBits crDemap 5 0) k.rmode sc (q / 2) (reOf 16 (k.elem vs1 32 i))
  let im := demapComp f w (k.crBits crDemap 5 0) k.rmode sc (q / 2) (imOf 16 (k.elem vs1 32 i))
  (List.range q).map (fun b => if b % 2 = 0 then re.getD (b / 2) 0 else im.getD (b / 2) 0)

/-- The packed LLRs of VCOUNT symbols. -/
def Core.demapOut (k : Core) (f w vs1 vs2 : Nat) : BitVec 4096 :=
  ((List.range k.vcount).flatMap (fun i => k.demapSym f w vs1 vs2 i)).zipIdx.foldl
    (fun x e => x ||| ((BitVec.ofNat 4096 ((e.1 % 2 ^ w).toNat)) <<< (e.2 * w))) 0

/-- DEMAP: func selects the modulation, param[4] the LLR width (R148). The fields of a function code that is not
allocated are not examined (R140). -/
def execDemap (c : BitVec 8) (func : BitVec 4) (d s1 s2 : BitVec 5) (param : BitVec 7) (s : State) :
    Host.Outcome State Fault Refusal :=
  let k := s.core c.toNat
  let f := func.toNat
  let w := if param.getLsbD 0 then 8 else 4
  .next (s.runInsn c.toNat ⟨[], [], groupRegs s1.toNat 4 ++ groupRegs s2.toNat 2, [d.toNat]⟩ .skip
    (s.fuBad c.toNat 2 (decide (f < 4) && (decide (2 ≤ param.toNat) || unaligned s1 4 || unaligned s2 2)) (decide (4 ≤ f)))
    (rangeIf (decide (k.vcount = 0) || decide (4096 / (demapQ f * w) < k.vcount) || decide (47 < k.crBits crDemap 5 0)))
    false false
    ((s.mapCore c.toNat (fun k => k.fuPush ⟨2, true, d.toNat, k.demapOut f w s1.toNat s2.toNat, false⟩)).fuRetire c.toNat))

/-! ## ILV (R149 to R152) -/

/-- Bytes of a buffer of `n` elements. -/
def ilvBytes (llr : Bool) (n : Nat) : Nat := if llr then n else (n + 7) / 8

/-- Whether a buffer lies wholly in the core's own data memory or its own druse memory (R150). -/
def ilvInside (c a n : Nat) : Bool :=
  (decide (coreWin c ≤ a) && decide (a + n ≤ coreWin c + 0x40000)) ||
  (decide (druseWin (c / 8) ≤ a) && decide (a + n ≤ druseWin (c / 8) + 0x200000))

/-- The operation that an ILV instruction hands to the unit. -/
def Core.ilvOp (k : Core) (func : Nat) (llr : Bool) (d s1 s2 : Nat) : IlvOp where
  func := func
  llr := llr
  dst := (k.gr d).toNat
  src := (k.gr s1).toNat
  e := (k.gr s2).toNat
  k0 := k.crBits crIlvRm 16 0
  ncb := k.crBits crIlvRm 48 32
  fst := k.crBits crIlvFill 16 0
  fcnt := k.crBits crIlvFill 48 32
  qm := k.crBits crIlvQm 3 0

/-- Elements of an operation's source and destination buffers. -/
def IlvOp.sizes (o : IlvOp) : Nat × Nat :=
  (ilvBytes o.llr (if o.func = 0 then o.ncb else o.e), ilvBytes o.llr (if o.func = 3 then o.ncb else o.e))

/-- The RANGE refusals of R150. -/
def IlvOp.badRange (c : Nat) (o : IlvOp) : Bool :=
  let n := o.sizes
  decide (1048576 < o.e) || decide (o.ncb = 0) || decide (o.ncb ≤ o.k0) ||
  ((o.func = 0 || o.func = 3) && decide (o.ncb ≤ o.fcnt)) ||
  ((o.func = 1 || o.func = 2) && !([1, 2, 4, 6, 8, 10].contains o.qm)) ||
  !ilvInside c o.src n.1 || !ilvInside c o.dst n.2 ||
  (decide (o.src < o.dst + n.2) && decide (o.dst < o.src + n.1))

/-- The non-filler indices of the circular buffer in the order of the walk (R149). -/
def IlvOp.walk (o : IlvOp) : List Nat :=
  ((List.range o.ncb).map (fun j => (o.k0 + j) % o.ncb)).filter (fun i => !(decide (o.fst ≤ i) && decide (i < o.fst + o.fcnt)))

/-- Source and destination index of the element that an operation processes at step `k` (R149). -/
def IlvOp.place (o : IlvOp) (walk : List Nat) (k : Nat) : Nat × Nat :=
  let p := walk.getD (k % max 1 walk.length) 0
  let cols := o.e / max 1 o.qm
  match o.func with
  | 0 => (p, k)
  | 1 => (k % max 1 o.qm * cols + k / max 1 o.qm, k)
  | 2 => (k / max 1 cols + k % max 1 cols * o.qm, k)
  | _ => (k, p)

/-- Steps of an operation. -/
def IlvOp.steps (o : IlvOp) : Nat := if o.func = 0 || o.func = 3 then o.e else o.e / max 1 o.qm * o.qm

/-- The address of an element's byte. -/
def ilvAddr (llr : Bool) (a i : Nat) : Nat := if llr then a + i else a + i / 8

/-- How a read of an element's byte fails: the trap code and subcause (R152). The read takes that one byte, so that no other
byte of its word decides (DESIGN CHOICE: R285 does not say how many bytes an ILV read takes; log entry 99). -/
def State.ilvFail (s : State) (c a : Nat) : Option (Nat × Nat) :=
  if s.vResp c a false ≠ rDone then some (0x08, s.vResp c a false)
  else if s.badAt a then some (0x10, 0x04)
  else none

/-- A saturating sum of two LLRs (R149). -/
def llrSum (a b : Byte) : Byte := BitVec.ofInt 8 (max (-127) (min 127 (a.toInt + b.toInt)))

/-- The byte that an element's step writes. -/
def State.ilvValue (s : State) (o : IlvOp) (i j : Nat) : Byte :=
  let x := s.byteAt (ilvAddr o.llr o.src i)
  let y := s.byteAt (ilvAddr o.llr o.dst j)
  if o.func = 3 then llrSum y x
  else if o.llr then x
  else if x.getLsbD (i % 8) then y ||| (1#8 <<< (j % 8)) else y &&& ~~~ (1#8 <<< (j % 8))

/-- One step of an operation: the elements written so far, and the failure that stopped it. ICOMB reads its source element
before its destination element (DESIGN CHOICE, log entry 99). -/
def State.ilvStep (c : Nat) (o : IlvOp) (walk : List Nat) (x : State × Nat × Option (Nat × Nat × Nat)) (k : Nat) :
    State × Nat × Option (Nat × Nat × Nat) :=
  match x.2.2 with
  | some _ => x
  | none =>
    let s := x.1
    let p := o.place walk k
    let a := ilvAddr o.llr o.src p.1
    let b := ilvAddr o.llr o.dst p.2
    match s.ilvFail c a with
    | some e => (s.readEffect c a 1 false, x.2.1, some (e.1, e.2, a))
    | none =>
      match if o.func = 3 then s.ilvFail c b else none with
      | some e => (s.readEffect c b 1 false, x.2.1, some (e.1, e.2, b))
      | none =>
        if s.vResp c b true ≠ rDone then (s, x.2.1, some (0x08, s.vResp c b true, b))
        else ((s.writeByte b (s.ilvValue o p.1 p.2)).mapCore c (fun k => k.dropPf b 1), x.2.1 + 1, none)

/-- The running ILV operation is performed: in ascending order, up to the first failing access (R152). It acts wholly here, so
that one which a core reset interrupts has written no element (DESIGN CHOICE: R155 leaves the number open; log entry 100). -/
def State.ilvRun (s : State) (c : Nat) : State :=
  match (s.core c).ilv with
  | [] => s
  | o :: rest =>
    if s.storesOut c ≠ 0 then s
    else
      let r := (List.range o.steps).foldl (State.ilvStep c o o.walk) (s, 0, none)
      let s1 := { r.1 with freeCtr := r.1.freeCtr + 1 }.count (coreEvent c 21) r.2.1
      let s2 := s1.mapCore c (fun k => { (k.setCr crIlvStat (BitVec.ofNat 64 (r.2.1 + (if r.2.2.isSome then 2 ^ 21 else 0)))) with
        ilv := if r.2.2.isSome then [] else rest })
      match r.2.2 with
      | some e => s2.defer c e.1 e.2.1 (BitVec.ofNat 40 e.2.2)
      | none => s2

/-- An ILV instruction: performed as the oldest, it hands its operation to the unit, waits while the unit is full, or is
refused with BUSY (R143, R149 to R151). `bit` says whether the function takes BIT elements. -/
def State.ilvInsn (s : State) (c : BitVec 8) (func : Nat) (bit : Bool) (d s1 s2 : BitVec 5) (param : BitVec 7) : State :=
  let k := s.core c.toNat
  let llr := param.getLsbD 0
  let o := k.ilvOp func llr d.toNat s1.toNat s2.toNat
  let full := decide (2 ≤ k.ilv.length)
  let refuse := k.crBits crFuCtrl 4 4 = 1
  s.runInsn c.toNat (useG [d.toNat, s1.toNat, s2.toNat] []) .skip
    (s.fuBad c.toNat 3 (2 ≤ param.toNat) (!llr && !bit))
    (if o.badRange c.toNat then some (trapFused 0x04)
     else if full && refuse then some (trapFused 0x05) else none)
    full true
    ((s.mapCore c.toNat (fun k => { k with ilv := k.ilv ++ [o] })).fuRetire c.toNat)

/-- ISEL (R149). -/
def execIsel (c : BitVec 8) (d s1 s2 : BitVec 5) (param : BitVec 7) (s : State) : Host.Outcome State Fault Refusal :=
  .next (s.ilvInsn c 0 true d s1 s2 param)

/-- IBIL (R149). -/
def execIbil (c : BitVec 8) (d s1 s2 : BitVec 5) (param : BitVec 7) (s : State) : Host.Outcome State Fault Refusal :=
  .next (s.ilvInsn c 1 true d s1 s2 param)

/-- IDIL (R149). -/
def execIdil (c : BitVec 8) (d s1 s2 : BitVec 5) (param : BitVec 7) (s : State) : Host.Outcome State Fault Refusal :=
  .next (s.ilvInsn c 2 false d s1 s2 param)

/-- ICOMB (R149). -/
def execIcomb (c : BitVec 8) (d s1 s2 : BitVec 5) (param : BitVec 7) (s : State) : Host.Outcome State Fault Refusal :=
  .next (s.ilvInsn c 3 false d s1 s2 param)

/-! ## Results -/

/-- A result reaches its register, and a clamp VSAT (R141). -/
def Core.fuWrite (k : Core) (r : FusedRes) : Core :=
  if k.fres.contains r then
    let k1 := { k with fres := k.fres.erase r }
    let k2 := if r.vec then k1.setV r.reg r.val else k1.setG r.reg (r.val.truncate 64)
    if r.sat then k2.setCr crVsat 1 else k2
  else k

/-- FUSED_RESULT (R141): the unit's oldest result is written, in the core and in what its unanswered loads would return
to. -/
def State.fusedResult (s : State) (c unit : Nat) : State :=
  match (s.core c).fres.find? (fun r => r.unit = unit) with
  | none => s
  | some r =>
    let s1 := if r.sat && (s.core c).crv crVsat = 0 then s.count (coreEvent c 17) 1 else s
    { (s1.mapCore c (fun k => k.fuWrite r)) with
      snaps := s1.snaps.map (fun (x : Snap) => if x.core = c then { x with snap := x.snap.fuWrite r } else x) }

/-- FUSED_RESULT (R141). -/
def execFusedResult (c : BitVec 8) (unit : BitVec 2) (s : State) : Host.Outcome State Fault Refusal :=
  if resultUnitOk unit.toNat then .next (s.fusedResult c.toNat unit.toNat) else .fault .noSuchUnit

/-- ILV_OPERATION_END (R152). -/
def execIlvOperationEnd (c : BitVec 8) (s : State) : Host.Outcome State Fault Refusal := .next (s.ilvRun c.toNat)

end Sys2Proof.Machine
end

