-- ==== Sys2Proof/Machine/MillMath.lean ====
section
/-!
DEFINITION. What the engines of a mill compute (07_decoder_mill.md, R158, R164 to R173): the parameters of a job, its
buffers, its results and its abort points. Tables of the 3GPP standards and the equaliser's channel estimate are constants of
Config. Where R169 to R172 name an algorithm and no number format, values are exact (log entry 91).
-/

namespace Sys2Proof.Machine

/-! ## The descriptor (R164) -/

/-- CLASS. -/
def jClass (d : List Byte) : Nat := fieldAt d 0 4 % 16
/-- FUNC. -/
def jFunc (d : List Byte) : Nat := bitsOf (fieldAt d 0 4) 7 4
/-- CPL. -/
def jCpl (d : List Byte) : Bool := (fieldAt d 0 4).testBit 8
/-- TOK_V. -/
def jTokV (d : List Byte) : Bool := (fieldAt d 0 4).testBit 9
/-- DL_V. -/
def jDlV (d : List Byte) : Bool := (fieldAt d 0 4).testBit 10
/-- DL_ABORT. -/
def jDlAbort (d : List Byte) : Bool := (fieldAt d 0 4).testBit 11
/-- TAG. -/
def jTag (d : List Byte) : Nat := fieldAt d 2 2
/-- TOKEN. -/
def jTok (d : List Byte) : Nat := fieldAt d 4 2 % 2 ^ 15
/-- EVENT_ID. -/
def jEvent (d : List Byte) : Nat := fieldAt d 6 2
/-- STRATA. -/
def jStrata (d : List Byte) : Nat := fieldAt d 8 1
/-- SRC_DRUSE. -/
def jDruse (d : List Byte) : Nat := fieldAt d 9 1 % 32
/-- DEADLINE. -/
def jDeadline (d : List Byte) : Word := BitVec.ofNat 32 (fieldAt d 12 4)
/-- RES_PTR. -/
def jRes (d : List Byte) : Nat := fieldAt d 16 5
/-- IN_PTR. -/
def jIn (d : List Byte) : Nat := fieldAt d 24 5
/-- AUX_PTR. -/
def jAux (d : List Byte) : Nat := fieldAt d 32 5
/-- Class parameter word `i`. -/
def jW (d : List Byte) (i : Nat) : Nat := fieldAt d (40 + 4 * i) 4

/-! ## Bits and LLRs -/

/-- Bit `e` of a packed bit buffer (R149). -/
def bitAt (l : List Byte) (e : Nat) : Bool := (l.getD (e / 8) 0).getLsbD (e % 8)

/-- Bits packed eight to a byte, the last byte filled with 0. -/
def packBits (l : List Bool) : List Byte :=
  (List.range ((l.length + 7) / 8)).map (fun i =>
    BitVec.ofNat 8 ((List.range 8).foldl (fun n k => n + (if l.getD (8 * i + k) false then 2 ^ k else 0)) 0))

/-- An LLR8 value; -128 is read as -127 (R167). -/
def llrAt (l : List Byte) (i : Nat) : Int := max (-127) (sgn 8 (l.getD i 0).toNat)

/-- A value saturated to plus and minus a bound. -/
def satTo (b x : Int) : Int := max (-b) (min b x)

/-- Whether bits with their parity at the end pass a CRC of R147. -/
def crcPass (poly : Nat) (l : List Bool) : Bool := l.foldl (fun r b => crcStep poly r b) 0 = 0

/-! ## Linear systems over the field of two elements -/

/-- One unknown is eliminated: a row that has it becomes its pivot and is added to every other row that has it. A row is a
number, bit `c` the coefficient of unknown `c`, the bit past the unknowns the right side. -/
def gf2Pivot (x : List (Nat × Nat) × List Nat) (c : Nat) : List (Nat × Nat) × List Nat :=
  match x.2.find? (·.testBit c) with
  | none => x
  | some r =>
    let add (y : Nat) : Nat := if y.testBit c then y ^^^ r else y
    ((c, r) :: x.1.map (fun e => (e.1, add e.2)), (x.2.erase r).map add)

/-- The value of an unknown in the solution of a system of `n` unknowns. -/
def gf2Value (n : Nat) (pivots : List (Nat × Nat)) (c : Nat) : Bool :=
  match mapFind? pivots c with
  | some r => r.testBit n
  | none => false

/-! ## LDPC (R167, R168) -/

/-- Lifting sizes of TS 38.212 Table 5.3.2-1: `a` times a power of 2, up to 384; their set index is that of `a`. -/
def ldpcSet (z : Nat) : Option Nat :=
  ([2, 3, 5, 7, 9, 11, 13, 15] : List Nat).findIdx? (fun a => decide (z ≤ 384) && (List.range 8).any (fun j => z = a * 2 ^ j))

/-- Parameters of an LDPC job. -/
structure Ldpc where
  bg     : Nat
  z      : Nat
  rows   : Nat
  maxit  : Nat
  et     : Nat
  crc    : Nat
  filler : Nat

/-- The parameters in W0 and W1. -/
def ldpcOf (d : List Byte) : Ldpc :=
  let w := jW d 0
  ⟨w % 2, bitsOf w 9 1, bitsOf w 15 10, bitsOf w 20 16, bitsOf w 22 21, bitsOf w 25 23, bitsOf (jW d 1) 13 0⟩

/-- Information columns. -/
def Ldpc.kb (p : Ldpc) : Nat := if p.bg = 0 then 22 else 10
/-- K. -/
def Ldpc.k (p : Ldpc) : Nat := p.kb * p.z
/-- C, the columns in use. -/
def Ldpc.c (p : Ldpc) : Nat := p.kb + p.rows
/-- The polynomial of CRC: CRC24A, CRC24B, CRC16. -/
def Ldpc.poly (p : Ldpc) : Nat := if p.crc = 3 then 3 else p.crc - 1
/-- Width of the CRC. -/
def Ldpc.crcLen (p : Ldpc) : Nat := if p.crc = 0 then 0 else crcW p.poly

/-- Whether the parameters lie in their ranges. -/
def Ldpc.ok (p : Ldpc) (dec : Bool) : Bool :=
  (ldpcSet p.z).isSome && decide (4 ≤ p.rows) && decide (p.rows ≤ (if p.bg = 0 then 46 else 42)) &&
  (if dec then decide (1 ≤ p.maxit) && decide (p.maxit ≤ 25) && decide (p.et ≤ 2) && (p.et ≠ 2 || p.crc ≠ 0)
   else decide (p.maxit = 0) && decide (p.et = 0)) &&
  decide (p.crc ≤ 3) && decide (p.filler + 1 + p.crcLen ≤ p.k)

/-- The edges of a row: columns in ascending order with their shifts. -/
def Ldpc.row (p : Ldpc) (r : Nat) : List (Nat × Nat) :=
  (List.range p.c).filterMap (fun c => (Config.ldpcEdge p.bg ((ldpcSet p.z).getD 0) r c).map (fun v => (c, v % p.z)))

/-- The codeword positions of lifted check `i` of row `r`. -/
def Ldpc.check (p : Ldpc) (r i : Nat) : List Nat := (p.row r).map (fun e => e.1 * p.z + (i + e.2) % p.z)

/-- The decoder's values: an APP for each position, a message for each edge (row, check and place in the check). -/
structure LdpcSt where
  app : List Int
  msg : Nat → Nat → Nat → Int

/-- The start: punctured columns 0, filler positions +511, the input elsewhere (R167). -/
def Ldpc.start (p : Ldpc) (inp : List Byte) : LdpcSt where
  app := (List.range (p.c * p.z)).map (fun q =>
    if p.k - p.filler ≤ q ∧ q < p.k then 511 else if q < 2 * p.z then 0 else llrAt inp (q - 2 * p.z))
  msg := fun _ _ _ => 0

/-- The smallest magnitude of a list but for place `j`. -/
def minBut (l : List Int) (j : Nat) : Nat :=
  (List.range l.length).foldl (fun m i => if i = j then m else min m (l.getD i 0).natAbs) 127

/-- The sign of the product of a list's values but for place `j`, 0 taken as positive. -/
def signBut (l : List Int) (j : Nat) : Bool :=
  (List.range l.length).foldl (fun b i => if i = j then b else xor b (decide (l.getD i 0 < 0))) false

/-- One check node is processed (R168). -/
def Ldpc.node (p : Ldpc) (r i : Nat) (x : LdpcSt) : LdpcSt :=
  let pos := p.check r i
  let v := (List.range pos.length).map (fun j => satTo 127 (x.app.getD (pos.getD j 0) 0 - x.msg r i j))
  let new (j : Nat) : Int :=
    let m : Int := min 63 ((3 * minBut v j) >>> 2)
    if signBut v j then -m else m
  { app := (List.range pos.length).foldl (fun a j => a.set (pos.getD j 0) (satTo 511 (v.getD j 0 + new j))) x.app
    msg := fun r' i' j => if r' = r ∧ i' = i then new j else x.msg r' i' j }

/-- One iteration: rows in order. -/
def Ldpc.iterate (p : Ldpc) (x : LdpcSt) : LdpcSt :=
  (List.range p.rows).foldl (fun x r => (List.range p.z).foldl (fun x i => p.node r i x) x) x

/-- The values after `n` iterations. -/
def Ldpc.after (p : Ldpc) (inp : List Byte) : Nat → LdpcSt
  | 0 => p.start inp
  | n + 1 => p.iterate (p.after inp n)

/-- Parity checks that fail on the hard decisions. -/
def Ldpc.unsat (p : Ldpc) (x : LdpcSt) : Nat :=
  ((List.range p.rows).map (fun r => ((List.range p.z).filter (fun i =>
    (p.check r i).foldl (fun b q => xor b (decide (x.app.getD q 0 < 0))) false)).length)).sum

/-- The decoded bits. -/
def Ldpc.hard (p : Ldpc) (x : LdpcSt) : List Bool := (List.range (p.k - p.filler)).map (fun q => decide (x.app.getD q 0 < 0))

/-- Whether the named CRC passes. -/
def Ldpc.crcOk (p : Ldpc) (x : LdpcSt) : Bool := p.crc ≠ 0 && crcPass p.poly (p.hard x)

/-- Whether ET stops the decoder. -/
def Ldpc.stops (p : Ldpc) (x : LdpcSt) : Bool :=
  match p.et with
  | 0 => false
  | 1 => p.unsat x = 0
  | _ => p.unsat x = 0 && p.crcOk x

/-- Iterations run. -/
def Ldpc.iters (p : Ldpc) (inp : List Byte) : Nat :=
  (((List.range p.maxit).map (· + 1)).find? (fun n => p.stops (p.after inp n))).getD p.maxit

/-- The information bits of an encoder's input, with the filler as 0. -/
def Ldpc.info (p : Ldpc) (inp : List Byte) : List Bool :=
  (List.range p.k).map (fun i => decide (i < p.k - p.filler) && bitAt inp i)

/-- The parity checks as a system in the parity bits, with the information bits on the right side. -/
def Ldpc.system (p : Ldpc) (info : List Bool) : List Nat :=
  (List.range p.rows).flatMap (fun r => (List.range p.z).map (fun i => (p.check r i).foldl (fun w q =>
    if p.k ≤ q then w ^^^ 2 ^ (q - p.k) else if info.getD q false then w ^^^ 2 ^ (p.c * p.z - p.k) else w) 0))

/-- The parity bits: the solution of the parity checks. -/
def Ldpc.parity (p : Ldpc) (info : List Bool) : List Bool :=
  let n := p.c * p.z - p.k
  let x := (List.range n).foldl gf2Pivot ([], p.system info)
  (List.range n).map (gf2Value n x.1)

/-- The coded bits (R167). -/
def Ldpc.encode (p : Ldpc) (inp : List Byte) : List Bool := (p.info inp ++ p.parity (p.info inp)).drop (2 * p.z)

/-! ## Polar codes (R169) -/

/-- The set map: two bits for each position. -/
def setMap (n : Nat) (aux : List Byte) : List Nat := (List.range n).map (fun i => (aux.getD (i / 4) 0).toNat >>> (2 * (i % 4)) % 4)

/-- The cyclic register of TS 38.212 clause 5.3.1.2 moves on one position. PRESUMED: its five stages and their order are the
standard's. -/
def polarShift (y : List Bool) : List Bool := y.tail ++ [y.headD false]

/-- An information bit enters the register. -/
def polarEnter (y : List Bool) (b : Bool) : List Bool := xor (y.headD false) b :: y.tail

/-- The register at the start of a block. -/
def polarReg : List Bool := [false, false, false, false, false]

/-- The input word of the encoder: frozen bits 0, information bits in order, parity-check bits from the register. -/
def polarU : List Nat → List Bool → List Bool → List Bool
  | [], _, _ => []
  | k :: m, info, y =>
    let y1 := polarShift y
    match k with
    | 1 => info.headD false :: polarU m info.tail (polarEnter y1 (info.headD false))
    | 2 => y1.headD false :: polarU m info y1
    | _ => false :: polarU m info y1

/-- The polar transform of a word of 2^n bits. -/
def polarG : Nat → List Bool → List Bool
  | 0, l => l
  | n + 1, l =>
    let a := l.take (2 ^ n)
    let b := l.drop (2 ^ n)
    polarG n (List.zipWith xor a b) ++ polarG n b

/-- The polynomial of the polar CRC: CRC24C, CRC11, CRC6. -/
def polarPoly (c : Nat) : Nat := match c with
  | 1 => 2
  | 2 => 4
  | _ => 5

/-- The max-log combination of two LLRs. -/
def polarF (a b : Int) : Int :=
  let m : Int := min a.natAbs b.natAbs
  if decide (a < 0) = decide (b < 0) then m else -m

/-- The LLR of the next bit of a block of 2^n, by the LLRs of its codeword and the bits decided before it (successive
cancellation). -/
def polarLlr : Nat → List Int → List Bool → Int
  | 0, l, _ => l.headD 0
  | n + 1, l, u =>
    let a := l.take (2 ^ n)
    let b := l.drop (2 ^ n)
    if u.length < 2 ^ n then polarLlr n (List.zipWith polarF a b) u
    else polarLlr n (List.zipWith (fun x (y : Int × Bool) => if y.2 then y.1 - x else y.1 + x) a
      (b.zip (polarG n (u.take (2 ^ n))))) (u.drop (2 ^ n))

/-- A path of the list decoder: its bits, its metric (0 is best), and the cyclic register. -/
structure PolarPath where
  u      : List Bool
  metric : Nat
  reg    : List Bool

/-- A path with its next bit decided: a bit against its LLR costs the LLR's magnitude (max-log metric). -/
def PolarPath.step (p : PolarPath) (llr : Int) (b : Bool) (reg : List Bool) : PolarPath :=
  ⟨p.u ++ [b], p.metric + (if b = decide (llr < 0) then 0 else llr.natAbs), reg⟩

/-- The paths that a path becomes at a position of the set map: frozen, information, parity check. -/
def PolarPath.grow (p : PolarPath) (k : Nat) (llr : Int) : List PolarPath :=
  let y := polarShift p.reg
  match k with
  | 1 => [p.step llr false (polarEnter y false), p.step llr true (polarEnter y true)]
  | 2 => [p.step llr (y.headD false) y]
  | _ => [p.step llr false y]

/-- Whether a path comes before another: by its metric; which of two equal ones does is free. -/
def PolarPath.before (a b : PolarPath) : Bool :=
  decide (a.metric < b.metric) || (decide (a.metric = b.metric) && Config.polarTie a.u b.u)

/-- A path put in its place in a list, best first. -/
def polarInsert (p : PolarPath) : List PolarPath → List PolarPath
  | [] => [p]
  | q :: l => if p.before q then p :: q :: l else q :: polarInsert p l

/-- Successive-cancellation list decoding (R169): the paths left at the end, best first. -/
def polarPaths (n size : Nat) (map : List Nat) (llrs : List Int) : List PolarPath :=
  map.foldl (fun l k => ((l.flatMap (fun p => p.grow k (polarLlr n llrs p.u))).foldr polarInsert []).take size) [⟨[], 0, polarReg⟩]

/-! ## Turbo codes (R170) -/

/-- A constituent encoder of TS 36.212 clause 5.1.3.2 takes a bit: its next state, last register bit lowest, and its parity
bit. PRESUMED: the polynomials 1 + D^2 + D^3 and 1 + D + D^3 are the standard's. -/
def rscNext (s : Nat) (u : Bool) : Nat × Bool :=
  let a := xor u (xor (s.testBit 1) (s.testBit 2))
  ((if a then 1 else 0) + 2 * (s % 4), xor a (xor (s.testBit 0) (s.testBit 2)))

/-- The bit that a tail step takes: the one that feeds 0 into the register. -/
def rscTail (s : Nat) : Bool := xor (s.testBit 1) (s.testBit 2)

/-- The larger of two metrics; none is that of no path. -/
def maxPath (a b : Option Rat) : Option Rat :=
  match a, b with
  | some x, some y => some (max x y)
  | none, y => y
  | x, none => x

/-- The sum of metrics along a path. -/
def addPath (a b : Option Rat) : Option Rat :=
  match a, b with
  | some x, some y => some (x + y)
  | _, _ => none

/-- The best of the branches that a test names. -/
def bestBranch (f : Nat → Bool → Option Rat) : Option Rat :=
  (List.range 8).foldl (fun m s => maxPath m (maxPath (f s false) (f s true))) none

/-- The metrics of the eight states before each step, from state 0 on. -/
def rscForward (br : Nat → Nat → Bool → Option Rat) (n : Nat) : List (List (Option Rat)) :=
  ((List.range n).foldl (fun (l : List (List (Option Rat))) k =>
    (List.range 8).map (fun t => bestBranch (fun s u =>
      if (rscNext s u).1 = t then addPath ((l.headD []).getD s none) (br k s u) else none)) :: l)
    [(List.range 8).map (fun s => if s = 0 then some 0 else none)]).reverse

/-- The metrics of the eight states after each step, from state 0 after the last one back. -/
def rscBackward (br : Nat → Nat → Bool → Option Rat) (n : Nat) : List (List (Option Rat)) :=
  ((List.range n).map (fun k => n - 1 - k)).foldl (fun (l : List (List (Option Rat))) k =>
    (List.range 8).map (fun s => maxPath (addPath (br k s false) ((l.headD []).getD (rscNext s false).1 none))
      (addPath (br k s true) ((l.headD []).getD (rscNext s true).1 none))) :: l)
    [(List.range 8).map (fun s => if s = 0 then some 0 else none)]

/-- The max-log-MAP LLRs of the first `k` of `n` bits; positive favours 0. -/
def maxLogMap (br : Nat → Nat → Bool → Option Rat) (k n : Nat) : List Rat :=
  let f := rscForward br n
  let b := rscBackward br n
  (List.range k).map (fun i =>
    let side (u : Bool) : Option Rat := bestBranch (fun s v =>
      if v = u then addPath ((f.getD i []).getD s none) (addPath (br i s v) ((b.getD (i + 1) []).getD (rscNext s v).1 none)) else none)
    match side false, side true with
    | some x, some y => x - y
    | _, _ => 0)

/-- Parameters of a turbo job. -/
structure Turbo where
  k      : Nat
  maxit  : Nat
  et     : Bool
  crc    : Nat
  filler : Nat

/-- The parameters in W0 and W1. -/
def turboOf (d : List Byte) : Turbo :=
  let w := jW d 0
  ⟨w % 2 ^ 13, bitsOf w 16 13, w.testBit 17, bitsOf w 19 18, bitsOf (jW d 1) 5 0⟩

/-- Value `i` of stream d(`j`). -/
def Turbo.d (p : Turbo) (inp : List Byte) (j i : Nat) : Int := llrAt inp (j * (p.k + 4) + i)

/-- The place of bit `i` of the second constituent's input. -/
def Turbo.perm (p : Turbo) (i : Nat) : Nat :=
  ((Config.turboQpp p.k).1 * i + (Config.turboQpp p.k).2 * i * i) % p.k

/-- The systematic and parity LLRs of the tail steps of a constituent: TS 36.212 clause 5.1.3.2.2. PRESUMED: the order is the
standard's. -/
def Turbo.tail (p : Turbo) (inp : List Byte) (second : Bool) (i : Nat) : Int × Int :=
  let o := p.k + (if second then 2 else 0)
  match i with
  | 0 => (p.d inp 0 o, p.d inp 1 o)
  | 1 => (p.d inp 2 o, p.d inp 0 (o + 1))
  | _ => (p.d inp 1 (o + 1), p.d inp 2 (o + 1))

/-- A branch of a constituent's trellis at step `i`: filler bits are known 0, tail steps take their one bit. -/
def Turbo.branch (p : Turbo) (inp : List Byte) (second : Bool) (la : List Rat) (i s : Nat) (u : Bool) : Option Rat :=
  let v (x : Rat) (b : Bool) : Rat := if b then 0 else x
  if p.k ≤ i then
    let t := p.tail inp second (i - p.k)
    if u = rscTail s then some (v t.1 u + v t.2 (rscNext s u).2) else none
  else
    let q := if second then p.perm i else i
    if q < p.filler && u then none
    else some (v (p.d inp 0 q + la.getD q 0) u + v (p.d inp (if second then 2 else 1) i) (rscNext s u).2)

/-- After a half-iteration: the extrinsic values for the next one, scaled by 0.75, and the LLRs, both by bit (R170). -/
def Turbo.half (p : Turbo) (inp : List Byte) (second : Bool) (la : List Rat) : List Rat × List Rat :=
  let l := maxLogMap (p.branch inp second la) p.k (p.k + 3)
  let place := (List.range p.k).map (fun i => if second then p.perm i else i)
  let out := (List.range p.k).map (fun q => l.getD (place.idxOf q) 0)
  ((List.range p.k).map (fun q => (3 / 4 : Rat) * (out.getD q 0 - p.d inp 0 q - la.getD q 0)), out)

/-- The values after `h` half-iterations. -/
def Turbo.after (p : Turbo) (inp : List Byte) : Nat → List Rat × List Rat
  | 0 => ([], [])
  | h + 1 => p.half inp (h % 2 = 1) (p.after inp h).1

/-- The hard decisions after `h` half-iterations, filler bits left out. -/
def Turbo.bits (p : Turbo) (inp : List Byte) (h : Nat) : List Bool :=
  ((p.after inp h).2.drop p.filler).map (fun x => decide (x < 0))

/-- Whether the named CRC passes after `h` half-iterations. -/
def Turbo.pass (p : Turbo) (inp : List Byte) (h : Nat) : Bool := p.crc ≠ 0 && crcPass (p.crc - 1) (p.bits inp h)

/-- Half-iterations that a job runs: all of them, or with ET up to the first whose hard decisions pass the CRC. -/
def Turbo.halves (p : Turbo) (inp : List Byte) : Nat :=
  let full := 2 * p.maxit
  if p.et then (((List.range full).map (· + 1)).find? (p.pass inp)).getD full else full

/-! ## Convolutional codes and the equaliser (R171) -/

/-- The survivors of a trellis: for each state the best path into it, its metric and its bits, last first. -/
abbrev Survivors := List (Option (Int × List Bool))

/-- The better of two paths: the larger metric; which of two equal ones is free. -/
def betterPath (a b : Option (Int × List Bool)) : Option (Int × List Bool) :=
  match a, b with
  | some x, some y => if x.1 < y.1 || (x.1 = y.1 && Config.viterbiTie y.2 x.2) then some y else some x
  | none, y => y
  | x, none => x

/-- One step of a trellis of 2^m states, which are the last m bits with the latest lowest, by the metric of a bit at a state. -/
def viterbiStep (m : Nat) (br : Nat → Bool → Int) (l : Survivors) : Survivors :=
  (List.range (2 ^ m)).map (fun t => (List.range (2 ^ m)).foldl (fun best s =>
    [false, true].foldl (fun best u =>
      if (2 * s + (if u then 1 else 0)) % 2 ^ m = t then
        betterPath best ((l.getD s none).map (fun e => (e.1 + br s u, u :: e.2)))
      else best) best) none)

/-- The survivors after `n` steps from the states that a test names. -/
def viterbi (m : Nat) (br : Nat → Nat → Bool → Int) (start : Nat → Bool) (n : Nat) : Survivors :=
  (List.range n).foldl (fun l i => viterbiStep m (br i) l)
    ((List.range (2 ^ m)).map (fun s => if start s then some (0, []) else none))

/-- The bits of a path, first to last. -/
def pathBits (p : Option (Int × List Bool)) : List Bool := ((p.map (·.2)).getD []).reverse

/-- The parity of a code's taps over a bit and the bits before it; bit `i` of the mask is the tap D^i. -/
def tapParity (mask s : Nat) (u : Bool) : Bool :=
  (List.range 7).foldl (fun b i => xor b (mask.testBit i && (2 * s + (if u then 1 else 0)).testBit i)) false

/-- The metric of coded bits against their LLRs. -/
def codeMetric (masks : List Nat) (llr : Nat → Int) (s : Nat) (u : Bool) : Int :=
  ((List.range masks.length).map (fun j => if tapParity (masks.getD j 0) s u then -llr j else llr j)).sum

/-- VIT: the path of best metric from state 0 to state 0; the tail bits are not output. PRESUMED: G0 is 1 + D^3 + D^4, G1 is
1 + D + D^3 + D^4, G2 is 1 + D^2 + D^4, G3 is 1 + D + D^2 + D^3 + D^4, as TS 45.003 has them. -/
def vitBits (code n : Nat) (inp : List Byte) : List Bool :=
  let masks := if code = 0 then [25, 27] else [27, 21, 31]
  (pathBits ((viterbi 4 (fun i => codeMetric masks (fun j => llrAt inp (masks.length * i + j))) (· = 0) n).getD 0 none)).take (n - 4)

/-- VIT_TB: the best of the paths that end in the state they start from. PRESUMED: the polynomials 133, 171 and 165 (octal) are
those of TS 36.212 clause 5.1.3.1. -/
def vitTailBiting (n : Nat) (inp : List Byte) : List Bool :=
  pathBits ((List.range 64).foldl (fun best s =>
    betterPath best ((viterbi 6 (fun i => codeMetric [109, 79, 87] (fun j => llrAt inp (j * n + i))) (· = s) n).getD s none)) none)

/-- EQ: maximum-likelihood sequence estimation of a normal burst's 148 bits over the stated channel length. -/
def gsmBits (w : Nat) (blk : List Byte) : List Bool :=
  let m := bitsOf w 6 4 - 1
  pathBits ((viterbi m (fun i s u => Config.gsmBranch w blk i (2 * s + (if u then 1 else 0))) (fun _ => true) 148).foldl betterPath none)

/-- The 116 coded bits of a burst as LLR8: signs from the sequence, magnitudes free. PRESUMED: the coded bits are bits 3 to 60 and
87 to 144 of a normal burst. -/
def gsmOut (w : Nat) (blk : List Byte) : List Byte :=
  let bits := gsmBits w blk
  (List.range 116).map (fun j =>
    let m : Int := (Config.gsmSoft w blk j).toNat
    BitVec.ofInt 8 (if bits.getD (if j < 58 then 3 + j else 29 + j) false then -m else m))

/-! ## GSM-R, FFT and beam parameters (R171 to R173) -/

/-- Points of an FFT size code. -/
def fftSize (c : Nat) : Nat :=
  match c with
  | 0 => 128
  | 1 => 256
  | 2 => 512
  | 3 => 1024
  | 4 => 2048
  | 5 => 4096
  | 6 => 1536
  | _ => 3072

/-- SIZE of an FFT job. -/
def fSize (d : List Byte) : Nat := fftSize (jW d 0 % 8)
/-- NSYM. -/
def fNsym (d : List Byte) : Nat := bitsOf (jW d 0) 7 3
/-- NUSE. -/
def fNuse (d : List Byte) : Nat := bitsOf (jW d 2) 12 0
/-- The cyclic prefix of symbol `j`. -/
def fCp (d : List Byte) (j : Nat) : Nat :=
  if (bitsOf (jW d 0) 12 8 + j) % bitsOf (jW d 0) 17 13 = 0 then bitsOf (jW d 1) 11 0 else bitsOf (jW d 1) 27 16
/-- Samples before symbol `j`. -/
def fOff (d : List Byte) (j : Nat) : Nat := ((List.range j).map (fun i => fCp d i + fSize d)).sum

/-- M of a beam job. -/
def bM (d : List Byte) : Nat := bitsOf (jW d 0) 6 0
/-- K. -/
def bK (d : List Byte) : Nat := bitsOf (jW d 0) 11 7
/-- NCOL. -/
def bNcol (d : List Byte) : Nat := bitsOf (jW d 0) 24 12
/-- WGRP. -/
def bWgrp (d : List Byte) : Nat := bitsOf (jW d 1) 12 0

/-- A C16 value at an index of a byte list. -/
def c16At (l : List Byte) (i : Nat) : Int × Int := (sgn 16 (fieldAt l (4 * i) 2), sgn 16 (fieldAt l (4 * i + 2) 2))

/-- One output value of a beam job, with its saturated components (R173). -/
def beamOut (d inp aux : List Byte) (m c : Nat) : List Byte × Nat :=
  let g := c / bWgrp d * (bM d * bK d)
  let acc := (List.range (bK d)).foldl (fun (a : Int × Int) k =>
    let x := c16At inp (c * bK d + k)
    let w := if jFunc d = 0 then c16At aux (g + m * bK d + k) else c16At aux (g + k * bM d + m)
    let wi := if jFunc d = 0 then w.2 else -w.2
    (a.1 + w.1 * x.1 - wi * x.2, a.2 + w.1 * x.2 + wi * x.1)) (0, 0)
  let sh := 15 + bitsOf (jW d 1) 17 13
  let md := bitsOf (jW d 1) 19 18
  let re := fin true (rnd acc.1 sh md) 16 true
  let im := fin true (rnd acc.2 sh md) 16 true
  (toBytes 2 re.1 ++ toBytes 2 im.1, (if re.2 then 1 else 0) + (if im.2 then 1 else 0))

/-- 10^50, the unit of the fixed-point values below. -/
def fixOne : Int := 10 ^ 50

/-- 2 pi in that unit. -/
def fixTau : Int := 2 * 314159265358979323846264338327950288419716939937510

/-- The cosine of 2 pi a / n in that unit, exact to far below 10^-40: 45 terms of its series. -/
def fixCos (a n : Nat) : Int :=
  let t := fixTau * (a % n : Nat) / n
  ((List.range 45).foldl (fun (x : Int × Int) k =>
    (x.1 + x.2, -(x.2 * t / fixOne * t / fixOne) / ((2 * k + 1) * (2 * k + 2) : Nat))) (0, fixOne)).1

/-- The sine. -/
def fixSin (a n : Nat) : Int := fixCos (4 * a + 3 * n) (4 * n)

/-- The turn of bin `b` at sample `t`, in parts of 2 SIZE of a circle (R172). -/
def fftTurn (d : List Byte) (b t : Nat) : Nat :=
  ((2 * ((b : Int) - (fNuse d / 2 : Nat)) + (bitsOf (jW d 0) 23 23 : Nat)) * t % (2 * fSize d : Nat)).toNat

/-- A component of a transform, in units of 10^-50: of bin i / 2 of an FFT, of sample i / 2 of an inverse one. -/
def fftSum (d blk : List Byte) (i : Nat) : Int :=
  let inv := decide (jFunc d ≠ 0)
  let one (x : Int × Int) (a : Nat) : Int :=
    let c := fixCos a (2 * fSize d)
    let s := if inv then -fixSin a (2 * fSize d) else fixSin a (2 * fSize d)
    if i % 2 = 0 then x.1 * c + x.2 * s else x.2 * c - x.1 * s
  if inv then ((List.range (fNuse d)).map (fun b => one (c16At blk b) (fftTurn d b (i / 2)))).sum
  else ((List.range (fSize d)).map (fun t => one (c16At blk t) (fftTurn d (i / 2) t))).sum

/-- The exactly rounded value of a component scaled by 2^-SHIFT; which way one half-way between two is rounded is free. -/
def fftExact (d blk : List Byte) (i : Nat) : Int :=
  let one := fixOne * 2 ^ bitsOf (jW d 0) 22 18
  let x := 2 * fftSum d blk i + one
  let near := one / 10 ^ 30
  if (x + near) / (2 * one) ≠ (x - near) / (2 * one) then
    (x - near) / (2 * one) + (if Config.fftTie [jFunc d, jW d 0, jW d 1, jW d 2] blk i then 1 else 0)
  else x / (2 * one)

/-- One component of an FFT symbol: the exactly rounded value with the engine's error of at most 2, saturated to Q15. -/
def fftComp (d blk : List Byte) (free i : Nat) : Nat × Bool :=
  fin true (fftExact d blk i + ((Config.fftError free i % 5 : Nat) : Int) - 2) 16 true

/-- Components `lo` to `lo + n - 1` as bytes, with how many saturated. -/
def fftRun (d blk : List Byte) (free lo n : Nat) : List Byte × Nat :=
  (((List.range n).map (fun i => toBytes 2 (fftComp d blk free (lo + i)).1)).flatten,
    ((List.range n).filter (fun i => (fftComp d blk free (lo + i)).2)).length)

/-! ## Formats (R158, R165, R166) -/

/-- Whether class and function are ones of R158. -/
def jobKnown (d : List Byte) : Bool :=
  match jClass d with
  | 0 => jFunc d = 0
  | 1 => jFunc d = 0
  | 2 => decide (jFunc d ≤ 1)
  | 3 => jFunc d = 0
  | 4 => decide (jFunc d ≤ 2)
  | 5 => decide (jFunc d ≤ 1)
  | 6 => decide (jFunc d ≤ 1)
  | _ => false

/-- Turbo block sizes of TS 36.212 Table 5.1.3-3. -/
def turboK (k : Nat) : Bool :=
  (decide (40 ≤ k) && decide (k ≤ 512) && k % 8 = 0) || (decide (512 ≤ k) && decide (k ≤ 1024) && k % 16 = 0) ||
  (decide (1024 ≤ k) && decide (k ≤ 2048) && k % 32 = 0) || (decide (2048 ≤ k) && decide (k ≤ 6144) && k % 64 = 0)

/-- Whether a number lies in a range. -/
def within (lo x hi : Nat) : Bool := decide (lo ≤ x) && decide (x ≤ hi)

/-- Whether every parameter lies in its range. -/
def jobRanges (d : List Byte) : Bool :=
  let w := jW d 0
  match jClass d with
  | 0 => (ldpcOf d).ok true
  | 1 => (ldpcOf d).ok false
  | 2 => within 5 (w % 16) 10 && within 1 (bitsOf w 14 4) (2 ^ (w % 16)) && (jFunc d = 0 || bitsOf w 16 15 = 0)
  | 3 => turboK (w % 2 ^ 13) && within 1 (bitsOf w 16 13) 8 && decide (bitsOf w 19 18 ≤ 2) &&
      (bitsOf w 17 17 = 0 || bitsOf w 19 18 ≠ 0)
  | 4 => (match jFunc d with
    | 0 => within 1 (bitsOf w 6 4) 5 && within 1 (bitsOf w 14 8) 64
    | 1 => within 5 (bitsOf w 26 16) 1024
    | _ => within 1 (bitsOf w 26 16) 1024)
  | 5 => within 1 (fNsym d) 28 && within 1 (bitsOf w 17 13) 28 && decide (bitsOf w 12 8 < bitsOf w 17 13) &&
      decide (bitsOf w 22 18 ≤ 12) && decide (bitsOf (jW d 1) 11 0 < fSize d) && decide (bitsOf (jW d 1) 27 16 < fSize d) &&
      within 2 (fNuse d) (fSize d) && fNuse d % 2 = 0
  | _ => within 1 (bM d) 64 && within 1 (bK d) 16 && within 1 (bNcol d) 4096 && within 1 (bWgrp d) (bNcol d) &&
      decide (bitsOf (jW d 1) 17 13 ≤ 16)

/-- The bits of the parameter words that a class and function use. -/
def jobMask (d : List Byte) : List Nat :=
  match jClass d with
  | 0 => [0x3FFFFFF, 0x3FFF, 0]
  | 1 => [0x3FFFFFF, 0x3FFF, 0]
  | 2 => [0x7FFFF, 0, 0]
  | 3 => [0xFFFFF, 0x3F, 0]
  | 4 => (match jFunc d with
    | 0 => [0x7F7F, 0, 0]
    | 1 => [0x7FF0001, 0, 0]
    | _ => [0x7FF0000, 0, 0])
  | 5 => [0xFFFFFF, 0xFFF0FFF, 0x1FFF]
  | _ => [0x1FFFFFF, 0xFFFFF, 0]

/-- Whether a class reads auxiliary data. -/
def jobAux (d : List Byte) : Bool := jClass d = 2 || jClass d = 6

/-- Whether a reserved bit, or a field that the class does not use, is not 0. -/
def jobReserved (d : List Byte) : Bool :=
  decide (bitsOf (fieldAt d 0 4) 15 12 ≠ 0) || (fieldAt d 4 2).testBit 15 || decide (bitsOf (fieldAt d 8 4) 31 13 ≠ 0) ||
  decide (fieldAt d 21 3 ≠ 0) || decide (fieldAt d 29 3 ≠ 0) || decide (fieldAt d 37 3 ≠ 0) ||
  (List.range 3).any (fun i => jW d i &&& (2 ^ 32 - 1 - (jobMask d).getD i 0) ≠ 0) ||
  decide (fieldAt d 52 12 ≠ 0) || (!jobAux d && decide (jAux d ≠ 0))

/-- Bytes of input. -/
def jobInLen (d : List Byte) : Nat :=
  let w := jW d 0
  let l := ldpcOf d
  match jClass d with
  | 0 => (l.c - 2) * l.z
  | 1 => (l.k - l.filler + 7) / 8
  | 2 => if jFunc d = 0 then 2 ^ (w % 16) else (bitsOf w 14 4 + 7) / 8
  | 3 => 3 * (w % 2 ^ 13 + 4)
  | 4 => (match jFunc d with
    | 0 => bitsOf w 14 8 * 640 * (1 + bitsOf w 3 3)
    | 1 => (2 + w % 2) * bitsOf w 26 16
    | _ => 3 * bitsOf w 26 16)
  | 5 => if jFunc d = 0 then 4 * fOff d (fNsym d) else 4 * fNsym d * fNuse d
  | _ => 4 * bNcol d * bK d

/-- Bytes of auxiliary input. -/
def jobAuxLen (d : List Byte) : Nat :=
  match jClass d with
  | 2 => 2 ^ (jW d 0 % 16) / 4
  | 6 => 4 * ((bNcol d + bWgrp d - 1) / bWgrp d) * bM d * bK d
  | _ => 0

/-- Bytes of results. -/
def jobOutLen (d : List Byte) : Nat :=
  let w := jW d 0
  let l := ldpcOf d
  match jClass d with
  | 0 => (l.k - l.filler + 7) / 8
  | 1 => ((l.c - 2) * l.z + 7) / 8
  | 2 => if jFunc d = 0 then (bitsOf w 14 4 + 7) / 8 else 2 ^ (w % 16) / 8
  | 3 => (w % 2 ^ 13 - bitsOf (jW d 1) 5 0 + 7) / 8
  | 4 => (match jFunc d with
    | 0 => 128 * bitsOf w 14 8
    | 1 => (bitsOf w 26 16 - 4 + 7) / 8
    | _ => (bitsOf w 26 16 + 7) / 8)
  | 5 => if jFunc d = 0 then 4 * fNsym d * fNuse d else 4 * fOff d (fNsym d)
  | _ => 4 * bNcol d * bM d

/-! ## Abort points and results (R177) -/

/-- Whether a class writes results block by block, and how many blocks. -/
def jobBlocks (d : List Byte) : Option Nat :=
  match jClass d with
  | 4 => if jFunc d = 0 then some (bitsOf (jW d 0) 14 8) else none
  | 5 => some (fNsym d)
  | 6 => some ((bNcol d + 63) / 64)
  | _ => none

/-- Abort points of a job, its final point among them. -/
def jobPoints (d inp : List Byte) : Nat :=
  match jClass d with
  | 0 => (ldpcOf d).iters inp
  | 1 => 2
  | 2 => if jFunc d = 0 then max 1 (2 ^ (jW d 0 % 16) / 64) else 2
  | 3 => (turboOf d).halves inp
  | 4 => if jFunc d = 0 then bitsOf (jW d 0) 14 8 else (bitsOf (jW d 0) 26 16 + 63) / 64
  | 5 => fNsym d
  | _ => (bNcol d + 63) / 64

/-- The information bits of a path of a polar job. -/
def PolarPath.info (p : PolarPath) (map : List Nat) : List Bool := ((p.u.zip map).filter (fun e => e.2 = 1)).map (·.1)

/-- Whether a path of a polar job passes its CRC. -/
def PolarPath.pass (p : PolarPath) (crc : Nat) (map : List Nat) : Bool := crc ≠ 0 && crcPass (polarPoly crc) (p.info map)

/-- The path that a polar job outputs: the best whose CRC passes, else the best (R169). -/
def polarBest (d inp aux : List Byte) : PolarPath :=
  let w := jW d 0
  let map := setMap (2 ^ (w % 16)) aux
  let l := polarPaths (w % 16) (2 ^ bitsOf w 16 15) map ((List.range (2 ^ (w % 16))).map (llrAt inp))
  ((l.find? (·.pass (bitsOf w 18 17) map)).or l.head?).getD ⟨[], 0, polarReg⟩

/-- The bytes that a job writes at its final point, or at the end of block `j` of a class that writes block by block, with
the components saturated in them. -/
def jobOut (d inp aux : List Byte) (free j : Nat) : List Byte × Nat :=
  let w := jW d 0
  match jClass d with
  | 0 => (packBits ((ldpcOf d).hard ((ldpcOf d).after inp ((ldpcOf d).iters inp))), 0)
  | 1 => (packBits ((ldpcOf d).encode inp), 0)
  | 2 =>
    if jFunc d = 0 then (packBits ((polarBest d inp aux).info (setMap (2 ^ (w % 16)) aux)), 0)
    else (packBits (polarG (w % 16) (polarU (setMap (2 ^ (w % 16)) aux) ((List.range (bitsOf w 14 4)).map (bitAt inp))
      polarReg)), 0)
  | 3 => (packBits ((turboOf d).bits inp ((turboOf d).halves inp)), 0)
  | 4 => (match jFunc d with
    | 0 =>
      let b := slice inp (j * 640 * (1 + bitsOf w 3 3)) (640 * (1 + bitsOf w 3 3))
      (gsmOut w b ++ List.replicate 12 0, 0)
    | 1 => (packBits (vitBits (w % 2) (bitsOf w 26 16) inp), 0)
    | _ => (packBits (vitTailBiting (bitsOf w 26 16) inp), 0))
  | 5 =>
    if jFunc d = 0 then fftRun d (slice inp (4 * (fOff d j + fCp d j)) (4 * fSize d)) free 0 (2 * fNuse d)
    else
      let blk := slice inp (4 * j * fNuse d) (4 * fNuse d)
      let pre := fftRun d blk free (2 * (fSize d - fCp d j)) (2 * fCp d j)
      let body := fftRun d blk free 0 (2 * fSize d)
      (pre.1 ++ body.1, pre.2 + body.2)
  | _ =>
    let l := ((List.range (min 64 (bNcol d - 64 * j))).map (fun c =>
      (List.range (bM d)).map (fun m => beamOut d inp aux m (64 * j + c)))).flatten
    ((l.map (·.1)).flatten, (l.map (·.2)).sum)

/-- The offset of block `j` in the results. -/
def jobOff (d : List Byte) (j : Nat) : Nat :=
  match jClass d with
  | 4 => 128 * j
  | 5 => if jFunc d = 0 then 4 * j * fNuse d else 4 * fOff d j
  | 6 => 4 * (64 * j) * bM d
  | _ => 0

/-- Whether a set map stops its job (R169). -/
def mapBad (d aux : List Byte) : Bool :=
  let m := setMap (2 ^ (jW d 0 % 16)) aux
  m.contains 3 || decide ((m.filter (· = 1)).length ≠ bitsOf (jW d 0) 14 4)

end Sys2Proof.Machine
end

