-- ==== Sys2Proof/Machine/Mover.lean ====
section
/-!
DEFINITION. The scree movers (10_queues_and_movers.md, R247 to R259): descriptors, channel states, pacing, eMarks, tokens,
error policies and the shadow hand-over. The bytes of a descriptor move in the step that starts its transfer; its end, with
the queue advance and the completion, is a command of its own.
-/

namespace Sys2Proof.Machine

/-! ## Channels and descriptors (R247, R248, R251) -/

/-- A channel's state beside its registers. -/
def State.chan (s : State) (k ch : Nat) : Chan := mapGet s.chans Chan.reset (k * 128 + ch)

/-- It is replaced. -/
def State.setChan (s : State) (k ch : Nat) (c : Chan) : State := { s with chans := mapSet s.chans Chan.reset (k * 128 + ch) c }

/-- STATE of a channel. -/
def State.chState (s : State) (k ch : Nat) : Nat := s.get (F.MOVER_CH_STAT_STATE k ch)

/-- A channel enters a state. -/
def State.setChState (s : State) (k ch x : Nat) : State := s.put (F.MOVER_CH_STAT_STATE k ch) x

/-- IDLE. -/
def chIdle : Nat := 0
/-- RUN. -/
def chRun : Nat := 1
/-- PAUSED. -/
def chPaused : Nat := 2
/-- EWAIT. -/
def chEwait : Nat := 3
/-- STOPPING. -/
def chStopping : Nat := 4
/-- HALTED. -/
def chHalted : Nat := 5

/-- SRC of a descriptor. -/
def dSrc (d : List Byte) : Nat := fieldAt d 0 5
/-- LEN, with 0 for 16,777,216. -/
def dLen (d : List Byte) : Nat := if fieldAt d 5 3 = 0 then 16777216 else fieldAt d 5 3
/-- DST. -/
def dDst (d : List Byte) : Nat := fieldAt d 8 5
/-- TOKEN. -/
def dTok (d : List Byte) : Nat := fieldAt d 13 2 % 2 ^ 15
/-- TOK_V. -/
def dTokV (d : List Byte) : Bool := (fieldAt d 13 2).testBit 15
/-- STRATA. -/
def dStrata (d : List Byte) : Nat := fieldAt d 15 1
/-- NEXT. -/
def dNext (d : List Byte) : Nat := fieldAt d 16 5
/-- EVENT_ID. -/
def dEvent (d : List Byte) : Nat := fieldAt d 21 2
/-- Bytes 24 to 27. -/
def dFlags (d : List Byte) : Nat := fieldAt d 24 4
/-- CPL. -/
def dCpl (d : List Byte) : Bool := (dFlags d).testBit 0
/-- LAST. -/
def dLast (d : List Byte) : Bool := (dFlags d).testBit 1
/-- NS. -/
def dNs (d : List Byte) : Bool := (dFlags d).testBit 2
/-- QADV. -/
def dQadv (d : List Byte) : Bool := (dFlags d).testBit 3
/-- EWAIT. -/
def dEwait (d : List Byte) : Bool := (dFlags d).testBit 4
/-- TAG. -/
def dTag (d : List Byte) : Nat := dFlags d / 2 ^ 16

/-- Whether a descriptor fails format (R248). -/
def descBad (d : List Byte) : Bool :=
  decide (fieldAt d 23 1 ≠ 0) || decide (bitsOf (dFlags d) 15 5 ≠ 0) || decide (fieldAt d 28 4 ≠ 0) ||
  (dCpl d && decide (dStrata d = 0)) ||
  (!dLast d && (decide (dNext d % 32 ≠ 0) || !inOneWindow (dNext d) 32)) ||
  !inOneWindow (dSrc d) (dLen d) || !inOneWindow (dDst d) (dLen d) || rangesMeet (dSrc d) (dLen d) (dDst d) (dLen d)

/-- The address of the current descriptor. -/
def State.chCur (s : State) (k ch : Nat) : Nat := s.get (F.MOVER_CH_CUR_HI_CUR_HI k ch) * 2 ^ 32 + s.get (F.MOVER_CH_CUR_LO_CUR k ch)

/-- The current descriptor's address is set. -/
def State.setChCur (s : State) (k ch a : Nat) : State :=
  (s.put (F.MOVER_CH_CUR_LO_CUR k ch) (a % 2 ^ 32)).put (F.MOVER_CH_CUR_HI_CUR_HI k ch) (a / 2 ^ 32)

/-- The initiator number of a complex (R83). -/
def moverInit (k : Nat) : Nat := 0x100 + k

/-- Counter of a mover event (R443). -/
def moverEvent (k o : Nat) : Nat := 320 + 8 * k + o

/-! ## Acknowledgements (R227) -/

/-- The TOKACK of a notice. -/
def tokAck (p : Packet) : Packet :=
  { Packet.zero with op := 9, dst := BitVec.ofNat 8 (nodeOfInit p.init.toNat), init := p.init, txn := p.txn, token := p.token, src := p.dst }

/-- Acknowledgements that a test says are due are sent. -/
def State.flushOwed (s : State) (due : Owed → Bool) : State :=
  (s.owed.filter due).foldl (fun t o => t.send (tokAck o.notice)) { s with owed := s.owed.filter (fun o => !due o) }

/-- Whether a channel of complex `k` still has a squashed descriptor of a token before its boundary. -/
def State.moverBusy (s : State) (k tok : Nat) : Bool :=
  (List.range 128).any (fun ch =>
    (s.chan k ch).squash && dTokV (s.chan k ch).desc && decide (dTok (s.chan k ch).desc = tok))

/-- Complex `k` sends the acknowledgements that its channels no longer hold back. -/
def State.moverAcks (s : State) (k : Nat) : State :=
  s.flushOwed (fun o => decide (o.recv = 8 + k) && !s.moverBusy k o.notice.token.toNat)

/-! ## Boundaries (R252, R258) -/

/-- A channel enters IDLE. -/
def State.chStop (s : State) (k ch : Nat) : State :=
  ((s.setChan k ch { s.chan k ch with phase := .none, desc := [], squash := false }).setChState k ch chIdle).moverAcks k

/-- A channel fetches the descriptor at an address. -/
def State.chFetch (s : State) (k ch a : Nat) : State :=
  ((s.setChan k ch { s.chan k ch with phase := .fetch, desc := [], squash := false }).setChCur k ch a).setChState k ch chRun
    |>.moverAcks k

/-- The shadow head. -/
def State.shadowHead (s : State) (k ch : Nat) : Nat :=
  s.get (F.MOVER_CH_SHADOW_HI_SHADOW_HI k ch) * 2 ^ 32 + s.get (F.MOVER_CH_SHADOW_LO_SHADOW k ch) / 32 * 32

/-- The next boundary after a descriptor: IDLE for a stopping channel; the shadow chain or IDLE at the end of a chain;
else the next descriptor (R252, R258). -/
def State.chBoundary (s : State) (k ch : Nat) (d : List Byte) : State :=
  if s.chState k ch = chStopping then s.chStop k ch
  else if dLast d then
    if s.on (F.MOVER_CH_STAT_SHADOW_VALID k ch) then
      ((s.put (F.MOVER_CH_STAT_SHADOW_VALID k ch) 0).put (F.MOVER_CH_STAT_SHADOW_SEQ k ch)
        (s.get (F.MOVER_CH_STAT_SHADOW_SEQ k ch) + 1)).chFetch k ch (s.shadowHead k ch)
    else s.chStop k ch
  else s.chFetch k ch (dNext d)

/-- A descriptor ends with a status: it is counted, its completion is sent (R250), the channel goes to the boundary. -/
def State.chEnd (s : State) (k ch status resp : Nat) (write : Bool) : State :=
  let d := (s.chan k ch).desc
  let s1 := (s.put (F.MOVER_CH_DONE_DONE k ch) (s.get (F.MOVER_CH_DONE_DONE k ch) + 1)).count (moverEvent k 0) 1
  let s2 := if status = 6 then s1.count (moverEvent k 5) 1 else s1
  let s3 := if dCpl d then
      s2.sendEvent (moverInit k) (dStrata d) (dEvent d)
        (status + resp * 2 ^ 8 + (if write then 2 ^ 11 else 0) + dTag d * 2 ^ 16)
        (if dTokV d then some (BitVec.ofNat 15 (dTok d)) else none)
    else s2
  s3.chBoundary k ch d

/-! ## Failures (R252, R257) -/

/-- A channel halts with what it latches in MOVER_CH_ERR. -/
def State.chHalt (s : State) (k ch a : Nat) (write : Bool) (resp : Nat) (fetch fmt : Bool) : State :=
  let s1 := s.setReg (R.MOVER_CH_ERR_LO k ch) (BitVec.ofNat 32 a)
  let s2 := s1.setReg (R.MOVER_CH_ERR_HI k ch) (BitVec.ofNat 32 (a / 2 ^ 32 % 256 + (if write then 2 ^ 8 else 0) + resp * 2 ^ 9 +
    (if fetch then 2 ^ 12 else 0) + (if fmt then 2 ^ 13 else 0)))
  ((s2.setChan k ch { s2.chan k ch with phase := .none }).setChState k ch chHalted).count (moverEvent k 4) 1

/-- The MARK_SKIP action: bytes 24 to 27 of the descriptor are marked, the completion is sent, the channel goes on; a
failing mark halts it (R257). -/
def State.chMark (s : State) (k ch : Nat) (write : Bool) (resp : Nat) (fmt : Bool) : State :=
  let d := (s.chan k ch).desc
  let a := s.chCur k ch + 24
  let r := s.rangeResp (moverInit k) a 4 true
  if r ≠ rDone then (s.rangeMiss a).chHalt k ch (s.chCur k ch) true r true false
  else
    let w := dFlags d / 2 ^ 14 * 2 ^ 14 + dFlags d % 2 ^ 8 + 2 ^ 8 + resp * 2 ^ 9 + (if write then 2 ^ 12 else 0) +
      (if fmt then 2 ^ 13 else 0)
    let s1 := (s.engWrite (moverInit k) a (toBytes 4 w) (dNs d)).flagRep (F.MOVER_CH_STAT_BAD_SEEN k ch)
      (F.MOVER_CH_STAT_BAD_REP k ch)
    (s1.count (moverEvent k 3) 1).chEnd k ch (if fmt then 1 else 5) resp write

/-- A descriptor has failed: the channel acts by its policy (R257). -/
def State.chFail (s : State) (k ch a : Nat) (write : Bool) (resp : Nat) (fmt : Bool) : State :=
  if s.on (F.MOVER_CH_CFG_POLICY k ch) then s.chHalt k ch a write resp false fmt else s.chMark k ch write resp fmt

/-! ## Transfer (R249) -/

/-- Bytes of a range that lie before the first 64-byte granule that a test refuses. -/
def prefixLen (a n : Nat) (bad : Nat → Bool) : Nat :=
  match (List.range ((granules a n).2 / 64)).find? (fun i => bad ((granules a n).1 + 64 * i)) with
  | none => n
  | some i => (granules a n).1 + 64 * i - a

/-- The answer to a read of one granule (R285). -/
def State.granResp (s : State) (init g : Nat) : Nat :=
  if s.accessResp init g false ≠ rDone then s.accessResp init g false
  else if !isHostAddr g && !(s.badIn g 64).isEmpty then rPoison
  else rDone

/-- The bytes of the present descriptor move: read in ascending granules, written in ascending order, up to the first
failure (R249, R257). -/
def State.chTransfer (s : State) (k ch : Nat) : State :=
  let d := (s.chan k ch).desc
  let n := dLen d
  let init := moverInit k
  let u := s.snooped (dSrc d) n false
  let rn := prefixLen (dSrc d) n (fun g => u.granResp init g ≠ rDone)
  let wn := prefixLen (dDst d) n (fun g => s.accessResp init g true ≠ rDone)
  let readFails := decide (rn < n) && decide (rn ≤ wn)
  let writeFails := decide (wn < n) && !readFails
  let done := if readFails then Config.moverProgress s.freeCtr % (rn + 1) else if writeFails then wn else n
  let got := if readFails then rn + 1 else if writeFails then wn + 1 else n
  let s1 := s.engReadEffect init (dSrc d) got (dNs d)
  let s2 := s1.engWrite init (dDst d) (s.engBytesNs (dNs d) (dSrc d) done) (dNs d)
  let s3 := (s2.count (moverEvent k 1) ((granules (dSrc d) got).2 / 64)).count (moverEvent k 2) ((granules (dDst d) done).2 / 64)
  let s4 := ({ s3 with freeCtr := s3.freeCtr + 1 }).put (F.MOVER_CH_REMAIN_REMAIN k ch) (n - done)
  let phase : ChPhase :=
    if readFails then .failed false (u.granResp init ((dSrc d + rn) / 64 * 64)) (max (dSrc d) ((dSrc d + rn) / 64 * 64))
    else if writeFails then .failed true (s.accessResp init ((dDst d + wn) / 64 * 64) true) (dDst d + wn)
    else .moved
  s4.setChan k ch { s4.chan k ch with phase := phase }

/-- Step 7 of R252. -/
def State.chBegin (s : State) (k ch : Nat) : State := (s.setChState k ch chRun).chTransfer k ch

/-! ## Steps 3 to 6 of R252 -/

/-- The EWAIT step: an eMark held is consumed, or the channel waits (R255). -/
def State.chEmarkStep (s : State) (k ch : Nat) : State :=
  let c := s.chan k ch
  if !dEwait c.desc then s.chBegin k ch
  else if s.get (F.MOVER_CH_STAT_EMARKS k ch) = 0 then (s.setChan k ch { c with phase := .held }).setChState k ch chEwait
  else
    (((s.put (F.MOVER_CH_STAT_EMARKS k ch) (s.get (F.MOVER_CH_STAT_EMARKS k ch) - 1)).setReg (R.MOVER_CH_EMARK_AT k ch)
      (c.stamps.headD 0)).setChan k ch { c with stamps := c.stamps.tail }).chBegin k ch

/-- The pacing state after its test (R253). -/
def paceNext (pace : Nat) (q : QState) (run : Bool) : Bool :=
  let f := q.fill
  if pace = 1 then (if run then !decide (f ≤ q.scale q.stop) else decide (q.scale q.start ≤ f))
  else (if run then !decide (q.scale q.stop ≤ f) else decide (f ≤ q.scale q.start))

/-- The pacing step: the channel goes on, or waits in PAUSED (R253). -/
def State.chPaceStep (s : State) (k ch : Nat) : State :=
  let c := s.chan k ch
  let pace := s.get (F.MOVER_CH_CFG_PACE k ch)
  let q := s.q (s.get (F.MOVER_CH_PACEQ_QID k ch))
  if pace = 0 || pace = 3 then s.chEmarkStep k ch
  else if !q.open_ then (s.setChan k ch { c with phase := .held }).setChState k ch chPaused
  else
    let s1 := s.setChan k ch { c with pace := paceNext pace q c.pace, phase := .held }
    if paceNext pace q c.pace then s1.chEmarkStep k ch else s1.setChState k ch chPaused

/-- Whether a fetched descriptor fails format (R248): also one whose NEXT lies in the host's space where no range is programmed,
which R78 reserves. -/
def State.descFails (s : State) (d : List Byte) : Bool :=
  descBad d || (!dLast d && isHostAddr (dNext d) && (s.hpa? (dNext d)).isNone)

/-- A fetched descriptor: token, format, pacing, eMark, transfer (R252, R256). -/
def State.chJudge (s : State) (k ch : Nat) : State :=
  let d := (s.chan k ch).desc
  if dTokV d && decide (s.mirror (8 + k) (dTok d) = .squashed) then s.chEnd k ch 6 0 false
  else if s.descFails d then s.chFail k ch (s.chCur k ch) false 0 true
  else s.chPaceStep k ch

/-- DESCRIPTOR_FETCHED: a stopping channel enters IDLE; a failed fetch halts (R251, R252). -/
def State.chFetched (s : State) (k ch : Nat) : State :=
  if (s.chan k ch).phase ≠ .fetch then s
  else if s.chState k ch = chStopping then s.chStop k ch
  else
    let a := s.chCur k ch
    let r := s.readResp (moverInit k) a 32
    let s1 := s.engReadEffect (moverInit k) a 32 false
    if r ≠ rDone then s1.chHalt k ch a false r true false
    else (s1.setChan k ch { s1.chan k ch with phase := .held, desc := s.engBytes a 32 }).chJudge k ch

/-! ## The end of a descriptor (R250, R254) -/

/-- A channel's DRAIN push is performed when its queue takes it; the descriptor then ends ACCEPTED (R254). -/
def State.chDrain (s : State) (k ch : Nat) : State :=
  let c := s.chan k ch
  let i := s.get (F.MOVER_CH_PACEQ_QID k ch)
  if c.squash then s.chEnd k ch 6 0 false
  else if s.pushOk i then
    (s.hwPush i (c.desc.drop 32) (dTag c.desc) (if dTokV c.desc then some (BitVec.ofNat 15 (dTok c.desc)) else none) none).chEnd
      k ch 0 0 false
  else s.setChan k ch { c with phase := .push }

/-- The last write of a descriptor is answered (R250, R254, R256). -/
def State.chDone (s : State) (k ch : Nat) : State :=
  let c := s.chan k ch
  let i := s.get (F.MOVER_CH_PACEQ_QID k ch)
  let pace := s.get (F.MOVER_CH_CFG_PACE k ch)
  if c.phase ≠ .moved then s
  else if c.squash then s.chEnd k ch 6 0 false
  else if !dQadv c.desc || pace = 0 || pace = 3 then s.chEnd k ch 0 0 false
  else if pace = 1 then (s.hwConsume i).chEnd k ch 0 0 false
  else
    let r := s.readResp (moverInit k) (dDst c.desc) (s.q i).size
    let s1 := s.engReadEffect (moverInit k) (dDst c.desc) (s.q i).size (dNs c.desc)
    if r ≠ rDone then s1.chFail k ch (dDst c.desc) false r false
    else (s1.setChan k ch { c with desc := c.desc ++ s.engBytesNs (dNs c.desc) (dDst c.desc) (s.q i).size }).chDrain k ch

/-! ## Commands of a channel (R251, R257, R258) -/

/-- A command that the channel's state does not list (R251). -/
def State.chRefuse (s : State) (k ch : Nat) : State := s.flag (F.MOVER_CH_STAT_CMD_REFUSED k ch)

/-- START. -/
def State.chStart (s : State) (k ch : Nat) : State :=
  if s.chState k ch ≠ chIdle then s.chRefuse k ch
  else
    let a := s.get (F.MOVER_CH_HEAD_HI_HEAD_HI k ch) * 2 ^ 32 + s.get (F.MOVER_CH_HEAD_LO_HEAD k ch) / 32 * 32
    ((s.moverWork k).setChan k ch { s.chan k ch with pace := false }).chFetch k ch a

/-- STOP. -/
def State.chStopCmd (s : State) (k ch : Nat) : State :=
  let st := s.chState k ch
  if st = chRun then
    (if (s.chan k ch).phase = .push then
      (s.setChState k ch chStopping).chEnd k ch (if (s.chan k ch).squash then 6 else 0) 0 false
     else s.setChState k ch chStopping)
  else if st = chPaused || st = chEwait || st = chHalted then s.chStop k ch
  else s.chRefuse k ch

/-- RETRY. -/
def State.chRetry (s : State) (k ch : Nat) : State :=
  if s.chState k ch ≠ chHalted then s.chRefuse k ch
  else if s.on (F.MOVER_CH_ERR_HI_FETCH k ch) || s.on (F.MOVER_CH_ERR_HI_FMT k ch) then s.chFetch k ch (s.chCur k ch)
  else s.chBegin k ch

/-- SKIP. -/
def State.chSkip (s : State) (k ch : Nat) : State :=
  if s.chState k ch ≠ chHalted || s.on (F.MOVER_CH_ERR_HI_FETCH k ch) then s.chRefuse k ch
  else (s.setChState k ch chRun).chMark k ch (s.on (F.MOVER_CH_ERR_HI_DIR k ch)) (s.get (F.MOVER_CH_ERR_HI_RESP k ch))
    (s.on (F.MOVER_CH_ERR_HI_FMT k ch))

/-- SHADOW_ARM. -/
def State.chArm (s : State) (k ch : Nat) : State := s.put (F.MOVER_CH_STAT_SHADOW_VALID k ch) 1

/-- A write of a shadow register (R258). -/
def State.chShadow (s : State) (k ch : Nat) (hi : Bool) (v : Word) : State :=
  (if hi then s.put (F.MOVER_CH_SHADOW_HI_SHADOW_HI k ch) (v.toNat % 256)
   else s.put (F.MOVER_CH_SHADOW_LO_SHADOW k ch) (v.toNat / 32 * 32)).put (F.MOVER_CH_STAT_SHADOW_VALID k ch) 0

/-- A write of MOVER_CH_CMD: one bit performs its command, more than one nothing (R251). -/
def State.chCmd (s : State) (k ch : Nat) (v : Word) : State :=
  match v.toNat % 32 with
  | 1 => s.chStart k ch
  | 2 => s.chStopCmd k ch
  | 4 => s.chRetry k ch
  | 8 => s.chSkip k ch
  | 16 => s.chArm k ch
  | _ => s

/-- Channels of a complex. -/
def chansOf (k : Nat) : Nat := if k = 8 then 128 else 64

/-- An eMark reaches complex `k` (R255). -/
def State.emark (s : State) (k ch : Nat) (stamp : Word) : State :=
  let s0 := (s.moverWork k).count (moverEvent k 6) 1
  if chansOf k ≤ ch then s.flagRep (F.MOVER_STAT_EMARK_DROP k) (F.MOVER_STAT_EMARK_DROP_REP k)
  else if s.get (F.MOVER_CH_STAT_EMARKS k ch) = 255 then s0.flag (F.MOVER_CH_STAT_EMARK_OVF k ch)
  else
    let c := s.chan k ch
    let s1 := (s0.put (F.MOVER_CH_STAT_EMARKS k ch) (s.get (F.MOVER_CH_STAT_EMARKS k ch) + 1)).setChan k ch
      { c with stamps := c.stamps ++ [stamp] }
    if s.chState k ch = chEwait then s1.chEmarkStep k ch else s1

/-- A squash notice of a token at complex `k`: held descriptors of the token end at once, moving ones at their boundary
(R227, R256). -/
def State.moverSquash (s : State) (k tok : Nat) : State :=
  (List.range 128).foldl (fun t ch =>
    let c := t.chan k ch
    if dTokV c.desc && decide (dTok c.desc = tok) then
      (if c.phase = .held then t.chEnd k ch 6 0 false else t.setChan k ch { c with squash := true })
    else t) (s.setMirror (8 + k) tok .squashed)

/-- The channels of a complex return to reset; their descriptors send no completion (R70, R257). -/
def State.moverReset (s : State) (k : Nat) : State :=
  ((List.range 128).foldl (fun t ch => t.setChan k ch Chan.reset)
    (s.resetRange (R.MOVER_CH_CFG k 0) (R.MOVER_CH_CFG k 0 + 0x2000))).moverAcks k

/-! ## Commands -/

/-- Where a channel exists. -/
def onChan (k ch : Nat) (s : State) : Host.Outcome State Fault Refusal :=
  if chanOk k ch then .next s else .fault .noSuchUnit

/-- START (R251). -/
def execStart (k : BitVec 4) (ch : BitVec 7) (s : State) : Host.Outcome State Fault Refusal :=
  onChan k.toNat ch.toNat (s.chStart k.toNat ch.toNat)

/-- STOP (R251). -/
def execStop (k : BitVec 4) (ch : BitVec 7) (s : State) : Host.Outcome State Fault Refusal :=
  onChan k.toNat ch.toNat (s.chStopCmd k.toNat ch.toNat)

/-- RETRY (R257). -/
def execRetry (k : BitVec 4) (ch : BitVec 7) (s : State) : Host.Outcome State Fault Refusal :=
  onChan k.toNat ch.toNat (s.chRetry k.toNat ch.toNat)

/-- SKIP (R257). -/
def execSkip (k : BitVec 4) (ch : BitVec 7) (s : State) : Host.Outcome State Fault Refusal :=
  onChan k.toNat ch.toNat (s.chSkip k.toNat ch.toNat)

/-- SHADOW_ARM (R258). -/
def execShadowArm (k : BitVec 4) (ch : BitVec 7) (s : State) : Host.Outcome State Fault Refusal :=
  onChan k.toNat ch.toNat (s.chArm k.toNat ch.toNat)

/-- SHADOW_WRITE (R258). -/
def execShadowWrite (k : BitVec 4) (ch : BitVec 7) (hi : Bool) (v : BitVec 32) (s : State) :
    Host.Outcome State Fault Refusal :=
  onChan k.toNat ch.toNat (s.chShadow k.toNat ch.toNat hi v)

/-- DESCRIPTOR_FETCHED (R252). -/
def execDescriptorFetched (k : BitVec 4) (ch : BitVec 7) (s : State) : Host.Outcome State Fault Refusal :=
  onChan k.toNat ch.toNat (s.chFetched k.toNat ch.toNat)

/-- PACING_TEST (R253). -/
def execPacingTest (k : BitVec 4) (ch : BitVec 7) (s : State) : Host.Outcome State Fault Refusal :=
  onChan k.toNat ch.toNat (if s.chState k.toNat ch.toNat = chPaused then s.chPaceStep k.toNat ch.toNat else s)

/-- DESCRIPTOR_END (R250, R254). -/
def execDescriptorEnd (k : BitVec 4) (ch : BitVec 7) (s : State) : Host.Outcome State Fault Refusal :=
  onChan k.toNat ch.toNat (s.chDone k.toNat ch.toNat)

/-- DRAIN_PUSH (R254). -/
def execDrainPush (k : BitVec 4) (ch : BitVec 7) (s : State) : Host.Outcome State Fault Refusal :=
  onChan k.toNat ch.toNat (if (s.chan k.toNat ch.toNat).phase = .push then s.chDrain k.toNat ch.toNat else s)

/-- TRANSFER_FAILURE (R257). -/
def execTransferFailure (k : BitVec 4) (ch : BitVec 7) (s : State) : Host.Outcome State Fault Refusal :=
  onChan k.toNat ch.toNat (match (s.chan k.toNat ch.toNat).phase with
    | .failed w r a => s.chFail k.toNat ch.toNat a w r false
    | _ => s)

end Sys2Proof.Machine
end

