-- ==== Sys2Proof/Machine/Mill.lean ====
section
/-!
DEFINITION. The mills (07_decoder_mill.md, R161 to R182): holding slots, start order, abort points, result headers,
completions, discards and fenced engines.
-/

namespace Sys2Proof.Machine

/-! ## State of a mill -/

/-- A mill. -/
def State.mill (s : State) (n : Nat) : MillSt := mapGet s.mills MillSt.reset n

/-- Initiator number of a mill (R83). -/
def millInit (n : Nat) : Nat := 0x110 + n

/-- Counter of a mill event (R443). -/
def millEvent (n o : Nat) : Nat := 392 + 24 * n + o

/-- The word whose bits are the numbers of a list that lie in 32 from `lo` on. -/
def bitWord (l : List Nat) (lo : Nat) : Word :=
  l.foldl (fun w e => if lo ≤ e ∧ e < lo + 32 then w ||| BitVec.ofNat 32 (2 ^ (e - lo)) else w) 0

/-- A mill is replaced, and its status registers show it. -/
def State.setMill (s : State) (n : Nat) (x : MillSt) : State :=
  let s1 := { s with mills := mapSet s.mills MillSt.reset n x }
  let s2 := (s1.setReg (R.MILL_ENG_BUSY0 n) (bitWord (x.run.map (·.1)) 0)).setReg (R.MILL_ENG_BUSY1 n)
    (bitWord (x.run.map (·.1)) 32)
  let s3 := s2.put (F.MILL_STAT_IDLE n) (if x.run.isEmpty && x.held.isEmpty then 1 else 0)
  (List.range 16).foldl (fun s j => s.put (F.MILL_JQ_STAT_HELD n j) (if (mapFind? x.held j).isSome then 1 else 0)) s3

/-- A new job of a descriptor, taken from queue `q` as the mill's job number `k`. -/
def MillJob.ofDesc (d : List Byte) (q k : Nat) : MillJob := ⟨d, q, k, false, [], [], 0, 0, 0, 0, false, none⟩

/-! ## Engines (R158) -/

/-- The first engine number of a class, and how many there are. -/
def classEngines (c : Nat) : Nat × Nat :=
  match c with
  | 0 => (0, 8)
  | 1 => (8, 2)
  | 2 => (10, 2)
  | 3 => (12, 2)
  | 4 => (14, 4)
  | 5 => (32, 16)
  | _ => (18, 4)

/-- Whether an engine may take jobs: enabled and not fenced. -/
def State.engineUp (s : State) (n e : Nat) : Bool :=
  if e < 32 then (s.reg (R.MILL_ENG_EN0 n)).getLsbD e && !(s.reg (R.MILL_ENG_FENCED0 n)).getLsbD e
  else (s.reg (R.MILL_ENG_EN1 n)).getLsbD (e - 32) && !(s.reg (R.MILL_ENG_FENCED1 n)).getLsbD (e - 32)

/-- The engines of a class. -/
def enginesOf (c : Nat) : List Nat := (List.range (classEngines c).2).map ((classEngines c).1 + ·)

/-- The lowest engine that a class has free. -/
def State.freeEngine (s : State) (n c : Nat) : Option Nat :=
  (enginesOf c).find? (fun e => s.engineUp n e && (mapFind? (s.mill n).run e).isNone)

/-- Whether a class has an enabled engine that is not fenced. -/
def State.hasEngine (s : State) (n c : Nat) : Bool := (enginesOf c).any (s.engineUp n)

/-- Index of an engine in its class. -/
def engineIndex (d : List Byte) (e : Nat) : Nat := e - (classEngines (jClass d)).1

/-! ## Formats (R165, R166) -/

/-- Whether a range lies in the druse memory or stratum buffers of die `n` (R165). -/
def onDie (n a len : Nat) : Bool :=
  (match tgtOf a with
   | .druse d _ => d / 8 = n
   | .strat t _ => t / 2 = n
   | _ => false) && inOneWindow a (max 1 len)

/-- The reason that makes a job BAD_FORMAT, if there is one: the first in R166's order (R166, MILL_BAD_INFO). `tok` is the
token field of its queue entry. DESIGN CHOICE (log entry 92): where both TOK_V are 0, a TOKEN of the descriptor that is not 0
disagrees with nothing. -/
def jobReason (n : Nat) (d : List Byte) (tok : Option Nat) : Nat :=
  if !jobKnown d then 1
  else if !jobRanges d then 2
  else if jobReserved d then 3
  else if jRes d % 64 ≠ 0 || jIn d % 64 ≠ 0 || jAux d % 64 ≠ 0 then 4
  else if !onDie n (jRes d) (32 + jobOutLen d) || !onDie n (jIn d) (jobInLen d) || (jobAux d && !onDie n (jAux d) (jobAuxLen d)) then 5
  else if rangesMeet (jIn d) (jobInLen d) (jRes d) (32 + jobOutLen d) ||
    (jobAux d && rangesMeet (jAux d) (jobAuxLen d) (jRes d) (32 + jobOutLen d)) then 6
  else if (jCpl d && jStrata d = 0) || (jDlAbort d && !jDlV d) then 9
  else if tok ≠ (if jTokV d then some (jTok d) else none) then 8
  else 0

/-! ## Completions and headers (R174 to R176) -/

/-- The counter of a job's end. -/
def endCount (status : Nat) : Nat :=
  match status with
  | 0 => 7
  | 1 => 8
  | 5 => 9
  | 6 => 10
  | _ => 11

/-- A job's end: it is counted, and its completion is sent (R176); a mill on an isolated die sends nothing (R182). -/
def State.jobEnd (s : State) (n e : Nat) (d : List Byte) (status : Nat) : State :=
  let s1 := s.count (millEvent n (endCount status)) 1
  if jCpl d && !s.dieIso n then
    s1.sendEvent (millInit n) (jStrata d) (jEvent d)
      (status + jClass d * 2 ^ 8 + engineIndex d e % 16 * 2 ^ 12 + jTag d * 2 ^ 16)
      (if jTokV d then some (BitVec.ofNat 15 (jTok d)) else none)
  else s1

/-- The 32 bytes of a result header. -/
def headerBytes (d : List Byte) (e status : Nat) (r : MillRes) : List Byte :=
  let b (x : Bool) (k : Nat) : Nat := if x then 2 ^ k else 0
  toBytes 4 (status + r.fresp * 2 ^ 8 + engineIndex d e % 16 * 2 ^ 12 + jTag d * 2 ^ 16) ++
  toBytes 4 (r.iter % 32 + b r.pcOk 5 + b r.crcOk 6 + b r.crcV 7 + b r.et 8 + min 65535 r.unsat * 2 ^ 16) ++
  toBytes 4 r.tStart.toNat ++ toBytes 4 r.tEnd.toNat ++ toBytes 4 r.outLen ++ toBytes 4 r.metric ++ toBytes 8 0

/-- A result with only a status; its stamps are given. -/
def bareRes (status fresp outLen : Nat) (t0 t1 : Word) : MillRes :=
  ⟨status, fresp, 0, false, false, false, false, 0, outLen, 0, t0, t1⟩

/-- Acknowledgements of squashes are sent for the tokens that no job carries any more (R227). -/
def State.millAcks (s : State) (n : Nat) : State :=
  s.flushOwed (fun o => decide (o.recv = 17 + n) &&
    !(s.mill n).run.any (fun j => jTokV j.2.desc && decide (jTok j.2.desc = o.notice.token.toNat)))

/-- A running job leaves its engine. -/
def State.freeJob (s : State) (n e : Nat) : State :=
  (s.setMill n { s.mill n with run := mapErase (s.mill n).run e }).millAcks n

/-- A running job ends without a header (R178). -/
def State.jobDrop (s : State) (n e : Nat) (j : MillJob) (status : Nat) : State :=
  (s.jobEnd n e j.desc status).freeJob n e

/-- A job of queue `q` is BAD_FORMAT: the mill's record of it (R166). -/
def State.badJob (s : State) (n q : Nat) (d : List Byte) (reason : Nat) : State :=
  let s1 := s.flagRep (F.MILL_STAT_BAD_JOB n) (F.MILL_STAT_BAD_JOB_REP n)
  ((s1.put (F.MILL_BAD_INFO_QID n) q).put (F.MILL_BAD_INFO_REASON n) reason).put (F.MILL_BAD_TAG_TAG n) (jTag d)

/-- A job that has not run ends with a header and no results: a header write that fails makes its completion FLUSHED (R166,
R178, R181). -/
def State.jobBare (s : State) (n : Nat) (d : List Byte) (status : Nat) : State :=
  let e := (classEngines (jClass d)).1
  let hdr := headerBytes d e status (bareRes status 0 0 (Config.millStamp s.freeCtr) (Config.millStamp (s.freeCtr + 1)))
  let resp := s.rangeResp (millInit n) (jRes d) 32 true
  { ((s.engWrite (millInit n) (jRes d) hdr false).jobEnd n e d (if resp = rDone then status else 5)) with
    freeCtr := s.freeCtr + 2 }

/-! ## Holding slots (R161 to R163, R166) -/

/-- A held job that no engine can take waits and sets STALL once (R162). -/
def State.millStall (s : State) (n slot : Nat) : State :=
  match mapFind? (s.mill n).held slot with
  | none => s
  | some j =>
    if j.stalled || s.hasEngine n (jClass j.desc) then s
    else ((s.setMill n { s.mill n with held := mapIns (s.mill n).held slot { j with stalled := true } }).flagRep
      (F.MILL_JQ_STAT_STALL n slot) (F.MILL_JQ_STAT_STALL_REP n slot)).count (millEvent n 20) 1

/-- Every held job is judged so: after what may take a class's last engine away. -/
def State.millStalls (s : State) (n : Nat) : State := (List.range 16).foldl (fun s j => s.millStall n j) s

/-- Whether a job's token is SQUASHED in the mill's mirror. -/
def State.jobSquashed (s : State) (n : Nat) (d : List Byte) : Bool :=
  jTokV d && decide (s.mirror (17 + n) (jTok d) = .squashed)

/-- Whether a job aborts because its deadline has passed (R178). -/
def State.jobLate (s : State) (d : List Byte) : Bool := jDlAbort d && stampEarlier (jDeadline d) s.now

/-- A held job meets the outcomes of R178 at any cycle: here those that no notice brings at once, SQUASHED for a token that
was squashed before the job was taken, and TOO_LATE with its header. -/
def State.heldEnd (s : State) (n slot : Nat) : State :=
  match mapFind? (s.mill n).held slot with
  | none => s
  | some j =>
    let gone := s.setMill n { s.mill n with held := mapErase (s.mill n).held slot }
    if s.jobSquashed n j.desc then gone.jobEnd n (classEngines (jClass j.desc)).1 j.desc 6
    else if s.jobLate j.desc then gone.jobBare n j.desc 8
    else s

/-- The held jobs of a mill at a cycle of its clock (R178). -/
def State.heldCycle (s : State) (n : Nat) : State := (List.range 16).foldl (fun s j => s.heldEnd n j) s

/-- The held jobs of every mill. -/
def State.heldCycles (s : State) : State := (List.range 4).foldl State.heldCycle s

/-- A job that a mill takes is checked: BAD_FORMAT ends it with its header and completion; a fenced mill ends it FLUSHED;
else it is held (R166, R182). -/
def State.millTake (s : State) (n slot : Nat) (d : List Byte) (tok : Option Nat) : State :=
  let q := s.get (F.MILL_JQ_CFG_QID n slot)
  if s.on (F.MILL_STAT_FENCED n) then s.jobEnd n 0 d 5
  else if jobReason n d tok ≠ 0 then
    let s1 := s.badJob n q d (jobReason n d tok)
    if jRes d % 64 = 0 && onDie n (jRes d) 32 && decide (fieldAt d 21 3 = 0) then s1.jobBare n d 1
    else s1.jobEnd n (classEngines (jClass d)).1 d 1
  else
    ((s.setMill n { s.mill n with
      held := mapIns (s.mill n).held slot (MillJob.ofDesc d q (s.mill n).took)
      took := (s.mill n).took + 1 }).heldEnd n slot).millStall n slot

/-- A slot takes the head entry of its queue into its empty holding slot (R162, R240); a mill on an isolated die takes none. -/
def State.millConsume (s0 : State) (n slot : Nat) : State :=
  let s := s0.heldCycle n
  let q := s.get (F.MILL_JQ_CFG_QID n slot)
  if !(s.on (F.MILL_CTRL_EN n) && s.on (F.MILL_JQ_CFG_EN n slot)) || (mapFind? (s.mill n).held slot).isSome || s.dieIso n then s
  else if (s.q q).esize ≠ 2 then s.flag (F.MILL_JQ_STAT_BAD_Q n slot)
  else
    match s.hwHead q with
    | none => s.hwConsume q
    | some (a, m) =>
      ((s.headEffect (millInit n) q 64).hwConsume q).millTake n slot (s.engBytesNs (s.q q).ns a 64)
        (if metaTokV m then some (metaTok m) else none)

/-! ## Start (R162, R179, R181) -/

/-- Whether a held job is the first of its queue's that the mill holds: the jobs of one queue start in entry order (R162). -/
def MillSt.first (x : MillSt) (j : MillJob) : Bool := !x.held.any (fun e => decide (e.2.qid = j.qid) && decide (e.2.seq < j.seq))

/-- The slot whose held job starts next: lowest PRIO, then round-robin after the last (R162). -/
def State.nextSlot (s : State) (n : Nat) : Option Nat :=
  let x := s.mill n
  ((List.range 16).map (fun i => (x.last + 1 + i) % 16)).foldl (fun b j =>
    match mapFind? x.held j with
    | none => b
    | some job =>
      if !x.first job || (s.freeEngine n (jClass job.desc)).isNone then b
      else match b with
        | none => some j
        | some k => if s.get (F.MILL_JQ_CFG_PRIO n j) < s.get (F.MILL_JQ_CFG_PRIO n k) then some j else some k) none

/-- A running job is replaced. -/
def State.setRun (s : State) (n e : Nat) (j : MillJob) : State :=
  s.setMill n { s.mill n with run := mapIns (s.mill n).run e j }

/-- A read of a job's input failed: FLUSHED, with its header and a record (R181). -/
def State.millReadErr (s : State) (n e : Nat) (j : MillJob) (resp a : Nat) : State :=
  (s.setRun n e { j with res := some (bareRes 5 resp 0 j.tStart (Config.millStamp s.freeCtr)) }).report
    { mkReport 2 (64 * n + e) 0x18 0 with
      init := millInit n
      sub := resp
      addr := a }

/-- A job starts on an engine: TOO_LATE if its deadline has passed, else it reads its input (R179, R181). -/
def State.millRun (s : State) (n slot e : Nat) (held : MillJob) : State :=
  let d := held.desc
  let x := s.mill n
  let s1 := (s.setMill n { x with held := mapErase x.held slot, last := slot }).put (F.MILL_JQ_STAT_STARTED n slot)
    (s.get (F.MILL_JQ_STAT_STARTED n slot) + 1)
  let s2 := { (s1.count (millEvent n (jClass d)) 1) with freeCtr := s1.freeCtr + 1 }
  let j := { held with
    tStart := s.now
    inp := s.engBytes (jIn d) (jobInLen d)
    aux := s.engBytes (jAux d) (jobAuxLen d) }
  if jDlV d && stampEarlier (jDeadline d) s.now then
    s2.setRun n e { j with res := some (bareRes 8 0 0 s.now (Config.millStamp s.freeCtr)) }
  else
    let r := s.readResp (millInit n) (jIn d) (jobInLen d)
    let ra := if jobAux d then s.readResp (millInit n) (jAux d) (jobAuxLen d) else rDone
    let s3 := s2.engReadEffect (millInit n) (jIn d) (jobInLen d) false
    let s4 := if jobAux d then s3.engReadEffect (millInit n) (jAux d) (jobAuxLen d) false else s3
    let s5 := s4.count (millEvent n 21) ((granules (jIn d) (jobInLen d)).2 / 64 + (granules (jAux d) (jobAuxLen d)).2 / 64)
    if r ≠ rDone then s5.millReadErr n e j r (jIn d)
    else if ra ≠ rDone then s5.millReadErr n e j ra (jAux d)
    else if jClass d = 2 && mapBad d j.aux then
      (s5.badJob n held.qid d 7).setRun n e { j with res := some (bareRes 1 0 0 s.now (Config.millStamp s.freeCtr)) }
    else s5.setRun n e j

/-- JOB_START (R162): the held job that R162 chooses starts on the lowest free engine of its class. -/
def State.millStart (s : State) (n : Nat) : State :=
  let s0 := (s.heldCycle n).millStalls n
  match s0.nextSlot n with
  | none => s0
  | some slot =>
    match mapFind? (s0.mill n).held slot with
    | none => s0
    | some j =>
      match s0.freeEngine n (jClass j.desc) with
      | none => s0
      | some e => s0.millRun n slot e j

/-! ## Abort points (R177, R178) -/

/-- What the header of a job says of the work done when `k` abort points of it have passed (R174). -/
def jobRes (j : MillJob) (status fresp k outLen sat : Nat) (tEnd : Word) : MillRes :=
  let d := j.desc
  let l := ldpcOf d
  let base := bareRes status fresp outLen j.tStart tEnd
  match jClass d with
  | 0 =>
    let x := l.after j.inp k
    { base with
      iter := k
      pcOk := l.unsat x = 0
      crcOk := l.crcOk x
      crcV := l.crc ≠ 0
      et := l.stops x && decide (k < l.maxit)
      unsat := l.unsat x }
  | 2 =>
    if jFunc d = 0 && decide (k = jobPoints d j.inp) then
      let p := polarBest d j.inp j.aux
      { base with
        crcOk := p.pass (bitsOf (jW d 0) 18 17) (setMap (2 ^ (jW d 0 % 16)) j.aux)
        crcV := bitsOf (jW d 0) 18 17 ≠ 0
        metric := p.metric }
    else base
  | 3 =>
    let t := turboOf d
    { base with
      iter := k / 2
      crcOk := t.pass j.inp k
      crcV := t.crc ≠ 0
      et := t.et && decide (k < 2 * t.maxit) && t.pass j.inp k
      metric := k }
  | 4 =>
    if jFunc d = 0 && decide (0 < k) then
      let w := 640 * (1 + bitsOf (jW d 0) 3 3)
      { base with metric := (Config.gsmInfo (jW d 0) (slice j.inp ((k - 1) * w) w)).toNat }
    else base
  | 5 => { base with metric := min (2 ^ 32 - 1) sat }
  | 6 => { base with metric := min (2 ^ 32 - 1) sat }
  | _ => base

/-- The counters of one abort point passed (R443). -/
def State.millCount (s : State) (n : Nat) (d : List Byte) (sat : Nat) : State :=
  (match jClass d with
   | 0 => s.count (millEvent n 12) 1
   | 3 => s.count (millEvent n 13) 1
   | 5 => s.count (millEvent n 16) 1
   | 6 => s.count (millEvent n 17) 1
   | _ => s).count (millEvent n 18) sat

/-- A job passes an abort point: a class that writes block by block writes its block, the final point the remaining output
(R177); a failing write stops the job (R181). -/
def State.millPass (s : State) (n e : Nat) (j : MillJob) (final : Bool) : State :=
  let d := j.desc
  let writes := (jobBlocks d).isSome || final
  let o := if writes then jobOut d j.inp j.aux s.freeCtr j.points else ([], 0)
  let a := jRes d + 32 + jobOff d j.points
  let resp := s.rangeResp (millInit n) a o.1.length true
  let len := min o.1.length (prefixLen a o.1.length (fun g => s.accessResp (millInit n) g true ≠ rDone))
  let s1 := { (s.engWrite (millInit n) a (o.1.take len) false) with freeCtr := s.freeCtr + 1 }
  let s2 := s1.millCount n d o.2
  let j1 := { j with
    points := j.points + 1
    wrote := j.wrote + len
    sat := j.sat + o.2 }
  if resp ≠ rDone then
    s2.setRun n e { j1 with res := some (jobRes j1 5 resp j1.points j1.wrote j1.sat s.now) }
  else if final then
    let r := jobRes j1 0 0 j1.points j1.wrote j1.sat s.now
    (if r.et then s2.count (millEvent n 14) 1 else s2).setRun n e { j1 with res := some r }
  else s2.setRun n e j1

/-- ABORT_POINT (R178): the first outcome that applies ends the job, else it runs on. -/
def State.millAbort (s : State) (n e : Nat) (final : Bool) : State :=
  match mapFind? (s.mill n).run e with
  | none => s
  | some j =>
    if j.res.isSome || final ≠ decide (j.points + 1 = jobPoints j.desc j.inp) then s
    else
      let cut := s.count (millEvent n 15) 1
      if j.flush then cut.jobDrop n e j 5
      else if s.jobSquashed n j.desc then cut.jobDrop n e j 6
      else if s.jobLate j.desc then
        let k := if jClass j.desc = 0 || jClass j.desc = 3 then j.points + 1 else j.points
        { cut.setRun n e { j with res := some (jobRes j 8 0 k j.wrote j.sat (Config.millStamp s.freeCtr)) } with
          freeCtr := s.freeCtr + 1 }
      else s.millPass n e j final

/-- HEADER_WRITTEN (R175, R178, R181): the header is written and its answer lets the completion go. -/
def State.millHeader (s : State) (n e : Nat) : State :=
  match mapFind? (s.mill n).run e with
  | none => s
  | some j =>
    match j.res with
    | none => s
    | some r =>
      let status := if r.status = 0 && s.jobSquashed n j.desc then 6 else r.status
      let resp := s.rangeResp (millInit n) (jRes j.desc) 32 true
      let s1 := s.engWrite (millInit n) (jRes j.desc) (headerBytes j.desc e status r) false
      (s1.jobEnd n e j.desc (if resp = rDone then status else 5)).freeJob n e

/-! ## Discards, squashes, faults (R178, R182) -/

/-- A discard: the held jobs that a test names end FLUSHED at once, the running ones at their next abort point (R178). -/
def State.millDiscard (s : State) (n : Nat) (p : Nat → Bool) : State :=
  let x := s.mill n
  let dead := x.held.filter (fun (e : Nat × MillJob) => p (jDruse e.2.desc))
  let s1 := s.setMill n { x with
    held := x.held.filter (fun (e : Nat × MillJob) => !p (jDruse e.2.desc))
    run := x.run.map (fun (e : Nat × MillJob) =>
      if p (jDruse e.2.desc) && e.2.res.isNone then (e.1, { e.2 with flush := true }) else e) }
  dead.foldl (fun s e => s.jobEnd n (classEngines (jClass e.2.desc)).1 e.2.desc 5) s1

/-- A discard reaches every mill: SRC_DRUSE may name a druse of any die (R164, R178). -/
def State.millsDiscard (s : State) (p : Nat → Bool) : State := (List.range 4).foldl (fun s n => s.millDiscard n p) s

/-- Every job of a mill ends FLUSHED at once: its die is lost (R418, R387), or the mill is fenced (R182). -/
def State.millEndAll (s : State) (n : Nat) : State :=
  let x := s.mill n
  let s1 := s.setMill n { x with
    held := []
    run := [] }
  let s2 := x.held.foldl (fun s (e : Nat × MillJob) => s.jobEnd n (classEngines (jClass e.2.desc)).1 e.2.desc 5) s1
  (x.run.foldl (fun s (e : Nat × MillJob) => s.jobEnd n e.1 e.2.desc 5) s2).millAcks n

/-- A squash notice at mill `n`: held jobs of the token end SQUASHED at once (R178, R227). -/
def State.millSquash (s : State) (n tok : Nat) : State :=
  let x := s.mill n
  let hit (e : Nat × MillJob) : Bool := jTokV e.2.desc && decide (jTok e.2.desc = tok)
  let s1 := (s.setMirror (17 + n) tok .squashed).setMill n { x with held := x.held.filter (fun e => !hit e) }
  (x.held.filter hit).foldl (fun s e => s.jobEnd n (classEngines (jClass e.2.desc)).1 e.2.desc 6) s1

/-- An engine finds a parity error in its working memory: it is fenced until warm reset (R182). -/
def State.engineFault (s : State) (n e : Nat) : State :=
  let s1 := match mapFind? (s.mill n).run e with
    | some j => s.jobDrop n e j 5
    | none => s
  let s2 := (s1.flagRep (F.MILL_STAT_ENG_FAULT n) (F.MILL_STAT_ENG_FAULT_REP n)).count (millEvent n 19) 1
  let a := if e < 32 then R.MILL_ENG_FENCED0 n else R.MILL_ENG_FENCED1 n
  ((s2.setReg a (s2.reg a ||| BitVec.ofNat 32 (2 ^ (e % 32)))).report
    { mkReport 2 (64 * n + e) 0x19 1 with data0 := (s2.reg (R.MILL_STAT n)).toNat }).millStalls n

/-- A parity error in a mill's job-slot or holding state: the whole mill is fenced until warm reset, and its jobs end FLUSHED
(MILL_FRONT of R412, R182). -/
def State.millFront (s : State) (n : Nat) : State :=
  (((s.put (F.MILL_STAT_FENCED n) 1).putBit F.GLOBAL_UNIT_AVAIL_MILLS n false).millEndAll n).report (mkReport 13 n 0x1A 1)

/-- A write of MILL_CTRL (R178). -/
def State.millCtrl (s : State) (n : Nat) (v : Word) : State :=
  let s1 := s.writeFields (R.MILL_CTRL n) v
  if v.getLsbD 1 then s1.millDiscard n (fun _ => true) else s1

/-- A write of MILL_ENG_EN0 or EN1: a class may lose its last engine (R162). -/
def State.millEngines (s : State) (n a : Nat) (v : Word) : State := (s.writeFields a v).millStalls n

/-! ## Commands -/

/-- JOB_START (R162, R179). -/
def execJobStart (n : BitVec 2) (s : State) : Host.Outcome State Fault Refusal := .next (s.millStart n.toNat)

/-- ABORT_POINT (R178). -/
def execAbortPoint (n : BitVec 2) (e : BitVec 6) (final : Bool) (s : State) : Host.Outcome State Fault Refusal :=
  if engineOk e.toNat then .next (s.millAbort n.toNat e.toNat final) else .fault .noSuchUnit

/-- HEADER_WRITTEN (R175). -/
def execHeaderWritten (n : BitVec 2) (e : BitVec 6) (s : State) : Host.Outcome State Fault Refusal :=
  if engineOk e.toNat then .next (s.millHeader n.toNat e.toNat) else .fault .noSuchUnit

/-- FLUSH (R178). -/
def execFlush (n : BitVec 2) (s : State) : Host.Outcome State Fault Refusal := .next (s.millDiscard n.toNat (fun _ => true))

/-- ENGINE_PARITY_ERROR (R182). -/
def execEngineParityError (n : BitVec 2) (e : BitVec 6) (s : State) : Host.Outcome State Fault Refusal :=
  if engineOk e.toNat then .next (s.engineFault n.toNat e.toNat) else .fault .noSuchUnit

/-- HARDWARE_CONSUME (R240, R162). -/
def execHardwareConsume (n : BitVec 2) (slot : BitVec 4) (s : State) : Host.Outcome State Fault Refusal :=
  .next (s.millConsume n.toNat slot.toNat)

end Sys2Proof.Machine
end

