-- ==== Sys2Proof/Machine/Sieve.lean ====
section
/-!
DEFINITION. The sieves (09_sieve_scheduling_and_speculation.md, R209 to R232): threads, events, ordered flows, speculation
tokens, and the sieve and context instructions of the signal core.
-/

namespace Sys2Proof.Machine

/-! ## State of a sieve -/

/-- A sieve. -/
def State.sieve (s : State) (t : Nat) : Sieve := mapGet s.sieves Sieve.reset t

/-- A sieve is replaced. -/
def State.setSieve (s : State) (t : Nat) (x : Sieve) : State := { s with sieves := mapSet s.sieves Sieve.reset t x }

/-- A sieve is changed by a function. -/
def State.mapSieve (s : State) (t : Nat) (f : Sieve → Sieve) : State := s.setSieve t (f (s.sieve t))

/-- A thread. -/
def Sieve.thread (v : Sieve) (i : Nat) : Thread := mapGet v.threads Thread.free i

/-- A thread is replaced. -/
def Sieve.setThread (v : Sieve) (i : Nat) (x : Thread) : Sieve := { v with threads := mapSet v.threads Thread.free i x }

/-- A flow. -/
def Sieve.flow (v : Sieve) (i : Nat) : Flow := mapGet v.flows Flow.reset i

/-- A flow is replaced. -/
def Sieve.setFlow (v : Sieve) (i : Nat) (x : Flow) : Sieve := { v with flows := mapSet v.flows Flow.reset i x }

/-- A token. -/
def Sieve.tok (v : Sieve) (i : Nat) : Tok := mapGet v.toks Tok.reset i

/-- A token is replaced. -/
def Sieve.setTok (v : Sieve) (i : Nat) (x : Tok) : Sieve := { v with toks := mapSet v.toks Tok.reset i x }

/-- Counter of a sieve event (R443). -/
def sieveEvent (t o : Nat) : Nat := 192 + 16 * t + o

/-- The initiator number of a sieve (R83). -/
def sieveInit (t : Nat) : Nat := 0x118 + t

/-- The stratum of a core. -/
def stratumOf (c : Nat) : Nat := c / 32
/-- The druse of a core. -/
def druseOf (c : Nat) : Nat := c / 8
/-- The stratum of a token (R10). -/
def tokStratum (tok : Nat) : Nat := tok / 4096 % 8

/-- Encoding of a token state (R217). -/
def tokCode : TokState → Nat
  | .free => 0
  | .open_ => 1
  | .committed => 2
  | .squashed => 3

/-- A token as sieve `t` judges it: its own by its state, another's by the mirror (R216, R217). -/
def State.tokView (s : State) (t tok : Nat) : TokState :=
  if tokStratum tok = t then ((s.sieve t).tok (tok % 4096)).state else s.mirror t tok

/-! ## Threads (R209 to R213) -/

/-- A thread enters the tail of READY. -/
def Sieve.toReady (v : Sieve) (i : Nat) (x : Thread) : Sieve :=
  { (v.setThread i { x with state := .ready }) with
    ready := v.ready.filter (· ≠ i) ++ [i]
    waitq := v.waitq.filter (· ≠ i) }

/-- A thread becomes FREE. -/
def Sieve.freeThread (v : Sieve) (i : Nat) : Sieve :=
  { (v.setThread i Thread.free) with
    ready := v.ready.filter (· ≠ i)
    waitq := v.waitq.filter (· ≠ i) }

/-- Whether a thread is eligible for a core of druse `d` (R211). -/
def Thread.eligible (x : Thread) (d : Nat) : Bool := decide (x.state = .ready) && (x.druse = none || x.druse = some d)

/-- The thread that TDISPATCH gives a core of druse `d`: lowest priority number, then the one READY longest (R211). -/
def Sieve.best (v : Sieve) (d : Nat) : Option Nat :=
  let l := v.ready.filter (fun i => (v.thread i).eligible d)
  l.foldl (fun b i => match b with
    | none => some i
    | some j => if (v.thread i).prio < (v.thread j).prio then some i else some j) none

/-- The lowest FREE slot. -/
def Sieve.freeSlot (v : Sieve) : Option Nat := lowestFrom 4096 (fun i => (v.thread i).state = .free)

/-- A token as the sieve context registers show it: number and valid bit. -/
def tokBits (t : Option (BitVec 15)) : Nat := (t.getD 0).toNat * 2 ^ 16 + (if t.isSome then 2 ^ 31 else 0)

/-- The context registers that a dispatch writes (R212, R232). -/
def Core.dispatched (k : Core) (i : Nat) (x : Thread) : Core :=
  (((k.setCr crSctxThread (BitVec.ofNat 64 (i + 2 ^ 15 + tokBits x.tok + x.prio * 2 ^ 32))).setCr crSctxPtr
    (x.ctx.zeroExtend 64)).setCr crSctxWake
    (BitVec.ofNat 64 (if x.reason = 1 then x.data.toNat + x.stamp.toNat * 2 ^ 32 else 0))).setCr crSctxInfo
    (BitVec.ofNat 64 (x.ev.toNat + tokBits x.evTok + x.reason * 2 ^ 32))

/-- A core is given a thread: the thread runs, bound to the core's druse; rd takes ACCEPTED and the thread (R211, R212). -/
def State.dispatch (s0 : State) (c rd i : Nat) : State :=
  let t := stratumOf c
  let s := s0.ctlRead [ctlSieve t 0 i]
  let x := (s.sieve t).thread i
  let s1 := s.mapSieve t (fun v =>
    { (v.setThread i { x with state := .running, druse := some (druseOf c) }) with
      ready := v.ready.filter (· ≠ i)
      asking := v.asking.filter (· ≠ c) })
  ((s1.count (sieveEvent t 0) 1).mapCore c (fun k => { (k.dispatched i x) with run := .running })).retireG c rd
    (BitVec.ofNat 64 (i * 2 ^ 16))

/-- The current thread of a core (SCTX_THREAD). -/
def State.current (s : State) (c : Nat) : Option Nat :=
  let w := (s.core c).crv crSctxThread
  if w.getLsbD 15 then some (w.toNat % 4096) else none

/-- A core has no current thread any more (R213). -/
def Core.noThread (k : Core) : Core := k.setCr crSctxThread (k.crv crSctxThread &&& ~~~ 0x8000)

/-- The token of a core's current thread. -/
def State.curTok (s : State) (c : Nat) : Option (BitVec 15) :=
  match s.current c with
  | some i => ((s.sieve (stratumOf c)).thread i).tok
  | none => none

/-- That token where sieve judges it OPEN (R210, R222). -/
def State.curOpenTok (s : State) (c : Nat) : Option (BitVec 15) :=
  match s.curTok c with
  | some k => if s.tokView (stratumOf c) k.toNat = .open_ then some k else none
  | none => none

/-- Whether the current thread's token is SQUASHED. -/
def State.curSquashed (s : State) (c : Nat) : Bool :=
  match s.curTok c with
  | some k => s.tokView (stratumOf c) k.toNat = .squashed
  | none => false

/-! ## Events (R214 to R216) -/

/-- A thread is woken by an event: it takes the event's data and, with none of its own, an OPEN token (R216). -/
def Sieve.wake (v : Sieve) (i : Nat) (tok : Option (BitVec 15)) (take : Bool) (data stamp : Word) : Sieve :=
  let x := v.thread i
  v.toReady i { x with
    reason := 1
    evTok := tok
    data := data
    stamp := stamp
    tok := if take && x.tok.isNone then tok else x.tok }

/-- An event reaches sieve `t` (R215, R216). -/
def State.event (s : State) (t : Nat) (id : BitVec 16) (tok : Option (BitVec 15)) (data stamp : Word) : State :=
  let m : TokState := match tok with
    | some k => s.mirror t k.toNat
    | none => .committed
  if m = .squashed then
    (s.flagRep (F.SIEVE_STAT_EVT_DROP t) (F.SIEVE_STAT_EVT_DROP_REP t)).count (sieveEvent t 4) 1
  else
    let v := s.sieve t
    let l := v.waitq.filter (fun i => (v.thread i).ev = id)
    if l.isEmpty then
      if v.pend.contains id.toNat then s
      else (s.setSieve t { v with pend := setIns v.pend id.toNat }).count (sieveEvent t 3) 1
    else
      let mix := decide (m = .open_) && l.any (fun i => (v.thread i).tok.isSome && decide ((v.thread i).tok ≠ tok))
      let s1 := (s.setSieve t { (l.foldl (fun v i => v.wake i tok (m = .open_) data stamp) v) with gated := false }).count
        (sieveEvent t 2) l.length
      if mix then (s1.flag (F.SIEVE_STAT_TOK_MIX t)).count (sieveEvent t 5) 1 else s1

/-! ## Flows (R222 to R225) -/

/-- Items of a flow that are not VOID. -/
def Flow.live (f : Flow) : Nat := (f.items.filter (fun x => x.state ≠ .void)).length

/-- Items of a sieve that are ADMITTED or RELEASED and not yet written. -/
def Sieve.itemCount (v : Sieve) : Nat := v.flows.foldl (fun n e => n + e.2.live) 0

/-- Items of every flow are changed by a function. -/
def Sieve.mapItems (v : Sieve) (f : Item → Item) : Sieve :=
  { v with flows := v.flows.map (fun (e : Nat × Flow) => (e.1, { e.2 with items := e.2.items.map f })) }

/-- Items that a test accepts. -/
def Sieve.countItems (v : Sieve) (p : Item → Bool) : Nat := v.flows.foldl (fun n e => n + (e.2.items.filter p).length) 0

/-- The output entry of an item (R223). -/
def flowEntry (flow : Nat) (seq : BitVec 16) (x : Item) : List Byte :=
  toBytes 8 x.payload.toNat ++ toBytes 2 seq.toNat ++ toBytes 2 flow ++ toBytes 4 0

/-- The head passes the VOID items at its front. -/
def Flow.passVoid (f : Flow) : Flow :=
  let n := (f.items.takeWhile (fun x => x.state = .void)).length
  if n = 0 then f else { f with
    head := f.head + BitVec.ofNat 16 n
    items := f.items.drop n
    stalled := false }

/-- One flow head advances: past its VOID items, then writing at most one RELEASED item to its output queue (R223). -/
def State.flowAdvance (s0 : State) (t i : Nat) : State :=
  let s := s0.ctlRead [ctlSieve t 1 i]
  let f := ((s.sieve t).flow i).passVoid
  let s1 := s.mapSieve t (fun v => v.setFlow i f)
  match f.items with
  | [] => s1
  | x :: rest =>
    if x.state = .released && f.en && s1.pushOk f.outq then
      let tok := match x.tok with
        | some k => if s1.tokView t k.toNat = .open_ then some k else none
        | none => none
      (s1.mapSieve t (fun v => v.setFlow i { f with
        head := f.head + 1
        items := rest
        stalled := false })).hwPush f.outq (flowEntry i f.head x) f.head.toNat tok none
    else s1

/-- The head item of an enabled flow has stayed ADMITTED for STALL_AGE: one stall event for it (R224). -/
def State.flowStall (s0 : State) (t i : Nat) : State :=
  let s := s0.ctlRead [ctlSieve t 1 i]
  let f := (s.sieve t).flow i
  match f.items with
  | x :: _ =>
    if f.en && decide (f.age ≠ 0) && decide (x.state = .admitted) && !f.stalled then
      ((((s.mapSieve t (fun v => v.setFlow i { f with stalled := true })).flagRep (F.SIEVE_STAT_FLOW_STALL t)
        (F.SIEVE_STAT_FLOW_STALL_REP t)).count (sieveEvent t 13) 1).sendEvent (sieveInit t)
          (s.get (F.SIEVE_CFG_STALL_STRATA t)) (s.get (F.SIEVE_CFG_STALL_EVT t)) (i + f.head.toNat * 2 ^ 16) none)
    else s
  | [] => s

/-- A write of SIEVE_FLOW_CFG (R225). -/
def State.flowCfg (s : State) (t : Nat) (w : Word) : State :=
  let i := s.get (F.SIEVE_FLOW_SEL_FLOW t)
  let f := (s.sieve t).flow i
  let x := w.toNat
  let en := x.testBit 18
  let f1 := { f with
    outq := if f.en then f.outq else bitsOf x 17 0
    age := bitsOf x 31 20 }
  if !en then
    (s.mapSieve t (fun v => v.setFlow i { f1 with
      en := false
      items := f1.items.map (fun (y : Item) => { y with state := .void }) })).count (sieveEvent t 12) f.live
  else if f.en then s.mapSieve t (fun v => v.setFlow i f1)
  else if (s.q f1.outq).esize ≠ 0 then (s.mapSieve t (fun v => v.setFlow i f1)).flag (F.SIEVE_STAT_BAD_Q t)
  else s.mapSieve t (fun v => v.setFlow i { f1 with
    en := true
    head := 0
    items := []
    stalled := false })

/-- What SIEVE_FLOW_CFG reads. -/
def State.flowCfgView (s : State) (t : Nat) : Word :=
  let f := (s.sieve t).flow (s.get (F.SIEVE_FLOW_SEL_FLOW t))
  BitVec.ofNat 32 (f.outq + (if f.en then 2 ^ 18 else 0) + f.age * 2 ^ 20)

/-- What SIEVE_FLOW_STAT reads. -/
def State.flowStatView (s : State) (t : Nat) : Word :=
  let f := (s.sieve t).flow (s.get (F.SIEVE_FLOW_SEL_FLOW t))
  let wait : Bool := match f.items with
    | x :: _ => decide (x.state = .released) && !s.pushOk f.outq
    | [] => false
  BitVec.ofNat 32 (f.head.toNat + f.items.length * 2 ^ 16 + (if f.stalled then 2 ^ 27 else 0) + (if wait then 2 ^ 28 else 0))

/-- The position of a sequence number among a flow's items. -/
def Flow.index (f : Flow) (seq : BitVec 16) : Nat := (seq - f.head).toNat

/-- The item of a sequence number is released or voided where it is ADMITTED; nothing outside the window (R223). -/
def Flow.settle (f : Flow) (seq : BitVec 16) (g : Item → Item) : Option Flow :=
  match f.items[f.index seq]? with
  | some x => if x.state = .admitted then some { f with items := f.items.set (f.index seq) (g x) } else none
  | none => none

/-! ## Token notices (R227 to R229) -/

/-- A sieve sends one notice to a receiver and holds it outstanding (R227, R278). The packet's channel field names the
receiver, which a stop with two of them does not tell from the header of R266. -/
def State.notice (s : State) (t tok r : Nat) (x : TokState) : State :=
  let free := decide (x = .free)
  s.launch ⟨BitVec.ofNat 12 (sieveInit t), 0, 0, 8, 0, 0, .notice (BitVec.ofNat 15 tok) (recvNode r) free⟩
    { Packet.zero with
      op := 8, dst := BitVec.ofNat 8 (recvNode r), init := BitVec.ofNat 12 (sieveInit t),
      token := BitVec.ofNat 15 tok, channel := BitVec.ofNat 7 r, state := BitVec.ofNat 2 (tokCode x) }

/-- A notice goes to all 22 receivers. -/
def State.broadcast (s : State) (t tok : Nat) (x : TokState) : State :=
  (List.range 22).foldl (fun s r => s.notice t tok r x) s

/-- A sieve's work carrying a token, on a commit: the token is cleared (R227). -/
def Sieve.commitWork (v : Sieve) (tok : Nat) : Sieve :=
  let own (x : Option (BitVec 15)) : Option (BitVec 15) := if x = some (BitVec.ofNat 15 tok) then none else x
  let v1 := { v with threads := v.threads.map (fun (e : Nat × Thread) => (e.1, { e.2 with tok := own e.2.tok })) }
  v1.mapItems (fun x => { x with tok := own x.tok })

/-- On a squash: READY and WAITING threads become FREE, ADMITTED items VOID (R227). -/
def Sieve.squashWork (v : Sieve) (tok now : Nat) : Sieve :=
  let k := some (BitVec.ofNat 15 tok)
  let dead := (v.ready ++ v.waitq).filter (fun i => (v.thread i).tok = k)
  (dead.foldl Sieve.freeThread v).mapItems (fun x =>
    if decide (x.tok = k) && decide (x.state = .admitted) then { x with
      state := .void
      sqAt := some now } else x)

/-- A commit or squash notice takes effect at sieve `t` (R227). -/
def State.sieveNotice (s : State) (t tok : Nat) (x : TokState) : State :=
  let s1 := s.setMirror t tok x
  match x with
  | .committed => s1.mapSieve t (fun v => v.commitWork tok)
  | .squashed =>
    let n := (s.sieve t).countItems (fun y => decide (y.tok = some (BitVec.ofNat 15 tok)) && decide (y.state = .admitted))
    (s1.mapSieve t (fun v => v.squashWork tok s.time.ticks)).count (sieveEvent t 12) n
  | _ => s1

/-- A token changes to COMMITTED or SQUASHED: its own sieve acts at once, and the notice goes out (R226, R227). -/
def State.tokResolve (s : State) (t i : Nat) (x : TokState) : State :=
  let k := (s.sieve t).tok i
  let s1 := s.mapSieve t (fun v => v.setTok i { k with state := x, settled := false, acks := 0, freeN := false })
  ((s1.count (sieveEvent t (if x = .committed then 7 else 8)) 1).sieveNotice t (t * 4096 + i) x).broadcast t (t * 4096 + i) x

/-- A token becomes FREE and the free notice goes out (R229). -/
def State.tokFree (s : State) (t i : Nat) : State :=
  let s1 := s.mapSieve t (fun v => v.setTok i { state := .free, settled := false, owner := 0, acks := 0, freeN := true })
  (s1.count (sieveEvent t 9) 1).broadcast t (t * 4096 + i) .free

/-- An acknowledgement of a token's last notice is counted; the last one of a free notice ends it (R228, R229). -/
def State.tokAcked (s : State) (tok : Nat) (free : Bool) : State :=
  let t := tokStratum tok
  let k := (s.sieve t).tok (tok % 4096)
  if k.freeN ≠ free then s
  else
    let n := min 22 (k.acks + 1)
    s.mapSieve t (fun v => v.setTok (tok % 4096) { k with
      acks := n
      freeN := free && decide (n < 22) })

/-- The outcome of TCOMMIT, TSQUASH and TFREE (R226): the status, and the state change. -/
def State.tokCommit (s0 : State) (t i : Nat) : Nat × State :=
  let s := s0.ctlRead [ctlSieve t 2 i]
  match ((s.sieve t).tok i).state with
  | .open_ => (0, s.tokResolve t i .committed)
  | .committed => (0, s)
  | _ => (3, s)

/-- TSQUASH. -/
def State.tokSquash (s0 : State) (t i : Nat) : Nat × State :=
  let s := s0.ctlRead [ctlSieve t 2 i]
  match ((s.sieve t).tok i).state with
  | .open_ => (0, s.tokResolve t i .squashed)
  | .squashed => (0, s)
  | _ => (3, s)

/-- TFREE. -/
def State.tokRelease (s0 : State) (t i : Nat) : Nat × State :=
  let s := s0.ctlRead [ctlSieve t 2 i]
  let k := (s.sieve t).tok i
  match k.state with
  | .committed => if k.settled then (0, s.tokFree t i) else (3, s)
  | .squashed => if k.settled then (0, s.tokFree t i) else (3, s)
  | _ => (3, s)

/-- The settle interval after the last acknowledgement ends (R228). -/
def State.tokSettle (s : State) (t i : Nat) : State :=
  let k := (s.sieve t).tok i
  if (k.state = .committed || k.state = .squashed) && decide (k.acks = 22) then
    s.mapSieve t (fun v => v.setTok i { k with settled := true })
  else s

/-- What SIEVE_TOK_STAT reads. -/
def State.tokStatView (s : State) (t : Nat) : Word :=
  let k := (s.sieve t).tok (s.get (F.SIEVE_TOK_SEL_INDEX t))
  BitVec.ofNat 32 (tokCode k.state + (if k.settled then 4 else 0) + k.owner * 8 + k.acks * 2 ^ 8)

/-- A write of SIEVE_TOK_CMD: one bit performs its command on the selected token, more than one nothing. -/
def State.tokCmd (s : State) (t : Nat) (w : Word) : State :=
  let i := s.get (F.SIEVE_TOK_SEL_INDEX t)
  match w.toNat % 8 with
  | 1 => (s.tokCommit t i).2
  | 2 => (s.tokSquash t i).2
  | 4 => (s.tokRelease t i).2
  | _ => s

/-- What SIEVE_OCC reads. -/
def Sieve.occView (v : Sieve) : Word := BitVec.ofNat 32 (v.ready.length + v.waitq.length * 2 ^ 16)

/-- What SIEVE_TOKOCC reads. -/
def Sieve.tokOccView (v : Sieve) : Word :=
  BitVec.ofNat 32 ((v.toks.filter (fun e => e.2.state = .open_)).length +
    (v.toks.filter (fun e => e.2.state = .committed || e.2.state = .squashed)).length * 2 ^ 16)

/-! ## Containment (R230) -/

/-- Every OPEN token of a sieve that a test accepts is squashed. -/
def State.squashTokens (s : State) (t : Nat) (p : Tok → Bool) : State :=
  (((s.sieve t).toks.filter (fun e => decide (e.2.state = .open_) && p e.2)).map (·.1)).foldl
    (fun s i => s.tokResolve t i .squashed) s

/-- A druse restart at its sieve (R230). -/
def State.sieveDruse (s : State) (d : Nat) : State :=
  let t := d / 4
  let s1 := s.squashTokens t (fun k => k.owner = d)
  let v := s1.sieve t
  let n := v.countItems (fun x => decide (x.druse = d) && decide (x.state = .admitted))
  let dead := (v.threads.filter (fun e => decide (e.2.druse = some d))).map (·.1)
  let v1 := (dead.foldl Sieve.freeThread v).mapItems (fun x =>
    if decide (x.druse = d) && decide (x.state = .admitted) then { x with state := .void } else x)
  (s1.setSieve t { v1 with asking := v1.asking.filter (fun c => decide (druseOf c ≠ d)) }).count (sieveEvent t 12) n

/-- A stratum reset at its sieve: OPEN tokens are squashed, then threads, flows and tokens return to reset, with a free
notice for every token that was not FREE (R230). -/
def State.sieveReset (s : State) (t : Nat) : State :=
  let s1 := s.squashTokens t (fun _ => true)
  let used := ((s1.sieve t).toks.filter (fun e => decide (e.2.state ≠ .free))).map (·.1)
  let wait := (s1.sieve t).toks.filter (fun e => decide (e.2.state = .free) && e.2.freeN)
  used.foldl (fun s i => s.tokFree t i) (s1.setSieve t { Sieve.reset with toks := wait })

/-! ## Idle gating (R221, R380) -/

/-- Whether a sieve may gate its stratum's clock (R221). -/
def State.mayGate (s : State) (t : Nat) : Bool :=
  let v := s.sieve t
  s.on (F.SIEVE_CTRL_IDLE_GATE t) && s.on F.PWR_CTRL_IDLE_EN && decide (s.get F.PWR_STAT_STATE ≤ 1) &&
  (List.range 32).all (fun j =>
    s.held (32 * t + j) || decide ((s.core (32 * t + j)).run = .waiting) || decide ((s.core (32 * t + j)).run = .halted)) &&
  (List.range 32).all (fun j => decide ((s.core (32 * t + j)).run ≠ .waiting) || (v.best (4 * t + j / 8)).isNone) &&
  (List.range 64).all (fun ch => decide (s.chState t ch ≠ chRun) && decide (s.chState t ch ≠ chStopping))

/-! ## Sieve instructions (R217, R218) -/

/-- A status and a field as rd receives them. -/
def statusWord (st fld : Nat) : DWord := BitVec.ofNat 64 (st + fld * 2 ^ 16)

/-- A sieve instruction: acts as the oldest, ends run-ahead's advance, and empties the prefetch buffer (R95, R97, R218). `k`
marks a kernel-only one. -/
def State.sieveInsn (s : State) (c : BitVec 8) (use : Use) (illegal k : Bool) (act : State) : State :=
  s.runInsn c.toNat use .stop
    (if illegal then some trapIllegal else if k && (s.core c.toNat).task then some (trapPriv 0) else none) none false true
    (act.dropPrefetch c.toNat)

/-- A service instruction raises SIEVE in task mode, with TPC at the next instruction (R110, R217). -/
def State.service (s : State) (c : BitVec 8) (func : Nat) (use : Use) (illegal : Bool) (act : State) : State :=
  s.sieveInsn c use illegal false
    (if (s.core c.toNat).task then s.trapTo c.toNat ⟨0x14, func, 0⟩ false ((s.core c.toNat).pc + 4) else act)

/-- The first waiting request for which a thread is eligible is served (R212). -/
def State.serve (s : State) (t : Nat) : State :=
  let v := s.sieve t
  match v.asking.find? (fun c => (v.best (druseOf c)).isSome && !s.held c && decide ((s.core c).run = .waiting)) with
  | some c =>
    (match v.best (druseOf c) with
     | some i => s.dispatch c (s.core c).waitRd i
     | none => s)
  | none => s

/-- Every waiting request that a thread is eligible for is served, in order of arrival. -/
def State.serveAll (s : State) (t : Nat) : State := (s.sieve t).asking.foldl (fun u _ => u.serve t) s

/-- TDISPATCH acts: once older requests that a thread is eligible for are served, the best eligible thread, or a wait, or
NO_OBJECT (R211, R212). -/
def State.doDispatch (s0 : State) (c rd rs1 : Nat) : State :=
  let t := stratumOf c
  let s := s0.serveAll t
  match (s.sieve t).best (druseOf c) with
  | some i => s.dispatch c rd i
  | none =>
    if ((s.core c).gr rs1).getLsbD 0 then s.retireG c rd (statusWord 2 0)
    else (s.mapCore c (fun k => { k with run := .waiting, waitRd := rd })).mapSieve t (fun v =>
      { v with asking := v.asking.filter (· ≠ c) ++ [c] })

/-- TDISPATCH rd, rs1 (R211, R212). -/
def execTdispatch (c : BitVec 8) (rd rs1 rs2 : BitVec 5) (s : State) : Host.Outcome State Fault Refusal :=
  .next (s.sieveInsn c (useG [rs1.toNat] [rd.toNat]) (rs2 ≠ 0) true (s.doDispatch c.toNat rd.toNat rs1.toNat))

/-- TDISPATCH_SERVED (R212). -/
def execTdispatchServed (t : BitVec 3) (s : State) : Host.Outcome State Fault Refusal := .next (s.serve t.toNat)

/-- TSPAWN acts (R210): the status, the thread, and the sieve's change. -/
def State.spawn (s : State) (c : Nat) (a p : DWord) : Nat × Nat × State :=
  let t := stratumOf c
  if 2 ^ 40 ≤ a.toNat || 64 ≤ p.toNat then (1, 0, s)
  else if s.curSquashed c then (6, 0, s)
  else match (s.sieve t).freeSlot with
    | none => (2, 0, s)
    | some i =>
      (0, i, (s.mapSieve t (fun v => v.toReady i { Thread.free with
        prio := p.toNat
        ctx := a.truncate 40
        tok := s.curOpenTok c })).count (sieveEvent t 1) 1)

/-- TSPAWN rd, rs1, rs2 (R210). -/
def execTspawn (c : BitVec 8) (rd rs1 rs2 : BitVec 5) (s : State) : Host.Outcome State Fault Refusal :=
  let k := s.core c.toNat
  let r := s.spawn c.toNat (k.gr rs1.toNat) (k.gr rs2.toNat)
  .next (s.sieveInsn c (useG [rs1.toNat, rs2.toNat] [rd.toNat]) false true
    (r.2.2.retireG c.toNat rd.toNat (statusWord r.1 r.2.1)))

/-- The current thread leaves its core: on a squashed token it is freed and the exit counted, else the given change applies
(R213). -/
def State.leave (s : State) (c : Nat) (f : Sieve → Nat → Sieve) : State :=
  let t := stratumOf c
  match s.current c with
  | none => s.retire c
  | some i =>
    ((s.mapSieve t (fun v => if s.curSquashed c then { v.freeThread i with exits := v.exits + 1 } else f v i)).mapCore c Core.noThread).retire c

/-- TWAIT of a thread on an event ID (R213). -/
def Sieve.wait (v : Sieve) (i : Nat) (id : BitVec 16) : Sieve :=
  let x := v.thread i
  if v.pend.contains id.toNat then
    { v with pend := setErase v.pend id.toNat }.toReady i { x with
      ev := id
      reason := 2
      evTok := none
      data := 0
      stamp := 0 }
  else
    { (v.setThread i { x with state := .waiting, ev := id }) with waitq := v.waitq.filter (· ≠ i) ++ [i] }

/-- TWAIT rs1 (R213). -/
def execTwait (c : BitVec 8) (rd rs1 rs2 : BitVec 5) (s : State) : Host.Outcome State Fault Refusal :=
  let id := ((s.core c.toNat).gr rs1.toNat).truncate 16
  .next (s.service c 2 (useG [rs1.toNat] []) (rd ≠ 0 || rs2 ≠ 0) (s.leave c.toNat (fun v i => v.wait i id)))

/-- TYIELD of a thread (R213). -/
def Sieve.yield (v : Sieve) (i : Nat) : Sieve :=
  v.toReady i { v.thread i with
    reason := 3
    evTok := none
    data := 0
    stamp := 0 }

/-- TYIELD (R213). -/
def execTyield (c : BitVec 8) (rd rs1 rs2 : BitVec 5) (s : State) : Host.Outcome State Fault Refusal :=
  .next (s.service c 3 (useG [] []) (rd ≠ 0 || rs1 ≠ 0 || rs2 ≠ 0) (s.leave c.toNat Sieve.yield))

/-- TEXIT (R213). -/
def execTexit (c : BitVec 8) (rd rs1 rs2 : BitVec 5) (s : State) : Host.Outcome State Fault Refusal :=
  .next (s.service c 4 (useG [] []) (rd ≠ 0 || rs1 ≠ 0 || rs2 ≠ 0) (s.leave c.toNat (fun v i => v.freeThread i)))

/-- TSETPRI acts (R217). -/
def State.setPri (s : State) (c : Nat) (a p : DWord) : Nat × State :=
  let t := stratumOf c
  let x := (s.sieve t).thread a.toNat
  if 4096 ≤ a.toNat || 64 ≤ p.toNat then (1, s)
  else if x.state = .free then (2, s)
  else (0, s.mapSieve t (fun v =>
    if x.state = .ready then v.toReady a.toNat { x with prio := p.toNat } else v.setThread a.toNat { x with prio := p.toNat }))

/-- TSETPRI rd, rs1, rs2 (R217). -/
def execTsetpri (c : BitVec 8) (rd rs1 rs2 : BitVec 5) (s : State) : Host.Outcome State Fault Refusal :=
  let k := s.core c.toNat
  let r := s.setPri c.toNat (k.gr rs1.toNat) (k.gr rs2.toNat)
  .next (s.sieveInsn c (useG [rs1.toNat, rs2.toNat] [rd.toNat]) false true
    (r.2.retireG c.toNat rd.toNat (statusWord r.1 0)))

/-- TEVENT rs1, rs2: the event carries the current thread's token (R217). -/
def execTevent (c : BitVec 8) (rd rs1 rs2 : BitVec 5) (s : State) : Host.Outcome State Fault Refusal :=
  let k := s.core c.toNat
  let a := (k.gr rs1.toNat).toNat
  .next (s.sieveInsn c (useG [rs1.toNat, rs2.toNat] []) (rd ≠ 0) false
    ((s.sendEvent c.toNat (bitsOf a 23 16) (bitsOf a 15 0) ((k.gr rs2.toNat).toNat % 2 ^ 32) (s.curTok c.toNat)).retire c.toNat))

/-- FADMIT acts (R222): the status, the sequence number, the change. -/
def State.admitItem (s : State) (c : Nat) (a : DWord) : Nat × Nat × State :=
  let t := stratumOf c
  let f := (s.sieve t).flow a.toNat
  if 16384 ≤ a.toNat then (1, 0, s)
  else if !f.en then (2, 0, s)
  else if 1024 ≤ f.items.length || 65536 ≤ (s.sieve t).itemCount then (4, 0, s)
  else if s.curSquashed c then (6, 0, s)
  else
    (0, (f.head + BitVec.ofNat 16 f.items.length).toNat,
      (s.mapSieve t (fun v => v.setFlow a.toNat { f with
        items := f.items ++ [(⟨.admitted, druseOf c, s.curOpenTok c, 0, none⟩ : Item)] })).count (sieveEvent t 10) 1)

/-- FADMIT rd, rs1 (R222). -/
def execFadmit (c : BitVec 8) (rd rs1 rs2 : BitVec 5) (s : State) : Host.Outcome State Fault Refusal :=
  let r := s.admitItem c.toNat ((s.core c.toNat).gr rs1.toNat)
  .next (s.sieveInsn c (useG [rs1.toNat] [rd.toNat]) (rs2 ≠ 0) false
    (r.2.2.retireG c.toNat rd.toNat (statusWord r.1 r.2.1)))

/-- FRELEASE and FVOID act (R223): the status and the change. -/
def State.settleItem (s0 : State) (c : Nat) (a : DWord) (ev : Nat) (g : Item → Item) : Nat × State :=
  let t := stratumOf c
  let i := a.toNat % 2 ^ 14
  let s := s0.ctlRead [ctlSieve t 1 i]
  if bitsOf a.toNat 15 14 ≠ 0 || 2 ^ 32 ≤ a.toNat then (1, s)
  else match ((s.sieve t).flow i).settle (BitVec.ofNat 16 (a.toNat / 2 ^ 16)) g with
    | some f => (0, (s.mapSieve t (fun v => v.setFlow i f)).count (sieveEvent t ev) 1)
    | none => (3, s)

/-- Whether a squash made the item of FRELEASE's operand VOID in this very cycle (R231): it did so in this tick, and the free
choice says so. -/
def State.squashedNow (s : State) (c : Nat) (a : DWord) : Bool :=
  let f := (s.sieve (stratumOf c)).flow (a.toNat % 2 ^ 14)
  match f.items[f.index (BitVec.ofNat 16 (a.toNat / 2 ^ 16))]? with
  | some x => decide (x.state = .void) && decide (x.sqAt = some s.time.ticks) && Config.sameCycle s.freeCtr
  | none => false

/-- FRELEASE rd, rs1, rs2 (R223): SQUASHED where a squash of the item's token falls in its cycle (R231). -/
def execFrelease (c : BitVec 8) (rd rs1 rs2 : BitVec 5) (s : State) : Host.Outcome State Fault Refusal :=
  let k := s.core c.toNat
  let r := s.settleItem c.toNat (k.gr rs1.toNat) 11 (fun x => { x with state := .released, payload := k.gr rs2.toNat })
  .next (s.sieveInsn c (useG [rs1.toNat, rs2.toNat] [rd.toNat]) false false
    (r.2.retireG c.toNat rd.toNat (statusWord (if r.1 = 3 && s.squashedNow c.toNat (k.gr rs1.toNat) then 6 else r.1) 0)))

/-- FVOID rd, rs1 (R223). -/
def execFvoid (c : BitVec 8) (rd rs1 rs2 : BitVec 5) (s : State) : Host.Outcome State Fault Refusal :=
  let r := s.settleItem c.toNat ((s.core c.toNat).gr rs1.toNat) 12 (fun x => { x with state := .void })
  .next (s.sieveInsn c (useG [rs1.toNat] [rd.toNat]) (rs2 ≠ 0) false
    (r.2.retireG c.toNat rd.toNat (statusWord r.1 0)))

/-- The lowest token that TOPEN may take (R226). -/
def Sieve.freeTok (v : Sieve) : Option Nat :=
  lowestFrom 4096 (fun i => decide ((v.tok i).state = .free) && !(v.tok i).freeN)

/-- TOPEN rd (R226): ACKS goes on showing the acknowledgements of the last notice (R229). -/
def execTopen (c : BitVec 8) (rd rs1 rs2 : BitVec 5) (s : State) : Host.Outcome State Fault Refusal :=
  let t := stratumOf c.toNat
  .next (s.sieveInsn c (useG [] [rd.toNat]) (rs1 ≠ 0 || rs2 ≠ 0) false
    (match (s.sieve t).freeTok with
     | none => s.retireG c.toNat rd.toNat (statusWord 2 0)
     | some i =>
       ((s.mapSieve t (fun v => v.setTok i ⟨.open_, false, druseOf c.toNat, (v.tok i).acks, false⟩)).count (sieveEvent t 6) 1).retireG
         c.toNat rd.toNat (statusWord 0 (t * 4096 + i))))

/-- A token instruction reaches the token's sieve; behind a closed stop its answer is free (R217, R218). -/
def State.tokInsn (s : State) (c : BitVec 8) (rd rs1 rs2 : BitVec 5) (f : Nat → Nat → Nat × State) : State :=
  let tok := ((s.core c.toNat).gr rs1.toNat).toNat % 2 ^ 15
  let t := tokStratum tok
  let r := f t (tok % 4096)
  s.sieveInsn c (useG [rs1.toNat] [rd.toNat]) (rs2 ≠ 0) false
    (if s.closedOnWay true (nodeOfInit c.toNat) (nodeStratum t) then
      ({ s with freeCtr := s.freeCtr + 1 }).retireG c.toNat rd.toNat (Config.sieveAnswer s.freeCtr)
     else
      let k := (r.2.sieve t).tok (tok % 4096)
      r.2.retireG c.toNat rd.toNat (statusWord r.1 (tokCode k.state)))

/-- TCOMMIT rd, rs1 (R226). -/
def execTcommit (c : BitVec 8) (rd rs1 rs2 : BitVec 5) (s : State) : Host.Outcome State Fault Refusal :=
  .next (s.tokInsn c rd rs1 rs2 s.tokCommit)

/-- TSQUASH rd, rs1 (R226). -/
def execTsquash (c : BitVec 8) (rd rs1 rs2 : BitVec 5) (s : State) : Host.Outcome State Fault Refusal :=
  .next (s.tokInsn c rd rs1 rs2 s.tokSquash)

/-- TFREE rd, rs1 (R226). -/
def execTfree (c : BitVec 8) (rd rs1 rs2 : BitVec 5) (s : State) : Host.Outcome State Fault Refusal :=
  .next (s.tokInsn c rd rs1 rs2 s.tokRelease)

/-- TSTATE rd, rs1: the state and SETTLED (R217). -/
def execTstate (c : BitVec 8) (rd rs1 rs2 : BitVec 5) (s : State) : Host.Outcome State Fault Refusal :=
  let tok := ((s.core c.toNat).gr rs1.toNat).toNat % 2 ^ 15
  let t := tokStratum tok
  let k := (s.sieve t).tok (tok % 4096)
  .next (s.sieveInsn c (useG [rs1.toNat] [rd.toNat]) (rs2 ≠ 0) false
    (if s.closedOnWay true (nodeOfInit c.toNat) (nodeStratum t) then
      ({ s with freeCtr := s.freeCtr + 1 }).retireG c.toNat rd.toNat (Config.sieveAnswer s.freeCtr)
     else s.retireG c.toNat rd.toNat (statusWord 0 (tokCode k.state + (if k.settled then 4 else 0)))))

/-- TATTACH acts (R217): the status and the change. -/
def State.attach (s : State) (c : Nat) (a : DWord) : Nat × State :=
  let t := stratumOf c
  let tok := a.toNat % 2 ^ 15
  match s.current c with
  | none => (2, s)
  | some i =>
    if !a.getLsbD 15 then (0, s.mapSieve t (fun v => v.setThread i { v.thread i with tok := none }))
    else if s.tokView t tok = .open_ then
      (0, s.mapSieve t (fun v => v.setThread i { v.thread i with tok := some (BitVec.ofNat 15 tok) }))
    else (3, s)

/-- TATTACH rd, rs1 (R217). -/
def execTattach (c : BitVec 8) (rd rs1 rs2 : BitVec 5) (s : State) : Host.Outcome State Fault Refusal :=
  let r := s.attach c.toNat ((s.core c.toNat).gr rs1.toNat)
  .next (s.sieveInsn c (useG [rs1.toNat] [rd.toNat]) (rs2 ≠ 0) false
    (r.2.retireG c.toNat rd.toNat (statusWord r.1 0)))

/-! ## Context instructions (R219, R220) -/

/-- Whether an address may hold a context block of a core (R219). -/
def ctxAddrOk (c a : Nat) : Bool :=
  decide (a % 64 = 0) &&
  ((decide (coreWin c ≤ a) && decide (a + 320 ≤ coreWin c + 0x40000)) ||
   (List.range 4).any (fun j =>
     decide (druseWin (4 * stratumOf c + j) ≤ a) && decide (a + 320 ≤ druseWin (4 * stratumOf c + j) + 0x200000)))

/-- The 320 bytes of a core's context (R219). -/
def Core.ctxBytes (k : Core) : List Byte :=
  let pois := ((List.range 32).filter (fun r => (mapFind? k.pois r).isSome)).foldl (fun x r => x + 2 ^ r) 0
  toBytes 8 0 ++ (List.range 31).flatMap (fun r => toBytes 8 (k.gr (r + 1)).toNat) ++ toBytes 4 pois ++
  toBytes 4 ((k.crv crTpc).toNat % 2 ^ 16 + ((k.crv crTstat).toNat / 2 % 2) * 2 ^ 16) ++ toBytes 8 (k.crv crVmode).toNat ++
  toBytes 2 k.vcount ++ toBytes 2 k.vresume ++ toBytes 1 ((k.crv crVsat).toNat % 2) ++ toBytes 43 0

/-- A core's context is restored from a block at an address (R112, R220): VMODE, then VCOUNT, then the rest. -/
def Core.ctxLoad (k : Core) (a : Nat) (l : List Byte) : Core :=
  let k1 := (k.writeVmode (BitVec.ofNat 64 (fieldAt l 264 8))).writeVcount (BitVec.ofNat 64 (fieldAt l 272 2 % 2 ^ 10))
  let k2 := (k1.writeCr crVresume (BitVec.ofNat 64 (fieldAt l 274 2))).writeCr crVsat (BitVec.ofNat 64 (fieldAt l 276 1))
  let k3 := (k2.writeCr crTpc (BitVec.ofNat 64 (fieldAt l 260 2))).setCr crTstat
    ((k2.crv crTstat &&& ~~~ 2) ||| (if (fieldAt l 262 1).testBit 0 then 2 else 0))
  (List.range 31).foldl (fun k r =>
    let v := BitVec.ofNat 64 (fieldAt l (8 * (r + 1)) 8)
    if (fieldAt l 256 4).testBit (r + 1) then k.setPoisoned (r + 1) v (BitVec.ofNat 40 (a + 8 * (r + 1))) else k.setG (r + 1) v) k3

/-- The first granule of a block that is not answered DONE: its address and the answer. -/
def State.ctxFail (s : State) (c a : Nat) (write : Bool) : Option (Nat × Nat) :=
  ((List.range 5).map (fun i => (a + 64 * i,
    if s.vResp c (a + 64 * i) write ≠ rDone then s.vResp c (a + 64 * i) write
    else if !write && !(s.badIn (a + 64 * i) 64).isEmpty then rPoison else rDone))).find? (fun e => e.2 ≠ rDone)

/-- CTXSV acts: granule by granule up to one that is not answered DONE, at which it traps (R220). -/
def State.ctxSave (s : State) (c a : Nat) : State :=
  let l := (s.core c).ctxBytes
  match s.ctxFail c a true with
  | none => ((s.engPut a l false).mapCore c (fun k => k.dropPf a 320)).retire c
  | some e => (s.engPut a (l.take (e.1 - a)) false).trap c (trapMem e.2 e.1)

/-- CTXLD acts: every item, or none and a trap (R220). -/
def State.ctxRestore (s : State) (c a : Nat) : State :=
  match s.ctxFail c a false with
  | none => (s.fresh.mapCore c (fun k => k.ctxLoad a (s.bytesAt a 320))).retire c
  | some e =>
    (if e.2 = rPoison then (s.readEffect c e.1 64 false).trap c (trapPoison 0x05 e.1) else s.trap c (trapMem e.2 e.1))

/-- A context instruction: kernel only; the address of R219; older fused and vector results first (R220); the prefetch buffer
is emptied (R97). -/
def State.ctxInsn (s : State) (c : BitVec 8) (rd rs1 rs2 : BitVec 5) (act : Nat → State) : State :=
  let k := s.core c.toNat
  let a := (k.gr rs1.toNat).toNat
  s.runInsn c.toNat (useG [rs1.toNat] []) .stop
    (if rd ≠ 0 || rs2 ≠ 0 then some trapIllegal else if k.task then some (trapPriv 0) else none)
    (if ctxAddrOk c.toNat a then none else some (trapMem 0x02 (a % 2 ^ 40)))
    (!k.fres.isEmpty || decide (s.storesOut c.toNat ≠ 0)) true ((act a).dropPrefetch c.toNat)

/-- CTXSV rs1 (R219, R220). -/
def execCtxsv (c : BitVec 8) (rd rs1 rs2 : BitVec 5) (s : State) : Host.Outcome State Fault Refusal :=
  .next (s.ctxInsn c rd rs1 rs2 (s.ctxSave c.toNat))

/-- CTXLD rs1 (R219, R220). -/
def execCtxld (c : BitVec 8) (rd rs1 rs2 : BitVec 5) (s : State) : Host.Outcome State Fault Refusal :=
  .next (s.ctxInsn c rd rs1 rs2 (s.ctxRestore c.toNat))

/-! ## Other commands -/

/-- COMMIT of the selected token (R226). -/
def execCommit (t : BitVec 3) (s : State) : Host.Outcome State Fault Refusal := .next (s.tokCmd t.toNat 1)

/-- SQUASH of the selected token (R226). -/
def execSquash (t : BitVec 3) (s : State) : Host.Outcome State Fault Refusal := .next (s.tokCmd t.toNat 2)

/-- FREE of the selected token (R226). -/
def execFree (t : BitVec 3) (s : State) : Host.Outcome State Fault Refusal := .next (s.tokCmd t.toNat 4)

/-- SETTLE_INTERVAL_END (R228). -/
def execSettleIntervalEnd (t : BitVec 3) (tok : BitVec 12) (s : State) : Host.Outcome State Fault Refusal :=
  .next (s.tokSettle t.toNat tok.toNat)

/-- FLOW_HEAD_ADVANCE (R223). -/
def execFlowHeadAdvance (t : BitVec 3) (flow : BitVec 14) (s : State) : Host.Outcome State Fault Refusal :=
  .next (s.flowAdvance t.toNat flow.toNat)

/-- FLOW_STALL (R224). -/
def execFlowStall (t : BitVec 3) (flow : BitVec 14) (s : State) : Host.Outcome State Fault Refusal :=
  .next (s.flowStall t.toNat flow.toNat)

/-- FLOW_ENABLE (R225). -/
def execFlowEnable (t : BitVec 3) (v : BitVec 32) (s : State) : Host.Outcome State Fault Refusal :=
  .next (s.flowCfg t.toNat v)

/-- IDLE_GATE (R221). -/
def execIdleGate (t : BitVec 3) (s : State) : Host.Outcome State Fault Refusal :=
  .next (if s.mayGate t.toNat then s.mapSieve t.toNat (fun v => { v with gated := true }) else s)

end Sys2Proof.Machine
end

