-- ==== Sys2Proof/Machine/Twin.lean ====
section
/-!
DEFINITION. The twin pair: heartbeats, the servo, the token, STATE frames (18_faults_and_twin_pair.md, R429 to R437).
-/

namespace Sys2Proof.Machine

/-! ## Frames (R429) -/

/-- A frame that the twin port sends now. -/
def State.twinFrame (s : State) (typ : Byte) (seq : BitVec 16) : TwinFrame where
  fcsOk := true
  typ := typ
  pos := s.on F.TWIN_CFG_POS
  hold := s.on F.TWIN_STAT_HOLD
  halt := s.on F.GLOBAL_KS_STAT_SAFE_HALT
  standby := decide (s.get F.PWR_STAT_STATE = 3)
  seq := seq
  ttx := s.now
  peerTx := 0
  peerRx := 0
  health := 0
  locked := false
  druses := 0
  data := []

/-- The twin logic's own state is replaced. -/
def State.setTwin (s : State) (t : TwinSt) : State := { s with twin := t }

/-- A fault record of the twin link. -/
def State.twinReport (s : State) (code : Nat) : State :=
  s.report { mkReport 5 33 code 0 with data0 := (s.reg R.TWIN_STAT).toNat }

/-! ## The token (R431 to R433) -/

/-- TB0 follows the holder no longer (R435). -/
def State.stopFollowing (s : State) : State := s.put (F.TIME_TB_CFG_TWIN_LOCK 0) 0

/-- The device releases its line and holds the token no more. -/
def State.releaseToken (s : State) : State :=
  if s.twin.line then
    ((s.put F.TWIN_STAT_HOLD 0).setTwin { s.twin with
      line := false
      claiming := false }).emit (.token false)
  else s

/-- The device abdicates: it releases its line, sends an ABDICATE frame and writes TWIN_ABDICATE (R432). -/
def State.abdicate (s : State) : State :=
  if s.twin.line then
    let s1 := s.releaseToken.flag F.TWIN_STAT_ABDICATED
    (if s1.twinTx then s1.emit (.twin (s1.twinFrame 2 0)) else s1).twinReport 0x4A
  else s

/-- Whether a claim's conditions hold, its trigger apart (R433). -/
def State.mayClaim (s : State) : Bool :=
  s.on F.TWIN_CFG_EN && decide (s.get F.BOOT_STAT_PHASE = 8) && decide (s.get F.PWR_STAT_STATE ≤ 1) &&
  !s.on F.GLOBAL_KS_STAT_SAFE_HALT && !s.on F.TWIN_STAT_POS_CONFLICT && !s.twin.peerLow && !s.on F.TWIN_STAT_HOLD &&
  !s.twin.claiming

/-- The device claims: it drives its line low, and stops following (R433, R435). -/
def State.startClaim (s : State) : State :=
  ((s.setTwin { s.twin with
    line := true
    claiming := true
    abd := false }).stopFollowing).emit (.token true)

/-- A claim by heartbeat loss or by the peer's ABDICATE frame, once its conditions hold (R433). -/
def State.tryClaim (s : State) : State :=
  if s.mayClaim && ((s.twin.lost && s.on F.TWIN_STAT_PEER_SEEN) || s.twin.abd) then s.startClaim else s

/-- A CLAIM command (R433). -/
def State.claimCmd (s : State) : State :=
  if s.mayClaim then s.startClaim else s.flag F.TWIN_STAT_CMD_REFUSED

/-- A write of TWIN_CMD; with both bits set it performs nothing. -/
def State.writeTwinCmd (s : State) (v : Word) : State :=
  if v.getLsbD 0 && v.getLsbD 1 then s
  else if v.getLsbD 0 then s.claimCmd
  else if v.getLsbD 1 then s.abdicate
  else s

/-- A claim's sample, 1 µs after it began (R433, R438). -/
def State.claimSample (s : State) : State :=
  if !s.twin.claiming then s
  else if s.twin.peerLow && s.on F.TWIN_CFG_POS then s.releaseToken
  else
    let s1 := (s.put F.TWIN_STAT_HOLD 1).setTwin { s.twin with claiming := false }
    let s2 := (s1.flagRep F.TWIN_STAT_TAKEOVER F.TWIN_STAT_TAKEOVER_REP).setReg R.TWIN_TAKE_AT s.now
    (s2.count 1171 1).twinReport 0x49

/-- The peer's line changes level. -/
def State.peerLine (s : State) (low : Bool) : State :=
  ((s.put F.TWIN_STAT_PEER_HOLD (if low then 1 else 0)).setTwin { s.twin with
    peerLow := low
    abd := s.twin.abd && !low }).tryClaim

/-- Live was reached with START_LEAD, and the peer line has been high for 100 µs (R433). -/
def State.leadClaim (s : State) : State := if s.on F.TWIN_CFG_START_LEAD && s.mayClaim then s.startClaim else s

/-! ## Heartbeats and the servo (R430, R434, R435) -/

/-- The twin port sends a heartbeat, on the lanes that the link has (R301). -/
def State.sendHeartbeat (s : State) : State :=
  if s.on F.TWIN_CFG_EN && !s.ks.off && !s.pwr.dormant && s.twinTx then
    let seq : Nat := (s.get F.TWIN_HB_SEQ_TX + 1) % 2 ^ 16
    let s1 := (s.put F.TWIN_HB_SEQ_TX seq).count 1164 1
    s1.emit (.twin { s1.twinFrame 1 (BitVec.ofNat 16 seq) with
      peerTx := s.twin.ptx
      peerRx := s.twin.prx
      health := (s.reg R.GLOBAL_UNIT_AVAIL).truncate 16
      locked := s.on F.TWIN_STAT_LOCKED
      druses := s.reg R.GLOBAL_DRUSE_AVAIL })
  else s

/-- The offset that a heartbeat shows, in ns. -/
def twinTheta (t1 t2 t3 t4 : Word) (asym : Int) : Int := ((t2 - t1).toInt - (t4 - t3).toInt) / 2 - asym

/-- The servo's step of TB0: latched behind the lock, and lost where one is pending (R37, R435). -/
def State.twinStep (s : State) (theta : Int) : State :=
  if s.on (F.TIME_TB_STAT_STEP_PENDING 0) then s.flag (F.TIME_TB_STAT_STEP_LOST 0)
  else
    let s1 := (s.put (F.TIME_TB_STAT_STEP_PENDING 0) 1).count 1170 1
    { s1 with time := { s1.time with latch := mapIns s1.time.latch 0 (BitVec.ofInt 32 (-theta), 0) } }

/-- The servo's rate of TB0, clamped (R36, R435). -/
def State.twinRate (s : State) (rate : Int) : State :=
  let c := max (-1099511627) (min 1099511627 rate)
  let s1 := s.setReg (R.TIME_TB_RATE 0) (BitVec.ofInt 32 c)
  if c = rate then s1 else s1.flag (F.TIME_TB_STAT_RATE_CLAMP 0)

/-- LOCKED after an offset (R435). -/
def State.twinLocked (s : State) (theta : Int) : State :=
  let run := if theta.natAbs ≤ 8 then min 16 (s.twin.run + 1) else 0
  let s1 := s.setTwin { s.twin with run := run }
  if run = 16 then s1.put F.TWIN_STAT_LOCKED 1 else if 32 < theta.natAbs then s1.put F.TWIN_STAT_LOCKED 0 else s1

/-- The follower's servo on a valid heartbeat of the holder (R435). -/
def State.follow (s : State) (h : TwinFrame) : State :=
  let s0 := if s.on (F.TIME_TB_CFG_TWIN_LOCK 0) then s
    else (s.put (F.TIME_TB_CFG_TWIN_LOCK 0) 1).setTwin { s.twin with integ := 0 }
  if h.peerTx = 0 then s0
  else
    let theta := twinTheta h.ttx s.now h.peerTx h.peerRx (sgn 16 (s.get F.TWIN_ASYM_ASYM))
    let s1 := (s0.setReg R.TWIN_OFFSET (BitVec.ofInt 32 theta)).twinLocked theta
    if 1000 ≤ theta.natAbs then s1.twinStep theta
    else
      let e := theta * 219902326
      let integ : Int := s1.twin.integ.toInt + e / 2 ^ s.get F.TWIN_CFG_KI
      (s1.setTwin { s1.twin with integ := BitVec.ofInt 64 integ }).twinRate (-(e / 2 ^ s.get F.TWIN_CFG_KP + integ))

/-- A valid heartbeat (R430, R435). -/
def State.validHeartbeat (s : State) (h : TwinFrame) : State :=
  let s1 := (s.setReg R.TWIN_PEER_HEALTH (h.health.zeroExtend 32 ||| (if h.locked then 0x10000 else 0))).put
    F.TWIN_HB_SEQ_RX h.seq.toNat
  let s2 := (s1.put F.TWIN_STAT_PEER_OK 1).count 1165 1
  let s3 := if s2.get F.BOOT_STAT_PHASE = 8 then s2.put F.TWIN_STAT_PEER_SEEN 1 else s2
  let s4 := if h.hold && s3.on F.TWIN_CFG_TB_LOCK && !s3.on F.TWIN_STAT_HOLD && !s3.twin.claiming then s3.follow h
    else s3.stopFollowing
  s4.setTwin { s4.twin with
    lost := false
    last := some h.seq
    ptx := h.ttx
    prx := s.now }

/-- A heartbeat arrives (R430). -/
def State.heartbeat (s : State) (h : TwinFrame) : State :=
  if !s.on F.TWIN_CFG_EN || s.pwr.dormant || !s.twinRx || !h.fcsOk || h.typ ≠ 1 then s
  else
    let s1 := if s.on F.TWIN_CFG_CAP_HB then (List.range 32).foldl (fun s j => s.capture j 0x60 true) s else s
    if h.pos == s1.on F.TWIN_CFG_POS then (s1.flag F.TWIN_STAT_POS_CONFLICT).twinReport 0x4B
    else if s1.twin.last = some h.seq then s1
    else s1.validHeartbeat h

/-- Heartbeat loss is declared (R434). -/
def State.heartbeatLost (s : State) : State :=
  if s.on F.TWIN_CFG_EN && !s.pwr.dormant && s.twin.last.isSome && !s.twin.lost then
    let s1 := ((s.flagRep F.TWIN_STAT_PEER_LOST F.TWIN_STAT_PEER_LOST_REP).put F.TWIN_STAT_PEER_OK 0).stopFollowing
    let s2 := (s1.count 1166 1).twinReport 0x48
    (s2.setTwin { s2.twin with lost := true }).tryClaim
  else s

/-- An ABDICATE frame arrives (R433). -/
def State.abdicateFrame (s : State) (h : TwinFrame) : State :=
  if s.on F.TWIN_CFG_EN && !s.pwr.dormant && s.twinRx && h.fcsOk && h.typ = 2 && h.pos != s.on F.TWIN_CFG_POS then
    (s.setTwin { s.twin with abd := true }).tryClaim
  else s

/-- A write of TWIN_CFG: with TB_LOCK = 0 TB0 does not follow (R435), with EN = 0 no line is driven (R431). -/
def State.writeTwinCfg (s : State) (v : Word) : State :=
  let s1 := s.writeFields R.TWIN_CFG v
  let s2 := if s1.on F.TWIN_CFG_TB_LOCK && s1.on F.TWIN_CFG_EN then s1 else s1.stopFollowing
  if s2.on F.TWIN_CFG_EN then s2 else s2.releaseToken

/-! ## STATE frames (R437) -/

/-- A write of a ring's base (`hi` false) or configuration: while EN = 1 only EN is taken. -/
def State.writeTwinRing (s : State) (base cfg : Nat) (en : RF) (mask : Word) (hi : Bool) (v : Word) : State :=
  if !hi then if s.on en then s else s.setReg base (v &&& mask)
  else if s.on en then s.put en (bitsOf v.toNat 13 13)
  else s.writeFields cfg v

/-- The twin port sends the STATE frame of the slot at HEAD. -/
def State.sendState (s : State) : State :=
  if s.on F.TWIN_CFG_EN && !s.pwr.dormant && s.twinTx && s.on F.TWIN_TX_CFG_EN &&
      decide (s.get F.TWIN_TX_HEAD_HEAD ≠ s.get F.TWIN_TX_TAIL_TAIL) then
    let a := s.get F.TWIN_TX_CFG_BASE_HI * 2 ^ 32 + s.get F.TWIN_TX_BASE_LO_BASE / 64 * 64 +
      128 * (s.get F.TWIN_TX_HEAD_HEAD % 2 ^ s.get F.TWIN_TX_CFG_DLOG)
    let s1 := (s.engReadEffect 0x123 a 128 false).put F.TWIN_TX_HEAD_HEAD (s.get F.TWIN_TX_HEAD_HEAD + 1)
    let s2 := (s1.setTwin { s1.twin with stSeq := s1.twin.stSeq + 1 }).count 1167 1
    s2.emit (.twin { s2.twinFrame 0x10 s.twin.stSeq with data := s.engBytes a 128 })
  else s

/-- A STATE frame arrives: its slot, TAIL and the event, or a drop where the ring is full or not in use. -/
def State.stateFrame (s : State) (h : TwinFrame) : State :=
  if !s.on F.TWIN_CFG_EN || s.pwr.dormant || !s.twinRx || !h.fcsOk || h.typ ≠ 0x10 then s
  else if !s.on F.TWIN_RX_CFG_EN ||
      decide ((s.get F.TWIN_RX_TAIL_TAIL + 2 ^ 17 - s.get F.TWIN_RX_HEAD_HEAD) % 2 ^ 17 = 2 ^ s.get F.TWIN_RX_CFG_DLOG) then
    (s.put F.TWIN_RX_DROP_DROP (min (2 ^ 32 - 1) (s.get F.TWIN_RX_DROP_DROP + 1))).count 1169 1
  else
    let a := s.get F.TWIN_RX_CFG_BASE_HI * 2 ^ 32 + s.get F.TWIN_RX_BASE_LO_BASE / 256 * 256 +
      256 * (s.get F.TWIN_RX_TAIL_TAIL % 2 ^ s.get F.TWIN_RX_CFG_DLOG)
    let l := slice h.data 0 128 ++ toBytes 4 h.ttx.toNat ++ toBytes 4 s.now.toNat ++ toBytes 2 h.seq.toNat ++
      List.replicate 118 0
    let s1 := ((s.engWrite 0x123 a l false).put F.TWIN_RX_TAIL_TAIL (s.get F.TWIN_RX_TAIL_TAIL + 1)).count 1168 1
    if s1.on F.TWIN_RX_EVT_EN then
      (s1.sendEvent 0x123 (s1.get F.TWIN_RX_EVT_STRATA) (s1.get F.TWIN_RX_EVT_EVENT_ID)
        (Config.stateWord s1.freeCtr).toNat none).bumpFree
    else s1

/-! ## Commands -/

/-- HEARTBEAT_SEND (R430). -/
def execHeartbeatSend (s : State) : Host.Outcome State Fault Refusal := .next s.sendHeartbeat

/-- HEARTBEAT (R430, R435). -/
def execHeartbeat (h : TwinFrame) (s : State) : Host.Outcome State Fault Refusal := .next (s.heartbeat h)

/-- ABDICATE_FRAME (R433). -/
def execAbdicateFrame (h : TwinFrame) (s : State) : Host.Outcome State Fault Refusal := .next (s.abdicateFrame h)

/-- STATE_FRAME (R437). -/
def execStateFrame (h : TwinFrame) (s : State) : Host.Outcome State Fault Refusal := .next (s.stateFrame h)

/-- STATE_FRAME_SEND (R437). -/
def execStateFrameSend (s : State) : Host.Outcome State Fault Refusal := .next s.sendState

/-- CLAIM (R433). -/
def execClaim (s : State) : Host.Outcome State Fault Refusal := .next s.claimCmd

/-- ABDICATE (R432). -/
def execAbdicate (s : State) : Host.Outcome State Fault Refusal := .next s.abdicate

/-- CLAIM_SAMPLE (R433). -/
def execClaimSample (s : State) : Host.Outcome State Fault Refusal := .next s.claimSample

/-- START_LEAD_CLAIM (R433). -/
def execStartLeadClaim (s : State) : Host.Outcome State Fault Refusal := .next s.leadClaim

end Sys2Proof.Machine
end

