-- ==== Sys2Proof/Machine/Contain.lean ====
section
/-!
DEFINITION. Fault records, containment, the keystone and its sentinels, Safe Halt, environmental faults
(18_faults_and_twin_pair.md, R409 to R428).
-/

namespace Sys2Proof.Machine

/-! ## Holding and discarding (R70, R414, R415) -/

/-- A core is held in core reset. -/
def State.holdCore (s : State) (c : Nat) : State := (s.resetCore c).setHeld c true

/-- Cores are held in core reset. -/
def State.holdCores (s : State) (l : List Nat) : State := l.foldl State.holdCore s

/-- The cores of a druse, of a stratum, of a die. -/
def druseCores (d : Nat) : List Nat := (List.range 8).map (8 * d + ·)
/-- The cores of a stratum. -/
def stratumCores (t : Nat) : List Nat := (List.range 32).map (32 * t + ·)
/-- The cores of a die. -/
def dieCores (n : Nat) : List Nat := (List.range 64).map (64 * n + ·)

/-- Whether a druse is present, not fenced and not isolated. -/
def State.druseUp (s : State) (d : Nat) : Bool :=
  s.bit F.GLOBAL_DRUSE_AVAIL_AVAIL d && !s.stratumIso (d / 4) && !s.dieIso (d / 8)

/-- The transaction IDs reserved at stops whose scope is reset are free again (R278). -/
def State.freeIds (s : State) (nodes : List Nat) : State :=
  { s with resIds := s.resIds.filter (fun x => !nodes.contains (nodeOfInit x.1.toNat)) }

/-- The work of a druse is discarded: at its sieve and at every mill, whose jobs name their druse (R178, R230). -/
def State.discardDruse (s : State) (d : Nat) : State := ((s.sieveDruse d).millsDiscard (· = d)).freeIds [nodeDruse d]

/-- A stratum reset (R70): cores, sieve, mover complex, and the mill's jobs of its druses. -/
def State.stratumReset (s : State) (t : Nat) : State :=
  ((((s.holdCores (stratumCores t)).sieveReset t).moverReset t).millsDiscard (fun d => d / 4 = t)).freeIds
    (nodeStratum t :: (List.range 4).map (fun i => nodeDruse (4 * t + i)))

/-- The keystone closes a stop. -/
def State.closeStop (s : State) (node : Nat) : State :=
  { (s.setStop node { s.stop node with closed := true }) with
    flight := s.flight.zipIdx.map (fun e => if s.reserved node e.2 e.1 then { e.1 with adm := e.1.adm ++ [node] } else e.1) }

/-- A stop is reopened (R280). -/
def State.openStop (s : State) (node : Nat) : State :=
  s.setStop node { s.stop node with
    closed := false
    drained := false }

/-- The cores that a restart releases again: those that it found not held (R415). -/
def State.noteRelease (s : State) (d : Nat) : State :=
  let l := (druseCores d).filter (fun c => !s.held c)
  { s with ks := { s.ks with release := mapIns s.ks.release d (mapGet s.ks.release [] d ++ l) } }

/-- The druse has been restarted too often for another restart (R416). -/
def State.noteRestart (s : State) (d : Nat) : State :=
  let l := (mapGet s.ks.restarts [] d).filter (fun x => decide (s.time.ticks - x < 1000000000)) ++ [s.time.ticks]
  let s1 := (s.put F.GLOBAL_RESTARTS_COUNT (min (2 ^ 32 - 1) (s.get F.GLOBAL_RESTARTS_COUNT + 1))).count 1163 1
  { s1 with ks := { s1.ks with
      restarts := mapIns s1.ks.restarts d l
      limited := if s.get F.GLOBAL_KS_CFG_RST_LIMIT < l.length then setIns s1.ks.limited d else s1.ks.limited } }

/-- A druse restart (R415). -/
def State.restartDruse (s : State) (d : Nat) : State :=
  (((s.noteRelease d).holdCores (druseCores d)).discardDruse d).noteRestart d

/-- A druse is fenced (R416). -/
def State.fenceDruse (s : State) (d : Nat) : State :=
  let s1 := (((s.holdCores (druseCores d)).discardDruse d).closeStop (nodeDruse d)).putBit F.GLOBAL_DRUSE_AVAIL_AVAIL d false
  { s1 with ks := { s1.ks with fenced := setIns s1.ks.fenced d } }

/-- The restart of a druse ends: the noted cores are released once no squash notice of the druse's tokens is outstanding;
none where it has been fenced, isolated or switched off since (R415). -/
def State.restartRelease (s : State) (d : Nat) : State :=
  let v := s.sieve (d / 4)
  let noticed := s.outst.any (fun r =>
    match r.kind with
    | .notice tok _ free => decide (r.init.toNat = sieveInit (d / 4)) && !free &&
        ((decide ((v.tok (tok.toNat % 4096)).state = .squashed) && decide ((v.tok (tok.toNat % 4096)).owner = d)) ||
          decide ((v.tok (tok.toNat % 4096)).state = .free))
    | _ => false)
  match mapFind? s.ks.release d with
  | none => s
  | some l =>
    if s.ks.off || noticed then s
    else
      let s1 := { s with ks := { s.ks with release := mapErase s.ks.release d } }
      let s2 := if s1.ks.release.isEmpty then s1.put F.GLOBAL_KS_CMD_STAT_BUSY 0 else s1
      if s2.druseUp d && s2.druseOn d then l.foldl (fun s c => s.setHeld c false) s2 else s2

/-! ## Isolation (R417 to R419) -/

/-- The stop of an initiator lies on die `n`. -/
def initOnDie (n : Nat) (p : Packet) : Bool := decide (ringOf (nodeOfInit p.init.toNat) = n)

/-- A die is isolated (R418). What its agents send while their work is ended is dropped at the closed bridges. -/
def State.isolateDie (s : State) (n : Nat) : State :=
  if !s.bit F.GLOBAL_UNIT_AVAIL_DIES n then s
  else
    let s1 := ((s.holdCores (dieCores n)).closeStop (nodeBridgeSpine n 0)).closeStop (nodeBridgeSpine n 1)
    let s2 := ((s1.stratumReset (2 * n)).stratumReset (2 * n + 1)).millEndAll n
    let old := s1.flight.length
    let kept := (s2.flight.drop old).filter (fun p => !(initOnDie n p && decide (ringOf p.dst.toNat ≠ n)))
    let s3 := { s2 with
      flight := s2.flight.take old ++ kept
      idWait := s2.idWait.filter (fun e => !initOnDie n e.2) }
    let s4 := (((s3.putBit F.GLOBAL_UNIT_AVAIL_DIES n false).putBit F.GLOBAL_UNIT_AVAIL_MILLS n false).putBit
      F.GLOBAL_UNIT_AVAIL_STRATA (2 * n) false).putBit F.GLOBAL_UNIT_AVAIL_STRATA (2 * n + 1) false
    let s5 := (List.range 8).foldl (fun s i => s.putBit F.GLOBAL_DRUSE_AVAIL_AVAIL (8 * n + i) false) s4
    let s6 := s5.rehome n
    if s6.on (F.PWR_RAIL_CFG_EN_V n) then { s6 with ks := { s6.ks with railDue := setIns s6.ks.railDue n } } else s6

/-- A stratum is isolated, and with the second one its die (R417). -/
def State.isolateStratum (s : State) (t : Nat) : State :=
  if s.stratumIso t then s
  else
    let s1 := (s.holdCores (stratumCores t)).closeStop (nodeStratum t)
    let s2 := (List.range 4).foldl (fun s i => s.closeStop (nodeDruse (4 * t + i))) s1
    let s3 := (s2.stratumReset t).putBit F.GLOBAL_UNIT_AVAIL_STRATA t false
    let s4 := (List.range 4).foldl (fun s i => s.putBit F.GLOBAL_DRUSE_AVAIL_AVAIL (4 * t + i) false) s3
    if s4.stratumIso (2 * (t / 2)) && s4.stratumIso (2 * (t / 2) + 1) then s4.isolateDie (t / 2) else s4.rehome (t / 2)

/-- The rail of an isolated die goes off (R418). -/
def State.dieRailOff (s : State) (n : Nat) : State :=
  if s.ks.railDue.contains n && !s.ks.off then
    let s1 := ((s.put (F.PWR_DIE_STAT_ON n) 0).loseDie n).emit (.rail n false)
    { s1 with
      pwr := { s1.pwr with railOff := setIns s1.pwr.railOff n }
      ks := { s1.ks with railDue := setErase s1.ks.railDue n } }
  else s

/-! ## Fault records (R409, R410, R413) -/

/-- The bytes of a fault record (R410). -/
def recordBytes (r : Report) (seq : Word) : List Byte :=
  toBytes 4 r.stamp.toNat ++ toBytes 4 seq.toNat ++ toBytes 2 (r.index % 2 ^ 12 + r.kind % 16 * 2 ^ 12) ++ toBytes 1 r.code ++
  toBytes 1 r.action ++ toBytes 2 r.init ++ toBytes 1 r.sub ++ [0] ++ toBytes 8 (r.addr % 2 ^ 40) ++ toBytes 8 r.data0 ++
  toBytes 8 r.data1 ++ List.replicate 24 0

/-- Whether a ring lies wholly within the hub buffers or within one enabled host range (R413). -/
def State.ringHome (s : State) (a n : Nat) : Bool :=
  (decide (hubWin ≤ a) && decide (a + n ≤ hubWin + 0x2000000)) ||
  (List.range 8).any (fun r => s.on (F.HOST_RNG_BASE_EN r) &&
    decide (0x8000000000 + s.get (F.HOST_RNG_BASE_BASE r) * 2 ^ 20 ≤ a) &&
    decide (a + n ≤ 0x8000000000 + (s.get (F.HOST_RNG_LIMIT_LIMIT r) + 1) * 2 ^ 20))

/-- The base of the fault ring. -/
def State.frBase (s : State) : Nat := s.get F.GLOBAL_FR_CFG_BASE_HI * 2 ^ 32 + s.get F.GLOBAL_FR_BASE_LO_BASE / 64 * 64

/-- A write of GLOBAL_FR_CFG: EN = 1 is taken only for a ring in its place; records that waited for the ring come first
(R413, R424). -/
def State.writeFrCfg (s : State) (v : Word) : State :=
  let s1 := s.writeFields R.GLOBAL_FR_CFG v
  if !s1.on F.GLOBAL_FR_CFG_EN then s1
  else if !s1.ringHome s1.frBase 0x40000 then (s1.put F.GLOBAL_FR_CFG_EN 0).flag F.GLOBAL_FR_STAT_CFG_BAD
  else { s1 with
    reports := s1.ks.first ++ s1.reports
    ks := { s1.ks with first := [] } }

/-- A write of GLOBAL_FR_RD: discarded where it would leave more than 4,096 records unread (R413). -/
def State.writeFrRd (s : State) (v : Word) : State :=
  if 4096 < (s.reg R.GLOBAL_FR_WR - v).toNat then s.flag F.GLOBAL_FR_STAT_CFG_BAD else s.setReg R.GLOBAL_FR_RD v

/-- Whether the ring takes another record. -/
def State.frOpen (s : State) : Bool := s.on F.GLOBAL_FR_CFG_EN && decide (s.frNext - s.reg R.GLOBAL_FR_RD ≠ 4096)

/-- The record of a report is written as a posted write under its SEQ, or is lost (R413). -/
def State.writeRecord (s : State) (r : Report) : State :=
  if s.frOpen then
    ({ s with frNext := s.frNext + 1 } : State).postWrite 0x131 (s.frBase + 64 * (s.frNext.toNat % 4096)) (recordBytes r s.frNext)
      (.faultRec s.frNext r.code r.action)
  else
    ((s.flagRep F.GLOBAL_FR_STAT_OVF F.GLOBAL_FR_STAT_OVF_REP).put F.GLOBAL_FR_LOST_LOST
      (min (2 ^ 32 - 1) (s.get F.GLOBAL_FR_LOST_LOST + 1))).count 1162 1

/-- A record's DLVD has come: WR advances, and the notifications of R413 are sent. -/
def State.recordDone (s : State) (seq : Word) (code action : Nat) : State :=
  let s1 := s.setReg R.GLOBAL_FR_WR (s.reg R.GLOBAL_FR_WR + 1)
  let s2 := if s1.on F.GLOBAL_FR_NOTIFY_EVT_EN then
      s1.sendEvent 0x131 (s1.get F.GLOBAL_FR_NOTIFY_STRATA) (s1.get F.GLOBAL_FR_NOTIFY_EVENT_ID)
        (seq.toNat % 2 ^ 16 + code % 256 * 2 ^ 16 + action % 8 * 2 ^ 24) none
    else s1
  if s2.on F.GLOBAL_FR_MSI_MSI_EN then s2.msix (s2.get F.GLOBAL_FR_MSI_VECTOR) else s2

/-- The discard notice of an action on a unit (R414). -/
def State.discardNotice (s : State) (action index : Nat) (seq : Word) : State :=
  let s1 := s.sendEvent 0x131 (s.get F.GLOBAL_DISC_NOTIFY_STRATA &&& s.get F.GLOBAL_UNIT_AVAIL_STRATA)
    (s.get F.GLOBAL_DISC_NOTIFY_EVENT_ID) (action + index * 2 ^ 8 + seq.toNat % 2 ^ 16 * 2 ^ 16) none
  if s1.on F.GLOBAL_DISC_MSI_MSI_EN then s1.msix (s1.get F.GLOBAL_DISC_MSI_VECTOR) else s1

/-- The druse, stratum or die that a report's containment applies to (R411, R412). -/
def Report.domain (r : Report) : Nat :=
  match r.action with
  | 2 => r.index / 8
  | 3 => if r.kind = 6 then (macroDruse r.index).getD 0 else r.index
  | 4 => if r.kind = 6 then (r.index - 3760) / 2 else r.index
  | _ => if r.kind = 10 then r.index / 6 else r.index

/-- The containment that a report starts. -/
def State.contain (s : State) (r : Report) : State :=
  let d := r.domain
  match r.action with
  | 2 =>
    if !s.druseUp d then s
    else if s.ks.limited.contains d then (s.fenceDruse d).report (mkReport 11 d 0x04 3)
    else s.restartDruse d
  | 3 => s.fenceDruse d
  | 4 => s.isolateStratum d
  | 5 => s.isolateDie d
  | _ => s

/-- Whether a containment discards work under its own notice: not where the fence of R416 takes the restart's place. -/
def State.notices (s : State) (r : Report) : Bool :=
  (decide (r.action = 2) && !s.ks.limited.contains r.domain) || [3, 4, 5].contains r.action

/-- The keystone takes the oldest report: its record, its containment, the discard notice and the abdication that
ABD_MASK asks for (R409 to R418, R432). -/
def State.faultReport (s : State) : State :=
  match s.reports with
  | [] => s
  | r :: _ =>
    if s.ks.off then s
    else
      let s1 := s.popReport.writeRecord r
      let s2 := s1.contain r
      let s3 := if s.frOpen && s.notices r then s2.discardNotice r.action r.domain s.frNext else s2
      if 2 ≤ r.action && s3.bit F.TWIN_CFG_ABD_MASK (r.action - 2) then s3.abdicate else s3

/-- The report of a fault that a unit's own checkers or monitors find: CORE_PARITY, MILL_FRONT, SIEVE_FAULT, MOVER_FAULT,
STRATUM_CLOCK and DIE_CLOCK (R412). Every other code comes from the step that raises it. -/
def foundFault (code index : Nat) : Option Report :=
  match code with
  | 0x02 => if index < 256 then some (mkReport 1 index 0x02 2) else none
  | 0x1A => if index < 4 then some (mkReport 13 index 0x1A 1) else none
  | 0x20 => if index < 8 then some (mkReport 12 index 0x20 4) else none
  | 0x21 => if index < 8 then some (mkReport 12 index 0x21 4) else none
  | 0x22 => if index < 8 then some (mkReport 12 index 0x22 4) else none
  | 0x29 => if index < 4 then some (mkReport 13 index 0x29 5) else none
  | _ => none

/-- Such a fault is found: it is reported, and MILL_FRONT fences its mill at once (R182). -/
def State.found (s : State) (r : Report) : State := if r.code = 0x1A then s.millFront r.index else s.report r

/-- What the units' own checkers have found is reported: a free value, so any fault of `foundFault`, or none. -/
def State.checkers (s : State) : State :=
  let s1 := s.fresh
  match foundFault (Config.checkerFault s.freeCtr).1 (Config.checkerFault s.freeCtr).2 with
  | some r => s1.found r
  | none => s1

/-! ## Keystone commands (R415 and the GLOBAL registers) -/

/-- Whether a keystone command names a target that exists and is neither fenced nor isolated, with an operation of the
table. -/
def State.ksTarget (s : State) (op i : Nat) : Bool :=
  match op with
  | 1 => s.druseUp (i / 8)
  | 2 => s.druseUp (i / 8)
  | 3 => decide (i < 32) && s.druseUp i
  | 4 => decide (i < 32) && s.druseUp i
  | 5 => decide (i < 8) && !s.stratumIso i && !s.dieIso (i / 2)
  | _ => false

/-- A core leaves core reset; a core without power stays held. -/
def State.releaseCore (s : State) (c : Nat) : State := if s.druseOn (c / 8) then s.setHeld c false else s

/-- A command of GLOBAL_KS_CMD. -/
def State.ksCmd (s : State) (op i : Nat) : State :=
  if s.ks.off || s.on F.GLOBAL_KS_STAT_SAFE_HALT || !s.ksTarget op i then
    s.flagRep F.GLOBAL_KS_CMD_STAT_REFUSED F.GLOBAL_KS_CMD_STAT_REFUSED_REP
  else match op with
    | 1 => s.holdCore i
    | 2 => s.releaseCore i
    | 3 => (s.put F.GLOBAL_KS_CMD_STAT_BUSY 1).restartDruse i
    | 4 => (druseCores i).foldl State.releaseCore s
    | _ => ((List.range 4).foldl (fun s j => s.noteRelease (4 * i + j)) (s.put F.GLOBAL_KS_CMD_STAT_BUSY 1)).stratumReset i

/-- A core has retired nothing for HANG µs (R415). -/
def State.coreHang (s : State) (c : Nat) : State :=
  if !s.ks.off && decide (s.get F.GLOBAL_KS_CFG_HANG ≠ 0) && !s.held c &&
      ((s.core c).run = .running || (s.core c).run = .stopped) then s.report (mkReport 1 c 0x03 2)
  else s

/-! ## Safe Halt and the sentinels (R421 to R424) -/

/-- Safe Halt starts: FAULT_N, the keystone cut, the token released (R423). -/
def State.safeHalt (s : State) : State :=
  if s.on F.GLOBAL_KS_STAT_SAFE_HALT then s
  else
    let s1 := (s.put F.GLOBAL_KS_STAT_SAFE_HALT 1).put F.GLOBAL_KS_STAT_FAULT_N 1
    ({ s1 with ks := { s1.ks with off := true } } : State).abdicate

/-- The halves of the keystone disagree (R421). -/
def State.ksDisagree (s : State) : State := if s.ks.off then s else (s.put F.GLOBAL_KS_STAT_KS_DISAGREE 1).safeHalt

/-- Whether the keystone has been silent for 10 µs (R422). -/
def State.ksQuiet (s : State) : Bool := s.ks.off || decide (s.ks.pulse + 10000 ≤ s.time.ticks)

/-- The keystone's pulse (R422). -/
def State.ksPulse (s : State) : State := if s.ks.off then s else { s with ks := { s.ks with pulse := s.time.ticks } }

/-- The hub sentinel meets silence (R422). -/
def State.ksSilent (s : State) : State := if s.ksQuiet then (s.put F.GLOBAL_KS_STAT_KS_SILENT 1).safeHalt else s

/-- A die sentinel meets silence (R422). -/
def State.sentinelIso (s : State) (n : Nat) : State :=
  if !s.ksQuiet || s.ks.sentIso.contains n then s
  else
    let s1 := ((s.holdCores (dieCores n)).closeStop (nodeBridge n 0)).closeStop (nodeBridge n 1)
    let s2 := s1.putBit F.GLOBAL_KS_STAT_SENT_ISO n true
    { s2 with ks := { s2.ks with sentIso := setIns s2.ks.sentIso n } }

/-- The records that the keystone writes first after the warm reset that ends Safe Halt (R424). -/
def State.haltRecords (s : State) : List Report :=
  (if s.on F.GLOBAL_KS_STAT_HALT_RAIL then [mkReport 8 4 0x28 6]
   else if s.on F.GLOBAL_KS_STAT_KS_DISAGREE then [mkReport 0 0 0x40 6]
   else if s.on F.GLOBAL_KS_STAT_KS_SILENT then [mkReport 0 0 0x41 6] else []) ++
  ((List.range 4).filter (s.bit F.GLOBAL_KS_STAT_SENT_ISO)).map (fun n => mkReport 13 n 0x42 5)

/-! ## Environmental faults (R425, R427, R428) -/

/-- The flag bit of an output pin. -/
def pinFlag (pin : Nat) : RF :=
  if pin < 32 then ⟨R.GLOBAL_PIN_GPIO, pin, 1⟩ else ⟨R.GLOBAL_PIN_OUT, pin - 32, 1⟩

/-- An output has been held at its current limit for 1 µs (R425). -/
def State.pinLimit (s : State) (pin : Nat) : State :=
  let s1 := (s.put (pinFlag pin) 1).put F.GLOBAL_PIN_OUT_LIMIT_REP (min 255 (s.get F.GLOBAL_PIN_OUT_LIMIT_REP + 1))
  let s2 := ((s1.count 1180 1).report { mkReport 9 pin 0x32 0 with data0 := (s1.reg (pinFlag pin).a).toNat }).emit
    (.park pin true)
  { s2 with ks := { s2.ks with parked := setIns s2.ks.parked pin } }

/-- The pin drives again (R425). -/
def State.pinParkEnd (s : State) (pin : Nat) : State :=
  if s.ks.parked.contains pin then
    ({ s with ks := { s.ks with parked := setErase s.ks.parked pin } } : State).emit (.park pin false)
  else s

/-- The lanes of group `g` lose CDR lock, and its ports go down (R427). -/
def State.groupLost (s : State) (g : Nat) : State := (List.range 8).foldl (fun s i => (s.cdrLoss (8 * g + i)).laneDown (8 * g + i)) s

/-- A reference clock is lost (R427): 0 CORE_REFCLK, 1 to 4 FH_REFCLK of groups 0 to 3, 5 CXL_REFCLK, 6 TIME_REFCLK. -/
def State.clockLost (s : State) (k : Nat) : State :=
  if s.on ⟨R.GLOBAL_CLK_STAT, k, 1⟩ then s
  else
    let s1 := ((s.put ⟨R.GLOBAL_CLK_STAT, k, 1⟩ 1).flagRep F.GLOBAL_CLK_STAT_CLK_LOST F.GLOBAL_CLK_STAT_LOST_REP).count 1179 1
    let s2 := s1.report { mkReport 0 0 0x34 0 with data0 := (s1.reg R.GLOBAL_CLK_STAT).toNat }
    if k = 0 || k = 6 then
      (if s2.get F.TIME_REF_CFG_SRC = (if k = 0 then 0 else 1) && s2.time.refGood then s2.loseRef else s2)
    else if k = 5 then (if Config.cxlSris then s2 else s2.linkLost)
    else s2.groupLost (k - 1)

/-- A reference clock is back. -/
def State.clockBack (s : State) (k : Nat) : State := s.put ⟨R.GLOBAL_CLK_STAT, k, 1⟩ 0

/-- A droop detector trips: the die's clocks are halved, the first trip of each 1 ms is recorded, 16 trips within 1 ms are a
die fault (R428). -/
def State.droop (s : State) (e : Nat) : State :=
  let now := s.time.ticks
  let l := (mapGet s.ks.trips [] e).filter (fun x => decide (now - x < 1000000)) ++ [now]
  let first : Bool := match mapFind? s.ks.droopAt e with
    | some x => decide (1000000 ≤ now - x)
    | none => true
  let fault : Bool := decide (e < 4) && decide (16 ≤ l.length)
  let s1 := ((s.putBit F.GLOBAL_DROOP_TRIP e true).put F.GLOBAL_DROOP_TRIPS (min 65535 (s.get F.GLOBAL_DROOP_TRIPS + 1))).count
    1152 1
  let s2 := { s1 with ks := { s1.ks with
      halved := setIns s1.ks.halved e
      trips := mapIns s1.ks.trips e (if fault then [] else l)
      droopAt := if first then mapIns s1.ks.droopAt e now else s1.ks.droopAt } }
  let r (action : Nat) : Report := { mkReport 13 e 0x2A action with data0 := (s2.reg R.GLOBAL_DROOP).toNat }
  let s3 := if first then s2.report (r 0) else s2
  if fault then s3.report (r 5) else s3

/-- The clocks of a die run at full rate again (R428). -/
def State.droopRestore (s : State) (e : Nat) : State := { s with ks := { s.ks with halved := setErase s.ks.halved e } }

/-! ## Commands -/

/-- FAULT_REPORT (R409): the keystone takes the oldest report, after what the units' checkers have found. -/
def execFaultReport (s : State) : Host.Outcome State Fault Refusal := .next s.checkers.faultReport

/-- DIE_RAIL_OFF (R418). -/
def execDieRailOff (n : BitVec 2) (s : State) : Host.Outcome State Fault Refusal := .next (s.dieRailOff n.toNat)

/-- FR_RD_WRITE (R413). -/
def execFrRdWrite (v : BitVec 32) (s : State) : Host.Outcome State Fault Refusal := .next (s.writeFrRd v)

/-- CORE_HANG (R415). -/
def execCoreHang (c : BitVec 8) (s : State) : Host.Outcome State Fault Refusal := .next (s.coreHang c.toNat)

/-- DRUSE_RESTART_RELEASE (R415). -/
def execDruseRestartRelease (d : BitVec 5) (s : State) : Host.Outcome State Fault Refusal := .next (s.restartRelease d.toNat)

/-- HOLD_CORE: GLOBAL_KS_CMD OP 1. -/
def execHoldCore (i : BitVec 8) (s : State) : Host.Outcome State Fault Refusal := .next (s.ksCmd 1 i.toNat)

/-- RELEASE_CORE: GLOBAL_KS_CMD OP 2. -/
def execReleaseCore (i : BitVec 8) (s : State) : Host.Outcome State Fault Refusal := .next (s.ksCmd 2 i.toNat)

/-- DRUSE_RESTART: GLOBAL_KS_CMD OP 3 (R415). -/
def execDruseRestart (i : BitVec 8) (s : State) : Host.Outcome State Fault Refusal := .next (s.ksCmd 3 i.toNat)

/-- RELEASE_DRUSE: GLOBAL_KS_CMD OP 4. -/
def execReleaseDruse (i : BitVec 8) (s : State) : Host.Outcome State Fault Refusal := .next (s.ksCmd 4 i.toNat)

/-- STRATUM_RESET: GLOBAL_KS_CMD OP 5 (R415). -/
def execStratumReset (i : BitVec 8) (s : State) : Host.Outcome State Fault Refusal := .next (s.ksCmd 5 i.toNat)

/-- KS_DISAGREE (R421). -/
def execKsDisagree (s : State) : Host.Outcome State Fault Refusal := .next s.ksDisagree

/-- KEYSTONE_PULSE (R422). -/
def execKeystonePulse (s : State) : Host.Outcome State Fault Refusal := .next s.ksPulse

/-- DIE_SENTINEL_SILENCE (R422). -/
def execDieSentinelSilence (n : BitVec 2) (s : State) : Host.Outcome State Fault Refusal := .next (s.sentinelIso n.toNat)

/-- KS_SILENT (R422). -/
def execKsSilent (s : State) : Host.Outcome State Fault Refusal := .next s.ksSilent

/-- PIN_LIMIT (R425). -/
def execPinLimit (pin : BitVec 6) (s : State) : Host.Outcome State Fault Refusal :=
  if pinOk pin.toNat then .next (s.pinLimit pin.toNat) else .fault .noSuchUnit

/-- PIN_PARK_END (R425). -/
def execPinParkEnd (pin : BitVec 6) (s : State) : Host.Outcome State Fault Refusal :=
  if pinOk pin.toNat then .next (s.pinParkEnd pin.toNat) else .fault .noSuchUnit

/-- CLOCK_LOST (R427). -/
def execClockLost (k : BitVec 3) (s : State) : Host.Outcome State Fault Refusal :=
  if clockOk k.toNat then .next (s.clockLost k.toNat) else .fault .noSuchUnit

/-- CLOCK_RETURN (R427). -/
def execClockReturn (k : BitVec 3) (s : State) : Host.Outcome State Fault Refusal :=
  if clockOk k.toNat then .next (s.clockBack k.toNat) else .fault .noSuchUnit

/-- DROOP (R428). -/
def execDroop (e : BitVec 3) (s : State) : Host.Outcome State Fault Refusal :=
  if dieOk e.toNat then .next (s.droop e.toNat) else .fault .noSuchUnit

/-- DROOP_CLOCK_RESTORE (R428). -/
def execDroopClockRestore (e : BitVec 3) (s : State) : Host.Outcome State Fault Refusal :=
  if dieOk e.toNat then .next (s.droopRestore e.toNat) else .fault .noSuchUnit

end Sys2Proof.Machine
end

