-- ==== Sys2Proof/Machine/Reset.lean ====
section
/-!
DEFINITION. The reset scopes of the whole device: power-on reset, warm reset, the start reset, and what leaving Dormant
resets (R7, R32, R70, R356, R358, R392, R424).
-/

namespace Sys2Proof.Machine

/-- The registers that show the fuses (R360, R399). -/
def State.showFuses (s : State) (applied : Bool) : State :=
  let s1 := (s.setReg R.GLOBAL_SERIAL_LO (s.fuse.serial.extractLsb' 0 32)).setReg R.GLOBAL_SERIAL_HI
    (s.fuse.serial.extractLsb' 32 32)
  let s2 := (s1.put F.BOOT_FUSE_ROLLBACK s.fuse.rollback).put F.BOOT_FUSE_KEY_SET (if s.fuse.key.isEmpty then 0 else 1)
  s2.calFuses applied

/-- The boot controller begins the work of a phase; PHASE shows it, or 5 during copy B's phases up to 4 (R355). -/
def State.enterPhase (s : State) (p : Nat) : State :=
  let s1 := { s with boot := { s.boot with work := p } }
  s1.put F.BOOT_STAT_PHASE (if s1.on F.BOOT_STAT_COPY && decide (p ≤ 4) && !s1.boot.warm then 5 else p)

/-- The device as a power-on reset leaves it: what is not silicon, fuse or the model's own is gone; fuses are read and
repair is applied (R70, R291, R355). -/
def State.powerOn (s : State) (straps : Nat) : State :=
  let t := { State.reset with
    pending := s.pending
    out := s.out
    hostMem := s.hostMem
    freeCtr := s.freeCtr
    fuse := s.fuse
    twin := { TwinSt.reset with peerLow := s.twin.peerLow } }
  let t1 := ((t.put F.GLOBAL_STRAPS_ADDR_SEL straps).put F.TWIN_STAT_PEER_HOLD (if s.twin.peerLow then 1 else 0)).showFuses true
  let t2 := if s.twin.line then t1.emit (.token false) else t1
  t2.repair.enterPhase 1

/-- The druses whose macros repair has fenced stay fenced through warm reset (R70, R292). -/
def State.refence (s : State) : State :=
  let l := s.macros.filter (fun (e : Nat × MacroSt) => e.2.fenced)
  let s1 := (s.put F.MEM_REP_SUM_FENCED l.length).put F.MEM_REP_SUM_REPAIRED
    (s.macros.filter (fun (e : Nat × MacroSt) => !e.2.fenced && decide (0 < e.2.rows + e.2.cols))).length
  l.foldl (fun s e => match macroDruse e.1 with
    | some d =>
      let s2 := (s.putBit F.GLOBAL_DRUSE_AVAIL_AVAIL d false).closeStop (nodeDruse d)
      { s2 with ks := { s2.ks with fenced := setIns s2.ks.fenced d } }
    | none => s) s1

/-- Every block as warm reset leaves it, its registers apart: all work in flight is discarded; memories, routes, repair
state, fuses, timebase values, corridor tables and the link with its decoder stay (R70, R326). Outputs that are high go low
(R54), the twin line is released (R432). After Safe Halt the keystone keeps the records of R424. -/
def State.warmState (s : State) : State :=
  let s0 := ((s.time.pulse.map (fun (e : Nat × Nat × Nat) => e.2.1)).eraseDups).foldl (fun s pin => s.emit (.pin pin false)) s
  let s1 := (if s.twin.line then s0.emit (.token false) else s0).synceLow
  let recs := if s.on F.GLOBAL_KS_STAT_SAFE_HALT then s.haltRecords.map (fun r => { r with stamp := s.now }) else []
  let z := State.reset
  { s1 with
    host := { s1.host with
      biWait := []
      reqs := [] }
    reports := []
    frNext := 0
    perf := []
    perfHi := []
    perfAt := []
    time := { z.time with
      sub := s.time.sub
      refGood := s.time.refGood
      ticks := s.time.ticks }
    cores := []
    snaps := []
    imgDis := []
    flight := []
    outst := []
    resIds := []
    idWait := []
    stops := []
    patrol := []
    tripped := []
    retHold := []
    corr := { s.corr.applied with held := [] }
    pwr := { z.pwr with
      railOff := s.pwr.railOff
      good := s.pwr.good }
    queues := []
    tokCnt := []
    mirrors := []
    sieves := []
    chans := []
    owed := []
    mills := []
    fh := z.fh
    ks := { z.ks with
      pulse := s.time.ticks
      first := recs }
    twin := { TwinSt.reset with peerLow := s.twin.peerLow }
    mgmt := z.mgmt
    boot := { z.boot with warm := true }
    cal := z.cal
    dump := z.dump }

/-- What registers show after a warm reset beyond their reset values: SEAL, straps, fuses, references, the link, the twin line,
the corridor's cleared bits, the fenced druses. -/
def State.warmShow (old s : State) : State :=
  let s1 := ((s.put F.BOOT_STAT_SEALED (old.get F.BOOT_STAT_SEALED)).put F.GLOBAL_STRAPS_ADDR_SEL
    (old.get F.GLOBAL_STRAPS_ADDR_SEL)).put F.TWIN_STAT_PEER_HOLD (if s.twin.peerLow then 1 else 0)
  let s2 := (s1.put F.TIME_REF_STAT_LOCK (old.get F.TIME_REF_STAT_LOCK)).put F.TIME_REF_STAT_HOLDOVER
    (old.get F.TIME_REF_STAT_HOLDOVER)
  let s3 := (s2.setReg R.GLOBAL_CLK_STAT (old.reg R.GLOBAL_CLK_STAT &&& 0x7F)).setReg R.HOST_LINK (old.reg R.HOST_LINK)
  (s3.clearTrackers.clearPending.clearValid).refence

/-- Warm reset (R70, R358): the start runs again from phase 2; without an image the device stays so (R357). -/
def State.warmReset (s : State) : State :=
  let s1 := (State.warmShow s s.warmState.warmRegs).showFuses true
  let s2 := { s1 with boot := { s1.boot with warm := s1.on F.BOOT_STAT_SEALED } }
  if s.get F.BOOT_STAT_PHASE = 9 then
    (s2.setReg R.BOOT_STAT (s.reg R.BOOT_STAT)).enterPhase 9
  else if s2.boot.warm then (s2.put F.BOOT_STAT_COPY (s.get F.BOOT_LOADED_COPY)).enterPhase 2
  else s2.enterPhase 2

/-- Leaving Dormant (R392): every block but PWR and BOOT resets as at warm reset, taps keep APPLIED (R407), the timebases
resume with DORMANT_GAP (R41), and the start of R358 runs. The queue states, held through Dormant, stay (R390). -/
def State.dormantReset (s : State) : State :=
  let keep (a : Nat) : Bool := (decide (0x8000000 ≤ a) && decide (a < 0x9000000)) || decide (0xF000000 ≤ a)
  let w := s.warmState.linkReset
  let w1 := { w with
    queues := s.queues
    pwr := { w.pwr with
      hubLow := false
      wakeDue := true } }
  let w2 := ((s.regs.map (fun (e : Nat × Word) => e.1)).filter (fun a => !keep a)).foldl
    (fun t a => t.setReg a (warmWord a (s.reg a))) w1
  let w3 := (List.range 146).foldl (fun t i =>
    (t.put (F.CAL_ITEM_APPLIED_APPLIED i) (s.get (F.CAL_ITEM_APPLIED_APPLIED i))).calRefresh i)
    ((State.warmShow s w2).showFuses false)
  ((w3.put F.TIME_REF_STAT_DORMANT_GAP 1).put F.BOOT_STAT_COPY (s.get F.BOOT_LOADED_COPY)).enterPhase 2

/-- The start reset after a failed copy A (R356): as power-on reset on every block but BOOT; no memory is written. -/
def State.startReset (s : State) : State :=
  let t := s.powerOn (s.get F.GLOBAL_STRAPS_ADDR_SEL)
  let t1 := { t with
    mem := s.mem
    badPar := s.badPar
    time := { t.time with ticks := s.time.ticks } }
  ((t1.setReg R.BOOT_STAT (s.reg R.BOOT_STAT)).put F.BOOT_STAT_COPY 1).enterPhase 1

end Sys2Proof.Machine
end

