-- ==== Sys2Proof/Machine/Power.lean ====
section
/-!
DEFINITION. P-levels, rails, druse switches, sleep and wake (16_power_and_wake.md, R370 to R392), with the wake's scan of
the retention banks (12, R294).
-/

namespace Sys2Proof.Machine

/-- The sequencer's own state is replaced. -/
def State.setPwr (s : State) (p : PwrSt) : State := { s with pwr := p }

/-! ## P-levels (R370 to R376) -/

/-- The voltage of a level, in mV. -/
def levelMv (l : Nat) : Nat := [850, 800, 760, 720, 680, 650, 620, 600].getD l 600

/-- A voltage goes to a rail over AVSBus (R373). -/
def State.avsWrite (s : State) (r mv : Nat) : State := (s.count 1141 1).emit (.avs (s.get (F.PWR_RAIL_CFG_AVS_RAIL r)) mv)

/-- A die's step is replaced by one that waits. -/
def State.setStep (s : State) (n : Nat) (k : StepKind) (l : Nat) : State :=
  s.setPwr { s.pwr with steps := mapIns s.pwr.steps n (k, l) }

/-- The next step of a die toward TARGET, where none is in progress and the device is neither asleep nor on its way (R372,
R374, R388). -/
def State.dieStep (s : State) (n : Nat) : State :=
  let clk := s.get (F.PWR_DIE_STAT_CLK n)
  let volt := s.get (F.PWR_DIE_STAT_VOLT n)
  let t := s.get (F.PWR_DIE_REQ_TARGET n)
  if (mapFind? s.pwr.steps n).isSome || !s.dieOn n || decide (1 < s.get F.PWR_STAT_STATE) then s
  else if clk < t then (s.put (F.PWR_DIE_STAT_BUSY n) 1).setStep n .clkDown t
  else if t < clk then
    if t < volt then ((s.put (F.PWR_DIE_STAT_BUSY n) 1).avsWrite n (levelMv t)).setStep n .vUp t
    else (s.put (F.PWR_DIE_STAT_BUSY n) 1).setStep n .clkUp t
  else if volt < t then ((s.put (F.PWR_DIE_STAT_BUSY n) 1).avsWrite n (levelMv t)).setStep n .vDown t
  else s

/-- A die's step ends. -/
def State.stepEnd (s : State) (n : Nat) : State :=
  (s.setPwr { s.pwr with steps := mapErase s.pwr.steps n }).put (F.PWR_DIE_STAT_BUSY n) 0

/-- A write of TARGET (R371, R374). -/
def State.writeTarget (s : State) (n : Nat) (v : Word) : State := (s.writeFields (R.PWR_DIE_REQ n) v).dieStep n

/-- A die's clock change finishes (R372). -/
def State.clockDone (s : State) (n : Nat) : State :=
  match mapFind? s.pwr.steps n with
  | some (.clkDown, l) =>
    let s1 := s.put (F.PWR_DIE_STAT_CLK n) l
    if s1.get (F.PWR_DIE_STAT_VOLT n) < l then (s1.avsWrite n (levelMv l)).setStep n .vDown l
    else ((s1.stepEnd n).count (1133 + n) 1).dieStep n
  | some (.clkUp, l) => (((s.put (F.PWR_DIE_STAT_CLK n) l).stepEnd n).count (1137 + n) 1).dieStep n
  | _ => s

/-- A die's rail reports VDone (R372, R373). -/
def State.dieVdone (s : State) (n : Nat) : State :=
  match mapFind? s.pwr.steps n with
  | some (.vDown, l) => (((s.put (F.PWR_DIE_STAT_VOLT n) l).stepEnd n).count (1133 + n) 1).dieStep n
  | some (.vUp, l) => s.setStep n .settle l
  | _ => s

/-- The 10 µs after VDone on the way up end (R372). -/
def State.settleEnd (s : State) (n : Nat) : State :=
  match mapFind? s.pwr.steps n with
  | some (.settle, l) => (s.put (F.PWR_DIE_STAT_VOLT n) l).setStep n .clkUp l
  | _ => s

/-! ## Wake events (R385) -/

/-- The wake event is delivered. -/
def State.wakeEvent (s : State) : State :=
  let s1 := s.sendEvent 0x131 (s.get F.PWR_WAKE_EVT_STRATA &&& s.get F.GLOBAL_UNIT_AVAIL_STRATA)
    (s.get F.PWR_WAKE_EVT_EVENT_ID) (s.get F.PWR_WAKE_PEND_PEND) none
  if s1.on F.PWR_WAKE_CFG_MSI_EN then s1.msix (s1.get F.PWR_WAKE_CFG_VECTOR) else s1

/-- The enabled pending wake sources among some. -/
def State.wakes (s : State) (mask : Nat) : Bool :=
  decide (s.get F.PWR_WAKE_PEND_PEND &&& s.get F.PWR_WAKE_EN_EN &&& mask ≠ 0)

/-! ## Druses (R381) -/

/-- A compute die is without power: its druses and memories lose it. -/
def State.dieDark (s : State) (n : Nat) : State :=
  (List.range 8).foldl (fun s i => s.putBit F.PWR_DRUSE_STAT_ON (8 * n + i) false)
    (((s.put (F.PWR_DIE_STAT_ON n) 0).put (F.PWR_DIE_STAT_BUSY n) 0).setPwr { s.pwr with steps := mapErase s.pwr.steps n }
      |>.loseDie n)

/-- A write of 1 to a druse's bit of PWR_DRUSE_OFF: its cores are held, its work discarded, its stop closed. Outside Active and
Idle, or without power, the bit is only recorded. -/
def State.switchOff (s : State) (d : Nat) : State :=
  if s.ks.fenced.contains d then s
  else
    let s1 := s.putBit F.PWR_DRUSE_OFF_OFF d true
    if decide (1 < s1.get F.PWR_STAT_STATE) || !s1.druseOn d || s1.pwr.draining.contains d then s1
    else
      let s2 := ((s1.holdCores (druseCores d)).discardDruse d).closeStop (nodeDruse d)
      s2.setPwr { s2.pwr with
        draining := setIns s2.pwr.draining d
        settling := setErase s2.pwr.settling d }

/-- A write of 0: the switch closes. -/
def State.switchOn (s : State) (d : Nat) : State :=
  if s.ks.fenced.contains d then s
  else
    let s1 := s.putBit F.PWR_DRUSE_OFF_OFF d false
    if decide (1 < s1.get F.PWR_STAT_STATE) || !s1.dieOn (d / 8) || s1.bit F.PWR_DRUSE_STAT_ON d || s1.pwr.draining.contains d then s1
    else
      let s2 := s1.putBit F.PWR_DRUSE_STAT_ON d true
      s2.setPwr { s2.pwr with settling := setIns s2.pwr.settling d }

/-- A write of PWR_DRUSE_OFF. -/
def State.writeDruseOff (s : State) (v : Word) : State :=
  (List.range 32).foldl (fun s d =>
    if v.getLsbD d == s.bit F.PWR_DRUSE_OFF_OFF d then s else if v.getLsbD d then s.switchOff d else s.switchOn d) s

/-- A drained druse's power switch opens; a druse whose bit has been written 0 since is switched on again. -/
def State.switchOpen (s : State) (d : Nat) : State :=
  if s.pwr.draining.contains d && ((s.stop (nodeDruse d)).drained || s.pwr.forced.contains (nodeDruse d)) then
    let s1 := (s.putBit F.PWR_DRUSE_STAT_ON d false).loseDruse d
    let s2 := s1.setPwr { s1.pwr with
      draining := setErase s1.pwr.draining d
      forced := setErase s1.pwr.forced (nodeDruse d) }
    if s2.bit F.PWR_DRUSE_OFF_OFF d then s2 else s2.switchOn d
  else s

/-- 2 µs after switch-on the stop of a druse that is neither isolated nor fenced reopens. -/
def State.switchSettled (s : State) (d : Nat) : State :=
  if s.pwr.settling.contains d then
    let s1 := s.setPwr { s.pwr with settling := setErase s.pwr.settling d }
    if s1.druseUp d then s1.openStop (nodeDruse d) else s1
  else s

/-! ## Sleep entry (R382, R383, R386, R387, R390) -/

/-- A wake cancels an entry (R383). -/
def State.cancelSleep (s : State) : State :=
  (((s.setPwr { s.pwr with req := none }).flagRep F.PWR_STAT_WAKE_RACE F.PWR_STAT_WAKE_RACE_REP).count 1151 1).wakeEvent

/-- A sleep request (R382): refused while the device enters or leaves a state, and for Standby in Standby; cancelled by an
enabled wake source that is pending (R383). -/
def State.sleepRequest (s : State) (deep : Bool) : State :=
  let st := s.get F.PWR_STAT_STATE
  if s.pwr.dormant || decide (st = 2) || decide (st = 4) || (decide (st = 3) && !deep) then s.flag F.PWR_STAT_REQ_REFUSED
  else if s.wakes 15 then s.cancelSleep
  else s.setPwr { s.pwr with req := some deep }

/-- A write of PWR_SLEEP_REQ. -/
def State.writeSleepReq (s : State) (v : Word) : State :=
  match bitsOf v.toNat 1 0 with
  | 1 => s.sleepRequest false
  | 2 => s.sleepRequest true
  | _ => s.flag F.PWR_STAT_REQ_REFUSED

/-- The compute dies that R387 and R388 act on: those not isolated. -/
def State.liveDies (s : State) : List Nat := (List.range 4).filter (fun n => !s.dieIso n)

/-- A rail is switched off, where the device switches it (R378). -/
def State.railDown (s : State) (r : Nat) : State :=
  if s.on (F.PWR_RAIL_CFG_EN_V r) && !s.pwr.railOff.contains r then
    (s.setPwr { s.pwr with
      railOff := setIns s.pwr.railOff r
      good := setErase s.pwr.good r }).emit (.rail r false)
  else s

/-- A rail is switched on. -/
def State.railUp (s : State) (r : Nat) : State :=
  if s.pwr.railOff.contains r then (s.setPwr { s.pwr with railOff := setErase s.pwr.railOff r }).emit (.rail r true) else s

/-- The device leaves Standby (R385, R388); the corridor engine's trackers restart before its first tick (R185). -/
def State.leaveStandby (s : State) : State :=
  ((((s.put F.PWR_STAT_STATE 4).setReg R.PWR_WAKE_AT s.now).setPwr { s.pwr with phase := .hubUp })).clearTrackers.avsWrite 4 750

/-- The device leaves Dormant (R385, R392). -/
def State.leaveDormant (s : State) : State :=
  let s1 := ((s.railUp 4).dormantReset.put F.PWR_STAT_STATE 4)
  s1.setReg R.PWR_WAKE_AT s1.now

/-- Standby is reached; a wake source that fired during the entry ends it at once (R383). -/
def State.inStandby (s : State) : State :=
  let s1 := (s.put F.PWR_STAT_STATE 3).setPwr { s.pwr with phase := .none }
  if s1.wakes 14 then s1.leaveStandby else s1

/-- The hub die is at its low point; the link enters L1, and an entry to Dormant waits for the link (R387, R390). -/
def State.hubIsLow (s : State) : State :=
  let s1 := { s with host := { s.host with l1 := s.linkIsUp } }
  let s2 := s1.setPwr { s1.pwr with hubLow := true }
  if s2.pwr.deep then s2.setPwr { s2.pwr with phase := .link } else s2.inStandby

/-- Once the dies have drained: sentinels armed, compute rails off, groups idle, the hub die on its way down (R387 steps 5 to
8). Banks not armed lose their contents (R293). -/
def State.afterDrain (s : State) : State :=
  let s1 := s.armBanks
  let s2 := (List.range 4).foldl (fun s n =>
    [4 * n, 4 * n + 1, 4 * n + 2, 4 * n + 3].foldl (fun s b => if s.bit F.MEM_RET_STAT_ARMED b then s else s.loseBank b)
      (if s.on (F.PWR_RAIL_CFG_EN_V n) then (s.railDown n).dieDark n else s)) s1
  (s2.setPwr { s2.pwr with
    phase := .hubDown
    forced := [] }).avsWrite 4 650

/-- Whether both bridges of every die have drained, or been given up (R381, R387). -/
def State.drainedAll (s : State) : Bool :=
  s.liveDies.all (fun n => [0, 1].all (fun b =>
    (s.stop (nodeBridgeSpine n b)).drained || s.pwr.forced.contains (nodeBridgeSpine n b)))

/-- The drain of a sleep entry ends when every bridge has. -/
def State.drainStep (s : State) : State :=
  if decide (s.pwr.phase = .drain) && s.drainedAll then s.afterDrain else s

/-- Once the device cache is flushed: cores held, the work of the compute dies ended, their bridges closed (R387 steps 3, 4;
R407). -/
def State.afterFlush (s : State) : State :=
  if decide (s.pwr.phase = .flush) && !s.on F.HOST_STAT_DC_BUSY then
    let s1 := (List.range 8).foldl State.stratumReset s
    let s2 := ((List.range 4).foldl State.millEndAll s1).calStop [0, 1, 2, 3]
    let s3 := s2.liveDies.foldl (fun s n => (s.closeStop (nodeBridgeSpine n 0)).closeStop (nodeBridgeSpine n 1)) s2
    (s3.setPwr { s3.pwr with phase := .drain }).drainStep
  else s

/-- The commit cycle of a request (R383, R386): cancelled by an enabled pending wake source, else the entry runs. -/
def State.commitCycle (s : State) : State :=
  match s.pwr.req with
  | none => s
  | some deep =>
    if s.wakes 15 then s.cancelSleep
    else
      let s1 := (s.setPwr { s.pwr with
        req := none
        deep := deep }).count 1150 1
      let standby : Bool := decide (s.get F.PWR_STAT_STATE = 3)
      let s2 := (s1.put F.PWR_STAT_STATE 2).abdicate
      if standby then s2.setPwr { s2.pwr with phase := .link }
      else (s2.dcFlush).setPwr { s2.pwr with phase := .flush }

/-- The link is in L2 or has been dropped: outputs low, VDD_H off, Dormant (R390); a wake source that fired meanwhile ends it
at once. -/
def State.enterDormant (s : State) : State :=
  if s.pwr.phase ≠ .link then s
  else
    let s1 := s.linkReset
    let s2 := ((s1.time.pulse.map (fun (e : Nat × (Nat × Nat)) => e.2.1)).eraseDups).foldl (fun s p => s.emit (.pin p false)) s1
    let s3 := { s2 with time := { s2.time with pulse := [] } }
    let s4 := (List.range 16).foldl (fun s b => (s.loseBank b).putBit F.MEM_RET_STAT_ARMED b false) { s3 with retHold := [] }
    let s5 := ((s4.railDown 4).loseHub).calStop [0, 1, 2, 3, 4]
    let s6 := s5.setPwr { s5.pwr with
      phase := .none
      dormant := true }
    if s6.wakes 7 then s6.leaveDormant else s6

/-! ## Standby exit (R388, R389, R294) -/

/-- The exit is complete: ACTIVE, druse switches as recorded in Standby (R394), the dies toward TARGET, the wake event (R388
steps 7, 8). -/
def State.exitDone (s : State) : State :=
  let s1 := (s.put F.PWR_STAT_STATE 0).setPwr { s.pwr with phase := .none }
  let s2 := (List.range 32).foldl (fun s d => if s.bit F.PWR_DRUSE_OFF_OFF d then s.switchOff d else s) s1
  ((List.range 4).foldl State.dieStep s2).wakeEvent.tryClaim

/-- The banks are released: bridges reopen, and the image is reloaded where RELOAD asks (R388 steps 4 to 6). -/
def State.banksDone (s : State) : State :=
  let s1 := s.liveDies.foldl (fun s n => (s.openStop (nodeBridgeSpine n 0)).openStop (nodeBridgeSpine n 1)) s
  if s1.on F.PWR_CTRL_RELOAD then s1.setPwr { s1.pwr with phase := .reload } else s1.exitDone

/-- Whether every bank of a powered die has been released. -/
def State.banksReleased (s : State) : Bool := (List.range 16).all (fun b => !s.dieOn (b / 4) || s.bankReleased b)

/-- The check of a bank on wake ends (R294). -/
def State.scanEnd (s : State) (b : Nat) : State :=
  if decide (s.pwr.phase = .banks) && s.dieOn (b / 4) && !s.bankReleased b then
    let s1 := s.bankEnd b
    if s1.banksReleased then s1.banksDone else s1
  else s

/-- A compute die starts at P7 with its powered druses and cleared sieves (R287, R388 step 2). -/
def State.dieStart (s : State) (n : Nat) : State :=
  let s1 := ((s.put (F.PWR_DIE_STAT_ON n) 1).put (F.PWR_DIE_STAT_CLK n) 7).put (F.PWR_DIE_STAT_VOLT n) 7
  let s2 := (List.range 8).foldl (fun s i =>
    let d := 8 * n + i
    if s.bit F.PWR_DRUSE_OFF_OFF d || s.ks.fenced.contains d then s
    else
      let s1 := s.putBit F.PWR_DRUSE_STAT_ON d true
      if s1.druseUp d then s1.openStop (nodeDruse d) else s1) s1
  ((s2.setSieve (2 * n) Sieve.reset).setSieve (2 * n + 1) Sieve.reset).ctlPower n

/-- Whether a compute rail that was switched on counts as on, or has been given up (R378). -/
def State.railReady (s : State) (r : Nat) : Bool :=
  !s.on (F.PWR_RAIL_CFG_EN_V r) || !s.on (F.PWR_RAIL_CFG_PG_V r) || s.pwr.good.contains r || s.pwr.railOff.contains r

/-- The compute rails are on: the dies start, and their banks are checked (R388 step 3). -/
def State.railsStep (s : State) : State :=
  if decide (s.pwr.phase = .rails) && (List.range 4).all s.railReady then
    let s1 := (s.liveDies.filter (fun n => !s.pwr.railOff.contains n)).foldl State.dieStart s
    let s2 := s1.setPwr { s1.pwr with phase := .banks }
    if s2.banksReleased then s2.banksDone else s2
  else s

/-- The hub die is at full voltage and clock again: the compute rails go on at 0.60 V (R388 steps 1, 2). -/
def State.hubIsUp (s : State) : State :=
  let s1 := s.setPwr { s.pwr with
    hubLow := false
    phase := .rails }
  (s1.liveDies.foldl (fun s n => (s.railUp n).avsWrite n 600) s1).railsStep

/-! ## Rails (R373, R378) -/

/-- VDone of a rail: a die's step, or the hub die's move between its two points (R372, R377). -/
def State.vdone (s : State) (r : Nat) : State :=
  if r < 4 then s.dieVdone r
  else match s.pwr.phase with
    | .hubDown => s.hubIsLow
    | .hubUp => s.hubIsUp
    | _ => s

/-- AVS_FAIL with its record. -/
def State.avsFlag (s : State) (r : Nat) : State :=
  let s1 := s.flag F.PWR_STAT_AVS_FAIL
  s1.report { mkReport 8 r 0x2D 0 with data0 := (s1.reg R.PWR_STAT).toNat }

/-- A rail has not reported VDone 1 ms after its write (R373): the die stays at its CLK level; the hub die's move goes on. -/
def State.avsFail (s : State) (r : Nat) : State :=
  if r < 4 then
    match mapFind? s.pwr.steps r with
    | some (.vDown, _) => (s.avsFlag r).stepEnd r
    | some (.vUp, _) => (s.avsFlag r).stepEnd r
    | _ => s
  else match s.pwr.phase with
    | .hubDown => (s.avsFlag 4).hubIsLow
    | .hubUp => (s.avsFlag 4).hubIsUp
    | _ => s

/-- A rail's power-good has been asserted for 10 µs (R378). -/
def State.powerGood (s : State) (r : Nat) : State :=
  if s.pwr.railOff.contains r then s else (s.setPwr { s.pwr with good := setIns s.pwr.good r }).railsStep

/-- A watched rail that should be on is not good (R378): its die is lost and faulted, or with VDD_H the device halts (R424). -/
def State.pgFail (s : State) (r : Nat) : State :=
  if !s.on (F.PWR_RAIL_CFG_EN_V r) || !s.on (F.PWR_RAIL_CFG_PG_V r) || s.pwr.railOff.contains r then s
  else
    let s1 := (s.flag F.PWR_STAT_PG_FAIL).setPwr { s.pwr with good := setErase s.pwr.good r }
    if r < 4 then
      let s2 := (s1.dieDark r).report { mkReport 8 r 0x28 5 with data0 := (s1.reg R.PWR_STAT).toNat }
      (if s2.pwr.phase = .rails then s2.setPwr { s2.pwr with railOff := setIns s2.pwr.railOff r } else s2).railsStep
    else ((s1.loseHub.releaseToken).put F.GLOBAL_KS_STAT_HALT_RAIL 1).safeHalt

/-- The drain limit passes at a stop that the sequencer waits for (R381). -/
def State.drainForce (s : State) (node : Nat) : State :=
  let waits : Bool := s.pwr.draining.any (fun d => decide (nodeDruse d = node)) ||
    (decide (s.pwr.phase = .drain) && s.liveDies.any (fun n =>
      decide (nodeBridgeSpine n 0 = node) || decide (nodeBridgeSpine n 1 = node)))
  if waits && !(s.stop node).drained && !s.pwr.forced.contains node then
    let s1 := s.flag F.PWR_STAT_DRAIN_FORCED
    let s2 := s1.report { mkReport 7 node 0x2E 0 with data0 := (s1.reg R.PWR_STAT).toNat }
    (s2.setPwr { s2.pwr with forced := setIns s2.pwr.forced node }).drainStep
  else s

/-! ## Wake sources (R384, R391) -/

/-- A wake source fires: its bit sets in every state; enabled, it wakes the device from the states that R384 gives. -/
def State.wakeFire (s : State) (i : Nat) : State :=
  let s1 := s.putBit F.PWR_WAKE_PEND_PEND i true
  if !s1.bit F.PWR_WAKE_EN_EN i then s1
  else if s1.pwr.dormant then (if i < 3 then s1.leaveDormant else s1)
  else if decide (s1.get F.PWR_STAT_STATE = 3) && decide (0 < i) then s1.leaveStandby
  else s1

/-- The heartbeat loss of R434, which in Standby is wake source 2. -/
def State.heartbeatLoss (s : State) : State :=
  let s1 := s.heartbeatLost
  if !s.twin.lost && s1.twin.lost && decide (s.get F.PWR_STAT_STATE = 3) then s1.wakeFire 2 else s1

/-- The peer's token line changes level, which in Dormant is wake source 2. -/
def State.tokenChange (s : State) (low : Bool) : State :=
  if s.pwr.dormant then
    if low = s.twin.peerLow then s else (s.setTwin { s.twin with peerLow := low }).wakeFire 2
  else s.peerLine low

/-- The I2C front end matches an address (R391). -/
def State.i2cMatch (s : State) (a : Nat) : State := if a = 0x60 + s.get F.GLOBAL_STRAPS_ADDR_SEL then s.wakeFire 0 else s

/-- A compare unit acts on its instant; a firing of the unit that PWR_WAKE_CFG names is wake source 3 (R384). -/
def State.compareWake (s : State) (k : Nat) : State :=
  let fires : Bool := s.on (F.TIME_CMP_STAT_ARMED k) && (s.cmpLive k).due && s.on (F.TIME_CMP_CFG_EN k)
  let s1 := s.compareFire k
  if fires && decide (s.get F.PWR_WAKE_CFG_CMP = k) then s1.wakeFire 3 else s1

/-! ## Commands -/

/-- TARGET (R371). -/
def execTarget (n : BitVec 2) (v : BitVec 3) (s : State) : Host.Outcome State Fault Refusal :=
  .next (s.writeTarget n.toNat (v.zeroExtend 32))

/-- CLOCK_STEP_DONE (R372). -/
def execClockStepDone (n : BitVec 2) (s : State) : Host.Outcome State Fault Refusal := .next (s.clockDone n.toNat)

/-- A command on rail `r`. -/
def onRail (r : Nat) (s : State) : Host.Outcome State Fault Refusal := if dieOk r then .next s else .fault .noSuchUnit

/-- VDONE (R372). -/
def execVdone (r : BitVec 3) (s : State) : Host.Outcome State Fault Refusal := onRail r.toNat (s.vdone r.toNat)

/-- VOLTAGE_SETTLE_END (R372). -/
def execVoltageSettleEnd (n : BitVec 2) (s : State) : Host.Outcome State Fault Refusal := .next (s.settleEnd n.toNat)

/-- AVS_FAIL (R373). -/
def execAvsFail (r : BitVec 3) (s : State) : Host.Outcome State Fault Refusal := onRail r.toNat (s.avsFail r.toNat)

/-- POWER_GOOD (R378). -/
def execPowerGood (r : BitVec 3) (s : State) : Host.Outcome State Fault Refusal := onRail r.toNat (s.powerGood r.toNat)

/-- PG_FAIL (R378). -/
def execPgFail (r : BitVec 3) (s : State) : Host.Outcome State Fault Refusal := onRail r.toNat (s.pgFail r.toNat)

/-- DRUSE_OFF (R381). -/
def execDruseOff (d : BitVec 5) (s : State) : Host.Outcome State Fault Refusal := .next (s.switchOff d.toNat)

/-- DRUSE_POWER_SWITCH_OPEN (R381). -/
def execDrusePowerSwitchOpen (d : BitVec 5) (s : State) : Host.Outcome State Fault Refusal := .next (s.switchOpen d.toNat)

/-- DRAIN_FORCED (R381). -/
def execDrainForced (node : BitVec 8) (s : State) : Host.Outcome State Fault Refusal :=
  if stopOk node.toNat then .next (s.drainForce node.toNat) else .fault .noSuchUnit

/-- DRUSE_ON (R381). -/
def execDruseOn (d : BitVec 5) (s : State) : Host.Outcome State Fault Refusal := .next (s.switchOn d.toNat)

/-- DRUSE_POWER_SETTLE (R381). -/
def execDrusePowerSettle (d : BitVec 5) (s : State) : Host.Outcome State Fault Refusal := .next (s.switchSettled d.toNat)

/-- SLEEP_REQUEST_STANDBY (R382). -/
def execSleepRequestStandby (s : State) : Host.Outcome State Fault Refusal := .next (s.sleepRequest false)

/-- SLEEP_REQUEST_DORMANT (R382). -/
def execSleepRequestDormant (s : State) : Host.Outcome State Fault Refusal := .next (s.sleepRequest true)

/-- COMMIT_CYCLE (R383). -/
def execCommitCycle (s : State) : Host.Outcome State Fault Refusal := .next s.commitCycle

/-- DC_FLUSH_DONE (R342); a sleep entry that waits for the flush goes on (R387). -/
def execDcFlushDone (s : State) : Host.Outcome State Fault Refusal := .next s.dcFlushEnd.afterFlush

/-- DORMANT_LINK_WAIT_END (R390). -/
def execDormantLinkWaitEnd (s : State) : Host.Outcome State Fault Refusal := .next s.enterDormant

/-- WAKE_N (R384). -/
def execWakeN (s : State) : Host.Outcome State Fault Refusal := .next (s.wakeFire 1)

/-- I2C_ADDRESS_MATCH (R391). -/
def execI2cAddressMatch (a : BitVec 7) (s : State) : Host.Outcome State Fault Refusal := .next (s.i2cMatch a.toNat)

/-- TWIN_TOKEN_CHANGE (R384, R431). -/
def execTwinTokenChange (peerLow : Bool) (s : State) : Host.Outcome State Fault Refusal := .next (s.tokenChange peerLow)

/-- HEARTBEAT_LOSS (R434). -/
def execHeartbeatLoss (s : State) : Host.Outcome State Fault Refusal := .next s.heartbeatLoss

/-- RETENTION_SCAN_END (R294). -/
def execRetentionScanEnd (b : BitVec 4) (s : State) : Host.Outcome State Fault Refusal := .next (s.scanEnd b.toNat)

end Sys2Proof.Machine
end

