-- ==== Sys2Proof/Machine/Boot.lean ====
section
/-!
DEFINITION. The start sequence but for the image itself, Live, the rollback fuses and the flash window
(15_bedrock_image_and_start.md, R346, R355 to R360).
-/

namespace Sys2Proof.Machine

/-- The boot controller's own state is replaced. -/
def State.setBoot (s : State) (b : BootSt) : State := { s with boot := b }

/-! ## Phases 1 and 2, No Image (R355, R357) -/

/-- Control memory has been cleared: Memory_Active becomes 1 (R287, R338). -/
def State.ctlCleared (s : State) : State :=
  if s.boot.work ≠ 1 then s
  else
    { s with
      queues := []
      tokCnt := []
      mirrors := []
      sieves := []
      corr := ⟨[], [], []⟩
      ctlErr := []
      host := { s.host with memActive := true } }.enterPhase 2

/-- No Image: the compute dies are off, and closed at their bridges as in Standby (R279, R339, R357). -/
def State.noImage (s : State) : State :=
  let s1 := (List.range 4).foldl (fun s n =>
    (((s.railDown n).dieDark n).closeStop (nodeBridgeSpine n 0)).closeStop (nodeBridgeSpine n 1)) s
  (s1.holdCores (List.range 256)).enterPhase 9

/-- The PLLs are locked, the hub die is at 2.00 GHz and the compute dies at P7 (R355 phase 2). A fenced control memory macro
leaves no copy to try (R351). -/
def State.pllLocked (s : State) : State :=
  if s.boot.work ≠ 2 then s
  else
    let s1 := (List.range 5).foldl State.railUp s
    let s2 := ((List.range 4).foldl State.dieStart s1).holdCores (List.range 256)
    let s3 := if s2.on F.TIME_REF_STAT_HOLDOVER then s2 else s2.put F.TIME_REF_STAT_LOCK 1
    if s3.ctlFenced then ((s3.put F.BOOT_STAT_REASON_A 12).put F.BOOT_STAT_REASON_B 12).noImage else s3.enterPhase 3

/-! ## A failed copy (R351, R356, R358) -/

/-- The copy in use fails with a reason in a section. A warm start ends in No Image; after copy A a start reset leads to copy
B; after copy B nothing is left. `wrote` says that pass 2 had begun to write. -/
def State.copyFails (s : State) (reason sect : Nat) (wrote : Bool) : State :=
  let s1 := (if s.on F.BOOT_STAT_COPY then s.put F.BOOT_STAT_REASON_B reason else s.put F.BOOT_STAT_REASON_A reason).put
    F.BOOT_STAT_SECT sect
  if s1.boot.warm then s1.noImage
  else if !s1.on F.BOOT_STAT_COPY then s1.startReset
  else if wrote then
    let s2 := s1.startReset
    { s2 with host := { s2.host with memActive := true } }.noImage
  else s1.noImage

/-! ## Live (R359) -/

/-- Live: the PSTART levels, the management queues, the cells that start, BOOT_TIME, the calibration of R406, and after
Dormant the wake event (R385). -/
def State.goLive (s : State) : State :=
  let s0 := s.enterPhase 8
  let s1 := if s0.get F.PWR_STAT_STATE = 4 then s0.put F.PWR_STAT_STATE 0 else s0
  let ps := fieldAt s.boot.hdr 28 2
  let s2 := (List.range 4).foldl (fun s n => s.writeTarget n (BitVec.ofNat 32 (bitsOf ps (4 * n + 2) (4 * n)))) s1
  let start := s2.mgmt.desc.filter (fun (e : Nat × List Byte) => cdStart e.2)
  let s3 := start.foldl (fun s (e : Nat × List Byte) => s.setCellState e.1 1 0) s2.openMgmt
  let s4 := (s3.put F.BOOT_TIME_LIVE_MS (s3.time.ticks / 1000000)).calLive
  if s4.pwr.wakeDue then (s4.setPwr { s4.pwr with wakeDue := false }).wakeEvent else s4

/-- FW_TMO of the header in use, in ms. -/
def State.fwTmo (s : State) : Nat := bitsOf (fieldAt s.boot.hdr 24 4) 8 1

/-- Firmware's write of BOOT_FW_READY. -/
def State.fwReady (s : State) (v : Word) : State :=
  let s1 := s.writeFields R.BOOT_FW_READY v
  if s1.on F.BOOT_FW_READY_READY && decide (s1.boot.work = 7) then s1.goLive else s1

/-- FW_TMO ms have passed without READY. -/
def State.fwLate (s : State) : State :=
  if s.boot.work = 7 && decide (s.fwTmo ≠ 0) then
    let s1 := s.flag F.BOOT_STAT_FW_LATE
    (s1.report { mkReport 14 15 0x3A 0 with data0 := (s1.reg R.BOOT_STAT).toNat }).goLive
  else s

/-- The loaded cores run: phase 7, or Live at once where the header says not to wait or READY is 1 already (R355, R359). -/
def State.released (s : State) : State :=
  let s1 := s.boot.cores.foldl (fun s c => if s.druseUp (c / 8) then s.releaseCore c else s) s
  let s2 := s1.enterPhase 7
  if s2.fwTmo = 0 || s2.on F.BOOT_FW_READY_READY then s2.goLive else s2

/-! ## Rollback fuses (R360) -/

/-- A write of BOOT_ROLLBACK_CMD. -/
def State.rollback (s : State) (v : Word) : State :=
  let ver := bitsOf (fieldAt s.boot.hdr 12 4) 6 0
  if v.getLsbD 0 && decide (bitsOf v.toNat 15 8 = 0xA5) && s.on F.BOOT_STAT_SEALED && decide (s.fuse.rollback < ver) &&
      !s.on F.BOOT_FUSE_ADV_BUSY then
    (s.put F.BOOT_FUSE_ADV_BUSY 1).setBoot { s.boot with adv := ver }
  else s

/-- The fuses are programmed. -/
def State.rollbackDone (s : State) : State :=
  if s.on F.BOOT_FUSE_ADV_BUSY then
    let n := max s.fuse.rollback s.boot.adv
    (({ s with fuse := { s.fuse with rollback := n } } : State).put F.BOOT_FUSE_ROLLBACK n).put F.BOOT_FUSE_ADV_BUSY 0
  else s

/-! ## The flash window (R346) -/

/-- Bytes of BOOT_FL_BUF. -/
def State.flBuf (s : State) (n : Nat) : List Byte :=
  (List.range n).map (fun i => (s.reg (R.BOOT_FL_BUF (i / 4))).extractLsb' (8 * (i % 4)) 8)

/-- A write of BOOT_FL_CTRL: GO issues the command, or after SEAL without FL_HOST is denied. -/
def State.flashCtrl (s : State) (v : Word) : State :=
  let s1 := s.writeFields R.BOOT_FL_CTRL v
  if !v.getLsbD 18 then s1
  else if s1.on F.BOOT_STAT_SEALED && !(fieldAt s1.boot.hdr 24 4).testBit 0 then s1.flag F.BOOT_FL_CTRL_DENIED
  else if s1.on F.BOOT_FL_CTRL_BUSY then s1
  else
    let n := min 256 (s1.get F.BOOT_FL_CTRL_LEN)
    (s1.put F.BOOT_FL_CTRL_BUSY 1).emit (.flash (s1.get F.BOOT_FL_CTRL_OPCODE) (s1.reg R.BOOT_FL_ADDR).toNat n
      (if s1.on F.BOOT_FL_CTRL_WRITE then s1.flBuf n else []))

/-- A flash command completes: what it read is in the buffer. -/
def State.flashDone (s : State) (data : List Byte) : State :=
  if !s.on F.BOOT_FL_CTRL_BUSY then s
  else
    let s1 := s.put F.BOOT_FL_CTRL_BUSY 0
    if s1.on F.BOOT_FL_CTRL_WRITE then s1
    else (List.range (min 256 (s1.get F.BOOT_FL_CTRL_LEN))).foldl (fun s i =>
      s.put ⟨R.BOOT_FL_BUF (i / 4), 8 * (i % 4), 8⟩ (data.getD i 0).toNat) s1

/-! ## Commands -/

/-- POWER_ON_RESET (R70). -/
def execPowerOnReset (straps : BitVec 4) (s : State) : Host.Outcome State Fault Refusal := .next (s.powerOn straps.toNat)

/-- WARM_RESET (R70, R358). -/
def execWarmReset (s : State) : Host.Outcome State Fault Refusal := .next s.warmReset

/-- A write of GLOBAL_RST. -/
def State.globalRst (s : State) (v : Word) : State := if bitsOf v.toNat 15 0 = 0x5A5A then s.warmReset else s

/-- GLOBAL_RST (R423). -/
def execGlobalRst (v : BitVec 32) (s : State) : Host.Outcome State Fault Refusal := .next (s.globalRst v)

/-- CONTROL_MEMORY_CLEARED (R287). -/
def execControlMemoryCleared (s : State) : Host.Outcome State Fault Refusal := .next s.ctlCleared

/-- START_PLL_LOCK (R355). -/
def execStartPllLock (s : State) : Host.Outcome State Fault Refusal := .next s.pllLocked

/-- READY (R359). -/
def execReady (v : BitVec 32) (s : State) : Host.Outcome State Fault Refusal := .next (s.fwReady v)

/-- FW_TMO_EXPIRY (R359). -/
def execFwTmoExpiry (s : State) : Host.Outcome State Fault Refusal := .next s.fwLate

/-- ADVANCE (R360). -/
def execAdvance (v : BitVec 32) (s : State) : Host.Outcome State Fault Refusal := .next (s.rollback v)

/-- ROLLBACK_PROGRAMMED (R360). -/
def execRollbackProgrammed (s : State) : Host.Outcome State Fault Refusal := .next s.rollbackDone

/-- FLASH_GO (R346). -/
def execFlashGo (v : BitVec 32) (s : State) : Host.Outcome State Fault Refusal := .next (s.flashCtrl v)

/-- FLASH_COMMAND_DONE (R346). -/
def execFlashCommandDone (data : List Byte) (s : State) : Host.Outcome State Fault Refusal := .next (s.flashDone data)

end Sys2Proof.Machine
end

