-- ==== Sys2Proof/Machine/Frame.lean ====
section
/-!
DEFINITION. Ethernet frames as the fronthaul ports read them: encapsulation, eCPRI and O-RAN U-plane headers, block
floating point, PTP messages, frame check sequence (13_fronthaul_lanes.md, R300 to R308; 02, R59 to R63). Frames are
lists of bytes from the destination MAC address on, without their FCS; header fields are big-endian, as the published
standards have them.
-/

namespace Sys2Proof.Machine

/-- A big-endian field of a frame. -/
def beField (f : List Byte) (o n : Nat) : Nat := (slice f o n).foldl (fun x b => 256 * x + b.toNat) 0

/-- A number as `n` big-endian bytes. -/
def beBytes (n x : Nat) : List Byte := (toBytes n x).reverse

/-- A frame with bytes replaced from an offset on. -/
def patch (f : List Byte) (o : Nat) (l : List Byte) : List Byte := f.take o ++ l ++ f.drop (o + l.length)

/-- Whether the two bytes at an offset are a VLAN tag (R300). -/
def isVlan (f : List Byte) (o : Nat) : Bool := decide (beField f o 2 = 0x8100) || decide (beField f o 2 = 0x88A8)

/-- The offset of the Ethertype, past up to two VLAN tags (R300). -/
def etyOff (f : List Byte) : Nat := if isVlan f 12 then (if isVlan f 16 then 20 else 16) else 12

/-- The Ethertype. -/
def ety (f : List Byte) : Nat := beField f (etyOff f) 2

/-- The offset of what follows the Ethertype. -/
def l3Off (f : List Byte) : Nat := etyOff f + 2

/-- How a frame carries what it carries: directly on its Ethertype, as a UDP datagram over IPv4 or IPv6 whose UDP header is at
an offset, or as an IP packet that R303 leaves out: fragments, options, extension headers. -/
inductive Carry where
  | plain
  | udp (v6 : Bool) (off : Nat)
  | badIp
  deriving DecidableEq, Repr

/-- IPv6 next headers that are extension headers. -/
def ip6Ext : List Nat := [0, 43, 44, 50, 51, 60, 135, 139, 140]

/-- How a frame carries what it carries (R303). -/
def carryOf (f : List Byte) : Carry :=
  let o := l3Off f
  if ety f = 0x0800 then
    if beField f o 1 ≠ 0x45 || beField f (o + 6) 2 % 2 ^ 14 ≠ 0 then .badIp
    else if beField f (o + 9) 1 = 17 then .udp false (o + 20) else .plain
  else if ety f = 0x86DD then
    if ip6Ext.contains (beField f (o + 6) 1) then .badIp
    else if beField f (o + 6) 1 = 17 then .udp true (o + 40) else .plain
  else .plain

/-- The destination port of a UDP datagram. -/
def udpPort (f : List Byte) (o : Nat) : Nat := beField f (o + 2) 2

/-- An eCPRI message in a frame: transport code of FH_RULE_MATCH.ENC, offset of its common header, message type, whether
the common header is in the subset of R303. -/
structure Ecpri where
  enc : Nat
  off : Nat
  typ : Nat
  ok  : Bool
  deriving DecidableEq, Repr

/-- The common header at an offset: revision 1, C = 0 (R303). -/
def ecpriAt (f : List Byte) (enc o : Nat) : Ecpri :=
  { enc := enc, off := o, typ := beField f (o + 1) 1,
    ok := decide (beField f o 1 / 16 = 1) && decide (beField f o 1 % 2 = 0) && decide (o + 4 ≤ f.length) }

/-- The eCPRI message of a frame, where UDP ports that a test accepts carry eCPRI. -/
def ecpriOf (f : List Byte) (port : Bool → Nat → Bool) : Option Ecpri :=
  if ety f = 0xAEFE then some (ecpriAt f 0 (l3Off f))
  else match carryOf f with
    | .udp v6 o => if port v6 (udpPort f o) then some (ecpriAt f (if v6 then 2 else 1) (o + 8)) else none
    | _ => none

/-! ## Block floating point (R308) -/

/-- The component with index `i` of a compressed PRB: `w` bits, most significant first. -/
def mantissa (l : List Byte) (w i : Nat) : Int := sgn w (beField l 0 (3 * w) >>> (w * (23 - i)))

/-- A compressed PRB of 3w bytes, its exponent in `par`, as 48 bytes of C16 samples; and the components that clamped. -/
def expandPrb (w par : Nat) (l : List Byte) : List Byte × Nat :=
  let c := (List.range 24).map (fun i => fin true (mantissa l w i * 2 ^ (par % 16)) 16 false)
  (c.flatMap (fun (x : Nat × Bool) => toBytes 2 x.1), (c.filter (fun (x : Nat × Bool) => x.2)).length)

/-- The exponent for 24 components: the smallest that brings every rounded component within `w` bits. -/
def prbExp (w : Nat) (c : List Int) : Nat :=
  (lowestFrom 16 (fun e => c.all (fun x => decide (-(2 ^ (w - 1)) ≤ rnd x e 0) && decide (rnd x e 0 ≤ 2 ^ (w - 1) - 1)))).getD 15

/-- 48 bytes of C16 samples as a compressed PRB: udCompParam and 3w bytes of mantissas. -/
def compressPrb (w : Nat) (l : List Byte) : List Byte :=
  let c := (List.range 24).map (fun i => sgn 16 (fieldAt l (2 * i) 2))
  let e := prbExp w c
  let x := c.foldl (fun (a : Nat) y => a * 2 ^ w + ((rnd y e 0) % 2 ^ w).toNat) 0
  BitVec.ofNat 8 e :: beBytes (3 * w) x

/-- The PRBs of a section: numPrbu, or NPRB_ALL where that is 0 (R304). -/
def prbCount (l : List Byte) (all : Nat) : Nat := if beField l 3 1 = 0 then all else beField l 3 1

/-- PRBs expanded one after another. -/
def expandPrbs (w : Nat) (l : List Byte) (n : Nat) : List Byte × Nat :=
  (List.range n).foldl (fun (a : List Byte × Nat) i =>
    let r := expandPrb w (beField l (i * (3 * w + 1)) 1) (slice l (i * (3 * w + 1) + 1) (3 * w))
    (a.1 ++ r.1, a.2 + r.2)) ([], 0)

/-- The sections of a U-plane message expanded: `w` the static width, or 0 for dynamic. None where a section is dynamic with
another method than block floating point or another width, or runs past the end. -/
def expandSections (w all : Nat) : Nat → List Byte → Option (List Byte × Nat)
  | 0, _ => some ([], 0)
  | fuel + 1, l =>
    if l = [] then some ([], 0)
    else
      let h := if w = 0 then 6 else 4
      let w1 := if w = 0 then beField l 4 1 / 16 else w
      let n := prbCount l all
      if (w = 0 && beField l 4 1 % 16 ≠ 1) || !([9, 12, 14].contains w1) || l.length < h + n * (3 * w1 + 1) then none
      else
        let r := expandPrbs w1 (l.drop h) n
        match expandSections w all fuel (l.drop (h + n * (3 * w1 + 1))) with
        | some rest => some (l.take 4 ++ r.1 ++ rest.1, r.2 + rest.2)
        | none => none

/-- The sections of an expanded U-plane message compressed; a tail that is no whole section stays as it is. -/
def compressSections (w : Nat) (dyn : Bool) (all : Nat) : Nat → List Byte → List Byte
  | 0, l => l
  | fuel + 1, l =>
    let n := prbCount l all
    if l.length < 4 + 48 * n || l.length < 4 then l
    else
      l.take 4 ++ (if dyn then [BitVec.ofNat 8 (w * 16 + 1), 0] else []) ++
        (List.range n).flatMap (fun i => compressPrb w (slice l (4 + 48 * i) 48)) ++
        compressSections w dyn all fuel (l.drop (4 + 48 * n))

/-- The application header of R304 at an offset: payloadVersion 1, filterIndex 0. -/
def uplaneOk (f : List Byte) (o : Nat) : Bool := decide (beField f o 1 % 128 = 16)

/-- A type 0 frame expanded, with the components that clamped: everything up to the application header's end unchanged, then
the sections to the end that the common header's payload size gives. -/
def expandFrame (f : List Byte) (e : Ecpri) (w all : Nat) : Option (List Byte × Nat) :=
  let o := e.off + 12
  let stop := min f.length (e.off + 4 + beField f (e.off + 2) 2)
  if e.typ ≠ 0 || !uplaneOk f (e.off + 8) || stop < o then none
  else match expandSections w all f.length ((f.take stop).drop o) with
    | some r => some (f.take o ++ r.1, r.2)
    | none => none

/-- A type 0 frame in the expanded layout compressed (R308). -/
def compressFrame (f : List Byte) (e : Ecpri) (w : Nat) (dyn : Bool) (all : Nat) : List Byte :=
  let o := e.off + 12
  if e.typ ≠ 0 || !uplaneOk f (e.off + 8) || f.length < o then f
  else f.take o ++ compressSections w dyn all f.length (f.drop o)

/-! ## PTP (R59 to R63) -/

/-- The offset of the UDP header in an IPv6 packet: the next header `nh` and those after it, at `o` on, extension headers passed,
at most `n` of them. -/
def ip6Udp (f : List Byte) : Nat → Nat → Nat → Option Nat
  | 0, _, _ => none
  | n + 1, nh, o =>
    if nh = 17 then some o
    else if nh = 44 then
      if beField f (o + 2) 2 / 8 = 0 then ip6Udp f n (beField f o 1) (o + 8) else none
    else if nh = 51 then ip6Udp f n (beField f o 1) (o + 4 * (beField f (o + 1) 1 + 2))
    else if ip6Ext.contains nh && nh ≠ 50 then ip6Udp f n (beField f o 1) (o + 8 * (beField f (o + 1) 1 + 1))
    else none

/-- The UDP header of a frame over IPv4, options passed, or IPv6, extension headers passed (R60): whether IPv6, and its offset. -/
def udpOf (f : List Byte) : Option (Bool × Nat) :=
  let o := l3Off f
  if ety f = 0x0800 then
    if beField f o 1 / 16 = 4 && decide (5 ≤ beField f o 1 % 16) && beField f (o + 6) 2 % 2 ^ 13 = 0 && beField f (o + 9) 1 = 17 then
      some (false, o + 4 * (beField f o 1 % 16))
    else none
  else if ety f = 0x86DD then (ip6Udp f f.length (beField f (o + 6) 1) (o + 40)).map (fun x => (true, x))
  else none

/-- A PTP message in a frame: its encapsulation (0 Ethernet, 1 UDP over IPv4, 2 UDP over IPv6) and the offset of its header. -/
def ptpOf (f : List Byte) : Option (Nat × Nat) :=
  if ety f = 0x88F7 then
    if beField f 0 6 = 0x011B19000000 || beField f 0 6 = 0x0180C200000E then some (0, l3Off f) else none
  else match udpOf f with
    | some (v6, o) => if udpPort f o = 319 then some (if v6 then 2 else 1, o + 8) else none
    | none => none

/-- The messageType of a PTP header. -/
def ptpType (f : List Byte) (o : Nat) : Nat := beField f o 1 % 16

/-! ## Frame check sequence -/

/-- One byte into the CRC-32 of IEEE 802.3. -/
def crcByte (c : Word) (b : Byte) : Word :=
  (List.range 8).foldl (fun (x : Word) _ => if x.getLsbD 0 then (x >>> 1) ^^^ 0xEDB88320 else x >>> 1) (c ^^^ b.zeroExtend 32)

/-- The four bytes of a frame's FCS. -/
def fcs (f : List Byte) : List Byte := toBytes 4 (~~~ (f.foldl crcByte 0xFFFFFFFF)).toNat

end Sys2Proof.Machine
end

