-- ==== Sys2Proof/Machine/Fh.lean ====
section
/-!
DEFINITION. Ethernet receive and transmit, PTP stamping of frames, and the JESD204C links
(13_fronthaul_lanes.md, R299 to R316; 02_time_and_stamps.md, R59 to R63).
-/

namespace Sys2Proof.Machine

/-- The initiator of a port's accesses (R83). -/
def portInit (p : Nat) : Nat := if p = 32 then 0x124 else 0x122

/-- First counter of a port (R443). -/
def portEvent (p o : Nat) : Nat := 759 + 8 * p + o

/-! ## PTP (R59 to R63) -/

/-- The PTP message of a frame in an encapsulation that a port recognises (R60). -/
def State.ptpSeen (s : State) (p : Nat) (f : List Byte) : Option (Nat × Nat) :=
  match ptpOf f with
  | some (enc, o) =>
    if (enc = 0 && s.on (F.TIME_PTP_CFG_ENC_L2 p)) || (enc = 1 && s.on (F.TIME_PTP_CFG_ENC_UDP4 p)) ||
       (enc = 2 && s.on (F.TIME_PTP_CFG_ENC_UDP6 p)) then some (enc, o) else none
  | none => none

/-- The event message of a frame: encapsulation, offset (R59). -/
def State.ptpEvent (s : State) (p : Nat) (f : List Byte) : Option (Nat × Nat) :=
  match s.ptpSeen p f with
  | some (enc, o) => if ptpType f o < 4 then some (enc, o) else none
  | none => none

/-- A PTP timestamp as a 32.32 value: the port's timebase at the PCS boundary, referred to the lane's MDI by the port's latency
compensation, in units of 0.125 ns (R59, R399): before it on receive, after it on transmit. -/
def State.ptpTime (s : State) (p : Nat) (tx : Bool) : BitVec 64 :=
  let c := BitVec.ofNat 64 (s.get (F.CAL_ITEM_APPLIED_APPLIED (37 + 2 * p + (if tx then 1 else 0))) * 2 ^ 29)
  if tx then s.tbVal (s.get (F.TIME_PTP_CFG_TB p)) + c else s.tbVal (s.get (F.TIME_PTP_CFG_TB p)) - c

/-- The fraction of a PTP timestamp: 16 bits, those below 2^-3 ns being 0 (R59, R61). -/
def State.ptpFrac (s : State) (p : Nat) (tx : Bool) : BitVec 16 := (s.ptpTime p tx).extractLsb' 16 16 &&& 0xE000

/-- The nanoseconds of a PTP timestamp. -/
def State.ptpNs (s : State) (p : Nat) (tx : Bool) : Word := (s.ptpTime p tx).extractLsb' 32 32

/-- The timestamp trailer (R61). -/
def State.ptpTrailer (s : State) (p : Nat) : List Byte :=
  toBytes 4 (s.ptpNs p false).toNat ++ toBytes 2 (s.ptpFrac p false).toNat ++ toBytes 2 (s.get (F.TIME_PTP_CFG_TB p) + 8)

/-! ## Receive (R300, R303 to R309) -/

/-- What a rule's match word says of a frame: `e` its eCPRI message, `key` its key. -/
def State.ruleHits (s : State) (r p : Nat) (f : List Byte) (e : Option Ecpri) (key : Nat) : Bool :=
  s.on (F.FH_RULE_MATCH_EN r) &&
  (decide (s.get (F.FH_RULE_MATCH_PORT r) = p) || decide (s.get (F.FH_RULE_MATCH_PORT r) = 63)) &&
  (match e with
   | some m =>
     decide (s.get (F.FH_RULE_MATCH_ENC r) = m.enc) &&
     (s.on (F.FH_RULE_MATCH_MT_ANY r) || decide (s.get (F.FH_RULE_MATCH_MSGTYPE r) = m.typ)) &&
     (decide (m.enc = 0) || decide (beField f (m.off - 6) 2 = s.get (F.FH_RULE_UDP_UDP r)))
   | none => decide (s.get (F.FH_RULE_MATCH_ENC r) = 3) && s.on (F.FH_RULE_MATCH_MT_ANY r)) &&
  decide (Nat.land (Nat.xor (s.get (F.FH_RULE_KEY_VALUE r)) key) (s.get (F.FH_RULE_KEY_MASK r)) = 0)

/-- Whether some enabled rule makes a UDP port an eCPRI one (R303). -/
def State.udpRule (s : State) (v6 : Bool) (port : Nat) : Bool :=
  (List.range 1024).any (fun r => s.on (F.FH_RULE_MATCH_EN r) &&
    decide (s.get (F.FH_RULE_MATCH_ENC r) = (if v6 then 2 else 1)) && decide (s.get (F.FH_RULE_UDP_UDP r) = port))

/-- The eAxC ID of an eCPRI message: that of the parsed types; of others free (R303). -/
def State.eaxc (s : State) (f : List Byte) (e : Ecpri) : Nat :=
  if e.typ = 0 || e.typ = 2 then beField f (e.off + 4) 2 else (Config.unparsedKey s.freeCtr).toNat

/-- What classification makes of a frame: the rule, or `none` for the default queue; its eCPRI message; its eAxC ID (R303,
R305). A frame outside the subset is not parsed. -/
def State.classify (s : State) (p : Nat) (f : List Byte) : Option Nat × Option Ecpri × Nat :=
  let e := ecpriOf f s.udpRule
  let x := match e with
    | some m => if m.ok then s.eaxc f m else 0
    | none => 0
  let key := if e.isSome then x else ety f
  if carryOf f = .badIp then (none, none, 0)
  else match e with
    | some m => if m.ok then (lowestFrom 1024 (fun r => s.ruleHits r p f e key), e, x) else (none, none, 0)
    | none => (lowestFrom 1024 (fun r => s.ruleHits r p f e key), none, 0)

/-- A frame is dropped and counted (R300, R305, R307). -/
def State.dropFrame (s : State) (p : Nat) : State :=
  (s.put (F.FH_PORT_DROP_RX p) (min 65535 (s.get (F.FH_PORT_DROP_RX p) + 1))).count (portEvent p 6) 1

/-- A frame marked for capture arrives: every capture unit set to the port captures (R55, R309). -/
def State.captureFrame (s : State) (p : Nat) : State :=
  (List.range 32).foldl (fun s j => s.capture j (if p = 32 then 0x61 else 0x40 + p) true) s

/-- Where the frames of a queue go: queue, base and slot log of the buffer ring (R306). For the default queue the
specification gives no ring: its place is free. -/
def State.rxPlace (s : State) (p : Nat) : Option Nat → Nat × Nat × Nat
  | some r => (s.get (F.FH_RULE_Q_QID r),
      s.get (F.FH_RULE_BUF_HI_BUF_HI r) * 2 ^ 32 + s.get (F.FH_RULE_BUF_LO_BUF r) / 64 * 64,
      s.get (F.FH_RULE_BUF_HI_SLOT_LOG r))
  | none => (s.get (F.FH_PORT_DEFQ_QID p), (Config.defaultBuf p).toNat, (Config.defaultSlotLog p).toNat)

/-- A frame expanded as its rule asks (R308): the bytes to write, whether expanded, the components that clamped. -/
def State.rxExpand (s : State) (r : Option Nat) (f : List Byte) (e : Option Ecpri) : List Byte × Bool × Nat :=
  match r, e with
  | some r, some m =>
    let d := s.get (F.FH_RULE_MATCH_DECOMP r)
    let all := s.get (F.FH_RULE_Q_NPRB_ALL r)
    let x := if d = 1 then expandFrame f m (s.get (F.FH_RULE_MATCH_W r)) all
      else if d = 2 then expandFrame f m 0 all else none
    (match x with
     | some y => (y.1, true, y.2)
     | none => (f, false, 0))
  | _, _ => (f, false, 0)

/-- The payload of a frame's entry (R306). -/
def rxEntry (slot len rule eaxc typ flags port : Nat) : List Byte :=
  toBytes 8 (slot % 2 ^ 40 + len % 2 ^ 14 * 2 ^ 40 + rule * 2 ^ 54) ++ toBytes 2 eaxc ++ toBytes 1 typ ++ toBytes 1 flags ++
  toBytes 1 port ++ List.replicate 19 0

/-- A classified frame is written to its slot with its trailer, and its entry pushed; or dropped (R306 to R309). -/
def State.rxDeliver (s : State) (p : Nat) (f : List Byte) (r : Option Nat) (e : Option Ecpri) (eaxc : Nat) : State :=
  let ev := (s.ptpEvent p f).isSome
  let ts := ev && s.on (F.TIME_PTP_CFG_RX_EN p)
  let cap := (match r with
    | some r => s.on (F.FH_RULE_MATCH_CAP r)
    | none => false) || (ts && s.on (F.FH_PORT_CFG_CAP_PTP p))
  let s1 := if ts then s.count 1174 1 else s
  let s2 := if cap then s1.captureFrame p else s1
  let x := s.rxExpand r f e
  let pl := s.rxPlace p r
  let q := s.q pl.1
  let body := x.1 ++ (if ts then List.replicate ((8 - x.1.length % 8) % 8) 0 ++ s.ptpTrailer p else [])
  if 2 ^ pl.2.2 < body.length || !s.pushOk pl.1 || q.esize ≠ 1 then s2.dropFrame p
  else
    let slot := pl.2.1 + q.tail % 2 ^ q.dlog * 2 ^ pl.2.2
    let s3 := s2.engWrite (portInit p) slot x.1 false
    let s4 := if ts then s3.engWrite (portInit p) (slot + (x.1.length + 7) / 8 * 8) (s.ptpTrailer p) false else s3
    let s5 := if x.2.2 = 0 then s4
      else s4.put (F.FH_PORT_SAT_SAT p) (min (2 ^ 32 - 1) (s4.get (F.FH_PORT_SAT_SAT p) + x.2.2))
    let flags := (if ts then 1 else 0) + (if x.2.1 then 2 else 0) + (if cap then 4 else 0) + (if ev then 8 else 0)
    s5.hwPush pl.1 (rxEntry slot x.1.length (r.getD 0x3FF) eaxc (match e with
      | some m => m.typ
      | none => 0) flags p) eaxc none (some s.now)

/-- Whether a port of groups 0 to 3, or in Dormant any port, is without power or clocks: in Standby and around it (R379,
R387, R388). -/
def State.portOff (s : State) (p : Nat) : Bool :=
  s.pwr.dormant ||
  (decide (p < 32) && (decide (s.get F.PWR_STAT_STATE = 3) || [.hubDown, .link, .hubUp, .rails, .banks].contains s.pwr.phase))

/-- Whether a port has an RS-FEC (R299, R302). -/
def State.hasFec (s : State) (p : Nat) : Bool :=
  if p = 32 then false else decide (2 ≤ s.get (F.FH_PORT_CFG_SPEED p)) &&
    (decide (s.get (F.FH_PORT_CFG_SPEED p) ≠ 2) || s.on (F.FH_PORT_CFG_FEC_EN p))

/-- Codewords come with a frame: `corr` corrected and `unc` that cannot be (R300). -/
def State.rxFec (s : State) (p corr unc : Nat) : State :=
  let s1 := (s.put (F.FH_PORT_FEC_CORR_CORR p) (min (2 ^ 32 - 1) (s.get (F.FH_PORT_FEC_CORR_CORR p) + corr))).count (portEvent p 4) corr
  if unc = 0 then s1
  else
    let s2 := (s1.put (F.FH_PORT_FEC_UNC_UNC p) (min (2 ^ 32 - 1) (s1.get (F.FH_PORT_FEC_UNC_UNC p) + unc))).count (portEvent p 5) unc
    (s2.flagRepN (F.FH_PORT_STAT_FEC_UNCORR p) (F.FH_PORT_STAT_UNCORR_REP p) unc).portReport p

/-- A frame arrives, without its FCS (R300, R305). -/
def State.rxFrame (s : State) (p : Nat) (f : List Byte) (fcsOk : Bool) : State :=
  if !(s.on (F.FH_PORT_CFG_RX_EN p) && s.on (F.FH_PORT_STAT_LINK p)) || s.portOff p then s
  else
    let s1 := (s.count (portEvent p 0) 1).count (portEvent p 2) ((f.length + 4 + 63) / 64)
    if !fcsOk then (s1.count (portEvent p 3) 1).dropFrame p
    else if f.length < 60 || 16379 < f.length || ety f = 0x8808 then s1.dropFrame p
    else
      let c := s.classify p f
      let s2 := s1.bumpFree
      if c.1.isNone && !s.on (F.FH_PORT_DEFQ_EN p) then s2.dropFrame p
      else s2.rxDeliver p f c.1 c.2.1 c.2.2

/-- A frame arrives from outside in its codewords: on a port in near-end loopback nothing does; a port in far-end loopback sends it
back as well; an uncorrectable codeword makes its FCS fail (R300, R320). -/
def State.rxOutside (s : State) (p : Nat) (f : List Byte) (fcsOk : Bool) (corr unc : Nat) : State :=
  if s.looped p then s
  else
    let s1 := if s.echoes p && s.on (F.FH_PORT_STAT_LINK p) && !s.portOff p then s.emit (.echo p f) else s
    if s1.hasFec p && s1.on (F.FH_PORT_CFG_RX_EN p) && s1.on (F.FH_PORT_STAT_LINK p) && !s1.portOff p then
      (s1.rxFec p corr unc).rxFrame p f (fcsOk && decide (unc = 0))
    else s1.rxFrame p f fcsOk

/-! ## Transmit (R310 to R312) -/

/-- Bytes 12 to 15 of a transmit descriptor. -/
def txFlags (d : List Byte) : Nat := fieldAt d 12 4
/-- ADDR. -/
def txAddr (d : List Byte) : Nat := fieldAt d 0 5
/-- LEN. -/
def txLen (d : List Byte) : Nat := fieldAt d 5 2 % 2 ^ 14
/-- LAUNCH. -/
def txLaunch (d : List Byte) : Word := BitVec.ofNat 32 (fieldAt d 8 4)
/-- LAUNCH_V. -/
def txLaunchV (d : List Byte) : Bool := (txFlags d).testBit 0
/-- TS_REQ. -/
def txTsReq (d : List Byte) : Bool := (txFlags d).testBit 1
/-- COMP. -/
def txComp (d : List Byte) : Bool := (txFlags d).testBit 2
/-- TWIN_GATED. -/
def txGated (d : List Byte) : Bool := (txFlags d).testBit 3
/-- CPL. -/
def txCpl (d : List Byte) : Bool := (txFlags d).testBit 4
/-- STRATA. -/
def txStrata (d : List Byte) : Nat := fieldAt d 18 1
/-- W. -/
def txW (d : List Byte) : Nat := fieldAt d 20 4 % 16

/-- Whether a descriptor fails format at a time `now` (R311). -/
def txBad (d : List Byte) (now : Word) : Bool :=
  decide (bitsOf (fieldAt d 0 8) 63 54 ≠ 0) || decide (bitsOf (txFlags d) 15 5 ≠ 0) || decide (fieldAt d 19 1 ≠ 0) ||
  decide (bitsOf (fieldAt d 20 4) 31 14 ≠ 0) || decide (fieldAt d 24 8 ≠ 0) ||
  decide (txLen d < 60) || decide (16379 < txLen d) || (txComp d && !([9, 12, 14].contains (txW d))) ||
  (txCpl d && decide (txStrata d = 0)) ||
  (txLaunchV d && stampEarlier now (txLaunch d) && decide (1000000000 < (txLaunch d - now).toNat))

/-- Whether the device counts as holding the twin token (R312, R431). -/
def State.twinHeld (s : State) : Bool := !s.on F.TWIN_CFG_EN || s.on F.TWIN_STAT_HOLD

/-- Whether a port's transmit lanes are held at electrical idle: in Standby, in Safe Halt, without an image (R357, R423). -/
def State.txHeld (s : State) (p : Nat) : Bool :=
  s.portOff p || (decide (p < 32) && (s.on F.GLOBAL_KS_STAT_SAFE_HALT || decide (s.get F.BOOT_STAT_PHASE = 9)))

/-- The ring address of a port's head descriptor. -/
def State.txSlot (s : State) (p : Nat) : Nat :=
  s.get (F.FH_TX_CFG_BASE_HI p) * 2 ^ 32 + s.get (F.FH_TX_BASE_LO_BASE p) / 64 * 64 +
  32 * (s.get (F.FH_TX_HEAD_HEAD p) % 2 ^ s.get (F.FH_TX_CFG_DLOG p))

/-- A descriptor ends: HEAD advances, and its completion is sent where it asks for one (R310, R311). -/
def State.txEnd (s : State) (p : Nat) (d : List Byte) (status : Nat) : State :=
  let s1 := s.put (F.FH_TX_HEAD_HEAD p) (s.get (F.FH_TX_HEAD_HEAD p) + 1)
  let s2 := { s1 with fh := { s1.fh with tx := mapErase s1.fh.tx p } }
  if txCpl d then s2.sendEvent (portInit p) (txStrata d) (fieldAt d 16 2) (status + txFlags d / 2 ^ 16 * 2 ^ 16) none
  else s2

/-- The port's descriptor in hand is replaced. -/
def State.setPortTx (s : State) (p : Nat) (t : PortTx) : State := { s with fh := { s.fh with tx := mapIns s.fh.tx p t } }

/-- The epoch a port uses: the committed one, or the registers' reset value. -/
def State.epochOf (s : State) (p : Nat) : Epoch := mapGet s.time.epoch ⟨0, 0⟩ p

/-- A Sync with its originTimestamp set at transmit time (R63). -/
def State.oneStep (s : State) (p enc o : Nat) (f : List Byte) : List Byte :=
  let d := s.ptpNs p true - (s.epochOf p).tb
  let sec := (s.epochOf p).sec + BitVec.ofNat 48 (d.toNat / 1000000000)
  let f1 := patch f (o + 34) (beBytes 6 sec.toNat ++ beBytes 4 (d.toNat % 1000000000))
  if enc = 1 then patch f1 (o - 2) [0, 0] else f1

/-- Whether a descriptor's frame is a one-step Sync: its PTP message (R63, R310). DESIGN CHOICE (log entry 95): a port whose
TIME_PTP_CFG.TX_EN is 0 sends none, as it takes no transmit timestamp. -/
def State.oneStepOf (s : State) (p : Nat) (d f : List Byte) : Option (Nat × Nat) :=
  match s.ptpEvent p f with
  | some (enc, o) =>
    if txTsReq d && s.on (F.TIME_PTP_CFG_TX_EN p) && s.on (F.TIME_PTP_CFG_ONE_STEP_EN p) && ptpType f o = 0 && enc ≠ 2 then
      some (enc, o)
    else none
  | none => none

/-- The two-step timestamp of a frame whose descriptor asks for one (R62). -/
def State.twoStep (s : State) (p : Nat) (d f : List Byte) : State :=
  match s.ptpEvent p f with
  | some (_, o) =>
    if txTsReq d && s.on (F.TIME_PTP_CFG_TX_EN p) then
      (s.count 1175 1).pushTxts p ⟨s.ptpNs p true, s.ptpFrac p true, BitVec.ofNat 16 (beField f (o + 30) 2), BitVec.ofNat 4 (ptpType f o)⟩
    else s
  | none => s

/-- The SFD block of a frame is to cross the PCS now: a gated frame without the token is withheld (R312), a one-step Sync
with a stale epoch is dropped (R63), any other frame's first byte is sent, stamped as it asks. -/
def State.txStart (s : State) (p : Nat) (d f : List Byte) : State :=
  if txGated d && !s.twinHeld then
    ((s.put (F.FH_PORT_DROP_GATED p) (min 65535 (s.get (F.FH_PORT_DROP_GATED p) + 1))).count (portEvent p 7) 1).txEnd p d 0
  else match s.oneStepOf p d f with
    | some (enc, o) =>
      if 3000000000 ≤ (s.ptpNs p true - (s.epochOf p).tb).toNat then
        let s1 := (s.flagRep (F.TIME_PTP_STAT_EPOCH_STALE p) (F.TIME_PTP_STAT_STALE_REP p)).count 1177 1
        (s1.txEnd p d (Config.staleStatus s1.freeCtr).toNat).bumpFree
      else (s.count 1175 1).setPortTx p ⟨d, s.oneStep p enc o f, true, false⟩
    | none => (s.twoStep p d f).setPortTx p ⟨d, f, true, false⟩

/-- The port takes its head descriptor (R310, R311); a port that does not fit is down and takes none (R299). -/
def State.txTake (s : State) (p : Nat) : State :=
  if !(s.on (F.FH_PORT_CFG_TX_EN p) && s.on (F.FH_TX_CFG_EN p)) || (mapFind? s.fh.tx p).isSome ||
      s.txHeld p || !s.portFits p || s.get (F.FH_TX_HEAD_HEAD p) = s.get (F.FH_TX_TAIL_TAIL p) then s
  else
    let a := s.txSlot p
    let d := s.engBytes a 32
    let s1 := s.engReadEffect (portInit p) a 32 false
    if s.readResp (portInit p) a 32 ≠ rDone then s1.txEnd p (List.replicate 32 0) 5
    else if txBad d s.now then s1.txEnd p d 1
    else
      let f := s1.engBytes (txAddr d) (txLen d)
      let s2 := s1.engReadEffect (portInit p) (txAddr d) (txLen d) false
      if s1.readResp (portInit p) (txAddr d) (txLen d) ≠ rDone then s2.txEnd p d 5
      else if txLaunchV d && stampEarlier (txLaunch d)
          (s.now + BitVec.ofNat 32 (16 * max 1 (s.get (F.FH_PORT_CFG_LAUNCH_MIN p)))) then s2.txEnd p d 8
      else
        let g := if txComp d then
            (match ecpriOf f (fun _ _ => true) with
             | some e => compressFrame f e (txW d) (decide (bitsOf (fieldAt d 20 4) 4 4 = 1)) (bitsOf (fieldAt d 20 4) 13 5)
             | none => f)
          else f
        if txLaunchV d then s2.setPortTx p ⟨d, g, false, false⟩ else s2.txStart p d g

/-- The LAUNCH of the descriptor that the port holds has come (R311). -/
def State.txLaunchNow (s : State) (p : Nat) : State :=
  match mapFind? s.fh.tx p with
  | some t => if t.sending || s.txHeld p then s else s.txStart p t.desc t.frame
  | none => s

/-- A frame goes out on a port's lanes: whole, unless it was cut or a lane carries no mission data (R319, R320, R322); in near-end
loopback the port receives it, where it was cut with a bad FCS. -/
def State.txOut (s : State) (p : Nat) (t : PortTx) : State :=
  let lost := t.cut || s.anyLane p s.laneTaken
  let s1 := if lost then s else s.emit (.frame p (t.frame ++ fcs t.frame) (s.txLanes p))
  if s1.looped p && !s1.anyLane p s1.laneTaken then s1.rxFrame p t.frame (!t.cut) else s1

/-- The last byte of the frame being sent has crossed the PCS (R311). -/
def State.txDone (s : State) (p : Nat) : State :=
  match mapFind? s.fh.tx p with
  | some t => if t.sending then ((s.count (portEvent p 1) 1).txOut p t).txEnd p t.desc 0 else s
  | none => s

/-! ## JESD204C (R313 to R316) -/

/-- State of a link. -/
def State.jesd (s : State) (j : Nat) : JesdSt := mapGet s.fh.jesd JesdSt.reset j

/-- It is replaced. -/
def State.setJesd (s : State) (j : Nat) (x : JesdSt) : State :=
  { s with fh := { s.fh with jesd := mapSet s.fh.jesd JesdSt.reset j x } }

/-- Lanes L of a link's configuration word. -/
def jesdL (cfg : Word) : Nat := fieldOf cfg ⟨0, 4, 4⟩ + 1

/-- Whether a configuration is in the subset of R313 and R314. -/
def State.jesdOk (s : State) (j : Nat) (cfg : Word) : Bool :=
  let two := cfg.getLsbD 3
  let l := jesdL cfg
  let m := 2 * (s.get (F.FH_JESD_PARAM_CH_M1 j) + 1)
  let n := s.get (F.FH_JESD_PARAM_S_M1 j) + 1
  let e := s.get (F.FH_JESD_PARAM_E_M1 j) + 1
  let f := m * n * 2 / l
  let rates := (if two then [j, j + 1] else [j]).map (fun g => (Config.fhRefclk g, Config.fhRefclk g * s.get (F.FH_JESD_PARAM_MULT j)))
  decide (s.grpRate j = 4) && (!two || (decide (j % 2 = 0) && decide (s.grpRate (j + 1) = 4))) &&
  decide (l ≤ (if two then 16 else 8)) && decide (m * n * 2 % l = 0) && decide (f ≠ 0) && decide (256 * e % f = 0) &&
  decide (16 ≤ s.get (F.FH_JESD_PARAM_MULT j)) && decide (s.get (F.FH_JESD_PARAM_MULT j) ≤ 264) &&
  rates.all (fun r => decide (100000000 ≤ r.1) && decide (r.1 ≤ 312500000) &&
    decide (8000000000 ≤ r.2) && decide (r.2 ≤ 32500000000)) && decide (s.get (F.FH_JESD_PARAM_RBD j) < 32 * e) &&
  !(two && s.on (F.FH_JESD_CFG_EN (j + 1))) &&
  !(decide (j % 2 = 1) && s.on (F.FH_JESD_CFG_EN (j - 1)) && s.on (F.FH_JESD_CFG_TWO (j - 1)))

/-- A write of FH_JESD_CFG (R313 to R315): a configuration outside the subset leaves the link disabled; while EN = 1 only
EN, RX_EN, TX_EN and REALIGN are taken. A link that is enabled or disabled has no phase yet. -/
def State.writeJesdCfg (s : State) (j : Nat) (v : Word) : State :=
  let old := s.reg (R.FH_JESD_CFG j)
  let v1 := if old.getLsbD 0 then (v &&& 0x4007) ||| (old &&& 0x3FF8) else v
  let rise := v.getLsbD 0 && !old.getLsbD 0
  if rise && !s.jesdOk j v1 then
    (s.writeFields (R.FH_JESD_CFG j) (v1 &&& ~~~ 1#32)).flag (F.FH_JESD_STAT_CFG_BAD j)
  else
    let s1 := s.writeFields (R.FH_JESD_CFG j) v1
    let x := s1.jesd j
    if rise || !v.getLsbD 0 then
      (s1.setJesd j { x with
        phase := none
        tx := false
        since := 0
        due := [] }).put (F.FH_JESD_STAT_LOCKED j) 0
    else
      let s2 := if v.getLsbD 1 then s1 else s1.put (F.FH_JESD_STAT_LOCKED j) 0
      if v.getLsbD 2 then s2 else s2.setJesd j { x with tx := false }

/-- A write of FH_JESD_PARAM, discarded while EN = 1. -/
def State.writeJesdParam (s : State) (j : Nat) (v : Word) : State :=
  if s.on (F.FH_JESD_CFG_EN j) then s else s.writeFields (R.FH_JESD_PARAM j) v

/-- The ring that FH_JESD_CH_SEL selects. -/
def State.jesdSel (s : State) (j : Nat) : Nat := s.get (F.FH_JESD_CH_SEL_CH j) + 16 * s.get (F.FH_JESD_CH_SEL_DIR j)

/-- A ring of a link: channel, transmit rings from 16 on. -/
def JesdSt.ring (x : JesdSt) (c : Nat) : JesdRing := mapGet x.rings JesdRing.reset c

/-- It is replaced. -/
def JesdSt.setRing (x : JesdSt) (c : Nat) (r : JesdRing) : JesdSt := { x with rings := mapSet x.rings JesdRing.reset c r }

/-- What the window registers of a link's rings read, by offset (R316). -/
def State.jesdView (s : State) (j off : Nat) : Word :=
  let c := s.jesdSel j
  let r := (s.jesd j).ring c
  BitVec.ofNat 32 (match off with
    | 0x14 => r.base % 2 ^ 32
    | 0x18 => r.base / 2 ^ 32 + r.slog * 2 ^ 8
    | 0x1C => r.pos
    | _ => if c < 16 then 0 else r.lim)

/-- A write of a window register: the ring's place while EN = 0; TXLIM of a transmit ring (R316). -/
def State.writeJesdRing (s : State) (j off : Nat) (v : Word) : State :=
  let c := s.jesdSel j
  let x := s.jesd j
  let r := x.ring c
  let en := s.on (F.FH_JESD_CFG_EN j)
  match off with
  | 0x14 => if en then s else s.setJesd j (x.setRing c { r with base := r.base / 2 ^ 32 * 2 ^ 32 + v.toNat / 64 * 64 })
  | 0x18 => if en then s else s.setJesd j (x.setRing c { r with
      base := r.base % 2 ^ 32 + bitsOf v.toNat 7 0 * 2 ^ 32
      slog := bitsOf v.toNat 12 8 })
  | 0x20 => if c < 16 then s else s.setJesd j (x.setRing c { r with
      lim := bitsOf v.toNat 19 0
      under := r.under && decide (bitsOf v.toNat 19 0 = r.lim) })
  | _ => s

/-- A compare unit has fired: SYSREF for the links it drives (R315). The instant is the value of its timebase. -/
def State.jesdSysref (s : State) (k : Nat) (at_ : BitVec 64) : State :=
  (List.range 4).foldl (fun s j =>
    let x := s.jesd j
    if !(s.on (F.FH_JESD_CFG_EN j) && decide (s.get (F.FH_JESD_CFG_CMP j) = k)) then s
    else match x.phase with
      | none => s.setJesd j { x with phase := some at_ }
      | some ph =>
        if s.on (F.FH_JESD_CFG_REALIGN j) then s.setJesd j { x with phase := some at_ }
        else if Config.lemcBoundary j (s.reg (R.FH_JESD_PARAM j)).toNat ph at_ then s
        else (s.flag (F.FH_JESD_STAT_SYSREF_MISALIGN j)).count (1107 + 3 * j) 1) s

/-- The samples of one channel written in order into its receive ring, wrapping (R316). -/
def State.jesdWrite (s : State) (j c : Nat) (l : List Word) : State :=
  let r := (s.jesd j).ring c
  let n := 2 ^ r.slog
  let s1 := (l.zipIdx).foldl (fun (s : State) (e : Word × Nat) =>
    s.engWrite 0x122 (r.base + 4 * ((r.pos + e.2) % n)) (toBytes 4 e.1.toNat) false) s
  s1.setJesd j ((s1.jesd j).setRing c { r with pos := (r.pos + l.length) % n })

/-- A receiving link locks: its lanes have found their polarity. -/
def State.jesdLock (s : State) (j : Nat) : State :=
  if s.on (F.FH_JESD_STAT_LOCKED j) then s
  else (List.range (jesdL (s.reg (R.FH_JESD_CFG j)))).foldl (fun s i =>
    (s.put (F.FH_LANE_STAT_BLK_LOCK (8 * j + i)) 1).laneLocked (8 * j + i)) (s.put (F.FH_JESD_STAT_LOCKED j) 1)

/-- Whether every lane of a link receives, at an alignment that its receiver can lock (R315, R321, R322). -/
def State.jesdRx (s : State) (j : Nat) : Bool :=
  (List.range (jesdL (s.reg (R.FH_JESD_CFG j)))).all (fun i => s.laneRx (8 * j + i) && s.aligned (8 * j + i))

/-- An extended multiblock is received (R315, R316): `samples` by channel; none on a lane without lock or signal (R322). -/
def State.jesdBlock (s : State) (j : Nat) (crcOk : Bool) (samples : List (List Word)) : State :=
  let x := s.jesd j
  if !(s.on (F.FH_JESD_CFG_EN j) && s.on (F.FH_JESD_CFG_RX_EN j)) || x.phase.isNone || !s.jesdRx j then s
  else
    let s1 := s.jesdLock j
    let s2 := if crcOk then s1
      else (s1.flagRep (F.FH_JESD_STAT_CRC_ERR j) (F.FH_JESD_STAT_CRC_REP j)).count (1105 + 3 * j) 1
    let idx := if x.since = 0 then (x.ring 0).pos else x.idx
    let st := if x.since = 0 then s.now else x.start
    let s3 := (List.range (s.get (F.FH_JESD_PARAM_CH_M1 j) + 1)).foldl (fun s c => s.jesdWrite j c (samples.getD c [])) s2
    let y : JesdSt := { s3.jesd j with
      count := x.count + 1
      since := x.since + 1
      idx := idx
      start := st }
    if y.since < 2 ^ s.get (F.FH_JESD_RXQ_ENTRY_LOG j) then s3.setJesd j y
    else s3.setJesd j { y with
      since := 0
      due := y.due ++ [(idx, (st, y.count))] }

/-- The oldest entry due is pushed to FH_JESD_RXQ where its EN = 1 (R316). -/
def State.jesdEntry (s : State) (j : Nat) : State :=
  match (s.jesd j).due with
  | [] => s
  | (idx, (st, n)) :: l =>
    let s1 := s.setJesd j { s.jesd j with due := l }
    if s.on (F.FH_JESD_RXQ_EN j) then
      (s1.hwPush (s.get (F.FH_JESD_RXQ_QID j)) (toBytes 4 idx ++ toBytes 4 n.toNat ++ toBytes 8 0)
        (Config.pushTag s1.freeCtr).toNat none (some st)).bumpFree
    else s1

/-- An underrun is counted, once until TXLIM moves (R316). -/
def State.jesdEmpty (s : State) (j ch : Nat) : State :=
  let x := s.jesd j
  let r := x.ring (16 + ch)
  if r.under then s
  else ((s.setJesd j (x.setRing (16 + ch) { r with under := true })).flagRep (F.FH_JESD_STAT_UNDERRUN j)
    (F.FH_JESD_STAT_UNDER_REP j)).count (1106 + 3 * j) 1

/-- A channel sends `n` samples: those of its ring up to TXLIM, and zeros where it reaches TXLIM (R316). -/
def State.jesdSend (s : State) (j ch n : Nat) : State :=
  let r := (s.jesd j).ring (16 + ch)
  let size := 2 ^ r.slog
  let k := min n ((r.lim + size - r.pos % size) % size)
  let l := (List.range k).map (fun i => BitVec.ofNat 32 (ofBytes (s.engBytes (r.base + 4 * ((r.pos + i) % size)) 4)))
  let s1 := (List.range k).foldl (fun s i => s.engReadEffect 0x122 (r.base + 4 * ((r.pos + i) % size)) 4 false) s
  let s2 := s1.setJesd j ((s1.jesd j).setRing (16 + ch) { r with pos := (r.pos + k) % size })
  let s3 := if n = 0 then s2 else s2.emit (.samples j ch (l ++ List.replicate (n - k) 0))
  if k < n then s3.jesdEmpty j ch else s3

/-- The channels of a link. -/
def State.jesdChans (s : State) (j : Nat) : List Nat := List.range (s.get (F.FH_JESD_PARAM_CH_M1 j) + 1)

/-- The transmitter starts at an LEMC boundary (R315), or has started; each channel then sends `n` samples (R316). -/
def State.jesdStart (s : State) (j n : Nat) : State :=
  if s.on (F.FH_JESD_CFG_EN j) && s.on (F.FH_JESD_CFG_TX_EN j) && (s.jesd j).phase.isSome then
    (s.jesdChans j).foldl (fun s c => s.jesdSend j c n) (s.setJesd j { s.jesd j with tx := true })
  else s

/-- The transmit path of a channel sends what its ring holds and reaches TXLIM (R316). -/
def State.jesdUnderrun (s : State) (j ch : Nat) : State :=
  if !(s.jesd j).tx || s.get (F.FH_JESD_PARAM_CH_M1 j) < ch then s
  else
    let r := (s.jesd j).ring (16 + ch)
    s.jesdSend j ch ((r.lim + 2 ^ r.slog - r.pos % 2 ^ r.slog) % 2 ^ r.slog + 1)

/-! ## Commands -/

/-- FRAME_RECEIVE (R300, R305 to R309). -/
def execFrameReceive (p : BitVec 6) (frame : RxFrame) (fcsOk : Bool) (s : State) : Host.Outcome State Fault Refusal :=
  onPort p.toNat (s.rxOutside p.toNat frame.bytes fcsOk frame.corr.toNat frame.unc.toNat)

/-- TX_TAIL_WRITE (R310). -/
def execTxTailWrite (p : BitVec 6) (v : BitVec 32) (s : State) : Host.Outcome State Fault Refusal :=
  onPort p.toNat (s.writeFields (R.FH_TX_TAIL p.toNat) v)

/-- TX_DESCRIPTOR (R310 to R312). -/
def execTxDescriptor (p : BitVec 6) (s : State) : Host.Outcome State Fault Refusal := onPort p.toNat (s.txTake p.toNat)

/-- LAUNCH (R311). -/
def execLaunch (p : BitVec 6) (s : State) : Host.Outcome State Fault Refusal := onPort p.toNat (s.txLaunchNow p.toNat)

/-- FRAME_TRANSMIT_END (R311). -/
def execFrameTransmitEnd (p : BitVec 6) (s : State) : Host.Outcome State Fault Refusal := onPort p.toNat (s.txDone p.toNat)

/-- JESD_MULTIBLOCK (R315, R316). -/
def execJesdMultiblock (j : BitVec 2) (crcOk : Bool) (samples : List (List (BitVec 32))) (s : State) :
    Host.Outcome State Fault Refusal :=
  .next (s.jesdBlock j.toNat crcOk samples)

/-- JESD_RX_ENTRY (R316). -/
def execJesdRxEntry (j : BitVec 2) (s : State) : Host.Outcome State Fault Refusal := .next (s.jesdEntry j.toNat)

/-- JESD_TX_START (R315). -/
def execJesdTxStart (j : JesdStart) (s : State) : Host.Outcome State Fault Refusal :=
  .next (s.jesdStart j.link.toNat j.n.toNat)

/-- UNDERRUN (R316). -/
def execUnderrun (j : BitVec 2) (ch : BitVec 4) (s : State) : Host.Outcome State Fault Refusal :=
  .next (s.jesdUnderrun j.toNat ch.toNat)

end Sys2Proof.Machine
end

