-- ==== Sys2Proof/Machine/Idle.lean ====
section
/-!
DEFINITION. A compare unit's firing with everything that hangs on it, and what the block does by itself when no command waits:
one tick of the timebase clock (R31, R47, R54, R315, R384).
-/

namespace Sys2Proof.Machine

/-- Whether a compare unit fires when it acts on the instant it has met (R47, R49). -/
def State.cmpFires (s : State) (k : Nat) : Bool :=
  s.on (F.TIME_CMP_STAT_ARMED k) && (s.cmpLive k).due && s.on (F.TIME_CMP_CFG_EN k)

/-- A compare unit acts on its instant; a firing may wake the device (R384) and is the SYSREF of the JESD links that it drives
(R315). -/
def State.fireUnit (s : State) (k : Nat) : State :=
  if s.cmpFires k then (s.compareWake k).jesdSysref k (s.tbVal (s.cmpLive k).tb) else s.compareWake k

/-- A write of ARM (R48); a firing of the same tick that the unit has not yet acted on uses the values from before it (R58). -/
def State.armUnit (s : State) (k : Nat) : State := (s.fireUnit k).arm k

/-- What the block does with no command waiting: a tick of the timebase clock, the firings of the units that the tick makes due,
the ends of the pulses that it ends; held jobs whose deadline has passed end (R178); an idle link enters L1 where ASPM has it (R344). In Dormant nothing happens (R41). -/
def idleStep (s : State) : State :=
  if s.pwr.dormant then s
  else
    let s1 := s.tick
    let s2 := ((List.range 64).filter (fun k => s1.on (F.TIME_CMP_STAT_ARMED k) && (s1.cmpLive k).due)).foldl State.fireUnit s1
    (((s2.time.pulse.map (fun (e : Nat × (Nat × Nat)) => e.1)).foldl State.endPulse s2).linkIdle).heldCycles

/-- ARM (R48, R49, R58). -/
def execArm (k : BitVec 6) (s : State) : Host.Outcome State Fault Refusal := .next (s.armUnit k.toNat)

/-- COMPARE_FIRE (R47). -/
def execCompareFire (k : BitVec 6) (s : State) : Host.Outcome State Fault Refusal := .next (s.fireUnit k.toNat)

end Sys2Proof.Machine
end

