-- ==== Sys2Proof/Machine/Perf.lean ====
section
/-!
DEFINITION. The performance counters: reading, clearing and dumps (19_counters.md, R439 to R451).
-/

namespace Sys2Proof.Machine

/-! ## The counters (R439, R441, R446) -/

/-- Whether event `i` is an occupancy event, marked (O) in the catalogue (R441, R443). -/
def isOcc (i : Nat) : Bool :=
  if i < 192 then i % 24 = 11
  else if i < 320 then decide (14 ≤ (i - 192) % 16)
  else if i < 392 then (i - 320) % 8 = 7
  else if i < 488 then decide (22 ≤ (i - 392) % 24)
  else if i < 520 then decide (504 ≤ i)
  else if 676 ≤ i && i < 708 then true
  else i = 1132

/-- Whether the model leaves an event uncounted: cycles, what the pipelines squash, occupancies, flits, the choices of
adaptive routing. -/
def uncountedEvent (i : Nat) : Bool :=
  isOcc i || (decide (i < 192) && [1, 2, 3, 4, 19, 20, 22].contains (i % 24)) || (decide (536 ≤ i) && decide (i < 676)) ||
  (decide (716 ≤ i) && decide (i < 726)) ||
  (decide (1142 ≤ i) && decide (i < 1150))

/-- Counter `i` as it stands; free where its event is not counted. -/
def State.counter (s : State) (i : Nat) : BitVec 48 :=
  if uncountedEvent i then Config.uncounted s.freeCtr s.time.ticks i else mapGet s.perf 0 i

/-- PERF_CTRL.CLR_ALL: every counter is 0 (R439). -/
def State.clrAll (s : State) : State := { s with perf := [] }

/-- A read of PERF_CNT_LO by an initiator latches the high bits and the sampling instant for it (R446). -/
def State.latchCounter (s : State) (init i : Nat) : State :=
  { s with
    perfHi := mapSet s.perfHi 0 (init * 2048 + i) ((s.counter i >>> 32).truncate 16)
    perfAt := mapSet s.perfAt 0 init s.now }

/-- What PERF_CNT_HI of counter `i` reads for an initiator. -/
def State.counterHi (s : State) (init i : Nat) : Word := (mapGet s.perfHi 0 (init * 2048 + i)).setWidth 32

/-- What PERF_LAST_AT reads for an initiator. -/
def State.lastAt (s : State) (init : Nat) : Word := mapGet s.perfAt 0 init

/-! ## Dumps (R450) -/

/-- The address of the dump ring. -/
def State.dumpBase (s : State) : Nat := s.get F.PERF_DUMP_CFG_BASE_HI * 2 ^ 32 + s.get F.PERF_DUMP_BASE_LO_BASE / 64 * 64

/-- A write of PERF_DUMP_CFG: EN = 1 is taken only for a ring of a listed size in its place (R413, R450). -/
def State.writeDumpCfg (s : State) (v : Word) : State :=
  let s1 := s.writeFields R.PERF_DUMP_CFG v
  let dlog := s1.get F.PERF_DUMP_CFG_DLOG
  if s1.on F.PERF_DUMP_CFG_EN && !(decide (4 ≤ dlog) && decide (dlog ≤ 16) && s1.ringHome s1.dumpBase (64 * 2 ^ dlog)) then
    (s1.put F.PERF_DUMP_CFG_EN 0).flag F.PERF_STAT_CFG_BAD
  else s1

/-- The record of `n` counters from `i` on, at most eight (R450). -/
def State.dumpRecord (s : State) (i n : Nat) (seq : BitVec 8) : List Byte :=
  toBytes 4 s.now.toNat ++ toBytes 2 i ++ toBytes 1 n ++ toBytes 1 seq.toNat ++
  (List.range 8).flatMap (fun j => toBytes 6 (if j < n then (s.counter (i + j)).toNat else 0)) ++
  toBytes 4 s.now.toNat ++ toBytes 4 s.now.toNat

/-- The dump engine writes its next record, or ends the dump. -/
def State.dumpNext (s : State) : State :=
  if s.dump.left = 0 then s.put F.PERF_STAT_DUMP_BUSY 0
  else
    let n := min 8 s.dump.left
    let s1 := s.postWrite 0xFFF (s.dumpBase + 64 * (s.get F.PERF_DUMP_WR_WR % 2 ^ s.get F.PERF_DUMP_CFG_DLOG))
      (s.dumpRecord s.dump.at_ n (s.dump.seq - 1)) .dumpRec
    { s1 with dump := ⟨s.dump.seq, s.dump.at_ + n, s.dump.left - n⟩ }

/-- The DLVD of a dump record has come: WR advances, and the next record follows. -/
def State.dumpDone (s : State) : State :=
  ((s.setReg R.PERF_DUMP_WR (s.reg R.PERF_DUMP_WR + 1)).count 1181 1).dumpNext

/-- A dump starts, or is refused (R450). -/
def State.dumpStart (s : State) : State :=
  let first := s.get F.PERF_DUMP_RANGE_FIRST
  let n := s.get F.PERF_DUMP_RANGE_COUNT
  let used := (s.reg R.PERF_DUMP_WR - s.reg R.PERF_DUMP_RD).toNat
  if s.on F.PERF_STAT_DUMP_BUSY then (s.flagRep F.PERF_STAT_DUMP_OVF F.PERF_STAT_OVF_REP).count 1182 1
  else if decide (1184 < first + n) || decide (n = 0) || !s.on F.PERF_DUMP_CFG_EN then
    (s.flag F.PERF_STAT_CFG_BAD).count 1182 1
  else if 2 ^ s.get F.PERF_DUMP_CFG_DLOG < used + (n + 7) / 8 then
    (s.flagRep F.PERF_STAT_DUMP_OVF F.PERF_STAT_OVF_REP).count 1182 1
  else
    State.dumpNext { (s.put F.PERF_STAT_DUMP_BUSY 1) with dump := ⟨s.dump.seq + 1, first, n⟩ }

/-! ## Commands -/

/-- CLR_ALL (R439). -/
def execClrAll (s : State) : Host.Outcome State Fault Refusal := .next s.clrAll

/-- PERF_CNT_LO (R446): the value read goes to the reader. -/
def execPerfCntLo (init : BitVec 12) (i : BitVec 11) (s : State) : Host.Outcome State Fault Refusal :=
  if counterOk i.toNat then
    .next ((s.latchCounter init.toNat i.toNat).emit (.readData (toBytes 4 (s.counter i.toNat).toNat) true))
  else .fault .noSuchUnit

/-- GO (R450). -/
def execGo (s : State) : Host.Outcome State Fault Refusal := .next s.dumpStart

/-- DUMP_PERIOD_EXPIRY (R450): the interval exists only where PERIOD is not 0. -/
def execDumpPeriodExpiry (s : State) : Host.Outcome State Fault Refusal :=
  .next (if s.get F.PERF_DUMP_CFG_PERIOD = 0 then s else s.dumpStart)

end Sys2Proof.Machine
end

