-- ==== Sys2Proof/Machine/Regs.lean ====
section
/-!
DEFINITION. A read and a write of any register of register space: the words that blocks show through windows, the effects
that reads have, and the action of every register that has one (R3 to R7, R73 to R76, R82).
-/

namespace Sys2Proof.Machine

/-- The unit of a family of `n` at `base`, `stride` apart, that holds an address, and the offset in it. -/
def unitAt (base stride n a : Nat) : Option (Nat × Nat) :=
  if base ≤ a ∧ (a - base) / stride < n then some ((a - base) / stride, (a - base) % stride) else none

/-! ## Windows -/

/-- The queue window's registers (R245). -/
def inQWindow (a : Nat) : Bool := decide (R.QMGR_Q_BASE_LO ≤ a) && decide (a ≤ R.QMGR_Q_NOTIFY) && decide (a % 4 = 0)

/-- The stop that VEIN_STOP_SEL selects. -/
def State.selStop (s : State) : Nat := s.get F.VEIN_STOP_SEL_NODE

/-- Reserved transaction IDs at a stop's NI (R278). -/
def State.resIdsAt (s : State) (node : Nat) : Nat := (s.resIds.filter (fun r => nodeOfInit r.1.toNat = node)).length

/-- What VEIN_STOP_CTRL, VEIN_STOP_STAT and VEIN_STOP_DROP read, by offset from VEIN_STOP_CTRL (R279, R280). -/
def State.stopView (s : State) (off : Nat) : Word :=
  let n := s.selStop
  let x := s.stop n
  if !nodeValid n then 0
  else match off with
    | 0 => if x.closed then 1 else 0
    | 4 => BitVec.ofNat 32 ((if x.closed then 1 else 0) + (if x.drained then 2 else 0) + min 255 (s.resIdsAt n) * 256)
    | _ => BitVec.ofNat 32 (x.posted.toNat + x.other.toNat * 2 ^ 16)

/-- What VEIN_RT_DATA reads: the selected entry of the selected NI's table (R275). -/
def State.rtView (s : State) : Word :=
  if nodeHasNi (s.get F.VEIN_RT_SEL_NI) then (s.route (s.get F.VEIN_RT_SEL_NI) (s.get F.VEIN_RT_SEL_DEST)).setWidth 32 else 0

/-- PWR_STAT: STATE reads IDLE while every stratum that is not isolated is gated (R380). -/
def State.pwrStatView (s : State) : Word :=
  let idle : Bool := (List.range 8).all (fun t => s.stratumIso t || (s.sieve t).gated)
  if s.get F.PWR_STAT_STATE = 0 && idle then withField (s.reg R.PWR_STAT) F.PWR_STAT_STATE 1 else s.reg R.PWR_STAT

/-- What a sieve's registers read, by offset. -/
def State.sieveView (s : State) (t off a : Nat) : Word :=
  match off with
  | 0xC => (s.sieve t).occView
  | 0x10 => BitVec.ofNat 32 (s.sieve t).itemCount
  | 0x14 => (s.sieve t).tokOccView
  | 0x104 => s.flowCfgView t
  | 0x108 => s.flowStatView t
  | 0x204 => s.tokStatView t
  | _ => s.reg a

/-- What the counter registers read (R446). -/
def State.perfView (s : State) (init a : Nat) : Word :=
  if a = R.PERF_LAST_AT then s.lastAt init
  else match unitAt (R.PERF_CNT_LO 0) 8 1184 a with
    | some (i, 0) => (s.counter i).truncate 32
    | some (i, 4) => s.counterHi init i
    | _ => s.reg a

/-! ## Reads -/

/-- The word that a register read of an initiator returns. A reserved offset reads 0 (R5). -/
def State.regRead (s : State) (init a : Nat) : Word :=
  match a / 2 ^ 24 with
  | 0 => if a = R.GLOBAL_WHOAMI then BitVec.ofNat 32 (init % 4096) else s.reg a
  | 1 =>
    match unitAt (R.TIME_PTP_CFG 0) 64 33 a with
    | some (p, off) => if 0x10 ≤ off ∧ off ≤ 0x18 ∧ off % 4 = 0 then s.txtsView p off else s.reg a
    | none => s.reg a
  | 2 =>
    if inQWindow a then (s.q (s.get F.QMGR_Q_SEL_QID)).view ((a - R.QMGR_Q_BASE_LO) / 4)
    else if a = R.QMGR_TOK_CNT then BitVec.ofNat 32 (mapGet s.tokCnt 0 (s.get F.QMGR_TOK_SEL_TOKEN))
    else match unitAt (R.QMGR_TAKE 0) 4 (2 ^ 18) a with
      | some (q, 0) => s.takeWord q
      | _ => s.reg a
  | 4 =>
    match unitAt (R.SIEVE_CTRL 0) 0x40000 8 a with
    | some (t, off) => s.sieveView t off a
    | none => s.reg a
  | 5 =>
    if a = R.VEIN_RT_DATA then s.rtView
    else if R.VEIN_STOP_CTRL ≤ a ∧ a ≤ R.VEIN_STOP_DROP ∧ a % 4 = 0 then s.stopView (a - R.VEIN_STOP_CTRL)
    else s.reg a
  | 6 =>
    match unitAt (R.FH_JESD_CFG 0) 256 4 a with
    | some (j, off) => if 0x14 ≤ off ∧ off ≤ 0x20 ∧ off % 4 = 0 then s.jesdView j off else s.reg a
    | none => s.reg a
  | 7 => if a = R.HOST_SF_OCC then BitVec.ofNat 32 s.host.snoop.length else s.reg a
  | 8 => if a = R.PWR_STAT then s.pwrStatView else s.reg a
  | 10 => if a = R.MEM_REP_STAT then s.repView else s.reg a
  | 11 => if a = R.CORR_TBL_DATA then s.corrDataView else s.reg a
  | 13 => s.perfView init a
  | _ => s.reg a

/-- The words of control memory that a register read reads (R287): a queue's behind the queue window and QMGR_TAKE, a table's
behind CORR_TBL_DATA, a flow's or token's behind a sieve's windows. -/
def State.ctlBehind (s : State) (a : Nat) : List Nat :=
  if inQWindow a then [ctlQueueWord (s.get F.QMGR_Q_SEL_QID) ((a - R.QMGR_Q_BASE_LO) / 4)]
  else if a = R.CORR_TBL_DATA then s.corrDataKey
  else match unitAt (R.QMGR_TAKE 0) 4 (2 ^ 18) a with
    | some (q, 0) => ctlQueue q
    | _ => match unitAt (R.SIEVE_CTRL 0) 0x40000 8 a with
      | some (t, 0x104) => [ctlSieve t 1 (s.get (F.SIEVE_FLOW_SEL_FLOW t))]
      | some (t, 0x108) => [ctlSieve t 1 (s.get (F.SIEVE_FLOW_SEL_FLOW t))]
      | some (t, 0x204) => [ctlSieve t 2 (s.get (F.SIEVE_TOK_SEL_INDEX t))]
      | _ => []

/-- What a register read leaves behind: control memory behind it is checked (R287), QMGR_TAKE takes (R241), PERF_CNT_LO latches
(R446). -/
def State.regReadEffect (s : State) (init a : Nat) : State :=
  match unitAt (R.QMGR_TAKE 0) 4 (2 ^ 18) a with
  | some (q, 0) => s.takeEffect q
  | _ => match unitAt (R.PERF_CNT_LO 0) 8 1184 a with
    | some (i, 0) => s.latchCounter init i
    | _ => (s.ungateAt a).ctlRead (s.ctlBehind a)

/-- How a register read that reaches its block is answered: PARITY where its word has an uncorrectable error (R277, R287), else
DONE. -/
def State.regReadResp (s : State) (a : Nat) : Nat := if s.ctlBad (s.ctlBehind a) then rParity else rDone

/-! ## Writes, block by block -/

/-- GLOBAL (R413, R415, R70). -/
def State.writeGlobal (s : State) (a : Nat) (v : Word) : State :=
  if a = R.GLOBAL_KS_CMD then s.ksCmd (bitsOf v.toNat 10 8) (bitsOf v.toNat 7 0)
  else if a = R.GLOBAL_FR_BASE_LO then s.setReg a (v &&& 0xFFFFFFC0)
  else if a = R.GLOBAL_FR_CFG then s.writeFrCfg v
  else if a = R.GLOBAL_FR_RD then s.writeFrRd v
  else if a = R.GLOBAL_RST then s.globalRst v
  else s.writeFields a v

/-- One timebase's registers (R36 to R38): TB0.EN is read-only. -/
def State.writeTimebase (s : State) (k off a : Nat) (v : Word) : State :=
  match off with
  | 0 => s.writeTb k false v
  | 4 => s.writeTb k true v
  | 8 => s.writeFields a (if k = 0 then v ||| 1 else v)
  | 0xC => s.writeRate k v
  | 0x18 => if v.getLsbD 0 then s.stepGo k else s
  | _ => s.writeFields a v

/-- TIME (R33 to R64). -/
def State.writeTime (s : State) (a : Nat) (v : Word) : State :=
  if a = R.TIME_REF_CFG then s.writeRefCfg v
  else if a = R.TIME_SNAP then s.snapshot (v.truncate 8)
  else if a = R.TIME_SYNCE_CFG then s.writeSynce v
  else match unitAt (R.TIME_TB_NS 0) 64 8 a with
    | some (k, off) => s.writeTimebase k off a v
    | none => match unitAt (R.TIME_CMP_CFG 0) 32 64 a with
      | some (k, 0) => if v.getLsbD 12 then ((s.fireUnit k).writeFields a v).arm k else s.writeFields a v
      | some _ => s.writeFields a v
      | none => match unitAt (R.TIME_PTP_CFG 0) 64 33 a with
        | some (p, 0xC) => s.commitEpoch p v
        | some (p, 0x1C) => if v.getLsbD 0 then s.popTxts p else s
        | _ => s.writeFields a v

/-- QMGR (R245, R247). -/
def State.writeQmgr (s : State) (a : Nat) (v : Word) : State :=
  if inQWindow a then s.qWrite ((a - R.QMGR_Q_BASE_LO) / 4) v
  else match unitAt (R.QMGR_DB 0) 4 (2 ^ 18) a with
    | some (q, 0) => s.doorbell q v
    | _ => s.writeFields a v

/-- One mover channel's registers (R251, R253, R258). -/
def State.writeChan (s : State) (k ch off a : Nat) (v : Word) : State :=
  match off with
  | 4 => s.chCmd k ch v
  | 0xC => if s.chState k ch = chIdle then s.writeFields a v else s
  | 0x10 => s.writeFields a (v &&& 0xFFFFFFE0)
  | 0x18 => s.chShadow k ch false v
  | 0x1C => s.chShadow k ch true v
  | _ => s.writeFields a v

/-- MOVER. -/
def State.writeMover (s : State) (a : Nat) (v : Word) : State :=
  match unitAt (R.MOVER_STAT 0) 0x10000 9 a with
  | some (k, off) =>
    match unitAt 0x1000 64 (chansOf k) off with
    | some (ch, o) => s.writeChan k ch o a v
    | none => s.writeFields a v
  | none => s

/-- SIEVE (R225, R217). -/
def State.writeSieve (s : State) (a : Nat) (v : Word) : State :=
  match unitAt (R.SIEVE_CTRL 0) 0x40000 8 a with
  | some (t, 0x104) => s.flowCfg t v
  | some (t, 0x208) => s.tokCmd t v
  | _ => s.writeFields a v

/-- Whether a stop is that of a druse with a fenced macro, which stays closed until the next power-on reset (R292). -/
def State.fencedStop (s : State) (node : Nat) : Bool :=
  s.macros.any (fun e => e.2.fenced && (match macroDruse e.1 with
    | some d => decide (nodeDruse d = node)
    | none => false))

/-- CLOSE of a stop is written: reopening clears DRAINED (R279, R280). -/
def State.writeClose (s : State) (node : Nat) (v : Bool) : State :=
  if v then s.closeStop node else if s.fencedStop node then s else s.openStop node

/-- CLR_CNT of a stop. -/
def State.clearDrops (s : State) (node : Nat) : State :=
  s.setStop node { s.stop node with
    posted := 0
    other := 0 }

/-- VEIN_STOP_CTRL of the selected stop. -/
def State.writeStop (s : State) (v : Word) : State :=
  let n := s.selStop
  if !nodeValid n then s
  else
    let s1 := if v.getLsbD 0 == (s.stop n).closed then s else s.writeClose n (v.getLsbD 0)
    if v.getLsbD 1 then s1.clearDrops n else s1

/-- VEIN_BRIDGE_DIS: a write that would set both bits of a die leaves that die's bits (R273). -/
def State.writeBridgeDis (s : State) (v : Word) : State :=
  (List.range 4).foldl (fun (s : State) n =>
    if v.getLsbD (2 * n) && v.getLsbD (2 * n + 1) then s
    else (s.putBit F.VEIN_BRIDGE_DIS_DIS (2 * n) (v.getLsbD (2 * n))).putBit F.VEIN_BRIDGE_DIS_DIS (2 * n + 1)
      (v.getLsbD (2 * n + 1))) s

/-- An entry of a route table is written (R275). -/
def State.setRoute (s : State) (ni dst : Nat) (e : BitVec 7) : State :=
  { s with routes := mapSet s.routes (defaultRoute ni dst) (ni * 256 + dst) e }

/-- VEIN. -/
def State.writeVein (s : State) (a : Nat) (v : Word) : State :=
  if a = R.VEIN_BRIDGE_DIS then s.writeBridgeDis v
  else if a = R.VEIN_STOP_CTRL then s.writeStop v
  else if a = R.VEIN_RT_DATA then
    if s.sealed || !nodeHasNi (s.get F.VEIN_RT_SEL_NI) then s
    else s.setRoute (s.get F.VEIN_RT_SEL_NI) (s.get F.VEIN_RT_SEL_DEST) (v.truncate 7)
  else s.writeFields a v

/-- One lane's registers (R317 to R322). -/
def State.writeLane (s : State) (l off a : Nat) (v : Word) : State :=
  match off with
  | 0 => s.writeLaneCfg l v
  | 0xC => s.writeDfe l 0 v
  | 0x10 => s.writeDfe l 1 v
  | 0x14 => s.writeDfe l 2 v
  | 0x18 => s.writeFfe l v
  | 0x1C => s.writePrbs l v
  | 0x28 => s.writeLaneCmd l v
  | _ => s.writeFields a v

/-- One port's registers (R299, R310). -/
def State.writePort (s : State) (p off a : Nat) (v : Word) : State :=
  match off with
  | 0 => s.writePortCfg p v
  | 0x20 => s.writeTxRing p false v
  | 0x24 => s.writeTxRing p true v
  | _ => s.writeFields a v

/-- One JESD link's registers (R313 to R316). -/
def State.writeJesd (s : State) (j off a : Nat) (v : Word) : State :=
  if off = 0 then s.writeJesdCfg j v
  else if off = 4 then s.writeJesdParam j v
  else if 0x14 ≤ off ∧ off ≤ 0x20 then s.writeJesdRing j off v
  else s.writeFields a v

/-- FH. -/
def State.writeFh (s : State) (a : Nat) (v : Word) : State :=
  match unitAt (R.FH_GRP_CFG 0) 16 6 a with
  | some (g, off) => if off = 0 then s.writeGrp g v else s.writeFields a v
  | none => match unitAt (R.FH_LANE_CFG 0) 256 41 a with
    | some (l, off) => s.writeLane l off a v
    | none => match unitAt (R.FH_PORT_CFG 0) 128 33 a with
      | some (p, off) => s.writePort p off a v
      | none => match unitAt (R.FH_RULE_MATCH 0) 32 1024 a with
        | some (_, off) => s.writeFields a (if off = 0xC then v &&& 0xFFFFFFC0 else v)
        | none => match unitAt (R.FH_JESD_CFG 0) 256 4 a with
          | some (j, off) => s.writeJesd j off a v
          | none => s

/-- HOST. -/
def State.writeHost (s : State) (a : Nat) (v : Word) : State :=
  if a = R.HOST_CTRL then s.writeHostCtrl v
  else match unitAt (R.HOST_MSIX_ADDR_LO 0) 16 2048 a with
    | some (_, 0) => s.writeFields a (v &&& 0xFFFFFFFC)
    | _ => s.writeFields a v

/-- PWR (R371, R381, R382). -/
def State.writePower (s : State) (a : Nat) (v : Word) : State :=
  if a = R.PWR_SLEEP_REQ then s.writeSleepReq v
  else if a = R.PWR_DRUSE_OFF then s.writeDruseOff v
  else match unitAt (R.PWR_DIE_REQ 0) 16 4 a with
    | some (n, 0) => s.writeTarget n v
    | _ => s.writeFields a v

/-- CAL (R397, R399). -/
def State.writeCal (s : State) (a : Nat) (v : Word) : State :=
  if a = R.CAL_CMD then s.calRun (v.toNat % 32)
  else match unitAt (R.CAL_ITEM_FUSE 0) 16 146 a with
    | some (i, 4) => s.writeCalUser i v
    | _ => s.writeFields a v

/-- MEM (R290). -/
def State.writeMem (s : State) (a : Nat) (v : Word) : State :=
  match unitAt (R.MEM_INIT_CLR 0) 4 112 a with
  | some (n, 0) => s.initClr n v
  | _ => s.writeFields a v

/-- CORR (R183, R208). -/
def State.writeCorr (s : State) (a : Nat) (v : Word) : State :=
  if a = R.CORR_CTRL then s.corrCtrl v
  else if a = R.CORR_TBL_DATA then s.corrData v
  else s.writeFields a v

/-- MILL (R162, R178). -/
def State.writeMill (s : State) (a : Nat) (v : Word) : State :=
  match unitAt (R.MILL_CTRL 0) 0x100000 4 a with
  | some (n, 0) => s.millCtrl n v
  | some (n, 8) => s.millEngines n a v
  | some (n, 12) => s.millEngines n a v
  | _ => s.writeFields a v

/-- PERF (R439, R441, R450). -/
def State.writePerf (s : State) (a : Nat) (v : Word) : State :=
  if a = R.PERF_CTRL then if v.getLsbD 0 then s.clrAll else s
  else if a = R.PERF_DUMP_BASE_LO then s.setReg a (v &&& 0xFFFFFFC0)
  else if a = R.PERF_DUMP_CFG then s.writeDumpCfg v
  else if a = R.PERF_DUMP_CMD then if v.getLsbD 0 then s.dumpStart else s
  else match unitAt (R.PERF_OCC_N 0) 8 1184 a with
    | some (i, 0) => if isOcc i then s.writeFields a v else s
    | _ => s.writeFields a v

/-- TWIN (R431 to R437). -/
def State.writeTwin (s : State) (a : Nat) (v : Word) : State :=
  if a = R.TWIN_CFG then s.writeTwinCfg v
  else if a = R.TWIN_CMD then s.writeTwinCmd v
  else if a = R.TWIN_TX_BASE_LO then s.writeTwinRing R.TWIN_TX_BASE_LO R.TWIN_TX_CFG F.TWIN_TX_CFG_EN 0xFFFFFFC0 false v
  else if a = R.TWIN_TX_CFG then s.writeTwinRing R.TWIN_TX_BASE_LO R.TWIN_TX_CFG F.TWIN_TX_CFG_EN 0xFFFFFFC0 true v
  else if a = R.TWIN_RX_BASE_LO then s.writeTwinRing R.TWIN_RX_BASE_LO R.TWIN_RX_CFG F.TWIN_RX_CFG_EN 0xFFFFFF00 false v
  else if a = R.TWIN_RX_CFG then s.writeTwinRing R.TWIN_RX_BASE_LO R.TWIN_RX_CFG F.TWIN_RX_CFG_EN 0xFFFFFF00 true v
  else s.writeFields a v

/-- BOOT (R346, R359, R360). -/
def State.writeBoot (s : State) (a : Nat) (v : Word) : State :=
  if a = R.BOOT_ROLLBACK_CMD then s.rollback v
  else if a = R.BOOT_FW_READY then s.fwReady v
  else if a = R.BOOT_FL_CTRL then s.flashCtrl v
  else s.writeFields a v

/-! ## Writes -/

/-- A register write that reaches its block: a gated stratum's clock runs for it (R77); the action of the register, or each
field under its access type (R3 to R6). -/
def State.regWrite (s0 : State) (a : Nat) (v : Word) : State :=
  let s := s0.ungateAt a
  match a / 2 ^ 24 with
  | 0 => s.writeGlobal a v
  | 1 => s.writeTime a v
  | 2 => s.writeQmgr a v
  | 3 => s.writeMover a v
  | 4 => s.writeSieve a v
  | 5 => s.writeVein a v
  | 6 => s.writeFh a v
  | 7 => s.writeHost a v
  | 8 => s.writePower a v
  | 9 => s.writeCal a v
  | 10 => s.writeMem a v
  | 11 => s.writeCorr a v
  | 12 => s.writeMill a v
  | 13 => s.writePerf a v
  | 14 => s.writeTwin a v
  | 15 => s.writeBoot a v
  | _ => s

/-- How a register write that reaches its block is answered: RIGHTS where it carries a changed RWL value after SEAL, else
DONE (R6). -/
def State.regWriteResp (s : State) (a : Nat) (v : Word) : Nat :=
  if a = R.VEIN_RT_DATA then
    if s.sealed && nodeHasNi (s.get F.VEIN_RT_SEL_NI) && decide (v &&& 0x7F ≠ s.rtView) then rRights else rDone
  else s.writeResp a v

/-- Whether the NI of an initiator sends an access to a register: its route entry has VALID = 1 (R276). -/
def State.regValid (s : State) (init a : Nat) : Bool := (s.route (nodeOfInit init) (nodeOfReg a)).getLsbD 0

/-- Whether a register access of an initiator reaches its block: its NI sends it, and no stop on its way is closed (R71, R276,
R279). -/
def State.regReaches (s : State) (init a : Nat) : Bool :=
  s.regValid init a && !s.closedOnWay true (nodeOfInit init) (nodeOfReg a)

/-- How an access that does not reach its block is answered. -/
def State.unreached (s : State) (init a : Nat) : Nat := if s.regValid init a then rDomainOff else rNoTarget

/-! ## The command -/

/-- REGISTER_WRITE (R3 to R6): a write that meets a closed stop, or is not aligned to 4 bytes (R82), changes nothing. -/
def execRegisterWrite (init : BitVec 12) (a : BitVec 28) (v : BitVec 32) (s : State) : Host.Outcome State Fault Refusal :=
  .next (if s.regReaches init.toNat a.toNat && decide (a.toNat % 4 = 0) then s.regWrite a.toNat v else s)

/-- CLOSE (R279). -/
def execClose (node : BitVec 8) (v : Bool) (s : State) : Host.Outcome State Fault Refusal :=
  if stopOk node.toNat then .next (s.writeClose node.toNat v) else .fault .noSuchUnit

/-- CLR_CNT (R279). -/
def execClrCnt (node : BitVec 8) (s : State) : Host.Outcome State Fault Refusal :=
  if stopOk node.toNat then .next (s.clearDrops node.toNat) else .fault .noSuchUnit

end Sys2Proof.Machine
end

