-- ==== Sys2Proof/Machine/Scalar.lean ====
section
/-!
DEFINITION. The scalar instructions of the signal core (04_signal_core.md, R84 to R113) and the prefetch buffer's events.
-/

namespace Sys2Proof.Machine

/-! ## Shared shapes -/

/-- A REG-format integer operation (R88). -/
def State.regOp (s : State) (c : BitVec 8) (rd rs1 rs2 : BitVec 5) (f : DWord → DWord → DWord) : State :=
  s.runInsn c.toNat (useG [rs1.toNat, rs2.toNat] [rd.toNat]) (.alu (fun g => f (g rs1.toNat) (g rs2.toNat))) none none
    false false (s.retireG c.toNat rd.toNat (f ((s.core c.toNat).gr rs1.toNat) ((s.core c.toNat).gr rs2.toNat)))

/-- A REG-format operation of one operand, whose rs2 field must be 0 (R88). -/
def State.regOp1 (s : State) (c : BitVec 8) (rd rs1 rs2 : BitVec 5) (f : DWord → DWord) : State :=
  s.runInsn c.toNat (useG [rs1.toNat] [rd.toNat]) (.alu (fun g => f (g rs1.toNat))) (illegalIf (rs2 ≠ 0)) none
    false false (s.retireG c.toNat rd.toNat (f ((s.core c.toNat).gr rs1.toNat)))

/-- An IMM-format operation; `bad` says that a field that must be 0 is not (R86, R88). -/
def State.immOp (s : State) (c : BitVec 8) (rd rs1 : BitVec 5) (bad : Bool) (f : DWord → DWord) : State :=
  s.runInsn c.toNat (useG [rs1.toNat] [rd.toNat]) (.alu (fun g => f (g rs1.toNat))) (illegalIf bad) none
    false false (s.retireG c.toNat rd.toNat (f ((s.core c.toNat).gr rs1.toNat)))

/-- A load of `size` bytes (R88, R89, R93, R105). -/
def State.loadOp (s : State) (c : BitVec 8) (rt base : BitVec 5) (off : BitVec 16) (size : Nat) (signed : Bool) : State :=
  let ea := (s.core c.toNat).ea base.toNat off
  s.runInsn c.toNat (useG [base.toNat] [rt.toNat]) (.load size signed base.toNat off) none
    (s.checkEa c.toNat ea size (s.counterOpen ea)) (s.loadWaits c.toNat ea.toNat size) (inRegSpace ea)
    (s.doLoad c.toNat rt.toNat size signed ea.toNat)

/-- Whether a store or atomic waits: 16 of them are outstanding (R103), or no transaction ID is free (R266). -/
def State.storeWaits (s : State) (c : Nat) : Bool := decide (16 ≤ s.storesOut c) || !s.idsFree c 1

/-- A store of `size` bytes (R88, R89, R93, R102, R105). -/
def State.storeOp (s : State) (c : BitVec 8) (rt base : BitVec 5) (off : BitVec 16) (size : Nat) : State :=
  let ea := (s.core c.toNat).ea base.toNat off
  s.runInsn c.toNat (useG [base.toNat, rt.toNat] []) (.store size rt.toNat base.toNat off) none
    (s.checkEa c.toNat ea size false) (!ownData c.toNat ea.toNat && s.storeWaits c.toNat) true
    (s.doStore c.toNat size ((s.core c.toNat).gr rt.toNat) ea.toNat)

/-- Whether an atomic may target an address: a core data memory, druse memory, stratum buffer or hub buffer (R89). -/
def atomicTarget (a : Nat) : Bool :=
  match tgtOf a with
  | .core _ off => off < 0x40000
  | .druse _ off => off < 0x200000
  | .strat _ off => off < 0x600000
  | .hub _ => true
  | _ => false

/-- An atomic sends its request; its answer writes rd (R88, R93, R97, R103). -/
def State.doAtomic (s : State) (c rd fn : Nat) (v : DWord) (a : Nat) : State :=
  let t := s.freeTxn c
  let s1 := { s with snaps := s.snaps ++ [(⟨c, t, BitVec.ofNat 40 a, s.core c, none⟩ : Snap)] }
  ((s1.mapCore c (fun k => { (k.await rd t) with pf := [] })).request c 3 a 8 (BitVec.ofNat 3 fn) false (toBytes 8 v.toNat) 0
    (.atom rd)).retire c

/-- An atomic instruction (R88, R89). -/
def State.atomicOp (s : State) (c : BitVec 8) (rd rs1 rs2 : BitVec 5) (fn : Nat) : State :=
  let ea := (s.core c.toNat).gr rs1.toNat
  s.runInsn c.toNat (useG [rs1.toNat, rs2.toNat] [rd.toNat]) .skip none
    (match s.checkEa c.toNat ea 8 false with
     | some t => some t
     | none => if atomicTarget ea.toNat then none else some (trapMem 0x13 ea.toNat))
    (s.storeWaits c.toNat) true
    (s.doAtomic c.toNat rd.toNat fn ((s.core c.toNat).gr rs2.toNat) ea.toNat)

/-- A BR target (R85, R88). -/
def brTarget (pc off : BitVec 16) : BitVec 16 := pc + (off <<< 2)
/-- A JMP target (R85, R88). -/
def jmpTarget (pc : BitVec 16) (off : BitVec 26) : BitVec 16 := pc + (off.truncate 16 <<< 2)

/-- A conditional branch (R88). -/
def State.branchOp (s : State) (c : BitVec 8) (rs1 rs2 : BitVec 5) (off : BitVec 16) (f : DWord → DWord → Bool) : State :=
  let k := s.core c.toNat
  s.runInsn c.toNat (useG [rs1.toNat, rs2.toNat] [])
    (.branch (fun g pc => if f (g rs1.toNat) (g rs2.toNat) then brTarget pc off else pc + 4) (fun pc => some (brTarget pc off))
      false) none none false false
    (s.retireTo c.toNat (if f (k.gr rs1.toNat) (k.gr rs2.toNat) then brTarget k.pc off else k.pc + 4))

/-- Leading zeros of a word. -/
def clz64 (v : DWord) : Nat := if v = 0 then 64 else 63 - Nat.log2 v.toNat
/-- Set bits of a word. -/
def popc64 (v : DWord) : Nat := ((List.range 64).filter (fun i => v.getLsbD i)).length

/-- The pc after a jump, as the link that it writes (R88). -/
def Core.link (k : Core) : DWord := (k.pc + 4).zeroExtend 64

/-! ## Integer register operations -/

/-- ADD (R88). -/
def execAdd (c : BitVec 8) (rd rs1 rs2 : BitVec 5) (s : State) : Host.Outcome State Fault Refusal :=
  .next (s.regOp c rd rs1 rs2 (fun a b => a + b))

/-- SUB (R88). -/
def execSub (c : BitVec 8) (rd rs1 rs2 : BitVec 5) (s : State) : Host.Outcome State Fault Refusal :=
  .next (s.regOp c rd rs1 rs2 (fun a b => a - b))

/-- AND (R88). -/
def execAnd (c : BitVec 8) (rd rs1 rs2 : BitVec 5) (s : State) : Host.Outcome State Fault Refusal :=
  .next (s.regOp c rd rs1 rs2 (fun a b => a &&& b))

/-- OR (R88). -/
def execOr (c : BitVec 8) (rd rs1 rs2 : BitVec 5) (s : State) : Host.Outcome State Fault Refusal :=
  .next (s.regOp c rd rs1 rs2 (fun a b => a ||| b))

/-- XOR (R88). -/
def execXor (c : BitVec 8) (rd rs1 rs2 : BitVec 5) (s : State) : Host.Outcome State Fault Refusal :=
  .next (s.regOp c rd rs1 rs2 (fun a b => a ^^^ b))

/-- SLL by rs2[5:0] (R88). -/
def execSll (c : BitVec 8) (rd rs1 rs2 : BitVec 5) (s : State) : Host.Outcome State Fault Refusal :=
  .next (s.regOp c rd rs1 rs2 (fun a b => a <<< (b.toNat % 64)))

/-- SRL (R88). -/
def execSrl (c : BitVec 8) (rd rs1 rs2 : BitVec 5) (s : State) : Host.Outcome State Fault Refusal :=
  .next (s.regOp c rd rs1 rs2 (fun a b => a >>> (b.toNat % 64)))

/-- SRA (R88). -/
def execSra (c : BitVec 8) (rd rs1 rs2 : BitVec 5) (s : State) : Host.Outcome State Fault Refusal :=
  .next (s.regOp c rd rs1 rs2 (fun a b => a.sshiftRight (b.toNat % 64)))

/-- SLT, signed (R88). -/
def execSlt (c : BitVec 8) (rd rs1 rs2 : BitVec 5) (s : State) : Host.Outcome State Fault Refusal :=
  .next (s.regOp c rd rs1 rs2 (fun a b => if a.slt b then 1 else 0))

/-- SLTU, unsigned (R88). -/
def execSltu (c : BitVec 8) (rd rs1 rs2 : BitVec 5) (s : State) : Host.Outcome State Fault Refusal :=
  .next (s.regOp c rd rs1 rs2 (fun a b => if a.ult b then 1 else 0))

/-- MIN, signed (R88). -/
def execMin (c : BitVec 8) (rd rs1 rs2 : BitVec 5) (s : State) : Host.Outcome State Fault Refusal :=
  .next (s.regOp c rd rs1 rs2 (fun a b => if a.slt b then a else b))

/-- MAX, signed (R88). -/
def execMax (c : BitVec 8) (rd rs1 rs2 : BitVec 5) (s : State) : Host.Outcome State Fault Refusal :=
  .next (s.regOp c rd rs1 rs2 (fun a b => if a.slt b then b else a))

/-- MINU (R88). -/
def execMinu (c : BitVec 8) (rd rs1 rs2 : BitVec 5) (s : State) : Host.Outcome State Fault Refusal :=
  .next (s.regOp c rd rs1 rs2 (fun a b => if a.ult b then a else b))

/-- MAXU (R88). -/
def execMaxu (c : BitVec 8) (rd rs1 rs2 : BitVec 5) (s : State) : Host.Outcome State Fault Refusal :=
  .next (s.regOp c rd rs1 rs2 (fun a b => if a.ult b then b else a))

/-- MUL: low 64 bits of the product (R88). -/
def execMul (c : BitVec 8) (rd rs1 rs2 : BitVec 5) (s : State) : Host.Outcome State Fault Refusal :=
  .next (s.regOp c rd rs1 rs2 (fun a b => a * b))

/-- MULH: high 64 bits of the signed product (R88). -/
def execMulh (c : BitVec 8) (rd rs1 rs2 : BitVec 5) (s : State) : Host.Outcome State Fault Refusal :=
  .next (s.regOp c rd rs1 rs2 (fun a b => BitVec.ofInt 64 (a.toInt * b.toInt / 2 ^ 64)))

/-- MULHU: high 64 bits of the unsigned product (R88). -/
def execMulhu (c : BitVec 8) (rd rs1 rs2 : BitVec 5) (s : State) : Host.Outcome State Fault Refusal :=
  .next (s.regOp c rd rs1 rs2 (fun a b => BitVec.ofNat 64 (a.toNat * b.toNat / 2 ^ 64)))

/-- ADDW (R88). -/
def execAddw (c : BitVec 8) (rd rs1 rs2 : BitVec 5) (s : State) : Host.Outcome State Fault Refusal :=
  .next (s.regOp c rd rs1 rs2 (fun a b => wForm (a + b)))

/-- SUBW (R88). -/
def execSubw (c : BitVec 8) (rd rs1 rs2 : BitVec 5) (s : State) : Host.Outcome State Fault Refusal :=
  .next (s.regOp c rd rs1 rs2 (fun a b => wForm (a - b)))

/-- ANDW (R88). -/
def execAndw (c : BitVec 8) (rd rs1 rs2 : BitVec 5) (s : State) : Host.Outcome State Fault Refusal :=
  .next (s.regOp c rd rs1 rs2 (fun a b => wForm (a &&& b)))

/-- ORW (R88). -/
def execOrw (c : BitVec 8) (rd rs1 rs2 : BitVec 5) (s : State) : Host.Outcome State Fault Refusal :=
  .next (s.regOp c rd rs1 rs2 (fun a b => wForm (a ||| b)))

/-- XORW (R88). -/
def execXorw (c : BitVec 8) (rd rs1 rs2 : BitVec 5) (s : State) : Host.Outcome State Fault Refusal :=
  .next (s.regOp c rd rs1 rs2 (fun a b => wForm (a ^^^ b)))

/-- SLLW by rs2[4:0] (R88). -/
def execSllw (c : BitVec 8) (rd rs1 rs2 : BitVec 5) (s : State) : Host.Outcome State Fault Refusal :=
  .next (s.regOp c rd rs1 rs2 (fun a b => wForm (a <<< (b.toNat % 32))))

/-- SRLW (R88). -/
def execSrlw (c : BitVec 8) (rd rs1 rs2 : BitVec 5) (s : State) : Host.Outcome State Fault Refusal :=
  .next (s.regOp c rd rs1 rs2 (fun a b => ((a.truncate 32 : Word) >>> (b.toNat % 32)).signExtend 64))

/-- SRAW (R88). -/
def execSraw (c : BitVec 8) (rd rs1 rs2 : BitVec 5) (s : State) : Host.Outcome State Fault Refusal :=
  .next (s.regOp c rd rs1 rs2 (fun a b => ((a.truncate 32 : Word).sshiftRight (b.toNat % 32)).signExtend 64))

/-- MULW (R88). -/
def execMulw (c : BitVec 8) (rd rs1 rs2 : BitVec 5) (s : State) : Host.Outcome State Fault Refusal :=
  .next (s.regOp c rd rs1 rs2 (fun a b => wForm (a * b)))

/-- CLZ (R88). -/
def execClz (c : BitVec 8) (rd rs1 rs2 : BitVec 5) (s : State) : Host.Outcome State Fault Refusal :=
  .next (s.regOp1 c rd rs1 rs2 (fun a => BitVec.ofNat 64 (clz64 a)))

/-- POPC (R88). -/
def execPopc (c : BitVec 8) (rd rs1 rs2 : BitVec 5) (s : State) : Host.Outcome State Fault Refusal :=
  .next (s.regOp1 c rd rs1 rs2 (fun a => BitVec.ofNat 64 (popc64 a)))

/-- ABS; that of -2^63 is -2^63 (R88). -/
def execAbs (c : BitVec 8) (rd rs1 rs2 : BitVec 5) (s : State) : Host.Outcome State Fault Refusal :=
  .next (s.regOp1 c rd rs1 rs2 (fun a => if a.msb then -a else a))

/-! ## Integer immediate operations -/

/-- ADDI (R88). -/
def execAddi (c : BitVec 8) (rd rs1 : BitVec 5) (imm : BitVec 16) (s : State) : Host.Outcome State Fault Refusal :=
  .next (s.immOp c rd rs1 false (fun a => a + sext16 imm))

/-- ANDI (R88). -/
def execAndi (c : BitVec 8) (rd rs1 : BitVec 5) (imm : BitVec 16) (s : State) : Host.Outcome State Fault Refusal :=
  .next (s.immOp c rd rs1 false (fun a => a &&& zext16 imm))

/-- ORI (R88). -/
def execOri (c : BitVec 8) (rd rs1 : BitVec 5) (imm : BitVec 16) (s : State) : Host.Outcome State Fault Refusal :=
  .next (s.immOp c rd rs1 false (fun a => a ||| zext16 imm))

/-- XORI (R88). -/
def execXori (c : BitVec 8) (rd rs1 : BitVec 5) (imm : BitVec 16) (s : State) : Host.Outcome State Fault Refusal :=
  .next (s.immOp c rd rs1 false (fun a => a ^^^ zext16 imm))

/-- SLTI (R88). -/
def execSlti (c : BitVec 8) (rd rs1 : BitVec 5) (imm : BitVec 16) (s : State) : Host.Outcome State Fault Refusal :=
  .next (s.immOp c rd rs1 false (fun a => if a.slt (sext16 imm) then 1 else 0))

/-- SLTIU (R88). -/
def execSltiu (c : BitVec 8) (rd rs1 : BitVec 5) (imm : BitVec 16) (s : State) : Host.Outcome State Fault Refusal :=
  .next (s.immOp c rd rs1 false (fun a => if a.ult (sext16 imm) then 1 else 0))

/-- LUI; rs1 must be 0 (R88). -/
def execLui (c : BitVec 8) (rd rs1 : BitVec 5) (imm : BitVec 16) (s : State) : Host.Outcome State Fault Refusal :=
  .next (s.immOp c rd rs1 (rs1 ≠ 0) (fun _ => sext16 imm <<< 16))

/-- ADDIW (R88). -/
def execAddiw (c : BitVec 8) (rd rs1 : BitVec 5) (imm : BitVec 16) (s : State) : Host.Outcome State Fault Refusal :=
  .next (s.immOp c rd rs1 false (fun a => wForm (a + sext16 imm)))

/-- SLLI; imm[15:8] must be 0 (R88). -/
def execSlli (c : BitVec 8) (rd rs1 : BitVec 5) (hi : BitVec 8) (sh : BitVec 6) (s : State) : Host.Outcome State Fault Refusal :=
  .next (s.immOp c rd rs1 (hi ≠ 0) (fun a => a <<< sh.toNat))

/-- SRLI; imm[15:8] must be 0 (R88). -/
def execSrli (c : BitVec 8) (rd rs1 : BitVec 5) (hi : BitVec 8) (sh : BitVec 6) (s : State) : Host.Outcome State Fault Refusal :=
  .next (s.immOp c rd rs1 (hi ≠ 0) (fun a => a >>> sh.toNat))

/-- SRAI; imm[15:8] must be 0 (R88). -/
def execSrai (c : BitVec 8) (rd rs1 : BitVec 5) (hi : BitVec 8) (sh : BitVec 6) (s : State) : Host.Outcome State Fault Refusal :=
  .next (s.immOp c rd rs1 (hi ≠ 0) (fun a => a.sshiftRight sh.toNat))

/-! ## Loads, stores and atomics -/

/-- LB (R88). -/
def execLb (c : BitVec 8) (rt base : BitVec 5) (off : BitVec 16) (s : State) : Host.Outcome State Fault Refusal :=
  .next (s.loadOp c rt base off 1 true)

/-- LBU (R88). -/
def execLbu (c : BitVec 8) (rt base : BitVec 5) (off : BitVec 16) (s : State) : Host.Outcome State Fault Refusal :=
  .next (s.loadOp c rt base off 1 false)

/-- LH (R88). -/
def execLh (c : BitVec 8) (rt base : BitVec 5) (off : BitVec 16) (s : State) : Host.Outcome State Fault Refusal :=
  .next (s.loadOp c rt base off 2 true)

/-- LHU (R88). -/
def execLhu (c : BitVec 8) (rt base : BitVec 5) (off : BitVec 16) (s : State) : Host.Outcome State Fault Refusal :=
  .next (s.loadOp c rt base off 2 false)

/-- LW (R88). -/
def execLw (c : BitVec 8) (rt base : BitVec 5) (off : BitVec 16) (s : State) : Host.Outcome State Fault Refusal :=
  .next (s.loadOp c rt base off 4 true)

/-- LWU (R88). -/
def execLwu (c : BitVec 8) (rt base : BitVec 5) (off : BitVec 16) (s : State) : Host.Outcome State Fault Refusal :=
  .next (s.loadOp c rt base off 4 false)

/-- LD (R88). -/
def execLd (c : BitVec 8) (rt base : BitVec 5) (off : BitVec 16) (s : State) : Host.Outcome State Fault Refusal :=
  .next (s.loadOp c rt base off 8 false)

/-- SB (R88). -/
def execSb (c : BitVec 8) (rt base : BitVec 5) (off : BitVec 16) (s : State) : Host.Outcome State Fault Refusal :=
  .next (s.storeOp c rt base off 1)

/-- SH (R88). -/
def execSh (c : BitVec 8) (rt base : BitVec 5) (off : BitVec 16) (s : State) : Host.Outcome State Fault Refusal :=
  .next (s.storeOp c rt base off 2)

/-- SW (R88). -/
def execSw (c : BitVec 8) (rt base : BitVec 5) (off : BitVec 16) (s : State) : Host.Outcome State Fault Refusal :=
  .next (s.storeOp c rt base off 4)

/-- SD (R88). -/
def execSd (c : BitVec 8) (rt base : BitVec 5) (off : BitVec 16) (s : State) : Host.Outcome State Fault Refusal :=
  .next (s.storeOp c rt base off 8)

/-- SWAPD (R88). -/
def execSwapd (c : BitVec 8) (rd rs1 rs2 : BitVec 5) (s : State) : Host.Outcome State Fault Refusal :=
  .next (s.atomicOp c rd rs1 rs2 0)

/-- ADDD (R88). -/
def execAddd (c : BitVec 8) (rd rs1 rs2 : BitVec 5) (s : State) : Host.Outcome State Fault Refusal :=
  .next (s.atomicOp c rd rs1 rs2 1)

/-- ANDD (R88). -/
def execAndd (c : BitVec 8) (rd rs1 rs2 : BitVec 5) (s : State) : Host.Outcome State Fault Refusal :=
  .next (s.atomicOp c rd rs1 rs2 2)

/-- ORD (R88). -/
def execOrd (c : BitVec 8) (rd rs1 rs2 : BitVec 5) (s : State) : Host.Outcome State Fault Refusal :=
  .next (s.atomicOp c rd rs1 rs2 3)

/-- MAXD (R88). -/
def execMaxd (c : BitVec 8) (rd rs1 rs2 : BitVec 5) (s : State) : Host.Outcome State Fault Refusal :=
  .next (s.atomicOp c rd rs1 rs2 4)

/-! ## Branches and jumps -/

/-- BEQ (R88). -/
def execBeq (c : BitVec 8) (rs1 rs2 : BitVec 5) (off : BitVec 16) (s : State) : Host.Outcome State Fault Refusal :=
  .next (s.branchOp c rs1 rs2 off (fun a b => decide (a = b)))

/-- BNE (R88). -/
def execBne (c : BitVec 8) (rs1 rs2 : BitVec 5) (off : BitVec 16) (s : State) : Host.Outcome State Fault Refusal :=
  .next (s.branchOp c rs1 rs2 off (fun a b => decide (a ≠ b)))

/-- BLT (R88). -/
def execBlt (c : BitVec 8) (rs1 rs2 : BitVec 5) (off : BitVec 16) (s : State) : Host.Outcome State Fault Refusal :=
  .next (s.branchOp c rs1 rs2 off (fun a b => a.slt b))

/-- BGE (R88). -/
def execBge (c : BitVec 8) (rs1 rs2 : BitVec 5) (off : BitVec 16) (s : State) : Host.Outcome State Fault Refusal :=
  .next (s.branchOp c rs1 rs2 off (fun a b => !a.slt b))

/-- BLTU (R88). -/
def execBltu (c : BitVec 8) (rs1 rs2 : BitVec 5) (off : BitVec 16) (s : State) : Host.Outcome State Fault Refusal :=
  .next (s.branchOp c rs1 rs2 off (fun a b => a.ult b))

/-- BGEU (R88). -/
def execBgeu (c : BitVec 8) (rs1 rs2 : BitVec 5) (off : BitVec 16) (s : State) : Host.Outcome State Fault Refusal :=
  .next (s.branchOp c rs1 rs2 off (fun a b => !a.ult b))

/-- J (R88). -/
def execJ (c : BitVec 8) (off : BitVec 26) (s : State) : Host.Outcome State Fault Refusal :=
  .next (s.runInsn c.toNat (useG [] []) (.branch (fun _ pc => jmpTarget pc off) (fun pc => some (jmpTarget pc off)) false) none none
    false false
    (s.retireTo c.toNat (jmpTarget (s.core c.toNat).pc off)))

/-- JAL: g31 takes the link (R88). -/
def execJal (c : BitVec 8) (off : BitVec 26) (s : State) : Host.Outcome State Fault Refusal :=
  .next (s.runInsn c.toNat (useG [] [31]) (.branch (fun _ pc => jmpTarget pc off) (fun pc => some (jmpTarget pc off)) true) none none
    false false
    ((s.mapCore c.toNat (fun k => k.setG 31 k.link)).retireTo c.toNat (jmpTarget (s.core c.toNat).pc off)))

/-- The target of a JALR (R88). -/
def jalrTarget (a : DWord) (imm : BitVec 16) : BitVec 16 := (a + sext16 imm).truncate 16

/-- JALR: rd takes the link; a target that is not a multiple of 4 raises MEM_FAULT (R88, R89, R110). -/
def execJalr (c : BitVec 8) (rd rs1 : BitVec 5) (imm : BitVec 16) (s : State) : Host.Outcome State Fault Refusal :=
  let t := jalrTarget ((s.core c.toNat).gr rs1.toNat) imm
  .next (s.runInsn c.toNat (useG [rs1.toNat] [rd.toNat]) (.branch (fun g _ => jalrTarget (g rs1.toNat) imm) (fun _ => none) true) none
    (if t.toNat % 4 = 0 then none else some (trapMem 0x11 t.toNat)) false false
    ((s.mapCore c.toNat (fun k => k.setG rd.toNat k.link)).retireTo c.toNat t))

/-! ## System instructions -/

/-- The traps of an MFCR or MTCR that need no operand: ILLEGAL, then PRIV (R88, R105, R113). -/
def crTrap (bad : Bool) (task open_ : Bool) : Option Trap :=
  if bad then some trapIllegal else if task && !open_ then some (trapPriv 0) else none

/-- Whether an MFCR or MTCR waits: of the LFSR state for older LFSR instructions (R142), of VSAT for older instructions that
may set it (R119). -/
def Core.crWaits (k : Core) (n : Nat) : Bool :=
  (decide (n = crGold || n = crCrc) && k.fres.any (fun f => f.unit = 1)) ||
  (decide (n = crVsat) && k.fres.any (fun f => f.unit = 0))

/-- Whether a control register is one of the vector control registers. -/
def crVector (n : Nat) : Bool := 0x40 ≤ n && n ≤ 0x43

/-- MFCR: rs1 must be 0; task mode reads CORE_ID and the vector control registers only; LFSR_GOLD and LFSR_CRC wait for
older LFSR instructions (R88, R105, R113, R142). -/
def execMfcr (c : BitVec 8) (rd rs1 : BitVec 5) (cr : BitVec 12) (s : State) : Host.Outcome State Fault Refusal :=
  let k := s.core c.toNat
  .next (s.runInsn c.toNat (useG [] [rd.toNat]) .stop
    (crTrap (rs1 ≠ 0 || !crAllocated cr.toNat) k.task (cr.toNat = crCoreId || crVector cr.toNat)) none
    (k.crWaits cr.toNat) false
    (s.retireG c.toNat rd.toNat (s.readCr c.toNat cr.toNat)))

/-- MTCR: rd must be 0; task mode writes the vector control registers only; RO registers and fields discard the write
(R88, R105, R113, R119, R142). -/
def execMtcr (c : BitVec 8) (rd rs1 : BitVec 5) (cr : BitVec 12) (s : State) : Host.Outcome State Fault Refusal :=
  let k := s.core c.toNat
  .next (s.runInsn c.toNat (useG [rs1.toNat] []) .stop
    (crTrap (rd ≠ 0 || !crAllocated cr.toNat) k.task (crVector cr.toNat)) none
    (k.crWaits cr.toNat) false
    ((s.mapCore c.toNat (fun k => k.writeCr cr.toNat (k.gr rs1.toNat))).retire c.toNat))

/-- Whether a core still waits for something that a FENCE orders: loads, stores and atomics unanswered, ILV operations
(R101, R151). -/
def State.fenceWaits (s : State) (c : Nat) : Bool :=
  s.awaits c || s.loadsOut c ≠ 0 || s.storesOut c ≠ 0 || !(s.core c).ilv.isEmpty

/-- FENCE: rd, rs1 and cr must be 0; retires when everything earlier is done, and empties the prefetch buffer (R97,
R101). -/
def execFence (c : BitVec 8) (rd rs1 : BitVec 5) (cr : BitVec 12) (s : State) : Host.Outcome State Fault Refusal :=
  .next (s.runInsn c.toNat (useG [] []) .stop (illegalIf (rd ≠ 0 || rs1 ≠ 0 || cr ≠ 0)) none (s.fenceWaits c.toNat) true
    ((s.dropPrefetch c.toNat).retire c.toNat))

/-- A core after TRET (R108): the mode is PMODE, INTRAP is clear, the prefetch buffer is empty. -/
def Core.tret (k : Core) : Core :=
  { (k.setCr crTstat (BitVec.ofNat 64 ((k.crv crTstat).toNat / 2 % 2 * 3))) with pf := [] }

/-- TRET: rd, rs1 and cr must be 0; kernel only (R105, R108). -/
def execTret (c : BitVec 8) (rd rs1 : BitVec 5) (cr : BitVec 12) (s : State) : Host.Outcome State Fault Refusal :=
  let k := s.core c.toNat
  .next (s.runInsn c.toNat (useG [] []) .stop (crTrap (rd ≠ 0 || rs1 ≠ 0 || cr ≠ 0) k.task false) none false true
    ((s.mapCore c.toNat Core.tret).retireTo c.toNat ((k.crv crTpc).truncate 16)))

/-- BRK: rd, rs1 and cr must be 0; raises DEBUG with TPC at the next instruction, or with BRK_TRAP = 0 halts the core for
JTAG debug access (R110). The halted core's pc stands after the BRK, which counts as retired (DESIGN CHOICE: R110 does not
say; log entry 21). -/
def execBrk (c : BitVec 8) (rd rs1 : BitVec 5) (cr : BitVec 12) (s : State) : Host.Outcome State Fault Refusal :=
  let k := s.core c.toNat
  .next (s.runInsn c.toNat (useG [] []) .stop (illegalIf (rd ≠ 0 || rs1 ≠ 0 || cr ≠ 0)) none false true
    (if (k.crv crCfg).getLsbD 3 then s.trapTo c.toNat ⟨0x18, 0, 0⟩ false (k.pc + 4)
     else (s.retire c.toNat).mapCore c.toNat (fun k => { k with run := .halted })))

/-! ## Answers and the prefetch buffer -/

/-- The outstanding request that a response matches: its initiator, TXN and ECHO (R278). -/
def State.matchReq (s : State) (p : Packet) : Option Req :=
  s.outst.find? (fun r => decide (r.init = p.init) && decide (r.txn = p.txn) && decide (r.echo = p.echo))

/-- A request is no longer outstanding; one that waits for its transaction ID leaves. -/
def State.endReq (s : State) (r : Req) : State := ({ s with outst := s.outst.erase r }).wakeId r.init

/-- A response that matches no outstanding request is discarded and counted; the reserved ID that it carries is free
again (R278). -/
def State.lateResponse (s : State) (p : Packet) : State :=
  let s1 := (s.flagRep F.VEIN_STAT_LATE_RSP F.VEIN_STAT_LATE_REP).count 713 1
  { s1 with resIds := s1.resIds.filter (fun x => !(decide (x.1 = p.init) && decide (x.2 = p.txn))) }.wakeId p.init

/-- A prefetch's answer fills its entry, or an error discards it (R97, R99). -/
def State.fillPrefetch (s : State) (c : Nat) (r : Req) (p : Packet) : State :=
  (s.endReq r).mapCore c (fun k =>
    if p.resp = 0 then { k with pf := k.pf.map (fun (e : PfEntry) => if e.txn = r.txn then { e with data := some p.data } else e) }
    else { k with pf := k.pf.filter (fun (e : PfEntry) => e.txn ≠ r.txn) })

/-- PREFETCH_BUFFER_EXPIRY (R97): outside an episode, the buffer is emptied. -/
def execPrefetchBufferExpiry (c : BitVec 8) (s : State) : Host.Outcome State Fault Refusal :=
  .next (if (s.core c.toNat).ra.isNone then s.dropPrefetch c.toNat else s)

end Sys2Proof.Machine
end

