-- ==== Sys2Proof/Machine/Fabric.lean ====
section
/-!
DEFINITION. Packets of the vein fabric at their destinations: requests, responses, events, eMarks, token notices, deliveries, and
what becomes of them at closed stops and after their timers (11_vein_fabric.md, R264 to R281; R88, R100, R215, R227 to R229,
R255, R285, R286, R334 to R341).
-/

namespace Sys2Proof.Machine

/-! ## Packets -/

/-- The length in bytes of a request's range (R266). -/
def pktLen (p : Packet) : Nat := p.len.toNat + 1

/-- The initiator of a packet. -/
def pktInit (p : Packet) : Nat := p.init.toNat

/-- The address of a request. -/
def pktAddr (p : Packet) : Nat := p.addr.toNat

/-- The stop of a packet's initiator. -/
def pktSrc (p : Packet) : Nat := nodeOfInit p.init.toNat

/-- Whether two byte ranges meet. -/
def overlaps (a n b m : Nat) : Bool := decide (a < b + m) && decide (b < a + n)

/-- Whether an access `p` keeps behind one `q` of its initiator that its target has accepted and not yet performed: both touch a
byte. -/
def keepsBehind (p q : Packet) : Bool :=
  decide (p.op.toNat ≤ 3) && decide (q.init = p.init) && overlaps (pktAddr p) (pktLen p) (pktAddr q) (pktLen q)

/-- Whether two data-class packets follow one route and so arrive in the order they were sent: of one kind, request or
response, between the same stops on the same path (R272, R276). -/
def sameRoute (p q : Packet) : Bool :=
  !pktCtl p && !pktCtl q && decide (pktIsRsp p = pktIsRsp q) && decide (pktFrom p = pktFrom q) && decide (p.dst = q.dst) &&
  decide (p.route = q.route) && decide (p.vc = q.vc)

/-- Whether a packet that arrives comes before its turn: the NI still holds it (R274), an earlier packet of its route is still on
its way (R276), or an earlier access of its initiator to the same bytes waits at its target. -/
def State.mustWait (s : State) (p : Packet) : Bool :=
  s.heldAtNi p || (s.flight.takeWhile (fun q => q ≠ p)).any (sameRoute p) || s.host.reqs.any (keepsBehind p) ||
  s.host.biWait.any (fun e => keepsBehind p e.2)

/-- A response goes back to the initiator with the request's STAMP as ECHO (R266): a read response in its request's class, a
write response in the control class (R264). -/
def State.respond (s : State) (p : Packet) (op resp : Nat) (data : List Byte) (poison : BitVec 32) : State :=
  s.send { Packet.zero with
    op := BitVec.ofNat 4 op
    vc := if pktCtl p then 2 else 0
    dst := BitVec.ofNat 8 (pktSrc p)
    init := p.init
    txn := p.txn
    resp := BitVec.ofNat 3 resp
    echo := p.stamp
    data := data
    poison := poison
    src := p.dst }

/-- The delivery of a posted write (R274). -/
def State.delivered (s : State) (p : Packet) : State :=
  s.send { Packet.zero with
    op := 10
    dst := BitVec.ofNat 8 (pktSrc p)
    init := p.init
    txn := p.txn
    src := p.dst }

/-! ## Protection (R268, R269) -/

/-- A packet whose parity fails at a router is dropped whole: counted, PAR_DROP, and the stop in VEIN_ERR_LOC with INIT 0 where
the header failed (R269). Which router finds it is free. -/
def State.dropParity (s : State) (p : Packet) : State :=
  let s1 := ((s.arrive p).flagRep F.VEIN_STAT_PAR_DROP F.VEIN_STAT_PAR_DROP_REP).count 710 1
  (s1.setReg R.VEIN_ERR_LOC (BitVec.ofNat 32 ((Config.parityNode s.freeCtr).toNat + 2 * 2 ^ 8 +
    (if p.hparGot = p.hpar then p.init.toNat else 0) * 2 ^ 12))).fresh

/-- The 64-bit words, of the 256-byte block, that a range of bytes touches. -/
def wordsOf (a n : Nat) : BitVec 32 :=
  BitVec.ofNat 32 ((List.range 32).foldl (fun w i => w + (if a % 256 < 8 * i + 8 ∧ 8 * i < a % 256 + n then 2 ^ i else 0)) 0)

/-- How many bits of a word are 1. -/
def bitCount (w : BitVec 32) : Nat := (List.range 32).foldl (fun n i => n + (if w.getLsbD i then 1 else 0)) 0

/-- What the destination NI's check of a data-class payload leaves behind (R268): single-bit errors corrected, counted, SBE;
double-bit errors counted, DBE, the place of the last in VEIN_ERR_LOC, and a fault record. -/
def State.niCheck (s : State) (p : Packet) : State :=
  let s1 := if p.sbe = 0 then s else (s.flag F.VEIN_STAT_SBE).count 708 (bitCount p.sbe)
  if p.dbe = 0 then s1
  else
    let s2 := ((s1.flagRepN F.VEIN_STAT_DBE F.VEIN_STAT_DBE_REP (bitCount p.dbe)).count 709 (bitCount p.dbe)).setReg R.VEIN_ERR_LOC
      (BitVec.ofNat 32 (p.dst.toNat + 2 ^ 8 + p.init.toNat * 2 ^ 12))
    s2.report { mkReport 7 p.dst.toNat 0x10 0 with
      init := p.init.toNat
      addr := p.addr.toNat
      data0 := (s2.reg R.VEIN_STAT).toNat }

/-- The poison bits of a packet as its NI delivers it: a word with a double-bit error is delivered poisoned (R268). -/
def pktPoisoned (p : Packet) : BitVec 32 := p.poison ||| p.dbe

/-- What the destination NI's check of a packet on arrival leaves behind: data-class payloads only. -/
def State.received (s : State) (p : Packet) : State := if pktCtl p then s else s.niCheck p

/-! ## Closed stops (R279) -/

/-- One more in a 16-bit count that saturates. -/
def oneMore (x : BitVec 16) : BitVec 16 := if x = 0xFFFF then x else x + 1

/-- A posted write is dropped at a stop. -/
def State.dropPosted (s : State) (n : Nat) : State :=
  (s.count 714 1).setStop n { s.stop n with posted := oneMore (s.stop n).posted }

/-- An event, eMark or response is dropped at a stop. -/
def State.dropOther (s : State) (n : Nat) : State :=
  (s.count 715 1).setStop n { s.stop n with other := oneMore (s.stop n).other }

/-- The answer a request gets before it reaches its target: NO_TARGET where its destination is not its address's stop,
DOMAIN_OFF of a closed stop. -/
def State.turnedAway (s : State) (p : Packet) : Option Nat :=
  if nodeOfAddr (pktAddr p) ≠ some p.dst.toNat then some rNoTarget
  else if (s.closedStop p).isSome then some rDomainOff
  else none

/-! ## Memory at the target (R88, R285, R286) -/

/-- A read at its memory: data, with POISON where a byte of it fails its parity (R285). -/
def State.memRead (s : State) (p : Packet) : State :=
  let a := pktAddr p
  let n := pktLen p
  (s.readEffect (pktInit p) a n p.spec).respond p 4 (if (s.badIn a n).isEmpty then rDone else rPoison) (s.bytesAt a n)
    (s.poisonIn a n)

/-- A write at its memory (R286). -/
def State.memWrite (s : State) (p : Packet) : State := s.writePoison (pktAddr p) (p.data.take (pktLen p)) (pktPoisoned p)

/-- The word an atomic writes, by its function (R88). -/
def atomWord (f : Nat) (old v : DWord) : DWord :=
  match f with
  | 0 => v
  | 1 => old + v
  | 2 => old &&& v
  | 3 => old ||| v
  | _ => if old.toInt < v.toInt then v else old

/-- An atomic at its memory: it answers the old word and writes the new one; a poisoned old word is answered POISON and stays
(R88). -/
def State.memAtom (s : State) (p : Packet) : State :=
  let a := pktAddr p
  let old := s.bytesAt a 8
  let v : DWord := BitVec.ofNat 64 (ofBytes (slice p.data 0 8))
  let s1 := s.readEffect (pktInit p) a 8 false
  if (s.badIn a 8).isEmpty then
    (s1.writeBytes a (toBytes 8 (atomWord p.atomfn.toNat (BitVec.ofNat 64 (ofBytes old)) v).toNat)).respond p 4 rDone old 0
  else s1.respond p 4 rPoison old (s.poisonIn a 8)

/-- A request acts on device memory, by its operation. -/
def State.memPerform (s : State) (p : Packet) : State :=
  match p.op.toNat with
  | 0 => s.memRead p
  | 1 => (s.memWrite p).respond p 5 rDone [] 0
  | 2 => (s.memWrite p).delivered p
  | _ => s.memAtom p

/-- Whether an atomic may act at an address (R88, R89). -/
def atomHome (a : Nat) : Bool :=
  match tgtOf a with
  | .core _ off => decide (off < 0x40000)
  | .druse _ _ => true
  | .strat _ _ => true
  | .hub _ => true
  | _ => false

/-- The answer of the memory behind a window to a request. -/
def State.memResp (s : State) (p : Packet) : Nat :=
  if p.op = 3 && !atomHome (pktAddr p) then rNoTarget else s.windowResp (pktAddr p) (p.op ≠ 0)

/-- A request that its target turns down: an error response, or for a posted write its delivery. A posted write that a bank not
yet released turns down is dropped as at a closed stop (R295). -/
def State.refuse (s : State) (p : Packet) (resp : Nat) : State :=
  match p.op.toNat with
  | 1 => s.respond p 5 resp [] 0
  | 2 => (if resp = rDomainOff then s.dropPosted p.dst.toNat else s).delivered p
  | _ => s.respond p 4 resp [] 0

/-! ## Lines that host caches may hold (R340) -/

/-- The first line from `line` on that a request touches and the snoop filter tracks. -/
def State.trackedFrom (s : State) (p : Packet) (line : Nat) : Option Nat :=
  s.host.snoop.find? (fun x => decide (line ≤ x) && decide (pktAddr p / 64 ≤ x) && decide (x ≤ (pktAddr p + pktLen p - 1) / 64))

/-- A device access acts on its memory once the host has answered for every tracked line: it is held while a back-invalidate snoop
is out. -/
def State.memAccess (s : State) (p : Packet) (line : Nat) : State :=
  match s.trackedFrom p line with
  | some x =>
    let s1 := (s.emit (.biSnp x (p.op ≠ 0))).count 1123 1
    { s1 with host := { s1.host with biWait := s1.host.biWait ++ [(x, p)] } }
  | none => s.memPerform p

/-! ## Host memory at the HOST stop (R334, R335) -/

/-- Whether the device cache holds every line that a request touches, for a write as its owner, and the access may use it. -/
def State.hostHit (s : State) (p : Packet) (h : Nat) : Bool :=
  s.hostCached (pktAddr p) false &&
  (hostLinesOf h (pktLen p)).all (fun x => if p.op = 0 then s.dcHas (64 * x) else mapGet s.host.dc false x)

/-- A request acts on host memory. Data that the host supplies with a read is host memory's from then on. -/
def State.hostPerform (s : State) (p : Packet) (h : Nat) (given : List Byte) : State :=
  let n := pktLen p
  match p.op.toNat with
  | 0 =>
    let s1 := if given.length = n then
        { s with hostMem := (given.zipIdx).foldl (fun (m : List Host.Cell) (e : Byte × Nat) => mapIns m (h + e.2) e.1) s.hostMem }
      else s
    let s2 := if s.hostCached (pktAddr p) false then (hostLinesOf h n).foldl (fun (t : State) x => t.dcFetch x) s1
      else s1.count 1117 (hostLines h n)
    let byte (i : Nat) : Byte := if given.length = n && !s2.dcHas (h + i) then s2.hostKnown (h + i) else s2.hostByteAt (h + i)
    s2.fresh.respond p 4 rDone ((List.range n).map byte) 0
  | 2 => (s.hostWriteBytes h (s.hostCached (pktAddr p) false) false (p.data.take n)).delivered p
  | _ => (s.hostWriteBytes h (s.hostCached (pktAddr p) false) false (p.data.take n)).respond p 5 rDone [] 0

/-- A request at the HOST stop: NO_TARGET without a range; at once where the device cache holds its lines; else it waits for the
host's answer. -/
def State.hostRequest (s : State) (p : Packet) : State :=
  match s.hpa? (pktAddr p) with
  | none => (s.rangeMiss (pktAddr p)).refuse p rNoTarget
  | some h =>
    if p.op = 3 then s.refuse p rNoTarget
    else if s.hostHit p h then s.hostPerform p h []
    else
      let c := s.hostCached (pktAddr p) false
      let s1 := if p.op = 0 then s.hostAskRead h (pktLen p) c false else s.hostAskWrite h (pktLen p) c false
      { s1 with host := { s1.host with reqs := s1.host.reqs ++ [p] } }

/-- The host answers a device request: the waiting request of the same initiator and transaction acts (R335). -/
def State.hostAnswer (s : State) (p : Packet) : State :=
  match s.host.reqs.find? (fun q => decide (q.init = p.init) && decide (q.txn = p.txn)) with
  | none => s
  | some q =>
    let s1 := { s with host := { s.host with reqs := s.host.reqs.erase q } }
    let s2 := match s.hpa? (pktAddr q) with
      | none => (s1.rangeMiss (pktAddr q)).refuse q rNoTarget
      | some h => s1.hostPerform q h p.data
    if q.op = 0 then s2 else s2.msixRelease (q.init, q.txn)

/-! ## Register space at the target (R82, R287) -/

/-- A read of one register word. -/
def State.regRd (s : State) (p : Packet) : State :=
  let a := pktAddr p
  if pktLen p ≠ 4 ∨ a % 4 ≠ 0 then s.respond p 4 rNoTarget [] 0
  else
    let s1 := s.regReadEffect (pktInit p) a
    if s.regReadResp a = rDone then s1.respond p 4 rDone (toBytes 4 (s1.regRead (pktInit p) a).toNat) 0
    else s1.respond p 4 (s.regReadResp a) [] 0

/-- A write of one register word; a posted one is delivered. -/
def State.regWr (s : State) (p : Packet) : State :=
  let a := pktAddr p
  let v : Word := BitVec.ofNat 32 (ofBytes (slice p.data 0 4))
  if pktLen p ≠ 4 ∨ a % 4 ≠ 0 then s.refuse p rNoTarget
  else if p.op = 2 then (s.regWrite a v).delivered p
  else (s.regWrite a v).respond p 5 (s.regWriteResp a v) [] 0

/-! ## Requests -/

/-- A request at its target. -/
def State.serveRequest (s : State) (p : Packet) : State :=
  match tgtOf (pktAddr p) with
  | .reg _ =>
    if p.op = 0 then s.regRd p
    else if p.op = 3 then s.refuse p rNoTarget
    else s.regWr p
  | .host => s.hostRequest p
  | _ => if s.memResp p = rDone then s.memAccess p 0 else s.refuse p (s.memResp p)

/-- A read, non-posted write or atomic arrives (R269, R279). -/
def State.requestArrives (s : State) (p : Packet) : State :=
  if !pktParityOk p then s.dropParity p
  else if s.mustWait p then s
  else match s.turnedAway p with
    | some r => (s.arrive p).refuse p r
    | none => ((s.arrive p).received p).serveRequest p

/-- A posted write arrives (R265, R269, R279): a closed stop drops and counts it; it is delivered in every case. -/
def State.postedArrives (s : State) (p : Packet) : State :=
  if !pktParityOk p then s.dropParity p
  else if s.mustWait p then s
  else match s.closedStop p with
    | some n => ((s.arrive p).dropPosted n).delivered p
    | none =>
      if (s.turnedAway p).isSome then (s.arrive p).delivered p else ((s.arrive p).received p).serveRequest p

/-! ## Responses (R100, R278) -/

/-- An initiator has the answer to a request: a load's or atomic's register, a store's deferred error, a prefetch's granule. -/
def State.complete (s : State) (r : Req) (resp : Nat) (data : List Byte) : State :=
  let c := r.init.toNat
  let s1 := s.endReq r
  let take (rd size : Nat) (signed : Bool) : State :=
    if resp = rDone then s1.answerLoad c rd r.txn (extendLoad size signed (slice data 0 size)) none
    else s1.badLoad c rd size signed r resp data
  match r.kind with
  | .load rd size signed => take rd size signed
  | .atom rd => take rd 8 false
  | .store => if resp = rDone then s1 else s1.defer c 0x08 resp r.addr
  | .prefetch => s.fillPrefetch c r { Packet.zero with
      resp := BitVec.ofNat 3 resp
      data := data }
  | .dumpRec => s1.dumpNext
  | .notice tok _ free => s1.tokAcked tok.toNat free
  | .faultRec _ _ _ => s1
  | .other => s1

/-- The drained stop at which a response to an initiator is dropped, if any (R279): a bridge of the initiator's die that the
response enters by, or the initiator's own stop. -/
def State.drainedStop (s : State) (p : Packet) : Option Nat :=
  ((pktStops p).filter (fun n => decide (ringOf (pktFrom p) ≠ ringOf p.dst.toNat → n = p.dst.toNat ∨
      n = nodeBridge (ringOf p.dst.toNat) (if p.way.getLsbD 1 then 1 else 0) ∨
      n = nodeBridgeSpine (ringOf p.dst.toNat) (if p.way.getLsbD 1 then 1 else 0)))).find?
    (fun n => (s.stop n).drained && !p.adm.contains n)

/-- The response that the initiator's NI delivers: POISON for a DONE read whose consumed bytes include a poisoned word (R268,
R277). -/
def pktRespFor (p : Packet) (r : Req) : Nat :=
  if p.op = 4 ∧ p.resp.toNat = rDone ∧ pktPoisoned p &&& wordsOf r.addr.toNat r.len ≠ 0 then rPoison else p.resp.toNat

/-- A response arrives. -/
def State.responseArrives (s : State) (p : Packet) : State :=
  if !pktParityOk p then s.dropParity p
  else if s.mustWait p then s
  else match s.drainedStop p with
  | some n => (s.arrive p).dropOther n
  | none =>
    let s1 := (s.arrive p).received p
    match s.matchReq p with
    | some r => s1.complete r (pktRespFor p r) p.data
    | none => s1.lateResponse p

/-- The outstanding request of an initiator and transaction ID. -/
def State.findReq (s : State) (init txn : BitVec 12) : Option Req :=
  s.outst.find? (fun r => decide (r.init = init) && decide (r.txn = txn))

/-- A posted write's delivery arrives: the fault ring's or the dump ring's WR advances (R413, R450). -/
def State.deliveryArrives (s : State) (p : Packet) : State :=
  let s1 := s.arrive p
  if !pktParityOk p then s.dropParity p
  else match s.drainedStop p with
  | some n => s1.dropOther n
  | none => match s.findReq p.init p.txn with
  | none => s1.lateResponse p
  | some r =>
    match r.kind with
    | .faultRec seq code action => (s1.endReq r).recordDone seq code action
    | .dumpRec => (s1.endReq r).dumpDone
    | _ => s1.endReq r

/-- An acknowledgement of a token notice arrives (R228). -/
def State.ackArrives (s : State) (p : Packet) : State :=
  let s1 := s.arrive p
  if !pktParityOk p then s.dropParity p
  else match s.drainedStop p with
  | some n => s1.dropOther n
  | none => match s.findReq p.init p.txn with
  | none => s1.lateResponse p
  | some r =>
    match r.kind with
    | .notice tok _ free => (s1.endReq r).tokAcked tok.toNat free
    | _ => s1.lateResponse p

/-! ## Timers (R278) -/

/-- Whether a request is of the control class: to register space, or a token notice (R264). -/
def reqControl (r : Req) : Bool :=
  decide (r.op.toNat = 8) || (match tgtOf r.addr.toNat with
    | .reg _ => true
    | _ => false)

/-- The transaction ID of a request that timed out stays reserved; 64 of them at one NI set ID_RES. -/
def State.reserveId (s : State) (r : Req) : State :=
  let s1 := { s with resIds := s.resIds ++ [(r.init, r.txn)] }
  if 64 ≤ s1.resIdsAt (nodeOfInit r.init.toNat) then s1.flag F.VEIN_STAT_ID_RES else s1

/-- Whether the expiry of a request's timer writes a fault record: not for a posted write or a notice. -/
def reqReports (r : Req) : Bool :=
  match r.kind with
  | .faultRec _ _ _ => false
  | .dumpRec => false
  | .notice _ _ _ => false
  | _ => true

/-- The timer of an outstanding request expires. -/
def State.timeout (s : State) (init txn : BitVec 12) : State :=
  match s.findReq init txn with
  | none => s
  | some r =>
    let s1 := (s.reserveId r).count (if reqControl r then 711 else 712) 1
    let s2 := if reqReports r then
        s1.report { mkReport 7 (nodeOfInit init.toNat) 0x11 0 with
          init := init.toNat
          addr := r.addr.toNat }
      else s1
    s2.complete r rTimeout []

/-! ## Events and eMarks (R215, R255) -/

/-- The data word of an event or eMark packet. -/
def pktWord (p : Packet) : Word := BitVec.ofNat 32 (fieldAt p.data 0 4)

/-- Its stamp. -/
def pktStamp (p : Packet) : Word := BitVec.ofNat 32 (fieldAt p.data 4 4)

/-- The stratum whose stop a node is. -/
def stratumOfNode (n : Nat) : Option Nat := lowestFrom 8 (fun t => nodeStratum t = n)

/-- An event packet arrives at a sieve. -/
def State.eventArrives (s : State) (p : Packet) : State :=
  let s1 := s.arrive p
  if !pktParityOk p then s.dropParity p
  else match s.closedStop p with
  | some n => s1.dropOther n
  | none => match stratumOfNode p.dst.toNat with
    | some t => s1.event t p.eventId (if p.tokV then some p.token else none) (pktWord p) (pktStamp p)
    | none => s1

/-- An eMark packet arrives at a mover complex. -/
def State.emarkArrives (s : State) (p : Packet) : State :=
  let s1 := s.arrive p
  if !pktParityOk p then s.dropParity p
  else match s.closedStop p with
  | some n => s1.dropOther n
  | none => match stratumOfNode p.dst.toNat with
    | some t => s1.emark t p.channel.toNat (pktStamp p)
    | none => if p.dst.toNat = nodeSpine 6 then s1.emark 8 p.channel.toNat (pktStamp p) else s1

/-! ## Token notices (R227, R229) -/

/-- The state that a notice announces (R266). -/
def noticeState (p : Packet) : TokState :=
  match p.state.toNat with
  | 2 => .committed
  | 3 => .squashed
  | _ => .free

/-- What a receiver's mirror holds after a notice: OPEN after a free notice. -/
def mirrorAfter (x : TokState) : TokState := if x = .free then .open_ else x

/-- A receiver acts on a notice and acknowledges it, movers and mills once their work of a squashed token has passed. -/
def State.noticeAt (s : State) (r : Nat) (p : Packet) : State :=
  let tok := p.token.toNat
  let x := mirrorAfter (noticeState p)
  if r < 8 then (s.sieveNotice r tok x).send (tokAck p)
  else if r < 17 then
    if x = .squashed then
      let s1 := s.moverSquash (r - 8) tok
      ({ s1 with owed := s1.owed ++ [⟨r, p⟩] } : State).moverAcks (r - 8)
    else (s.setMirror r tok x).send (tokAck p)
  else if r < 21 then
    if x = .squashed then
      let s1 := s.millSquash (r - 17) tok
      ({ s1 with owed := s1.owed ++ [⟨r, p⟩] } : State).millAcks (r - 17)
    else (s.setMirror r tok x).send (tokAck p)
  else (s.qmNotice tok x).send (tokAck p)

/-- A notice arrives at its receiver, which the packet's channel field names; a closed stop acknowledges in its place (R279).
Notices of one token to one receiver take effect in the order sent. -/
def State.noticeArrives (s : State) (p : Packet) : State :=
  if !pktParityOk p then s.dropParity p
  else if (s.flight.takeWhile (fun q => q ≠ p)).any (fun q =>
      decide (q.op = 8) && decide (q.token = p.token) && decide (q.channel = p.channel)) then s
  else if (s.closedStop p).isSome || decide (22 ≤ p.channel.toNat) then (s.arrive p).send (tokAck p)
  else (s.arrive p).noticeAt p.channel.toNat p

/-! ## Drained stops (R280) -/

/-- The die whose bridge a stop is, on either side. -/
def bridgeDie (node : Nat) : Option Nat :=
  lowestFrom 4 (fun n => [0, 1].any (fun b => decide (nodeBridge n b = node) || decide (nodeBridgeSpine n b = node)))

/-- Whether a stop lies in the domain that another closes. -/
def inDomain (node m : Nat) : Bool :=
  decide (m = node) || (match bridgeDie node with
    | some n => decide (ringOf m = n)
    | none => false)

/-- Whether a closed stop has drained: no admitted packet still on its way, no request of its domain's initiators outstanding, no
acknowledgement owed, no access held in its domain, at the HOST stop no request that waits for the host (R280). -/
def State.drainDone (s : State) (node : Nat) : Bool :=
  (s.stop node).closed && !s.flight.any (fun p => p.adm.contains node) &&
  !s.outst.any (fun r => inDomain node (nodeOfInit r.init.toNat)) &&
  !s.owed.any (fun o => inDomain node (recvNode o.recv)) && !s.host.biWait.any (fun e => inDomain node e.2.dst.toNat) &&
  (decide (node ≠ nodeSpine 0) || s.host.reqs.isEmpty)

/-- A closed stop has drained; a sleep entry that waits for it goes on (R387). -/
def State.drain (s : State) (node : Nat) : State :=
  if s.drainDone node then (s.setStop node { s.stop node with drained := true }).drainStep else s

/-! ## Commands -/

/-- RD (R285). -/
def execRd (p : Packet) (s : State) : Host.Outcome State Fault Refusal := .next (s.requestArrives { p with op := 0 })

/-- WR (R286). -/
def execWr (p : Packet) (s : State) : Host.Outcome State Fault Refusal := .next (s.requestArrives { p with op := 1 })

/-- WRP (R265). -/
def execWrp (p : Packet) (s : State) : Host.Outcome State Fault Refusal := .next (s.postedArrives { p with op := 2 })

/-- ATOM (R88). -/
def execAtom (p : Packet) (s : State) : Host.Outcome State Fault Refusal := .next (s.requestArrives { p with op := 3 })

/-- RDRSP (R278). -/
def execRdrsp (p : Packet) (s : State) : Host.Outcome State Fault Refusal := .next (s.responseArrives { p with op := 4 })

/-- WRRSP (R100). -/
def execWrrsp (p : Packet) (s : State) : Host.Outcome State Fault Refusal := .next (s.responseArrives { p with op := 5 })

/-- EVT (R215). -/
def execEvt (p : Packet) (s : State) : Host.Outcome State Fault Refusal := .next (s.eventArrives { p with op := 6 })

/-- EMARK (R255). -/
def execEmark (p : Packet) (s : State) : Host.Outcome State Fault Refusal := .next (s.emarkArrives { p with op := 7 })

/-- TOKN (R227): a commit or squash notice; STATE 0 is the free notice's and STATE 1 is no notice's. -/
def execTokn (p : Packet) (s : State) : Host.Outcome State Fault Refusal :=
  .next (if 2 ≤ p.state.toNat then s.noticeArrives { p with op := 8 } else s)

/-- FREE_NOTICE (R229). -/
def execFreeNotice (p : Packet) (s : State) : Host.Outcome State Fault Refusal :=
  .next (s.noticeArrives { p with
    op := 8
    state := 0 })

/-- TOKACK (R228). -/
def execTokack (p : Packet) (s : State) : Host.Outcome State Fault Refusal := .next (s.ackArrives { p with op := 9 })

/-- DLVD (R274). -/
def execDlvd (p : Packet) (s : State) : Host.Outcome State Fault Refusal := .next (s.deliveryArrives { p with op := 10 })

/-- BAD_OP (R264): the packet is dropped at the stop. -/
def execBadOp (p : Packet) (node : BitVec 8) (s : State) : Host.Outcome State Fault Refusal :=
  if !stopOk node.toNat then .fault .noSuchUnit
  else .next (if !pktParityOk p then s.dropParity p else if 11 ≤ p.op.toNat then ((s.arrive p).flag F.VEIN_STAT_BAD_OP).count 727 1 else s)

/-- REQUEST_TIMEOUT (R278). -/
def execRequestTimeout (init txn : BitVec 12) (s : State) : Host.Outcome State Fault Refusal := .next (s.timeout init txn)

/-- DRAINED (R280). -/
def execDrained (node : BitVec 8) (s : State) : Host.Outcome State Fault Refusal :=
  if stopOk node.toNat then .next (s.drain node.toNat) else .fault .noSuchUnit

/-- PREFETCH_RETURN (R99): the answer to a prefetch. -/
def execPrefetchReturn (p : Packet) (s : State) : Host.Outcome State Fault Refusal :=
  .next (match s.matchReq p with
    | some r => if r.kind = .prefetch then s.responseArrives { p with op := 4 } else s
    | none => s.responseArrives { p with op := 4 })

/-- HOST_MEMORY_RESPONSE (R335). -/
def execHostMemoryResponse (p : Packet) (s : State) : Host.Outcome State Fault Refusal := .next (s.hostAnswer p)

end Sys2Proof.Machine
end

