-- ==== Sys2Proof/Machine/HostSide.lean ====
section
/-!
DEFINITION. What the outside does through the device's ports: host accesses to the BARs and to the HDM window, answers to
back-invalidate snoops, the I2C management target, JTAG debug access (R328 to R331, R338 to R341, R393, R449, R110).
-/

namespace Sys2Proof.Machine

/-! ## One register access from a port (R75, R82) -/

/-- How a read of a register word is answered. -/
def State.portReadResp (s : State) (init a : Nat) : Nat :=
  if 2 ^ 28 ≤ a ∨ a % 4 ≠ 0 then rNoTarget
  else if !s.regReaches init a then s.unreached init a
  else s.regReadResp a

/-- What the read leaves behind. -/
def State.portRead (s : State) (init a : Nat) : State :=
  if 2 ^ 28 ≤ a ∨ a % 4 ≠ 0 then s
  else if !s.regReaches init a then s
  else s.regReadEffect init a

/-- The word it returns: all ones with an error. -/
def State.portReadWord (s : State) (init a : Nat) : Word :=
  if s.portReadResp init a = rDone then (s.portRead init a).regRead init a else 0xFFFFFFFF

/-- How a write of a register word is answered. -/
def State.portWriteResp (s : State) (init a : Nat) (v : Word) : Nat :=
  if 2 ^ 28 ≤ a ∨ a % 4 ≠ 0 then rNoTarget
  else if !s.regReaches init a then s.unreached init a
  else s.regWriteResp a v

/-- The write. -/
def State.portWrite (s : State) (init a : Nat) (v : Word) : State :=
  if 2 ^ 28 ≤ a ∨ a % 4 ≠ 0 then s
  else if !s.regReaches init a then s
  else s.regWrite a v

/-! ## BAR0 (R328) -/

/-- The HOST stop's initiator number (R83). -/
def hostInit : Nat := 0x130

/-- The link carries an access: from L1 it returns to L0. -/
def State.linkAwake (s : State) : State :=
  { s with host := { s.host with
      l1 := false
      idleL1 := false } }

/-- Byte enable of an address in an access from `off` on. -/
def beAt (off : Nat) (be : List Bool) (x : Nat) : Bool := decide (off ≤ x) && be.getD (x - off) false

/-- Byte enables of the unit at `u`: none, all, or some. -/
def unitBe (off : Nat) (be : List Bool) (u : Nat) : Nat := ((List.range 4).filter (fun i => beAt off be (u + i))).length

/-- The 4-byte units of an access of at most 64 bytes that any byte enable touches, in ascending order. -/
def unitsOf (off : Nat) (be : List Bool) : List Nat :=
  ((List.range 17).map (fun i => off / 4 * 4 + 4 * i)).filter (fun u => unitBe off (be.take 64) u ≠ 0)

/-- The first failing unit of a BAR0 access is latched (R328). -/
def State.barErr (s : State) (u resp : Nat) (write : Bool) : State :=
  (((s.setReg R.HOST_BAR_ERR (BitVec.ofNat 32 (u % 2 ^ 28 + resp * 2 ^ 28 + (if write then 2 ^ 31 else 0)))).flag
    F.HOST_STAT_BAR_ERR).count 1130 1)

/-- A BAR0 read so far: the state, the first failure, and the words of the units. -/
structure BarRead where
  st    : State
  fail  : Option (Nat × Nat)
  words : List (Nat × Word)

/-- One unit of a BAR0 read. -/
def BarRead.unit (off : Nat) (be : List Bool) (b : BarRead) (u : Nat) : BarRead :=
  let whole : Bool := decide (unitBe off be u = 4)
  let r := if whole then b.st.portReadResp hostInit u else rNoTarget
  { st := if whole then b.st.portRead hostInit u else b.st
    fail := if r ≠ rDone && b.fail.isNone then some (u, r) else b.fail
    words := b.words ++ [(u, if r = rDone then b.st.portReadWord hostInit u else 0xFFFFFFFF)] }

/-- A byte of the answer. -/
def BarRead.byte (b : BarRead) (x : Nat) : Byte := BitVec.ofNat 8 ((mapGet b.words 0 (x / 4 * 4)).toNat >>> (8 * (x % 4)))

/-- A host read of BAR0: its units in ascending order; the answer goes to the host. -/
def State.bar0Read (s : State) (off : Nat) (be : List Bool) : State :=
  if !s.linkIsUp then s
  else
    let b := (unitsOf off be).foldl (BarRead.unit off (be.take 64)) (⟨s.linkAwake, none, []⟩ : BarRead)
    let bytes := (List.range (be.take 64).length).map (fun i => b.byte (off + i))
    match b.fail with
    | none => b.st.emit (.readData bytes true)
    | some (u, r) =>
      let s1 := b.st.barErr u r false
      s1.emit (.readData bytes (!s1.on F.HOST_CTRL_ERR_UR))

/-- The word that a host write carries for a unit. -/
def unitWord (off : Nat) (data : List Byte) (u : Nat) : Word :=
  BitVec.ofNat 32 (ofBytes ((List.range 4).map (fun i => data.getD (u + i - off) 0)))

/-- One unit of a BAR0 write: the state so far and the first failure. -/
def barWriteUnit (off : Nat) (data : List Byte) (be : List Bool) (x : State × Option (Nat × Nat)) (u : Nat) :
    State × Option (Nat × Nat) :=
  let whole : Bool := decide (unitBe off be u = 4)
  let r := if whole then x.1.portWriteResp hostInit u (unitWord off data u) else rNoTarget
  (if whole then x.1.portWrite hostInit u (unitWord off data u) else x.1,
    if r ≠ rDone && x.2.isNone then some (u, r) else x.2)

/-- A host write of BAR0. -/
def State.bar0Write (s : State) (off : Nat) (data : List Byte) (be : List Bool) : State :=
  if !s.linkIsUp then s
  else
    let x := (unitsOf off be).foldl (barWriteUnit off data (be.take 64)) (s.linkAwake, (none : Option (Nat × Nat)))
    match x.2 with
    | none => x.1
    | some (u, r) =>
      let s1 := x.1.barErr u r true
      if s1.on F.HOST_CTRL_ERR_UR then s1.emit .unsupported else s1

/-! ## BAR2 (R329, R330) -/

/-- Whether the doorbell page of a BAR2 offset is enabled. -/
def State.pageOn (s : State) (off : Nat) : Bool := s.bit (F.HOST_DB_EN_EN (off / 4096 / 32)) (off / 4096 % 32)

/-- A host write to BAR2: QMGR_DB of its slot's queue where it is 4 bytes at offset 0 of a slot of an enabled page. -/
def State.bar2Write (s : State) (off : Nat) (data : List Byte) : State :=
  if !s.linkIsUp then s
  else
    let s0 := s.linkAwake
    if data.length ≠ 4 ∨ off % 16 ≠ 0 then s0.flagRep F.HOST_STAT_DB_BAD F.HOST_STAT_DB_BAD_REP
    else if !s0.pageOn off then s0.flagRep F.HOST_STAT_DB_DENIED F.HOST_STAT_DB_DENIED_REP
    else (s0.portWrite hostInit (R.QMGR_DB (off / 16)) (BitVec.ofNat 32 (ofBytes data))).count 1129 1

/-- A host read of 4 bytes of BAR2: QMGR_TAKE at offset 4 of a slot of an enabled page, else 0. -/
def State.bar2Read (s : State) (off : Nat) : State :=
  if !s.linkIsUp then s
  else
    let s0 := s.linkAwake
    if off % 16 ≠ 4 then s0.emit (.readData (toBytes 4 0) true)
    else if !s0.pageOn off then (s0.flagRep F.HOST_STAT_DB_DENIED F.HOST_STAT_DB_DENIED_REP).emit (.readData (toBytes 4 0) true)
    else (s0.portRead hostInit (R.QMGR_TAKE (off / 16))).emit
      (.readData (toBytes 4 (s0.portReadWord hostInit (R.QMGR_TAKE (off / 16))).toNat) true)

/-! ## BAR4 (R331, R448, R449) -/

/-- A host read of BAR4: a counter's 8 bytes, or its high half; refused with PERF_ACCESS.USER = 0. -/
def State.bar4Read (s : State) (off : Nat) : State :=
  if !s.linkIsUp then s
  else
    let s0 := s.linkAwake
    let lo := R.PERF_CNT_LO (off / 8)
    let n := if off % 8 = 0 then 8 else 4
    if !s0.on F.PERF_ACCESS_USER then
      ((s0.flagRep F.PERF_STAT_USER_DENIED F.PERF_STAT_DENIED_REP).count 1183 1).emit (.readData (toBytes n 0) true)
    else if 0x2500 ≤ off ∨ off % 4 ≠ 0 then s0.emit (.readData (toBytes n 0) true)
    else if n = 8 then
      let s1 := s0.portRead hostInit lo
      s1.emit (.readData (toBytes 4 (s0.portReadWord hostInit lo).toNat ++ toBytes 4 (s1.portReadWord hostInit (lo + 4)).toNat) true)
    else s0.emit (.readData (toBytes 4 (s0.portReadWord hostInit (lo + 4)).toNat) true)

/-! ## The HDM window (R338 to R341) -/

/-- The device address of a window offset, where one is mapped (R338). -/
def hdmAddr (off : Nat) : Option Nat :=
  if off < 0x2000000 then some (hubWin + off)
  else if off < 0x4000000 then none
  else some (stratWin 0 + (off - 0x4000000))

/-- Whether the window takes accesses: link up, decoder committed, Memory_Active. -/
def State.hdmOpen (s : State) : Bool := s.linkIsUp && s.host.hdm.isSome && s.host.memActive

/-- A failing access is latched (R339). -/
def State.hdmErr (s : State) (off resp : Nat) (write : Bool) : State :=
  (s.setReg R.HOST_HDM_ERR (BitVec.ofNat 32 (off / 64 * 64 + resp * 2 ^ 27 + (if write then 2 ^ 30 else 0)))).flagRep
    F.HOST_STAT_HDM_ERR F.HOST_STAT_HDM_ERR_REP

/-- The tracked lines in the snoop filter's set of a line. -/
def State.snoopSetLines (s : State) (line : Nat) : List Nat := s.host.snoop.filter (fun x => Config.snoopSet x = Config.snoopSet line)

/-- Whether the set of a line has no free way, or the filter holds its 262,144 lines (R340). -/
def State.snoopFull (s : State) (line : Nat) : Bool :=
  !s.host.snoop.isEmpty &&
  (decide (Config.snoopWays < (s.snoopSetLines line).length) || decide (262144 ≤ s.host.snoop.length))

/-- The snoop filter tracks a line; a set with no free way gives up one of its lines with BISnpInv first (R340). -/
def State.trackLine (s : State) (line : Nat) : State :=
  if s.host.snoop.contains line then s
  else
    let l := if (s.snoopSetLines line).isEmpty then s.host.snoop else s.snoopSetLines line
    let s1 := if s.snoopFull line then s.biOne true (l.getD (Config.snoopVictim s.freeCtr line % l.length) 0) else s
    { s1 with host := { s1.host with snoop := setIns s1.host.snoop line } }

/-- A host read of a line of the window. -/
def State.hdmRead (s : State) (off : Nat) : State :=
  if !s.hdmOpen then s
  else
    let s0 := s.linkAwake.count 1121 1
    let fail (t : State) (resp : Nat) (bytes : List Byte) : State := (t.hdmErr off resp false).emit (.readData bytes false)
    match hdmAddr off with
    | none => fail s0 rNoTarget []
    | some a0 =>
      let a := a0 / 64 * 64
      let r := s0.accessResp hostInit a false
      if r ≠ rDone then fail s0 r []
      else
        let s1 := (s0.readEffect hostInit a 64 false).trackLine (a / 64)
        if (s0.badIn a 64).isEmpty then s1.emit (.readData (s0.bytesAt a 64) true)
        else fail s1 rPoison (s0.bytesAt a 64)

/-- A host write within a line of the window; one that is not answered DONE is not performed. -/
def State.hdmWrite (s : State) (off : Nat) (data : List Byte) : State :=
  if !s.hdmOpen then s
  else
    let s0 := s.linkAwake.count 1122 1
    match hdmAddr off with
    | none => s0.hdmErr off rNoTarget true
    | some a =>
      let r := s0.accessResp hostInit a true
      if r ≠ rDone then s0.hdmErr off r true else s0.writeBytes a (data.take (64 - a % 64))

/-- The host answers a back-invalidate snoop: modified data comes back to memory, a write or atomic ends the tracking of the line,
and the access that was held goes on (R340). -/
def State.snoopAnswer (s : State) (a : Nat) (data : Option (List Byte)) : State :=
  if !s.linkIsUp then s
  else
    let line := a / 64
    let s1 := match data with
      | some l => if s.accessResp hostInit (64 * line) true = rDone then s.writeBytes (64 * line) (l.take 64) else s
      | none => s
    match s1.host.biWait.find? (fun e => e.1 = line) with
    | none => s1
    | some e =>
      let s2 := { s1 with host := { s1.host with
        biWait := s1.host.biWait.erase e
        snoop := if e.2.op = 0 then s1.host.snoop else setErase s1.host.snoop line } }
      s2.memAccess e.2 (line + 1)

/-! ## I2C (R393) -/

/-- The keystone's initiator number (R83). -/
def ksInit : Nat := 0x131

/-- An I2C read of a register word. -/
def State.i2cRead (s : State) (a : Nat) : State :=
  if s.pwr.dormant then s
  else
    let s1 := s.portRead ksInit a
    let s2 := if s.portReadResp ksInit a = rDone then s1 else s1.flag F.PWR_STAT_I2C_ERR
    s2.emit (.readData (toBytes 4 (s.portReadWord ksInit a).toNat) true)

/-- An I2C write of a register word. -/
def State.i2cWrite (s : State) (a : Nat) (v : Word) : State :=
  if s.pwr.dormant then s
  else
    let s1 := s.portWrite ksInit a v
    if s.portWriteResp ksInit a v = rDone then s1 else s1.flag F.PWR_STAT_I2C_ERR

/-! ## JTAG (R83, R110) -/

/-- The initiator number of JTAG debug access (R83). -/
def jtagInit : Nat := 0x133

/-- A JTAG write: a register word, which is of 4 bytes (R82), or bytes of memory. -/
def State.jtagWrite (s : State) (a : Nat) (data : List Byte) : State :=
  if isMemAddr a then s.engWrite jtagInit a data false
  else if data.length ≠ 4 then s
  else s.portWrite jtagInit a (BitVec.ofNat 32 (ofBytes data))

/-- A JTAG read: a register word, which is of 4 bytes (R82), or bytes of memory. -/
def State.jtagRead (s : State) (a n : Nat) : State :=
  if !isMemAddr a then
    if n ≠ 4 then s.emit (.readData [] false)
    else (s.portRead jtagInit a).emit (.readData (toBytes 4 (s.portReadWord jtagInit a).toNat)
      (s.portReadResp jtagInit a = rDone))
  else (s.exactEffect jtagInit a n false).emit
    (.readData (if s.rangeResp jtagInit a n false = rDone then s.engBytes a n else []) (s.exactResp jtagInit a n = rDone))

/-- A core halted for debug access goes on (R110). -/
def State.debugResume (s : State) (c : Nat) : State :=
  if (s.core c).run = .halted then s.setCore c { s.core c with run := .running } else s

/-! ## Commands -/

/-- BAR0_READ (R328). -/
def execBar0Read (off : BitVec 28) (be : List Bool) (s : State) : Host.Outcome State Fault Refusal :=
  .next (s.bar0Read off.toNat be)

/-- BAR0_WRITE (R328). -/
def execBar0Write (off : BitVec 28) (data : List Byte) (be : List Bool) (s : State) : Host.Outcome State Fault Refusal :=
  .next (s.bar0Write off.toNat data be)

/-- DOORBELL_WRITE (R330). -/
def execDoorbellWrite (off : BitVec 22) (data : List Byte) (s : State) : Host.Outcome State Fault Refusal :=
  .next (s.bar2Write off.toNat data)

/-- DOORBELL_TAKE_READ (R329). -/
def execDoorbellTakeRead (off : BitVec 22) (s : State) : Host.Outcome State Fault Refusal := .next (s.bar2Read off.toNat)

/-- BAR4_READ (R449). -/
def execBar4Read (off : BitVec 14) (s : State) : Host.Outcome State Fault Refusal := .next (s.bar4Read off.toNat)

/-- HDM_READ (R339). -/
def execHdmRead (off : BitVec 27) (s : State) : Host.Outcome State Fault Refusal := .next (s.hdmRead off.toNat)

/-- HDM_WRITE (R339). -/
def execHdmWrite (off : BitVec 27) (data : List Byte) (s : State) : Host.Outcome State Fault Refusal :=
  .next (s.hdmWrite off.toNat data)

/-- BACK_INVALIDATE_RESPONSE (R340). -/
def execBackInvalidateResponse (line : BitVec 40) (data : Option (List Byte)) (s : State) : Host.Outcome State Fault Refusal :=
  .next (s.snoopAnswer line.toNat data)

/-- I2C_WRITE (R393). -/
def execI2cWrite (a v : BitVec 32) (s : State) : Host.Outcome State Fault Refusal := .next (s.i2cWrite a.toNat v)

/-- I2C_READ (R393). -/
def execI2cRead (a : BitVec 32) (s : State) : Host.Outcome State Fault Refusal := .next (s.i2cRead a.toNat)

/-- JTAG_DEBUG_ACCESS (R110): the access, then the resumption of a halted core where one is named. -/
def execJtagDebugAccess (resume : Option (BitVec 8)) (write : Bool) (a : BitVec 40) (len : BitVec 8) (data : List Byte) (s : State) :
    Host.Outcome State Fault Refusal :=
  let s1 := if write then s.jtagWrite a.toNat (data.take (len.toNat + 1)) else s.jtagRead a.toNat (len.toNat + 1)
  .next (match resume with
    | some c => s1.debugResume c.toNat
    | none => s1)

end Sys2Proof.Machine
end

