-- ==== Sys2Proof/Machine/Image.lean ====
section
/-!
DEFINITION. The bedrock image: header, section table, the sections and what they write, the two passes of the start, and the
reload after Standby (15_bedrock_image_and_start.md, R346 to R358; R389).
-/

namespace Sys2Proof.Machine

/-- The boot controller's initiator number (R83). -/
def bootInit : Nat := 0x132

/-! ## Header and signature block (R348, R350) -/

/-- IMAGE_LEN. -/
def imgLen (img : List Byte) : Nat := fieldAt img 8 4

/-- NSECT. -/
def imgNsect (img : List Byte) : Nat := fieldAt img 20 2

/-- Whether every reserved bit of the header is 0. -/
def hdrReserved (img : List Byte) : Bool :=
  decide (fieldAt img 12 4 < 128) && decide (fieldAt img 19 1 = 0) && decide (fieldAt img 22 2 = 0) &&
  decide (fieldAt img 24 4 < 512) && decide (fieldAt img 28 2 &&& 0x8888 = 0) && decide (fieldAt img 30 2 = 0) &&
  decide (fieldAt img 34 1 < 32) && decide (fieldAt img 35 1 < 16) && (slice img 40 216).all (fun b => decide (b = 0))

/-- The reason that the header gives, or 0 (R351: reasons 1 to 3). `step` is GLOBAL_STEP. -/
def hdrReason (img : List Byte) (step : Nat) : Nat :=
  if fieldAt img 0 4 ≠ 0x4B524442 ∨ fieldAt img 4 2 ≠ 1 ∨ fieldAt img 6 2 ≠ 256 ∨ !hdrReserved img then 1
  else if imgLen img < 1024 ∨ 50331648 < imgLen img ∨ imgLen img % 64 ≠ 0 then 2
  else if fieldAt img 16 2 ≠ 0x2816 ∨ step < fieldAt img 18 1 then 3
  else 0

/-- The digest of a copy: SHA-384 of all but its signature block (R350). -/
def imgDigest (img : List Byte) : List Byte := Config.sha384 (slice img 0 (imgLen img - 256))

/-- The public key of the signature block. -/
def imgKey (img : List Byte) : List Byte := slice img (imgLen img - 256) 97

/-- The signature. -/
def imgSig (img : List Byte) : List Byte := slice img (imgLen img - 128) 96

/-- The reason that key, signature and security version give, or 0 (R351: reasons 4 to 6). -/
def sigReason (img : List Byte) (f : FuseSt) : Nat :=
  if f.key.isEmpty || decide (Config.sha384 (imgKey img) ≠ f.key) then 4
  else if !Config.ecdsaP384 (imgKey img) (imgSig img) (imgDigest img) then 5
  else if bitsOf (fieldAt img 12 4) 6 0 < f.rollback then 6
  else 0

/-- The digest that BOOT_DIGEST holds. -/
def State.bootDigest (s : State) : List Byte := (List.range 12).flatMap (fun n => toBytes 4 (s.reg (R.BOOT_DIGEST n)).toNat)

/-! ## Pass 1 (R355 phase 3) -/

/-- The whole copy has been read and digested. A failed read counts after a header that is bad already; on a warm start the
digest must be BOOT_DIGEST's (R351, R358). -/
def State.pass1 (s : State) (img : List Byte) (readOk : Bool) : State :=
  if s.boot.work ≠ 3 then s
  else
    let h := hdrReason img (s.reg R.GLOBAL_STEP).toNat
    let hdrRead : Bool := decide (256 ≤ img.length)
    if hdrRead && decide (h ≠ 0) then s.copyFails h 0 false
    else if !readOk then s.copyFails 11 0 false
    else if h ≠ 0 then s.copyFails h 0 false
    else if s.boot.warm && decide (imgDigest img ≠ s.bootDigest) then s.copyFails 10 0 false
    else if sigReason img s.fuse ≠ 0 then s.copyFails (sigReason img s.fuse) 0 false
    else (s.setBoot { s.boot with
      digest := imgDigest img
      hdr := slice img 0 256
      cores := [] }).enterPhase 4

/-! ## The section table (R349) -/

/-- An entry of the section table. -/
structure Sect where
  typ  : Nat
  rsv  : Bool
  arg  : Nat
  off  : Nat
  len  : Nat
  deriving DecidableEq, Repr

/-- Entry `i` of an image's section table. -/
def sectAt (img : List Byte) (i : Nat) : Sect where
  typ := fieldAt img (256 + 16 * i) 1
  rsv := decide (fieldAt img (257 + 16 * i) 1 ≠ 0) || decide (fieldAt img (268 + 16 * i) 4 ≠ 0)
  arg := fieldAt img (258 + 16 * i) 2
  off := fieldAt img (260 + 16 * i) 4
  len := fieldAt img (264 + 16 * i) 4

/-- The sections in table order. -/
def sects (img : List Byte) : List Sect := (List.range (imgNsect img)).map (sectAt img)

/-- The payload of a section. -/
def payload (img : List Byte) (x : Sect) : List Byte := slice img x.off x.len

/-- Whether entry `i` keeps the rules of R349 and R352. -/
def sectOk (img : List Byte) (l : List Sect) (i : Nat) (x : Sect) : Bool :=
  ([1, 2, 3, 4, 5, 6, 7, 8].contains x.typ || (decide (x.typ = 15) && decide (i + 1 = imgNsect img))) && !x.rsv &&
  decide (x.off % 64 = 0) &&
  (decide (x.len = 0) || (decide (256 + 16 * imgNsect img ≤ x.off) && decide (x.off + x.len ≤ imgLen img - 256))) &&
  (l.zipIdx).all (fun (e : Sect × Nat) => decide (i = e.2) || decide (x.len = 0) || decide (e.1.len = 0) ||
    !rangesMeet x.off x.len e.1.off e.1.len)

/-- The first entry that breaks the rules; the last must be SEAL, and there are 1 to 4,096. -/
def tableFault (img : List Byte) : Option Nat :=
  let l := sects img
  if imgNsect img = 0 ∨ 4096 < imgNsect img then some 0
  else match (l.zipIdx).find? (fun (e : Sect × Nat) => !sectOk img l e.2 e.1) with
    | some e => some e.2
    | none => if (sectAt img (imgNsect img - 1)).typ = 15 then none else some (imgNsect img - 1)

/-! ## Writes of sections -/

/-- What a section or record answers: the reason that fails the copy, or 0, and the state. -/
abbrev Applied := Nat × State

/-- Steps in order, the first failure ending them; so does a reset that a written register starts. -/
def runAll (s : State) (l : List (State → Applied)) : Applied :=
  l.foldl (fun (r : Applied) (f : State → Applied) => if r.1 ≠ 0 ∨ r.2.boot.work ≠ s.boot.work then r else f r.2) (0, s)

/-- A register write of the boot controller: reason 9 where it is not answered DONE, RIGHTS apart where `rights` says so
(R353, R358). -/
def State.bootWrite (s : State) (rights : Bool) (a : Nat) (v : Word) : Applied :=
  if !s.regReaches bootInit a then (9, s)
  else
    let r := s.regWriteResp a v
    (if r = rDone ∨ (rights ∧ r = rRights) then 0 else 9, s.regWrite a v)

/-- A write of the boot controller to memory. -/
def State.bootStore (s : State) (a : Nat) (l : List Byte) : Applied :=
  (if s.rangeResp bootInit a l.length true = rDone then 0 else 9, s.engWrite bootInit a l false)

/-- The records of `n` bytes that a payload is. -/
def records (l : List Byte) (n : Nat) : List (List Byte) := (List.range (l.length / n)).map (fun i => slice l (n * i) n)

/-! ## REGISTER_WRITES, ROUTES, QUEUES, CAL_USER (R353) -/

/-- REGISTER_WRITES: its rules. -/
def regWritesOk (l : List Byte) : Bool :=
  decide (l.length % 8 = 0) && (records l 8).all (fun r => decide (fieldAt r 0 4 < 2 ^ 28) && decide (fieldAt r 0 4 % 4 = 0))

/-- REGISTER_WRITES: the records in order; `keep` selects those that are written. -/
def State.regWrites (s : State) (l : List Byte) (keep : Nat → Bool) : Applied :=
  runAll s (((records l 8).filter (fun r => keep (fieldAt r 0 4))).map (fun r (t : State) =>
    t.bootWrite t.boot.warm (fieldAt r 0 4) (BitVec.ofNat 32 (fieldAt r 4 4))))

/-- ROUTES: its rules. -/
def routesOk (l : List Byte) : Bool :=
  decide (l.length % 4 = 0) && (records l 4).all (fun r => decide (fieldAt r 0 4 < 2 ^ 23) && nodeHasNi (fieldAt r 0 1))

/-- ROUTES: the entries are written before SEAL, and skipped after it (R358). -/
def State.routesSect (s : State) (l : List Byte) : Applied :=
  if s.sealed then (0, s)
  else (0, (records l 4).foldl (fun s r =>
    s.setRoute (fieldAt r 0 1) (fieldAt r 1 1) (BitVec.ofNat 7 (bitsOf (fieldAt r 0 4) 22 16))) s)

/-- QUEUES: its rules. -/
def queuesOk (l : List Byte) : Bool :=
  decide (l.length % 40 = 0) && (records l 40).all (fun r => decide (fieldAt r 0 4 < 2 ^ 18) && decide (fieldAt r 4 4 = 0))

/-- QUEUES: QMGR_Q_SEL, QMGR_Q_CFG with EN = 0, the other seven words, QMGR_Q_CFG with EN as recorded. -/
def State.queuesSect (s : State) (l : List Byte) : Applied :=
  runAll s ((records l 40).flatMap (fun r =>
    let w (i : Nat) : Word := BitVec.ofNat 32 (fieldAt r (8 + 4 * i) 4)
    let at_ (i : Nat) (v : Word) (t : State) : Applied := t.bootWrite false (R.QMGR_Q_BASE_LO + 4 * i) v
    [fun t => t.bootWrite false R.QMGR_Q_SEL (BitVec.ofNat 32 (fieldAt r 0 4)), at_ 1 (w 1 &&& ~~~ 0x800000#32)] ++
      [0, 2, 3, 4, 5, 6, 7].map (fun i => at_ i (w i)) ++ [at_ 1 (w 1)]))

/-- CAL_USER: its rules. -/
def calUserOk (l : List Byte) : Bool :=
  decide (l.length % 8 = 0) && (records l 8).all (fun r =>
    decide (0x1004 ≤ fieldAt r 0 4) && decide ((fieldAt r 0 4 - 0x1004) / 16 < 146) && decide ((fieldAt r 0 4 - 0x1004) % 16 = 0))

/-- CAL_USER: the user values. -/
def State.calUserSect (s : State) (l : List Byte) : Applied :=
  runAll s ((records l 8).map (fun r (t : State) =>
    t.bootWrite false (0x9000000 + fieldAt r 0 4) (BitVec.ofNat 32 (fieldAt r 4 4))))

/-! ## MEMORY_FILL and FIRMWARE (R353, R290) -/

/-- Whether a fill's range lies in one memory window, outside instruction memory and host memory. -/
def fillOk (a n : Nat) : Bool :=
  decide (a % 8 = 0) && decide (n % 8 = 0) &&
  (match tgtOf a with
   | .core _ off => decide (off + n ≤ 0x40000)
   | .druse _ off => decide (off + n ≤ 0x200000)
   | .strat _ off => decide (off + n ≤ 0x600000)
   | .hub off => decide (off + n ≤ 0x2000000)
   | _ => false)

/-- MEMORY_FILL: the fills of a payload, each with its address and bytes; none where it breaks the rules. `fuel` bounds the
records. -/
def fills : Nat → List Byte → Option (List (Nat × List Byte))
  | 0, l => if l.isEmpty then some [] else none
  | k + 1, l =>
    if l.isEmpty then some []
    else
      let a := fieldAt l 0 5
      let mode := fieldAt l 5 1
      let n := fieldAt l 8 4
      let body := if mode = 0 then n else 8
      if l.length < 16 + body ∨ 1 < mode ∨ fieldAt l 6 2 ≠ 0 ∨ fieldAt l 12 4 ≠ 0 ∨ !fillOk a n then none
      else
        let bytes := if mode = 0 then slice l 16 n else (List.range n).map (fun i => l.getD (16 + i % 8) 0)
        (fills k (l.drop (16 + body))).map (fun r => (a, bytes) :: r)

/-- How far the ranges of a list cover memory from an address on without a gap, in at most `n` of them. -/
def coveredTo (l : List (Nat × Nat)) : Nat → Nat → Nat
  | 0, a => a
  | n + 1, a =>
    match l.find? (fun r => decide (r.1 ≤ a) && decide (a < r.1 + r.2)) with
    | some r => coveredTo l n (r.1 + r.2)
    | none => a

/-- The macros that the ranges of a list cover whole, together (R290). -/
def wholeMacros (l : List (Nat × Nat)) : List Nat :=
  (l.flatMap (fun r => (List.range (r.2 / 0x10000 + 2)).filterMap (fun i =>
    let b := r.1 / 0x10000 * 0x10000 + 0x10000 * i
    if b + 0x10000 ≤ coveredTo l l.length b then some (macroOf b) else none))).eraseDups

/-- The bits of macros are set in MEM_INIT_DONE. -/
def State.markInit (s : State) (l : List Nat) : State :=
  l.foldl (fun s m => s.putBit (F.MEM_INIT_DONE_DONE (m / 32)) (m % 32) true) s

/-- MEMORY_FILL: the ranges are written, and the macros that a section writes whole are declared (R290). -/
def State.fillSect (s : State) (l : List (Nat × List Byte)) : Applied :=
  let r := runAll s (l.map (fun (e : Nat × List Byte) (t : State) => t.bootStore e.1 e.2))
  (r.1, if r.1 = 0 then r.2.markInit (wholeMacros (l.map (fun e => (e.1, e.2.length)))) else r.2)

/-- The cores that a FIRMWARE section loads. -/
def fwCores (arg : Nat) : List Nat := if arg.testBit 8 then druseCores (arg % 256) else [arg % 256]

/-- FIRMWARE: its rules; a core is loaded once. -/
def fwOk (loaded : List Nat) (arg : Nat) (l : List Byte) : Bool :=
  decide (l.length ≤ 65536) && decide (l.length % 4 = 0) && decide (arg < 2 ^ 13) &&
  (!arg.testBit 8 || decide (arg % 256 < 32)) && (fwCores arg).all (fun c => !loaded.contains c)

/-- FIRMWARE: the instruction memories are written, and IMG_DIS recorded (R143, R353). -/
def State.fwSect (s : State) (arg : Nat) (l : List Byte) : Applied :=
  runAll s ((fwCores arg).map (fun c (t : State) =>
    let r := t.bootStore (coreWin c + 0x40000) l
    (r.1, { r.2 with
      imgDis := mapSet r.2.imgDis 0 c (BitVec.ofNat 4 (bitsOf arg 12 9))
      boot := { r.2.boot with cores := setIns r.2.boot.cores c } })))

/-! ## TRACK and CELLS (R353, R354) -/

/-- TRACK: its rules: lengths, reserved bits, and every track of the directory valid (R188, R189). -/
def State.trackOk (s : State) (l : List Byte) : Bool :=
  let n := fieldAt l 0 2
  let f := fieldAt l 2 2
  let chain (i : Nat) : Nat := if f ≤ i ∧ i < f + n then fieldAt l (72 + 24 * (i - f) + 8) 4 else s.chainNew i
  decide (l.length = 72 + 24 * n) && decide (fieldAt l 4 4 = 0) && decide (f + n ≤ 65536) &&
  (List.range n).all (fun i => decide (bitsOf (fieldAt l (72 + 24 * i + 16) 4) 31 17 = 0) &&
    decide (fieldAt l (72 + 24 * i + 20) 4 = 0)) &&
  (List.range 16).all (fun k => Sys2Proof.Machine.trackOk (fieldAt l (8 + 4 * k) 4) chain)

/-- TRACK: directory and vertices are written. -/
def State.trackSect (s : State) (l : List Byte) : State :=
  let n := fieldAt l 0 2
  let f := fieldAt l 2 2
  let s1 := (List.range 16).foldl (fun s k => s.amend 4 k 0 0xFFFFFFFF (BitVec.ofNat 32 (fieldAt l (8 + 4 * k) 4))) s
  (List.range n).foldl (fun s i => (List.range 6).foldl (fun s w =>
    s.amend 0 (f + i) w 0xFFFFFFFF (BitVec.ofNat 32 (fieldAt l (72 + 24 * i + 4 * w) 4))) s) s1

/-- The cell descriptors of a CELLS section. -/
def cellDescs (l : List Byte) : List (List Byte) :=
  (List.range (fieldAt l 2 1)).map (fun i => slice l (8 + 32 * fieldAt l 0 2 + 64 * i) 64)

/-- The cell a descriptor is for. -/
def cdCell (d : List Byte) : Nat := bitsOf (recWord d 0) 7 0

/-- Descriptors with their cells that do not conflict: each cell once, R21 and R22 between any two. -/
def noConflicts : List (Nat × List Byte) → Bool
  | [] => true
  | (c, d) :: l => l.all (fun (e : Nat × List Byte) => decide (e.1 ≠ c) && !cdConflict c d e.1 e.2) && noConflicts l

/-- Whether the cells that start WARMING fit their dies at the PSTART levels (R25, R353). -/
def startFits (pstart : Nat) (l : List (Nat × List Byte)) : Bool :=
  (List.range 4).all (fun n =>
    decide ((l.filter (fun (e : Nat × List Byte) => cdStart e.2 && decide (cdHome e.2 = n))).foldl
      (fun (x : Rat) (e : Nat × List Byte) => x + cdCau e.1 (cdNmax e.2) e.2) 0 ≤
      (levelCau (bitsOf pstart (4 * n + 2) (4 * n)) : Rat)))

/-- CELLS: its rules (R15, R20 to R22, R25, R353, R354). -/
def State.cellsOk (s : State) (l : List Byte) : Bool :=
  let nrp := bitsOf (fieldAt l 0 4) 8 0
  let ds := (cellDescs l).map (fun d => (cdCell d, d))
  let all := ds ++ s.mgmt.desc
  decide (l.length = 8 + 32 * nrp + 64 * fieldAt l 2 1) && decide (fieldAt l 4 4 = 0) &&
  decide (bitsOf (fieldAt l 0 4) 15 9 = 0) && decide (fieldAt l 3 1 = 0) && decide (nrp ≤ 256) &&
  (List.range nrp).all (fun r => rpOk (slice l (8 + 32 * r) 32)) &&
  ds.all (fun (e : Nat × List Byte) => cdOk e.1 e.2) && noConflicts all && startFits (fieldAt s.boot.hdr 28 2) all

/-- CELLS: radio points and descriptors are written; every cell is DARK until Live. -/
def State.cellsSect (s : State) (l : List Byte) : State :=
  let s1 := (List.range (bitsOf (fieldAt l 0 4) 8 0)).foldl (fun s r => (List.range 8).foldl (fun s i =>
    s.amend 1 r i 0xFFFFFFFF (BitVec.ofNat 32 (fieldAt l (8 + 32 * r + 4 * i) 4))) s) s
  (cellDescs l).foldl (fun s d => (s.setDesc (cdCell d) d).writeCellRec (cdCell d) d) s1

/-! ## Pass 2 (R355 phase 4, R356) -/

/-- SEAL: BOOT_BUILD, BOOT_LOADED and BOOT_DIGEST take the copy's values, and every RWL field is locked (R353, R358). -/
def State.seal (s : State) : State :=
  if s.sealed then s
  else
    let s1 := (s.setReg R.BOOT_BUILD (BitVec.ofNat 32 (fieldAt s.boot.hdr 36 4))).put F.BOOT_LOADED_COPY (s.get F.BOOT_STAT_COPY)
    let s2 := (List.range 12).foldl (fun s n =>
      s.setReg (R.BOOT_DIGEST n) (BitVec.ofNat 32 (fieldAt s.boot.digest (4 * n) 4))) s1
    s2.put F.BOOT_STAT_SEALED 1

/-- One section is checked and applied: reason 8 for its content, 9 for a write. -/
def State.section_ (s : State) (img : List Byte) (x : Sect) : Applied :=
  let l := payload img x
  if decide (x.typ ≠ 3) && decide (x.arg ≠ 0) then (8, s)
  else match x.typ with
    | 1 => if regWritesOk l then s.regWrites l (fun _ => true) else (8, s)
    | 2 => match fills l.length l with
      | some f => s.fillSect f
      | none => (8, s)
    | 3 => if fwOk s.boot.cores x.arg l then s.fwSect x.arg l else (8, s)
    | 4 => if s.trackOk l then (0, s.trackSect l) else (8, s)
    | 5 => if s.cellsOk l then (0, s.cellsSect l) else (8, s)
    | 6 => if queuesOk l then s.queuesSect l else (8, s)
    | 7 => if routesOk l then s.routesSect l else (8, s)
    | 8 => if calUserOk l then s.calUserSect l else (8, s)
    | _ => if x.len = 0 then (0, s.seal) else (8, s)

/-- The sections in table order: what fails, in which section, and the state. -/
def State.sections (s : State) (img : List Byte) : List (Sect × Nat) → Nat × Nat × State
  | [] => (0, 0, s)
  | (x, i) :: l =>
    let r := s.section_ img x
    if r.1 ≠ 0 then (r.1, i, r.2)
    else if r.2.boot.work ≠ s.boot.work then (0, 0, r.2)
    else r.2.sections img l

/-- The copy has been read and digested again: it must be what pass 1 digested; then the table is checked and the sections
are applied, and after SEAL the loaded cores are released (R355 phases 4 and 6, R356). -/
def State.pass2 (s : State) (img : List Byte) (readOk : Bool) : State :=
  if s.boot.work ≠ 4 then s
  else if !readOk then s.copyFails 11 0 false
  else if imgDigest img ≠ s.boot.digest then s.copyFails 10 0 false
  else match tableFault img with
    | some i => s.copyFails 7 i false
    | none =>
      let r := s.sections img (sects img).zipIdx
      if r.1 ≠ 0 then r.2.2.copyFails r.1 r.2.1 (decide (r.2.1 ≠ 0) || decide (r.1 = 9))
      else if r.2.2.boot.work ≠ 4 then r.2.2
      else (r.2.2.enterPhase 6).released

/-! ## The reload after Standby (R389) -/

/-- Whether the reload replays a register write: SIEVE blocks, mover complexes 0 to 7 and MILL blocks. -/
def reloads (a : Nat) : Bool :=
  decide (a / 2 ^ 24 = 4) || decide (a / 2 ^ 24 = 12) || (decide (a / 2 ^ 24 = 3) && decide (a % 2 ^ 24 < 0x80000))

/-- FIRMWARE sections and the register writes of R389 are applied again. -/
def State.reloadSects (s : State) (img : List Byte) : State :=
  (sects img).foldl (fun s x =>
    if x.typ = 3 then (s.fwSect x.arg (payload img x)).2
    else if x.typ = 1 then (s.regWrites (payload img x) reloads).2
    else s) s

/-- The reload finishes: the loaded cores run, or with a wrong digest or a failed read none does and RELOAD_FAIL is set; the
exit goes on. -/
def State.reload (s : State) (img : List Byte) (readOk : Bool) : State :=
  if s.pwr.phase ≠ .reload then s
  else if !readOk || decide (imgDigest img ≠ s.bootDigest) then
    let s1 := s.flag F.PWR_STAT_RELOAD_FAIL
    (s1.report { mkReport 14 15 0x3B 0 with data0 := (s1.reg R.PWR_STAT).toNat }).exitDone
  else
    let s1 := s.reloadSects img
    (s1.boot.cores.foldl (fun s c => if s.druseUp (c / 8) then s.releaseCore c else s) s1).exitDone

/-! ## Commands -/

/-- IMAGE_PASS_1 (R355, R351). -/
def execImagePass1 (img : List Byte) (readOk : Bool) (s : State) : Host.Outcome State Fault Refusal := .next (s.pass1 img readOk)

/-- IMAGE_PASS_2 (R355, R356). -/
def execImagePass2 (img : List Byte) (readOk : Bool) (s : State) : Host.Outcome State Fault Refusal := .next (s.pass2 img readOk)

/-- RELOAD_DONE (R389). -/
def execReloadDone (img : List Byte) (readOk : Bool) (s : State) : Host.Outcome State Fault Refusal := .next (s.reload img readOk)

end Sys2Proof.Machine
end

