-- ==== Sys2Proof/Machine/Dispatch.lean ====
section
/-!
DEFINITION. One arm per command: a direct call of its meaning.
-/

namespace Sys2Proof.Machine

/-- The effect of a command on everything but the queue. -/
def exec (i : Instr) (s : State) : Host.Outcome State Fault Refusal :=
  match i with
  | .registerWrite init a v => Sys2Proof.Machine.execRegisterWrite init a v s
  | .powerOnReset straps => Sys2Proof.Machine.execPowerOnReset straps s
  | .warmReset => Sys2Proof.Machine.execWarmReset s
  | .globalRst v => Sys2Proof.Machine.execGlobalRst v s
  | .controlMemoryCleared => Sys2Proof.Machine.execControlMemoryCleared s
  | .startPllLock => Sys2Proof.Machine.execStartPllLock s
  | .imagePass1 img readOk => Sys2Proof.Machine.execImagePass1 img readOk s
  | .imagePass2 img readOk => Sys2Proof.Machine.execImagePass2 img readOk s
  | .ready v => Sys2Proof.Machine.execReady v s
  | .fwTmoExpiry => Sys2Proof.Machine.execFwTmoExpiry s
  | .advance v => Sys2Proof.Machine.execAdvance v s
  | .rollbackProgrammed => Sys2Proof.Machine.execRollbackProgrammed s
  | .flashGo v => Sys2Proof.Machine.execFlashGo v s
  | .flashCommandDone data => Sys2Proof.Machine.execFlashCommandDone data s
  | .cellActivate fw => Sys2Proof.Machine.execCellActivate fw s
  | .cellDeactivate fw => Sys2Proof.Machine.execCellDeactivate fw s
  | .cellModify fw => Sys2Proof.Machine.execCellModify fw s
  | .cellReady fw => Sys2Proof.Machine.execCellReady fw s
  | .cellDrained fw => Sys2Proof.Machine.execCellDrained fw s
  | .mcellParam fw => Sys2Proof.Machine.execMcellParam fw s
  | .mcellAnchor fw => Sys2Proof.Machine.execMcellAnchor fw s
  | .trainRegister fw => Sys2Proof.Machine.execTrainRegister fw s
  | .trainRelease fw => Sys2Proof.Machine.execTrainRelease fw s
  | .trainModem fw => Sys2Proof.Machine.execTrainModem fw s
  | .trackVertices fw => Sys2Proof.Machine.execTrackVertices fw s
  | .trackDir fw => Sys2Proof.Machine.execTrackDir fw s
  | .rpSet fw => Sys2Proof.Machine.execRpSet fw s
  | .mgmtCompletion => Sys2Proof.Machine.execMgmtCompletion s
  | .relock => Sys2Proof.Machine.execRelock s
  | .refSourceSwitch v => Sys2Proof.Machine.execRefSourceSwitch v s
  | .refLost => Sys2Proof.Machine.execRefLost s
  | .refGood => Sys2Proof.Machine.execRefGood s
  | .rate k v => Sys2Proof.Machine.execRate k v s
  | .stepGo k => Sys2Proof.Machine.execStepGo k s
  | .stepApply k => Sys2Proof.Machine.execStepApply k s
  | .timebaseValueWrite k frac v => Sys2Proof.Machine.execTimebaseValueWrite k frac v s
  | .mask v => Sys2Proof.Machine.execMask v s
  | .arm k => Sys2Proof.Machine.execArm k s
  | .compareFire k => Sys2Proof.Machine.execCompareFire k s
  | .pulseWidthEnd k => Sys2Proof.Machine.execPulseWidthEnd k s
  | .capture j src rising => Sys2Proof.Machine.execCapture j src rising s
  | .ppsInputPeriod p high low => Sys2Proof.Machine.execPpsInputPeriod p high low s
  | .txtsPop p => Sys2Proof.Machine.execTxtsPop p s
  | .epochTb p v => Sys2Proof.Machine.execEpochTb p v s
  | .add c rd rs1 rs2 => Sys2Proof.Machine.execAdd c rd rs1 rs2 s
  | .sub c rd rs1 rs2 => Sys2Proof.Machine.execSub c rd rs1 rs2 s
  | .and c rd rs1 rs2 => Sys2Proof.Machine.execAnd c rd rs1 rs2 s
  | .or c rd rs1 rs2 => Sys2Proof.Machine.execOr c rd rs1 rs2 s
  | .xor c rd rs1 rs2 => Sys2Proof.Machine.execXor c rd rs1 rs2 s
  | .sll c rd rs1 rs2 => Sys2Proof.Machine.execSll c rd rs1 rs2 s
  | .srl c rd rs1 rs2 => Sys2Proof.Machine.execSrl c rd rs1 rs2 s
  | .sra c rd rs1 rs2 => Sys2Proof.Machine.execSra c rd rs1 rs2 s
  | .slt c rd rs1 rs2 => Sys2Proof.Machine.execSlt c rd rs1 rs2 s
  | .sltu c rd rs1 rs2 => Sys2Proof.Machine.execSltu c rd rs1 rs2 s
  | .min c rd rs1 rs2 => Sys2Proof.Machine.execMin c rd rs1 rs2 s
  | .max c rd rs1 rs2 => Sys2Proof.Machine.execMax c rd rs1 rs2 s
  | .minu c rd rs1 rs2 => Sys2Proof.Machine.execMinu c rd rs1 rs2 s
  | .maxu c rd rs1 rs2 => Sys2Proof.Machine.execMaxu c rd rs1 rs2 s
  | .mul c rd rs1 rs2 => Sys2Proof.Machine.execMul c rd rs1 rs2 s
  | .mulh c rd rs1 rs2 => Sys2Proof.Machine.execMulh c rd rs1 rs2 s
  | .mulhu c rd rs1 rs2 => Sys2Proof.Machine.execMulhu c rd rs1 rs2 s
  | .clz c rd rs1 rs2 => Sys2Proof.Machine.execClz c rd rs1 rs2 s
  | .popc c rd rs1 rs2 => Sys2Proof.Machine.execPopc c rd rs1 rs2 s
  | .abs c rd rs1 rs2 => Sys2Proof.Machine.execAbs c rd rs1 rs2 s
  | .addw c rd rs1 rs2 => Sys2Proof.Machine.execAddw c rd rs1 rs2 s
  | .subw c rd rs1 rs2 => Sys2Proof.Machine.execSubw c rd rs1 rs2 s
  | .andw c rd rs1 rs2 => Sys2Proof.Machine.execAndw c rd rs1 rs2 s
  | .orw c rd rs1 rs2 => Sys2Proof.Machine.execOrw c rd rs1 rs2 s
  | .xorw c rd rs1 rs2 => Sys2Proof.Machine.execXorw c rd rs1 rs2 s
  | .sllw c rd rs1 rs2 => Sys2Proof.Machine.execSllw c rd rs1 rs2 s
  | .srlw c rd rs1 rs2 => Sys2Proof.Machine.execSrlw c rd rs1 rs2 s
  | .sraw c rd rs1 rs2 => Sys2Proof.Machine.execSraw c rd rs1 rs2 s
  | .mulw c rd rs1 rs2 => Sys2Proof.Machine.execMulw c rd rs1 rs2 s
  | .addi c rd rs1 imm => Sys2Proof.Machine.execAddi c rd rs1 imm s
  | .andi c rd rs1 imm => Sys2Proof.Machine.execAndi c rd rs1 imm s
  | .ori c rd rs1 imm => Sys2Proof.Machine.execOri c rd rs1 imm s
  | .xori c rd rs1 imm => Sys2Proof.Machine.execXori c rd rs1 imm s
  | .slti c rd rs1 imm => Sys2Proof.Machine.execSlti c rd rs1 imm s
  | .sltiu c rd rs1 imm => Sys2Proof.Machine.execSltiu c rd rs1 imm s
  | .slli c rd rs1 hi sh => Sys2Proof.Machine.execSlli c rd rs1 hi sh s
  | .srli c rd rs1 hi sh => Sys2Proof.Machine.execSrli c rd rs1 hi sh s
  | .srai c rd rs1 hi sh => Sys2Proof.Machine.execSrai c rd rs1 hi sh s
  | .lui c rd rs1 imm => Sys2Proof.Machine.execLui c rd rs1 imm s
  | .addiw c rd rs1 imm => Sys2Proof.Machine.execAddiw c rd rs1 imm s
  | .lb c rt base off => Sys2Proof.Machine.execLb c rt base off s
  | .lbu c rt base off => Sys2Proof.Machine.execLbu c rt base off s
  | .lh c rt base off => Sys2Proof.Machine.execLh c rt base off s
  | .lhu c rt base off => Sys2Proof.Machine.execLhu c rt base off s
  | .lw c rt base off => Sys2Proof.Machine.execLw c rt base off s
  | .lwu c rt base off => Sys2Proof.Machine.execLwu c rt base off s
  | .ld c rt base off => Sys2Proof.Machine.execLd c rt base off s
  | .sb c rt base off => Sys2Proof.Machine.execSb c rt base off s
  | .sh c rt base off => Sys2Proof.Machine.execSh c rt base off s
  | .sw c rt base off => Sys2Proof.Machine.execSw c rt base off s
  | .sd c rt base off => Sys2Proof.Machine.execSd c rt base off s
  | .swapd c rd rs1 rs2 => Sys2Proof.Machine.execSwapd c rd rs1 rs2 s
  | .addd c rd rs1 rs2 => Sys2Proof.Machine.execAddd c rd rs1 rs2 s
  | .andd c rd rs1 rs2 => Sys2Proof.Machine.execAndd c rd rs1 rs2 s
  | .ord c rd rs1 rs2 => Sys2Proof.Machine.execOrd c rd rs1 rs2 s
  | .maxd c rd rs1 rs2 => Sys2Proof.Machine.execMaxd c rd rs1 rs2 s
  | .beq c rs1 rs2 off => Sys2Proof.Machine.execBeq c rs1 rs2 off s
  | .bne c rs1 rs2 off => Sys2Proof.Machine.execBne c rs1 rs2 off s
  | .blt c rs1 rs2 off => Sys2Proof.Machine.execBlt c rs1 rs2 off s
  | .bge c rs1 rs2 off => Sys2Proof.Machine.execBge c rs1 rs2 off s
  | .bltu c rs1 rs2 off => Sys2Proof.Machine.execBltu c rs1 rs2 off s
  | .bgeu c rs1 rs2 off => Sys2Proof.Machine.execBgeu c rs1 rs2 off s
  | .j c off => Sys2Proof.Machine.execJ c off s
  | .jal c off => Sys2Proof.Machine.execJal c off s
  | .jalr c rd rs1 imm => Sys2Proof.Machine.execJalr c rd rs1 imm s
  | .mfcr c rd rs1 cr => Sys2Proof.Machine.execMfcr c rd rs1 cr s
  | .mtcr c rd rs1 cr => Sys2Proof.Machine.execMtcr c rd rs1 cr s
  | .fence c rd rs1 cr => Sys2Proof.Machine.execFence c rd rs1 cr s
  | .tret c rd rs1 cr => Sys2Proof.Machine.execTret c rd rs1 cr s
  | .brk c rd rs1 cr => Sys2Proof.Machine.execBrk c rd rs1 cr s
  | .prefetchReturn p => Sys2Proof.Machine.execPrefetchReturn p s
  | .prefetchBufferExpiry c => Sys2Proof.Machine.execPrefetchBufferExpiry c s
  | .vclaim c rd rs1 z mode => Sys2Proof.Machine.execVclaim c rd rs1 z mode s
  | .vsetclaim c rd rs1 z mode => Sys2Proof.Machine.execVsetclaim c rd rs1 z mode s
  | .vadd c sc vd vs1 vs2 men m => Sys2Proof.Machine.execVadd c sc vd vs1 vs2 men m s
  | .vsub c sc vd vs1 vs2 men m => Sys2Proof.Machine.execVsub c sc vd vs1 vs2 men m s
  | .vmin c sc vd vs1 vs2 men m => Sys2Proof.Machine.execVmin c sc vd vs1 vs2 men m s
  | .vmax c sc vd vs1 vs2 men m => Sys2Proof.Machine.execVmax c sc vd vs1 vs2 men m s
  | .vand c sc vd vs1 vs2 men m => Sys2Proof.Machine.execVand c sc vd vs1 vs2 men m s
  | .vor c sc vd vs1 vs2 men m => Sys2Proof.Machine.execVor c sc vd vs1 vs2 men m s
  | .vxor c sc vd vs1 vs2 men m => Sys2Proof.Machine.execVxor c sc vd vs1 vs2 men m s
  | .vsll c sc vd vs1 vs2 men m => Sys2Proof.Machine.execVsll c sc vd vs1 vs2 men m s
  | .vsrl c sc vd vs1 vs2 men m => Sys2Proof.Machine.execVsrl c sc vd vs1 vs2 men m s
  | .vsra c sc vd vs1 vs2 men m => Sys2Proof.Machine.execVsra c sc vd vs1 vs2 men m s
  | .vsrar c sc vd vs1 vs2 men m => Sys2Proof.Machine.execVsrar c sc vd vs1 vs2 men m s
  | .vabs c sc vd vs1 vs2 men m => Sys2Proof.Machine.execVabs c sc vd vs1 vs2 men m s
  | .vneg c sc vd vs1 vs2 men m => Sys2Proof.Machine.execVneg c sc vd vs1 vs2 men m s
  | .vconj c sc vd vs1 vs2 men m => Sys2Proof.Machine.execVconj c sc vd vs1 vs2 men m s
  | .vmul c sc vd vs1 vs2 men m => Sys2Proof.Machine.execVmul c sc vd vs1 vs2 men m s
  | .vmulc c sc vd vs1 vs2 men m => Sys2Proof.Machine.execVmulc c sc vd vs1 vs2 men m s
  | .vmac c sc vd vs1 vs2 men m => Sys2Proof.Machine.execVmac c sc vd vs1 vs2 men m s
  | .vmacc c sc vd vs1 vs2 men m => Sys2Proof.Machine.execVmacc c sc vd vs1 vs2 men m s
  | .vmsub c sc vd vs1 vs2 men m => Sys2Proof.Machine.execVmsub c sc vd vs1 vs2 men m s
  | .vwadd c sc vd vs1 vs2 men m => Sys2Proof.Machine.execVwadd c sc vd vs1 vs2 men m s
  | .vwmul c sc vd vs1 vs2 men m => Sys2Proof.Machine.execVwmul c sc vd vs1 vs2 men m s
  | .vwmulc c sc vd vs1 vs2 men m => Sys2Proof.Machine.execVwmulc c sc vd vs1 vs2 men m s
  | .vwmac c sc vd vs1 vs2 men m => Sys2Proof.Machine.execVwmac c sc vd vs1 vs2 men m s
  | .vwmacc c sc vd vs1 vs2 men m => Sys2Proof.Machine.execVwmacc c sc vd vs1 vs2 men m s
  | .vpow c sc vd vs1 vs2 men m => Sys2Proof.Machine.execVpow c sc vd vs1 vs2 men m s
  | .vnarrow c sc vd vs1 vs2 men m => Sys2Proof.Machine.execVnarrow c sc vd vs1 vs2 men m s
  | .vcvt c sc vd vs1 vs2 men m => Sys2Proof.Machine.execVcvt c sc vd vs1 vs2 men m s
  | .vaddi c vd vs1 imm men m => Sys2Proof.Machine.execVaddi c vd vs1 imm men m s
  | .vslli c vd vs1 imm men m => Sys2Proof.Machine.execVslli c vd vs1 imm men m s
  | .vsrli c vd vs1 imm men m => Sys2Proof.Machine.execVsrli c vd vs1 imm men m s
  | .vsrai c vd vs1 imm men m => Sys2Proof.Machine.execVsrai c vd vs1 imm men m s
  | .vsrari c vd vs1 imm men m => Sys2Proof.Machine.execVsrari c vd vs1 imm men m s
  | .vnarrowi c vd vs1 imm men m => Sys2Proof.Machine.execVnarrowi c vd vs1 imm men m s
  | .vsplati c vd vs1 imm men m => Sys2Proof.Machine.execVsplati c vd vs1 imm men m s
  | .vredsum c d s1 s2 men m => Sys2Proof.Machine.execVredsum c d s1 s2 men m s
  | .vredmax c d s1 s2 men m => Sys2Proof.Machine.execVredmax c d s1 s2 men m s
  | .vredmin c d s1 s2 men m => Sys2Proof.Machine.execVredmin c d s1 s2 men m s
  | .vext c d s1 s2 men m => Sys2Proof.Machine.execVext c d s1 s2 men m s
  | .vins c d s1 s2 men m => Sys2Proof.Machine.execVins c d s1 s2 men m s
  | .vsplat c d s1 s2 men m => Sys2Proof.Machine.execVsplat c d s1 s2 men m s
  | .vslideup c d s1 s2 men m => Sys2Proof.Machine.execVslideup c d s1 s2 men m s
  | .vslidedn c d s1 s2 men m => Sys2Proof.Machine.execVslidedn c d s1 s2 men m s
  | .vperm c d s1 s2 men m => Sys2Proof.Machine.execVperm c d s1 s2 men m s
  | .vmv c d s1 s2 men m => Sys2Proof.Machine.execVmv c d s1 s2 men m s
  | .vsel c d s1 s2 men m => Sys2Proof.Machine.execVsel c d s1 s2 men m s
  | .vcmpeq c d s1 s2 men m => Sys2Proof.Machine.execVcmpeq c d s1 s2 men m s
  | .vcmplt c d s1 s2 men m => Sys2Proof.Machine.execVcmplt c d s1 s2 men m s
  | .vcmple c d s1 s2 men m => Sys2Proof.Machine.execVcmple c d s1 s2 men m s
  | .vmand c d s1 s2 men m => Sys2Proof.Machine.execVmand c d s1 s2 men m s
  | .vmor c d s1 s2 men m => Sys2Proof.Machine.execVmor c d s1 s2 men m s
  | .vmxor c d s1 s2 men m => Sys2Proof.Machine.execVmxor c d s1 s2 men m s
  | .vmandn c d s1 s2 men m => Sys2Proof.Machine.execVmandn c d s1 s2 men m s
  | .vmpopc c d s1 s2 men m => Sys2Proof.Machine.execVmpopc c d s1 s2 men m s
  | .vmfirst c d s1 s2 men m => Sys2Proof.Machine.execVmfirst c d s1 s2 men m s
  | .vld c vt base s2 men m mode z => Sys2Proof.Machine.execVld c vt base s2 men m mode z s
  | .vst c vt base s2 men m mode z => Sys2Proof.Machine.execVst c vt base s2 men m mode z s
  | .ccorr c d s1 s2 param => Sys2Proof.Machine.execCcorr c d s1 s2 param s
  | .cdesp c d s1 s2 param => Sys2Proof.Machine.execCdesp c d s1 s2 param s
  | .cpeak c d s1 s2 param => Sys2Proof.Machine.execCpeak c d s1 s2 param s
  | .lginit c d s1 s2 param => Sys2Proof.Machine.execLginit c d s1 s2 param s
  | .lgen c d s1 s2 param => Sys2Proof.Machine.execLgen c d s1 s2 param s
  | .lgenv c d s1 s2 param => Sys2Proof.Machine.execLgenv c d s1 s2 param s
  | .lcrcinit c d s1 s2 param => Sys2Proof.Machine.execLcrcinit c d s1 s2 param s
  | .lcrcg c d s1 s2 param => Sys2Proof.Machine.execLcrcg c d s1 s2 param s
  | .lcrcv c d s1 s2 param => Sys2Proof.Machine.execLcrcv c d s1 s2 param s
  | .lcrcrd c d s1 s2 param => Sys2Proof.Machine.execLcrcrd c d s1 s2 param s
  | .demap c func d s1 s2 param => Sys2Proof.Machine.execDemap c func d s1 s2 param s
  | .isel c d s1 s2 param => Sys2Proof.Machine.execIsel c d s1 s2 param s
  | .ibil c d s1 s2 param => Sys2Proof.Machine.execIbil c d s1 s2 param s
  | .idil c d s1 s2 param => Sys2Proof.Machine.execIdil c d s1 s2 param s
  | .icomb c d s1 s2 param => Sys2Proof.Machine.execIcomb c d s1 s2 param s
  | .fusedResult c unit => Sys2Proof.Machine.execFusedResult c unit s
  | .ilvOperationEnd c => Sys2Proof.Machine.execIlvOperationEnd c s
  | .tdispatch c rd rs1 rs2 => Sys2Proof.Machine.execTdispatch c rd rs1 rs2 s
  | .tdispatchServed t => Sys2Proof.Machine.execTdispatchServed t s
  | .tspawn c rd rs1 rs2 => Sys2Proof.Machine.execTspawn c rd rs1 rs2 s
  | .twait c rd rs1 rs2 => Sys2Proof.Machine.execTwait c rd rs1 rs2 s
  | .tyield c rd rs1 rs2 => Sys2Proof.Machine.execTyield c rd rs1 rs2 s
  | .texit c rd rs1 rs2 => Sys2Proof.Machine.execTexit c rd rs1 rs2 s
  | .tsetpri c rd rs1 rs2 => Sys2Proof.Machine.execTsetpri c rd rs1 rs2 s
  | .tevent c rd rs1 rs2 => Sys2Proof.Machine.execTevent c rd rs1 rs2 s
  | .fadmit c rd rs1 rs2 => Sys2Proof.Machine.execFadmit c rd rs1 rs2 s
  | .frelease c rd rs1 rs2 => Sys2Proof.Machine.execFrelease c rd rs1 rs2 s
  | .fvoid c rd rs1 rs2 => Sys2Proof.Machine.execFvoid c rd rs1 rs2 s
  | .topen c rd rs1 rs2 => Sys2Proof.Machine.execTopen c rd rs1 rs2 s
  | .tcommit c rd rs1 rs2 => Sys2Proof.Machine.execTcommit c rd rs1 rs2 s
  | .tsquash c rd rs1 rs2 => Sys2Proof.Machine.execTsquash c rd rs1 rs2 s
  | .tfree c rd rs1 rs2 => Sys2Proof.Machine.execTfree c rd rs1 rs2 s
  | .tstate c rd rs1 rs2 => Sys2Proof.Machine.execTstate c rd rs1 rs2 s
  | .tattach c rd rs1 rs2 => Sys2Proof.Machine.execTattach c rd rs1 rs2 s
  | .ctxsv c rd rs1 rs2 => Sys2Proof.Machine.execCtxsv c rd rs1 rs2 s
  | .ctxld c rd rs1 rs2 => Sys2Proof.Machine.execCtxld c rd rs1 rs2 s
  | .commit t => Sys2Proof.Machine.execCommit t s
  | .squash t => Sys2Proof.Machine.execSquash t s
  | .free t => Sys2Proof.Machine.execFree t s
  | .settleIntervalEnd t tok => Sys2Proof.Machine.execSettleIntervalEnd t tok s
  | .flowHeadAdvance t flow => Sys2Proof.Machine.execFlowHeadAdvance t flow s
  | .flowStall t flow => Sys2Proof.Machine.execFlowStall t flow s
  | .flowEnable t v => Sys2Proof.Machine.execFlowEnable t v s
  | .idleGate t => Sys2Proof.Machine.execIdleGate t s
  | .doorbellProduce init q n => Sys2Proof.Machine.execDoorbellProduce init q n s
  | .entryAdmission q => Sys2Proof.Machine.execEntryAdmission q s
  | .doorbellConsume init q n => Sys2Proof.Machine.execDoorbellConsume init q n s
  | .qmgrTake init q => Sys2Proof.Machine.execQmgrTake init q s
  | .hardwarePush init q payload tag tok stamp => Sys2Proof.Machine.execHardwarePush init q payload tag tok stamp s
  | .hardwareConsume n slot => Sys2Proof.Machine.execHardwareConsume n slot s
  | .queueCfgWrite w v => Sys2Proof.Machine.execQueueCfgWrite w v s
  | .queueDisable q => Sys2Proof.Machine.execQueueDisable q s
  | .start k ch => Sys2Proof.Machine.execStart k ch s
  | .stop k ch => Sys2Proof.Machine.execStop k ch s
  | .retry k ch => Sys2Proof.Machine.execRetry k ch s
  | .skip k ch => Sys2Proof.Machine.execSkip k ch s
  | .shadowArm k ch => Sys2Proof.Machine.execShadowArm k ch s
  | .shadowWrite k ch hi v => Sys2Proof.Machine.execShadowWrite k ch hi v s
  | .descriptorFetched k ch => Sys2Proof.Machine.execDescriptorFetched k ch s
  | .pacingTest k ch => Sys2Proof.Machine.execPacingTest k ch s
  | .descriptorEnd k ch => Sys2Proof.Machine.execDescriptorEnd k ch s
  | .drainPush k ch => Sys2Proof.Machine.execDrainPush k ch s
  | .transferFailure k ch => Sys2Proof.Machine.execTransferFailure k ch s
  | .rd p => Sys2Proof.Machine.execRd p s
  | .wr p => Sys2Proof.Machine.execWr p s
  | .wrp p => Sys2Proof.Machine.execWrp p s
  | .atom p => Sys2Proof.Machine.execAtom p s
  | .rdrsp p => Sys2Proof.Machine.execRdrsp p s
  | .wrrsp p => Sys2Proof.Machine.execWrrsp p s
  | .evt p => Sys2Proof.Machine.execEvt p s
  | .emark p => Sys2Proof.Machine.execEmark p s
  | .tokn p => Sys2Proof.Machine.execTokn p s
  | .freeNotice p => Sys2Proof.Machine.execFreeNotice p s
  | .tokack p => Sys2Proof.Machine.execTokack p s
  | .dlvd p => Sys2Proof.Machine.execDlvd p s
  | .badOp p node => Sys2Proof.Machine.execBadOp p node s
  | .requestTimeout init txn => Sys2Proof.Machine.execRequestTimeout init txn s
  | .close node v => Sys2Proof.Machine.execClose node v s
  | .clrCnt node => Sys2Proof.Machine.execClrCnt node s
  | .drained node => Sys2Proof.Machine.execDrained node s
  | .patrolRead e => Sys2Proof.Machine.execPatrolRead e s
  | .clr n v => Sys2Proof.Machine.execClr n v s
  | .sentinelTrip b => Sys2Proof.Machine.execSentinelTrip b s
  | .retentionScanEnd b => Sys2Proof.Machine.execRetentionScanEnd b s
  | .frameReceive p frame fcsOk => Sys2Proof.Machine.execFrameReceive p frame fcsOk s
  | .txTailWrite p v => Sys2Proof.Machine.execTxTailWrite p v s
  | .txDescriptor p => Sys2Proof.Machine.execTxDescriptor p s
  | .launch p => Sys2Proof.Machine.execLaunch p s
  | .frameTransmitEnd p => Sys2Proof.Machine.execFrameTransmitEnd p s
  | .jesdMultiblock j crcOk samples => Sys2Proof.Machine.execJesdMultiblock j crcOk samples s
  | .jesdRxEntry j => Sys2Proof.Machine.execJesdRxEntry j s
  | .jesdTxStart j => Sys2Proof.Machine.execJesdTxStart j s
  | .underrun j ch => Sys2Proof.Machine.execUnderrun j ch s
  | .cdrAcquisition l ctle => Sys2Proof.Machine.execCdrAcquisition l ctle s
  | .dfeAdaptStep l up down => Sys2Proof.Machine.execDfeAdaptStep l up down s
  | .bitslip l => Sys2Proof.Machine.execBitslip l s
  | .slipDone l => Sys2Proof.Machine.execSlipDone l s
  | .inject l => Sys2Proof.Machine.execInject l s
  | .cntClr l => Sys2Proof.Machine.execCntClr l s
  | .lossOfSignal l => Sys2Proof.Machine.execLossOfSignal l s
  | .signalRecovered l => Sys2Proof.Machine.execSignalRecovered l s
  | .shortDetect l => Sys2Proof.Machine.execShortDetect l s
  | .shortRetry l => Sys2Proof.Machine.execShortRetry l s
  | .polarityToggle l => Sys2Proof.Machine.execPolarityToggle l s
  | .laneMap p map => Sys2Proof.Machine.execLaneMap p map s
  | .linkLost p => Sys2Proof.Machine.execLinkLost p s
  | .bar0Read off be => Sys2Proof.Machine.execBar0Read off be s
  | .bar0Write off data be => Sys2Proof.Machine.execBar0Write off data be s
  | .doorbellWrite off data => Sys2Proof.Machine.execDoorbellWrite off data s
  | .doorbellTakeRead off => Sys2Proof.Machine.execDoorbellTakeRead off s
  | .bar4Read off => Sys2Proof.Machine.execBar4Read off s
  | .msixNotification v => Sys2Proof.Machine.execMsixNotification v s
  | .msixPendingSend v => Sys2Proof.Machine.execMsixPendingSend v s
  | .linkDown => Sys2Proof.Machine.execLinkDown s
  | .functionLevelReset => Sys2Proof.Machine.execFunctionLevelReset s
  | .cxlPerst => Sys2Proof.Machine.execCxlPerst s
  | .hdmRead off => Sys2Proof.Machine.execHdmRead off s
  | .hdmWrite off data => Sys2Proof.Machine.execHdmWrite off data s
  | .backInvalidateResponse line data => Sys2Proof.Machine.execBackInvalidateResponse line data s
  | .hostSnoop line inv => Sys2Proof.Machine.execHostSnoop line inv s
  | .dcFlush => Sys2Proof.Machine.execDcFlush s
  | .dcFlushDone => Sys2Proof.Machine.execDcFlushDone s
  | .ideFail => Sys2Proof.Machine.execIdeFail s
  | .target n v => Sys2Proof.Machine.execTarget n v s
  | .clockStepDone n => Sys2Proof.Machine.execClockStepDone n s
  | .vdone r => Sys2Proof.Machine.execVdone r s
  | .voltageSettleEnd n => Sys2Proof.Machine.execVoltageSettleEnd n s
  | .avsFail r => Sys2Proof.Machine.execAvsFail r s
  | .powerGood r => Sys2Proof.Machine.execPowerGood r s
  | .pgFail r => Sys2Proof.Machine.execPgFail r s
  | .druseOff d => Sys2Proof.Machine.execDruseOff d s
  | .drusePowerSwitchOpen d => Sys2Proof.Machine.execDrusePowerSwitchOpen d s
  | .drainForced node => Sys2Proof.Machine.execDrainForced node s
  | .druseOn d => Sys2Proof.Machine.execDruseOn d s
  | .drusePowerSettle d => Sys2Proof.Machine.execDrusePowerSettle d s
  | .sleepRequestStandby => Sys2Proof.Machine.execSleepRequestStandby s
  | .sleepRequestDormant => Sys2Proof.Machine.execSleepRequestDormant s
  | .commitCycle => Sys2Proof.Machine.execCommitCycle s
  | .dormantLinkWaitEnd => Sys2Proof.Machine.execDormantLinkWaitEnd s
  | .wakeN => Sys2Proof.Machine.execWakeN s
  | .i2cAddressMatch a => Sys2Proof.Machine.execI2cAddressMatch a s
  | .twinTokenChange peerLow => Sys2Proof.Machine.execTwinTokenChange peerLow s
  | .reloadDone img readOk => Sys2Proof.Machine.execReloadDone img readOk s
  | .i2cWrite a v => Sys2Proof.Machine.execI2cWrite a v s
  | .i2cRead a => Sys2Proof.Machine.execI2cRead a s
  | .sensorConversion k t ok => Sys2Proof.Machine.execSensorConversion k t ok s
  | .run v => Sys2Proof.Machine.execRun v s
  | .itemMeasured e code lock => Sys2Proof.Machine.execItemMeasured e code lock s
  | .tapStep => Sys2Proof.Machine.execTapStep s
  | .corridorTick => Sys2Proof.Machine.execCorridorTick s
  | .corrTblData v => Sys2Proof.Machine.execCorrTblData v s
  | .jobStart n => Sys2Proof.Machine.execJobStart n s
  | .abortPoint n e final => Sys2Proof.Machine.execAbortPoint n e final s
  | .headerWritten n e => Sys2Proof.Machine.execHeaderWritten n e s
  | .flush n => Sys2Proof.Machine.execFlush n s
  | .engineParityError n e => Sys2Proof.Machine.execEngineParityError n e s
  | .faultReport => Sys2Proof.Machine.execFaultReport s
  | .dieRailOff n => Sys2Proof.Machine.execDieRailOff n s
  | .frRdWrite v => Sys2Proof.Machine.execFrRdWrite v s
  | .coreHang c => Sys2Proof.Machine.execCoreHang c s
  | .druseRestartRelease d => Sys2Proof.Machine.execDruseRestartRelease d s
  | .holdCore n => Sys2Proof.Machine.execHoldCore n s
  | .releaseCore n => Sys2Proof.Machine.execReleaseCore n s
  | .druseRestart n => Sys2Proof.Machine.execDruseRestart n s
  | .releaseDruse n => Sys2Proof.Machine.execReleaseDruse n s
  | .stratumReset n => Sys2Proof.Machine.execStratumReset n s
  | .ksDisagree => Sys2Proof.Machine.execKsDisagree s
  | .keystonePulse => Sys2Proof.Machine.execKeystonePulse s
  | .dieSentinelSilence n => Sys2Proof.Machine.execDieSentinelSilence n s
  | .ksSilent => Sys2Proof.Machine.execKsSilent s
  | .pinLimit pin => Sys2Proof.Machine.execPinLimit pin s
  | .pinParkEnd pin => Sys2Proof.Machine.execPinParkEnd pin s
  | .clockLost k => Sys2Proof.Machine.execClockLost k s
  | .droop e => Sys2Proof.Machine.execDroop e s
  | .droopClockRestore e => Sys2Proof.Machine.execDroopClockRestore e s
  | .heartbeatSend => Sys2Proof.Machine.execHeartbeatSend s
  | .heartbeat h => Sys2Proof.Machine.execHeartbeat h s
  | .heartbeatLoss => Sys2Proof.Machine.execHeartbeatLoss s
  | .abdicateFrame h => Sys2Proof.Machine.execAbdicateFrame h s
  | .stateFrame h => Sys2Proof.Machine.execStateFrame h s
  | .stateFrameSend => Sys2Proof.Machine.execStateFrameSend s
  | .claim => Sys2Proof.Machine.execClaim s
  | .abdicate => Sys2Proof.Machine.execAbdicate s
  | .claimSample => Sys2Proof.Machine.execClaimSample s
  | .startLeadClaim => Sys2Proof.Machine.execStartLeadClaim s
  | .clrAll => Sys2Proof.Machine.execClrAll s
  | .perfCntLo init n => Sys2Proof.Machine.execPerfCntLo init n s
  | .go => Sys2Proof.Machine.execGo s
  | .dumpPeriodExpiry => Sys2Proof.Machine.execDumpPeriodExpiry s
  | .cdrLockLoss l => Sys2Proof.Machine.execCdrLockLoss l s
  | .portLinkUp p => Sys2Proof.Machine.execPortLinkUp p s
  | .prbsCheckerLock l => Sys2Proof.Machine.execPrbsCheckerLock l s
  | .prbsCheckerUnlock l => Sys2Proof.Machine.execPrbsCheckerUnlock l s
  | .cxlLinkUp speed width flit256 => Sys2Proof.Machine.execCxlLinkUp speed width flit256 s
  | .hostConfigWrite w v => Sys2Proof.Machine.execHostConfigWrite w v s
  | .hostMemoryResponse p => Sys2Proof.Machine.execHostMemoryResponse p s
  | .jtagDebugAccess resume write a len data => Sys2Proof.Machine.execJtagDebugAccess resume write a len data s
  | .clockReturn k => Sys2Proof.Machine.execClockReturn k s

end Sys2Proof.Machine
end

