-- ==== Sys2Proof/Machine/Fetch.lean ====
section
/-!
DEFINITION. The instruction that a signal core finds at its pc (R85 to R88): which command the word is, and what the words
that are no instruction do. A run of the model takes commands from outside (log entry 102); this says which command the core's
own program gives.
-/

namespace Sys2Proof.Machine

/-- The word in a core's instruction memory at an offset, little-endian (R85). -/
def State.insnWord (s : State) (c : Nat) (pc : BitVec 16) : Word := BitVec.ofNat 32 (ofBytes (s.bytesAt (insnAddr c pc) 4))

/-- A word that is no instruction traps: ILLEGAL for a reserved opcode or selector (R87, R110), UNDEF_FUSED for a function code
that a fused unit does not allocate (R140, R143). -/
def State.noInsn (s : State) (c : Nat) (t : Option Trap) : State := s.runInsn c (useG [] []) .skip t none false false s

/-- A core runs a word. -/
def State.runWord (s : State) (c : BitVec 8) (w : Word) : Host.Outcome State Fault Refusal :=
  match Sys2Proof.decodeCore c w with
  | .insn i => exec i s
  | .illegal => .next (s.noInsn c.toNat (some trapIllegal))
  | .noFunction unit => .next (s.noInsn c.toNat (s.fuBad c.toNat unit false true))

/-- A core runs the word at its pc, or in run-ahead at the episode's pc (R95). -/
def State.runCore (s : State) (c : BitVec 8) : Host.Outcome State Fault Refusal :=
  s.runWord c (s.insnWord c.toNat (match (s.core c.toNat).ra with
    | some r => r.pc
    | none => (s.core c.toNat).pc))

end Sys2Proof.Machine
end

