-- ==== Sys2Proof/Safety.lean ====
section
/-!
DEFINITION. The terms in which statements speak of a safe run: the canonical form of the sparse maps, when a core performs an
instruction, and what a step leaves alone.
-/

namespace Sys2Proof.Machine

/-! ## Canonical form -/

/-- A list of numbers, strictly rising from `lo` on. -/
def setSorted : Nat → List Nat → Bool
  | _, [] => true
  | lo, k :: m => decide (lo ≤ k) && setSorted (k + 1) m

/-- Registers, device memory, failing parities and host memory are held in their one form: keys strictly rising, and no
register listed with its reset value. -/
def State.canon (s : State) : Bool :=
  mapWf s.regs && mapNoDefault regReset s.regs && mapWf s.mem && setSorted 0 s.badPar && mapWf s.hostMem

/-! ## A core that performs an instruction -/

/-- The core runs, has nothing older unanswered or deferred, and the instruction that uses the registers of `u` finds them ready
and clean: the instruction then acts at once. -/
def State.ready (s : State) (c : Nat) (u : Use) : Prop :=
  s.coreRuns c = true ∧ (s.core c).ra = none ∧ (s.core c).deferred = [] ∧ s.fetchBad c = false ∧
  (s.core c).notReady u = false ∧ (s.core c).poisoned u = none ∧ s.awaits c = false

/-! ## What a step leaves alone -/

/-- Only core `c` and the counters differ. -/
def onlyCore (s t : State) (c : Nat) : Prop :=
  t = { s with
    cores := t.cores
    perf := t.perf } ∧
  ∀ d, d ≠ c → t.core d = s.core d

/-- Only the registers at the listed addresses differ. -/
def onlyRegs (s t : State) (l : List Nat) : Prop :=
  t = { s with regs := t.regs } ∧ ∀ a, a ∉ l → t.reg a = s.reg a

/-- A g register has been written and the instruction has retired: `rd` holds `v` but for g0, every other g register and every
other part of the core but scoreboard and poison of `rd` is as before, and the pc has moved past the instruction. -/
def gWritten (s t : State) (c rd : Nat) (v : DWord) : Prop :=
  (∀ r, (t.core c).gr r = if r = rd ∧ rd ≠ 0 then v else (s.core c).gr r) ∧
  (t.core c).pc = (s.core c).pc + 4 ∧
  t.core c = { s.core c with
    g := (t.core c).g
    pois := (t.core c).pois
    pend := (t.core c).pend
    pc := (t.core c).pc
    done := (t.core c).done } ∧
  onlyCore s t c

/-- As `gWritten`, for a sieve instruction, which empties the prefetch buffer as it retires (R97). -/
def gServed (s t : State) (c rd : Nat) (v : DWord) : Prop :=
  (∀ r, (t.core c).gr r = if r = rd ∧ rd ≠ 0 then v else (s.core c).gr r) ∧
  (t.core c).pc = (s.core c).pc + 4 ∧
  t.core c = { s.core c with
    g := (t.core c).g
    pois := (t.core c).pois
    pend := (t.core c).pend
    pc := (t.core c).pc
    pf := []
    done := (t.core c).done } ∧
  onlyCore s t c

/-- An instruction that may change more than its core has written `v` to g register `rd` and retired: g0 discards the value, every
other g register, the control registers, the vector registers and masks are as before, and no other core changes. -/
def gTaken (s t : State) (c rd : Nat) (v : DWord) : Prop :=
  (∀ r, (t.core c).gr r = if r = rd ∧ rd ≠ 0 then v else (s.core c).gr r) ∧
  (t.core c).pc = (s.core c).pc + 4 ∧ (t.core c).cr = (s.core c).cr ∧ (t.core c).v = (s.core c).v ∧
  (t.core c).m = (s.core c).m ∧ ∀ d, d ≠ c → t.core d = s.core d

/-- A core has sent one request (R88, R100, R276): it is outstanding under the initiator's lowest free transaction ID, and one packet
is new in flight: with a stop at the address and a valid route to it the request itself, with its operation, address, length and
data, not speculative, and without either the answer NO_TARGET of the core's own NI. -/
def requestSent (s t : State) (c op a n : Nat) (fn : BitVec 3) (data : List Byte) (kind : ReqKind) : Prop :=
  t.outst = s.outst ++ [⟨BitVec.ofNat 12 c, s.freeTxn c, s.now.truncate 24, BitVec.ofNat 4 op, BitVec.ofNat 40 a, n, kind⟩] ∧
  ∃ p, t.flight = s.flight ++ [p] ∧ p.init = BitVec.ofNat 12 c ∧ p.txn = s.freeTxn c ∧ p.src = BitVec.ofNat 8 (nodeDruse (c / 8)) ∧
    (∀ d, nodeOfAddr a = some d → (s.route (nodeDruse (c / 8)) d).getLsbD 0 = true →
      p.op = BitVec.ofNat 4 op ∧ p.dst = BitVec.ofNat 8 d ∧ p.addr = BitVec.ofNat 40 a ∧ p.len = BitVec.ofNat 8 (n - 1) ∧
      p.data = data ∧ p.atomfn = fn ∧ p.spec = false ∧ p.poison = 0) ∧
    ((∀ d, nodeOfAddr a = some d → (s.route (nodeDruse (c / 8)) d).getLsbD 0 = false) →
      p.op = (if op = 1 then 5 else 4) ∧ p.dst = BitVec.ofNat 8 (nodeDruse (c / 8)) ∧ p.resp = 2)

/-- An instruction that sends a request has retired on core `c`: its pc has moved on, its g, vector, mask and control registers are
as before, and nothing but that core, the requests, their packets, what a squash restores, and the counters differs. -/
def sentOnly (s t : State) (c : Nat) : Prop :=
  (t.core c).pc = (s.core c).pc + 4 ∧ (t.core c).g = (s.core c).g ∧ (t.core c).v = (s.core c).v ∧ (t.core c).m = (s.core c).m ∧
  (t.core c).cr = (s.core c).cr ∧ (∀ d, d ≠ c → t.core d = s.core d) ∧
  t = { s with
    cores := t.cores
    perf := t.perf
    snaps := t.snaps
    outst := t.outst
    flight := t.flight }

/-- An address that a scalar access of `n` bytes may use (R89, R105): within 40 bits, aligned, and in task mode not register
space. -/
def eaOk (s : State) (c : Nat) (ea : DWord) (n : Nat) : Prop :=
  ea.toNat < 2 ^ 40 ∧ ea.toNat % n = 0 ∧ ((s.core c).task = true → inRegSpace ea = false)

/-- The 22 notices of one change of a token have been made: each is in flight and outstanding, or waits for a transaction ID of its
sieve (R227, R266). -/
def noticesSent (s t : State) : Prop :=
  s.flight <+: t.flight ∧ s.outst <+: t.outst ∧ t.flight.length + s.outst.length = s.flight.length + t.outst.length ∧
  t.outst.length + t.idWait.length = s.outst.length + s.idWait.length + 22

/-- Only the cores, the sieve of stratum `u` and the counters differ. -/
def onlySieve (s t : State) (u : Nat) : Prop :=
  t = { s with
    cores := t.cores
    sieves := t.sieves
    perf := t.perf } ∧
  ∀ w, w ≠ u → t.sieve w = s.sieve w

/-- An instruction has retired to a pc and changed nothing else of its core. -/
def retiredTo (s t : State) (c : Nat) (pc : BitVec 16) : Prop :=
  t.core c = { s.core c with
    pc := pc
    done := (s.core c).done + 1 } ∧
  onlyCore s t c

/-- A trap with a code, a subcause and an address has been taken from user or kernel code outside a handler (R107): the pc is
TVEC's, TPC holds the restart point, TCAUSE and TADDR say why, TSTAT saves the mode, sets INTRAP and enters kernel mode; no g or
vector register changes. -/
def trapped (s t : State) (c : Nat) (x : Trap) (restart : BitVec 16) : Prop :=
  (t.core c).pc = ((s.core c).crv crTvec).truncate 16 ∧
  (t.core c).crv crTpc = restart.zeroExtend 64 ∧
  (t.core c).crv crTcause = BitVec.ofNat 64 (x.code + x.sub * 256) ∧
  (t.core c).crv crTaddr = BitVec.ofNat 64 x.addr ∧
  (t.core c).crv crTstat = (if (s.core c).task then 6 else 4) ∧
  (t.core c).g = (s.core c).g ∧ (t.core c).v = (s.core c).v ∧ (t.core c).m = (s.core c).m ∧
  onlyCore s t c

/-- A vector instruction has completed on core `c`: VRESUME is 0, the pc has moved on, every other control register but VSAT is
as before, and only that core and the counters differ. -/
def vDone (s t : State) (c : Nat) : Prop :=
  (t.core c).crv crVresume = 0 ∧ (t.core c).pc = (s.core c).pc + 4 ∧
  (∀ n, n ≠ crVresume → n ≠ crVsat → (t.core c).crv n = (s.core c).crv n) ∧ onlyCore s t c

/-- VSAT is sticky: it is 1 where a result was clamped, and as before elsewhere (R124). -/
def vSat (s t : State) (c : Nat) (clamped : Bool) : Prop :=
  (t.core c).crv crVsat = if clamped = true ∧ (s.core c).crv crVsat = 0 then 1 else (s.core c).crv crVsat

/-- The elements `is` of width `ew` of the group at `vd` hold the values of `f`, every other element, every register without one
of them, the g registers and the masks are as before, and VSAT says whether a value was clamped. -/
def vResult (s t : State) (c vd ew : Nat) (is : List Nat) (f : Nat → Nat × Bool) : Prop :=
  (∀ i ∈ is, (t.core c).elem vd ew i = (f i).1 % 2 ^ ew) ∧
  (∀ i, i ∉ is → (t.core c).elem vd ew i = (s.core c).elem vd ew i) ∧
  (∀ r, (∀ i ∈ is, r ≠ vd + ew * i / 4096) → (t.core c).vr r = (s.core c).vr r) ∧
  vSat s t c (is.any (fun i => (f i).2)) ∧ (t.core c).g = (s.core c).g ∧ (t.core c).m = (s.core c).m

/-- The bits `is` of mask register `md` hold the values of `f`; the other bits, the other masks and the registers are as
before. -/
def mResult (s t : State) (c md : Nat) (is : List Nat) (f : Nat → Bool) : Prop :=
  (∀ i ∈ is, i < 512 → ((t.core c).mr md).getLsbD i = f i) ∧
  (∀ i, i ∉ is → ((t.core c).mr md).getLsbD i = ((s.core c).mr md).getLsbD i) ∧
  (∀ r, r ≠ md → (t.core c).mr r = (s.core c).mr r) ∧
  vSat s t c false ∧ (t.core c).g = (s.core c).g ∧ (t.core c).v = (s.core c).v

/-- A fused-unit instruction has retired on core `c`: the pc has moved on, and the g registers, the vector registers, the masks and
all of the machine but that core and the counters are as before. -/
def fuDone (s t : State) (c : Nat) : Prop :=
  (t.core c).pc = (s.core c).pc + 4 ∧ (t.core c).g = (s.core c).g ∧ (t.core c).v = (s.core c).v ∧ (t.core c).m = (s.core c).m ∧
  (t.core c).crv crVsat = (s.core c).crv crVsat ∧ onlyCore s t c

/-- What R123 asks of the modes of a vector instruction that is not a memory access: a legal VMODE, no mask named without MEN,
VRESUME 0. -/
def Core.vLegal (k : Core) (men : Bool) (m : BitVec 3) : Prop :=
  k.villOn = false ∧ (men = true ∨ m = 0) ∧ k.vresume = 0

/-- A register field names a group of `n` registers. -/
def aligned (r : BitVec 5) (n : Nat) : Prop := r.toNat % n = 0

/-- Two groups share no register. -/
def apart (g n h l : Nat) : Prop := g + n ≤ h ∨ h + l ≤ g

/-! ## The tables of the scalar instructions (R88) -/

/-- A constructor of a REG-format instruction. -/
abbrev RegCtor := BitVec 8 → BitVec 5 → BitVec 5 → BitVec 5 → Instr

/-- The integer operations of two registers, each with its value (R88). -/
def intOps : List (RegCtor × (DWord → DWord → DWord)) :=
  [(Instr.add, fun (a b : DWord) => a + b),
   (Instr.sub, fun (a b : DWord) => a - b),
   (Instr.and, fun (a b : DWord) => a &&& b),
   (Instr.or, fun (a b : DWord) => a ||| b),
   (Instr.xor, fun (a b : DWord) => a ^^^ b),
   (Instr.sll, fun (a b : DWord) => a <<< (b.toNat % 64)),
   (Instr.srl, fun (a b : DWord) => a >>> (b.toNat % 64)),
   (Instr.sra, fun (a b : DWord) => a.sshiftRight (b.toNat % 64)),
   (Instr.slt, fun (a b : DWord) => if a.toInt < b.toInt then 1 else 0),
   (Instr.sltu, fun (a b : DWord) => if a.toNat < b.toNat then 1 else 0),
   (Instr.min, fun (a b : DWord) => if a.toInt < b.toInt then a else b),
   (Instr.max, fun (a b : DWord) => if a.toInt < b.toInt then b else a),
   (Instr.minu, fun (a b : DWord) => if a.toNat < b.toNat then a else b),
   (Instr.maxu, fun (a b : DWord) => if a.toNat < b.toNat then b else a),
   (Instr.mul, fun (a b : DWord) => a * b)] ++
  [(Instr.mulh, fun (a b : DWord) => BitVec.ofInt 64 (a.toInt * b.toInt / 2 ^ 64)),
   (Instr.mulhu, fun (a b : DWord) => BitVec.ofNat 64 (a.toNat * b.toNat / 2 ^ 64)),
   (Instr.addw, fun (a b : DWord) => wForm (a + b)),
   (Instr.subw, fun (a b : DWord) => wForm (a - b)),
   (Instr.andw, fun (a b : DWord) => wForm (a &&& b)),
   (Instr.orw, fun (a b : DWord) => wForm (a ||| b)),
   (Instr.xorw, fun (a b : DWord) => wForm (a ^^^ b)),
   (Instr.sllw, fun (a b : DWord) => wForm (a <<< (b.toNat % 32))),
   (Instr.srlw, fun (a b : DWord) => ((a.truncate 32 : Word) >>> (b.toNat % 32)).signExtend 64),
   (Instr.sraw, fun (a b : DWord) => ((a.truncate 32 : Word).sshiftRight (b.toNat % 32)).signExtend 64),
   (Instr.mulw, fun (a b : DWord) => wForm (a * b))]

/-- The integer operations of one register (R88). -/
def unaryOps : List (RegCtor × (DWord → DWord)) :=
  [(Instr.clz, fun (a : DWord) => BitVec.ofNat 64 (clz64 a)),
   (Instr.popc, fun (a : DWord) => BitVec.ofNat 64 (popc64 a)),
   (Instr.abs, fun (a : DWord) => BitVec.ofInt 64 a.toInt.natAbs)]

/-- The operations with a 16-bit immediate (R88). -/
def immOps : List ((BitVec 8 → BitVec 5 → BitVec 5 → BitVec 16 → Instr) × (DWord → BitVec 16 → DWord)) :=
  [(Instr.addi, fun (a : DWord) (i : BitVec 16) => a + i.signExtend 64),
   (Instr.andi, fun (a : DWord) (i : BitVec 16) => a &&& i.zeroExtend 64),
   (Instr.ori, fun (a : DWord) (i : BitVec 16) => a ||| i.zeroExtend 64),
   (Instr.xori, fun (a : DWord) (i : BitVec 16) => a ^^^ i.zeroExtend 64),
   (Instr.slti, fun (a : DWord) (i : BitVec 16) => if a.toInt < i.toInt then 1 else 0),
   (Instr.sltiu, fun (a : DWord) (i : BitVec 16) => if a.toNat < (i.signExtend 64 : DWord).toNat then 1 else 0),
   (Instr.addiw, fun (a : DWord) (i : BitVec 16) => wForm (a + i.signExtend 64))]

/-- The shifts by an immediate (R88). -/
def shiftImmOps : List ((BitVec 8 → BitVec 5 → BitVec 5 → BitVec 8 → BitVec 6 → Instr) × (DWord → BitVec 6 → DWord)) :=
  [(Instr.slli, fun (a : DWord) (h : BitVec 6) => a <<< h.toNat),
   (Instr.srli, fun (a : DWord) (h : BitVec 6) => a >>> h.toNat),
   (Instr.srai, fun (a : DWord) (h : BitVec 6) => a.sshiftRight h.toNat)]

/-- A constructor of a MEM-format instruction. -/
abbrev MemCtor := BitVec 8 → BitVec 5 → BitVec 5 → BitVec 16 → Instr

/-- The loads: bytes, and whether the value is sign-extended (R88). -/
def loadOps : List (MemCtor × (Nat × Bool)) :=
  [(Instr.lb, (1, true)),
   (Instr.lbu, (1, false)),
   (Instr.lh, (2, true)),
   (Instr.lhu, (2, false)),
   (Instr.lw, (4, true)),
   (Instr.lwu, (4, false)),
   (Instr.ld, (8, false))]

/-- The stores and their bytes (R88). -/
def storeOps : List (MemCtor × Nat) := [(Instr.sb, 1),
   (Instr.sh, 2),
   (Instr.sw, 4),
   (Instr.sd, 8)]

/-- The atomics and what each writes for an old word and an operand (R88). -/
def atomOps : List (RegCtor × (DWord → DWord → DWord)) :=
  [(Instr.swapd, fun (_ v : DWord) => v),
   (Instr.addd, fun (o v : DWord) => o + v),
   (Instr.andd, fun (o v : DWord) => o &&& v),
   (Instr.ord, fun (o v : DWord) => o ||| v),
   (Instr.maxd, fun (o v : DWord) => if o.toInt < v.toInt then v else o)]

/-- The conditional branches and their conditions (R88). -/
def branchOps : List ((BitVec 8 → BitVec 5 → BitVec 5 → BitVec 16 → Instr) × (DWord → DWord → Bool)) :=
  [(Instr.beq, fun (a b : DWord) => a == b),
   (Instr.bne, fun (a b : DWord) => a != b),
   (Instr.blt, fun (a b : DWord) => decide (a.toInt < b.toInt)),
   (Instr.bge, fun (a b : DWord) => decide (b.toInt ≤ a.toInt)),
   (Instr.bltu, fun (a b : DWord) => decide (a.toNat < b.toNat)),
   (Instr.bgeu, fun (a b : DWord) => decide (b.toNat ≤ a.toNat))]

/-! ## The tables of the vector instructions (R129 to R131) -/

/-- A constructor of a VV or VS instruction. -/
abbrev VvCtor := BitVec 8 → Bool → BitVec 5 → BitVec 5 → BitVec 5 → Bool → BitVec 3 → Instr

/-- A constructor of a VX instruction. -/
abbrev VxCtor := BitVec 8 → BitVec 5 → BitVec 5 → BitVec 5 → Bool → BitVec 3 → Instr

/-- A constructor of a VI instruction. -/
abbrev ViCtor := BitVec 8 → BitVec 5 → BitVec 5 → BitVec 8 → Bool → BitVec 3 → Instr

/-- Every ETYPE that is not reserved. -/
def tyAny (e : Nat) : Bool := e ≤ 8
/-- Real fixed-point and float types. -/
def tyRF (e : Nat) : Bool := tyR e || tyF e
/-- Real and complex fixed-point types. -/
def tyRC (e : Nat) : Bool := tyR e || tyC e
/-- The type C16. -/
def tyC16 (e : Nat) : Bool := e = 5

/-- The two-operand instructions: their types, and the value for destination, vs1 and vs2 elements (R125, R129). -/
def vvOps : List (VvCtor × ((Nat → Bool) × (VMode → Nat → Nat → Nat → Nat × Bool))) :=
  [(Instr.vadd, (tyAny, fun x _ a b => elAdd x a b)),
   (Instr.vsub, (tyAny, fun x _ a b => elSub x a b)),
   (Instr.vmin, (tyRF, fun x _ a b => elMinMax false x a b)),
   (Instr.vmax, (tyRF, fun x _ a b => elMinMax true x a b)),
   (Instr.vand, (tyAny, fun _ _ a b => (a &&& b, false))),
   (Instr.vor, (tyAny, fun _ _ a b => (a ||| b, false))),
   (Instr.vxor, (tyAny, fun _ _ a b => (a ^^^ b, false))),
   (Instr.vmul, (tyAny, fun x _ a b => elMul false x a b)),
   (Instr.vmulc, (tyC, fun x _ a b => elMul true x a b)),
   (Instr.vmac, (tyAny, fun x d a b => elMac false false x d a b)),
   (Instr.vmacc, (tyC, fun x d a b => elMac true false x d a b)),
   (Instr.vmsub, (tyAny, fun x d a b => elMac false true x d a b))] ++
  [(Instr.vsll, (tyRC, fun x _ a b => elShift 0 x (b % 64) a)),
   (Instr.vsrl, (tyRC, fun x _ a b => elShift 1 x (b % 64) a)),
   (Instr.vsra, (tyRC, fun x _ a b => elShift 2 x (b % 64) a)),
   (Instr.vsrar, (tyRC, fun x _ a b => elShift 3 x (b % 64) a))]

/-- The widening instructions (R125, R129). -/
def vwOps : List (VvCtor × ((Nat → Bool) × (VMode → Nat → Nat → Nat → Nat × Bool))) :=
  [(Instr.vwadd, (tyNarrow, fun x _ a b => elWadd x a b)),
   (Instr.vwmul, (tyNarrow, fun x _ a b => elWmac false x 0 a b)),
   (Instr.vwmulc, (tyC16, fun x _ a b => elWmac true x 0 a b)),
   (Instr.vwmac, (tyNarrow, fun x d a b => elWmac false x d a b)),
   (Instr.vwmacc, (tyC16, fun x d a b => elWmac true x d a b))]

/-- The one-operand instructions (R129). -/
def vuOps : List (VvCtor × ((Nat → Bool) × (VMode → Nat → Nat × Bool))) :=
  [(Instr.vabs, (tyRF, elAbs)),
   (Instr.vneg, (tyAny, elNeg)),
   (Instr.vconj, (tyC, elConj)),
   (Instr.vpow, (tyC16, elPow))]

/-- The instructions with an immediate, below 64 for a shift (R130). -/
def viOps : List (ViCtor × (Bool × (VMode → BitVec 8 → Nat → Nat × Bool))) :=
  [(Instr.vaddi, (false, fun x i a => perComp x.e (fun y => fin x.sat (y + i.toInt) (cwOf x.e) false) a)),
   (Instr.vslli, (true, fun x i a => elShift 0 x i.toNat a)),
   (Instr.vsrli, (true, fun x i a => elShift 1 x i.toNat a)),
   (Instr.vsrai, (true, fun x i a => elShift 2 x i.toNat a)),
   (Instr.vsrari, (true, fun x i a => elShift 3 x i.toNat a))]

/-- The comparisons (R131). -/
def vcOps : List (VxCtor × ((Nat → Bool) × (VMode → Nat → Nat → Bool))) :=
  [(Instr.vcmpeq, (tyAny, elEq)),
   (Instr.vcmplt, (tyRF, elLt)),
   (Instr.vcmple, (tyRF, fun x a b => elLt x a b || elEq x a b))]

/-- The logical instructions of masks (R131). -/
def vmOps : List (VxCtor × (Bool → Bool → Bool)) :=
  [(Instr.vmand, fun a b => a && b),
   (Instr.vmor, fun a b => a || b),
   (Instr.vmxor, fun a b => a != b),
   (Instr.vmandn, fun a b => a && !b)]

/-- The reductions (R131). -/
def vrOps : List (VxCtor × ((Nat → Bool) × (VMode → Nat → List Nat → Nat × Bool))) :=
  [(Instr.vredsum, (tyAny, elRedSum)),
   (Instr.vredmax, (tyRF, elRedMinMax true)),
   (Instr.vredmin, (tyRF, elRedMinMax false))]

/-! ## The management commands -/

/-- Each management command with its opcode and its effect (R362, R364). -/
def mgmtCmds : List ((Bool → Instr) × Nat × (State → Bool → List Byte → Verdict)) :=
  [(Instr.cellActivate, 0x01, fun (s : State) (fw : Bool) (l : List Byte) => s.cellMove fw true l [0] 1),
   (Instr.cellDeactivate, 0x02, fun (s : State) (fw : Bool) (l : List Byte) => s.cellMove fw true l [1, 2] 3),
   (Instr.cellModify, 0x03, State.cellModify),
   (Instr.cellReady, 0x04, fun (s : State) (fw : Bool) (l : List Byte) => s.cellMove fw false l [1] 2),
   (Instr.cellDrained, 0x05, fun (s : State) (fw : Bool) (l : List Byte) => s.cellMove fw false l [3] 0),
   (Instr.mcellParam, 0x10, State.mcellParam), (Instr.mcellAnchor, 0x11, State.mcellAnchor),
   (Instr.trainRegister, 0x20, State.trainRegister), (Instr.trainRelease, 0x21, State.trainRelease),
   (Instr.trainModem, 0x22, State.trainModem), (Instr.trackVertices, 0x30, State.trackVertices),
   (Instr.trackDir, 0x31, State.trackDir), (Instr.rpSet, 0x32, State.rpSet)]

/-- The four moves of a cell: command, opcode, whether firmware sends it, states it may leave, state it enters (R364). -/
def cellMoves : List ((Bool → Instr) × Nat × Bool × List Nat × Nat) :=
  [(Instr.cellActivate, 0x01, false, [0], 1), (Instr.cellDeactivate, 0x02, false, [1, 2], 3),
   (Instr.cellReady, 0x04, true, [1], 2), (Instr.cellDrained, 0x05, true, [3], 0)]

end Sys2Proof.Machine
end

