-- ==== Sys2Proof/Certificates/Slice0/Obligations.lean ====
section
/-!
DEFINITION. The statements for the provers, in the order of the chapters of the specification. A statement of the form
`∃ t, exec i s = .next t ∧ …` says where the command completes and what it then leaves.
-/

open Sys2Proof Sys2Proof.Machine

/-! ## The machine -/

/-- A step takes the command at the front of the queue and answers what it does to the state with the queue's rest; with an empty
queue the timebase clock ticks (the model's choice, log entry 2). -/
def Obligations.StepRunsFrontCommand : Prop :=
  (∀ (c : Instr) (rest : List Instr) (s : State), s.pending = c :: rest → step s = exec c { s with pending := rest }) ∧
  (∀ s : State, s.pending = [] → step s = .next (idleStep s))

/-- Every command whose operands name units that the device has completes; one that names a unit that it does not have stops. -/
def Obligations.CommandsComplete : Prop :=
  ∀ (c : Instr) (s : State),
    (c.wf = true → ∃ t, exec c s = .next t) ∧ (c.wf = false → exec c s = .fault .noSuchUnit)

/-- No command changes the queue of waiting commands. -/
def Obligations.QueueUntouched : Prop :=
  ∀ (c : Instr) (s t : State), exec c s = .next t → t.pending = s.pending

/-- The canonical form of registers and memories holds after reset. -/
def Obligations.ResetCanonical : Prop := State.reset.canon = true

/-- Every step keeps the canonical form of registers, device memory, parities and host memory. -/
def Obligations.StepKeepsCanonical : Prop :=
  ∀ s t : State, s.canon = true → step s = .next t → t.canon = true

/-- The fused rollback count never falls, in any step, and only ROLLBACK_PROGRAMMED raises it (R360). -/
def Obligations.RollbackNeverFalls : Prop :=
  (∀ s t : State, step s = .next t → s.fuse.rollback ≤ t.fuse.rollback) ∧
  (∀ (c : Instr) (s t : State), exec c s = .next t → s.fuse.rollback < t.fuse.rollback → c = .rollbackProgrammed)

/-! ## The signal core (04) -/

/-- REG-format integer operations: rd takes the value of R88, nothing else of the machine changes but the core's pc and the
counters. -/
def Obligations.ScalarBinary : Prop :=
  ∀ e ∈ intOps, ∀ (s : State) (c : BitVec 8) (rd rs1 rs2 : BitVec 5), s.ready c.toNat (useG [rs1.toNat, rs2.toNat] [rd.toNat]) →
    ∃ t, exec (e.1 c rd rs1 rs2) s = .next t ∧
      gWritten s t c.toNat rd.toNat (e.2 ((s.core c.toNat).gr rs1.toNat) ((s.core c.toNat).gr rs2.toNat))

/-- CLZ, POPC, ABS with rs2 = 0 and the IMM-format operations: rd takes the value of R88. -/
def Obligations.ScalarUnaryAndImmediate : Prop :=
  ∀ (s : State) (c : BitVec 8) (rd rs1 : BitVec 5), s.ready c.toNat (useG [rs1.toNat] [rd.toNat]) →
    let a := (s.core c.toNat).gr rs1.toNat
    (∀ e ∈ unaryOps, ∃ t, exec (e.1 c rd rs1 0) s = .next t ∧ gWritten s t c.toNat rd.toNat (e.2 a)) ∧
    (∀ e ∈ immOps, ∀ imm : BitVec 16, ∃ t, exec (e.1 c rd rs1 imm) s = .next t ∧ gWritten s t c.toNat rd.toNat (e.2 a imm)) ∧
    (∀ e ∈ shiftImmOps, ∀ sh : BitVec 6, ∃ t, exec (e.1 c rd rs1 0 sh) s = .next t ∧ gWritten s t c.toNat rd.toNat (e.2 a sh)) ∧
    (rs1 = 0 → ∀ imm : BitVec 16, ∃ t, exec (.lui c rd rs1 imm) s = .next t ∧
      gWritten s t c.toNat rd.toNat (imm.signExtend 64 <<< 16))

/-- A load from the core's own data memory with good parity: rd takes the little-endian bytes at the effective address, extended
as the load says, and memory is as before. A load from elsewhere, with room and nothing prefetched: one read request for exactly
the bytes is sent, rd waits for its answer, the pc moves on. -/
def Obligations.Loads : Prop :=
  (∀ e ∈ loadOps, ∀ (s : State) (c : BitVec 8) (rt base : BitVec 5) (off : BitVec 16),
     s.ready c.toNat (useG [base.toNat] [rt.toNat]) →
     let ea := ((s.core c.toNat).ea base.toNat off).toNat
     ownData c.toNat ea = true → ea % e.2.1 = 0 → s.badIn ea e.2.1 = [] →
     ∃ t, exec (e.1 c rt base off) s = .next t ∧
       (t.core c.toNat).gr rt.toNat = (if rt = 0 then 0 else extendLoad e.2.1 e.2.2 (s.bytesAt ea e.2.1)) ∧
       (∀ r, r ≠ rt.toNat → (t.core c.toNat).gr r = (s.core c.toNat).gr r) ∧
       (t.core c.toNat).pc = (s.core c.toNat).pc + 4 ∧
       t = { s with
         cores := t.cores
         perf := t.perf
         freeCtr := t.freeCtr } ∧
       ∀ d, d ≠ c.toNat → t.core d = s.core d) ∧
  (∀ e ∈ loadOps, ∀ (s : State) (c : BitVec 8) (rt base : BitVec 5) (off : BitVec 16),
     s.ready c.toNat (useG [base.toNat] [rt.toNat]) →
     let ea := (s.core c.toNat).ea base.toNat off
     ownData c.toNat ea.toNat = false → (eaOk s c.toNat ea e.2.1 ∨ (s.counterOpen ea = true ∧ ea.toNat % e.2.1 = 0)) →
     (s.core c.toNat).pf = [] → s.loadsOut c.toNat < 16 →
     s.idsFree c.toNat 1 = true →
     ∃ t, exec (e.1 c rt base off) s = .next t ∧ sentOnly s t c.toNat ∧
       requestSent s t c.toNat 0 ea.toNat e.2.1 0 [] (.load rt.toNat e.2.1 e.2.2) ∧
       (rt ≠ 0 → mapFind? (t.core c.toNat).pend rt.toNat = some (s.freeTxn c.toNat)))

/-- A store to the core's own data memory: its bytes, little-endian, are at the effective address, and every byte elsewhere, every
register and everything else of the machine is as before. A store elsewhere, and an atomic on a memory that takes atomics, with
room: one request with the operand's bytes is sent, and the pc moves on; an atomic's rd waits for the old word. -/
def Obligations.StoresAndAtomics : Prop :=
  (∀ e ∈ storeOps, ∀ (s : State) (c : BitVec 8) (rt base : BitVec 5) (off : BitVec 16),
     s.ready c.toNat (useG [base.toNat, rt.toNat] []) →
     let ea := ((s.core c.toNat).ea base.toNat off).toNat
     ownData c.toNat ea = true → ea % e.2 = 0 →
     ∃ t, exec (e.1 c rt base off) s = .next t ∧
       t.bytesAt ea e.2 = toBytes e.2 ((s.core c.toNat).gr rt.toNat).toNat ∧
       t.badIn ea e.2 = [] ∧
       (∀ a, a < ea ∨ ea + e.2 ≤ a → t.byteAt a = s.byteAt a ∧ t.badAt a = s.badAt a) ∧
       (t.core c.toNat).g = (s.core c.toNat).g ∧ (t.core c.toNat).v = (s.core c.toNat).v ∧
       (t.core c.toNat).m = (s.core c.toNat).m ∧ (t.core c.toNat).cr = (s.core c.toNat).cr ∧
       (t.core c.toNat).pc = (s.core c.toNat).pc + 4 ∧ (∀ d, d ≠ c.toNat → t.core d = s.core d) ∧
       t = { s with
         cores := t.cores
         perf := t.perf
         mem := t.mem
         badPar := t.badPar }) ∧
  ((∀ e ∈ storeOps, ∀ (s : State) (c : BitVec 8) (rt base : BitVec 5) (off : BitVec 16),
     s.ready c.toNat (useG [base.toNat, rt.toNat] []) →
     let ea := (s.core c.toNat).ea base.toNat off
     ownData c.toNat ea.toNat = false → eaOk s c.toNat ea e.2 → s.storesOut c.toNat < 16 → s.idsFree c.toNat 1 = true →
     ∃ t, exec (e.1 c rt base off) s = .next t ∧ sentOnly s t c.toNat ∧
       requestSent s t c.toNat 1 ea.toNat e.2 0 (toBytes e.2 ((s.core c.toNat).gr rt.toNat).toNat) .store) ∧
   (∀ e ∈ atomOps.zip (List.range 5), ∀ (s : State) (c : BitVec 8) (rd rs1 rs2 : BitVec 5),
     s.ready c.toNat (useG [rs1.toNat, rs2.toNat] [rd.toNat]) →
     let ea := ((s.core c.toNat).gr rs1.toNat).toNat
     atomicTarget ea = true → ea % 8 = 0 → s.storesOut c.toNat < 16 → s.idsFree c.toNat 1 = true →
     ∃ t, exec (e.1.1 c rd rs1 rs2) s = .next t ∧ sentOnly s t c.toNat ∧
       requestSent s t c.toNat 3 ea 8 (BitVec.ofNat 3 e.2) (toBytes 8 ((s.core c.toNat).gr rs2.toNat).toNat) (.atom rd.toNat) ∧
       (rd ≠ 0 → mapFind? (t.core c.toNat).pend rd.toNat = some (s.freeTxn c.toNat)) ∧
       ∀ old v : DWord, atomWord e.2 old v = e.1.2 old v))

/-- Branches and jumps: the pc of R88, the link of JAL and JALR, nothing else of the machine. -/
def Obligations.BranchesAndJumps : Prop :=
  (∀ e ∈ branchOps, ∀ (s : State) (c : BitVec 8) (rs1 rs2 : BitVec 5) (off : BitVec 16),
    s.ready c.toNat (useG [rs1.toNat, rs2.toNat] []) →
    ∃ t, exec (e.1 c rs1 rs2 off) s = .next t ∧
      retiredTo s t c.toNat (if e.2 ((s.core c.toNat).gr rs1.toNat) ((s.core c.toNat).gr rs2.toNat) then
        (s.core c.toNat).pc + 4 * off else (s.core c.toNat).pc + 4)) ∧
  (∀ (s : State) (c : BitVec 8) (off : BitVec 26), s.ready c.toNat (useG [] []) →
    ∃ t, exec (.j c off) s = .next t ∧ retiredTo s t c.toNat ((s.core c.toNat).pc + 4 * off.truncate 16)) ∧
  (∀ (s : State) (c : BitVec 8) (off : BitVec 26), s.ready c.toNat (useG [] [31]) →
    ∃ t, exec (.jal c off) s = .next t ∧ (t.core c.toNat).pc = (s.core c.toNat).pc + 4 * off.truncate 16 ∧
      (∀ r, (t.core c.toNat).gr r = if r = 31 then ((s.core c.toNat).pc + 4).zeroExtend 64 else (s.core c.toNat).gr r) ∧
      onlyCore s t c.toNat) ∧
  (∀ (s : State) (c : BitVec 8) (rd rs1 : BitVec 5) (imm : BitVec 16), s.ready c.toNat (useG [rs1.toNat] [rd.toNat]) →
    let x := ((s.core c.toNat).gr rs1.toNat + imm.signExtend 64).truncate 16
    (x.toNat % 4 = 0 → ∃ t, exec (.jalr c rd rs1 imm) s = .next t ∧ (t.core c.toNat).pc = x ∧
      (∀ r, (t.core c.toNat).gr r =
        if r = rd.toNat ∧ rd ≠ 0 then ((s.core c.toNat).pc + 4).zeroExtend 64 else (s.core c.toNat).gr r) ∧
      onlyCore s t c.toNat) ∧
    (x.toNat % 4 ≠ 0 → ((s.core c.toNat).crv crTstat).getLsbD 2 = false →
      ∃ t, exec (.jalr c rd rs1 imm) s = .next t ∧ trapped s t c.toNat (trapMem 0x11 x.toNat) (s.core c.toNat).pc))

/-- MFCR and MTCR in kernel mode, FENCE with nothing outstanding, BRK with BRK_TRAP = 1 and 0, and TRET in kernel mode (R108). -/
def Obligations.SystemAndReturn : Prop :=
  ((∀ (s : State) (c : BitVec 8) (rd : BitVec 5) (cr : BitVec 12), s.ready c.toNat (useG [] [rd.toNat]) →
     (s.core c.toNat).task = false → crAllocated cr.toNat = true → (s.core c.toNat).fres = [] →
     ∃ t, exec (.mfcr c rd 0 cr) s = .next t ∧ gWritten s t c.toNat rd.toNat (s.readCr c.toNat cr.toNat)) ∧
   (∀ (s : State) (c : BitVec 8) (rs1 : BitVec 5) (cr : BitVec 12), s.ready c.toNat (useG [rs1.toNat] []) →
     (s.core c.toNat).task = false → crAllocated cr.toNat = true → (s.core c.toNat).fres = [] →
     ∃ t, exec (.mtcr c 0 rs1 cr) s = .next t ∧
       (cr.toNat ≠ crVmode → cr.toNat ≠ crVcount → (t.core c.toNat).crv cr.toNat =
         ((s.core c.toNat).crv cr.toNat &&& ~~~ crMask cr.toNat) ||| ((s.core c.toNat).gr rs1.toNat &&& crMask cr.toNat)) ∧
       (∀ n, n ≠ cr.toNat → (n ≠ crVcount ∨ cr.toNat ≠ crVmode) → (t.core c.toNat).crv n = (s.core c.toNat).crv n) ∧
       (t.core c.toNat).g = (s.core c.toNat).g ∧ (t.core c.toNat).pc = (s.core c.toNat).pc + 4 ∧ onlyCore s t c.toNat) ∧
   (∀ (s : State) (c : BitVec 8), s.ready c.toNat (useG [] []) → s.fenceWaits c.toNat = false →
     ∃ t, exec (.fence c 0 0 0) s = .next t ∧ (t.core c.toNat).pf = [] ∧ (t.core c.toNat).g = (s.core c.toNat).g ∧
       (t.core c.toNat).pc = (s.core c.toNat).pc + 4 ∧ onlyCore s t c.toNat) ∧
   (∀ (s : State) (c : BitVec 8), s.ready c.toNat (useG [] []) →
     (((s.core c.toNat).crv crCfg).getLsbD 3 = false →
       ∃ t, exec (.brk c 0 0 0) s = .next t ∧ (t.core c.toNat).run = .halted ∧
         (t.core c.toNat).pc = (s.core c.toNat).pc + 4 ∧ (t.core c.toNat).g = (s.core c.toNat).g ∧ onlyCore s t c.toNat) ∧
     (((s.core c.toNat).crv crCfg).getLsbD 3 = true → ((s.core c.toNat).crv crTstat).getLsbD 2 = false →
       ∃ t, exec (.brk c 0 0 0) s = .next t ∧ trapped s t c.toNat ⟨0x18, 0, 0⟩ ((s.core c.toNat).pc + 4)))) ∧
  (∀ (s : State) (c : BitVec 8), s.ready c.toNat (useG [] []) → (s.core c.toNat).task = false →
     ∃ t, exec (.tret c 0 0 0) s = .next t ∧ (t.core c.toNat).pc = ((s.core c.toNat).crv crTpc).truncate 16 ∧
       (t.core c.toNat).task = ((s.core c.toNat).crv crTstat).getLsbD 1 ∧
       ((t.core c.toNat).crv crTstat).getLsbD 2 = false ∧
       (∀ n, n ≠ crTstat → (t.core c.toNat).crv n = (s.core c.toNat).crv n) ∧
       (t.core c.toNat).g = (s.core c.toNat).g ∧ onlyCore s t c.toNat)

/-- Words and instructions (R85 to R88, R110, R128, R140, R143, R217): the word of every instruction, with every operand at every
value, decodes to that instruction, and a word that decodes to an instruction is that instruction's word; a core that runs the word
runs the instruction. A word that is none traps: ILLEGAL for a reserved opcode or selector, UNDEF_FUSED for an unallocated function
of a unit that R143 does not refuse first. -/
def Obligations.WordsAndInstructions : Prop :=
  (∀ (i : Instr) (w : Word) (c : BitVec 8), encodeCore i = some w → coreOfInsn i = some c →
      decodeCore c w = .insn i ∧ ∀ s : State, s.runWord c w = exec i s ∧
        ((s.core c.toNat).ra = none → s.insnWord c.toNat (s.core c.toNat).pc = w → s.runCore c = exec i s)) ∧
  (∀ (i : Instr) (w : Word) (c : BitVec 8), decodeCore c w = .insn i → encodeCore i = some w ∧ coreOfInsn i = some c) ∧
  (∀ (s : State) (c : BitVec 8) (w : Word), s.ready c.toNat (useG [] []) → ((s.core c.toNat).crv crTstat).getLsbD 2 = false →
      (decodeCore c w = .illegal →
        ∃ t, s.runWord c w = .next t ∧ trapped s t c.toNat trapIllegal (s.core c.toNat).pc) ∧
      (∀ u, decodeCore c w = .noFunction u →
        ∃ t, s.runWord c w = .next t ∧ trapped s t c.toNat
          (trapFused (if (mapGet s.imgDis 0 c.toNat).getLsbD u then 1 else if ((s.core c.toNat).fuDis).testBit u then 2 else 3))
          (s.core c.toNat).pc)) ∧
  (∀ c : BitVec 8, (∀ a b d : BitVec 5, ∀ f : BitVec 11, f.toNat ∈ [0xE, 0xF, 0x13, 0x1B, 0x108, 0x111, 0x7FF] →
        decodeCore c (encReg 0 a b d f) = .illegal) ∧
      (∀ a b : BitVec 5, ∀ i : BitVec 16, decodeCore c (encImm 0x37 a b i) = .illegal) ∧
      (∀ a b d : BitVec 5, ∀ p : BitVec 7, decodeCore c (encFu 0x38 a b d p 3) = .noFunction 0 ∧
        decodeCore c (encFu 0x39 a b d p 7) = .noFunction 1 ∧ decodeCore c (encFu 0x3B a b d p 4) = .noFunction 3))

/-- What turns an instruction away with a trap at itself (R107, R109, R110): a reserved field that is not 0 (R86), a kernel-only
instruction in task mode, a scalar access at an address that R89 or R105 forbids, a vector instruction that R123 forbids, and the
refusals of a fused unit in their order (R143). With INTRAP = 1 it is a double trap: the core stops, and a core fault of code 1 with
the cause of the second trap is reported (R109). -/
def Obligations.InstructionRefusals : Prop :=
  (∀ (s : State) (c : BitVec 8) (rt base : BitVec 5) (off : BitVec 16), s.ready c.toNat (useG [base.toNat] [rt.toNat]) →
      ((s.core c.toNat).crv crTstat).getLsbD 2 = false →
      let ea := (s.core c.toNat).ea base.toNat off
      ∀ e ∈ loadOps,
        ((s.core c.toNat).task = true → inRegSpace ea = true → s.counterOpen ea = false →
          ∃ t, exec (e.1 c rt base off) s = .next t ∧ trapped s t c.toNat (trapPriv ea.toNat) (s.core c.toNat).pc) ∧
        (2 ^ 40 ≤ ea.toNat → ∃ t, exec (e.1 c rt base off) s = .next t ∧
          trapped s t c.toNat (trapMem 0x12 (ea.toNat % 2 ^ 40)) (s.core c.toNat).pc) ∧
        (ea.toNat < 2 ^ 40 → ea.toNat % e.2.1 ≠ 0 → inRegSpace ea = false ∨ (s.core c.toNat).task = false →
          ∃ t, exec (e.1 c rt base off) s = .next t ∧ trapped s t c.toNat (trapMem 0x10 ea.toNat) (s.core c.toNat).pc)) ∧
  (∀ (s : State) (c : BitVec 8) (rd rs1 : BitVec 5), s.ready c.toNat (useG [rs1.toNat] [rd.toNat]) →
      ((s.core c.toNat).crv crTstat).getLsbD 2 = false →
      (∀ e ∈ unaryOps, ∀ rs2 : BitVec 5, rs2 ≠ 0 →
        ∃ t, exec (e.1 c rd rs1 rs2) s = .next t ∧ trapped s t c.toNat trapIllegal (s.core c.toNat).pc) ∧
      (∀ e ∈ shiftImmOps, ∀ (hi : BitVec 8) (sh : BitVec 6), hi ≠ 0 →
        ∃ t, exec (e.1 c rd rs1 hi sh) s = .next t ∧ trapped s t c.toNat trapIllegal (s.core c.toNat).pc) ∧
      (rs1 ≠ 0 → ∀ imm : BitVec 16,
        ∃ t, exec (.lui c rd rs1 imm) s = .next t ∧ trapped s t c.toNat trapIllegal (s.core c.toNat).pc)) ∧
  (∀ (s : State) (c : BitVec 8), s.ready c.toNat (useG [] []) → (s.core c.toNat).task = true →
      ((s.core c.toNat).crv crTstat).getLsbD 2 = false →
      (∃ t, exec (.tret c 0 0 0) s = .next t ∧ trapped s t c.toNat (trapPriv 0) (s.core c.toNat).pc) ∧
      (∀ cr : BitVec 12, crAllocated cr.toNat = true → cr.toNat ≠ crCoreId → crVector cr.toNat = false →
        ∃ t, exec (.mfcr c 0 0 cr) s = .next t ∧ trapped s t c.toNat (trapPriv 0) (s.core c.toNat).pc)) ∧
  (∀ (s : State) (c : BitVec 8) (sc : Bool) (vd vs1 vs2 : BitVec 5) (men : Bool) (m : BitVec 3),
      s.coreRuns c.toNat = true → (s.core c.toNat).ra = none → (s.core c.toNat).deferred = [] → s.fetchBad c.toNat = false →
      s.awaits c.toNat = false → ((s.core c.toNat).crv crTstat).getLsbD 2 = false →
      ((s.core c.toNat).villOn = true ∨ vd.toNat % (s.core c.toNat).span ≠ 0 ∨ (s.core c.toNat).vresume ≠ 0) →
      ∃ t, exec (.vadd c sc vd vs1 vs2 men m) s = .next t ∧ trapped s t c.toNat trapIllegal (s.core c.toNat).pc) ∧
  (∀ (s : State) (c : BitVec 8) (s1 : BitVec 5) (p : BitVec 7), s.ready c.toNat (useG [s1.toNat] []) →
      ((s.core c.toNat).crv crTstat).getLsbD 2 = false → p.toNat < 8 →
      let img := (mapGet s.imgDis 0 c.toNat).getLsbD 1
      let dis := ((s.core c.toNat).fuDis).testBit 1
      (img = true ∨ dis = true ∨ 6 ≤ p.toNat) →
      ∃ t, exec (.lcrcinit c 0 s1 0 p) s = .next t ∧
        trapped s t c.toNat (trapFused (if img then 1 else if dis then 2 else 3)) (s.core c.toNat).pc) ∧
  (∀ (s : State) (c : BitVec 8) (rd rs1 rs2 : BitVec 5), s.ready c.toNat (useG [rs1.toNat] [rd.toNat]) → rs2 ≠ 0 →
     ((s.core c.toNat).crv crTstat).getLsbD 2 = true → s.reports.length < 64 →
     ∃ t, exec (.clz c rd rs1 rs2) s = .next t ∧ (t.core c.toNat).run = .stopped ∧
       t.core c.toNat = { s.core c.toNat with run := (t.core c.toNat).run } ∧
       t.reports = s.reports ++ [{ mkReport 1 c.toNat 0x01 2 with
         stamp := s.now
         sub := 0
         data1 := 1 }])

/-- The prefetch buffer: a returned granule fills its entry, a failed one leaves the buffer, and outside run-ahead its expiry
empties it (R97, R99). -/
def Obligations.PrefetchBuffer : Prop :=
  (∀ (s : State) (p : Packet) (r : Req), s.matchReq p = some r → r.kind = .prefetch →
    ∃ t, exec (.prefetchReturn p) s = .next t ∧ t.outst = s.outst.erase r ∧
      (p.resp = 0 → (t.core r.init.toNat).pf =
        (s.core r.init.toNat).pf.map (fun e => if e.txn = r.txn then { e with data := some p.data } else e)) ∧
      (p.resp ≠ 0 → (t.core r.init.toNat).pf = (s.core r.init.toNat).pf.filter (fun e => e.txn ≠ r.txn)) ∧
      (t.core r.init.toNat).g = (s.core r.init.toNat).g) ∧
  (∀ (s : State) (c : BitVec 8), (s.core c.toNat).ra = none →
    ∃ t, exec (.prefetchBufferExpiry c) s = .next t ∧ (t.core c.toNat).pf = [] ∧ onlyCore s t c.toNat)

/-! ## The vector extension (05) -/

/-- VCLAIM (R120): rd and VCOUNT are 0 where VILL = 1, else the lesser of g[rs1], unsigned, and VLMAX. -/
def Obligations.VectorClaim : Prop :=
  ∀ (s : State) (c : BitVec 8) (rd rs1 : BitVec 5), s.ready c.toNat (useG [rs1.toNat] [rd.toNat]) →
    let k := s.core c.toNat
    let n : Nat := if k.villOn then 0 else min (k.gr rs1.toNat).toNat k.vlmax
    ∃ t, exec (.vclaim c rd rs1 0 0) s = .next t ∧
      (t.core c.toNat).crv crVcount = BitVec.ofNat 64 n ∧
      (∀ r, (t.core c.toNat).gr r = if r = rd.toNat ∧ rd ≠ 0 then BitVec.ofNat 64 n else k.gr r) ∧
      (∀ r, r ≠ crVcount → (t.core c.toNat).crv r = k.crv r) ∧
      (t.core c.toNat).v = k.v ∧ (t.core c.toNat).m = k.m ∧ (t.core c.toNat).pc = k.pc + 4 ∧ onlyCore s t c.toNat

/-- VSETCLAIM (R121): the type, SPAN, RMODE and SAT of VMODE come from the immediate, FU_DIS stays, VILL is 1 exactly where the
type is reserved or a group would hold more than 512 elements (R117), and the claim is made under the new VMODE. -/
def Obligations.VectorSetClaim : Prop :=
  ∀ (s : State) (c : BitVec 8) (rd rs1 : BitVec 5) (mode : BitVec 9), s.ready c.toNat (useG [rs1.toNat] [rd.toNat]) →
    let k := s.core c.toNat
    ∃ t, exec (.vsetclaim c rd rs1 0 mode) s = .next t ∧
      ((t.core c.toNat).crv crVmode).extractLsb' 0 9 = mode ∧
      (t.core c.toNat).fuDis = k.fuDis ∧
      (t.core c.toNat).villOn = vill (mode.toNat % 16) (mode.toNat / 16 % 4) ∧
      (t.core c.toNat).vcount = (if (t.core c.toNat).villOn then 0 else min (k.gr rs1.toNat).toNat (t.core c.toNat).vlmax) ∧
      (∀ r, (t.core c.toNat).gr r = if r = rd.toNat ∧ rd ≠ 0 then BitVec.ofNat 64 (t.core c.toNat).vcount else k.gr r) ∧
      (t.core c.toNat).v = k.v ∧ (t.core c.toNat).m = k.m ∧ (t.core c.toNat).pc = k.pc + 4 ∧ onlyCore s t c.toNat

/-- VV and VS instructions of two operands: each active element of vd is the function of R125 of the elements of vs1 and vs2, in
VS of the scalar's low bits; everything else of the group, of the registers and of the machine is as before. -/
def Obligations.VectorTwoOperands : Prop :=
  ∀ e ∈ vvOps, ∀ (s : State) (c : BitVec 8) (sc : Bool) (vd vs1 vs2 : BitVec 5) (men : Bool) (m : BitVec 3),
    let k := s.core c.toNat
    let n := k.span
    s.ready c.toNat ⟨if sc then [vs2.toNat] else [], [],
      groupRegs vs1.toNat n ++ (if sc then [] else groupRegs vs2.toNat n), groupRegs vd.toNat n⟩ →
    k.vLegal men m → e.2.1 k.etype = true → aligned vd n → aligned vs1 n → (sc = false → aligned vs2 n) →
    ∃ t, exec (e.1 c sc vd vs1 vs2 men m) s = .next t ∧ vDone s t c.toNat ∧
      vResult s t c.toNat vd.toNat k.ew (k.active men m) (fun i =>
        e.2.2 k.vmode (k.elem vd.toNat k.ew i) (k.elem vs1.toNat k.ew i)
          (if sc then (k.gr vs2.toNat).toNat % 2 ^ k.ew else k.elem vs2.toNat k.ew i))

/-- The widening instructions: vd is a group of twice SPAN, apart from its sources, in the type of twice the width. -/
def Obligations.VectorWidening : Prop :=
  ∀ e ∈ vwOps, ∀ (s : State) (c : BitVec 8) (sc : Bool) (vd vs1 vs2 : BitVec 5) (men : Bool) (m : BitVec 3),
    let k := s.core c.toNat
    let n := k.span
    s.ready c.toNat ⟨if sc then [vs2.toNat] else [], [],
      groupRegs vs1.toNat n ++ (if sc then [] else groupRegs vs2.toNat n), groupRegs vd.toNat (2 * n)⟩ →
    k.vLegal men m → e.2.1 k.etype = true → aligned vd (2 * n) → aligned vs1 n → (sc = false → aligned vs2 n) →
    apart vd.toNat (2 * n) vs1.toNat n → (sc = false → apart vd.toNat (2 * n) vs2.toNat n) →
    ∃ t, exec (e.1 c sc vd vs1 vs2 men m) s = .next t ∧ vDone s t c.toNat ∧
      vResult s t c.toNat vd.toNat (2 * k.ew) (k.active men m) (fun i =>
        e.2.2 k.vmode (k.elem vd.toNat (2 * k.ew) i) (k.elem vs1.toNat k.ew i)
          (if sc then (k.gr vs2.toNat).toNat % 2 ^ k.ew else k.elem vs2.toNat k.ew i))

/-- The one-operand instructions, the conversion and the narrowing instructions. -/
def Obligations.VectorOneOperand : Prop :=
  ∀ (s : State) (c : BitVec 8) (vd vs1 : BitVec 5) (men : Bool) (m : BitVec 3),
    let k := s.core c.toNat
    let n := k.span
    k.vLegal men m → aligned vd n →
    (aligned vs1 n → s.ready c.toNat ⟨[], [], groupRegs vs1.toNat n, groupRegs vd.toNat n⟩ →
      (∀ e ∈ vuOps, e.2.1 k.etype = true →
        ∃ t, exec (e.1 c false vd vs1 0 men m) s = .next t ∧ vDone s t c.toNat ∧
          vResult s t c.toNat vd.toNat k.ew (k.active men m) (fun i => e.2.2 k.vmode (k.elem vs1.toNat k.ew i))) ∧
      (∀ dst : BitVec 5, cvtOk k.etype dst.toNat = true →
        ∃ t, exec (.vcvt c false vd vs1 dst men m) s = .next t ∧ vDone s t c.toNat ∧
          vResult s t c.toNat vd.toNat k.ew (k.active men m)
            (fun i => cvt k.rmode k.etype dst.toNat (k.elem vs1.toNat k.ew i)))) ∧
    (aligned vs1 (2 * n) → apart vd.toNat n vs1.toNat (2 * n) → tyNarrow k.etype = true →
      (∀ rs2 : BitVec 5, s.ready c.toNat ⟨[rs2.toNat], [], groupRegs vs1.toNat (2 * n), groupRegs vd.toNat n⟩ →
        ∃ t, exec (.vnarrow c true vd vs1 rs2 men m) s = .next t ∧ vDone s t c.toNat ∧
          vResult s t c.toNat vd.toNat k.ew (k.active men m)
            (fun i => elNarrow k.vmode ((k.gr rs2.toNat).toNat % 64) (k.elem vs1.toNat (2 * k.ew) i))) ∧
      (∀ imm : BitVec 8, imm.toNat < 64 → s.ready c.toNat ⟨[], [], groupRegs vs1.toNat (2 * n), groupRegs vd.toNat n⟩ →
        ∃ t, exec (.vnarrowi c vd vs1 imm men m) s = .next t ∧ vDone s t c.toNat ∧
          vResult s t c.toNat vd.toNat k.ew (k.active men m)
            (fun i => elNarrow k.vmode imm.toNat (k.elem vs1.toNat (2 * k.ew) i))))

/-- The instructions with an immediate (R130) and the splats. -/
def Obligations.VectorImmediates : Prop :=
  ∀ (s : State) (c : BitVec 8) (vd vs1 : BitVec 5) (imm : BitVec 8) (men : Bool) (m : BitVec 3),
    let k := s.core c.toNat
    let n := k.span
    k.vLegal men m → aligned vd n →
    (aligned vs1 n → tyRC k.etype = true → s.ready c.toNat ⟨[], [], groupRegs vs1.toNat n, groupRegs vd.toNat n⟩ →
      (∀ e ∈ viOps, (e.2.1 = true → imm.toNat < 64) →
        ∃ t, exec (e.1 c vd vs1 imm men m) s = .next t ∧ vDone s t c.toNat ∧
          vResult s t c.toNat vd.toNat k.ew (k.active men m) (fun i => e.2.2 k.vmode imm (k.elem vs1.toNat k.ew i))) ∧
      (vs1 = 0 → ∃ t, exec (.vsplati c vd vs1 imm men m) s = .next t ∧ vDone s t c.toNat ∧
        vResult s t c.toNat vd.toNat k.ew (k.active men m) (fun _ => ((imm.toInt % 2 ^ cwOf k.etype).toNat, false)))) ∧
    (∀ rs1 : BitVec 5, s.ready c.toNat ⟨[rs1.toNat], [], [], groupRegs vd.toNat n⟩ →
      ∃ t, exec (.vsplat c vd rs1 0 men m) s = .next t ∧ vDone s t c.toNat ∧
        vResult s t c.toNat vd.toNat k.ew (k.active men m) (fun _ => ((k.gr rs1.toNat).toNat, false)))

/-- Comparisons and mask logic write mask bits; VMPOPC and VMFIRST count and find the set bits below VCOUNT (R131). -/
def Obligations.VectorMasks : Prop :=
  (∀ e ∈ vcOps, ∀ (s : State) (c : BitVec 8) (d s1 s2 : BitVec 5) (men : Bool) (m : BitVec 3),
    let k := s.core c.toNat
    let n := k.span
    s.ready c.toNat ⟨[], [], groupRegs s1.toNat n ++ groupRegs s2.toNat n, []⟩ → k.vLegal men m → e.2.1 k.etype = true →
    d.toNat < 8 → aligned s1 n → aligned s2 n →
    ∃ t, exec (e.1 c d s1 s2 men m) s = .next t ∧ vDone s t c.toNat ∧
      mResult s t c.toNat d.toNat (k.active men m)
        (fun i => e.2.2 k.vmode (k.elem s1.toNat k.ew i) (k.elem s2.toNat k.ew i))) ∧
  (∀ e ∈ vmOps, ∀ (s : State) (c : BitVec 8) (d s1 s2 : BitVec 5),
    let k := s.core c.toNat
    s.ready c.toNat (useG [] []) → k.vLegal false 0 → d.toNat < 8 → s1.toNat < 8 → s2.toNat < 8 →
    ∃ t, exec (e.1 c d s1 s2 false 0) s = .next t ∧ vDone s t c.toNat ∧
      mResult s t c.toNat d.toNat (List.range k.vcount)
        (fun i => e.2 ((k.mr s1.toNat).getLsbD i) ((k.mr s2.toNat).getLsbD i))) ∧
  (∀ (s : State) (c : BitVec 8) (d s1 s2 : BitVec 5),
    let k := s.core c.toNat
    let l := (List.range k.vcount).filter (fun i => (k.mr s1.toNat).getLsbD i)
    s.ready c.toNat (useG [] [d.toNat]) → k.vLegal false 0 → s1.toNat < 8 →
    (∃ t, exec (.vmpopc c d s1 s2 false 0) s = .next t ∧ vDone s t c.toNat ∧
      (∀ r, (t.core c.toNat).gr r = if r = d.toNat ∧ d ≠ 0 then BitVec.ofNat 64 l.length else k.gr r) ∧
      (t.core c.toNat).v = k.v ∧ (t.core c.toNat).m = k.m) ∧
    (∃ t, exec (.vmfirst c d s1 s2 false 0) s = .next t ∧ vDone s t c.toNat ∧
      (∀ r, (t.core c.toNat).gr r =
        if r = d.toNat ∧ d ≠ 0 then (l.head?.map (fun i => BitVec.ofNat 64 i)).getD (BitVec.allOnes 64) else k.gr r) ∧
      (t.core c.toNat).v = k.v ∧ (t.core c.toNat).m = k.m))

/-- Reductions write element 0 of vd, and nothing with VCOUNT = 0; VEXT and VINS move one element (R131). -/
def Obligations.VectorReductions : Prop :=
  (∀ e ∈ vrOps, ∀ (s : State) (c : BitVec 8) (d s1 s2 : BitVec 5) (men : Bool) (m : BitVec 3),
    let k := s.core c.toNat
    let n := k.span
    s.ready c.toNat ⟨[], [], groupRegs s1.toNat n ++ groupRegs s2.toNat n, groupRegs d.toNat n⟩ → k.vLegal men m →
    e.2.1 k.etype = true → aligned d n → aligned s1 n → aligned s2 n →
    ∃ t, exec (e.1 c d s1 s2 men m) s = .next t ∧ vDone s t c.toNat ∧
      vResult s t c.toNat d.toNat k.ew (if k.vcount = 0 then [] else [0]) (fun _ =>
        e.2.2 k.vmode (k.elem s2.toNat k.ew 0) ((k.active men m).map (fun i => k.elem s1.toNat k.ew i)))) ∧
  (∀ (s : State) (c : BitVec 8) (d s1 s2 : BitVec 5),
    let k := s.core c.toNat
    let n := k.span
    k.vLegal false 0 →
    (s.ready c.toNat ⟨[s2.toNat], [d.toNat], groupRegs s1.toNat n, []⟩ → aligned s1 n →
      ∃ t, exec (.vext c d s1 s2 false 0) s = .next t ∧ vDone s t c.toNat ∧
        (∀ r, (t.core c.toNat).gr r = if r = d.toNat ∧ d ≠ 0 then
          BitVec.ofInt 64 (sgn k.ew (k.elem s1.toNat k.ew ((k.gr s2.toNat).toNat % k.vlmax))) else k.gr r) ∧
        (t.core c.toNat).v = k.v ∧ (t.core c.toNat).m = k.m) ∧
    (s.ready c.toNat ⟨[s1.toNat, s2.toNat], [], [], groupRegs d.toNat n⟩ → aligned d n →
      ∃ t, exec (.vins c d s1 s2 false 0) s = .next t ∧ vDone s t c.toNat ∧
        vResult s t c.toNat d.toNat k.ew [(k.gr s2.toNat).toNat % k.vlmax] (fun _ => ((k.gr s1.toNat).toNat, false))))

/-- Moves within and between groups: slides, permutation, copy and selection (R131). -/
def Obligations.VectorMoves : Prop :=
  ∀ (s : State) (c : BitVec 8) (d s1 s2 : BitVec 5) (men : Bool) (m : BitVec 3),
    let k := s.core c.toNat
    let n := k.span
    let x := (k.gr s2.toNat).toNat
    k.vLegal men m → aligned d n → aligned s1 n →
    (s.ready c.toNat ⟨[s2.toNat], [], groupRegs s1.toNat n, groupRegs d.toNat n⟩ → apart d.toNat n s1.toNat n →
      (∃ t, exec (.vslideup c d s1 s2 men m) s = .next t ∧ vDone s t c.toNat ∧
        vResult s t c.toNat d.toNat k.ew ((k.active men m).filter (fun i => x ≤ i))
          (fun i => (k.elem s1.toNat k.ew (i - x), false))) ∧
      (∃ t, exec (.vslidedn c d s1 s2 men m) s = .next t ∧ vDone s t c.toNat ∧
        vResult s t c.toNat d.toNat k.ew (k.active men m)
          (fun i => (if i + x < k.vlmax then k.elem s1.toNat k.ew (i + x) else 0, false)))) ∧
    (s.ready c.toNat ⟨[], [], groupRegs s1.toNat n, groupRegs d.toNat n⟩ →
      ∃ t, exec (.vmv c d s1 0 men m) s = .next t ∧ vDone s t c.toNat ∧
        vResult s t c.toNat d.toNat k.ew (k.active men m) (fun i => (k.elem s1.toNat k.ew i, false))) ∧
    (s.ready c.toNat ⟨[], [], groupRegs s1.toNat n ++ groupRegs s2.toNat n, groupRegs d.toNat n⟩ → aligned s2 n →
      (apart d.toNat n s1.toNat n → apart d.toNat n s2.toNat n →
        ∃ t, exec (.vperm c d s1 s2 men m) s = .next t ∧ vDone s t c.toNat ∧
          vResult s t c.toNat d.toNat k.ew (k.active men m) (fun i =>
            (if k.elem s2.toNat k.ew i % 2 ^ 16 < k.vlmax then k.elem s1.toNat k.ew (k.elem s2.toNat k.ew i % 2 ^ 16) else 0,
             false))) ∧
      (men = true → ∃ t, exec (.vsel c d s1 s2 men m) s = .next t ∧ vDone s t c.toNat ∧
        vResult s t c.toNat d.toNat k.ew (List.range k.vcount) (fun i =>
          (k.elem (if (k.mr m.toNat).getLsbD i then s1.toNat else s2.toNat) k.ew i, false))))

/-- A vector load whose accesses meet no error: each active element, or in mask mode each mask bit below VCOUNT, holds what
memory, or the prefetch buffer's entry for its granule, holds at its address (R97, R132), and memory is as before. One that meets an error at an element stops there (R136): VRESUME
is the element, and the trap is taken at the instruction with the element's address. -/
def Obligations.VectorLoading : Prop :=
  (∀ (s : State) (c : BitVec 8) (vt base s2 : BitVec 5) (men : Bool) (m : BitVec 3) (mode : BitVec 2),
     let k := s.core c.toNat
     let eb : Nat := if mode = 3 then 1 else k.eb
     let l := k.vPieces mode.toNat base.toNat s2.toNat men m
     s.ready c.toNat (k.vMemUse vt base s2 mode true) → k.vMemBad vt s2 men m mode 0 true = false →
     s.vldWaits c.toNat base.toNat s2.toNat men m mode.toNat = false →
     (∀ e ∈ l, s.vLoadStop c.toNat eb e.2 = none) →
     ∃ t, exec (.vld c vt base s2 men m mode 0) s = .next t ∧
       (t.core c.toNat).crv crVresume = 0 ∧ (t.core c.toNat).pc = k.pc + 4 ∧ (t.core c.toNat).g = k.g ∧ t.mem = s.mem ∧
       (mode ≠ 3 → (∀ e ∈ l, (t.core c.toNat).elem vt.toNat k.ew e.1 =
           ofBytes (s.vLoaded c.toNat k.eb e.2.toNat) % 2 ^ k.ew) ∧
         (∀ i, i ∉ k.active men m → (t.core c.toNat).elem vt.toNat k.ew i = k.elem vt.toNat k.ew i) ∧
         (t.core c.toNat).m = k.m) ∧
       (mode = 3 → (∀ e ∈ l, ∀ b, b < 8 → 8 * e.1 + b < min 512 k.vcount →
           ((t.core c.toNat).mr vt.toNat).getLsbD (8 * e.1 + b) = (ofBytes (s.vLoaded c.toNat 1 e.2.toNat)).testBit b) ∧
         (∀ i, k.vcount ≤ i → ((t.core c.toNat).mr vt.toNat).getLsbD i = (k.mr vt.toNat).getLsbD i) ∧
         (t.core c.toNat).v = k.v) ∧
       ∀ d, d ≠ c.toNat → t.core d = s.core d) ∧
  (∀ (s : State) (c : BitVec 8) (vt base s2 : BitVec 5) (men : Bool) (m : BitVec 3) (mode : BitVec 2) (i : Nat) (a : DWord)
     (x : Trap) (l1 l2 : List (Nat × DWord)),
     let k := s.core c.toNat
     mode ≠ 3 → s.ready c.toNat (k.vMemUse vt base s2 mode true) → k.vMemBad vt s2 men m mode 0 true = false →
     s.vldWaits c.toNat base.toNat s2.toNat men m mode.toNat = false → (k.crv crTstat).getLsbD 2 = false →
     k.vPieces mode.toNat base.toNat s2.toNat men m = l1 ++ (i, a) :: l2 →
     (∀ e ∈ l1, s.vLoadStop c.toNat k.eb e.2 = none) → s.vLoadStop c.toNat k.eb a = some x →
     ∃ t, exec (.vld c vt base s2 men m mode 0) s = .next t ∧
       (t.core c.toNat).crv crVresume = BitVec.ofNat 64 i ∧
       (∀ e ∈ l1, (t.core c.toNat).elem vt.toNat k.ew e.1 = ofBytes (s.vLoaded c.toNat k.eb e.2.toNat) % 2 ^ k.ew) ∧
       (t.core c.toNat).crv crTpc = k.pc.zeroExtend 64 ∧ (t.core c.toNat).pc = (k.crv crTvec).truncate 16 ∧
       (t.core c.toNat).crv crTcause = BitVec.ofNat 64 (x.code + x.sub * 256) ∧
       (t.core c.toNat).crv crTaddr = BitVec.ofNat 64 x.addr ∧ (t.core c.toNat).g = k.g ∧ t.mem = s.mem)

/-- A vector store into the core's own data memory: unit-stride elements lie at their addresses, and no byte outside the addresses
of active elements changes. -/
def Obligations.VectorStores : Prop :=
  ∀ (s : State) (c : BitVec 8) (vt base s2 : BitVec 5) (men : Bool) (m : BitVec 3) (mode : BitVec 2),
    let k := s.core c.toNat
    let eb : Nat := if mode = 3 then 1 else k.eb
    let l := k.vPieces mode.toNat base.toNat s2.toNat men m
    s.ready c.toNat (k.vMemUse vt base s2 mode false) → k.vMemBad vt s2 men m mode 0 false = false →
    s.storesOut c.toNat = 0 → (∀ e ∈ l, ownData c.toNat e.2.toNat = true ∧ e.2.toNat % eb = 0) →
    ∃ t, exec (.vst c vt base s2 men m mode 0) s = .next t ∧
      (t.core c.toNat).crv crVresume = 0 ∧ (t.core c.toNat).pc = k.pc + 4 ∧
      (t.core c.toNat).g = k.g ∧ (t.core c.toNat).v = k.v ∧ (t.core c.toNat).m = k.m ∧
      (mode = 0 → ∀ e ∈ l, t.bytesAt e.2.toNat k.eb = toBytes k.eb (k.elem vt.toNat k.ew e.1)) ∧
      (mode = 3 → ∀ e ∈ l, t.byteAt e.2.toNat = (k.mr vt.toNat).extractLsb' (8 * e.1) 8) ∧
      (∀ a, (∀ e ∈ l, a < e.2.toNat ∨ e.2.toNat + eb ≤ a) → t.byteAt a = s.byteAt a) ∧
      ∀ d, d ≠ c.toNat → t.core d = s.core d

/-! ## The fused units (06) -/

/-- CORR: the instruction retires with its result on the way to a register: for CCORR one correlation sum for each lag, for CDESP
one despread sum for each symbol, each rounded by SHIFT and saturated as C32 and the rest of the register 0; for CPEAK the lowest
lag of maximum power and the power's upper half (R144). -/
def Obligations.FusedCorrelation : Prop :=
  ∀ (s : State) (c : BitVec 8) (d s1 s2 : BitVec 5),
    let k := s.core c.toNat
    s.fuBad c.toNat 0 false false = none →
    (aligned s1 4 → aligned s2 2 → s.ready c.toNat ⟨[], [], groupRegs s1.toNat 4 ++ groupRegs s2.toNat 2, [d.toNat]⟩ →
      1 ≤ k.corrN → k.corrN ≤ 256 → 1 ≤ k.corrL → k.corrL ≤ 64 → k.corrN + k.corrL ≤ 513 → k.corrK ≤ 47 →
      ∃ t v sat, exec (.ccorr c d s1 s2 0) s = .next t ∧ fuDone s t c.toNat ∧
        (t.core c.toNat).fres = k.fres ++ [⟨0, true, d.toNat, v, sat⟩] ∧
        (∀ l, l < 64 → (v.extractLsb' (64 * l) 64).toNat = if l < k.corrL then
          (k.corrOut (sumC ((List.range k.corrN).map (fun i =>
            cprod 16 true (k.elem s1.toNat 32 (i + l)) (k.elem s2.toNat 32 i))))).1 else 0)) ∧
    (aligned s1 4 → s.ready c.toNat ⟨[s2.toNat], [], groupRegs s1.toNat 4, [d.toNat]⟩ →
      1 ≤ k.corrSf → k.corrSf ≤ 6 → 1 ≤ k.corrM → k.corrM ≤ 64 → k.corrM * 2 ^ k.corrSf ≤ 512 → k.corrK ≤ 47 →
      ∃ t v sat, exec (.cdesp c d s1 s2 0) s = .next t ∧ fuDone s t c.toNat ∧
        (t.core c.toNat).fres = k.fres ++ [⟨0, true, d.toNat, v, sat⟩] ∧
        (∀ l, l < 64 → (v.extractLsb' (64 * l) 64).toNat = if l < k.corrM then
          (k.corrOut ((k.cdespSums s1.toNat s2.toNat).getD l (0, 0))).1 else 0)) ∧
    (s.ready c.toNat ⟨[], [d.toNat], [s1.toNat], []⟩ → 1 ≤ k.corrL → k.corrL ≤ 64 →
      ∃ t p, exec (.cpeak c d s1 0 0) s = .next t ∧ fuDone s t c.toNat ∧
        p < k.corrL ∧ (∀ i, i < k.corrL → k.power32 s1.toNat i ≤ k.power32 s1.toNat p) ∧
        (∀ i, i < p → k.power32 s1.toNat i < k.power32 s1.toNat p) ∧
        (t.core c.toNat).fres = if d = 0 then k.fres else k.fres ++ [⟨0, false, d.toNat,
          (BitVec.ofNat 64 (p + k.power32 s1.toNat p / 2 ^ 32 * 2 ^ 32)).zeroExtend 4096, false⟩])

/-- LFSR: the Gold generator is set up and advanced, and its bits are on their way to a register (R145, R146); the CRC register is
set up, fed from a g or a vector register, and read (R145, R147). -/
def Obligations.FusedShiftRegisters : Prop :=
  ∀ (s : State) (c : BitVec 8) (d s1 s2 : BitVec 5) (n : BitVec 7),
    let k := s.core c.toNat
    s.fuBad c.toNat 1 false false = none →
    (s.ready c.toNat (useG [s1.toNat] []) →
      (∃ t, exec (.lginit c 0 s1 0 0) s = .next t ∧ fuDone s t c.toNat ∧ (t.core c.toNat).fres = k.fres ∧
        (t.core c.toNat).gold = goldSteps 1600 (1, (k.gr s1.toNat).toNat % 2 ^ 31)) ∧
      (n.toNat < 6 → ∃ t, exec (.lcrcinit c 0 s1 0 n) s = .next t ∧ fuDone s t c.toNat ∧ (t.core c.toNat).fres = k.fres ∧
        (t.core c.toNat).poly = n.toNat ∧ (t.core c.toNat).crcReg = (k.gr s1.toNat).toNat % 2 ^ crcW n.toNat) ∧
      (n.toNat < 64 → k.poly < 6 → ∃ t, exec (.lcrcg c 0 s1 0 n) s = .next t ∧ fuDone s t c.toNat ∧
        (t.core c.toNat).fres = k.fres ∧ (t.core c.toNat).poly = k.poly ∧
        (t.core c.toNat).crcReg = crcFeed k.poly k.crcReg (n.toNat + 1) (k.gr s1.toNat).toNat)) ∧
    (s.ready c.toNat (useG [] [d.toNat]) →
      (n.toNat < 64 → ∃ t, exec (.lgen c d 0 0 n) s = .next t ∧ fuDone s t c.toNat ∧
        (t.core c.toNat).gold = goldSteps (n.toNat + 1) k.gold ∧
        (t.core c.toNat).fres = if d = 0 then k.fres else k.fres ++ [⟨1, false, d.toNat,
          (BitVec.ofNat 64 (goldBits (n.toNat + 1) k.gold)).zeroExtend 4096, false⟩]) ∧
      (k.poly < 6 → ∃ t, exec (.lcrcrd c d 0 0 0) s = .next t ∧ fuDone s t c.toNat ∧
        (t.core c.toNat).crv crCrc = k.crv crCrc ∧
        (t.core c.toNat).fres = if d = 0 then k.fres else k.fres ++ [⟨1, false, d.toNat,
          (BitVec.ofNat 64 k.crcReg).zeroExtend 4096, false⟩])) ∧
    (s.ready c.toNat ⟨[], [], [], [d.toNat]⟩ →
      ∃ t, exec (.lgenv c d 0 0 0) s = .next t ∧ fuDone s t c.toNat ∧
        (t.core c.toNat).gold = goldSteps 4096 k.gold ∧
        (t.core c.toNat).fres = k.fres ++ [⟨1, true, d.toNat, BitVec.ofNat 4096 (goldBits 4096 k.gold), false⟩]) ∧
    (s.ready c.toNat ⟨[s2.toNat], [], [s1.toNat], []⟩ → k.poly < 6 → 1 ≤ (k.gr s2.toNat).toNat → (k.gr s2.toNat).toNat ≤ 4096 →
      ∃ t, exec (.lcrcv c 0 s1 s2 0) s = .next t ∧ fuDone s t c.toNat ∧ (t.core c.toNat).fres = k.fres ∧
        (t.core c.toNat).poly = k.poly ∧
        (t.core c.toNat).crcReg = crcFeed k.poly k.crcReg (k.gr s2.toNat).toNat (k.vr s1.toNat).toNat)

/-- DEMAP: one LLR for each bit of each of VCOUNT symbols, packed in order, is on its way to the register (R148). -/
def Obligations.FusedDemapper : Prop :=
  ∀ (s : State) (c : BitVec 8) (func : BitVec 4) (d s1 s2 : BitVec 5) (param : BitVec 7),
    let k := s.core c.toNat
    let w := if param.getLsbD 0 then 8 else 4
    s.fuBad c.toNat 2 false false = none → func.toNat < 4 → param.toNat < 2 → aligned s1 4 → aligned s2 2 →
    s.ready c.toNat ⟨[], [], groupRegs s1.toNat 4 ++ groupRegs s2.toNat 2, [d.toNat]⟩ →
    1 ≤ k.vcount → k.vcount * (demapQ func.toNat * w) ≤ 4096 → k.crBits crDemap 5 0 ≤ 47 →
    ∃ t v, exec (.demap c func d s1 s2 param) s = .next t ∧ fuDone s t c.toNat ∧
      (t.core c.toNat).fres = k.fres ++ [⟨2, true, d.toNat, v, false⟩] ∧
      ∀ i b, i < k.vcount → b < demapQ func.toNat →
        (v.extractLsb' ((i * demapQ func.toNat + b) * w) w).toInt = (k.demapSym func.toNat w s1.toNat s2.toNat i).getD b 0

/-- ILV: an instruction whose ranges R150 accepts hands its operation to the unit while that has room (R151).
ILV_OPERATION_END with LLR elements and good accesses: the destination elements are those that R149 gives, nothing outside the
destination buffer changes, ILV_STAT counts the elements, and the pending operation becomes the running one. FUSED_RESULT: a
unit's oldest result reaches its register and, clamped, VSAT (R141); with no result of the unit on its way nothing changes. -/
def Obligations.FusedInterleaverAndResults : Prop :=
  (∀ (s : State) (c : BitVec 8) (d s1 s2 : BitVec 5) (llr : Bool),
     let k := s.core c.toNat
     let p : BitVec 7 := if llr then 1 else 0
     s.fuBad c.toNat 3 false false = none → s.ready c.toNat (useG [d.toNat, s1.toNat, s2.toNat] []) → k.ilv.length < 2 →
     (∀ e ∈ ([(Instr.isel, (0, true)), (Instr.ibil, (1, true)), (Instr.idil, (2, false)), (Instr.icomb, (3, false))] :
         List ((BitVec 8 → BitVec 5 → BitVec 5 → BitVec 5 → BitVec 7 → Instr) × (Nat × Bool))),
       (llr = true ∨ e.2.2 = true) → (k.ilvOp e.2.1 llr d.toNat s1.toNat s2.toNat).badRange c.toNat = false →
       ∃ t, exec (e.1 c d s1 s2 p) s = .next t ∧ fuDone s t c.toNat ∧ (t.core c.toNat).fres = k.fres ∧
         (t.core c.toNat).ilv = k.ilv ++ [k.ilvOp e.2.1 llr d.toNat s1.toNat s2.toNat])) ∧
  (∀ (s : State) (c : BitVec 8) (o : IlvOp) (rest : List IlvOp),
     (s.core c.toNat).ilv = o :: rest → s.storesOut c.toNat = 0 → o.badRange c.toNat = false → o.llr = true → o.func ≤ 3 →
     (∀ a, o.src ≤ a → a < o.src + o.sizes.1 → s.ilvFail c.toNat a = none) →
     (∀ a, o.dst ≤ a → a < o.dst + o.sizes.2 → s.ilvFail c.toNat a = none ∧ s.vResp c.toNat a true = rDone) →
     ∃ t, exec (.ilvOperationEnd c) s = .next t ∧ (t.core c.toNat).ilv = rest ∧
       (t.core c.toNat).crv crIlvStat = BitVec.ofNat 64 o.steps ∧ (t.core c.toNat).deferred = (s.core c.toNat).deferred ∧
       (o.func < 3 → ∀ n, n < o.steps → mapFind? t.mem (o.dst + n) = some (s.byteAt (o.src + (o.place o.walk n).1))) ∧
       (∀ a, a < o.dst ∨ o.dst + o.sizes.2 ≤ a → mapFind? t.mem a = mapFind? s.mem a) ∧
       (t.core c.toNat).g = (s.core c.toNat).g ∧ (t.core c.toNat).v = (s.core c.toNat).v ∧ t.regs = s.regs) ∧
  (∀ (s : State) (c : BitVec 8) (unit : BitVec 2), unit.toNat < 3 →
     let k := s.core c.toNat
     (∀ r, k.fres.find? (fun r => r.unit = unit.toNat) = some r →
       ∃ t, exec (.fusedResult c unit) s = .next t ∧ (t.core c.toNat).fres = k.fres.erase r ∧
         (r.vec = true → (t.core c.toNat).g = k.g ∧
           ∀ x, (t.core c.toNat).vr x = if x = r.reg then r.val else k.vr x) ∧
         (r.vec = false → (t.core c.toNat).v = k.v ∧
           ∀ x, (t.core c.toNat).gr x = if x = r.reg ∧ x ≠ 0 then r.val.truncate 64 else k.gr x) ∧
         (t.core c.toNat).crv crVsat = (if r.sat = true then 1 else k.crv crVsat) ∧
         (t.core c.toNat).m = k.m ∧ (t.core c.toNat).pc = k.pc) ∧
     (k.fres.find? (fun r => r.unit = unit.toNat) = none → exec (.fusedResult c unit) s = .next s))

/-! ## The sieves (09) -/

/-- TDISPATCH, TSPAWN and TSETPRI in kernel mode (R210 to R212, R217): once older waiting requests that can be are served, the thread's
new state and place, the context registers of the core, and rd with status and field; a form that is turned away changes no
thread. -/
def Obligations.SieveThreads : Prop :=
  ∀ (s : State) (c : BitVec 8) (rd rs1 rs2 : BitVec 5),
    let k := s.core c.toNat
    let u := stratumOf c.toNat
    let v := s.sieve u
    let z := (s.serveAll u).sieve u
    s.ready c.toNat (useG [rs1.toNat, rs2.toNat] [rd.toNat]) → k.task = false →
    (rs2 = 0 → s.ready c.toNat (useG [rs1.toNat] [rd.toNat]) →
      (v.asking = [] → s.serveAll u = s) ∧
      (∀ i, z.best (druseOf c.toNat) = some i →
        ∃ t, exec (.tdispatch c rd rs1 rs2) s = .next t ∧ onlySieve s t u ∧
          (t.sieve u).thread i = { z.thread i with
            state := .running
            druse := some (druseOf c.toNat) } ∧
          (∀ j, j ≠ i → (t.sieve u).thread j = z.thread j) ∧ (t.sieve u).ready = z.ready.filter (· ≠ i) ∧
          (∀ r, (t.core c.toNat).gr r = if r = rd.toNat ∧ rd ≠ 0 then BitVec.ofNat 64 (i * 2 ^ 16) else k.gr r) ∧
          (t.core c.toNat).crv crSctxPtr = (z.thread i).ctx.zeroExtend 64 ∧
          (t.core c.toNat).crv crSctxThread =
            BitVec.ofNat 64 (i + 2 ^ 15 + tokBits (z.thread i).tok + (z.thread i).prio * 2 ^ 32) ∧
          (t.core c.toNat).pc = k.pc + 4) ∧
      (z.best (druseOf c.toNat) = none → (k.gr rs1.toNat).getLsbD 0 = true →
        ∃ t, exec (.tdispatch c rd rs1 rs2) s = .next t ∧ gServed (s.serveAll u) t c.toNat rd.toNat 2) ∧
      (z.best (druseOf c.toNat) = none → (k.gr rs1.toNat).getLsbD 0 = false →
        ∃ t, exec (.tdispatch c rd rs1 rs2) s = .next t ∧ (t.core c.toNat).run = .waiting ∧
          (t.core c.toNat).pc = k.pc ∧ (t.core c.toNat).g = k.g ∧
          t.sieve u = { z with asking := z.asking.filter (· ≠ c.toNat) ++ [c.toNat] })) ∧
    (∀ i, (k.gr rs1.toNat).toNat < 2 ^ 40 → (k.gr rs2.toNat).toNat < 64 → s.curSquashed c.toNat = false →
      v.freeSlot = some i →
      ∃ t, exec (.tspawn c rd rs1 rs2) s = .next t ∧ onlySieve s t u ∧
        gTaken s t c.toNat rd.toNat (BitVec.ofNat 64 (i * 2 ^ 16)) ∧
        (t.sieve u).thread i = { Thread.free with
          state := .ready
          prio := (k.gr rs2.toNat).toNat
          ctx := (k.gr rs1.toNat).truncate 40
          tok := s.curOpenTok c.toNat } ∧
        (∀ j, j ≠ i → (t.sieve u).thread j = v.thread j) ∧ (t.sieve u).ready = v.ready.filter (· ≠ i) ++ [i]) ∧
    (2 ^ 40 ≤ (k.gr rs1.toNat).toNat ∨ 64 ≤ (k.gr rs2.toNat).toNat →
      ∃ t, exec (.tspawn c rd rs1 rs2) s = .next t ∧ gServed s t c.toNat rd.toNat 1) ∧
    (∀ x, (k.gr rs1.toNat).toNat < 4096 → (k.gr rs2.toNat).toNat < 64 → v.thread (k.gr rs1.toNat).toNat = x → x.state ≠ .free →
      ∃ t, exec (.tsetpri c rd rs1 rs2) s = .next t ∧ onlySieve s t u ∧ gTaken s t c.toNat rd.toNat 0 ∧
        (t.sieve u).thread (k.gr rs1.toNat).toNat = { x with prio := (k.gr rs2.toNat).toNat } ∧
        (∀ j, j ≠ (k.gr rs1.toNat).toNat → (t.sieve u).thread j = v.thread j) ∧
        (x.state = .ready → (t.sieve u).ready =
          v.ready.filter (· ≠ (k.gr rs1.toNat).toNat) ++ [(k.gr rs1.toNat).toNat]))

/-- TWAIT, TYIELD and TEXIT of a thread in kernel mode (R213), SIEVE in task mode (R110), and TEVENT (R217). -/
def Obligations.SieveServices : Prop :=
  ∀ (s : State) (c : BitVec 8) (rs1 rs2 : BitVec 5),
    let k := s.core c.toNat
    let u := stratumOf c.toNat
    let v := s.sieve u
    s.ready c.toNat (useG [] []) → s.ready c.toNat (useG [rs1.toNat] []) →
    (∀ i, k.task = false → s.current c.toNat = some i → s.curSquashed c.toNat = false →
      (∃ t, exec (.tyield c 0 0 0) s = .next t ∧ onlySieve s t u ∧ (t.sieve u).ready = v.ready.filter (· ≠ i) ++ [i] ∧
        ((t.sieve u).thread i).state = .ready ∧ ((t.sieve u).thread i).reason = 3 ∧
        t.current c.toNat = none ∧ (t.core c.toNat).g = k.g ∧ (t.core c.toNat).pc = k.pc + 4) ∧
      (∃ t, exec (.texit c 0 0 0) s = .next t ∧ onlySieve s t u ∧ (t.sieve u).thread i = Thread.free ∧
        (∀ j, j ≠ i → (t.sieve u).thread j = v.thread j) ∧
        t.current c.toNat = none ∧ (t.core c.toNat).g = k.g ∧ (t.core c.toNat).pc = k.pc + 4) ∧
      (let id : BitVec 16 := (k.gr rs1.toNat).truncate 16
       ∃ t, exec (.twait c 0 rs1 0) s = .next t ∧ onlySieve s t u ∧ ((t.sieve u).thread i).ev = id ∧
        (id.toNat ∉ v.pend → ((t.sieve u).thread i).state = .waiting ∧
          (t.sieve u).waitq = v.waitq.filter (· ≠ i) ++ [i] ∧ (t.sieve u).pend = v.pend) ∧
        (id.toNat ∈ v.pend → ((t.sieve u).thread i).state = .ready ∧ ((t.sieve u).thread i).reason = 2 ∧
          id.toNat ∉ (t.sieve u).pend ∧ (t.sieve u).ready = v.ready.filter (· ≠ i) ++ [i]) ∧
        t.current c.toNat = none ∧ (t.core c.toNat).g = k.g ∧ (t.core c.toNat).pc = k.pc + 4)) ∧
    (k.task = true → (k.crv crTstat).getLsbD 2 = false →
      (∃ t, exec (.twait c 0 rs1 0) s = .next t ∧ trapped s t c.toNat ⟨0x14, 2, 0⟩ (k.pc + 4)) ∧
      (∃ t, exec (.tyield c 0 0 0) s = .next t ∧ trapped s t c.toNat ⟨0x14, 3, 0⟩ (k.pc + 4)) ∧
      (∃ t, exec (.texit c 0 0 0) s = .next t ∧ trapped s t c.toNat ⟨0x14, 4, 0⟩ (k.pc + 4))) ∧
    (s.ready c.toNat (useG [rs1.toNat, rs2.toNat] []) →
      ∃ t, exec (.tevent c 0 rs1 rs2) s = .next t ∧
        t.flight = (s.sendEvent c.toNat ((k.gr rs1.toNat).toNat / 2 ^ 16 % 256) ((k.gr rs1.toNat).toNat % 2 ^ 16)
          ((k.gr rs2.toNat).toNat % 2 ^ 32) (s.curTok c.toNat)).flight ∧
        (t.core c.toNat).g = k.g ∧ (t.core c.toNat).pc = k.pc + 4 ∧ t.sieves = s.sieves)

/-- The flow instructions (R222, R223): FADMIT appends an item and gives its sequence number, FRELEASE and FVOID settle an ADMITTED
one; what is turned away changes only its core, with the status in rd: for FRELEASE on an item that a squash has voided in this
very cycle it may be SQUASHED (R231, log entry 106). -/
def Obligations.SieveFlows : Prop :=
  ∀ (s : State) (c : BitVec 8) (rd rs1 rs2 : BitVec 5),
    let k := s.core c.toNat
    let u := stratumOf c.toNat
    let v := s.sieve u
    let a := (k.gr rs1.toNat).toNat
    s.ready c.toNat (useG [rs1.toNat, rs2.toNat] [rd.toNat]) → s.ready c.toNat (useG [rs1.toNat] [rd.toNat]) →
    (a < 16384 → (v.flow a).en = true → (v.flow a).items.length < 1024 → v.itemCount < 65536 → s.curSquashed c.toNat = false →
      ∃ t, exec (.fadmit c rd rs1 0) s = .next t ∧ onlySieve s t u ∧
        gTaken s t c.toNat rd.toNat
          (BitVec.ofNat 64 (((v.flow a).head + BitVec.ofNat 16 (v.flow a).items.length).toNat * 2 ^ 16)) ∧
        (t.sieve u).flow a = { v.flow a with
          items := (v.flow a).items ++ [⟨.admitted, druseOf c.toNat, s.curOpenTok c.toNat, 0, none⟩] } ∧
        (∀ j, j ≠ a → (t.sieve u).flow j = v.flow j)) ∧
    (a < 16384 → (v.flow a).en = false →
      ∃ t, exec (.fadmit c rd rs1 0) s = .next t ∧ gServed s t c.toNat rd.toNat 2) ∧
    (a < 2 ^ 32 → a / 2 ^ 14 % 4 = 0 → s.ctlErr = [] →
      let f := v.flow (a % 2 ^ 14)
      let n := f.index (BitVec.ofNat 16 (a / 2 ^ 16))
      (∀ x, f.items[n]? = some x → x.state = .admitted →
        (∃ t, exec (.frelease c rd rs1 rs2) s = .next t ∧ onlySieve s t u ∧ gTaken s t c.toNat rd.toNat 0 ∧
          (t.sieve u).flow (a % 2 ^ 14) = { f with items := f.items.set n { x with
            state := .released
            payload := k.gr rs2.toNat } } ∧
          (∀ j, j ≠ a % 2 ^ 14 → (t.sieve u).flow j = v.flow j)) ∧
        (∃ t, exec (.fvoid c rd rs1 0) s = .next t ∧ onlySieve s t u ∧ gTaken s t c.toNat rd.toNat 0 ∧
          (t.sieve u).flow (a % 2 ^ 14) = { f with items := f.items.set n { x with state := .void } } ∧
          (∀ j, j ≠ a % 2 ^ 14 → (t.sieve u).flow j = v.flow j))) ∧
      ((∀ x, f.items[n]? = some x → x.state ≠ .admitted) →
        (∃ t st, exec (.frelease c rd rs1 rs2) s = .next t ∧ gServed s t c.toNat rd.toNat st ∧
          (st = 3 ∨ st = 6 ∧ ∃ x, f.items[n]? = some x ∧ x.state = .void ∧ x.sqAt = some s.time.ticks)) ∧
        (∃ t, exec (.fvoid c rd rs1 0) s = .next t ∧ gServed s t c.toNat rd.toNat 3)))

/-- The token instructions on a token of an open stop (R217, R226): TOPEN, TCOMMIT, TSQUASH, TFREE, TSTATE and TATTACH. -/
def Obligations.SieveTokens : Prop :=
  ∀ (s : State) (c : BitVec 8) (rd rs1 : BitVec 5),
    let k := s.core c.toNat
    let u := stratumOf c.toNat
    let tok := (k.gr rs1.toNat).toNat % 2 ^ 15
    let w := tokStratum tok
    let i := tok % 4096
    let x := (s.sieve w).tok i
    (s.ready c.toNat (useG [] [rd.toNat]) →
      (∀ n, (s.sieve u).freeTok = some n →
        ∃ t, exec (.topen c rd 0 0) s = .next t ∧ onlySieve s t u ∧
          gTaken s t c.toNat rd.toNat (BitVec.ofNat 64 ((u * 4096 + n) * 2 ^ 16)) ∧
          (t.sieve u).tok n = ⟨.open_, false, druseOf c.toNat, ((s.sieve u).tok n).acks, false⟩ ∧
          (∀ j, j ≠ n → (t.sieve u).tok j = (s.sieve u).tok j)) ∧
      ((s.sieve u).freeTok = none → ∃ t, exec (.topen c rd 0 0) s = .next t ∧ gServed s t c.toNat rd.toNat 2)) ∧
    (s.ready c.toNat (useG [rs1.toNat] [rd.toNat]) → s.ctlErr = [] → s.closedOnWay true (nodeOfInit c.toNat) (nodeStratum w) = false →
      (x.state = .open_ →
        (∃ t, exec (.tcommit c rd rs1 0) s = .next t ∧ gTaken s t c.toNat rd.toNat (BitVec.ofNat 64 (2 * 2 ^ 16)) ∧
          (t.sieve w).tok i = { x with
            state := .committed
            settled := false
            acks := 0
            freeN := false } ∧
          noticesSent s t) ∧
        (∃ t, exec (.tsquash c rd rs1 0) s = .next t ∧ gTaken s t c.toNat rd.toNat (BitVec.ofNat 64 (3 * 2 ^ 16)) ∧
          (t.sieve w).tok i = { x with
            state := .squashed
            settled := false
            acks := 0
            freeN := false } ∧
          noticesSent s t) ∧
        (∃ t, exec (.tfree c rd rs1 0) s = .next t ∧ gServed s t c.toNat rd.toNat (BitVec.ofNat 64 (3 + 1 * 2 ^ 16)))) ∧
      ((x.state = .committed ∨ x.state = .squashed) → x.settled = true →
        ∃ t, exec (.tfree c rd rs1 0) s = .next t ∧ gTaken s t c.toNat rd.toNat 0 ∧
          (t.sieve w).tok i = { x with
            state := .free
            settled := false
            owner := 0
            acks := 0
            freeN := true } ∧
          noticesSent s t) ∧
      (∃ t, exec (.tstate c rd rs1 0) s = .next t ∧
        gServed s t c.toNat rd.toNat (BitVec.ofNat 64 ((tokCode x.state + if x.settled then 4 else 0) * 2 ^ 16)))) ∧
    (s.ready c.toNat (useG [rs1.toNat] [rd.toNat]) →
      (s.current c.toNat = none → ∃ t, exec (.tattach c rd rs1 0) s = .next t ∧ gServed s t c.toNat rd.toNat 2) ∧
      (∀ n, s.current c.toNat = some n → (k.gr rs1.toNat).getLsbD 15 = true → s.tokView u tok = .open_ →
        ∃ t, exec (.tattach c rd rs1 0) s = .next t ∧ onlySieve s t u ∧ gTaken s t c.toNat rd.toNat 0 ∧
          (t.sieve u).thread n = { (s.sieve u).thread n with tok := some (BitVec.ofNat 15 tok) }))

/-- CTXSV and CTXLD on a block in the core's own data memory with good parity (R219, R220). -/
def Obligations.ContextBlocks : Prop :=
  ∀ (s : State) (c : BitVec 8) (rs1 : BitVec 5),
    let k := s.core c.toNat
    let a := (k.gr rs1.toNat).toNat
    s.ready c.toNat (useG [rs1.toNat] []) → k.task = false → a % 64 = 0 → coreWin c.toNat ≤ a →
    a + 320 ≤ coreWin c.toNat + 0x40000 → k.fres = [] → s.storesOut c.toNat = 0 →
    (∃ t, exec (.ctxsv c 0 rs1 0) s = .next t ∧
      (∀ r, 1 ≤ r → r ≤ 31 → t.bytesAt (a + 8 * r) 8 = toBytes 8 (k.gr r).toNat) ∧
      (∀ r, r < 32 → (ofBytes (t.bytesAt (a + 256) 4)).testBit r = (mapFind? k.pois r).isSome) ∧
      t.bytesAt (a + 260) 2 = toBytes 2 ((k.crv crTpc).toNat % 2 ^ 16) ∧
      t.bytesAt (a + 264) 8 = toBytes 8 (k.crv crVmode).toNat ∧
      t.bytesAt (a + 272) 2 = toBytes 2 k.vcount ∧ t.bytesAt (a + 274) 2 = toBytes 2 k.vresume ∧
      (∀ x, x < a ∨ a + 320 ≤ x → t.byteAt x = s.byteAt x) ∧
      (t.core c.toNat).g = k.g ∧ (t.core c.toNat).cr = k.cr ∧ (t.core c.toNat).pc = k.pc + 4) ∧
    (s.badIn a 320 = [] →
      ∃ t, exec (.ctxld c 0 rs1 0) s = .next t ∧
        (∀ r, 1 ≤ r → r ≤ 31 → (t.core c.toNat).gr r = BitVec.ofNat 64 (ofBytes (s.bytesAt (a + 8 * r) 8))) ∧
        (∀ r, 1 ≤ r → r ≤ 31 → mapFind? (t.core c.toNat).pois r =
          if (ofBytes (s.bytesAt (a + 256) 4)).testBit r then some (BitVec.ofNat 40 (a + 8 * r)) else none) ∧
        (t.core c.toNat).v = k.v ∧ (t.core c.toNat).m = k.m ∧ (t.core c.toNat).pc = k.pc + 4 ∧
        t.mem = s.mem ∧ t.regs = s.regs)

/-- The sieve's own commands, with control memory free of errors: a token command on the selected token, the end of a settle
interval, the idle gate, a stall event, the advance of a flow's head, the enable of a flow, and the serving of a waiting TDISPATCH
(R212, R221 to R228). -/
def Obligations.SieveCommands : Prop :=
  ∀ (s : State) (u : BitVec 3), s.ctlErr = [] →
    let v := s.sieve u.toNat
    let i := s.get (F.SIEVE_TOK_SEL_INDEX u.toNat)
    ((v.tok i).state = .open_ →
      exec (.commit u) s = .next (s.tokResolve u.toNat i .committed) ∧
      exec (.squash u) s = .next (s.tokResolve u.toNat i .squashed) ∧ exec (.free u) s = .next s) ∧
    (((v.tok i).state = .committed ∨ (v.tok i).state = .squashed) → (v.tok i).settled = true →
      exec (.free u) s = .next (s.tokFree u.toNat i)) ∧
    (∀ n : BitVec 12, (v.tok n.toNat).state = .committed ∨ (v.tok n.toNat).state = .squashed → (v.tok n.toNat).acks = 22 →
      exec (.settleIntervalEnd u n) s =
        .next (s.setSieve u.toNat (v.setTok n.toNat { v.tok n.toNat with settled := true }))) ∧
    (s.mayGate u.toNat = true → exec (.idleGate u) s = .next (s.setSieve u.toNat { v with gated := true })) ∧
    (∀ (f : BitVec 14) (x : Item) (l : List Item), (v.flow f.toNat).items = x :: l → (v.flow f.toNat).en = true →
      (v.flow f.toNat).age ≠ 0 → x.state = .admitted → (v.flow f.toNat).stalled = false →
      ∃ t, exec (.flowStall u f) s = .next t ∧
        (t.sieve u.toNat).flow f.toNat = { v.flow f.toNat with stalled := true } ∧
        t.on (F.SIEVE_STAT_FLOW_STALL u.toNat) = true ∧ s.flight <+: t.flight ∧ t.mem = s.mem) ∧
    (∀ (f : BitVec 14) (x : Item) (l : List Item), (v.flow f.toNat).items = x :: l → x.state = .released →
      (v.flow f.toNat).en = true → s.pushOk (v.flow f.toNat).outq = true →
      ∃ t, exec (.flowHeadAdvance u f) s = .next t ∧
        (t.sieve u.toNat).flow f.toNat = { v.flow f.toNat with
          head := (v.flow f.toNat).head + 1
          items := l
          stalled := false }) ∧
    (∀ w : Word, w.getLsbD 18 = true → (v.flow (s.get (F.SIEVE_FLOW_SEL_FLOW u.toNat))).en = false →
      (s.q (w.toNat % 2 ^ 18)).esize = 0 →
      ∃ t, exec (.flowEnable u w) s = .next t ∧
        (t.sieve u.toNat).flow (s.get (F.SIEVE_FLOW_SEL_FLOW u.toNat)) =
          ⟨w.toNat % 2 ^ 18, true, w.toNat / 2 ^ 20, 0, [], false⟩ ∧ t.regs = s.regs) ∧
    (∀ c n, v.asking.find? (fun c => (v.best (druseOf c)).isSome && !s.held c && decide ((s.core c).run = .waiting)) =
      some c → v.best (druseOf c) = some n →
      exec (.tdispatchServed u) s = .next (s.dispatch c (s.core c).waitRd n))

/-! ## Registers, resets and the start (03, 15) -/

/-- REGISTER_WRITE (R3 to R6, R82): a write that is not aligned or does not reach its block changes nothing; one that does
completes, and on a register of each access type has that type's effect and no other: RWS and RW take the value, RO and a reserved
offset nothing, W1C clears what is written as 1 and the repeat count beside it, W1S sets what is written as 1, WO does its action,
RWL takes the value until SEAL has been applied and nothing after; a register with fields of several types takes each under its
own. CLOSE and CLR_CNT of a stop (R279, R280, R292): closing keeps DRAINED and the counts and marks which packets in flight had
exit space, opening clears CLOSED and DRAINED but of a druse with a fenced macro, CLR_CNT clears the counts; no other stop, and
nothing else, changes. -/
def Obligations.RegisterCommands : Prop :=
  (∀ (s : State) (init : BitVec 12) (a : BitVec 28) (v : Word),
     (s.regReaches init.toNat a.toNat = false ∨ a.toNat % 4 ≠ 0 → exec (.registerWrite init a v) s = .next s) ∧
     (s.regReaches init.toNat a.toNat = true → ∃ t, exec (.registerWrite init a v) s = .next t ∧
       (a.toNat ∈ [R.GLOBAL_SCRATCH0, R.GLOBAL_SCRATCH1, R.GLOBAL_SCRATCH2, R.GLOBAL_SCRATCH3] →
         onlyRegs s t [a.toNat] ∧ t.reg a.toNat = v) ∧
       (a.toNat = R.QMGR_Q_SEL → onlyRegs s t [a.toNat] ∧ t.get F.QMGR_Q_SEL_QID = v.toNat % 2 ^ 18) ∧
       (a.toNat ∈ [R.GLOBAL_ID, 0x30] → onlyRegs s t []) ∧
       (∀ n : Nat, n < 112 → a.toNat = R.MEM_INIT_DONE n → onlyRegs s t [a.toNat] ∧ t.reg a.toNat = s.reg a.toNat ||| v) ∧
       (∀ n : Nat, n < 112 → a.toNat = R.MEM_INIT_CLR n →
         onlyRegs s t [R.MEM_INIT_DONE n] ∧ t.reg (R.MEM_INIT_DONE n) = s.reg (R.MEM_INIT_DONE n) &&& ~~~v) ∧
       (a.toNat = R.CAL_CTRL → onlyRegs s t [a.toNat] ∧ t.get F.CAL_CTRL_AUTO_EN = v.toNat % 2 ∧
         t.get F.CAL_CTRL_DELTA = v.toNat / 256 % 32 ∧
         t.get F.CAL_CTRL_LIVE_RUN = if s.sealed then s.get F.CAL_CTRL_LIVE_RUN else v.toNat / 2 % 2) ∧
       (a.toNat = R.MEM_STAT → onlyRegs s t [R.MEM_STAT] ∧
         t.get F.MEM_STAT_PAR_ERR = (if v.getLsbD 0 then 0 else s.get F.MEM_STAT_PAR_ERR) ∧
         t.get F.MEM_STAT_PAR_REP = (if v.getLsbD 0 then 0 else s.get F.MEM_STAT_PAR_REP) ∧
         t.get F.MEM_STAT_FENCED = s.get F.MEM_STAT_FENCED) ∧
       (∀ i : Nat, i < 32 → a.toNat = R.HOST_DB_EN i → onlyRegs s t [R.HOST_DB_EN i] ∧
         t.reg (R.HOST_DB_EN i) = if s.sealed then s.reg (R.HOST_DB_EN i) else v))) ∧
  (∀ (s : State) (n : BitVec 8), stopOk n.toNat = true →
     (∃ t, exec (.close n true) s = .next t ∧
       t = { s with
         stops := t.stops
         flight := t.flight } ∧
       (∀ m, m ≠ n.toNat → t.stop m = s.stop m) ∧ t.stop n.toNat = { s.stop n.toNat with closed := true } ∧
       t.flight.map (fun p => { p with adm := [] }) = s.flight.map (fun p => { p with adm := [] }) ∧
       ∀ (i : Nat) (p q : Packet), s.flight[i]? = some p → t.flight[i]? = some q →
         q.adm = p.adm ++ (if s.reserved n.toNat i p then [n.toNat] else [])) ∧
     (∃ t, exec (.close n false) s = .next t ∧ t = { s with stops := t.stops } ∧
       (∀ m, m ≠ n.toNat → t.stop m = s.stop m) ∧
       (s.fencedStop n.toNat = true → t.stop n.toNat = s.stop n.toNat) ∧
       (s.fencedStop n.toNat = false → t.stop n.toNat = { s.stop n.toNat with
         closed := false
         drained := false })) ∧
     (∃ t, exec (.clrCnt n) s = .next t ∧ t = { s with stops := t.stops } ∧ (∀ m, m ≠ n.toNat → t.stop m = s.stop m) ∧
       t.stop n.toNat = { s.stop n.toNat with
         posted := 0
         other := 0 }))

/-- What the reset scopes leave (R7, R70, R295, R399): State.reset has every register at its reset value and nothing in memory. A
power-on reset keeps fuses, host memory, the waiting commands and what went out, takes the straps, and leaves no memory, packet,
request, queue or core state and no seal. A warm reset, and GLOBAL_RST with its key, keep memories and parities, host memory,
fuses, repair, routes, the waiting commands and what went out, the scratch registers (RWS), the doorbell enables (RWL), the
timebases' nanoseconds and the seal; they leave no packet, request, queue or core state, the memory and fabric flags clear.
GLOBAL_RST without its key changes nothing. -/
def Obligations.ResetScopes : Prop :=
  (State.reset.mem = [] ∧ State.reset.flight = [] ∧ State.reset.reg R.GLOBAL_ID = 0x30E52816 ∧
    State.reset.get F.BOOT_STAT_SEALED = 0 ∧ (∀ a, State.reset.reg a = regReset a)) ∧
  (∀ (s : State) (b : BitVec 4), ∃ t, exec (.powerOnReset b) s = .next t ∧
    t.fuse = s.fuse ∧ t.hostMem = s.hostMem ∧ t.pending = s.pending ∧ s.out <+: t.out ∧ t.get F.GLOBAL_STRAPS_ADDR_SEL = b.toNat ∧
    t.boot.work = 1 ∧ t.mem = [] ∧ t.flight = [] ∧ t.outst = [] ∧ t.cores = [] ∧ t.queues = [] ∧ t.sealed = false) ∧
  (∀ s : State, ∃ t, exec .warmReset s = .next t ∧ exec (.globalRst 0x5A5A) s = .next t ∧
    t.mem = s.mem ∧ t.badPar = s.badPar ∧ t.hostMem = s.hostMem ∧ t.fuse = s.fuse ∧ t.macros = s.macros ∧
    t.routes = s.routes ∧ t.pending = s.pending ∧ s.out <+: t.out ∧
    t.flight = [] ∧ t.outst = [] ∧ t.idWait = [] ∧ t.cores = [] ∧ t.queues = [] ∧
    t.reg R.MEM_STAT = 0 ∧ t.reg R.VEIN_STAT = 0 ∧ (∀ i, i < 32 → t.reg (R.HOST_DB_EN i) = s.reg (R.HOST_DB_EN i)) ∧
    (∀ a ∈ [R.GLOBAL_SCRATCH0, R.GLOBAL_SCRATCH1, R.GLOBAL_SCRATCH2, R.GLOBAL_SCRATCH3], t.reg a = s.reg a) ∧
    (∀ k, k < 8 → t.reg (R.TIME_TB_NS k) = s.reg (R.TIME_TB_NS k)) ∧ t.sealed = s.sealed) ∧
  (∀ (s : State) (v : Word), v.truncate 16 ≠ 0x5A5A#16 → exec (.globalRst v) s = .next s)

/-- The start up to Live (R287, R351, R355, R356, R359, R389): each phase's command leads to the next phase, a failed copy A to a
start reset with its reason, and a command that does not belong to the phase changes nothing. -/
def Obligations.StartSequence : Prop :=
  ∀ s : State,
    (s.boot.work ≠ 1 → exec .controlMemoryCleared s = .next s) ∧
    (s.boot.work = 1 → ∃ t, exec .controlMemoryCleared s = .next t ∧ t.boot.work = 2 ∧ t.queues = [] ∧ t.sieves = [] ∧
      t.mirrors = [] ∧ t.ctlErr = [] ∧ t.host.memActive = true ∧ t.mem = s.mem ∧ ∀ a, a ≠ R.BOOT_STAT → t.reg a = s.reg a) ∧
    (s.boot.work ≠ 2 → exec .startPllLock s = .next s) ∧
    (s.boot.work = 2 → s.ctlFenced = false → ∃ t, exec .startPllLock s = .next t ∧ t.boot.work = 3 ∧ t.mem = s.mem ∧
      (∀ n, n < 4 → t.get (F.PWR_DIE_STAT_CLK n) = 7 ∧ t.get (F.PWR_DIE_STAT_ON n) = 1) ∧ ∀ c, c < 256 → t.held c = true) ∧
    (∀ (img : List Byte) (b : Bool), (s.boot.work ≠ 3 → exec (.imagePass1 img b) s = .next s) ∧
      (s.boot.work ≠ 4 → exec (.imagePass2 img b) s = .next s)) ∧
    (∀ img : List Byte, s.boot.work = 3 → s.boot.warm = false → hdrReason img (s.reg R.GLOBAL_STEP).toNat = 0 →
      ∃ t, exec (.imagePass1 img true) s = .next t ∧ t.fuse = s.fuse ∧ t.mem = s.mem ∧
        (sigReason img s.fuse = 0 → t.boot.work = 4 ∧
          t.boot.digest = imgDigest img ∧ t.boot.hdr = slice img 0 256 ∧ t.boot.cores = [] ∧
          t = { s with
            boot := t.boot
            regs := t.regs }) ∧
        (sigReason img s.fuse ≠ 0 → s.get F.BOOT_STAT_COPY = 0 → t.boot.work = 1 ∧ t.get F.BOOT_STAT_COPY = 1 ∧
          t.get F.BOOT_STAT_REASON_A = sigReason img s.fuse)) ∧
    (∀ (img : List Byte) (b : Bool), s.boot.work = 3 ∧ img.length < 256 ∧ b = false ∨
        s.boot.work = 4 ∧ imgDigest img ≠ s.boot.digest ∧ b = true →
      s.boot.warm = false → s.get F.BOOT_STAT_COPY = 0 →
      ∃ t, exec (if s.boot.work = 3 then .imagePass1 img b else .imagePass2 img b) s = .next t ∧ t.boot.work = 1 ∧
        t.get F.BOOT_STAT_COPY = 1 ∧ t.get F.BOOT_STAT_PHASE = 5 ∧
        t.get F.BOOT_STAT_REASON_A = (if s.boot.work = 3 then 11 else 10) ∧ t.mem = s.mem ∧ t.fuse = s.fuse ∧
        t.sealed = s.sealed) ∧
    (∀ (img : List Byte) (x : Sect), s.boot.work = 4 → imgDigest img = s.boot.digest → tableFault img = none → sects img = [x] →
      x.arg = 0 → x.len = 0 → s.boot.cores = [] → s.fwTmo ≠ 0 → s.on F.BOOT_FW_READY_READY = false →
      ∃ t, exec (.imagePass2 img true) s = .next t ∧ t.boot.work = 7 ∧ t.sealed = true ∧ t.mem = s.mem ∧ t.cores = s.cores) ∧
    (s.boot.work = 7 → (∃ t, exec (.ready 1) s = .next t ∧ t.boot.work = 8 ∧ t.get F.BOOT_STAT_PHASE = 8 ∧ t.mem = s.mem) ∧
      (s.fwTmo ≠ 0 → ∃ t, exec .fwTmoExpiry s = .next t ∧ t.boot.work = 8 ∧ t.on F.BOOT_STAT_FW_LATE = true ∧
        t.get F.BOOT_STAT_PHASE = 8 ∧ t.mem = s.mem)) ∧
    (s.boot.work ≠ 7 → exec .fwTmoExpiry s = .next s) ∧
    (∀ (img : List Byte) (b : Bool), s.pwr.phase ≠ .reload → exec (.reloadDone img b) s = .next s) ∧
    (∀ img : List Byte, s.pwr.phase = .reload → ∃ t, exec (.reloadDone img false) s = .next t ∧
      t.on F.PWR_STAT_RELOAD_FAIL = true ∧ t.get F.PWR_STAT_STATE = 0 ∧ t.mem = s.mem) ∧
    (∀ img : List Byte, s.pwr.phase = .reload → imgDigest img = s.bootDigest →
      exec (.reloadDone img true) s = .next ((((s.reloadSects img).boot.cores.foldl
        (fun s c => if s.druseUp (c / 8) then s.releaseCore c else s) (s.reloadSects img))).exitDone))

/-- The rollback fuses and the flash window (R346, R360): ADVANCE with KEY 0xA5 after SEAL begins to program up to the image's
security version, ROLLBACK_PROGRAMMED ends it; GO sends one command to the flash, and what it read is in the buffer. -/
def Obligations.FusesAndFlash : Prop :=
  ∀ (s : State) (v : Word),
    let ver := bitsOf (fieldAt s.boot.hdr 12 4) 6 0
    (v.getLsbD 0 = true → v.extractLsb' 8 8 = 0xA5#8 → s.sealed = true → s.fuse.rollback < ver →
      s.on F.BOOT_FUSE_ADV_BUSY = false → ∃ t, exec (.advance v) s = .next t ∧ t.on F.BOOT_FUSE_ADV_BUSY = true ∧
        t.boot = { s.boot with adv := ver } ∧ t.fuse = s.fuse ∧ t.mem = s.mem ∧ ∀ a, a ≠ R.BOOT_FUSE → t.reg a = s.reg a) ∧
    (v.getLsbD 0 = false ∨ v.extractLsb' 8 8 ≠ 0xA5#8 ∨ ver ≤ s.fuse.rollback → exec (.advance v) s = .next s) ∧
    (s.on F.BOOT_FUSE_ADV_BUSY = true → ∃ t, exec .rollbackProgrammed s = .next t ∧
      t.fuse = { s.fuse with rollback := max s.fuse.rollback s.boot.adv } ∧ t.on F.BOOT_FUSE_ADV_BUSY = false ∧
      ∀ a, a ≠ R.BOOT_FUSE → t.reg a = s.reg a) ∧
    (s.on F.BOOT_FUSE_ADV_BUSY = false → exec .rollbackProgrammed s = .next s) ∧
    (v.getLsbD 18 = true → s.sealed = false → s.on F.BOOT_FL_CTRL_BUSY = false → ∃ t l, exec (.flashGo v) s = .next t ∧
      t.out = s.out ++ [.flash (bitsOf v.toNat 7 0) (s.reg R.BOOT_FL_ADDR).toNat (min 256 (bitsOf v.toNat 16 8)) l] ∧
      (v.getLsbD 17 = false → l = []) ∧ t.on F.BOOT_FL_CTRL_BUSY = true ∧ t.mem = s.mem) ∧
    (v.getLsbD 18 = true → s.sealed = true → (fieldAt s.boot.hdr 24 4).testBit 0 = false →
      ∃ t, exec (.flashGo v) s = .next t ∧ t.out = s.out ∧ t.on F.BOOT_FL_CTRL_DENIED = true) ∧
    (∀ data : List Byte, s.on F.BOOT_FL_CTRL_BUSY = true → s.on F.BOOT_FL_CTRL_WRITE = false →
      ∃ t, exec (.flashCommandDone data) s = .next t ∧ t.on F.BOOT_FL_CTRL_BUSY = false ∧
        ∀ i, i < min 256 (s.get F.BOOT_FL_CTRL_LEN) → (t.flBuf 256).getD i 0 = data.getD i 0)

/-- The management commands (R361 to R368): the command at the head of its writer's queue is taken, one completion with status,
tag and object is made once what the read of the queue leaves behind is done, an accepted command has the effect of R362, a refused one changes no cell; a command that is not
the next one changes nothing. A cell moves DARK, WARMING, LIVE, DRAINING, DARK. MGMT_COMPLETION pushes the completion. -/
def Obligations.ManagementCommands : Prop :=
  (∀ e ∈ mgmtCmds, ∀ (s : State) (fw : Bool) (l : List Byte), s.mgmtNext = some (fw, l) → mcOp l = e.2.1 →
    let v := e.2.2 ((s.headEffect 0x120 (s.cmdQ fw) 128).hwConsume (s.cmdQ fw)) fw l
    ∃ t, exec (e.1 fw) s = .next t ∧ t.mgmt.turn = fw ∧
      (∃ k, t.mgmt.cpl = some k ∧ k.fw = fw ∧ k.tag = mcTag l ∧
        k.bytes = toBytes 1 v.status.1 ++ toBytes 1 e.2.1 ++ toBytes 2 (mcTag l) ++ toBytes 4 (mcObj l) ++ toBytes 4 v.status.2 ++
          toBytes 4 0) ∧
      (∀ u, v = .accepted u → t.corr = u.corr ∧ t.mgmt.desc = u.mgmt.desc ∧ t.flight = u.flight ∧ t.mem = u.mem ∧
        ∀ a, a ≠ R.BOOT_MGMT_DONE → a ≠ R.BOOT_MGMT_REFUSED → t.reg a = u.reg a) ∧
      (v.status.1 ≠ 0 → t.corr = s.corr ∧ t.mgmt.desc = s.mgmt.desc ∧ t.mem = s.mem)) ∧
  (∀ e ∈ mgmtCmds, ∀ (s : State) (fw : Bool), (∀ l, s.mgmtNext = some (fw, l) → mcOp l ≠ e.2.1) → exec (e.1 fw) s = .next s) ∧
  (∀ e ∈ cellMoves, ∀ (s : State) (fw : Bool) (l : List Byte), s.mgmtNext = some (fw, l) → mcOp l = e.2.1 → mcZero l [] = true →
    fw = e.2.2.1 → mcObj l < 208 → (s.desc? (mcObj l)).isSome = true → s.cellState (mcObj l) ∈ e.2.2.2.1 →
    (e.2.2.2.2 = 1 → ∀ d, s.desc? (mcObj l) = some d →
      ((s.headEffect 0x120 (s.cmdQ fw) 128).hwConsume (s.cmdQ fw)).fits (mcObj l) (cdNmax d) d = true) →
    ∃ t, exec (e.1 fw) s = .next t ∧ t.cellState (mcObj l) = e.2.2.2.2 ∧
      ∀ c, c < 208 → c ≠ mcObj l → t.cellState c = s.cellState c) ∧
  (∀ (s : State) (k : MgmtCpl), s.mgmt.cpl = some k → (s.q (s.cplQ k.fw)).esize = 0 →
    ∃ t, exec .mgmtCompletion s = .next t ∧
      (s.pushOk (s.cplQ k.fw) = false → t.mgmt = s.mgmt ∧ t.on F.BOOT_MGMT_STAT_CPL_WAIT = true ∧ t.mem = s.mem) ∧
      (s.pushOk (s.cplQ k.fw) = true → t.mgmt.cpl = none ∧
        t = (({ s with mgmt := { s.mgmt with cpl := none } }.put F.BOOT_MGMT_STAT_CPL_WAIT 0).hwPush (s.cplQ k.fw) k.bytes k.tag
          none none)))

/-! ## Time (02) -/

/-- R40: MASK copies nanoseconds and fraction of every selected timebase, as they are at that moment, into its snapshot registers;
nothing else changes. -/
def Obligations.Snapshot : Prop :=
  ∀ (s : State) (m : BitVec 8), ∃ t, exec (.mask m) s = .next t ∧
    t = { s with regs := t.regs } ∧
    (∀ k, k < 8 → m.getLsbD k = true →
      t.reg (R.TIME_TB_SNAP_NS k) = s.reg (R.TIME_TB_NS k) ∧ t.reg (R.TIME_TB_SNAP_FRAC k) = s.reg (R.TIME_TB_FRAC k)) ∧
    (∀ a, (∀ k, k < 8 → m.getLsbD k = true → a ≠ R.TIME_TB_SNAP_NS k ∧ a ≠ R.TIME_TB_SNAP_FRAC k) → t.reg a = s.reg a)

/-- R57: with VALID = 1 a new capture is discarded, sets OVR and increments OVR_REP, which saturates at 255 (R4), and leaves the
three latched values. With VALID = 0 the three values are those of the edge. -/
def Obligations.CaptureKept : Prop :=
  ∀ (s : State) (j : BitVec 5) (src : BitVec 7) (rising : Bool), s.captures j.toNat src.toNat rising = true →
    let latched (s : State) := [s.reg (R.TIME_CAP_NS j.toNat), s.reg (R.TIME_CAP_FRAC j.toNat), s.reg (R.TIME_CAP_TB0 j.toNat)]
    let tb := s.get (F.TIME_CAP_CFG_TB j.toNat)
    (s.on (F.TIME_CAP_STAT_VALID j.toNat) = true → ∃ t, exec (.capture j src rising) s = .next t ∧
      latched t = latched s ∧ t.on (F.TIME_CAP_STAT_OVR j.toNat) = true ∧
      t.get (F.TIME_CAP_STAT_OVR_REP j.toNat) = min 255 (s.get (F.TIME_CAP_STAT_OVR_REP j.toNat) + 1) ∧
      t.on (F.TIME_CAP_STAT_VALID j.toNat) = true ∧
      t = { s with
        regs := t.regs
        perf := t.perf } ∧
      ∀ a, a ≠ R.TIME_CAP_STAT j.toNat → t.reg a = s.reg a) ∧
    (s.on (F.TIME_CAP_STAT_VALID j.toNat) = false → ∃ t, exec (.capture j src rising) s = .next t ∧
      latched t = [s.reg (R.TIME_TB_NS tb), s.reg (R.TIME_TB_FRAC tb), s.now] ∧
      t.on (F.TIME_CAP_STAT_VALID j.toNat) = true ∧
      t.get (F.TIME_CAP_STAT_OVR_REP j.toNat) = s.get (F.TIME_CAP_STAT_OVR_REP j.toNat) ∧
      (s.on (F.TIME_CAP_EVT_EN j.toNat) = false → t = { s with regs := t.regs }))

/-- Reference, timebases, compare units, 1PPS inputs and PTP registers (R33 to R39, R47 to R50, R54, R62, R63, R426). -/
def Obligations.TimeCommands : Prop :=
  ∀ (s : State) (v : Word),
    (s.on F.TIME_REF_STAT_HOLDOVER = true → s.time.refGood = true → ∃ t, exec .relock s = .next t ∧
      t.on F.TIME_REF_STAT_HOLDOVER = false ∧ t.on F.TIME_REF_STAT_LOCK = true ∧ onlyRegs s t [R.TIME_REF_STAT]) ∧
    (v.getLsbD 3 = false → ∃ t, exec (.refSourceSwitch v) s = .next t ∧ onlyRegs s t [R.TIME_REF_CFG] ∧
      (s.sealed = false → t.reg R.TIME_REF_CFG &&& 3 = v &&& 3) ∧ t.on F.TIME_REF_CFG_HOLD_EXIT_AUTO = v.getLsbD 2) ∧
    (∃ t, exec .refLost s = .next t ∧ t.on F.TIME_REF_STAT_LOCK = false ∧ t.on F.TIME_REF_STAT_HOLDOVER = true ∧
      t.on F.TIME_REF_STAT_REF_LOST = true ∧ t.time = { s.time with refGood := false } ∧
      ∀ a, a ≠ R.TIME_REF_STAT → t.reg a = s.reg a) ∧
    (∃ t, exec .refGood s = .next t ∧ t.time = { s.time with refGood := true } ∧
      (∀ a, a ≠ R.TIME_REF_STAT → t.reg a = s.reg a) ∧
      t.on F.TIME_REF_STAT_HOLDOVER = (s.on F.TIME_REF_STAT_HOLDOVER && !s.on F.TIME_REF_CFG_HOLD_EXIT_AUTO)) ∧
    (∀ k : BitVec 3, (k ≠ 0 ∨ s.on (F.TIME_TB_CFG_TWIN_LOCK 0) = false) →
      (∃ t, exec (.rate k v) s = .next t ∧ onlyRegs s t [R.TIME_TB_RATE k.toNat, R.TIME_TB_STAT k.toNat] ∧
        t.reg (R.TIME_TB_RATE k.toNat) = BitVec.ofInt 32 (clampRate v) ∧
        (clampRate v ≠ v.toInt → t.on (F.TIME_TB_STAT_RATE_CLAMP k.toNat) = true)) ∧
      (s.on (F.TIME_TB_STAT_STEP_PENDING k.toNat) = false → ∃ t, exec (.stepGo k) s = .next t ∧
        t.on (F.TIME_TB_STAT_STEP_PENDING k.toNat) = true ∧
        t.stepVal k.toNat = s.reg (R.TIME_TB_STEP_NS k.toNat) ++ s.reg (R.TIME_TB_STEP_FRAC k.toNat) ∧
        ∀ a, a ≠ R.TIME_TB_STAT k.toNat → t.reg a = s.reg a)) ∧
    (s.on (F.TIME_TB_CFG_TWIN_LOCK 0) = true →
      (∃ t, exec (.rate 0 v) s = .next t ∧ exec (.stepGo 0) s = .next t ∧ onlyRegs s t [R.TIME_TB_STAT 0] ∧
        t.on (F.TIME_TB_STAT_LOCK_DISCARD 0) = true)) ∧
    (∀ k : BitVec 3, (s.stepDue k.toNat = false → exec (.stepApply k) s = .next s) ∧
      (s.stepDue k.toNat = true → exec (.stepApply k) s = .next s.tick ∧
        s.tick.tbVal k.toNat = (if s.tbOn k.toNat then (s.incTb k.toNat).tbVal k.toNat else s.tbVal k.toNat) + s.stepVal k.toNat ∧
        s.tick.reg (R.TIME_TB_STEP_AT k.toNat) = s.tick.now ∧ s.tick.on (F.TIME_TB_STAT_STEP_PENDING k.toNat) = false ∧
        s.tick.on (F.TIME_TB_STAT_STEPPED k.toNat) = true)) ∧
    (∀ k : BitVec 3, (k = 0 ∨ s.tbOn k.toNat = true) → ∀ b, exec (.timebaseValueWrite k b v) s = .next s) ∧
    (∀ k : BitVec 3, k ≠ 0 → s.tbOn k.toNat = false →
      exec (.timebaseValueWrite k false v) s = .next (s.setReg (R.TIME_TB_NS k.toNat) v) ∧
      exec (.timebaseValueWrite k true v) s = .next ((s.setReg (R.TIME_TB_FRAC k.toNat) v).setTbSub k.toNat 0)) ∧
    (∀ k : BitVec 6, (s.cmpLive k.toNat).due = false → s.get (F.TIME_CMP_CFG_MODE k.toNat) = 3 → ∃ t, exec (.arm k) s = .next t ∧
      t.on (F.TIME_CMP_STAT_BAD_CFG k.toNat) = true ∧ t.time = s.time) ∧
    (∀ k : BitVec 6, s.get (F.TIME_CMP_CFG_MODE k.toNat) = 0 → ∃ t, exec (.arm k) s = .next t ∧
      t.on (F.TIME_CMP_STAT_ARMED k.toNat) = true ∧
      (t.cmpLive k.toNat).val = s.reg (R.TIME_CMP_NS k.toNat) ++ s.reg (R.TIME_CMP_FRAC k.toNat) ∧
      (t.cmpLive k.toNat).mode = 0 ∧ (t.cmpLive k.toNat).tb = s.get (F.TIME_CMP_CFG_TB k.toNat)) ∧
    (∀ k : BitVec 6, s.on (F.TIME_CMP_STAT_ARMED k.toNat) = true → (s.cmpLive k.toNat).due = true →
      (s.cmpLive k.toNat).mode = 0 → ∃ t, exec (.compareFire k) s = .next t ∧
        t.on (F.TIME_CMP_STAT_ARMED k.toNat) = false ∧ t.cmpLive k.toNat = CmpLive.reset ∧
        (s.on (F.TIME_CMP_CFG_EN k.toNat) = true →
          t.get (F.TIME_CMP_STAT_COUNT k.toNat) = (s.get (F.TIME_CMP_STAT_COUNT k.toNat) + 1) % 2 ^ 16) ∧
        (s.on (F.TIME_CMP_CFG_EN k.toNat) = false → t.get (F.TIME_CMP_STAT_COUNT k.toNat) = s.get (F.TIME_CMP_STAT_COUNT k.toNat) ∧
          t.flight = s.flight ∧ t.out = s.out)) ∧
    (∀ (k : BitVec 6) (pin : BitVec 4) (x left : Nat), mapFind? s.time.pulse (16 * k.toNat + pin.toNat) = some (x, left) →
      (left ≠ 0 → exec (.pulseWidthEnd ⟨k, pin⟩) s = .next s) ∧
      (left = 0 → ∃ t, exec (.pulseWidthEnd ⟨k, pin⟩) s = .next t ∧
        t.time.pulse = mapErase s.time.pulse (16 * k.toNat + pin.toNat) ∧ t.regs = s.regs ∧
        t.out = if t.pinHigh x then s.out else s.out ++ [.pin x false])) ∧
    (∀ (i : BitVec 1) (hi lo : Word), s.on F.TIME_PPSIN_CFG_POL_AUTO = true →
      (ppsValid hi.toNat lo.toNat = false → ∃ t, exec (.ppsInputPeriod i hi lo) s = .next t ∧
        t.bit F.GLOBAL_PPSIN_PPS_BAD i.toNat = true ∧ t.bit F.GLOBAL_PPSIN_INV i.toNat = s.bit F.GLOBAL_PPSIN_INV i.toNat) ∧
      (ppsValid hi.toNat lo.toNat = true → mapFind? s.time.ppsLast i.toNat = some (decide (lo.toNat < hi.toNat)) →
        ∃ t, exec (.ppsInputPeriod i hi lo) s = .next t ∧
          t.bit F.GLOBAL_PPSIN_INV i.toNat = decide (lo.toNat < hi.toNat) ∧ onlyRegs { s with time := t.time } t [R.GLOBAL_PPSIN])) ∧
    (∀ p : BitVec 6, p.toNat < 33 →
      (∃ t, exec (.txtsPop p) s = .next t ∧ t.txts p.toNat = (s.txts p.toNat).tail ∧ t.regs = s.regs ∧
        ∀ q, q ≠ p.toNat → t.txts q = s.txts q) ∧
      (∃ t, exec (.epochTb p v) s = .next t ∧ mapFind? t.time.epoch p.toNat = some
          ⟨(s.reg (R.TIME_PTP_EPOCH_SEC_HI p.toNat)).truncate 16 ++ s.reg (R.TIME_PTP_EPOCH_SEC_LO p.toNat), v⟩ ∧
        onlyRegs { s with time := t.time } t [R.TIME_PTP_EPOCH_TB p.toNat]))

/-! ## Queues and movers (10) -/

/-- Doorbells, admission, TAKE, hardware pushes and the queue window (R235 to R241, R245), with control memory free of errors: what is
accepted moves HEAD, TAIL or the
accepted count of its queue and no other queue; what is refused sets its flag and moves nothing. -/
def Obligations.QueueCommands : Prop :=
  ∀ (s : State) (init : BitVec 12) (i : BitVec 18) (n : BitVec 21), s.ctlErr = [] →
    let q := s.q i.toNat
    let others (t : State) : Prop := ∀ j, j ≠ i.toNat → t.q j = s.q j
    (n ≠ 0 → q.open_ = true →
      (n.toNat ≤ q.room → ∃ t, exec (.doorbellProduce init i n) s = .next t ∧ others t ∧
        t.q i.toNat = { q with toAdmit := q.toAdmit + n.toNat } ∧
        t = { s with
          queues := t.queues
          perf := t.perf }) ∧
      (q.room < n.toNat → ∃ t, exec (.doorbellProduce init i n) s = .next t ∧ t.queues = s.queues ∧
        t.on F.QMGR_STAT_DB_FULL = true ∧ t.get F.QMGR_ERR_QID_QID = i.toNat) ∧
      (n.toNat ≤ q.fill → ∃ t, exec (.doorbellConsume init i n) s = .next t ∧ others t ∧
        (t.q i.toNat).head = (q.head + n.toNat) % 2 ^ 21 ∧ (t.q i.toNat).tail = q.tail ∧ t.mem = s.mem) ∧
      (q.fill < n.toNat → ∃ t, exec (.doorbellConsume init i n) s = .next t ∧ t.queues = s.queues ∧
        t.on F.QMGR_STAT_DB_UNDER = true)) ∧
    (n ≠ 0 → q.open_ = false → ∃ t, exec (.doorbellProduce init i n) s = .next t ∧ t.queues = s.queues ∧
        t.on F.QMGR_STAT_DB_OFF = true) ∧
    (q.toAdmit = 0 → exec (.entryAdmission i) s = .next s) ∧
    (let m := q.metaAt q.tail
     q.toAdmit ≠ 0 → m % 8 = 0 → isHostAddr m = false → s.exactResp 0x120 m 8 = rDone → s.rangeResp 0x120 m 8 true = rDone →
      fieldAt (s.bytesAt m 8) 6 2 = 0 → ∃ t, exec (.entryAdmission i) s = .next t ∧ others t ∧
        t.q i.toNat = { q with
          tail := (q.tail + 1) % 2 ^ 21
          toAdmit := q.toAdmit - 1
          marks := mapErase q.marks q.tail
          level := (t.q i.toNat).level } ∧
        t.bytesAt m 4 = toBytes 4 s.now.toNat ∧ ∀ a, a < m ∨ m + 4 ≤ a → mapFind? t.mem a = mapFind? s.mem a) ∧
    (q.open_ = false → ∃ t, exec (.qmgrTake init i) s = .next t ∧ t.queues = s.queues ∧
        t.out = s.out ++ [.readData (toBytes 4 q.head) true]) ∧
    (q.open_ = true → q.fill ≠ 0 → q.head < 2 ^ 21 → q.taken = false → s.headDead i.toNat = false →
      ∃ t x, exec (.qmgrTake init i) s = .next t ∧ others t ∧ t.q i.toNat = { q with
          taken := true
          marks := mapErase q.marks q.head } ∧
        t.out = s.out ++ [.readData (toBytes 4 x) true] ∧ x % 2 ^ 21 = q.head ∧ x.testBit 21 = true ∧ t.mem = s.mem) ∧
    (∀ (l : List Byte) (tag : BitVec 16) (tok : Option (BitVec 15)) (st : Option Word),
      (q.open_ = false → exec (.hardwarePush init i l tag tok st) s = .next s) ∧
      (s.pushOk i.toNat = true → ∃ t, exec (.hardwarePush init i l tag tok st) s = .next t ∧ others t ∧
        t.q i.toNat = { q with
          tail := (q.tail + 1) % 2 ^ 21
          marks := (t.q i.toNat).marks
          level := (t.q i.toNat).level } ∧
        ∀ a, a < q.slot q.tail ∨ q.slot q.tail + q.size ≤ a → a < q.metaAt q.tail ∨ q.metaAt q.tail + 8 ≤ a →
          mapFind? t.mem a = mapFind? s.mem a)) ∧
    (∀ v : Word, i.toNat = s.get F.QMGR_Q_SEL_QID → q.en = false →
      (∀ w : BitVec 3, w ≠ 1 → exec (.queueCfgWrite w v) s = .next ((s.setQ i.toNat (q.load w.toNat v)).qTrim i.toNat)) ∧
      (v.getLsbD 23 = true → (q.load 1 v).valid = true → exec (.queueCfgWrite 1 v) s =
        .next (s.setQ i.toNat { q.load 1 v with
          en := true
          level := false })) ∧
      (v.getLsbD 23 = true → (q.load 1 v).valid = false → ∃ t, exec (.queueCfgWrite 1 v) s = .next t ∧
        (t.q i.toNat).en = false ∧ t.on F.QMGR_STAT_CFG_BAD = true)) ∧
    (q.closing = true → q.toAdmit = 0 → exec (.queueDisable i) s = .next (s.setQ i.toNat { q with
      en := false
      closing := false })) ∧
    (q.closing = false ∨ q.toAdmit ≠ 0 → exec (.queueDisable i) s = .next s)

/-- The commands of a mover channel (R251, R257, R258): each acts in the states that list it and sets CMD_REFUSED in the others;
the ends of fetch, transfer and failure (R252, R254, R257). A well-formed descriptor without token, pacing and eMark whose
source and destination are written device memory that every access reaches and no host cache holds: DESCRIPTOR_FETCHED copies exactly its bytes (R249,
R252). -/
def Obligations.Movers : Prop :=
  (∀ (s : State) (k : BitVec 4) (h : BitVec 7), chanOk k.toNat h.toNat = true →
     let st := s.chState k.toNat h.toNat
     let c := s.chan k.toNat h.toNat
     let refuses (i : Instr) : Prop := ∃ t, exec i s = .next t ∧ t.on (F.MOVER_CH_STAT_CMD_REFUSED k.toNat h.toNat) = true ∧
       onlyRegs s t [R.MOVER_CH_STAT k.toNat h.toNat]
     (st = chIdle → ∃ t, exec (.start k h) s = .next t ∧ t.chState k.toNat h.toNat = chRun ∧
       (t.chan k.toNat h.toNat).phase = .fetch ∧ t.mem = s.mem ∧
       t.chCur k.toNat h.toNat = s.get (F.MOVER_CH_HEAD_HI_HEAD_HI k.toNat h.toNat) * 2 ^ 32 +
         s.get (F.MOVER_CH_HEAD_LO_HEAD k.toNat h.toNat) / 32 * 32) ∧
     (st ≠ chIdle → refuses (.start k h)) ∧
     (st = chRun → c.phase ≠ .push → exec (.stop k h) s = .next (s.setChState k.toNat h.toNat chStopping)) ∧
     (st = chPaused ∨ st = chEwait ∨ st = chHalted → ∃ t, exec (.stop k h) s = .next t ∧ t.chState k.toNat h.toNat = chIdle ∧
       (t.chan k.toNat h.toNat).phase = .none ∧ t.mem = s.mem) ∧
     (st = chIdle → refuses (.stop k h)) ∧
     (st = chHalted → (s.on (F.MOVER_CH_ERR_HI_FETCH k.toNat h.toNat) = true ∨ s.on (F.MOVER_CH_ERR_HI_FMT k.toNat h.toNat) = true) →
       ∃ t, exec (.retry k h) s = .next t ∧ t.chState k.toNat h.toNat = chRun ∧ (t.chan k.toNat h.toNat).phase = .fetch ∧
         t.chCur k.toNat h.toNat = s.chCur k.toNat h.toNat) ∧
     (st = chHalted → s.on (F.MOVER_CH_ERR_HI_FETCH k.toNat h.toNat) = false →
       (s.on (F.MOVER_CH_ERR_HI_FMT k.toNat h.toNat) = false → exec (.retry k h) s = .next (s.chBegin k.toNat h.toNat)) ∧
       (s.rangeResp (moverInit k.toNat) (s.chCur k.toNat h.toNat + 24) 4 true = rDone →
         ∃ t, exec (.skip k h) s = .next t ∧ t.on (F.MOVER_CH_STAT_BAD_SEEN k.toNat h.toNat) = true ∧
           t.get (F.MOVER_CH_DONE_DONE k.toNat h.toNat) = (s.get (F.MOVER_CH_DONE_DONE k.toNat h.toNat) + 1) % 2 ^ 32)) ∧
     (st ≠ chHalted → refuses (.retry k h) ∧ refuses (.skip k h)) ∧
     (∃ t, exec (.shadowArm k h) s = .next t ∧ t.on (F.MOVER_CH_STAT_SHADOW_VALID k.toNat h.toNat) = true ∧
       onlyRegs s t [R.MOVER_CH_STAT k.toNat h.toNat]) ∧
     (∀ v : Word, (∃ t, exec (.shadowWrite k h false v) s = .next t ∧
         t.on (F.MOVER_CH_STAT_SHADOW_VALID k.toNat h.toNat) = false ∧ t.shadowHead k.toNat h.toNat =
           s.get (F.MOVER_CH_SHADOW_HI_SHADOW_HI k.toNat h.toNat) * 2 ^ 32 + v.toNat / 32 * 32) ∧
       (∃ t, exec (.shadowWrite k h true v) s = .next t ∧ t.on (F.MOVER_CH_STAT_SHADOW_VALID k.toNat h.toNat) = false ∧
         t.get (F.MOVER_CH_SHADOW_HI_SHADOW_HI k.toNat h.toNat) = v.toNat % 256)) ∧
     (c.phase = .fetch → st = chStopping → ∃ t, exec (.descriptorFetched k h) s = .next t ∧ t.chState k.toNat h.toNat = chIdle) ∧
     (let r := s.readResp (moverInit k.toNat) (s.chCur k.toNat h.toNat) 32
      c.phase = .fetch → st ≠ chStopping → r ≠ rDone → ∃ t, exec (.descriptorFetched k h) s = .next t ∧
       t.chState k.toNat h.toNat = chHalted ∧ t.on (F.MOVER_CH_ERR_HI_FETCH k.toNat h.toNat) = true ∧
       t.get (F.MOVER_CH_ERR_HI_RESP k.toNat h.toNat) = r ∧
       t.reg (R.MOVER_CH_ERR_LO k.toNat h.toNat) = BitVec.ofNat 32 (s.chCur k.toNat h.toNat) ∧
       (s.trackedIn (s.chCur k.toNat h.toNat) 32 = [] → t.mem = s.mem)) ∧
     (st ≠ chPaused → exec (.pacingTest k h) s = .next s) ∧
     (st = chPaused → exec (.pacingTest k h) s = .next (s.chPaceStep k.toNat h.toNat) ∧
       (s.get (F.MOVER_CH_CFG_PACE k.toNat h.toNat) = 1 → (s.q (s.get (F.MOVER_CH_PACEQ_QID k.toNat h.toNat))).open_ = false →
         (s.chPaceStep k.toNat h.toNat).chState k.toNat h.toNat = chPaused)) ∧
     (c.phase = .moved → c.squash = false → dQadv c.desc = false → dLast c.desc = true →
       s.on (F.MOVER_CH_STAT_SHADOW_VALID k.toNat h.toNat) = false →
       ∃ t, exec (.descriptorEnd k h) s = .next t ∧ t.chState k.toNat h.toNat = chIdle ∧ s.flight <+: t.flight ∧ t.mem = s.mem ∧
         t.get (F.MOVER_CH_DONE_DONE k.toNat h.toNat) = (s.get (F.MOVER_CH_DONE_DONE k.toNat h.toNat) + 1) % 2 ^ 32) ∧
     (c.phase = .push → c.squash = false → s.pushOk (s.get (F.MOVER_CH_PACEQ_QID k.toNat h.toNat)) = true →
       ∃ t, exec (.drainPush k h) s = .next t ∧
         t.get (F.MOVER_CH_DONE_DONE k.toNat h.toNat) = (s.get (F.MOVER_CH_DONE_DONE k.toNat h.toNat) + 1) % 2 ^ 32) ∧
     (∀ w r a, c.phase = .failed w r a → r < 8 → s.on (F.MOVER_CH_CFG_POLICY k.toNat h.toNat) = true →
       ∃ t, exec (.transferFailure k h) s = .next t ∧ t.chState k.toNat h.toNat = chHalted ∧
         t.get (F.MOVER_CH_ERR_HI_RESP k.toNat h.toNat) = r ∧ t.on (F.MOVER_CH_ERR_HI_DIR k.toNat h.toNat) = w ∧
         t.on (F.MOVER_CH_ERR_HI_FETCH k.toNat h.toNat) = false ∧
         t.reg (R.MOVER_CH_ERR_LO k.toNat h.toNat) = BitVec.ofNat 32 a ∧ t.mem = s.mem)) ∧
  (∀ (s : State) (k : BitVec 4) (h : BitVec 7), chanOk k.toNat h.toNat = true →
     let d := s.engBytes (s.chCur k.toNat h.toNat) 32
     let src := granules (dSrc d) (dLen d)
     (s.chan k.toNat h.toNat).phase = .fetch → s.chState k.toNat h.toNat = chRun →
     s.readResp (moverInit k.toNat) (s.chCur k.toNat h.toNat) 32 = rDone →
     s.descFails d = false → dTokV d = false → dEwait d = false → s.get (F.MOVER_CH_CFG_PACE k.toNat h.toNat) = 0 →
     isHostAddr (dSrc d) = false → isHostAddr (dDst d) = false → s.trackedIn (s.chCur k.toNat h.toNat) 32 = [] →
     s.trackedIn (dSrc d) (dLen d) = [] → s.trackedIn (dDst d) (dLen d) = [] →
     (∀ a, src.1 ≤ a → a < src.1 + src.2 → s.accessResp (moverInit k.toNat) a false = rDone ∧
       (mapFind? s.mem a).isSome = true ∧ a ∉ s.badPar) →
     (∀ a, dDst d / 64 * 64 ≤ a → a < dDst d + dLen d → s.accessResp (moverInit k.toNat) a true = rDone) →
     ∃ t, exec (.descriptorFetched k h) s = .next t ∧
       t.bytesAt (dDst d) (dLen d) = s.bytesAt (dSrc d) (dLen d) ∧
       (∀ a, a < dDst d ∨ dDst d + dLen d ≤ a → mapFind? t.mem a = mapFind? s.mem a) ∧
       (t.chan k.toNat h.toNat).phase = .moved ∧ t.get (F.MOVER_CH_REMAIN_REMAIN k.toNat h.toNat) = 0 ∧
       t.chState k.toNat h.toNat = chRun ∧ t.queues = s.queues)

/-! ## The vein fabric and memory (11, 12) -/

/-- Requests at their targets (R268, R269, R276, R279, R285, R286, R88): one whose parity fails is dropped and counted; one that
comes before its turn changes nothing; one that is not for its address's stop is answered NO_TARGET, one that meets a closed
stop DOMAIN_OFF, a posted write there is dropped, counted and delivered; at device memory a read answers its bytes, a write
stores exactly its bytes, a word with a double-bit error poisoned and counted, an atomic answers the old word and writes the
new one; at a register the word. -/
def Obligations.FabricRequests : Prop :=
  ∀ (s : State) (p : Packet),
    let a := pktAddr p
    let n := pktLen p
    let rd := { p with op := 0 }
    let wr := { p with op := 1 }
    let wp := { p with op := 2 }
    let am := { p with op := 3 }
    let same (t : State) : Prop := t.mem = s.mem ∧ t.badPar = s.badPar ∧ t.regs = s.regs
    let answers (q x : Packet) (op : BitVec 4) (resp : BitVec 3) : Prop :=
      x.op = op ∧ x.resp = resp ∧ x.init = p.init ∧ x.txn = p.txn ∧ x.echo = q.stamp ∧ x.dst = BitVec.ofNat 8 (pktSrc p)
    (p.hperr ≠ 0 → ∀ e ∈ [(.rd p, 0), (.wr p, 1), (.wrp p, 2), (.atom p, 3), (.rdrsp p, 4), (.wrrsp p, 5), (.evt p, 6), (.emark p, 7),
        (.tokack p, 9), (.dlvd p, (10 : BitVec 4))], ∃ t, exec e.1 s = .next t ∧ t.flight = s.flight.erase { p with op := e.2 } ∧
        t.mem = s.mem ∧ t.outst = s.outst ∧ t.cores = s.cores ∧ t.sieves = s.sieves ∧ t.on F.VEIN_STAT_PAR_DROP = true) ∧
    (pktParityOk rd = true → s.mustWait rd = true → exec (.rd p) s = .next s) ∧
    (pktParityOk wr = true → s.mustWait wr = true → exec (.wr p) s = .next s) ∧
    (pktParityOk rd = true → s.mustWait rd = false → nodeOfAddr a ≠ some p.dst.toNat →
      ∃ t x, exec (.rd p) s = .next t ∧ same t ∧ t.flight = s.flight.erase rd ++ [x] ∧ answers rd x 4 2) ∧
    (pktParityOk rd = true → s.mustWait rd = false → nodeOfAddr a = some p.dst.toNat → (s.closedStop rd).isSome = true →
      ∃ t x, exec (.rd p) s = .next t ∧ same t ∧ t.flight = s.flight.erase rd ++ [x] ∧ answers rd x 4 3) ∧
    (∀ m, pktParityOk wp = true → s.mustWait wp = false → s.closedStop wp = some m →
      ∃ t x, exec (.wrp p) s = .next t ∧ same t ∧ t.flight = s.flight.erase wp ++ [x] ∧ x.op = 10 ∧ x.txn = p.txn ∧
        x.init = p.init ∧ (t.stop m).posted = oneMore (s.stop m).posted) ∧
    (nodeOfAddr a = some p.dst.toNat → (∀ op ∈ [(0 : BitVec 4), 1, 2, 3], s.closedStop { p with op := op } = none) →
      isMemAddr a = true → isHostAddr a = false → s.trackedFrom p 0 = none → p.hperr = 0 → p.sbe = 0 →
      (p.dbe = 0 → s.mustWait rd = false → s.windowResp a false = rDone → p.spec = true →
        ∃ t x, exec (.rd p) s = .next t ∧ same t ∧ t.flight = s.flight.erase rd ++ [x] ∧
          answers rd x 4 (if (s.badIn a n).isEmpty then 0 else 1) ∧ x.data = s.bytesAt a n ∧ x.poison = s.poisonIn a n) ∧
      (s.windowResp a true = rDone → p.dbe = 1#32 <<< (a % 256 / 8) → p.poison = 0 → p.data.length = n → s.mustWait wr = false →
        ∃ t, exec (.wr p) s = .next t ∧ t.on F.VEIN_STAT_DBE = true ∧ t.bytesAt a n = p.data ∧ t.wordPoisoned a = true ∧
          (t.reg R.VEIN_ERR_LOC).toNat = p.dst.toNat + 2 ^ 8 + p.init.toNat * 2 ^ 12) ∧
      (p.dbe = 0 → s.windowResp a true = rDone → p.poison = 0 → p.data.length = n →
        (s.mustWait wr = false → ∃ t x, exec (.wr p) s = .next t ∧ t.bytesAt a n = p.data ∧ t.badIn a n = [] ∧
          (∀ b, b < a ∨ a + n ≤ b → t.byteAt b = s.byteAt b ∧ t.badAt b = s.badAt b) ∧ t.regs = s.regs ∧
          t.flight = s.flight.erase wr ++ [x] ∧ answers wr x 5 0) ∧
        (s.mustWait wp = false → ∃ t x, exec (.wrp p) s = .next t ∧ t.bytesAt a n = p.data ∧
          (∀ b, b < a ∨ a + n ≤ b → t.byteAt b = s.byteAt b ∧ t.badAt b = s.badAt b) ∧ t.regs = s.regs ∧
          t.flight = s.flight.erase wp ++ [x] ∧ x.op = 10 ∧ x.txn = p.txn)) ∧
      (p.dbe = 0 → s.mustWait am = false → s.windowResp a true = rDone → atomHome a = true → s.badIn a 8 = [] →
        ∃ t x, exec (.atom p) s = .next t ∧ t.flight = s.flight.erase am ++ [x] ∧ answers am x 4 0 ∧
          x.data = s.bytesAt a 8 ∧ t.bytesAt a 8 = toBytes 8 (atomWord p.atomfn.toNat
            (BitVec.ofNat 64 (ofBytes (s.bytesAt a 8))) (BitVec.ofNat 64 (ofBytes (slice p.data 0 8)))).toNat ∧
          ∀ b, b < a ∨ a + 8 ≤ b → mapFind? t.mem b = mapFind? s.mem b)) ∧
    (a = R.GLOBAL_SCRATCH0 → n = 4 → nodeOfAddr a = some p.dst.toNat → p.hperr = 0 → p.pperr = 0 →
      (s.closedStop rd = none → s.mustWait rd = false → ∃ t x, exec (.rd p) s = .next t ∧ same t ∧ t.flight = s.flight.erase rd ++ [x] ∧
        answers rd x 4 0 ∧ x.data = toBytes 4 (s.reg R.GLOBAL_SCRATCH0).toNat) ∧
      (s.closedStop wr = none → s.mustWait wr = false → ∃ t x, exec (.wr p) s = .next t ∧ t.mem = s.mem ∧
        t.reg R.GLOBAL_SCRATCH0 = BitVec.ofNat 32 (ofBytes (slice p.data 0 4)) ∧
        (∀ b, b ≠ R.GLOBAL_SCRATCH0 → t.reg b = s.reg b) ∧ t.flight = s.flight.erase wr ++ [x] ∧ answers wr x 5 0))

/-- R80: a write from any agent to the instruction memory of a core that is neither held nor halted is not performed, and its request is
answered RIGHTS; a read of instruction memory is answered with its bytes. -/
def Obligations.InstructionMemoryGuard : Prop :=
  ∀ (s : State) (p : Packet) (c off : Nat),
    tgtOf (pktAddr p) = .core c off → 0x40000 ≤ off → off < 0x50000 → nodeOfAddr (pktAddr p) = some p.dst.toNat →
    (∀ op ∈ [(0 : BitVec 4), 1, 2, 3], s.closedStop { p with op := op } = none) → s.trackedFrom p 0 = none →
    p.hperr = 0 → p.dbe = 0 →
    (s.coreLive c = true → s.mustWait { p with op := 1 } = false → ∃ t x, exec (.wr p) s = .next t ∧
      t.mem = s.mem ∧ t.badPar = s.badPar ∧ t.flight = s.flight.erase { p with op := 1 } ++ [x] ∧ x.op = 5 ∧ x.resp = 5 ∧
      x.init = p.init ∧ x.txn = p.txn) ∧
    (s.coreLive c = true → s.mustWait { p with op := 2 } = false → ∃ t, exec (.wrp p) s = .next t ∧
      t.mem = s.mem ∧ t.badPar = s.badPar) ∧
    (s.coreLive c = true → s.mustWait { p with op := 3 } = false → ∃ t, exec (.atom p) s = .next t ∧
      t.mem = s.mem ∧ t.badPar = s.badPar) ∧
    (s.mustWait { p with op := 0 } = false → ∃ t x, exec (.rd p) s = .next t ∧
      t.flight = s.flight.erase { p with op := 0 } ++ [x] ∧ x.op = 4 ∧ x.data = s.bytesAt (pktAddr p) (pktLen p) ∧
      (x.resp = 0 ∨ x.resp = 1)) ∧
    (s.coreLive c = true → ∀ (init : Nat) (l : List Byte) (ns : Bool), off + l.length ≤ 0x50000 →
      s.engWrite init (pktAddr p) l ns = s)

/-- What answers a request, and the events and notices of the fabric (R100, R102, R215, R227 to R229, R255, R264, R274, R278, R280,
R335). -/
def Obligations.FabricAnswers : Prop :=
  ∀ (s : State) (p : Packet),
    let rs := { p with op := 4 }
    let ws := { p with op := 5 }
    let ev := { p with op := 6 }
    let em := { p with op := 7 }
    p.hperr = 0 → p.pperr = 0 → p.sbe = 0 → p.dbe = 0 → s.idWait = [] →
    (∀ r rd size sg, s.mustWait rs = false → s.drainedStop rs = none → s.matchReq rs = some r → r.kind = .load rd size sg →
      pktRespFor rs r = 0 → rd ≠ 0 →
      mapFind? (s.core r.init.toNat).pend rd = some r.txn → (∀ x ∈ s.snaps, x.err = none) →
      ∃ t, exec (.rdrsp p) s = .next t ∧ (t.core r.init.toNat).gr rd = extendLoad size sg (slice p.data 0 size) ∧
        (∀ x, x ≠ rd → (t.core r.init.toNat).gr x = (s.core r.init.toNat).gr x) ∧
        mapFind? (t.core r.init.toNat).pend rd = none ∧ t.outst = s.outst.erase r ∧ t.flight = s.flight.erase rs ∧
        t.mem = s.mem ∧ t.regs = s.regs) ∧
    (s.mustWait ws = false → s.drainedStop ws = none → (∀ r, s.matchReq ws = some r → r.kind = .store →
        (p.resp = 0 → exec (.wrrsp p) s = .next ((s.arrive ws).endReq r)) ∧
        (p.resp ≠ 0 → exec (.wrrsp p) s =
          .next (((s.arrive ws).endReq r).mapCore r.init.toNat (fun k => { k with
            deferred := k.deferred ++ [(⟨0x08, p.resp.toNat, r.addr⟩ : Deferred)] })))) ∧
      (s.matchReq ws = none → ∃ t, exec (.wrrsp p) s = .next t ∧ t.on F.VEIN_STAT_LATE_RSP = true ∧ t.outst = s.outst ∧
        t.cores = s.cores ∧ t.flight = s.flight.erase ws)) ∧
    (∀ u, s.closedStop ev = none → s.closedStop em = none → stratumOfNode p.dst.toNat = some u →
      exec (.evt p) s = .next ((s.arrive ev).event u p.eventId (if p.tokV then some p.token else none)
        (pktWord p) (pktStamp p)) ∧
      (p.tokV = false → (s.sieve u).waitq = [] → p.eventId.toNat ∉ (s.sieve u).pend →
        ∃ t, exec (.evt p) s = .next t ∧ p.eventId.toNat ∈ (t.sieve u).pend ∧ (t.sieve u).threads = (s.sieve u).threads) ∧
      (p.channel.toNat < 64 → s.chState u p.channel.toNat ≠ chEwait → s.get (F.MOVER_CH_STAT_EMARKS u p.channel.toNat) < 255 →
        ∃ t, exec (.emark p) s = .next t ∧ t.get (F.MOVER_CH_STAT_EMARKS u p.channel.toNat) =
          s.get (F.MOVER_CH_STAT_EMARKS u p.channel.toNat) + 1)) ∧
    (∀ m,
      (s.closedStop ev = some m → ∃ t, exec (.evt p) s = .next t ∧ t.sieves = s.sieves ∧
        (t.stop m).other = oneMore (s.stop m).other) ∧
      (s.closedStop em = some m → ∃ t, exec (.emark p) s = .next t ∧ t.regs = s.regs ∧ (t.stop m).other = oneMore (s.stop m).other)) ∧
    (s.flight = [{ p with op := 8 }] → s.closedStop { p with op := 8 } = none → p.channel = 21 →
      (2 ≤ p.state.toNat → ∃ t x, exec (.tokn p) s = .next t ∧
        t.mirror recvQm p.token.toNat = (if p.state = 2 then .committed else .squashed) ∧ t.flight = [x] ∧ x.op = 9 ∧
        x.token = p.token ∧ x.txn = p.txn) ∧
      (p.state = 0 → ∃ t x, exec (.freeNotice p) s = .next t ∧ t.mirror recvQm p.token.toNat = .open_ ∧ t.flight = [x] ∧ x.op = 9)) ∧
    (∀ r tok t0 fr, s.drainedStop { p with op := 9 } = none → s.findReq p.init p.txn = some r → r.kind = .notice tok t0 fr →
      exec (.tokack p) s = .next (((s.arrive { p with op := 9 }).endReq r).tokAcked tok.toNat fr)) ∧
    (∀ r, s.drainedStop { p with op := 10 } = none → s.findReq p.init p.txn = some r → r.kind = .other →
      exec (.dlvd p) s = .next ((s.arrive { p with op := 10 }).endReq r)) ∧
    (∀ n : BitVec 8, stopOk n.toNat = true → (11 ≤ p.op.toNat → ∃ t, exec (.badOp p n) s = .next t ∧
      t.on F.VEIN_STAT_BAD_OP = true ∧ t.flight = s.flight.erase p ∧ t.mem = s.mem ∧ t.outst = s.outst)) ∧
    (∀ r, s.findReq p.init p.txn = some r → r.kind = .store → ∃ t, exec (.requestTimeout p.init p.txn) s = .next t ∧
      t.outst = s.outst.erase r ∧ t.resIds = s.resIds ++ [(r.init, r.txn)] ∧
      (t.core r.init.toNat).deferred = (s.core r.init.toNat).deferred ++ [⟨0x08, rTimeout, r.addr⟩] ∧ t.mem = s.mem) ∧
    (∀ n : BitVec 8, stopOk n.toNat = true → (s.drainDone n.toNat = false → exec (.drained n) s = .next s) ∧
      (s.drainDone n.toNat = true → s.pwr.phase ≠ .drain → exec (.drained n) s =
        .next (s.setStop n.toNat { s.stop n.toNat with drained := true }))) ∧
    (∀ q h, s.host.reqs.find? (fun q => decide (q.init = p.init) && decide (q.txn = p.txn)) = some q → s.hpa? (pktAddr q) = some h →
      q.op = 1 → s.hostCached (pktAddr q) false = false → s.host.dc = [] →
      ∃ t, exec (.hostMemoryResponse p) s = .next t ∧ t.host.reqs = s.host.reqs.erase q ∧ t.mem = s.mem ∧
        (∀ i, i < (q.data.take (pktLen q)).length → mapFind? t.hostMem (h + i) = some ((q.data.take (pktLen q)).getD i 0)) ∧
        ∀ b, b < h ∨ h + (q.data.take (pktLen q)).length ≤ b → mapFind? t.hostMem b = mapFind? s.hostMem b)

/-- Patrol, initialisation marks, retention banks and calibration (R288, R290, R293, R294, R395 to R405). -/
def Obligations.MemoryAndCalibration : Prop :=
  ∀ s : State,
    (∀ (e : BitVec 3) (j g : Nat), e.toNat < 4 → mapGet s.patrol (0, 0) e.toNat = (j, g) → g < 1023 →
      s.patrols (patrolMacro e.toNat j) = true → patrolMacro e.toNat j < 3584 →
      let a := macroBase (patrolMacro e.toNat j) + 64 * g
      ∃ t, exec (.patrolRead e) s = .next t ∧ mapGet t.patrol (0, 0) e.toNat = (j, g + 1) ∧ t.mem = s.mem ∧ t.badPar = s.badPar ∧
        (s.badIn a 64 = [] → t.regs = s.regs ∧ t.reports = s.reports) ∧
        (s.ordinaryBad a 64 ≠ [] → t.on F.MEM_STAT_PATROL_ERR = true ∧
          t.reg R.MEM_ERR_ADDR_LO = BitVec.ofNat 32 a)) ∧
    (∀ e : BitVec 3, e.toNat < 5 → (∀ m, s.patrols m = false) → exec (.patrolRead e) s = .next s) ∧
    (∀ (n : BitVec 7) (v : Word), n.toNat < 112 →
      exec (.clr n v) s = .next (s.setReg (R.MEM_INIT_DONE n.toNat) (s.reg (R.MEM_INIT_DONE n.toNat) &&& ~~~ v))) ∧
    (∀ (b : BitVec 4) (mv : BitVec 16),
      (s.bit F.MEM_RET_STAT_ARMED b.toNat = false ∨ s.holdMv b.toNat ≤ mv.toNat → exec (.sentinelTrip ⟨b, mv⟩) s = .next s) ∧
      (s.bit F.MEM_RET_STAT_ARMED b.toNat = true → mv.toNat < s.holdMv b.toNat → ∃ t, exec (.sentinelTrip ⟨b, mv⟩) s = .next t ∧ b.toNat ∈ t.tripped ∧
        t.regs = s.regs ∧ ∀ a, mapFind? t.mem a =
          if bankBase b.toNat ≤ a ∧ a < bankBase b.toNat + 0x100000 then none else mapFind? s.mem a)) ∧
    (∀ b : BitVec 4, s.pwr.phase = .banks → s.dieOn (b.toNat / 4) = true → s.bankReleased b.toNat = false →
      (s.bankEnd b.toNat).banksReleased = false → ∃ t, exec (.retentionScanEnd b) s = .next t ∧ t.bankReleased b.toNat = true ∧
        fieldOf (t.reg R.MEM_RET_CAUSE) ⟨R.MEM_RET_CAUSE, 2 * b.toNat, 2⟩ = s.bankCause b.toNat ∧
        (s.bankCause b.toNat ≠ 0 → t.bit F.MEM_RET_LOST_LOST b.toNat = true) ∧ t.mem = s.mem ∧ t.badPar = s.badPar) ∧
    (∀ b : BitVec 4, s.pwr.phase ≠ .banks → exec (.retentionScanEnd b) s = .next s) ∧
    (∀ (k : BitVec 5) (x : BitVec 12), s.diePowered (sensorDie k.toNat) = true →
      (∃ t, exec (.sensorConversion k x true) s = .next t ∧ t.get (F.CAL_TEMP_TEMP k.toNat) = x.toNat ∧
        t.on (F.CAL_TEMP_VALID k.toNat) = true ∧ t.mem = s.mem) ∧
      (∃ t, exec (.sensorConversion k x false) s = .next t ∧ t.on (F.CAL_TEMP_VALID k.toNat) = false ∧ t.mem = s.mem)) ∧
    (∀ v : BitVec 5, ∃ t, exec (.run v) s = .next t ∧ t.mem = s.mem ∧ ∀ n, n < 5 →
      (v.getLsbD n = true → s.diePowered n = true → t.bit F.CAL_STAT_BUSY n = true ∧
        (s.bit F.CAL_STAT_BUSY n = true → t.bit F.CAL_STAT_PEND n = true) ∧
        (s.bit F.CAL_STAT_BUSY n = false → mapFind? t.cal.done n = some 0)) ∧
      (v.getLsbD n = false → t.bit F.CAL_STAT_BUSY n = s.bit F.CAL_STAT_BUSY n)) ∧
    (∀ (e : BitVec 3) (k : Nat) (code : BitVec 10) (lock : Bool), dieOk e.toNat = true → s.bit F.CAL_STAT_BUSY e.toNat = true →
      mapFind? s.cal.done e.toNat = some k → k + 1 < (dieItems e.toNat).length → (dieItems e.toNat).getD k 0 < 37 →
      ∃ t, exec (.itemMeasured e code lock) s = .next t ∧ mapFind? t.cal.done e.toNat = some (k + 1) ∧
        sgn 16 (t.get (F.CAL_ITEM_USER_USER ((dieItems e.toNat).getD k 0))) =
          (code.toNat : Int) - s.get (F.CAL_ITEM_FUSE_FUSE ((dieItems e.toNat).getD k 0))) ∧
    (∀ (e : BitVec 3) (code : BitVec 10) (lock : Bool), dieOk e.toNat = true → s.bit F.CAL_STAT_BUSY e.toNat = false →
      exec (.itemMeasured e code lock) s = .next s) ∧
    (s.pwr.dormant = true → exec .tapStep s = .next s) ∧
    (s.pwr.dormant = false → ∃ t, exec .tapStep s = .next t ∧ t.mem = s.mem ∧ ∀ i, i < 146 →
      let a := s.get (F.CAL_ITEM_APPLIED_APPLIED i)
      let e := s.get (F.CAL_ITEM_EFF_EFF i)
      t.get (F.CAL_ITEM_APPLIED_APPLIED i) = if a < e then a + 1 else if e < a then a - 1 else a)

/-! ## The corridor engine and the mills (07, 08) -/

/-- The corridor tick and the table window (R183, R184, R208). A tick is due from CORR_TICK_NEXT on; it sets the next one, and with
nothing tracked, no input queue, no valid cell and no error in its tables only brings the table writes of earlier amendments
into force. -/
def Obligations.CorridorCommands : Prop :=
  ∀ (s : State) (v : Word),
    let late := (s.now - s.reg R.CORR_TICK_NEXT).toNat
    let z : State := { s with corr := s.corr.step s.now }
    (s.on F.CORR_CTRL_EN = false ∨ 2 ^ 31 ≤ late ∨ s.pwr.dormant = true ∨ s.get F.PWR_STAT_STATE = 3 →
      exec .corridorTick s = .next s) ∧
    (s.on F.CORR_CTRL_EN = true → late < 2 ^ 31 → s.pwr.dormant = false → s.get F.PWR_STAT_STATE ≠ 3 →
      ∃ t, exec .corridorTick s = .next t ∧
        (s.ctlErr = [] → s.on F.CORR_INQ0_EN = false → s.on F.CORR_INQ1_EN = false → (∀ k, k < 1024 → z.trInit k = false) →
          (∀ c, 64 ≤ c → c < 80 → wbit (z.cw 3 c 2) 26 = false ∧ z.cellValid c = false) →
          t.reg R.CORR_TICK_NEXT = s.reg R.CORR_TICK_NEXT + BitVec.ofNat 32 (250000 * (late / 250000 + 1)) ∧
          (250000 ≤ late → t.on F.CORR_STAT_OVERRUN = true) ∧ t.corr.tbl = z.corr.tbl ∧ t.corr.pend = z.corr.pend ∧
          (∀ e ∈ t.corr.pend, stampEarlier e.stamp s.now = false) ∧ t.mem = s.mem ∧
          t.queues = s.queues ∧ t.flight = s.flight)) ∧
    (s.on F.CORR_CTRL_EN = true → ∃ t, exec (.corrTblData v) s = .next t ∧ t.on F.CORR_STAT_WR_DENIED = true ∧ t.corr = s.corr) ∧
    (s.on F.CORR_CTRL_EN = false → (s.corrSel = none → exec (.corrTblData v) s = .next s) ∧
      ∀ k i w, s.corrSel = some (k, i, w) → ∃ t, exec (.corrTblData v) s = .next t ∧ t.cw k i w = v ∧
        t = { s with
          corr := t.corr
          ctlErr := t.ctlErr } ∧ t.corr.pend = s.corr.pend ∧
        ∀ x, x ≠ cKey k i w → mapGet t.corr.tbl 0 x = mapGet s.corr.tbl 0 x)

/-- The mills (R161 to R166, R174 to R178, R182), where no held job is due to end by R178: a job that a slot takes is held or
refused with its reason, starts on the engine that R162 chooses; a held job whose deadline has passed ends TOO_LATE; a running
one ends at an abort point without a header when it is flushed, writes its header and frees its engine; a
fenced engine takes no more jobs. -/
def Obligations.MillCommands : Prop :=
  ∀ (s : State) (n : BitVec 2) (slot : BitVec 4) (e : BitVec 6),
    let m := s.mill n.toNat
    let q := s.get (F.MILL_JQ_CFG_QID n.toNat slot.toNat)
    let ends (d : List Byte) : Bool := s.jobSquashed n.toNat d || s.jobLate d
    let quiet : Prop := ∀ x ∈ m.held, ends x.2.desc = false
    (∀ j, mapFind? m.held slot.toNat = some j → s.jobSquashed n.toNat j.desc = false → s.jobLate j.desc = true →
      ∃ t, exec (.hardwareConsume n slot) s = .next t ∧ (∀ j1, mapFind? (t.mill n.toNat).held slot.toNat = some j1 → j1 ≠ j) ∧
        (isHostAddr (jRes j.desc) = false → s.rangeResp (millInit n.toNat) (jRes j.desc) 32 true = rDone →
          m.held = [(slot.toNat, j)] → s.on (F.MILL_CTRL_EN n.toNat) = false → s.trackedIn (jRes j.desc) 32 = [] →
          t.byteAt (jRes j.desc) = 8)) ∧
    (quiet → s.on (F.MILL_CTRL_EN n.toNat) = false ∨ s.dieIso n.toNat = true ∨ s.on (F.MILL_JQ_CFG_EN n.toNat slot.toNat) = false ∨
        (mapFind? m.held slot.toNat).isSome = true → exec (.hardwareConsume n slot) s = .next s) ∧
    (∀ a w, quiet → s.dieIso n.toNat = false → s.on (F.MILL_CTRL_EN n.toNat) = true → s.on (F.MILL_JQ_CFG_EN n.toNat slot.toNat) = true →
      mapFind? m.held slot.toNat = none → (s.q q).esize = 2 → s.hwHead q = some (a, w) → s.on (F.MILL_STAT_FENCED n.toNat) = false →
      let d := s.engBytesNs (s.q q).ns a 64
      let why := jobReason n.toNat d (if metaTokV w then some (metaTok w) else none)
      (why = 0 → ends d = false → ∃ t j, exec (.hardwareConsume n slot) s = .next t ∧ mapFind? (t.mill n.toNat).held slot.toNat = some j ∧
        j.desc = d ∧ t.queues = ((s.headEffect (millInit n.toNat) q 64).hwConsume q).queues ∧ (t.mill n.toNat).run = m.run ∧
        (s.host.snoop = [] → t.mem = s.mem)) ∧
      (why ≠ 0 → ∃ t, exec (.hardwareConsume n slot) s = .next t ∧ mapFind? (t.mill n.toNat).held slot.toNat = none ∧
        t.on (F.MILL_STAT_BAD_JOB n.toNat) = true ∧ t.get (F.MILL_BAD_INFO_REASON n.toNat) = why)) ∧
    (∀ j, quiet → s.nextSlot n.toNat = some slot.toNat → mapFind? m.held slot.toNat = some j →
      s.freeEngine n.toNat (jClass j.desc) = some e.toNat → ∃ t j1, exec (.jobStart n) s = .next t ∧
        mapFind? (t.mill n.toNat).run e.toNat = some j1 ∧ j1.desc = j.desc ∧ j1.tStart = s.now ∧
        mapFind? (t.mill n.toNat).held slot.toNat = none ∧ (s.host.snoop = [] → t.mem = s.mem)) ∧
    (engineOk e.toNat = true →
      (mapFind? m.run e.toNat = none → (∀ b : Bool, exec (.abortPoint n e b) s = .next s) ∧ exec (.headerWritten n e) s = .next s) ∧
      (∀ j, mapFind? m.run e.toNat = some j → j.res = none →
        let b := decide (j.points + 1 = jobPoints j.desc j.inp)
        exec (.headerWritten n e) s = .next s ∧ exec (.abortPoint n e (!b)) s = .next s ∧
        (j.flush = true → ∃ t, exec (.abortPoint n e b) s = .next t ∧ mapFind? (t.mill n.toNat).run e.toNat = none ∧
          t.mem = s.mem) ∧
        (j.flush = false → s.jobSquashed n.toNat j.desc = false → jDlAbort j.desc = false →
          exec (.abortPoint n e b) s = .next (s.millPass n.toNat e.toNat j b))) ∧
      (∀ j r, mapFind? m.run e.toNat = some j → j.res = some r → s.jobSquashed n.toNat j.desc = false →
        jRes j.desc % 64 = 0 → isHostAddr (jRes j.desc) = false → s.rangeResp (millInit n.toNat) (jRes j.desc) 32 true = rDone →
        s.trackedIn (jRes j.desc) 32 = [] → ∃ t, exec (.headerWritten n e) s = .next t ∧ t.bytesAt (jRes j.desc) 32 = headerBytes j.desc e.toNat r.status r ∧
          (∀ a, a < jRes j.desc ∨ jRes j.desc + 32 ≤ a → t.byteAt a = s.byteAt a) ∧
          mapFind? (t.mill n.toNat).run e.toNat = none) ∧
      (∃ t, exec (.engineParityError n e) s = .next t ∧ mapFind? (t.mill n.toNat).run e.toNat = none ∧
        t.engineUp n.toNat e.toNat = false ∧ t.on (F.MILL_STAT_ENG_FAULT n.toNat) = true ∧ t.mem = s.mem)) ∧
    (∃ t, exec (.flush n) s = .next t ∧ (t.mill n.toNat).held = [] ∧ t.mem = s.mem ∧
      ∀ x j, mapFind? m.run x = some j → ∃ j1, mapFind? (t.mill n.toNat).run x = some j1 ∧ j1.desc = j.desc ∧
        (j.res = none → j1.flush = true))

/-! ## Fronthaul (13) -/

/-- Frames and JESD204C links (R300, R305 to R311, R313 to R316): what a port that is off does, a frame with a bad FCS, a frame whose
queue takes it; a transmit descriptor from its ring to the wire; multiblocks, entries, the transmitter's start and underrun. -/
def Obligations.FrameCommands : Prop :=
  ∀ (s : State) (p : BitVec 6), p.toNat < 33 →
    let drops := s.get (F.FH_PORT_DROP_RX p.toNat)
    let live := s.on (F.FH_PORT_CFG_RX_EN p.toNat) && s.on (F.FH_PORT_STAT_LINK p.toNat) && !s.portOff p.toNat
    (∀ (f : List Byte) (ok : Bool) (corr unc : BitVec 8),
      (s.looped p.toNat = true → exec (.frameReceive p ⟨f, corr, unc⟩ ok) s = .next s) ∧
      (s.looped p.toNat = false → s.echoes p.toNat = false → live = false → exec (.frameReceive p ⟨f, corr, unc⟩ ok) s = .next s) ∧
      (s.looped p.toNat = false → live = true →
        (ok = false ∨ f.length < 60 ∨ 16379 < f.length ∨ (s.hasFec p.toNat = true ∧ unc ≠ 0)) →
        ∃ t, exec (.frameReceive p ⟨f, corr, unc⟩ ok) s = .next t ∧
          t.get (F.FH_PORT_DROP_RX p.toNat) = min 65535 (drops + 1) ∧ t.mem = s.mem ∧ t.queues = s.queues ∧
          (s.hasFec p.toNat = true → unc ≠ 0 → t.on (F.FH_PORT_STAT_FEC_UNCORR p.toNat) = true ∧
            t.get (F.FH_PORT_FEC_UNC_UNC p.toNat) = min (2 ^ 32 - 1) (s.get (F.FH_PORT_FEC_UNC_UNC p.toNat) + unc.toNat))) ∧
      (let c := s.classify p.toNat f
       let pl := s.rxPlace p.toNat c.1
       s.looped p.toNat = false → (s.hasFec p.toNat = true → unc = 0) → live = true → ok = true → 60 ≤ f.length → f.length ≤ 16379 → ety f ≠ 0x8808 → s.ptpEvent p.toNat f = none →
        (c.1.isSome = true ∨ s.on (F.FH_PORT_DEFQ_EN p.toNat) = true) → (∀ r, c.1 = some r → s.on (F.FH_RULE_MATCH_CAP r) = false) →
        s.rxExpand c.1 f c.2.1 = (f, false, 0) → f.length ≤ 2 ^ pl.2.2 → s.pushOk pl.1 = true → (s.q pl.1).esize = 1 →
        ∃ t, exec (.frameReceive p ⟨f, corr, unc⟩ ok) s = .next t ∧ (t.q pl.1).tail = ((s.q pl.1).tail + 1) % 2 ^ 21 ∧
          (∀ i, i ≠ pl.1 → t.q i = s.q i) ∧ t.get (F.FH_PORT_DROP_RX p.toNat) = drops)) ∧
    (∀ v : Word, exec (.txTailWrite p v) s = .next (s.writeFields (R.FH_TX_TAIL p.toNat) v)) ∧
    (let a := s.txSlot p.toNat
     let d := s.engBytes a 32
     let s1 := s.engReadEffect (portInit p.toNat) a 32 false
     s.on (F.FH_PORT_CFG_TX_EN p.toNat) = true → s.on (F.FH_TX_CFG_EN p.toNat) = true → mapFind? s.fh.tx p.toNat = none →
      s.txHeld p.toNat = false → s.portFits p.toNat = true →
      (s.get (F.FH_TX_HEAD_HEAD p.toNat) = s.get (F.FH_TX_TAIL_TAIL p.toNat) → exec (.txDescriptor p) s = .next s) ∧
      (s.get (F.FH_TX_HEAD_HEAD p.toNat) ≠ s.get (F.FH_TX_TAIL_TAIL p.toNat) → s.readResp (portInit p.toNat) a 32 = rDone →
        s.trackedIn a 32 = [] → isHostAddr a = false →
        (txBad d s.now = true → ∃ t, exec (.txDescriptor p) s = .next t ∧ mapFind? t.fh.tx p.toNat = none ∧
          fieldOf (t.reg (R.FH_TX_HEAD p.toNat)) (F.FH_TX_HEAD_HEAD p.toNat) =
            (s.get (F.FH_TX_HEAD_HEAD p.toNat) + 1) % 2 ^ (F.FH_TX_HEAD_HEAD p.toNat).w ∧ t.mem = s.mem) ∧
        (txBad d s.now = false → txLaunchV d = false → txComp d = false → txGated d = false → txTsReq d = false →
          s.trackedIn (txAddr d) (txLen d) = [] → isHostAddr (txAddr d) = false →
          s1.readResp (portInit p.toNat) (txAddr d) (txLen d) = rDone → ∃ t, exec (.txDescriptor p) s = .next t ∧
            mapFind? t.fh.tx p.toNat = some ⟨d, s1.engBytes (txAddr d) (txLen d), true, false⟩ ∧ t.mem = s.mem ∧ t.out = s.out))) ∧
    (∀ x, mapFind? s.fh.tx p.toNat = some x →
      (x.sending = false → s.txHeld p.toNat = false → txGated x.desc = false → txTsReq x.desc = false →
        ∃ t, exec (.launch p) s = .next t ∧ mapFind? t.fh.tx p.toNat = some ⟨x.desc, x.frame, true, false⟩ ∧ t.regs = s.regs) ∧
      (x.sending = true → exec (.launch p) s = .next s ∧ (s.looped p.toNat = false → ∃ t, exec (.frameTransmitEnd p) s = .next t ∧
        t.out = (if x.cut || s.anyLane p.toNat s.laneTaken then s.out
          else s.out ++ [.frame p.toNat (x.frame ++ fcs x.frame) (s.txLanes p.toNat)]) ∧
        mapFind? t.fh.tx p.toNat = none ∧ t.mem = s.mem))) ∧
    (mapFind? s.fh.tx p.toNat = none → exec (.launch p) s = .next s ∧ exec (.frameTransmitEnd p) s = .next s) ∧
    (∀ (j : BitVec 2) (ok : Bool) (l : List (List Word)),
      let x := s.jesd j.toNat
      let rx := s.on (F.FH_JESD_CFG_EN j.toNat) && s.on (F.FH_JESD_CFG_RX_EN j.toNat) && x.phase.isSome && s.jesdRx j.toNat
      let tx := s.on (F.FH_JESD_CFG_EN j.toNat) && s.on (F.FH_JESD_CFG_TX_EN j.toNat) && x.phase.isSome
      (rx = false → exec (.jesdMultiblock j ok l) s = .next s) ∧
      (rx = true → ∃ t, exec (.jesdMultiblock j ok l) s = .next t ∧ (t.jesd j.toNat).count = x.count + 1 ∧
        t.on (F.FH_JESD_STAT_LOCKED j.toNat) = true ∧ (ok = false → t.on (F.FH_JESD_STAT_CRC_ERR j.toNat) = true)) ∧
      (x.due = [] → exec (.jesdRxEntry j) s = .next s) ∧
      (∀ e r, x.due = e :: r → ∃ t, exec (.jesdRxEntry j) s = .next t ∧ (t.jesd j.toNat).due = r) ∧
      (∀ n : BitVec 20,
        (tx = false → exec (.jesdTxStart ⟨j, n⟩) s = .next s) ∧
        (tx = true → n = 0 → exec (.jesdTxStart ⟨j, n⟩) s = .next (s.setJesd j.toNat { x with tx := true })) ∧
        (tx = true → n ≠ 0 → ∃ t, exec (.jesdTxStart ⟨j, n⟩) s = .next t ∧ (t.jesd j.toNat).tx = true ∧
          ∀ c, c ≤ s.get (F.FH_JESD_PARAM_CH_M1 j.toNat) →
            let r := x.ring (16 + c)
            let k := min n.toNat ((r.lim + 2 ^ r.slog - r.pos % 2 ^ r.slog) % 2 ^ r.slog)
            let word (i : Nat) : Nat := r.base + 4 * ((r.pos + i) % 2 ^ r.slog)
            ((t.jesd j.toNat).ring (16 + c)).pos = (r.pos + k) % 2 ^ r.slog ∧
            (k < n.toNat → ((t.jesd j.toNat).ring (16 + c)).under = true) ∧
            ∃ l, Out.samples j.toNat c (l ++ List.replicate (n.toNat - k) 0) ∈ t.out ∧ l.length = k ∧
              (s.host.snoop = [] → (∀ i, i < k → isHostAddr (word i) = false ∧ ∀ b, b < 4 → (mapFind? s.mem (word i + b)).isSome = true) →
                l = (List.range k).map (fun i => BitVec.ofNat 32 (ofBytes (s.bytesAt (word i) 4))))))  ∧
      (∀ ch : BitVec 4, x.tx = true → ch.toNat ≤ s.get (F.FH_JESD_PARAM_CH_M1 j.toNat) → (x.ring (16 + ch.toNat)).under = false →
        ∃ t, exec (.underrun j ch) s = .next t ∧ t.on (F.FH_JESD_STAT_UNDERRUN j.toNat) = true ∧
          (t.jesd j.toNat).ring (16 + ch.toNat) = { x.ring (16 + ch.toNat) with
            pos := (x.ring (16 + ch.toNat)).lim % 2 ^ (x.ring (16 + ch.toNat)).slog
            under := true }))

/-- Lanes and their ports' links (R300, R317, R319, R321, R322): locks, adaptation, slips, faults, polarity and lane order. -/
def Obligations.LaneCommands : Prop :=
  ∀ (s : State) (l p : BitVec 6), laneOk l.toNat = true → portOk p.toNat = true →
    let stat := R.FH_LANE_STAT l.toNat
    let cdr := F.FH_LANE_STAT_CDR_LOCK l.toNat
    let los := F.FH_LANE_STAT_LOS_NOW l.toNat
    let chk := F.FH_LANE_STAT_CHK_LOCK l.toNat
    let link := F.FH_PORT_STAT_LINK p.toNat
    (∀ ctle : BitVec 4, (s.laneRate l.toNat = 0 ∨ s.on los = true → exec (.cdrAcquisition l ctle) s = .next s) ∧
      (s.laneRate l.toNat ≠ 0 → s.on los = false → ∃ t, exec (.cdrAcquisition l ctle) s = .next t ∧ t.on cdr = true ∧
        t.get (F.FH_LANE_CFG_CTLE l.toNat) =
          (if s.on (F.FH_LANE_CFG_CTLE_MAN l.toNat) then s.get (F.FH_LANE_CFG_CTLE l.toNat) else ctle.toNat) ∧
        (s.on F.TIME_SYNCE_CFG_EN = false → s.on F.TIME_SYNCE_STAT_ACTIVE = false → t = { s with regs := t.regs }))) ∧
    (∀ up down : BitVec 12,
      (s.on cdr = false ∨ s.on (F.FH_LANE_CFG_ADAPT_FREEZE l.toNat) = true → exec (.dfeAdaptStep l up down) s = .next s) ∧
      (s.on cdr = true → s.on (F.FH_LANE_CFG_ADAPT_FREEZE l.toNat) = false → ∃ t, exec (.dfeAdaptStep l up down) s = .next t ∧
        (∀ i, i < 12 → t.tap l.toNat (i + 1) = tapClamp (i + 1) (s.tap l.toNat (i + 1) +
          (if up.getLsbD i then 1 else 0) - (if down.getLsbD i then 1 else 0))) ∧
        onlyRegs s t [R.FH_LANE_DFE l.toNat 0, R.FH_LANE_DFE l.toNat 1, R.FH_LANE_DFE l.toNat 2])) ∧
    (s.on (F.FH_LANE_CFG_BLK_AUTO l.toNat) = true → exec (.bitslip l) s = .next s) ∧
    (s.on (F.FH_LANE_CFG_BLK_AUTO l.toNat) = false →
      (s.on (F.FH_LANE_STAT_SLIP_BUSY l.toNat) = true → ∃ t, exec (.bitslip l) s = .next t ∧
        t.on (F.FH_LANE_STAT_CMD_REFUSED l.toNat) = true ∧ onlyRegs s t [stat]) ∧
      (s.on (F.FH_LANE_STAT_SLIP_BUSY l.toNat) = false → ∃ t, exec (.bitslip l) s = .next t ∧
        t.on (F.FH_LANE_STAT_SLIP_BUSY l.toNat) = true ∧ mapGet t.fh.slip 0 l.toNat =
          (mapGet s.fh.slip 0 l.toNat + (if s.lanePam4 l.toNat then 2 else 1)) % 66)) ∧
    (∀ bad : Word, ∃ t, exec (.slipDone ⟨l, bad⟩) s = .next t ∧ t.on (F.FH_LANE_STAT_SLIP_BUSY l.toNat) = false ∧
      t.get (F.FH_LANE_SH_SH_BAD l.toNat) = min 65535 (s.get (F.FH_LANE_SH_SH_BAD l.toNat) + bad.toNat) ∧
      onlyRegs s t [stat, R.FH_LANE_SH l.toNat]) ∧
    exec (.inject l) s = .next (s.emit (.inject l.toNat)) ∧
    (∃ t, exec (.cntClr l) s = .next t ∧ t.get (F.FH_LANE_PRBS_ERR_ERR l.toNat) = 0 ∧ t.get (F.FH_LANE_SH_SH_BAD l.toNat) = 0 ∧
      onlyRegs s t [R.FH_LANE_PRBS_ERR l.toNat, R.FH_LANE_SH l.toNat]) ∧
    (s.on los = true → exec (.lossOfSignal l) s = .next s) ∧
    (s.on los = false → ∃ t, exec (.lossOfSignal l) s = .next t ∧ t.on los = true ∧
      t.on (F.FH_LANE_FAULT_LOS l.toNat) = true ∧ t.on cdr = s.on cdr ∧ t.on (F.FH_LANE_STAT_BLK_LOCK l.toNat) = false ∧
      t.on chk = false ∧ t.mem = s.mem) ∧
    (∃ t, exec (.signalRecovered l) s = .next t ∧ t.on los = false ∧ t.on cdr = s.on cdr ∧
      (s.on F.TIME_SYNCE_CFG_EN = false → s.on F.TIME_SYNCE_STAT_ACTIVE = false → t = { s with regs := t.regs })) ∧
    (s.on (F.FH_LANE_STAT_SHORT_NOW l.toNat) = false → ∃ t, exec (.shortDetect l) s = .next t ∧
      t.on (F.FH_LANE_STAT_SHORT_NOW l.toNat) = true ∧ t.on (F.FH_LANE_FAULT_SHORT l.toNat) = true ∧ t.mem = s.mem) ∧
    (s.on (F.FH_LANE_STAT_SHORT_NOW l.toNat) = true → exec (.shortDetect l) s = .next s) ∧
    (∃ t, exec (.shortRetry l) s = .next t ∧ t.on (F.FH_LANE_STAT_SHORT_NOW l.toNat) = false ∧ onlyRegs s t [stat]) ∧
    (let c := s.on (F.FH_LANE_CFG_RX_POL_AUTO l.toNat) && s.on cdr && !s.laneDataLock l.toNat
     (c = false → exec (.polarityToggle l) s = .next s) ∧
     (c = true → ∃ t, exec (.polarityToggle l) s = .next t ∧
      t.on (F.FH_LANE_STAT_RX_INV l.toNat) = !s.on (F.FH_LANE_STAT_RX_INV l.toNat) ∧ ∀ a, a ≠ stat → t.reg a = s.reg a)) ∧
    (∀ m : BitVec 24, 2 ≤ s.portLanes p.toNat → lmapOk (s.portLanes p.toNat) m = true →
      ∃ t, exec (.laneMap p m) s = .next t ∧ t.reg (R.FH_PORT_LMAP p.toNat) = m.zeroExtend 32 ∧
        (m ≠ lmapId → t.on (F.FH_PORT_STAT_LANE_MAP p.toNat) = true) ∧ t.mem = s.mem) ∧
    (∀ m : BitVec 24, s.twinLanes.length = 8 → lmapOk 8 m = true →
      exec (.laneMap 33 m) s = .next { s with fh := { s.fh with tmap := m } }) ∧
    (s.on link = false → exec (.linkLost p) s = .next s) ∧
    (s.on link = true → ∃ t, exec (.linkLost p) s = .next t ∧ t.on link = false ∧
      t.on (F.FH_PORT_STAT_LINK_LOST p.toNat) = true ∧ t.mem = s.mem) ∧
    (s.on cdr = false → exec (.cdrLockLoss l) s = .next s) ∧
    (s.on cdr = true → ∃ t, exec (.cdrLockLoss l) s = .next t ∧ t.on cdr = false ∧
      t.on (F.FH_LANE_STAT_BLK_LOCK l.toNat) = false ∧ t.on chk = false ∧ t.mem = s.mem) ∧
    (s.portEn p.toNat = true → s.portFits p.toNat = true → s.on link = false →
      (∀ i, i < s.portLanes p.toNat → s.laneRx (portLane p.toNat + i) = true ∧ s.aligned (portLane p.toNat + i) = true) →
      ∀ ffe : BitVec 27, ∃ t, exec (.portLinkUp ⟨p, ffe⟩) s = .next t ∧ t.on link = true ∧ t.mem = s.mem ∧
        (p.toNat = 32 → s.grpRate 5 = 1 → t.laneFfe 40 = ffe.zeroExtend 32) ∧
        ∀ i, i < s.portLanes p.toNat → t.on (F.FH_LANE_STAT_BLK_LOCK (portLane p.toNat + i)) = true) ∧
    (∀ errs : BitVec 32,
      let e := F.FH_LANE_PRBS_ERR_ERR l.toNat
      (s.prbsOn l.toNat = true → ∃ t, exec (.prbsCheckerLock ⟨l, errs⟩) s = .next t ∧ t.on chk = true ∧ t.mem = s.mem ∧
        t.get e = min (2 ^ 32 - 1) (s.get e + errs.toNat)) ∧
      ∃ t, exec (.prbsCheckerUnlock ⟨l, errs⟩) s = .next t ∧ t.on chk = false ∧
        t.get e = (if s.on chk then min (2 ^ 32 - 1) (s.get e + errs.toNat) else s.get e) ∧
        onlyRegs s t [stat, R.FH_LANE_PRBS_ERR l.toNat])

/-- What the host and the management ports access: BAR0, doorbells, counters, the HDM window, back-invalidate answers, I2C and
JTAG (R328 to R331, R338 to R341, R393, R110). -/
def Obligations.HostAccesses : Prop :=
  ∀ s : State,
    (s.linkIsUp = false → ∀ (off : BitVec 28) (d : BitVec 22) (p : BitVec 14) (h : BitVec 27) (l : BitVec 40) (data : List Byte)
      (be : List Bool) (o : Option (List Byte)),
      exec (.bar0Read off be) s = .next s ∧ exec (.bar0Write off data be) s = .next s ∧ exec (.doorbellWrite d data) s = .next s ∧
      exec (.doorbellTakeRead d) s = .next s ∧ exec (.bar4Read p) s = .next s ∧ exec (.hdmRead h) s = .next s ∧
      exec (.hdmWrite h data) s = .next s ∧ exec (.backInvalidateResponse l o) s = .next s) ∧
    (s.linkIsUp = true → ∀ (off : BitVec 28) (b0 b1 b2 b3 : Byte), off.toNat % 4 = 0 →
      let be := [true, true, true, true]
      let v := b3 ++ b2 ++ b1 ++ b0
      let a := off.toNat
      (s.linkAwake.portReadResp hostInit a = rDone → exec (.bar0Read off be) s =
        .next ((s.linkAwake.portRead hostInit a).emit (.readData (toBytes 4 (s.linkAwake.portReadWord hostInit a).toNat) true))) ∧
      (s.linkAwake.portReadResp hostInit a ≠ rDone → ∃ t, exec (.bar0Read off be) s = .next t ∧
        t.on F.HOST_STAT_BAR_ERR = true ∧ t.mem = (s.linkAwake.portRead hostInit a).mem) ∧
      (s.linkAwake.portWriteResp hostInit a v = rDone → exec (.bar0Write off [b0, b1, b2, b3] be) s =
        .next (s.linkAwake.portWrite hostInit a v)) ∧
      (s.linkAwake.portWriteResp hostInit a v ≠ rDone → ∃ t, exec (.bar0Write off [b0, b1, b2, b3] be) s = .next t ∧
        t.on F.HOST_STAT_BAR_ERR = true ∧
        (t.on F.HOST_CTRL_ERR_UR = true → t.out = (s.linkAwake.portWrite hostInit a v).out ++ [.unsupported]) ∧
        t.reg R.HOST_BAR_ERR = BitVec.ofNat 32 (a + s.linkAwake.portWriteResp hostInit a v * 2 ^ 28 + 2 ^ 31))) ∧
    (s.linkIsUp = true → ∀ (off : BitVec 22) (data : List Byte),
      (data.length ≠ 4 ∨ off.toNat % 16 ≠ 0 → ∃ t, exec (.doorbellWrite off data) s = .next t ∧
        t.on F.HOST_STAT_DB_BAD = true ∧ t.mem = s.mem ∧ t.queues = s.queues ∧ t.cores = s.cores) ∧
      (data.length = 4 → off.toNat % 16 = 0 → s.pageOn off.toNat = false → ∃ t, exec (.doorbellWrite off data) s = .next t ∧
        t.on F.HOST_STAT_DB_DENIED = true ∧ t.mem = s.mem ∧ t.queues = s.queues ∧ t.cores = s.cores) ∧
      (data.length = 4 → off.toNat % 16 = 0 → s.pageOn off.toNat = true → exec (.doorbellWrite off data) s =
        .next ((s.linkAwake.portWrite hostInit (R.QMGR_DB (off.toNat / 16)) (BitVec.ofNat 32 (ofBytes data))).count 1129 1)) ∧
      (off.toNat % 16 ≠ 4 → exec (.doorbellTakeRead off) s = .next (s.linkAwake.emit (.readData [0, 0, 0, 0] true))) ∧
      (off.toNat % 16 = 4 → s.pageOn off.toNat = false → ∃ t, exec (.doorbellTakeRead off) s = .next t ∧
        t.on F.HOST_STAT_DB_DENIED = true ∧ t.out = s.out ++ [.readData [0, 0, 0, 0] true] ∧ t.queues = s.queues ∧ t.mem = s.mem) ∧
      (off.toNat % 16 = 4 → s.pageOn off.toNat = true → exec (.doorbellTakeRead off) s =
        .next ((s.linkAwake.portRead hostInit (R.QMGR_TAKE (off.toNat / 16))).emit
          (.readData (toBytes 4 (s.linkAwake.portReadWord hostInit (R.QMGR_TAKE (off.toNat / 16))).toNat) true)))) ∧
    (s.linkIsUp = true → ∀ off : BitVec 14,
      (s.on F.PERF_ACCESS_USER = false → ∃ t, exec (.bar4Read off) s = .next t ∧ t.on F.PERF_STAT_USER_DENIED = true ∧
        t.out = s.out ++ [.readData (toBytes (if off.toNat % 8 = 0 then 8 else 4) 0) true] ∧ t.mem = s.mem) ∧
      (s.on F.PERF_ACCESS_USER = true → 0x2500 ≤ off.toNat → ∃ t, exec (.bar4Read off) s = .next t ∧ t.regs = s.regs ∧
        t.out = s.out ++ [.readData (toBytes (if off.toNat % 8 = 0 then 8 else 4) 0) true] ∧ t.mem = s.mem) ∧
      (s.on F.PERF_ACCESS_USER = true → off.toNat < 0x2500 → off.toNat % 8 = 0 → s.regReaches hostInit R.PERF_STAT = true → ∃ t, exec (.bar4Read off) s = .next t ∧
        t.out = s.out ++ [.readData (toBytes 8 (s.counter (off.toNat / 8)).toNat) true] ∧ t.perf = s.perf ∧ t.regs = s.regs ∧
        t.mem = s.mem)) ∧
    (s.hdmOpen = true → ∀ (off : BitVec 27) (data : List Byte),
      (hdmAddr off.toNat = none → (∃ t, exec (.hdmRead off) s = .next t ∧ t.on F.HOST_STAT_HDM_ERR = true ∧
          t.out = s.out ++ [.readData [] false] ∧ t.mem = s.mem) ∧
        ∃ t, exec (.hdmWrite off data) s = .next t ∧ t.on F.HOST_STAT_HDM_ERR = true ∧ t.mem = s.mem) ∧
      (∀ a, hdmAddr off.toNat = some a →
        (s.linkAwake.accessResp hostInit (a / 64 * 64) false = rDone → s.badIn (a / 64 * 64) 64 = [] →
          a / 64 ∈ s.host.snoop ∨ s.snoopFull (a / 64) = false → ∃ t, exec (.hdmRead off) s = .next t ∧
            t.out = s.out ++ [.readData (s.bytesAt (a / 64 * 64) 64) true] ∧ a / 64 ∈ t.host.snoop ∧ t.mem = s.mem) ∧
        (s.linkAwake.accessResp hostInit a true = rDone → exec (.hdmWrite off data) s =
          .next ((s.linkAwake.count 1122 1).writeBytes a (data.take (64 - a % 64)))))) ∧
    (s.linkIsUp = true → ∀ l : BitVec 40,
      ((∀ e ∈ s.host.biWait, e.1 ≠ l.toNat / 64) → exec (.backInvalidateResponse l none) s = .next s) ∧
      (∀ e, s.host.biWait.find? (fun (x : Nat × Packet) => x.1 = l.toNat / 64) = some e →
        exec (.backInvalidateResponse l none) s = .next (State.memAccess { s with host := { s.host with
          biWait := s.host.biWait.erase e
          snoop := if e.2.op = 0 then s.host.snoop else setErase s.host.snoop (l.toNat / 64) } } e.2 (l.toNat / 64 + 1)))) ∧
    (∀ a v : BitVec 32, (s.pwr.dormant = true → exec (.i2cRead a) s = .next s ∧ exec (.i2cWrite a v) s = .next s) ∧
      (s.pwr.dormant = false →
        (s.portReadResp ksInit a.toNat = rDone → exec (.i2cRead a) s =
          .next ((s.portRead ksInit a.toNat).emit (.readData (toBytes 4 (s.portReadWord ksInit a.toNat).toNat) true))) ∧
        (s.portReadResp ksInit a.toNat ≠ rDone → ∃ t, exec (.i2cRead a) s = .next t ∧ t.on F.PWR_STAT_I2C_ERR = true) ∧
        (s.portWriteResp ksInit a.toNat v = rDone → exec (.i2cWrite a v) s = .next (s.portWrite ksInit a.toNat v)) ∧
        (s.portWriteResp ksInit a.toNat v ≠ rDone → ∃ t, exec (.i2cWrite a v) s = .next t ∧ t.on F.PWR_STAT_I2C_ERR = true))) ∧
    (∀ (a : BitVec 40) (n : BitVec 8) (l : List Byte), isMemAddr a.toNat = false → n ≠ 3 → l.length = n.toNat + 1 →
      exec (.jtagDebugAccess none true a n l) s = .next s ∧
      exec (.jtagDebugAccess none false a n []) s = .next (s.emit (.readData [] false))) ∧
    (∀ (a : BitVec 40) (c : BitVec 8) (b0 b1 b2 b3 : Byte), isMemAddr a.toNat = false →
      let r := (s.portRead jtagInit a.toNat).emit (.readData (toBytes 4 (s.portReadWord jtagInit a.toNat).toNat)
        (s.portReadResp jtagInit a.toNat = rDone))
      exec (.jtagDebugAccess none true a 3 [b0, b1, b2, b3]) s = .next (s.portWrite jtagInit a.toNat (b3 ++ b2 ++ b1 ++ b0)) ∧
      exec (.jtagDebugAccess none false a 3 []) s = .next r ∧
      ∃ t, exec (.jtagDebugAccess (some c) false a 3 []) s = .next t ∧ (t.core c.toNat).run ≠ .halted ∧
        t.regs = r.regs ∧ t.out = r.out ∧ t.mem = r.mem)

/-- Interrupt messages, the host link, its configuration, the device cache and IDE (R324, R326, R332, R338, R342 to R344). -/
def Obligations.HostLink : Prop :=
  ∀ s : State,
    (∀ v : BitVec 16, (2048 ≤ v.toNat ∨ s.host.msiDrop = true → exec (.msixNotification v) s = .next s) ∧
      (v.toNat < 2048 → s.host.msiDrop = false → s.hostWrites ≠ [] → exec (.msixNotification v) s =
        .next { s with host := { s.host with msiHold := s.host.msiHold ++ [(v.toNat, s.hostWrites)] } }) ∧
      (v.toNat < 2048 → s.host.msiDrop = false → s.hostWrites = [] →
        (s.msixOpen v.toNat = true → ∃ t, exec (.msixNotification v) s = .next t ∧ t.regs = s.regs ∧ t.mem = s.mem ∧
          t.out = s.out ++ [.msix v.toNat (s.reg (R.HOST_MSIX_ADDR_HI v.toNat) ++ s.reg (R.HOST_MSIX_ADDR_LO v.toNat))
            (s.reg (R.HOST_MSIX_DATA v.toNat))]) ∧
        (s.msixOpen v.toNat = false → ∃ t, exec (.msixNotification v) s = .next t ∧
          t.bit (F.HOST_MSIX_PBA_PEND (v.toNat / 32)) (v.toNat % 32) = true ∧ t.out = s.out ∧ t.mem = s.mem))) ∧
    (∀ v : BitVec 11,
      let pend := s.bit (F.HOST_MSIX_PBA_PEND (v.toNat / 32)) (v.toNat % 32)
      (pend = false ∨ s.msixOpen v.toNat = false ∨ s.hostWrites ≠ [] → exec (.msixPendingSend v) s = .next s) ∧
      (pend = true → s.msixOpen v.toNat = true → s.hostWrites = [] → ∃ t, exec (.msixPendingSend v) s = .next t ∧
        t.bit (F.HOST_MSIX_PBA_PEND (v.toNat / 32)) (v.toNat % 32) = false ∧ t.mem = s.mem ∧
        t.out = s.out ++ [.msix v.toNat (s.reg (R.HOST_MSIX_ADDR_HI v.toNat) ++ s.reg (R.HOST_MSIX_ADDR_LO v.toNat))
          (s.reg (R.HOST_MSIX_DATA v.toNat))])) ∧
    (s.linkIsUp = false → exec .linkDown s = .next s) ∧
    (s.linkIsUp = true → ∃ t, exec .linkDown s = .next t ∧ exec .cxlPerst s = .next t ∧ t.linkIsUp = false ∧ t.host.dc = [] ∧
      t.host.busMaster = false ∧ t.host.hdm = none ∧ t.host.snoop = [] ∧ (∀ r, r < 8 → t.on (F.HOST_RNG_BASE_EN r) = false) ∧
      t.on F.HOST_STAT_LINK_DOWN = true ∧ t.mem = s.mem ∧ t.cores = s.cores) ∧
    (∃ t, exec .functionLevelReset s = .next t ∧ (s.linkIsUp = false → exec .cxlPerst s = .next t) ∧ t.linkIsUp = false ∧
      t.host.dc = [] ∧ t.host.busMaster = false ∧ t.host.hdm = none ∧ t.host.snoop = [] ∧
      (∀ r, r < 8 → t.on (F.HOST_RNG_BASE_EN r) = false) ∧ t.mem = s.mem ∧ t.cores = s.cores) ∧
    (∀ (speed : BitVec 4) (width : BitVec 5) (flit : Bool),
      (s.pwr.dormant = true → exec (.cxlLinkUp speed width flit) s = .next s) ∧
      (s.pwr.dormant = false → s.linkIsUp = true → exec (.cxlLinkUp speed width flit) s =
        .next { s with host := { s.host with
          l1 := false
          idleL1 := false } }) ∧
      (s.pwr.dormant = false → s.linkIsUp = false → linkOk speed.toNat width.toNat flit = true →
        s.on F.GLOBAL_CLK_STAT_CXL_REF = false → ∃ t, exec (.cxlLinkUp speed width flit) s = .next t ∧
          t.get F.HOST_LINK_SPEED = speed.toNat ∧ t.get F.HOST_LINK_WIDTH = width.toNat ∧ t.on F.HOST_LINK_FLIT256 = flit ∧
          t.host = s.host ∧ t.mem = s.mem)) ∧
    (∀ (w : BitVec 3) (v : BitVec 64), (s.linkIsUp = false → exec (.hostConfigWrite w v) s = .next s) ∧
      (s.linkIsUp = true → ∃ t, exec (.hostConfigWrite w v) s = .next t ∧ t.mem = s.mem ∧
        (w = 0 → t.host.busMaster = v.getLsbD 0) ∧ (w = 1 → t.host.fnMask = v.getLsbD 0) ∧
        (w = 2 → v.toNat % 2 ^ 27 = 0 → v.toNat < 2 ^ 52 → t.host.hdm = some v.toNat) ∧ (w = 3 → t.host.hdm = none) ∧
        (w = 4 → t.host.ideIo = v.getLsbD 0) ∧ (w = 5 → t.host.ideCm = v.getLsbD 0) ∧
        (w = 6 → t.host.aspm = v.getLsbD 0) ∧
        (w ≠ 4 → w ≠ 5 → t.regs = s.regs))) ∧
    (∀ (l : BitVec 52) (inv : Bool),
      (mapFind? s.host.dc (l.toNat / 64) = none → exec (.hostSnoop l inv) s =
        .next { s with host := { s.host with idleL1 := false } }) ∧
      (∀ d, mapFind? s.host.dc (l.toNat / 64) = some d → ∃ t, exec (.hostSnoop l inv) s = .next t ∧
        t.out = s.out ++ (if d then [.snoopData (l.toNat / 64) (s.dcLine (l.toNat / 64))] else []) ∧
        mapFind? t.host.dc (l.toNat / 64) = (if inv then none else some false) ∧ t.mem = s.mem ∧ t.regs = s.regs)) ∧
    exec .dcFlush s = .next (s.put F.HOST_STAT_DC_BUSY 1) ∧
    (s.pwr.phase ≠ .flush → (s.on F.HOST_STAT_DC_BUSY = false → exec .dcFlushDone s = .next s) ∧
      (s.on F.HOST_STAT_DC_BUSY = true → ∃ t, exec .dcFlushDone s = .next t ∧ t.host.dc = [] ∧
        t.on F.HOST_STAT_DC_BUSY = false ∧ t.mem = s.mem)) ∧
    (s.host.ideIo = false → s.host.ideCm = false → exec .ideFail s = .next s) ∧
    (s.host.ideIo = true ∨ s.host.ideCm = true → ∃ t, exec .ideFail s = .next t ∧ t.host.ideIo = false ∧ t.host.ideCm = false ∧
      t.linkIsUp = false ∧ t.on F.HOST_STAT_IDE_FAIL = true ∧ t.mem = s.mem ∧ t.cores = s.cores)

/-- P-levels, rails and druse switches (R371 to R373, R378, R381): what each moment of a step does, and when it does nothing. -/
def Obligations.PowerLevelsAndSwitches : Prop :=
  ∀ s : State,
    (∀ (n : BitVec 2) (v : BitVec 3), ∃ t, exec (.target n v) s = .next t ∧ t.get (F.PWR_DIE_REQ_TARGET n.toNat) = v.toNat ∧
      t.mem = s.mem ∧
      (mapFind? s.pwr.steps n.toNat = none → s.dieOn n.toNat = true → s.get F.PWR_STAT_STATE ≤ 1 →
        let clk := s.get (F.PWR_DIE_STAT_CLK n.toNat)
        let volt := s.get (F.PWR_DIE_STAT_VOLT n.toNat)
        let rail := s.get (F.PWR_RAIL_CFG_AVS_RAIL n.toNat)
        (clk < v.toNat → t.get (F.PWR_DIE_STAT_BUSY n.toNat) = 1 ∧
          mapFind? t.pwr.steps n.toNat = some (.clkDown, v.toNat) ∧ t.out = s.out) ∧
        (v.toNat < clk → v.toNat < volt → t.get (F.PWR_DIE_STAT_BUSY n.toNat) = 1 ∧
          mapFind? t.pwr.steps n.toNat = some (.vUp, v.toNat) ∧ t.out = s.out ++ [.avs rail (levelMv v.toNat)]) ∧
        (v.toNat < clk → volt ≤ v.toNat → t.get (F.PWR_DIE_STAT_BUSY n.toNat) = 1 ∧
          mapFind? t.pwr.steps n.toNat = some (.clkUp, v.toNat) ∧ t.out = s.out) ∧
        (v.toNat = clk → volt < v.toNat → mapFind? t.pwr.steps n.toNat = some (.vDown, v.toNat) ∧
          t.out = s.out ++ [.avs rail (levelMv v.toNat)]) ∧
        (v.toNat = clk → v.toNat ≤ volt → t.pwr = s.pwr ∧ t.out = s.out))) ∧
    (∀ n : BitVec 2, mapFind? s.pwr.steps n.toNat = none → exec (.clockStepDone n) s = .next s ∧
      exec (.voltageSettleEnd n) s = .next s ∧ exec (.vdone (n.zeroExtend 3)) s = .next s ∧
      exec (.avsFail (n.zeroExtend 3)) s = .next s) ∧
    (∀ (n : BitVec 2) (l : Nat), l < 8 →
      (mapFind? s.pwr.steps n.toNat = some (.clkDown, l) → s.get (F.PWR_DIE_STAT_VOLT n.toNat) < l →
        ∃ t, exec (.clockStepDone n) s = .next t ∧ t.get (F.PWR_DIE_STAT_CLK n.toNat) = l ∧
          mapFind? t.pwr.steps n.toNat = some (.vDown, l) ∧ t.mem = s.mem ∧
          t.out = s.out ++ [.avs (s.get (F.PWR_RAIL_CFG_AVS_RAIL n.toNat)) (levelMv l)]) ∧
      (mapFind? s.pwr.steps n.toNat = some (.clkUp, l) → s.get (F.PWR_DIE_REQ_TARGET n.toNat) = l →
        l ≤ s.get (F.PWR_DIE_STAT_VOLT n.toNat) → ∃ t, exec (.clockStepDone n) s = .next t ∧
          t.get (F.PWR_DIE_STAT_CLK n.toNat) = l ∧ t.get (F.PWR_DIE_STAT_BUSY n.toNat) = 0 ∧
          mapFind? t.pwr.steps n.toNat = none ∧ t.out = s.out ∧ t.mem = s.mem) ∧
      (mapFind? s.pwr.steps n.toNat = some (.vUp, l) → exec (.vdone (n.zeroExtend 3)) s =
        .next (s.setPwr { s.pwr with steps := mapIns s.pwr.steps n.toNat (.settle, l) })) ∧
      (mapFind? s.pwr.steps n.toNat = some (.vDown, l) → ∃ t, exec (.vdone (n.zeroExtend 3)) s = .next t ∧
        t.get (F.PWR_DIE_STAT_VOLT n.toNat) = l ∧ t.mem = s.mem) ∧
      (mapFind? s.pwr.steps n.toNat = some (.settle, l) → exec (.voltageSettleEnd n) s =
        .next ((s.put (F.PWR_DIE_STAT_VOLT n.toNat) l).setPwr { s.pwr with
          steps := mapIns s.pwr.steps n.toNat (.clkUp, l) })) ∧
      (mapFind? s.pwr.steps n.toNat = some (.vDown, l) ∨ mapFind? s.pwr.steps n.toNat = some (.vUp, l) →
        ∃ t, exec (.avsFail (n.zeroExtend 3)) s = .next t ∧ t.on F.PWR_STAT_AVS_FAIL = true ∧
          t.get (F.PWR_DIE_STAT_BUSY n.toNat) = 0 ∧ mapFind? t.pwr.steps n.toNat = none ∧
          t.get (F.PWR_DIE_STAT_CLK n.toNat) = s.get (F.PWR_DIE_STAT_CLK n.toNat) ∧ t.mem = s.mem)) ∧
    (∀ r : BitVec 3, r.toNat < 5 →
      (r.toNat ∈ s.pwr.railOff → exec (.powerGood r) s = .next s) ∧
      (r.toNat ∉ s.pwr.railOff → s.pwr.phase ≠ .rails → exec (.powerGood r) s =
        .next (s.setPwr { s.pwr with good := setIns s.pwr.good r.toNat })) ∧
      (s.on (F.PWR_RAIL_CFG_EN_V r.toNat) = false ∨ s.on (F.PWR_RAIL_CFG_PG_V r.toNat) = false ∨ r.toNat ∈ s.pwr.railOff →
        exec (.pgFail r) s = .next s) ∧
      (s.on (F.PWR_RAIL_CFG_EN_V r.toNat) = true → s.on (F.PWR_RAIL_CFG_PG_V r.toNat) = true → r.toNat ∉ s.pwr.railOff →
        s.pwr.phase ≠ .rails → ∃ t, exec (.pgFail r) s = .next t ∧ t.on F.PWR_STAT_PG_FAIL = true ∧
          (r.toNat < 4 → t.dieOn r.toNat = false ∧ t.cores = s.cores) ∧
          (r.toNat = 4 → t.on F.GLOBAL_KS_STAT_SAFE_HALT = true ∧ t.twin.line = false))) ∧
    (∀ d : BitVec 5, d.toNat ∈ s.ks.fenced → exec (.druseOff d) s = .next s ∧ exec (.druseOn d) s = .next s) ∧
    (∀ d : BitVec 5, d.toNat ∉ s.ks.fenced →
      (∃ t, exec (.druseOff d) s = .next t ∧ t.bit F.PWR_DRUSE_OFF_OFF d.toNat = true ∧ t.mem = s.mem ∧
        (s.get F.PWR_STAT_STATE ≤ 1 → s.druseOn d.toNat = true → d.toNat ∉ s.pwr.draining →
          (∀ c ∈ druseCores d.toNat, t.held c = true) ∧ (t.stop (nodeDruse d.toNat)).closed = true ∧
          d.toNat ∈ t.pwr.draining)) ∧
      (∃ t, exec (.druseOn d) s = .next t ∧ t.bit F.PWR_DRUSE_OFF_OFF d.toNat = false ∧ t.mem = s.mem ∧ t.cores = s.cores ∧
        (s.get F.PWR_STAT_STATE ≤ 1 → s.dieOn (d.toNat / 8) = true → s.bit F.PWR_DRUSE_STAT_ON d.toNat = false →
          d.toNat ∉ s.pwr.draining → t.bit F.PWR_DRUSE_STAT_ON d.toNat = true ∧ d.toNat ∈ t.pwr.settling))) ∧
    (∀ d : BitVec 5,
      let n := nodeDruse d.toNat
      (d.toNat ∉ s.pwr.draining ∨ ((s.stop n).drained = false ∧ n ∉ s.pwr.forced) →
        exec (.drusePowerSwitchOpen d) s = .next s) ∧
      (d.toNat ∈ s.pwr.draining → (s.stop n).drained = true ∨ n ∈ s.pwr.forced → s.bit F.PWR_DRUSE_OFF_OFF d.toNat = true →
        ∃ t, exec (.drusePowerSwitchOpen d) s = .next t ∧ t.bit F.PWR_DRUSE_STAT_ON d.toNat = false ∧
          d.toNat ∉ t.pwr.draining ∧ ∀ i, i < 0x400000 → mapFind? t.mem (coreWin (8 * d.toNat) + i) = none) ∧
      (d.toNat ∉ s.pwr.settling → exec (.drusePowerSettle d) s = .next s) ∧
      (d.toNat ∈ s.pwr.settling → s.druseUp d.toNat = true → ∃ t, exec (.drusePowerSettle d) s = .next t ∧
        (t.stop n).closed = false ∧ (t.stop n).drained = false ∧ d.toNat ∉ t.pwr.settling ∧ t.cores = s.cores ∧ t.mem = s.mem) ∧
      (d.toNat ∈ s.pwr.draining → s.pwr.phase ≠ .drain → (s.stop n).drained = false → n ∉ s.pwr.forced →
        ∃ t, exec (.drainForced (BitVec.ofNat 8 n)) s = .next t ∧ t.on F.PWR_STAT_DRAIN_FORCED = true ∧ n ∈ t.pwr.forced ∧
          t.mem = s.mem) ∧
      (s.pwr.draining = [] → s.pwr.phase ≠ .drain → exec (.drainForced (BitVec.ofNat 8 n)) s = .next s))

/-- Sleep requests, the commit cycle, the way into Dormant and the wake sources (R382 to R385, R387, R390, R391). -/
def Obligations.SleepAndWake : Prop :=
  ∀ s : State,
    (∀ deep : Bool,
      let st := s.get F.PWR_STAT_STATE
      let r := exec (if deep then .sleepRequestDormant else .sleepRequestStandby) s
      (s.pwr.dormant = true ∨ st = 2 ∨ st = 4 ∨ (st = 3 ∧ deep = false) → r = .next (s.flag F.PWR_STAT_REQ_REFUSED)) ∧
      (s.pwr.dormant = false → st ≠ 2 → st ≠ 4 → (st = 3 → deep = true) →
        (s.wakes 15 = false → r = .next (s.setPwr { s.pwr with req := some deep })) ∧
        (s.wakes 15 = true → ∃ t, r = .next t ∧ t.on F.PWR_STAT_WAKE_RACE = true ∧ t.pwr.req = none ∧
          t.get F.PWR_STAT_STATE = st ∧ t.mem = s.mem))) ∧
    (s.pwr.req = none → exec .commitCycle s = .next s) ∧
    (∀ deep, s.pwr.req = some deep →
      (s.wakes 15 = true → ∃ t, exec .commitCycle s = .next t ∧ t.on F.PWR_STAT_WAKE_RACE = true ∧ t.pwr.req = none ∧
        t.get F.PWR_STAT_STATE = s.get F.PWR_STAT_STATE ∧ t.mem = s.mem) ∧
      (s.wakes 15 = false → ∃ t, exec .commitCycle s = .next t ∧ t.get F.PWR_STAT_STATE = 2 ∧ t.pwr.req = none ∧
        t.pwr.deep = deep ∧ t.twin.line = false ∧ t.mem = s.mem ∧
        (s.get F.PWR_STAT_STATE = 3 → t.pwr.phase = .link) ∧
        (s.get F.PWR_STAT_STATE ≠ 3 → t.pwr.phase = .flush ∧ t.on F.HOST_STAT_DC_BUSY = true))) ∧
    (s.pwr.phase ≠ .link → exec .dormantLinkWaitEnd s = .next s) ∧
    (s.pwr.phase = .link → s.wakes 7 = false → ∃ t, exec .dormantLinkWaitEnd s = .next t ∧ t.pwr.dormant = true ∧
      t.pwr.phase = .none ∧ t.linkIsUp = false ∧ t.time.pulse = [] ∧ mapFind? t.mem hubWin = none) ∧
    (∃ t, exec .wakeN s = .next t ∧ t.bit F.PWR_WAKE_PEND_PEND 1 = true ∧ t.mem = s.mem ∧
      (s.bit F.PWR_WAKE_EN_EN 1 = false → t = s.putBit F.PWR_WAKE_PEND_PEND 1 true) ∧
      (s.bit F.PWR_WAKE_EN_EN 1 = true →
        (s.pwr.dormant = true → t.pwr.dormant = false ∧ t.get F.PWR_STAT_STATE = 4) ∧
        (s.pwr.dormant = false → s.get F.PWR_STAT_STATE = 3 → t.get F.PWR_STAT_STATE = 4 ∧ t.pwr.phase = .hubUp ∧
          t.reg R.PWR_WAKE_AT = s.now) ∧
        (s.pwr.dormant = false → s.get F.PWR_STAT_STATE ≠ 3 → t = s.putBit F.PWR_WAKE_PEND_PEND 1 true))) ∧
    (∀ a : BitVec 7, (a.toNat ≠ 0x60 + s.get F.GLOBAL_STRAPS_ADDR_SEL → exec (.i2cAddressMatch a) s = .next s) ∧
      (a.toNat = 0x60 + s.get F.GLOBAL_STRAPS_ADDR_SEL → ∃ t, exec (.i2cAddressMatch a) s = .next t ∧
        t.bit F.PWR_WAKE_PEND_PEND 0 = true ∧ t.mem = s.mem ∧
        (s.pwr.dormant = false → t = s.putBit F.PWR_WAKE_PEND_PEND 0 true) ∧
        (s.pwr.dormant = true → s.bit F.PWR_WAKE_EN_EN 0 = true → t.pwr.dormant = false ∧ t.get F.PWR_STAT_STATE = 4))) ∧
    (∀ low : Bool, (s.pwr.dormant = true → low = s.twin.peerLow → exec (.twinTokenChange low) s = .next s) ∧
      (s.pwr.dormant = true → low ≠ s.twin.peerLow → ∃ t, exec (.twinTokenChange low) s = .next t ∧
        t.bit F.PWR_WAKE_PEND_PEND 2 = true ∧ t.mem = s.mem) ∧
      (s.pwr.dormant = false → ∃ t, exec (.twinTokenChange low) s = .next t ∧ t.on F.TWIN_STAT_PEER_HOLD = low ∧
        t.twin.peerLow = low ∧ t.mem = s.mem))

/-- Fault records, containment, keystone commands, Safe Halt and environmental faults (R409, R413, R415 to R418, R421 to R423,
R425, R427, R428). -/
def Obligations.FaultsAndContainment : Prop :=
  ∀ s : State,
    (∀ s0 : State, s = s0.checkers →
      (s.reports = [] ∨ s.ks.off = true → exec .faultReport s0 = .next s) ∧
      (∀ r l, s.reports = r :: l → s.ks.off = false →
        (r.action = 0 → ∃ t, exec .faultReport s0 = .next t ∧ t.reports = l ∧ t.cores = s.cores ∧ t.mem = s.mem ∧
          (s.frOpen = true → s.idsFree 0x131 1 = true → t.frNext = s.frNext + 1 ∧ t.flight.length = s.flight.length + 1) ∧
          (s.frOpen = false → t.frNext = s.frNext ∧ t.flight = s.flight ∧ t.on F.GLOBAL_FR_STAT_OVF = true ∧
            t.get F.GLOBAL_FR_LOST_LOST = min (2 ^ 32 - 1) (s.get F.GLOBAL_FR_LOST_LOST + 1))) ∧
        (r.action = 2 → r.domain < 32 → s.druseUp r.domain = true → ∃ t, exec .faultReport s0 = .next t ∧ t.mem = s.mem ∧
          (∀ c ∈ druseCores r.domain, t.held c = true) ∧
          (r.domain ∈ s.ks.limited → r.domain ∈ t.ks.fenced ∧ (t.stop (nodeDruse r.domain)).closed = true)) ∧
        (r.action = 3 → r.domain < 32 → ∃ t, exec .faultReport s0 = .next t ∧ t.mem = s.mem ∧ r.domain ∈ t.ks.fenced ∧
          (∀ c ∈ druseCores r.domain, t.held c = true) ∧ (t.stop (nodeDruse r.domain)).closed = true ∧
          t.bit F.GLOBAL_DRUSE_AVAIL_AVAIL r.domain = false) ∧
        (r.action = 4 → r.domain < 8 → s.stratumIso r.domain = false → ∃ t, exec .faultReport s0 = .next t ∧ t.mem = s.mem ∧
          (∀ c ∈ stratumCores r.domain, t.held c = true) ∧ (t.stop (nodeStratum r.domain)).closed = true ∧
          t.bit F.GLOBAL_UNIT_AVAIL_STRATA r.domain = false) ∧
        (r.action = 5 → r.domain < 4 → s.bit F.GLOBAL_UNIT_AVAIL_DIES r.domain = true → ∃ t, exec .faultReport s0 = .next t ∧
          t.mem = s.mem ∧ (∀ c ∈ dieCores r.domain, t.held c = true) ∧
          (t.stop (nodeBridgeSpine r.domain 0)).closed = true ∧ (t.stop (nodeBridgeSpine r.domain 1)).closed = true ∧
          t.bit F.GLOBAL_UNIT_AVAIL_DIES r.domain = false))) ∧
    s.checkers = ((foundFault (Config.checkerFault s.freeCtr).1 (Config.checkerFault s.freeCtr).2).map s.fresh.found).getD s.fresh ∧
    (∀ (code i : Nat) (r : Report), foundFault code i = some r → r.code = code ∧ r.index = i ∧
      (code ≠ 0x1A → s.reports.length < 64 → (s.found r).regs = s.regs ∧
        (s.found r).reports = s.reports ++ [{ r with stamp := s.now }]) ∧
      (code = 0x1A → (s.found r).on (F.MILL_STAT_FENCED i) = true ∧ ((s.found r).mill i).held = [] ∧
        ((s.found r).mill i).run = [])) ∧
    (∀ n : BitVec 2, (n.toNat ∉ s.ks.railDue ∨ s.ks.off = true → exec (.dieRailOff n) s = .next s) ∧
      (n.toNat ∈ s.ks.railDue → s.ks.off = false → ∃ t, exec (.dieRailOff n) s = .next t ∧ t.dieOn n.toNat = false ∧
        n.toNat ∈ t.pwr.railOff ∧ n.toNat ∉ t.ks.railDue ∧ t.out = s.out ++ [.rail n.toNat false])) ∧
    (∀ v : Word, exec (.frRdWrite v) s = .next (if 4096 < (s.reg R.GLOBAL_FR_WR - v).toNat then
      s.flag F.GLOBAL_FR_STAT_CFG_BAD else s.setReg R.GLOBAL_FR_RD v)) ∧
    (∀ c : BitVec 8, (s.ks.off = true ∨ s.get F.GLOBAL_KS_CFG_HANG = 0 ∨ s.held c.toNat = true → exec (.coreHang c) s = .next s) ∧
      (s.ks.off = false → s.get F.GLOBAL_KS_CFG_HANG ≠ 0 → s.held c.toNat = false → (s.core c.toNat).run = .running →
        exec (.coreHang c) s = .next (s.report (mkReport 1 c.toNat 0x03 2)))) ∧
    (∀ d : BitVec 5, (mapFind? s.ks.release d.toNat = none ∨ s.ks.off = true → exec (.druseRestartRelease d) s = .next s) ∧
      (∀ l, mapFind? s.ks.release d.toNat = some l → s.ks.off = false → s.outst = [] → (∀ c ∈ l, c < 256) →
        ∃ t, exec (.druseRestartRelease d) s = .next t ∧ mapFind? t.ks.release d.toNat = none ∧ t.mem = s.mem ∧
          t.cores = s.cores ∧
          (s.druseUp d.toNat = true → s.druseOn d.toNat = true → ∀ c, c < 256 → t.held c = (s.held c && !l.contains c)) ∧
          (s.druseUp d.toNat = false → ∀ c, c < 256 → t.held c = s.held c))) ∧
    (∀ i : BitVec 8,
      let no (op : Nat) : Prop := s.ks.off = true ∨ s.on F.GLOBAL_KS_STAT_SAFE_HALT = true ∨ s.ksTarget op i.toNat = false
      let refused : State := s.flagRep F.GLOBAL_KS_CMD_STAT_REFUSED F.GLOBAL_KS_CMD_STAT_REFUSED_REP
      (no 1 → exec (.holdCore i) s = .next refused) ∧ (no 2 → exec (.releaseCore i) s = .next refused) ∧
      (no 3 → exec (.druseRestart i) s = .next refused) ∧ (no 4 → exec (.releaseDruse i) s = .next refused) ∧
      (no 5 → exec (.stratumReset i) s = .next refused) ∧
      (¬no 1 → ∃ t, exec (.holdCore i) s = .next t ∧ t.mem = s.mem ∧ ∀ c, c < 256 →
        (c = i.toNat → t.held c = true ∧ t.core c = Core.reset) ∧ (c ≠ i.toNat → t.held c = s.held c ∧ t.core c = s.core c)) ∧
      (¬no 2 → exec (.releaseCore i) s = .next (if s.druseOn (i.toNat / 8) then s.setHeld i.toNat false else s)) ∧
      (¬no 3 → ∃ t, exec (.druseRestart i) s = .next t ∧ t.mem = s.mem ∧ (∀ c ∈ druseCores i.toNat, t.held c = true) ∧
        t.get F.GLOBAL_KS_CMD_STAT_BUSY = 1 ∧
        mapFind? t.ks.release i.toNat =
          some (mapGet s.ks.release [] i.toNat ++ (druseCores i.toNat).filter (fun c => !s.held c))) ∧
      (¬no 4 → ∃ t, exec (.releaseDruse i) s = .next t ∧ t.mem = s.mem ∧ t.cores = s.cores ∧
        (s.druseOn i.toNat = true → ∀ c ∈ druseCores i.toNat, t.held c = false)) ∧
      (¬no 5 → ∃ t, exec (.stratumReset i) s = .next t ∧ t.mem = s.mem ∧ (∀ c ∈ stratumCores i.toNat, t.held c = true) ∧
        t.get F.GLOBAL_KS_CMD_STAT_BUSY = 1)) ∧
    (s.ks.off = true → exec .ksDisagree s = .next s ∧ exec .keystonePulse s = .next s) ∧
    (s.ks.off = false → exec .keystonePulse s = .next { s with ks := { s.ks with pulse := s.time.ticks } }) ∧
    (s.ks.off = false → s.on F.GLOBAL_KS_STAT_SAFE_HALT = false → ∃ t, exec .ksDisagree s = .next t ∧ t.ks.off = true ∧
      t.on F.GLOBAL_KS_STAT_KS_DISAGREE = true ∧ t.on F.GLOBAL_KS_STAT_SAFE_HALT = true ∧ t.on F.GLOBAL_KS_STAT_FAULT_N = true ∧
      t.twin.line = false ∧ t.mem = s.mem ∧ t.cores = s.cores) ∧
    (s.ksQuiet = false → exec .ksSilent s = .next s ∧ ∀ n, exec (.dieSentinelSilence n) s = .next s) ∧
    (s.ksQuiet = true → s.on F.GLOBAL_KS_STAT_SAFE_HALT = false → ∃ t, exec .ksSilent s = .next t ∧ t.ks.off = true ∧
      t.on F.GLOBAL_KS_STAT_KS_SILENT = true ∧ t.on F.GLOBAL_KS_STAT_SAFE_HALT = true ∧ t.on F.GLOBAL_KS_STAT_FAULT_N = true ∧
      t.twin.line = false ∧ t.mem = s.mem ∧ t.cores = s.cores) ∧
    (∀ n : BitVec 2, s.ksQuiet = true → n.toNat ∉ s.ks.sentIso → ∃ t, exec (.dieSentinelSilence n) s = .next t ∧
      t.bit F.GLOBAL_KS_STAT_SENT_ISO n.toNat = true ∧ n.toNat ∈ t.ks.sentIso ∧ (∀ c ∈ dieCores n.toNat, t.held c = true) ∧
      (t.stop (nodeBridge n.toNat 0)).closed = true ∧ (t.stop (nodeBridge n.toNat 1)).closed = true ∧ t.mem = s.mem) ∧
    (∀ p : BitVec 6, p.toNat < 42 → (∃ t, exec (.pinLimit p) s = .next t ∧ t.get (pinFlag p.toNat) = 1 ∧
        p.toNat ∈ t.ks.parked ∧ t.out = s.out ++ [.park p.toNat true] ∧ t.mem = s.mem) ∧
      (p.toNat ∉ s.ks.parked → exec (.pinParkEnd p) s = .next s) ∧
      (p.toNat ∈ s.ks.parked → ∃ t, exec (.pinParkEnd p) s = .next t ∧ p.toNat ∉ t.ks.parked ∧ t.regs = s.regs ∧
        t.out = s.out ++ [.park p.toNat false])) ∧
    (∀ k : BitVec 3, k.toNat < 7 →
      let lost : RF := ⟨R.GLOBAL_CLK_STAT, k.toNat, 1⟩
      (s.on lost = true → exec (.clockLost k) s = .next s) ∧
      (s.on lost = false → ∃ t, exec (.clockLost k) s = .next t ∧ t.on lost = true ∧ t.mem = s.mem ∧ t.cores = s.cores ∧
        (k = 5 → Config.cxlSris = false → t.linkIsUp = false) ∧
        (k = 6 → s.get F.TIME_REF_CFG_SRC = 1 → s.time.refGood = true → t.on F.TIME_REF_STAT_HOLDOVER = true)) ∧
      exec (.clockReturn k) s = .next (s.put lost 0)) ∧
    (∀ e : BitVec 3, e.toNat < 5 → (∃ t, exec (.droop e) s = .next t ∧ e.toNat ∈ t.ks.halved ∧
        t.bit F.GLOBAL_DROOP_TRIP e.toNat = true ∧
        t.get F.GLOBAL_DROOP_TRIPS = min 65535 (s.get F.GLOBAL_DROOP_TRIPS + 1) ∧ t.mem = s.mem ∧ t.cores = s.cores) ∧
      (∃ t, exec (.droopClockRestore e) s = .next t ∧ e.toNat ∉ t.ks.halved ∧ t.regs = s.regs ∧ t.mem = s.mem ∧
        t.cores = s.cores))

/-- The twin pair and the performance counters (R430 to R435, R437, R439, R446, R450). -/
def Obligations.TwinAndCounters : Prop :=
  ∀ s : State,
    (s.on F.TWIN_CFG_EN = false ∨ s.ks.off = true ∨ s.pwr.dormant = true ∨ s.twinTx = false → exec .heartbeatSend s = .next s) ∧
    (s.on F.TWIN_CFG_EN = true → s.ks.off = false → s.pwr.dormant = false → s.twinTx = true → ∃ t f, exec .heartbeatSend s = .next t ∧
      t.out = s.out ++ [.twin f] ∧ f.typ = 1 ∧ f.seq = BitVec.ofNat 16 (s.get F.TWIN_HB_SEQ_TX + 1) ∧ f.ttx = s.now ∧
      f.peerTx = s.twin.ptx ∧ f.peerRx = s.twin.prx ∧ t.get F.TWIN_HB_SEQ_TX = f.seq.toNat ∧ t.mem = s.mem) ∧
    (∀ h : TwinFrame, (s.on F.TWIN_CFG_EN = false ∨ s.pwr.dormant = true ∨ s.twinRx = false ∨ h.fcsOk = false → exec (.heartbeat h) s = .next s ∧
        exec (.abdicateFrame h) s = .next s ∧ exec (.stateFrame h) s = .next s) ∧
      (h.typ ≠ 1 → exec (.heartbeat h) s = .next s) ∧ (h.typ ≠ 2 → exec (.abdicateFrame h) s = .next s) ∧
      (h.typ ≠ 0x10 → exec (.stateFrame h) s = .next s)) ∧
    (∀ h : TwinFrame, s.on F.TWIN_CFG_EN = true → s.pwr.dormant = false → s.twinRx = true → h.fcsOk = true → h.typ = 1 →
      (h.pos = s.on F.TWIN_CFG_POS → ∃ t, exec (.heartbeat h) s = .next t ∧ t.on F.TWIN_STAT_POS_CONFLICT = true ∧
        t.twin = s.twin ∧ t.mem = s.mem) ∧
      (h.pos ≠ s.on F.TWIN_CFG_POS → s.twin.last = some h.seq → s.on F.TWIN_CFG_CAP_HB = false →
        exec (.heartbeat h) s = .next s) ∧
      (h.pos ≠ s.on F.TWIN_CFG_POS → s.twin.last ≠ some h.seq → ∃ t, exec (.heartbeat h) s = .next t ∧ t.mem = s.mem ∧
        t.twin.last = some h.seq ∧ t.twin.ptx = h.ttx ∧ t.twin.prx = s.now ∧ t.twin.lost = false ∧
        t.on F.TWIN_STAT_PEER_OK = true ∧ t.get F.TWIN_HB_SEQ_RX = h.seq.toNat ∧
        (s.on F.TWIN_CFG_TB_LOCK = true → h.hold = true → s.on F.TWIN_STAT_HOLD = false → s.twin.claiming = false →
          t.get (F.TIME_TB_CFG_TWIN_LOCK 0) = 1 ∧ (h.peerTx ≠ 0 → t.reg R.TWIN_OFFSET =
            BitVec.ofInt 32 (twinTheta h.ttx s.now h.peerTx h.peerRx (sgn 16 (s.get F.TWIN_ASYM_ASYM))))) ∧
        (s.on F.TWIN_CFG_TB_LOCK = false ∨ h.hold = false ∨ s.on F.TWIN_STAT_HOLD = true →
          t.get (F.TIME_TB_CFG_TWIN_LOCK 0) = 0 ∧ t.reg R.TWIN_OFFSET = s.reg R.TWIN_OFFSET))) ∧
    (s.on F.TWIN_CFG_EN = false ∨ s.pwr.dormant = true ∨ s.twin.last = none ∨ s.twin.lost = true →
      exec .heartbeatLoss s = .next s) ∧
    (s.on F.TWIN_CFG_EN = true → s.pwr.dormant = false → s.twin.last ≠ none → s.twin.lost = false →
      ∃ t, exec .heartbeatLoss s = .next t ∧ t.twin.lost = true ∧ t.on F.TWIN_STAT_PEER_LOST = true ∧
        t.on F.TWIN_STAT_PEER_OK = false ∧ t.mem = s.mem ∧
        (s.get F.PWR_STAT_STATE = 3 → t.bit F.PWR_WAKE_PEND_PEND 2 = true)) ∧
    (∀ h : TwinFrame, s.on F.TWIN_CFG_EN = true → s.pwr.dormant = false → s.twinRx = true → h.fcsOk = true → h.typ = 2 →
      h.pos ≠ s.on F.TWIN_CFG_POS → ∃ t, exec (.abdicateFrame h) s = .next t ∧ t.mem = s.mem ∧
        (s.mayClaim = true → t.twin.line = true ∧ t.twin.claiming = true ∧ t.out = s.out ++ [.token true]) ∧
        (s.mayClaim = false → t.twin.abd = true ∧ t.regs = s.regs ∧ t.out = s.out)) ∧
    (s.mayClaim = false → exec .claim s = .next (s.flag F.TWIN_STAT_CMD_REFUSED) ∧ exec .startLeadClaim s = .next s) ∧
    (s.mayClaim = true → (s.on F.TWIN_CFG_START_LEAD = false → exec .startLeadClaim s = .next s) ∧
      ∃ t, exec .claim s = .next t ∧ (s.on F.TWIN_CFG_START_LEAD = true → exec .startLeadClaim s = .next t) ∧
        t.twin.line = true ∧ t.twin.claiming = true ∧ t.out = s.out ++ [.token true] ∧
        t.get (F.TIME_TB_CFG_TWIN_LOCK 0) = 0 ∧ t.mem = s.mem) ∧
    (s.twin.line = false → exec .abdicate s = .next s) ∧
    (s.twin.line = true → ∃ t f, exec .abdicate s = .next t ∧ t.twin.line = false ∧ t.on F.TWIN_STAT_HOLD = false ∧
      t.on F.TWIN_STAT_ABDICATED = true ∧ t.out = s.out ++ (if s.twinTx then [.token false, .twin f] else [.token false]) ∧ f.typ = 2 ∧ t.mem = s.mem) ∧
    (s.twin.claiming = false → exec .claimSample s = .next s) ∧
    (s.twin.claiming = true →
      (s.twin.line = true → s.twin.peerLow = true → s.on F.TWIN_CFG_POS = true → ∃ t, exec .claimSample s = .next t ∧
        t.twin.line = false ∧ t.on F.TWIN_STAT_HOLD = false ∧ t.out = s.out ++ [.token false] ∧ t.mem = s.mem) ∧
      (s.twin.peerLow = false ∨ s.on F.TWIN_CFG_POS = false → ∃ t, exec .claimSample s = .next t ∧
        t.on F.TWIN_STAT_HOLD = true ∧ t.twin.claiming = false ∧ t.on F.TWIN_STAT_TAKEOVER = true ∧
        t.reg R.TWIN_TAKE_AT = s.now ∧ t.out = s.out ∧ t.mem = s.mem)) ∧
    (∀ h : TwinFrame, s.on F.TWIN_CFG_EN = true → s.pwr.dormant = false → s.twinRx = true → h.fcsOk = true → h.typ = 0x10 →
      let full : Prop := (s.get F.TWIN_RX_TAIL_TAIL + 2 ^ 17 - s.get F.TWIN_RX_HEAD_HEAD) % 2 ^ 17 = 2 ^ s.get F.TWIN_RX_CFG_DLOG
      let a := s.get F.TWIN_RX_CFG_BASE_HI * 2 ^ 32 + s.get F.TWIN_RX_BASE_LO_BASE / 256 * 256 +
        256 * (s.get F.TWIN_RX_TAIL_TAIL % 2 ^ s.get F.TWIN_RX_CFG_DLOG)
      (s.on F.TWIN_RX_CFG_EN = false ∨ full → ∃ t, exec (.stateFrame h) s = .next t ∧
        t.get F.TWIN_RX_DROP_DROP = min (2 ^ 32 - 1) (s.get F.TWIN_RX_DROP_DROP + 1) ∧
        t.get F.TWIN_RX_TAIL_TAIL = s.get F.TWIN_RX_TAIL_TAIL ∧ t.mem = s.mem) ∧
      (s.on F.TWIN_RX_CFG_EN = true → ¬full → ∃ t, exec (.stateFrame h) s = .next t ∧
        t.get F.TWIN_RX_TAIL_TAIL = (s.get F.TWIN_RX_TAIL_TAIL + 1) % 2 ^ 17 ∧
        t.mem = (s.engWrite 0x123 a (slice h.data 0 128 ++ toBytes 4 h.ttx.toNat ++ toBytes 4 s.now.toNat ++
          toBytes 2 h.seq.toNat ++ List.replicate 118 0) false).mem)) ∧
    (let ready : Prop := s.on F.TWIN_CFG_EN = true ∧ s.pwr.dormant = false ∧ s.twinTx = true ∧ s.on F.TWIN_TX_CFG_EN = true ∧
        s.get F.TWIN_TX_HEAD_HEAD ≠ s.get F.TWIN_TX_TAIL_TAIL
      let a := s.get F.TWIN_TX_CFG_BASE_HI * 2 ^ 32 + s.get F.TWIN_TX_BASE_LO_BASE / 64 * 64 +
        128 * (s.get F.TWIN_TX_HEAD_HEAD % 2 ^ s.get F.TWIN_TX_CFG_DLOG)
      (¬ready → exec .stateFrameSend s = .next s) ∧
      (ready → ∃ t f l, exec .stateFrameSend s = .next t ∧ t.out = s.out ++ l ++ [.twin f] ∧ f.typ = 0x10 ∧
        (isHostAddr a = false → s.trackedIn a 128 = [] → l = [] ∧ t.mem = s.mem) ∧
        f.seq = s.twin.stSeq ∧ f.data = s.engBytes a 128 ∧ t.twin.stSeq = s.twin.stSeq + 1 ∧
        t.get F.TWIN_TX_HEAD_HEAD = (s.get F.TWIN_TX_HEAD_HEAD + 1) % 2 ^ 17)) ∧
    (∃ t, exec .clrAll s = .next t ∧ (∀ i, uncountedEvent i = false → t.counter i = 0) ∧ t = { s with perf := t.perf }) ∧
    (∀ (init : BitVec 12) (i : BitVec 11), i.toNat < 1184 → ∃ t, exec (.perfCntLo init i) s = .next t ∧
      t.out = s.out ++ [.readData (toBytes 4 (s.counter i.toNat).toNat) true] ∧ t.perf = s.perf ∧ t.regs = s.regs ∧
      t.counterHi init.toNat i.toNat = (s.counter i.toNat >>> 32).truncate 32 ∧ t.lastAt init.toNat = s.now ∧ t.mem = s.mem) ∧
    (s.on F.PERF_STAT_DUMP_BUSY = true → ∃ t, exec .go s = .next t ∧ t.on F.PERF_STAT_DUMP_OVF = true ∧ t.dump = s.dump ∧
      t.flight = s.flight) ∧
    (s.on F.PERF_STAT_DUMP_BUSY = false →
      let first := s.get F.PERF_DUMP_RANGE_FIRST
      let n := s.get F.PERF_DUMP_RANGE_COUNT
      let free := 2 ^ s.get F.PERF_DUMP_CFG_DLOG - (s.reg R.PERF_DUMP_WR - s.reg R.PERF_DUMP_RD).toNat
      (1184 < first + n ∨ n = 0 ∨ s.on F.PERF_DUMP_CFG_EN = false → ∃ t, exec .go s = .next t ∧
        t.on F.PERF_STAT_CFG_BAD = true ∧ t.dump = s.dump ∧ t.flight = s.flight) ∧
      (first + n ≤ 1184 → n ≠ 0 → s.on F.PERF_DUMP_CFG_EN = true → (n + 7) / 8 ≤ free → ∃ t, exec .go s = .next t ∧
        t.on F.PERF_STAT_DUMP_BUSY = true ∧ t.dump = ⟨s.dump.seq + 1, first + min 8 n, n - min 8 n⟩ ∧
        t.flight.length = s.flight.length + 1 ∧ t.mem = s.mem)) ∧
    (s.get F.PERF_DUMP_CFG_PERIOD = 0 → exec .dumpPeriodExpiry s = .next s) ∧
    (s.get F.PERF_DUMP_CFG_PERIOD ≠ 0 → exec .dumpPeriodExpiry s = exec .go s)
end

