-- ==== Sys2Proof/Laws/SMap.lean ====
section
/-!
SUPPORT. Laws of the sparse maps: reading after writing, and that every operation keeps the canonical form.
-/

namespace Sys2Proof.Machine

variable {α : Type}

theorem mapFind_erase_same (m : List (Nat × α)) (x : Nat) : mapFind? (mapErase m x) x = none := by
  induction m with
  | nil => rfl
  | cons e m ih =>
    obtain ⟨k, v⟩ := e
    by_cases h : k = x <;> simp [mapErase, mapFind?, h, ih]

theorem mapFind_erase_ne (m : List (Nat × α)) {x z : Nat} (hz : z ≠ x) :
    mapFind? (mapErase m x) z = mapFind? m z := by
  induction m with
  | nil => rfl
  | cons e m ih =>
    obtain ⟨k, v⟩ := e
    by_cases h : k = x
    · subst h; simp [mapErase, mapFind?, ih, Ne.symm hz]
    · simp [mapErase, mapFind?, h, ih]

theorem mapFind_put_same (m : List (Nat × α)) (x : Nat) (y : α) (h : mapFind? m x = none) :
    mapFind? (mapPut m x y) x = some y := by
  induction m with
  | nil => simp [mapPut, mapFind?]
  | cons e m ih =>
    obtain ⟨k, v⟩ := e
    by_cases hk : k = x
    · simp [mapFind?, hk] at h
    · simp only [mapFind?, hk, if_false] at h
      by_cases hl : x < k
      · simp [mapPut, hl, mapFind?]
      · simp [mapPut, hl, mapFind?, hk, ih h]

theorem mapFind_put_ne (m : List (Nat × α)) {x z : Nat} (y : α) (hz : z ≠ x) :
    mapFind? (mapPut m x y) z = mapFind? m z := by
  induction m with
  | nil => simp [mapPut, mapFind?, Ne.symm hz]
  | cons e m ih =>
    obtain ⟨k, v⟩ := e
    by_cases hl : x < k
    · simp [mapPut, hl, mapFind?, Ne.symm hz]
    · simp [mapPut, hl, mapFind?, ih]

@[simp] theorem mapFind_ins_same (m : List (Nat × α)) (x : Nat) (y : α) :
    mapFind? (mapIns m x y) x = some y :=
  mapFind_put_same _ _ _ (mapFind_erase_same m x)

theorem mapFind_ins_ne (m : List (Nat × α)) {x z : Nat} (y : α) (hz : z ≠ x) :
    mapFind? (mapIns m x y) z = mapFind? m z := by
  rw [mapIns, mapFind_put_ne _ _ hz, mapFind_erase_ne _ hz]

@[simp] theorem mapGet_ins_same (m : List (Nat × α)) (d : α) (x : Nat) (y : α) :
    mapGet (mapIns m x y) d x = y := by
  simp [mapGet]

theorem mapGet_ins_ne (m : List (Nat × α)) (d : α) {x z : Nat} (y : α) (hz : z ≠ x) :
    mapGet (mapIns m x y) d z = mapGet m d z := by
  simp [mapGet, mapFind_ins_ne m y hz]

@[simp] theorem mapGet_set_same [DecidableEq α] (m : List (Nat × α)) (d : α) (x : Nat) (y : α) :
    mapGet (mapSet m d x y) d x = y := by
  unfold mapSet
  split
  · next h => simp [mapGet, mapFind_erase_same, h]
  · simp

theorem mapGet_set_ne [DecidableEq α] (m : List (Nat × α)) (d e : α) {x z : Nat} (y : α) (hz : z ≠ x) :
    mapGet (mapSet m e x y) d z = mapGet m d z := by
  unfold mapSet
  split
  · simp [mapGet, mapFind_erase_ne m hz]
  · exact mapGet_ins_ne m d y hz

theorem mapSorted_mono {lo lo' : Nat} (h : lo' ≤ lo) (m : List (Nat × α)) :
    mapSorted lo m = true → mapSorted lo' m = true := by
  cases m with
  | nil => simp [mapSorted]
  | cons e m =>
    obtain ⟨k, v⟩ := e
    simp only [mapSorted, Bool.and_eq_true, decide_eq_true_eq]
    exact fun ⟨a, b⟩ => ⟨by omega, b⟩

theorem mapSorted_erase (m : List (Nat × α)) (x : Nat) :
    ∀ lo, mapSorted lo m = true → mapSorted lo (mapErase m x) = true := by
  induction m with
  | nil => simp [mapErase]
  | cons e m ih =>
    obtain ⟨k, v⟩ := e
    intro lo h
    simp only [mapSorted, Bool.and_eq_true, decide_eq_true_eq] at h
    by_cases hk : k = x
    · simp only [mapErase, hk, if_true]
      exact mapSorted_mono (by omega) _ (ih _ h.2)
    · simp only [mapErase, hk, if_false, mapSorted, Bool.and_eq_true, decide_eq_true_eq]
      exact ⟨h.1, ih _ h.2⟩

theorem mapSorted_put (m : List (Nat × α)) (x : Nat) (y : α) (hx : mapFind? m x = none) :
    ∀ lo, lo ≤ x → mapSorted lo m = true → mapSorted lo (mapPut m x y) = true := by
  induction m with
  | nil => intro lo hlo _; simp [mapPut, mapSorted, hlo]
  | cons e m ih =>
    obtain ⟨k, v⟩ := e
    intro lo hlo h
    simp only [mapSorted, Bool.and_eq_true, decide_eq_true_eq] at h
    have hk : k ≠ x := by
      intro hk; simp [mapFind?, hk] at hx
    simp only [mapFind?, hk, if_false] at hx
    by_cases hl : x < k
    · simp only [mapPut, hl, if_true, mapSorted, Bool.and_eq_true, decide_eq_true_eq]
      exact ⟨hlo, hl, h.2⟩
    · simp only [mapPut, hl, if_false, mapSorted, Bool.and_eq_true, decide_eq_true_eq]
      exact ⟨h.1, ih hx _ (by omega) h.2⟩

theorem mapWf_erase (m : List (Nat × α)) (x : Nat) (h : mapWf m = true) : mapWf (mapErase m x) = true :=
  mapSorted_erase m x 0 h

theorem mapWf_ins (m : List (Nat × α)) (x : Nat) (y : α) (h : mapWf m = true) : mapWf (mapIns m x y) = true :=
  mapSorted_put _ x y (mapFind_erase_same m x) 0 (Nat.zero_le _) (mapWf_erase m x h)

theorem mapWf_set [DecidableEq α] (m : List (Nat × α)) (d : α) (x : Nat) (y : α) (h : mapWf m = true) :
    mapWf (mapSet m d x y) = true := by
  unfold mapSet; split
  · exact mapWf_erase m x h
  · exact mapWf_ins m x y h

theorem mapNoDefault_erase [DecidableEq α] (d : Nat → α) (m : List (Nat × α)) (x : Nat)
    (h : mapNoDefault d m = true) : mapNoDefault d (mapErase m x) = true := by
  induction m with
  | nil => simpa [mapErase] using h
  | cons e m ih =>
    obtain ⟨k, v⟩ := e
    simp only [mapNoDefault, List.all_cons, Bool.and_eq_true] at h ih ⊢
    by_cases hk : k = x
    · simpa only [mapErase, hk, if_true] using ih h.2
    · simpa only [mapErase, hk, if_false, List.all_cons, Bool.and_eq_true] using ⟨h.1, ih h.2⟩

theorem mapNoDefault_put [DecidableEq α] (d : Nat → α) (m : List (Nat × α)) (x : Nat) (y : α) (hy : y ≠ d x)
    (h : mapNoDefault d m = true) : mapNoDefault d (mapPut m x y) = true := by
  induction m with
  | nil => simpa [mapPut, mapNoDefault] using hy
  | cons e m ih =>
    obtain ⟨k, v⟩ := e
    simp only [mapNoDefault, List.all_cons, Bool.and_eq_true] at h ih ⊢
    by_cases hl : x < k
    · simpa [mapPut, hl, hy] using h
    · simpa only [mapPut, hl, if_false, List.all_cons, Bool.and_eq_true] using ⟨h.1, ih h.2⟩

theorem mapNoDefault_set [DecidableEq α] (d : Nat → α) (m : List (Nat × α)) (x : Nat) (y : α)
    (h : mapNoDefault d m = true) : mapNoDefault d (mapSet m (d x) x y) = true := by
  unfold mapSet; split
  · exact mapNoDefault_erase d m x h
  · next hy => exact mapNoDefault_put d _ x y hy (mapNoDefault_erase d m x h)

end Sys2Proof.Machine
end

