-- ==== Sys2Proof/Laws/State.lean ====
section
/-!
SUPPORT. What each update of State leaves of each field: one lemma for each field and update, true by computation, so that no
later proof unfolds a record update.
-/

namespace Sys2Proof.Machine

/-! ## A register takes a value -/

@[simp] theorem State.setReg_pending (s : State) (a : Nat) (v : Word) : (s.setReg a v).pending = s.pending := rfl
@[simp] theorem State.setReg_regs (s : State) (a : Nat) (v : Word) :
    (s.setReg a v).regs = mapSet s.regs (regReset a) a v := rfl
@[simp] theorem State.setReg_mem (s : State) (a : Nat) (v : Word) : (s.setReg a v).mem = s.mem := rfl
@[simp] theorem State.setReg_badPar (s : State) (a : Nat) (v : Word) : (s.setReg a v).badPar = s.badPar := rfl
@[simp] theorem State.setReg_hostMem (s : State) (a : Nat) (v : Word) : (s.setReg a v).hostMem = s.hostMem := rfl
@[simp] theorem State.setReg_freeCtr (s : State) (a : Nat) (v : Word) : (s.setReg a v).freeCtr = s.freeCtr := rfl
@[simp] theorem State.setReg_out (s : State) (a : Nat) (v : Word) : (s.setReg a v).out = s.out := rfl
@[simp] theorem State.setReg_reports (s : State) (a : Nat) (v : Word) : (s.setReg a v).reports = s.reports := rfl
@[simp] theorem State.setReg_frNext (s : State) (a : Nat) (v : Word) : (s.setReg a v).frNext = s.frNext := rfl
@[simp] theorem State.setReg_perf (s : State) (a : Nat) (v : Word) : (s.setReg a v).perf = s.perf := rfl
@[simp] theorem State.setReg_perfHi (s : State) (a : Nat) (v : Word) : (s.setReg a v).perfHi = s.perfHi := rfl
@[simp] theorem State.setReg_perfAt (s : State) (a : Nat) (v : Word) : (s.setReg a v).perfAt = s.perfAt := rfl
@[simp] theorem State.setReg_time (s : State) (a : Nat) (v : Word) : (s.setReg a v).time = s.time := rfl
@[simp] theorem State.setReg_cores (s : State) (a : Nat) (v : Word) : (s.setReg a v).cores = s.cores := rfl
@[simp] theorem State.setReg_snaps (s : State) (a : Nat) (v : Word) : (s.setReg a v).snaps = s.snaps := rfl
@[simp] theorem State.setReg_imgDis (s : State) (a : Nat) (v : Word) : (s.setReg a v).imgDis = s.imgDis := rfl
@[simp] theorem State.setReg_flight (s : State) (a : Nat) (v : Word) : (s.setReg a v).flight = s.flight := rfl
@[simp] theorem State.setReg_outst (s : State) (a : Nat) (v : Word) : (s.setReg a v).outst = s.outst := rfl
@[simp] theorem State.setReg_resIds (s : State) (a : Nat) (v : Word) : (s.setReg a v).resIds = s.resIds := rfl
@[simp] theorem State.setReg_idWait (s : State) (a : Nat) (v : Word) : (s.setReg a v).idWait = s.idWait := rfl
@[simp] theorem State.setReg_stops (s : State) (a : Nat) (v : Word) : (s.setReg a v).stops = s.stops := rfl
@[simp] theorem State.setReg_routes (s : State) (a : Nat) (v : Word) : (s.setReg a v).routes = s.routes := rfl
@[simp] theorem State.setReg_macros (s : State) (a : Nat) (v : Word) : (s.setReg a v).macros = s.macros := rfl
@[simp] theorem State.setReg_patrol (s : State) (a : Nat) (v : Word) : (s.setReg a v).patrol = s.patrol := rfl
@[simp] theorem State.setReg_tripped (s : State) (a : Nat) (v : Word) : (s.setReg a v).tripped = s.tripped := rfl
@[simp] theorem State.setReg_retHold (s : State) (a : Nat) (v : Word) : (s.setReg a v).retHold = s.retHold := rfl
@[simp] theorem State.setReg_host (s : State) (a : Nat) (v : Word) : (s.setReg a v).host = s.host := rfl
@[simp] theorem State.setReg_pwr (s : State) (a : Nat) (v : Word) : (s.setReg a v).pwr = s.pwr := rfl
@[simp] theorem State.setReg_queues (s : State) (a : Nat) (v : Word) : (s.setReg a v).queues = s.queues := rfl
@[simp] theorem State.setReg_tokCnt (s : State) (a : Nat) (v : Word) : (s.setReg a v).tokCnt = s.tokCnt := rfl
@[simp] theorem State.setReg_mirrors (s : State) (a : Nat) (v : Word) : (s.setReg a v).mirrors = s.mirrors := rfl
@[simp] theorem State.setReg_sieves (s : State) (a : Nat) (v : Word) : (s.setReg a v).sieves = s.sieves := rfl
@[simp] theorem State.setReg_chans (s : State) (a : Nat) (v : Word) : (s.setReg a v).chans = s.chans := rfl
@[simp] theorem State.setReg_owed (s : State) (a : Nat) (v : Word) : (s.setReg a v).owed = s.owed := rfl
@[simp] theorem State.setReg_fuse (s : State) (a : Nat) (v : Word) : (s.setReg a v).fuse = s.fuse := rfl
@[simp] theorem State.setReg_ctlErr (s : State) (a : Nat) (v : Word) : (s.setReg a v).ctlErr = s.ctlErr := rfl
@[simp] theorem State.setReg_mills (s : State) (a : Nat) (v : Word) : (s.setReg a v).mills = s.mills := rfl
@[simp] theorem State.setReg_corr (s : State) (a : Nat) (v : Word) : (s.setReg a v).corr = s.corr := rfl
@[simp] theorem State.setReg_fh (s : State) (a : Nat) (v : Word) : (s.setReg a v).fh = s.fh := rfl
@[simp] theorem State.setReg_ks (s : State) (a : Nat) (v : Word) : (s.setReg a v).ks = s.ks := rfl
@[simp] theorem State.setReg_twin (s : State) (a : Nat) (v : Word) : (s.setReg a v).twin = s.twin := rfl
@[simp] theorem State.setReg_mgmt (s : State) (a : Nat) (v : Word) : (s.setReg a v).mgmt = s.mgmt := rfl
@[simp] theorem State.setReg_boot (s : State) (a : Nat) (v : Word) : (s.setReg a v).boot = s.boot := rfl
@[simp] theorem State.setReg_cal (s : State) (a : Nat) (v : Word) : (s.setReg a v).cal = s.cal := rfl
@[simp] theorem State.setReg_dump (s : State) (a : Nat) (v : Word) : (s.setReg a v).dump = s.dump := rfl

/-! ## A field of a register takes a value -/

@[simp] theorem State.put_pending (s : State) (f : RF) (x : Nat) : (s.put f x).pending = s.pending := rfl
@[simp] theorem State.put_regs (s : State) (f : RF) (x : Nat) :
    (s.put f x).regs = mapSet s.regs (regReset f.a) f.a (withField (s.reg f.a) f x) := rfl
@[simp] theorem State.put_mem (s : State) (f : RF) (x : Nat) : (s.put f x).mem = s.mem := rfl
@[simp] theorem State.put_badPar (s : State) (f : RF) (x : Nat) : (s.put f x).badPar = s.badPar := rfl
@[simp] theorem State.put_hostMem (s : State) (f : RF) (x : Nat) : (s.put f x).hostMem = s.hostMem := rfl
@[simp] theorem State.put_freeCtr (s : State) (f : RF) (x : Nat) : (s.put f x).freeCtr = s.freeCtr := rfl
@[simp] theorem State.put_out (s : State) (f : RF) (x : Nat) : (s.put f x).out = s.out := rfl
@[simp] theorem State.put_reports (s : State) (f : RF) (x : Nat) : (s.put f x).reports = s.reports := rfl
@[simp] theorem State.put_frNext (s : State) (f : RF) (x : Nat) : (s.put f x).frNext = s.frNext := rfl
@[simp] theorem State.put_perf (s : State) (f : RF) (x : Nat) : (s.put f x).perf = s.perf := rfl
@[simp] theorem State.put_perfHi (s : State) (f : RF) (x : Nat) : (s.put f x).perfHi = s.perfHi := rfl
@[simp] theorem State.put_perfAt (s : State) (f : RF) (x : Nat) : (s.put f x).perfAt = s.perfAt := rfl
@[simp] theorem State.put_time (s : State) (f : RF) (x : Nat) : (s.put f x).time = s.time := rfl
@[simp] theorem State.put_cores (s : State) (f : RF) (x : Nat) : (s.put f x).cores = s.cores := rfl
@[simp] theorem State.put_snaps (s : State) (f : RF) (x : Nat) : (s.put f x).snaps = s.snaps := rfl
@[simp] theorem State.put_imgDis (s : State) (f : RF) (x : Nat) : (s.put f x).imgDis = s.imgDis := rfl
@[simp] theorem State.put_flight (s : State) (f : RF) (x : Nat) : (s.put f x).flight = s.flight := rfl
@[simp] theorem State.put_outst (s : State) (f : RF) (x : Nat) : (s.put f x).outst = s.outst := rfl
@[simp] theorem State.put_resIds (s : State) (f : RF) (x : Nat) : (s.put f x).resIds = s.resIds := rfl
@[simp] theorem State.put_idWait (s : State) (f : RF) (x : Nat) : (s.put f x).idWait = s.idWait := rfl
@[simp] theorem State.put_stops (s : State) (f : RF) (x : Nat) : (s.put f x).stops = s.stops := rfl
@[simp] theorem State.put_routes (s : State) (f : RF) (x : Nat) : (s.put f x).routes = s.routes := rfl
@[simp] theorem State.put_macros (s : State) (f : RF) (x : Nat) : (s.put f x).macros = s.macros := rfl
@[simp] theorem State.put_patrol (s : State) (f : RF) (x : Nat) : (s.put f x).patrol = s.patrol := rfl
@[simp] theorem State.put_tripped (s : State) (f : RF) (x : Nat) : (s.put f x).tripped = s.tripped := rfl
@[simp] theorem State.put_retHold (s : State) (f : RF) (x : Nat) : (s.put f x).retHold = s.retHold := rfl
@[simp] theorem State.put_host (s : State) (f : RF) (x : Nat) : (s.put f x).host = s.host := rfl
@[simp] theorem State.put_pwr (s : State) (f : RF) (x : Nat) : (s.put f x).pwr = s.pwr := rfl
@[simp] theorem State.put_queues (s : State) (f : RF) (x : Nat) : (s.put f x).queues = s.queues := rfl
@[simp] theorem State.put_tokCnt (s : State) (f : RF) (x : Nat) : (s.put f x).tokCnt = s.tokCnt := rfl
@[simp] theorem State.put_mirrors (s : State) (f : RF) (x : Nat) : (s.put f x).mirrors = s.mirrors := rfl
@[simp] theorem State.put_sieves (s : State) (f : RF) (x : Nat) : (s.put f x).sieves = s.sieves := rfl
@[simp] theorem State.put_chans (s : State) (f : RF) (x : Nat) : (s.put f x).chans = s.chans := rfl
@[simp] theorem State.put_owed (s : State) (f : RF) (x : Nat) : (s.put f x).owed = s.owed := rfl
@[simp] theorem State.put_fuse (s : State) (f : RF) (x : Nat) : (s.put f x).fuse = s.fuse := rfl
@[simp] theorem State.put_ctlErr (s : State) (f : RF) (x : Nat) : (s.put f x).ctlErr = s.ctlErr := rfl
@[simp] theorem State.put_mills (s : State) (f : RF) (x : Nat) : (s.put f x).mills = s.mills := rfl
@[simp] theorem State.put_corr (s : State) (f : RF) (x : Nat) : (s.put f x).corr = s.corr := rfl
@[simp] theorem State.put_fh (s : State) (f : RF) (x : Nat) : (s.put f x).fh = s.fh := rfl
@[simp] theorem State.put_ks (s : State) (f : RF) (x : Nat) : (s.put f x).ks = s.ks := rfl
@[simp] theorem State.put_twin (s : State) (f : RF) (x : Nat) : (s.put f x).twin = s.twin := rfl
@[simp] theorem State.put_mgmt (s : State) (f : RF) (x : Nat) : (s.put f x).mgmt = s.mgmt := rfl
@[simp] theorem State.put_boot (s : State) (f : RF) (x : Nat) : (s.put f x).boot = s.boot := rfl
@[simp] theorem State.put_cal (s : State) (f : RF) (x : Nat) : (s.put f x).cal = s.cal := rfl
@[simp] theorem State.put_dump (s : State) (f : RF) (x : Nat) : (s.put f x).dump = s.dump := rfl

/-! ## A flag is set -/

@[simp] theorem State.flag_pending (s : State) (f : RF) : (s.flag f).pending = s.pending := rfl
@[simp] theorem State.flag_regs (s : State) (f : RF) :
    (s.flag f).regs = (s.put f 1).regs := rfl
@[simp] theorem State.flag_mem (s : State) (f : RF) : (s.flag f).mem = s.mem := rfl
@[simp] theorem State.flag_badPar (s : State) (f : RF) : (s.flag f).badPar = s.badPar := rfl
@[simp] theorem State.flag_hostMem (s : State) (f : RF) : (s.flag f).hostMem = s.hostMem := rfl
@[simp] theorem State.flag_freeCtr (s : State) (f : RF) : (s.flag f).freeCtr = s.freeCtr := rfl
@[simp] theorem State.flag_out (s : State) (f : RF) : (s.flag f).out = s.out := rfl
@[simp] theorem State.flag_reports (s : State) (f : RF) : (s.flag f).reports = s.reports := rfl
@[simp] theorem State.flag_frNext (s : State) (f : RF) : (s.flag f).frNext = s.frNext := rfl
@[simp] theorem State.flag_perf (s : State) (f : RF) : (s.flag f).perf = s.perf := rfl
@[simp] theorem State.flag_perfHi (s : State) (f : RF) : (s.flag f).perfHi = s.perfHi := rfl
@[simp] theorem State.flag_perfAt (s : State) (f : RF) : (s.flag f).perfAt = s.perfAt := rfl
@[simp] theorem State.flag_time (s : State) (f : RF) : (s.flag f).time = s.time := rfl
@[simp] theorem State.flag_cores (s : State) (f : RF) : (s.flag f).cores = s.cores := rfl
@[simp] theorem State.flag_snaps (s : State) (f : RF) : (s.flag f).snaps = s.snaps := rfl
@[simp] theorem State.flag_imgDis (s : State) (f : RF) : (s.flag f).imgDis = s.imgDis := rfl
@[simp] theorem State.flag_flight (s : State) (f : RF) : (s.flag f).flight = s.flight := rfl
@[simp] theorem State.flag_outst (s : State) (f : RF) : (s.flag f).outst = s.outst := rfl
@[simp] theorem State.flag_resIds (s : State) (f : RF) : (s.flag f).resIds = s.resIds := rfl
@[simp] theorem State.flag_idWait (s : State) (f : RF) : (s.flag f).idWait = s.idWait := rfl
@[simp] theorem State.flag_stops (s : State) (f : RF) : (s.flag f).stops = s.stops := rfl
@[simp] theorem State.flag_routes (s : State) (f : RF) : (s.flag f).routes = s.routes := rfl
@[simp] theorem State.flag_macros (s : State) (f : RF) : (s.flag f).macros = s.macros := rfl
@[simp] theorem State.flag_patrol (s : State) (f : RF) : (s.flag f).patrol = s.patrol := rfl
@[simp] theorem State.flag_tripped (s : State) (f : RF) : (s.flag f).tripped = s.tripped := rfl
@[simp] theorem State.flag_retHold (s : State) (f : RF) : (s.flag f).retHold = s.retHold := rfl
@[simp] theorem State.flag_host (s : State) (f : RF) : (s.flag f).host = s.host := rfl
@[simp] theorem State.flag_pwr (s : State) (f : RF) : (s.flag f).pwr = s.pwr := rfl
@[simp] theorem State.flag_queues (s : State) (f : RF) : (s.flag f).queues = s.queues := rfl
@[simp] theorem State.flag_tokCnt (s : State) (f : RF) : (s.flag f).tokCnt = s.tokCnt := rfl
@[simp] theorem State.flag_mirrors (s : State) (f : RF) : (s.flag f).mirrors = s.mirrors := rfl
@[simp] theorem State.flag_sieves (s : State) (f : RF) : (s.flag f).sieves = s.sieves := rfl
@[simp] theorem State.flag_chans (s : State) (f : RF) : (s.flag f).chans = s.chans := rfl
@[simp] theorem State.flag_owed (s : State) (f : RF) : (s.flag f).owed = s.owed := rfl
@[simp] theorem State.flag_fuse (s : State) (f : RF) : (s.flag f).fuse = s.fuse := rfl
@[simp] theorem State.flag_ctlErr (s : State) (f : RF) : (s.flag f).ctlErr = s.ctlErr := rfl
@[simp] theorem State.flag_mills (s : State) (f : RF) : (s.flag f).mills = s.mills := rfl
@[simp] theorem State.flag_corr (s : State) (f : RF) : (s.flag f).corr = s.corr := rfl
@[simp] theorem State.flag_fh (s : State) (f : RF) : (s.flag f).fh = s.fh := rfl
@[simp] theorem State.flag_ks (s : State) (f : RF) : (s.flag f).ks = s.ks := rfl
@[simp] theorem State.flag_twin (s : State) (f : RF) : (s.flag f).twin = s.twin := rfl
@[simp] theorem State.flag_mgmt (s : State) (f : RF) : (s.flag f).mgmt = s.mgmt := rfl
@[simp] theorem State.flag_boot (s : State) (f : RF) : (s.flag f).boot = s.boot := rfl
@[simp] theorem State.flag_cal (s : State) (f : RF) : (s.flag f).cal = s.cal := rfl
@[simp] theorem State.flag_dump (s : State) (f : RF) : (s.flag f).dump = s.dump := rfl

/-! ## A flag with its repeat count -/

@[simp] theorem State.flagRep_pending (s : State) (f rep : RF) : (s.flagRep f rep).pending = s.pending := rfl
@[simp] theorem State.flagRep_regs (s : State) (f rep : RF) :
    (s.flagRep f rep).regs = ((s.put f 1).put rep (min 255 (s.get rep + 1))).regs := rfl
@[simp] theorem State.flagRep_mem (s : State) (f rep : RF) : (s.flagRep f rep).mem = s.mem := rfl
@[simp] theorem State.flagRep_badPar (s : State) (f rep : RF) : (s.flagRep f rep).badPar = s.badPar := rfl
@[simp] theorem State.flagRep_hostMem (s : State) (f rep : RF) : (s.flagRep f rep).hostMem = s.hostMem := rfl
@[simp] theorem State.flagRep_freeCtr (s : State) (f rep : RF) : (s.flagRep f rep).freeCtr = s.freeCtr := rfl
@[simp] theorem State.flagRep_out (s : State) (f rep : RF) : (s.flagRep f rep).out = s.out := rfl
@[simp] theorem State.flagRep_reports (s : State) (f rep : RF) : (s.flagRep f rep).reports = s.reports := rfl
@[simp] theorem State.flagRep_frNext (s : State) (f rep : RF) : (s.flagRep f rep).frNext = s.frNext := rfl
@[simp] theorem State.flagRep_perf (s : State) (f rep : RF) : (s.flagRep f rep).perf = s.perf := rfl
@[simp] theorem State.flagRep_perfHi (s : State) (f rep : RF) : (s.flagRep f rep).perfHi = s.perfHi := rfl
@[simp] theorem State.flagRep_perfAt (s : State) (f rep : RF) : (s.flagRep f rep).perfAt = s.perfAt := rfl
@[simp] theorem State.flagRep_time (s : State) (f rep : RF) : (s.flagRep f rep).time = s.time := rfl
@[simp] theorem State.flagRep_cores (s : State) (f rep : RF) : (s.flagRep f rep).cores = s.cores := rfl
@[simp] theorem State.flagRep_snaps (s : State) (f rep : RF) : (s.flagRep f rep).snaps = s.snaps := rfl
@[simp] theorem State.flagRep_imgDis (s : State) (f rep : RF) : (s.flagRep f rep).imgDis = s.imgDis := rfl
@[simp] theorem State.flagRep_flight (s : State) (f rep : RF) : (s.flagRep f rep).flight = s.flight := rfl
@[simp] theorem State.flagRep_outst (s : State) (f rep : RF) : (s.flagRep f rep).outst = s.outst := rfl
@[simp] theorem State.flagRep_resIds (s : State) (f rep : RF) : (s.flagRep f rep).resIds = s.resIds := rfl
@[simp] theorem State.flagRep_idWait (s : State) (f rep : RF) : (s.flagRep f rep).idWait = s.idWait := rfl
@[simp] theorem State.flagRep_stops (s : State) (f rep : RF) : (s.flagRep f rep).stops = s.stops := rfl
@[simp] theorem State.flagRep_routes (s : State) (f rep : RF) : (s.flagRep f rep).routes = s.routes := rfl
@[simp] theorem State.flagRep_macros (s : State) (f rep : RF) : (s.flagRep f rep).macros = s.macros := rfl
@[simp] theorem State.flagRep_patrol (s : State) (f rep : RF) : (s.flagRep f rep).patrol = s.patrol := rfl
@[simp] theorem State.flagRep_tripped (s : State) (f rep : RF) : (s.flagRep f rep).tripped = s.tripped := rfl
@[simp] theorem State.flagRep_retHold (s : State) (f rep : RF) : (s.flagRep f rep).retHold = s.retHold := rfl
@[simp] theorem State.flagRep_host (s : State) (f rep : RF) : (s.flagRep f rep).host = s.host := rfl
@[simp] theorem State.flagRep_pwr (s : State) (f rep : RF) : (s.flagRep f rep).pwr = s.pwr := rfl
@[simp] theorem State.flagRep_queues (s : State) (f rep : RF) : (s.flagRep f rep).queues = s.queues := rfl
@[simp] theorem State.flagRep_tokCnt (s : State) (f rep : RF) : (s.flagRep f rep).tokCnt = s.tokCnt := rfl
@[simp] theorem State.flagRep_mirrors (s : State) (f rep : RF) : (s.flagRep f rep).mirrors = s.mirrors := rfl
@[simp] theorem State.flagRep_sieves (s : State) (f rep : RF) : (s.flagRep f rep).sieves = s.sieves := rfl
@[simp] theorem State.flagRep_chans (s : State) (f rep : RF) : (s.flagRep f rep).chans = s.chans := rfl
@[simp] theorem State.flagRep_owed (s : State) (f rep : RF) : (s.flagRep f rep).owed = s.owed := rfl
@[simp] theorem State.flagRep_fuse (s : State) (f rep : RF) : (s.flagRep f rep).fuse = s.fuse := rfl
@[simp] theorem State.flagRep_ctlErr (s : State) (f rep : RF) : (s.flagRep f rep).ctlErr = s.ctlErr := rfl
@[simp] theorem State.flagRep_mills (s : State) (f rep : RF) : (s.flagRep f rep).mills = s.mills := rfl
@[simp] theorem State.flagRep_corr (s : State) (f rep : RF) : (s.flagRep f rep).corr = s.corr := rfl
@[simp] theorem State.flagRep_fh (s : State) (f rep : RF) : (s.flagRep f rep).fh = s.fh := rfl
@[simp] theorem State.flagRep_ks (s : State) (f rep : RF) : (s.flagRep f rep).ks = s.ks := rfl
@[simp] theorem State.flagRep_twin (s : State) (f rep : RF) : (s.flagRep f rep).twin = s.twin := rfl
@[simp] theorem State.flagRep_mgmt (s : State) (f rep : RF) : (s.flagRep f rep).mgmt = s.mgmt := rfl
@[simp] theorem State.flagRep_boot (s : State) (f rep : RF) : (s.flagRep f rep).boot = s.boot := rfl
@[simp] theorem State.flagRep_cal (s : State) (f rep : RF) : (s.flagRep f rep).cal = s.cal := rfl
@[simp] theorem State.flagRep_dump (s : State) (f rep : RF) : (s.flagRep f rep).dump = s.dump := rfl

/-! ## A counter counts -/

@[simp] theorem State.count_pending (s : State) (i n : Nat) : (s.count i n).pending = s.pending := rfl
@[simp] theorem State.count_regs (s : State) (i n : Nat) : (s.count i n).regs = s.regs := rfl
@[simp] theorem State.count_mem (s : State) (i n : Nat) : (s.count i n).mem = s.mem := rfl
@[simp] theorem State.count_badPar (s : State) (i n : Nat) : (s.count i n).badPar = s.badPar := rfl
@[simp] theorem State.count_hostMem (s : State) (i n : Nat) : (s.count i n).hostMem = s.hostMem := rfl
@[simp] theorem State.count_freeCtr (s : State) (i n : Nat) : (s.count i n).freeCtr = s.freeCtr := rfl
@[simp] theorem State.count_out (s : State) (i n : Nat) : (s.count i n).out = s.out := rfl
@[simp] theorem State.count_reports (s : State) (i n : Nat) : (s.count i n).reports = s.reports := rfl
@[simp] theorem State.count_frNext (s : State) (i n : Nat) : (s.count i n).frNext = s.frNext := rfl
@[simp] theorem State.count_perf (s : State) (i n : Nat) :
    (s.count i n).perf = mapSet s.perf 0 i (mapGet s.perf 0 i + BitVec.ofNat 48 n) := rfl
@[simp] theorem State.count_perfHi (s : State) (i n : Nat) : (s.count i n).perfHi = s.perfHi := rfl
@[simp] theorem State.count_perfAt (s : State) (i n : Nat) : (s.count i n).perfAt = s.perfAt := rfl
@[simp] theorem State.count_time (s : State) (i n : Nat) : (s.count i n).time = s.time := rfl
@[simp] theorem State.count_cores (s : State) (i n : Nat) : (s.count i n).cores = s.cores := rfl
@[simp] theorem State.count_snaps (s : State) (i n : Nat) : (s.count i n).snaps = s.snaps := rfl
@[simp] theorem State.count_imgDis (s : State) (i n : Nat) : (s.count i n).imgDis = s.imgDis := rfl
@[simp] theorem State.count_flight (s : State) (i n : Nat) : (s.count i n).flight = s.flight := rfl
@[simp] theorem State.count_outst (s : State) (i n : Nat) : (s.count i n).outst = s.outst := rfl
@[simp] theorem State.count_resIds (s : State) (i n : Nat) : (s.count i n).resIds = s.resIds := rfl
@[simp] theorem State.count_idWait (s : State) (i n : Nat) : (s.count i n).idWait = s.idWait := rfl
@[simp] theorem State.count_stops (s : State) (i n : Nat) : (s.count i n).stops = s.stops := rfl
@[simp] theorem State.count_routes (s : State) (i n : Nat) : (s.count i n).routes = s.routes := rfl
@[simp] theorem State.count_macros (s : State) (i n : Nat) : (s.count i n).macros = s.macros := rfl
@[simp] theorem State.count_patrol (s : State) (i n : Nat) : (s.count i n).patrol = s.patrol := rfl
@[simp] theorem State.count_tripped (s : State) (i n : Nat) : (s.count i n).tripped = s.tripped := rfl
@[simp] theorem State.count_retHold (s : State) (i n : Nat) : (s.count i n).retHold = s.retHold := rfl
@[simp] theorem State.count_host (s : State) (i n : Nat) : (s.count i n).host = s.host := rfl
@[simp] theorem State.count_pwr (s : State) (i n : Nat) : (s.count i n).pwr = s.pwr := rfl
@[simp] theorem State.count_queues (s : State) (i n : Nat) : (s.count i n).queues = s.queues := rfl
@[simp] theorem State.count_tokCnt (s : State) (i n : Nat) : (s.count i n).tokCnt = s.tokCnt := rfl
@[simp] theorem State.count_mirrors (s : State) (i n : Nat) : (s.count i n).mirrors = s.mirrors := rfl
@[simp] theorem State.count_sieves (s : State) (i n : Nat) : (s.count i n).sieves = s.sieves := rfl
@[simp] theorem State.count_chans (s : State) (i n : Nat) : (s.count i n).chans = s.chans := rfl
@[simp] theorem State.count_owed (s : State) (i n : Nat) : (s.count i n).owed = s.owed := rfl
@[simp] theorem State.count_fuse (s : State) (i n : Nat) : (s.count i n).fuse = s.fuse := rfl
@[simp] theorem State.count_ctlErr (s : State) (i n : Nat) : (s.count i n).ctlErr = s.ctlErr := rfl
@[simp] theorem State.count_mills (s : State) (i n : Nat) : (s.count i n).mills = s.mills := rfl
@[simp] theorem State.count_corr (s : State) (i n : Nat) : (s.count i n).corr = s.corr := rfl
@[simp] theorem State.count_fh (s : State) (i n : Nat) : (s.count i n).fh = s.fh := rfl
@[simp] theorem State.count_ks (s : State) (i n : Nat) : (s.count i n).ks = s.ks := rfl
@[simp] theorem State.count_twin (s : State) (i n : Nat) : (s.count i n).twin = s.twin := rfl
@[simp] theorem State.count_mgmt (s : State) (i n : Nat) : (s.count i n).mgmt = s.mgmt := rfl
@[simp] theorem State.count_boot (s : State) (i n : Nat) : (s.count i n).boot = s.boot := rfl
@[simp] theorem State.count_cal (s : State) (i n : Nat) : (s.count i n).cal = s.cal := rfl
@[simp] theorem State.count_dump (s : State) (i n : Nat) : (s.count i n).dump = s.dump := rfl

/-! ## A report is taken -/

@[simp] theorem State.popReport_pending (s : State) : (s.popReport).pending = s.pending := rfl
@[simp] theorem State.popReport_regs (s : State) : (s.popReport).regs = s.regs := rfl
@[simp] theorem State.popReport_mem (s : State) : (s.popReport).mem = s.mem := rfl
@[simp] theorem State.popReport_badPar (s : State) : (s.popReport).badPar = s.badPar := rfl
@[simp] theorem State.popReport_hostMem (s : State) : (s.popReport).hostMem = s.hostMem := rfl
@[simp] theorem State.popReport_freeCtr (s : State) : (s.popReport).freeCtr = s.freeCtr := rfl
@[simp] theorem State.popReport_out (s : State) : (s.popReport).out = s.out := rfl
@[simp] theorem State.popReport_reports (s : State) :
    (s.popReport).reports = s.reports.tail := rfl
@[simp] theorem State.popReport_frNext (s : State) : (s.popReport).frNext = s.frNext := rfl
@[simp] theorem State.popReport_perf (s : State) : (s.popReport).perf = s.perf := rfl
@[simp] theorem State.popReport_perfHi (s : State) : (s.popReport).perfHi = s.perfHi := rfl
@[simp] theorem State.popReport_perfAt (s : State) : (s.popReport).perfAt = s.perfAt := rfl
@[simp] theorem State.popReport_time (s : State) : (s.popReport).time = s.time := rfl
@[simp] theorem State.popReport_cores (s : State) : (s.popReport).cores = s.cores := rfl
@[simp] theorem State.popReport_snaps (s : State) : (s.popReport).snaps = s.snaps := rfl
@[simp] theorem State.popReport_imgDis (s : State) : (s.popReport).imgDis = s.imgDis := rfl
@[simp] theorem State.popReport_flight (s : State) : (s.popReport).flight = s.flight := rfl
@[simp] theorem State.popReport_outst (s : State) : (s.popReport).outst = s.outst := rfl
@[simp] theorem State.popReport_resIds (s : State) : (s.popReport).resIds = s.resIds := rfl
@[simp] theorem State.popReport_idWait (s : State) : (s.popReport).idWait = s.idWait := rfl
@[simp] theorem State.popReport_stops (s : State) : (s.popReport).stops = s.stops := rfl
@[simp] theorem State.popReport_routes (s : State) : (s.popReport).routes = s.routes := rfl
@[simp] theorem State.popReport_macros (s : State) : (s.popReport).macros = s.macros := rfl
@[simp] theorem State.popReport_patrol (s : State) : (s.popReport).patrol = s.patrol := rfl
@[simp] theorem State.popReport_tripped (s : State) : (s.popReport).tripped = s.tripped := rfl
@[simp] theorem State.popReport_retHold (s : State) : (s.popReport).retHold = s.retHold := rfl
@[simp] theorem State.popReport_host (s : State) : (s.popReport).host = s.host := rfl
@[simp] theorem State.popReport_pwr (s : State) : (s.popReport).pwr = s.pwr := rfl
@[simp] theorem State.popReport_queues (s : State) : (s.popReport).queues = s.queues := rfl
@[simp] theorem State.popReport_tokCnt (s : State) : (s.popReport).tokCnt = s.tokCnt := rfl
@[simp] theorem State.popReport_mirrors (s : State) : (s.popReport).mirrors = s.mirrors := rfl
@[simp] theorem State.popReport_sieves (s : State) : (s.popReport).sieves = s.sieves := rfl
@[simp] theorem State.popReport_chans (s : State) : (s.popReport).chans = s.chans := rfl
@[simp] theorem State.popReport_owed (s : State) : (s.popReport).owed = s.owed := rfl
@[simp] theorem State.popReport_fuse (s : State) : (s.popReport).fuse = s.fuse := rfl
@[simp] theorem State.popReport_ctlErr (s : State) : (s.popReport).ctlErr = s.ctlErr := rfl
@[simp] theorem State.popReport_mills (s : State) : (s.popReport).mills = s.mills := rfl
@[simp] theorem State.popReport_corr (s : State) : (s.popReport).corr = s.corr := rfl
@[simp] theorem State.popReport_fh (s : State) : (s.popReport).fh = s.fh := rfl
@[simp] theorem State.popReport_ks (s : State) : (s.popReport).ks = s.ks := rfl
@[simp] theorem State.popReport_twin (s : State) : (s.popReport).twin = s.twin := rfl
@[simp] theorem State.popReport_mgmt (s : State) : (s.popReport).mgmt = s.mgmt := rfl
@[simp] theorem State.popReport_boot (s : State) : (s.popReport).boot = s.boot := rfl
@[simp] theorem State.popReport_cal (s : State) : (s.popReport).cal = s.cal := rfl
@[simp] theorem State.popReport_dump (s : State) : (s.popReport).dump = s.dump := rfl

/-! ## Something goes out -/

@[simp] theorem State.emit_pending (s : State) (o : Out) : (s.emit o).pending = s.pending := rfl
@[simp] theorem State.emit_regs (s : State) (o : Out) : (s.emit o).regs = s.regs := rfl
@[simp] theorem State.emit_mem (s : State) (o : Out) : (s.emit o).mem = s.mem := rfl
@[simp] theorem State.emit_badPar (s : State) (o : Out) : (s.emit o).badPar = s.badPar := rfl
@[simp] theorem State.emit_hostMem (s : State) (o : Out) : (s.emit o).hostMem = s.hostMem := rfl
@[simp] theorem State.emit_freeCtr (s : State) (o : Out) : (s.emit o).freeCtr = s.freeCtr := rfl
@[simp] theorem State.emit_out (s : State) (o : Out) :
    (s.emit o).out = s.out ++ [o] := rfl
@[simp] theorem State.emit_reports (s : State) (o : Out) : (s.emit o).reports = s.reports := rfl
@[simp] theorem State.emit_frNext (s : State) (o : Out) : (s.emit o).frNext = s.frNext := rfl
@[simp] theorem State.emit_perf (s : State) (o : Out) : (s.emit o).perf = s.perf := rfl
@[simp] theorem State.emit_perfHi (s : State) (o : Out) : (s.emit o).perfHi = s.perfHi := rfl
@[simp] theorem State.emit_perfAt (s : State) (o : Out) : (s.emit o).perfAt = s.perfAt := rfl
@[simp] theorem State.emit_time (s : State) (o : Out) : (s.emit o).time = s.time := rfl
@[simp] theorem State.emit_cores (s : State) (o : Out) : (s.emit o).cores = s.cores := rfl
@[simp] theorem State.emit_snaps (s : State) (o : Out) : (s.emit o).snaps = s.snaps := rfl
@[simp] theorem State.emit_imgDis (s : State) (o : Out) : (s.emit o).imgDis = s.imgDis := rfl
@[simp] theorem State.emit_flight (s : State) (o : Out) : (s.emit o).flight = s.flight := rfl
@[simp] theorem State.emit_outst (s : State) (o : Out) : (s.emit o).outst = s.outst := rfl
@[simp] theorem State.emit_resIds (s : State) (o : Out) : (s.emit o).resIds = s.resIds := rfl
@[simp] theorem State.emit_idWait (s : State) (o : Out) : (s.emit o).idWait = s.idWait := rfl
@[simp] theorem State.emit_stops (s : State) (o : Out) : (s.emit o).stops = s.stops := rfl
@[simp] theorem State.emit_routes (s : State) (o : Out) : (s.emit o).routes = s.routes := rfl
@[simp] theorem State.emit_macros (s : State) (o : Out) : (s.emit o).macros = s.macros := rfl
@[simp] theorem State.emit_patrol (s : State) (o : Out) : (s.emit o).patrol = s.patrol := rfl
@[simp] theorem State.emit_tripped (s : State) (o : Out) : (s.emit o).tripped = s.tripped := rfl
@[simp] theorem State.emit_retHold (s : State) (o : Out) : (s.emit o).retHold = s.retHold := rfl
@[simp] theorem State.emit_host (s : State) (o : Out) : (s.emit o).host = s.host := rfl
@[simp] theorem State.emit_pwr (s : State) (o : Out) : (s.emit o).pwr = s.pwr := rfl
@[simp] theorem State.emit_queues (s : State) (o : Out) : (s.emit o).queues = s.queues := rfl
@[simp] theorem State.emit_tokCnt (s : State) (o : Out) : (s.emit o).tokCnt = s.tokCnt := rfl
@[simp] theorem State.emit_mirrors (s : State) (o : Out) : (s.emit o).mirrors = s.mirrors := rfl
@[simp] theorem State.emit_sieves (s : State) (o : Out) : (s.emit o).sieves = s.sieves := rfl
@[simp] theorem State.emit_chans (s : State) (o : Out) : (s.emit o).chans = s.chans := rfl
@[simp] theorem State.emit_owed (s : State) (o : Out) : (s.emit o).owed = s.owed := rfl
@[simp] theorem State.emit_fuse (s : State) (o : Out) : (s.emit o).fuse = s.fuse := rfl
@[simp] theorem State.emit_ctlErr (s : State) (o : Out) : (s.emit o).ctlErr = s.ctlErr := rfl
@[simp] theorem State.emit_mills (s : State) (o : Out) : (s.emit o).mills = s.mills := rfl
@[simp] theorem State.emit_corr (s : State) (o : Out) : (s.emit o).corr = s.corr := rfl
@[simp] theorem State.emit_fh (s : State) (o : Out) : (s.emit o).fh = s.fh := rfl
@[simp] theorem State.emit_ks (s : State) (o : Out) : (s.emit o).ks = s.ks := rfl
@[simp] theorem State.emit_twin (s : State) (o : Out) : (s.emit o).twin = s.twin := rfl
@[simp] theorem State.emit_mgmt (s : State) (o : Out) : (s.emit o).mgmt = s.mgmt := rfl
@[simp] theorem State.emit_boot (s : State) (o : Out) : (s.emit o).boot = s.boot := rfl
@[simp] theorem State.emit_cal (s : State) (o : Out) : (s.emit o).cal = s.cal := rfl
@[simp] theorem State.emit_dump (s : State) (o : Out) : (s.emit o).dump = s.dump := rfl

/-! ## A stop -/

@[simp] theorem State.setStop_pending (s : State) (n : Nat) (x : StopSt) : (s.setStop n x).pending = s.pending := rfl
@[simp] theorem State.setStop_regs (s : State) (n : Nat) (x : StopSt) : (s.setStop n x).regs = s.regs := rfl
@[simp] theorem State.setStop_mem (s : State) (n : Nat) (x : StopSt) : (s.setStop n x).mem = s.mem := rfl
@[simp] theorem State.setStop_badPar (s : State) (n : Nat) (x : StopSt) : (s.setStop n x).badPar = s.badPar := rfl
@[simp] theorem State.setStop_hostMem (s : State) (n : Nat) (x : StopSt) : (s.setStop n x).hostMem = s.hostMem := rfl
@[simp] theorem State.setStop_freeCtr (s : State) (n : Nat) (x : StopSt) : (s.setStop n x).freeCtr = s.freeCtr := rfl
@[simp] theorem State.setStop_out (s : State) (n : Nat) (x : StopSt) : (s.setStop n x).out = s.out := rfl
@[simp] theorem State.setStop_reports (s : State) (n : Nat) (x : StopSt) : (s.setStop n x).reports = s.reports := rfl
@[simp] theorem State.setStop_frNext (s : State) (n : Nat) (x : StopSt) : (s.setStop n x).frNext = s.frNext := rfl
@[simp] theorem State.setStop_perf (s : State) (n : Nat) (x : StopSt) : (s.setStop n x).perf = s.perf := rfl
@[simp] theorem State.setStop_perfHi (s : State) (n : Nat) (x : StopSt) : (s.setStop n x).perfHi = s.perfHi := rfl
@[simp] theorem State.setStop_perfAt (s : State) (n : Nat) (x : StopSt) : (s.setStop n x).perfAt = s.perfAt := rfl
@[simp] theorem State.setStop_time (s : State) (n : Nat) (x : StopSt) : (s.setStop n x).time = s.time := rfl
@[simp] theorem State.setStop_cores (s : State) (n : Nat) (x : StopSt) : (s.setStop n x).cores = s.cores := rfl
@[simp] theorem State.setStop_snaps (s : State) (n : Nat) (x : StopSt) : (s.setStop n x).snaps = s.snaps := rfl
@[simp] theorem State.setStop_imgDis (s : State) (n : Nat) (x : StopSt) : (s.setStop n x).imgDis = s.imgDis := rfl
@[simp] theorem State.setStop_flight (s : State) (n : Nat) (x : StopSt) : (s.setStop n x).flight = s.flight := rfl
@[simp] theorem State.setStop_outst (s : State) (n : Nat) (x : StopSt) : (s.setStop n x).outst = s.outst := rfl
@[simp] theorem State.setStop_resIds (s : State) (n : Nat) (x : StopSt) : (s.setStop n x).resIds = s.resIds := rfl
@[simp] theorem State.setStop_idWait (s : State) (n : Nat) (x : StopSt) : (s.setStop n x).idWait = s.idWait := rfl
@[simp] theorem State.setStop_stops (s : State) (n : Nat) (x : StopSt) :
    (s.setStop n x).stops = mapSet s.stops StopSt.reset n x := rfl
@[simp] theorem State.setStop_routes (s : State) (n : Nat) (x : StopSt) : (s.setStop n x).routes = s.routes := rfl
@[simp] theorem State.setStop_macros (s : State) (n : Nat) (x : StopSt) : (s.setStop n x).macros = s.macros := rfl
@[simp] theorem State.setStop_patrol (s : State) (n : Nat) (x : StopSt) : (s.setStop n x).patrol = s.patrol := rfl
@[simp] theorem State.setStop_tripped (s : State) (n : Nat) (x : StopSt) : (s.setStop n x).tripped = s.tripped := rfl
@[simp] theorem State.setStop_retHold (s : State) (n : Nat) (x : StopSt) : (s.setStop n x).retHold = s.retHold := rfl
@[simp] theorem State.setStop_host (s : State) (n : Nat) (x : StopSt) : (s.setStop n x).host = s.host := rfl
@[simp] theorem State.setStop_pwr (s : State) (n : Nat) (x : StopSt) : (s.setStop n x).pwr = s.pwr := rfl
@[simp] theorem State.setStop_queues (s : State) (n : Nat) (x : StopSt) : (s.setStop n x).queues = s.queues := rfl
@[simp] theorem State.setStop_tokCnt (s : State) (n : Nat) (x : StopSt) : (s.setStop n x).tokCnt = s.tokCnt := rfl
@[simp] theorem State.setStop_mirrors (s : State) (n : Nat) (x : StopSt) : (s.setStop n x).mirrors = s.mirrors := rfl
@[simp] theorem State.setStop_sieves (s : State) (n : Nat) (x : StopSt) : (s.setStop n x).sieves = s.sieves := rfl
@[simp] theorem State.setStop_chans (s : State) (n : Nat) (x : StopSt) : (s.setStop n x).chans = s.chans := rfl
@[simp] theorem State.setStop_owed (s : State) (n : Nat) (x : StopSt) : (s.setStop n x).owed = s.owed := rfl
@[simp] theorem State.setStop_fuse (s : State) (n : Nat) (x : StopSt) : (s.setStop n x).fuse = s.fuse := rfl
@[simp] theorem State.setStop_ctlErr (s : State) (n : Nat) (x : StopSt) : (s.setStop n x).ctlErr = s.ctlErr := rfl
@[simp] theorem State.setStop_mills (s : State) (n : Nat) (x : StopSt) : (s.setStop n x).mills = s.mills := rfl
@[simp] theorem State.setStop_corr (s : State) (n : Nat) (x : StopSt) : (s.setStop n x).corr = s.corr := rfl
@[simp] theorem State.setStop_fh (s : State) (n : Nat) (x : StopSt) : (s.setStop n x).fh = s.fh := rfl
@[simp] theorem State.setStop_ks (s : State) (n : Nat) (x : StopSt) : (s.setStop n x).ks = s.ks := rfl
@[simp] theorem State.setStop_twin (s : State) (n : Nat) (x : StopSt) : (s.setStop n x).twin = s.twin := rfl
@[simp] theorem State.setStop_mgmt (s : State) (n : Nat) (x : StopSt) : (s.setStop n x).mgmt = s.mgmt := rfl
@[simp] theorem State.setStop_boot (s : State) (n : Nat) (x : StopSt) : (s.setStop n x).boot = s.boot := rfl
@[simp] theorem State.setStop_cal (s : State) (n : Nat) (x : StopSt) : (s.setStop n x).cal = s.cal := rfl
@[simp] theorem State.setStop_dump (s : State) (n : Nat) (x : StopSt) : (s.setStop n x).dump = s.dump := rfl

/-! ## A packet is sent -/

@[simp] theorem State.send_pending (s : State) (p : Packet) : (s.send p).pending = s.pending := rfl
@[simp] theorem State.send_regs (s : State) (p : Packet) : (s.send p).regs = s.regs := rfl
@[simp] theorem State.send_mem (s : State) (p : Packet) : (s.send p).mem = s.mem := rfl
@[simp] theorem State.send_badPar (s : State) (p : Packet) : (s.send p).badPar = s.badPar := rfl
@[simp] theorem State.send_hostMem (s : State) (p : Packet) : (s.send p).hostMem = s.hostMem := rfl
@[simp] theorem State.send_freeCtr (s : State) (p : Packet) : (s.send p).freeCtr = s.freeCtr := rfl
@[simp] theorem State.send_out (s : State) (p : Packet) : (s.send p).out = s.out := rfl
@[simp] theorem State.send_reports (s : State) (p : Packet) : (s.send p).reports = s.reports := rfl
@[simp] theorem State.send_frNext (s : State) (p : Packet) : (s.send p).frNext = s.frNext := rfl
@[simp] theorem State.send_perf (s : State) (p : Packet) : (s.send p).perf = s.perf := rfl
@[simp] theorem State.send_perfHi (s : State) (p : Packet) : (s.send p).perfHi = s.perfHi := rfl
@[simp] theorem State.send_perfAt (s : State) (p : Packet) : (s.send p).perfAt = s.perfAt := rfl
@[simp] theorem State.send_time (s : State) (p : Packet) : (s.send p).time = s.time := rfl
@[simp] theorem State.send_cores (s : State) (p : Packet) : (s.send p).cores = s.cores := rfl
@[simp] theorem State.send_snaps (s : State) (p : Packet) : (s.send p).snaps = s.snaps := rfl
@[simp] theorem State.send_imgDis (s : State) (p : Packet) : (s.send p).imgDis = s.imgDis := rfl
@[simp] theorem State.send_flight (s : State) (p : Packet) :
    (s.send p).flight = s.flight ++ [s.inject p] := rfl
@[simp] theorem State.send_outst (s : State) (p : Packet) : (s.send p).outst = s.outst := rfl
@[simp] theorem State.send_resIds (s : State) (p : Packet) : (s.send p).resIds = s.resIds := rfl
@[simp] theorem State.send_idWait (s : State) (p : Packet) : (s.send p).idWait = s.idWait := rfl
@[simp] theorem State.send_stops (s : State) (p : Packet) : (s.send p).stops = s.stops := rfl
@[simp] theorem State.send_routes (s : State) (p : Packet) : (s.send p).routes = s.routes := rfl
@[simp] theorem State.send_macros (s : State) (p : Packet) : (s.send p).macros = s.macros := rfl
@[simp] theorem State.send_patrol (s : State) (p : Packet) : (s.send p).patrol = s.patrol := rfl
@[simp] theorem State.send_tripped (s : State) (p : Packet) : (s.send p).tripped = s.tripped := rfl
@[simp] theorem State.send_retHold (s : State) (p : Packet) : (s.send p).retHold = s.retHold := rfl
@[simp] theorem State.send_host (s : State) (p : Packet) : (s.send p).host = s.host := rfl
@[simp] theorem State.send_pwr (s : State) (p : Packet) : (s.send p).pwr = s.pwr := rfl
@[simp] theorem State.send_queues (s : State) (p : Packet) : (s.send p).queues = s.queues := rfl
@[simp] theorem State.send_tokCnt (s : State) (p : Packet) : (s.send p).tokCnt = s.tokCnt := rfl
@[simp] theorem State.send_mirrors (s : State) (p : Packet) : (s.send p).mirrors = s.mirrors := rfl
@[simp] theorem State.send_sieves (s : State) (p : Packet) : (s.send p).sieves = s.sieves := rfl
@[simp] theorem State.send_chans (s : State) (p : Packet) : (s.send p).chans = s.chans := rfl
@[simp] theorem State.send_owed (s : State) (p : Packet) : (s.send p).owed = s.owed := rfl
@[simp] theorem State.send_fuse (s : State) (p : Packet) : (s.send p).fuse = s.fuse := rfl
@[simp] theorem State.send_ctlErr (s : State) (p : Packet) : (s.send p).ctlErr = s.ctlErr := rfl
@[simp] theorem State.send_mills (s : State) (p : Packet) : (s.send p).mills = s.mills := rfl
@[simp] theorem State.send_corr (s : State) (p : Packet) : (s.send p).corr = s.corr := rfl
@[simp] theorem State.send_fh (s : State) (p : Packet) : (s.send p).fh = s.fh := rfl
@[simp] theorem State.send_ks (s : State) (p : Packet) : (s.send p).ks = s.ks := rfl
@[simp] theorem State.send_twin (s : State) (p : Packet) : (s.send p).twin = s.twin := rfl
@[simp] theorem State.send_mgmt (s : State) (p : Packet) : (s.send p).mgmt = s.mgmt := rfl
@[simp] theorem State.send_boot (s : State) (p : Packet) : (s.send p).boot = s.boot := rfl
@[simp] theorem State.send_cal (s : State) (p : Packet) : (s.send p).cal = s.cal := rfl
@[simp] theorem State.send_dump (s : State) (p : Packet) : (s.send p).dump = s.dump := rfl

/-! ## A packet arrives -/

@[simp] theorem State.arrive_pending (s : State) (p : Packet) : (s.arrive p).pending = s.pending := rfl
@[simp] theorem State.arrive_regs (s : State) (p : Packet) : (s.arrive p).regs = s.regs := rfl
@[simp] theorem State.arrive_mem (s : State) (p : Packet) : (s.arrive p).mem = s.mem := rfl
@[simp] theorem State.arrive_badPar (s : State) (p : Packet) : (s.arrive p).badPar = s.badPar := rfl
@[simp] theorem State.arrive_hostMem (s : State) (p : Packet) : (s.arrive p).hostMem = s.hostMem := rfl
@[simp] theorem State.arrive_freeCtr (s : State) (p : Packet) : (s.arrive p).freeCtr = s.freeCtr := rfl
@[simp] theorem State.arrive_out (s : State) (p : Packet) : (s.arrive p).out = s.out := rfl
@[simp] theorem State.arrive_reports (s : State) (p : Packet) : (s.arrive p).reports = s.reports := rfl
@[simp] theorem State.arrive_frNext (s : State) (p : Packet) : (s.arrive p).frNext = s.frNext := rfl
@[simp] theorem State.arrive_perf (s : State) (p : Packet) : (s.arrive p).perf = s.perf := rfl
@[simp] theorem State.arrive_perfHi (s : State) (p : Packet) : (s.arrive p).perfHi = s.perfHi := rfl
@[simp] theorem State.arrive_perfAt (s : State) (p : Packet) : (s.arrive p).perfAt = s.perfAt := rfl
@[simp] theorem State.arrive_time (s : State) (p : Packet) : (s.arrive p).time = s.time := rfl
@[simp] theorem State.arrive_cores (s : State) (p : Packet) : (s.arrive p).cores = s.cores := rfl
@[simp] theorem State.arrive_snaps (s : State) (p : Packet) : (s.arrive p).snaps = s.snaps := rfl
@[simp] theorem State.arrive_imgDis (s : State) (p : Packet) : (s.arrive p).imgDis = s.imgDis := rfl
@[simp] theorem State.arrive_flight (s : State) (p : Packet) :
    (s.arrive p).flight = s.flight.erase p := rfl
@[simp] theorem State.arrive_outst (s : State) (p : Packet) : (s.arrive p).outst = s.outst := rfl
@[simp] theorem State.arrive_resIds (s : State) (p : Packet) : (s.arrive p).resIds = s.resIds := rfl
@[simp] theorem State.arrive_idWait (s : State) (p : Packet) : (s.arrive p).idWait = s.idWait := rfl
@[simp] theorem State.arrive_stops (s : State) (p : Packet) : (s.arrive p).stops = s.stops := rfl
@[simp] theorem State.arrive_routes (s : State) (p : Packet) : (s.arrive p).routes = s.routes := rfl
@[simp] theorem State.arrive_macros (s : State) (p : Packet) : (s.arrive p).macros = s.macros := rfl
@[simp] theorem State.arrive_patrol (s : State) (p : Packet) : (s.arrive p).patrol = s.patrol := rfl
@[simp] theorem State.arrive_tripped (s : State) (p : Packet) : (s.arrive p).tripped = s.tripped := rfl
@[simp] theorem State.arrive_retHold (s : State) (p : Packet) : (s.arrive p).retHold = s.retHold := rfl
@[simp] theorem State.arrive_host (s : State) (p : Packet) : (s.arrive p).host = s.host := rfl
@[simp] theorem State.arrive_pwr (s : State) (p : Packet) : (s.arrive p).pwr = s.pwr := rfl
@[simp] theorem State.arrive_queues (s : State) (p : Packet) : (s.arrive p).queues = s.queues := rfl
@[simp] theorem State.arrive_tokCnt (s : State) (p : Packet) : (s.arrive p).tokCnt = s.tokCnt := rfl
@[simp] theorem State.arrive_mirrors (s : State) (p : Packet) : (s.arrive p).mirrors = s.mirrors := rfl
@[simp] theorem State.arrive_sieves (s : State) (p : Packet) : (s.arrive p).sieves = s.sieves := rfl
@[simp] theorem State.arrive_chans (s : State) (p : Packet) : (s.arrive p).chans = s.chans := rfl
@[simp] theorem State.arrive_owed (s : State) (p : Packet) : (s.arrive p).owed = s.owed := rfl
@[simp] theorem State.arrive_fuse (s : State) (p : Packet) : (s.arrive p).fuse = s.fuse := rfl
@[simp] theorem State.arrive_ctlErr (s : State) (p : Packet) : (s.arrive p).ctlErr = s.ctlErr := rfl
@[simp] theorem State.arrive_mills (s : State) (p : Packet) : (s.arrive p).mills = s.mills := rfl
@[simp] theorem State.arrive_corr (s : State) (p : Packet) : (s.arrive p).corr = s.corr := rfl
@[simp] theorem State.arrive_fh (s : State) (p : Packet) : (s.arrive p).fh = s.fh := rfl
@[simp] theorem State.arrive_ks (s : State) (p : Packet) : (s.arrive p).ks = s.ks := rfl
@[simp] theorem State.arrive_twin (s : State) (p : Packet) : (s.arrive p).twin = s.twin := rfl
@[simp] theorem State.arrive_mgmt (s : State) (p : Packet) : (s.arrive p).mgmt = s.mgmt := rfl
@[simp] theorem State.arrive_boot (s : State) (p : Packet) : (s.arrive p).boot = s.boot := rfl
@[simp] theorem State.arrive_cal (s : State) (p : Packet) : (s.arrive p).cal = s.cal := rfl
@[simp] theorem State.arrive_dump (s : State) (p : Packet) : (s.arrive p).dump = s.dump := rfl

/-! ## A core -/

@[simp] theorem State.setCore_pending (s : State) (c : Nat) (k : Core) : (s.setCore c k).pending = s.pending := rfl
@[simp] theorem State.setCore_regs (s : State) (c : Nat) (k : Core) : (s.setCore c k).regs = s.regs := rfl
@[simp] theorem State.setCore_mem (s : State) (c : Nat) (k : Core) : (s.setCore c k).mem = s.mem := rfl
@[simp] theorem State.setCore_badPar (s : State) (c : Nat) (k : Core) : (s.setCore c k).badPar = s.badPar := rfl
@[simp] theorem State.setCore_hostMem (s : State) (c : Nat) (k : Core) : (s.setCore c k).hostMem = s.hostMem := rfl
@[simp] theorem State.setCore_freeCtr (s : State) (c : Nat) (k : Core) : (s.setCore c k).freeCtr = s.freeCtr := rfl
@[simp] theorem State.setCore_out (s : State) (c : Nat) (k : Core) : (s.setCore c k).out = s.out := rfl
@[simp] theorem State.setCore_reports (s : State) (c : Nat) (k : Core) : (s.setCore c k).reports = s.reports := rfl
@[simp] theorem State.setCore_frNext (s : State) (c : Nat) (k : Core) : (s.setCore c k).frNext = s.frNext := rfl
@[simp] theorem State.setCore_perf (s : State) (c : Nat) (k : Core) : (s.setCore c k).perf = s.perf := rfl
@[simp] theorem State.setCore_perfHi (s : State) (c : Nat) (k : Core) : (s.setCore c k).perfHi = s.perfHi := rfl
@[simp] theorem State.setCore_perfAt (s : State) (c : Nat) (k : Core) : (s.setCore c k).perfAt = s.perfAt := rfl
@[simp] theorem State.setCore_time (s : State) (c : Nat) (k : Core) : (s.setCore c k).time = s.time := rfl
@[simp] theorem State.setCore_cores (s : State) (c : Nat) (k : Core) :
    (s.setCore c k).cores = mapSet s.cores Core.reset c k := rfl
@[simp] theorem State.setCore_snaps (s : State) (c : Nat) (k : Core) : (s.setCore c k).snaps = s.snaps := rfl
@[simp] theorem State.setCore_imgDis (s : State) (c : Nat) (k : Core) : (s.setCore c k).imgDis = s.imgDis := rfl
@[simp] theorem State.setCore_flight (s : State) (c : Nat) (k : Core) : (s.setCore c k).flight = s.flight := rfl
@[simp] theorem State.setCore_outst (s : State) (c : Nat) (k : Core) : (s.setCore c k).outst = s.outst := rfl
@[simp] theorem State.setCore_resIds (s : State) (c : Nat) (k : Core) : (s.setCore c k).resIds = s.resIds := rfl
@[simp] theorem State.setCore_idWait (s : State) (c : Nat) (k : Core) : (s.setCore c k).idWait = s.idWait := rfl
@[simp] theorem State.setCore_stops (s : State) (c : Nat) (k : Core) : (s.setCore c k).stops = s.stops := rfl
@[simp] theorem State.setCore_routes (s : State) (c : Nat) (k : Core) : (s.setCore c k).routes = s.routes := rfl
@[simp] theorem State.setCore_macros (s : State) (c : Nat) (k : Core) : (s.setCore c k).macros = s.macros := rfl
@[simp] theorem State.setCore_patrol (s : State) (c : Nat) (k : Core) : (s.setCore c k).patrol = s.patrol := rfl
@[simp] theorem State.setCore_tripped (s : State) (c : Nat) (k : Core) : (s.setCore c k).tripped = s.tripped := rfl
@[simp] theorem State.setCore_retHold (s : State) (c : Nat) (k : Core) : (s.setCore c k).retHold = s.retHold := rfl
@[simp] theorem State.setCore_host (s : State) (c : Nat) (k : Core) : (s.setCore c k).host = s.host := rfl
@[simp] theorem State.setCore_pwr (s : State) (c : Nat) (k : Core) : (s.setCore c k).pwr = s.pwr := rfl
@[simp] theorem State.setCore_queues (s : State) (c : Nat) (k : Core) : (s.setCore c k).queues = s.queues := rfl
@[simp] theorem State.setCore_tokCnt (s : State) (c : Nat) (k : Core) : (s.setCore c k).tokCnt = s.tokCnt := rfl
@[simp] theorem State.setCore_mirrors (s : State) (c : Nat) (k : Core) : (s.setCore c k).mirrors = s.mirrors := rfl
@[simp] theorem State.setCore_sieves (s : State) (c : Nat) (k : Core) : (s.setCore c k).sieves = s.sieves := rfl
@[simp] theorem State.setCore_chans (s : State) (c : Nat) (k : Core) : (s.setCore c k).chans = s.chans := rfl
@[simp] theorem State.setCore_owed (s : State) (c : Nat) (k : Core) : (s.setCore c k).owed = s.owed := rfl
@[simp] theorem State.setCore_fuse (s : State) (c : Nat) (k : Core) : (s.setCore c k).fuse = s.fuse := rfl
@[simp] theorem State.setCore_ctlErr (s : State) (c : Nat) (k : Core) : (s.setCore c k).ctlErr = s.ctlErr := rfl
@[simp] theorem State.setCore_mills (s : State) (c : Nat) (k : Core) : (s.setCore c k).mills = s.mills := rfl
@[simp] theorem State.setCore_corr (s : State) (c : Nat) (k : Core) : (s.setCore c k).corr = s.corr := rfl
@[simp] theorem State.setCore_fh (s : State) (c : Nat) (k : Core) : (s.setCore c k).fh = s.fh := rfl
@[simp] theorem State.setCore_ks (s : State) (c : Nat) (k : Core) : (s.setCore c k).ks = s.ks := rfl
@[simp] theorem State.setCore_twin (s : State) (c : Nat) (k : Core) : (s.setCore c k).twin = s.twin := rfl
@[simp] theorem State.setCore_mgmt (s : State) (c : Nat) (k : Core) : (s.setCore c k).mgmt = s.mgmt := rfl
@[simp] theorem State.setCore_boot (s : State) (c : Nat) (k : Core) : (s.setCore c k).boot = s.boot := rfl
@[simp] theorem State.setCore_cal (s : State) (c : Nat) (k : Core) : (s.setCore c k).cal = s.cal := rfl
@[simp] theorem State.setCore_dump (s : State) (c : Nat) (k : Core) : (s.setCore c k).dump = s.dump := rfl

/-! ## New free values -/

@[simp] theorem State.fresh_pending (s : State) : (s.fresh).pending = s.pending := rfl
@[simp] theorem State.fresh_regs (s : State) : (s.fresh).regs = s.regs := rfl
@[simp] theorem State.fresh_mem (s : State) : (s.fresh).mem = s.mem := rfl
@[simp] theorem State.fresh_badPar (s : State) : (s.fresh).badPar = s.badPar := rfl
@[simp] theorem State.fresh_hostMem (s : State) : (s.fresh).hostMem = s.hostMem := rfl
@[simp] theorem State.fresh_freeCtr (s : State) :
    (s.fresh).freeCtr = s.freeCtr + 1 := rfl
@[simp] theorem State.fresh_out (s : State) : (s.fresh).out = s.out := rfl
@[simp] theorem State.fresh_reports (s : State) : (s.fresh).reports = s.reports := rfl
@[simp] theorem State.fresh_frNext (s : State) : (s.fresh).frNext = s.frNext := rfl
@[simp] theorem State.fresh_perf (s : State) : (s.fresh).perf = s.perf := rfl
@[simp] theorem State.fresh_perfHi (s : State) : (s.fresh).perfHi = s.perfHi := rfl
@[simp] theorem State.fresh_perfAt (s : State) : (s.fresh).perfAt = s.perfAt := rfl
@[simp] theorem State.fresh_time (s : State) : (s.fresh).time = s.time := rfl
@[simp] theorem State.fresh_cores (s : State) : (s.fresh).cores = s.cores := rfl
@[simp] theorem State.fresh_snaps (s : State) : (s.fresh).snaps = s.snaps := rfl
@[simp] theorem State.fresh_imgDis (s : State) : (s.fresh).imgDis = s.imgDis := rfl
@[simp] theorem State.fresh_flight (s : State) : (s.fresh).flight = s.flight := rfl
@[simp] theorem State.fresh_outst (s : State) : (s.fresh).outst = s.outst := rfl
@[simp] theorem State.fresh_resIds (s : State) : (s.fresh).resIds = s.resIds := rfl
@[simp] theorem State.fresh_idWait (s : State) : (s.fresh).idWait = s.idWait := rfl
@[simp] theorem State.fresh_stops (s : State) : (s.fresh).stops = s.stops := rfl
@[simp] theorem State.fresh_routes (s : State) : (s.fresh).routes = s.routes := rfl
@[simp] theorem State.fresh_macros (s : State) : (s.fresh).macros = s.macros := rfl
@[simp] theorem State.fresh_patrol (s : State) : (s.fresh).patrol = s.patrol := rfl
@[simp] theorem State.fresh_tripped (s : State) : (s.fresh).tripped = s.tripped := rfl
@[simp] theorem State.fresh_retHold (s : State) : (s.fresh).retHold = s.retHold := rfl
@[simp] theorem State.fresh_host (s : State) : (s.fresh).host = s.host := rfl
@[simp] theorem State.fresh_pwr (s : State) : (s.fresh).pwr = s.pwr := rfl
@[simp] theorem State.fresh_queues (s : State) : (s.fresh).queues = s.queues := rfl
@[simp] theorem State.fresh_tokCnt (s : State) : (s.fresh).tokCnt = s.tokCnt := rfl
@[simp] theorem State.fresh_mirrors (s : State) : (s.fresh).mirrors = s.mirrors := rfl
@[simp] theorem State.fresh_sieves (s : State) : (s.fresh).sieves = s.sieves := rfl
@[simp] theorem State.fresh_chans (s : State) : (s.fresh).chans = s.chans := rfl
@[simp] theorem State.fresh_owed (s : State) : (s.fresh).owed = s.owed := rfl
@[simp] theorem State.fresh_fuse (s : State) : (s.fresh).fuse = s.fuse := rfl
@[simp] theorem State.fresh_ctlErr (s : State) : (s.fresh).ctlErr = s.ctlErr := rfl
@[simp] theorem State.fresh_mills (s : State) : (s.fresh).mills = s.mills := rfl
@[simp] theorem State.fresh_corr (s : State) : (s.fresh).corr = s.corr := rfl
@[simp] theorem State.fresh_fh (s : State) : (s.fresh).fh = s.fh := rfl
@[simp] theorem State.fresh_ks (s : State) : (s.fresh).ks = s.ks := rfl
@[simp] theorem State.fresh_twin (s : State) : (s.fresh).twin = s.twin := rfl
@[simp] theorem State.fresh_mgmt (s : State) : (s.fresh).mgmt = s.mgmt := rfl
@[simp] theorem State.fresh_boot (s : State) : (s.fresh).boot = s.boot := rfl
@[simp] theorem State.fresh_cal (s : State) : (s.fresh).cal = s.cal := rfl
@[simp] theorem State.fresh_dump (s : State) : (s.fresh).dump = s.dump := rfl

/-! ## A byte of memory -/

@[simp] theorem State.writeByte_pending (s : State) (a : Nat) (b : Byte) : (s.writeByte a b).pending = s.pending := rfl
@[simp] theorem State.writeByte_regs (s : State) (a : Nat) (b : Byte) : (s.writeByte a b).regs = s.regs := rfl
@[simp] theorem State.writeByte_mem (s : State) (a : Nat) (b : Byte) :
    (s.writeByte a b).mem = mapIns s.mem a b := rfl
@[simp] theorem State.writeByte_badPar (s : State) (a : Nat) (b : Byte) :
    (s.writeByte a b).badPar = setErase s.badPar a := rfl
@[simp] theorem State.writeByte_hostMem (s : State) (a : Nat) (b : Byte) : (s.writeByte a b).hostMem = s.hostMem := rfl
@[simp] theorem State.writeByte_freeCtr (s : State) (a : Nat) (b : Byte) : (s.writeByte a b).freeCtr = s.freeCtr := rfl
@[simp] theorem State.writeByte_out (s : State) (a : Nat) (b : Byte) : (s.writeByte a b).out = s.out := rfl
@[simp] theorem State.writeByte_reports (s : State) (a : Nat) (b : Byte) : (s.writeByte a b).reports = s.reports := rfl
@[simp] theorem State.writeByte_frNext (s : State) (a : Nat) (b : Byte) : (s.writeByte a b).frNext = s.frNext := rfl
@[simp] theorem State.writeByte_perf (s : State) (a : Nat) (b : Byte) : (s.writeByte a b).perf = s.perf := rfl
@[simp] theorem State.writeByte_perfHi (s : State) (a : Nat) (b : Byte) : (s.writeByte a b).perfHi = s.perfHi := rfl
@[simp] theorem State.writeByte_perfAt (s : State) (a : Nat) (b : Byte) : (s.writeByte a b).perfAt = s.perfAt := rfl
@[simp] theorem State.writeByte_time (s : State) (a : Nat) (b : Byte) : (s.writeByte a b).time = s.time := rfl
@[simp] theorem State.writeByte_cores (s : State) (a : Nat) (b : Byte) : (s.writeByte a b).cores = s.cores := rfl
@[simp] theorem State.writeByte_snaps (s : State) (a : Nat) (b : Byte) : (s.writeByte a b).snaps = s.snaps := rfl
@[simp] theorem State.writeByte_imgDis (s : State) (a : Nat) (b : Byte) : (s.writeByte a b).imgDis = s.imgDis := rfl
@[simp] theorem State.writeByte_flight (s : State) (a : Nat) (b : Byte) : (s.writeByte a b).flight = s.flight := rfl
@[simp] theorem State.writeByte_outst (s : State) (a : Nat) (b : Byte) : (s.writeByte a b).outst = s.outst := rfl
@[simp] theorem State.writeByte_resIds (s : State) (a : Nat) (b : Byte) : (s.writeByte a b).resIds = s.resIds := rfl
@[simp] theorem State.writeByte_idWait (s : State) (a : Nat) (b : Byte) : (s.writeByte a b).idWait = s.idWait := rfl
@[simp] theorem State.writeByte_stops (s : State) (a : Nat) (b : Byte) : (s.writeByte a b).stops = s.stops := rfl
@[simp] theorem State.writeByte_routes (s : State) (a : Nat) (b : Byte) : (s.writeByte a b).routes = s.routes := rfl
@[simp] theorem State.writeByte_macros (s : State) (a : Nat) (b : Byte) : (s.writeByte a b).macros = s.macros := rfl
@[simp] theorem State.writeByte_patrol (s : State) (a : Nat) (b : Byte) : (s.writeByte a b).patrol = s.patrol := rfl
@[simp] theorem State.writeByte_tripped (s : State) (a : Nat) (b : Byte) : (s.writeByte a b).tripped = s.tripped := rfl
@[simp] theorem State.writeByte_retHold (s : State) (a : Nat) (b : Byte) : (s.writeByte a b).retHold = s.retHold := rfl
@[simp] theorem State.writeByte_host (s : State) (a : Nat) (b : Byte) : (s.writeByte a b).host = s.host := rfl
@[simp] theorem State.writeByte_pwr (s : State) (a : Nat) (b : Byte) : (s.writeByte a b).pwr = s.pwr := rfl
@[simp] theorem State.writeByte_queues (s : State) (a : Nat) (b : Byte) : (s.writeByte a b).queues = s.queues := rfl
@[simp] theorem State.writeByte_tokCnt (s : State) (a : Nat) (b : Byte) : (s.writeByte a b).tokCnt = s.tokCnt := rfl
@[simp] theorem State.writeByte_mirrors (s : State) (a : Nat) (b : Byte) : (s.writeByte a b).mirrors = s.mirrors := rfl
@[simp] theorem State.writeByte_sieves (s : State) (a : Nat) (b : Byte) : (s.writeByte a b).sieves = s.sieves := rfl
@[simp] theorem State.writeByte_chans (s : State) (a : Nat) (b : Byte) : (s.writeByte a b).chans = s.chans := rfl
@[simp] theorem State.writeByte_owed (s : State) (a : Nat) (b : Byte) : (s.writeByte a b).owed = s.owed := rfl
@[simp] theorem State.writeByte_fuse (s : State) (a : Nat) (b : Byte) : (s.writeByte a b).fuse = s.fuse := rfl
@[simp] theorem State.writeByte_ctlErr (s : State) (a : Nat) (b : Byte) : (s.writeByte a b).ctlErr = s.ctlErr := rfl
@[simp] theorem State.writeByte_mills (s : State) (a : Nat) (b : Byte) : (s.writeByte a b).mills = s.mills := rfl
@[simp] theorem State.writeByte_corr (s : State) (a : Nat) (b : Byte) : (s.writeByte a b).corr = s.corr := rfl
@[simp] theorem State.writeByte_fh (s : State) (a : Nat) (b : Byte) : (s.writeByte a b).fh = s.fh := rfl
@[simp] theorem State.writeByte_ks (s : State) (a : Nat) (b : Byte) : (s.writeByte a b).ks = s.ks := rfl
@[simp] theorem State.writeByte_twin (s : State) (a : Nat) (b : Byte) : (s.writeByte a b).twin = s.twin := rfl
@[simp] theorem State.writeByte_mgmt (s : State) (a : Nat) (b : Byte) : (s.writeByte a b).mgmt = s.mgmt := rfl
@[simp] theorem State.writeByte_boot (s : State) (a : Nat) (b : Byte) : (s.writeByte a b).boot = s.boot := rfl
@[simp] theorem State.writeByte_cal (s : State) (a : Nat) (b : Byte) : (s.writeByte a b).cal = s.cal := rfl
@[simp] theorem State.writeByte_dump (s : State) (a : Nat) (b : Byte) : (s.writeByte a b).dump = s.dump := rfl

/-! ## The power sequencer -/

@[simp] theorem State.setPwr_pending (s : State) (p : PwrSt) : (s.setPwr p).pending = s.pending := rfl
@[simp] theorem State.setPwr_regs (s : State) (p : PwrSt) : (s.setPwr p).regs = s.regs := rfl
@[simp] theorem State.setPwr_mem (s : State) (p : PwrSt) : (s.setPwr p).mem = s.mem := rfl
@[simp] theorem State.setPwr_badPar (s : State) (p : PwrSt) : (s.setPwr p).badPar = s.badPar := rfl
@[simp] theorem State.setPwr_hostMem (s : State) (p : PwrSt) : (s.setPwr p).hostMem = s.hostMem := rfl
@[simp] theorem State.setPwr_freeCtr (s : State) (p : PwrSt) : (s.setPwr p).freeCtr = s.freeCtr := rfl
@[simp] theorem State.setPwr_out (s : State) (p : PwrSt) : (s.setPwr p).out = s.out := rfl
@[simp] theorem State.setPwr_reports (s : State) (p : PwrSt) : (s.setPwr p).reports = s.reports := rfl
@[simp] theorem State.setPwr_frNext (s : State) (p : PwrSt) : (s.setPwr p).frNext = s.frNext := rfl
@[simp] theorem State.setPwr_perf (s : State) (p : PwrSt) : (s.setPwr p).perf = s.perf := rfl
@[simp] theorem State.setPwr_perfHi (s : State) (p : PwrSt) : (s.setPwr p).perfHi = s.perfHi := rfl
@[simp] theorem State.setPwr_perfAt (s : State) (p : PwrSt) : (s.setPwr p).perfAt = s.perfAt := rfl
@[simp] theorem State.setPwr_time (s : State) (p : PwrSt) : (s.setPwr p).time = s.time := rfl
@[simp] theorem State.setPwr_cores (s : State) (p : PwrSt) : (s.setPwr p).cores = s.cores := rfl
@[simp] theorem State.setPwr_snaps (s : State) (p : PwrSt) : (s.setPwr p).snaps = s.snaps := rfl
@[simp] theorem State.setPwr_imgDis (s : State) (p : PwrSt) : (s.setPwr p).imgDis = s.imgDis := rfl
@[simp] theorem State.setPwr_flight (s : State) (p : PwrSt) : (s.setPwr p).flight = s.flight := rfl
@[simp] theorem State.setPwr_outst (s : State) (p : PwrSt) : (s.setPwr p).outst = s.outst := rfl
@[simp] theorem State.setPwr_resIds (s : State) (p : PwrSt) : (s.setPwr p).resIds = s.resIds := rfl
@[simp] theorem State.setPwr_idWait (s : State) (p : PwrSt) : (s.setPwr p).idWait = s.idWait := rfl
@[simp] theorem State.setPwr_stops (s : State) (p : PwrSt) : (s.setPwr p).stops = s.stops := rfl
@[simp] theorem State.setPwr_routes (s : State) (p : PwrSt) : (s.setPwr p).routes = s.routes := rfl
@[simp] theorem State.setPwr_macros (s : State) (p : PwrSt) : (s.setPwr p).macros = s.macros := rfl
@[simp] theorem State.setPwr_patrol (s : State) (p : PwrSt) : (s.setPwr p).patrol = s.patrol := rfl
@[simp] theorem State.setPwr_tripped (s : State) (p : PwrSt) : (s.setPwr p).tripped = s.tripped := rfl
@[simp] theorem State.setPwr_retHold (s : State) (p : PwrSt) : (s.setPwr p).retHold = s.retHold := rfl
@[simp] theorem State.setPwr_host (s : State) (p : PwrSt) : (s.setPwr p).host = s.host := rfl
@[simp] theorem State.setPwr_pwr (s : State) (p : PwrSt) :
    (s.setPwr p).pwr = p := rfl
@[simp] theorem State.setPwr_queues (s : State) (p : PwrSt) : (s.setPwr p).queues = s.queues := rfl
@[simp] theorem State.setPwr_tokCnt (s : State) (p : PwrSt) : (s.setPwr p).tokCnt = s.tokCnt := rfl
@[simp] theorem State.setPwr_mirrors (s : State) (p : PwrSt) : (s.setPwr p).mirrors = s.mirrors := rfl
@[simp] theorem State.setPwr_sieves (s : State) (p : PwrSt) : (s.setPwr p).sieves = s.sieves := rfl
@[simp] theorem State.setPwr_chans (s : State) (p : PwrSt) : (s.setPwr p).chans = s.chans := rfl
@[simp] theorem State.setPwr_owed (s : State) (p : PwrSt) : (s.setPwr p).owed = s.owed := rfl
@[simp] theorem State.setPwr_fuse (s : State) (p : PwrSt) : (s.setPwr p).fuse = s.fuse := rfl
@[simp] theorem State.setPwr_ctlErr (s : State) (p : PwrSt) : (s.setPwr p).ctlErr = s.ctlErr := rfl
@[simp] theorem State.setPwr_mills (s : State) (p : PwrSt) : (s.setPwr p).mills = s.mills := rfl
@[simp] theorem State.setPwr_corr (s : State) (p : PwrSt) : (s.setPwr p).corr = s.corr := rfl
@[simp] theorem State.setPwr_fh (s : State) (p : PwrSt) : (s.setPwr p).fh = s.fh := rfl
@[simp] theorem State.setPwr_ks (s : State) (p : PwrSt) : (s.setPwr p).ks = s.ks := rfl
@[simp] theorem State.setPwr_twin (s : State) (p : PwrSt) : (s.setPwr p).twin = s.twin := rfl
@[simp] theorem State.setPwr_mgmt (s : State) (p : PwrSt) : (s.setPwr p).mgmt = s.mgmt := rfl
@[simp] theorem State.setPwr_boot (s : State) (p : PwrSt) : (s.setPwr p).boot = s.boot := rfl
@[simp] theorem State.setPwr_cal (s : State) (p : PwrSt) : (s.setPwr p).cal = s.cal := rfl
@[simp] theorem State.setPwr_dump (s : State) (p : PwrSt) : (s.setPwr p).dump = s.dump := rfl

/-! ## The twin logic -/

@[simp] theorem State.setTwin_pending (s : State) (x : TwinSt) : (s.setTwin x).pending = s.pending := rfl
@[simp] theorem State.setTwin_regs (s : State) (x : TwinSt) : (s.setTwin x).regs = s.regs := rfl
@[simp] theorem State.setTwin_mem (s : State) (x : TwinSt) : (s.setTwin x).mem = s.mem := rfl
@[simp] theorem State.setTwin_badPar (s : State) (x : TwinSt) : (s.setTwin x).badPar = s.badPar := rfl
@[simp] theorem State.setTwin_hostMem (s : State) (x : TwinSt) : (s.setTwin x).hostMem = s.hostMem := rfl
@[simp] theorem State.setTwin_freeCtr (s : State) (x : TwinSt) : (s.setTwin x).freeCtr = s.freeCtr := rfl
@[simp] theorem State.setTwin_out (s : State) (x : TwinSt) : (s.setTwin x).out = s.out := rfl
@[simp] theorem State.setTwin_reports (s : State) (x : TwinSt) : (s.setTwin x).reports = s.reports := rfl
@[simp] theorem State.setTwin_frNext (s : State) (x : TwinSt) : (s.setTwin x).frNext = s.frNext := rfl
@[simp] theorem State.setTwin_perf (s : State) (x : TwinSt) : (s.setTwin x).perf = s.perf := rfl
@[simp] theorem State.setTwin_perfHi (s : State) (x : TwinSt) : (s.setTwin x).perfHi = s.perfHi := rfl
@[simp] theorem State.setTwin_perfAt (s : State) (x : TwinSt) : (s.setTwin x).perfAt = s.perfAt := rfl
@[simp] theorem State.setTwin_time (s : State) (x : TwinSt) : (s.setTwin x).time = s.time := rfl
@[simp] theorem State.setTwin_cores (s : State) (x : TwinSt) : (s.setTwin x).cores = s.cores := rfl
@[simp] theorem State.setTwin_snaps (s : State) (x : TwinSt) : (s.setTwin x).snaps = s.snaps := rfl
@[simp] theorem State.setTwin_imgDis (s : State) (x : TwinSt) : (s.setTwin x).imgDis = s.imgDis := rfl
@[simp] theorem State.setTwin_flight (s : State) (x : TwinSt) : (s.setTwin x).flight = s.flight := rfl
@[simp] theorem State.setTwin_outst (s : State) (x : TwinSt) : (s.setTwin x).outst = s.outst := rfl
@[simp] theorem State.setTwin_resIds (s : State) (x : TwinSt) : (s.setTwin x).resIds = s.resIds := rfl
@[simp] theorem State.setTwin_idWait (s : State) (x : TwinSt) : (s.setTwin x).idWait = s.idWait := rfl
@[simp] theorem State.setTwin_stops (s : State) (x : TwinSt) : (s.setTwin x).stops = s.stops := rfl
@[simp] theorem State.setTwin_routes (s : State) (x : TwinSt) : (s.setTwin x).routes = s.routes := rfl
@[simp] theorem State.setTwin_macros (s : State) (x : TwinSt) : (s.setTwin x).macros = s.macros := rfl
@[simp] theorem State.setTwin_patrol (s : State) (x : TwinSt) : (s.setTwin x).patrol = s.patrol := rfl
@[simp] theorem State.setTwin_tripped (s : State) (x : TwinSt) : (s.setTwin x).tripped = s.tripped := rfl
@[simp] theorem State.setTwin_retHold (s : State) (x : TwinSt) : (s.setTwin x).retHold = s.retHold := rfl
@[simp] theorem State.setTwin_host (s : State) (x : TwinSt) : (s.setTwin x).host = s.host := rfl
@[simp] theorem State.setTwin_pwr (s : State) (x : TwinSt) : (s.setTwin x).pwr = s.pwr := rfl
@[simp] theorem State.setTwin_queues (s : State) (x : TwinSt) : (s.setTwin x).queues = s.queues := rfl
@[simp] theorem State.setTwin_tokCnt (s : State) (x : TwinSt) : (s.setTwin x).tokCnt = s.tokCnt := rfl
@[simp] theorem State.setTwin_mirrors (s : State) (x : TwinSt) : (s.setTwin x).mirrors = s.mirrors := rfl
@[simp] theorem State.setTwin_sieves (s : State) (x : TwinSt) : (s.setTwin x).sieves = s.sieves := rfl
@[simp] theorem State.setTwin_chans (s : State) (x : TwinSt) : (s.setTwin x).chans = s.chans := rfl
@[simp] theorem State.setTwin_owed (s : State) (x : TwinSt) : (s.setTwin x).owed = s.owed := rfl
@[simp] theorem State.setTwin_fuse (s : State) (x : TwinSt) : (s.setTwin x).fuse = s.fuse := rfl
@[simp] theorem State.setTwin_ctlErr (s : State) (x : TwinSt) : (s.setTwin x).ctlErr = s.ctlErr := rfl
@[simp] theorem State.setTwin_mills (s : State) (x : TwinSt) : (s.setTwin x).mills = s.mills := rfl
@[simp] theorem State.setTwin_corr (s : State) (x : TwinSt) : (s.setTwin x).corr = s.corr := rfl
@[simp] theorem State.setTwin_fh (s : State) (x : TwinSt) : (s.setTwin x).fh = s.fh := rfl
@[simp] theorem State.setTwin_ks (s : State) (x : TwinSt) : (s.setTwin x).ks = s.ks := rfl
@[simp] theorem State.setTwin_twin (s : State) (x : TwinSt) :
    (s.setTwin x).twin = x := rfl
@[simp] theorem State.setTwin_mgmt (s : State) (x : TwinSt) : (s.setTwin x).mgmt = s.mgmt := rfl
@[simp] theorem State.setTwin_boot (s : State) (x : TwinSt) : (s.setTwin x).boot = s.boot := rfl
@[simp] theorem State.setTwin_cal (s : State) (x : TwinSt) : (s.setTwin x).cal = s.cal := rfl
@[simp] theorem State.setTwin_dump (s : State) (x : TwinSt) : (s.setTwin x).dump = s.dump := rfl

/-! ## The start -/

@[simp] theorem State.setBoot_pending (s : State) (b : BootSt) : (s.setBoot b).pending = s.pending := rfl
@[simp] theorem State.setBoot_regs (s : State) (b : BootSt) : (s.setBoot b).regs = s.regs := rfl
@[simp] theorem State.setBoot_mem (s : State) (b : BootSt) : (s.setBoot b).mem = s.mem := rfl
@[simp] theorem State.setBoot_badPar (s : State) (b : BootSt) : (s.setBoot b).badPar = s.badPar := rfl
@[simp] theorem State.setBoot_hostMem (s : State) (b : BootSt) : (s.setBoot b).hostMem = s.hostMem := rfl
@[simp] theorem State.setBoot_freeCtr (s : State) (b : BootSt) : (s.setBoot b).freeCtr = s.freeCtr := rfl
@[simp] theorem State.setBoot_out (s : State) (b : BootSt) : (s.setBoot b).out = s.out := rfl
@[simp] theorem State.setBoot_reports (s : State) (b : BootSt) : (s.setBoot b).reports = s.reports := rfl
@[simp] theorem State.setBoot_frNext (s : State) (b : BootSt) : (s.setBoot b).frNext = s.frNext := rfl
@[simp] theorem State.setBoot_perf (s : State) (b : BootSt) : (s.setBoot b).perf = s.perf := rfl
@[simp] theorem State.setBoot_perfHi (s : State) (b : BootSt) : (s.setBoot b).perfHi = s.perfHi := rfl
@[simp] theorem State.setBoot_perfAt (s : State) (b : BootSt) : (s.setBoot b).perfAt = s.perfAt := rfl
@[simp] theorem State.setBoot_time (s : State) (b : BootSt) : (s.setBoot b).time = s.time := rfl
@[simp] theorem State.setBoot_cores (s : State) (b : BootSt) : (s.setBoot b).cores = s.cores := rfl
@[simp] theorem State.setBoot_snaps (s : State) (b : BootSt) : (s.setBoot b).snaps = s.snaps := rfl
@[simp] theorem State.setBoot_imgDis (s : State) (b : BootSt) : (s.setBoot b).imgDis = s.imgDis := rfl
@[simp] theorem State.setBoot_flight (s : State) (b : BootSt) : (s.setBoot b).flight = s.flight := rfl
@[simp] theorem State.setBoot_outst (s : State) (b : BootSt) : (s.setBoot b).outst = s.outst := rfl
@[simp] theorem State.setBoot_resIds (s : State) (b : BootSt) : (s.setBoot b).resIds = s.resIds := rfl
@[simp] theorem State.setBoot_idWait (s : State) (b : BootSt) : (s.setBoot b).idWait = s.idWait := rfl
@[simp] theorem State.setBoot_stops (s : State) (b : BootSt) : (s.setBoot b).stops = s.stops := rfl
@[simp] theorem State.setBoot_routes (s : State) (b : BootSt) : (s.setBoot b).routes = s.routes := rfl
@[simp] theorem State.setBoot_macros (s : State) (b : BootSt) : (s.setBoot b).macros = s.macros := rfl
@[simp] theorem State.setBoot_patrol (s : State) (b : BootSt) : (s.setBoot b).patrol = s.patrol := rfl
@[simp] theorem State.setBoot_tripped (s : State) (b : BootSt) : (s.setBoot b).tripped = s.tripped := rfl
@[simp] theorem State.setBoot_retHold (s : State) (b : BootSt) : (s.setBoot b).retHold = s.retHold := rfl
@[simp] theorem State.setBoot_host (s : State) (b : BootSt) : (s.setBoot b).host = s.host := rfl
@[simp] theorem State.setBoot_pwr (s : State) (b : BootSt) : (s.setBoot b).pwr = s.pwr := rfl
@[simp] theorem State.setBoot_queues (s : State) (b : BootSt) : (s.setBoot b).queues = s.queues := rfl
@[simp] theorem State.setBoot_tokCnt (s : State) (b : BootSt) : (s.setBoot b).tokCnt = s.tokCnt := rfl
@[simp] theorem State.setBoot_mirrors (s : State) (b : BootSt) : (s.setBoot b).mirrors = s.mirrors := rfl
@[simp] theorem State.setBoot_sieves (s : State) (b : BootSt) : (s.setBoot b).sieves = s.sieves := rfl
@[simp] theorem State.setBoot_chans (s : State) (b : BootSt) : (s.setBoot b).chans = s.chans := rfl
@[simp] theorem State.setBoot_owed (s : State) (b : BootSt) : (s.setBoot b).owed = s.owed := rfl
@[simp] theorem State.setBoot_fuse (s : State) (b : BootSt) : (s.setBoot b).fuse = s.fuse := rfl
@[simp] theorem State.setBoot_ctlErr (s : State) (b : BootSt) : (s.setBoot b).ctlErr = s.ctlErr := rfl
@[simp] theorem State.setBoot_mills (s : State) (b : BootSt) : (s.setBoot b).mills = s.mills := rfl
@[simp] theorem State.setBoot_corr (s : State) (b : BootSt) : (s.setBoot b).corr = s.corr := rfl
@[simp] theorem State.setBoot_fh (s : State) (b : BootSt) : (s.setBoot b).fh = s.fh := rfl
@[simp] theorem State.setBoot_ks (s : State) (b : BootSt) : (s.setBoot b).ks = s.ks := rfl
@[simp] theorem State.setBoot_twin (s : State) (b : BootSt) : (s.setBoot b).twin = s.twin := rfl
@[simp] theorem State.setBoot_mgmt (s : State) (b : BootSt) : (s.setBoot b).mgmt = s.mgmt := rfl
@[simp] theorem State.setBoot_boot (s : State) (b : BootSt) :
    (s.setBoot b).boot = b := rfl
@[simp] theorem State.setBoot_cal (s : State) (b : BootSt) : (s.setBoot b).cal = s.cal := rfl
@[simp] theorem State.setBoot_dump (s : State) (b : BootSt) : (s.setBoot b).dump = s.dump := rfl

/-! ## A token mirror -/

@[simp] theorem State.setMirror_pending (s : State) (r tok : Nat) (x : TokState) :
    (s.setMirror r tok x).pending = s.pending := rfl
@[simp] theorem State.setMirror_regs (s : State) (r tok : Nat) (x : TokState) :
    (s.setMirror r tok x).regs = s.regs := rfl
@[simp] theorem State.setMirror_mem (s : State) (r tok : Nat) (x : TokState) :
    (s.setMirror r tok x).mem = s.mem := rfl
@[simp] theorem State.setMirror_badPar (s : State) (r tok : Nat) (x : TokState) :
    (s.setMirror r tok x).badPar = s.badPar := rfl
@[simp] theorem State.setMirror_hostMem (s : State) (r tok : Nat) (x : TokState) :
    (s.setMirror r tok x).hostMem = s.hostMem := rfl
@[simp] theorem State.setMirror_freeCtr (s : State) (r tok : Nat) (x : TokState) :
    (s.setMirror r tok x).freeCtr = s.freeCtr := rfl
@[simp] theorem State.setMirror_out (s : State) (r tok : Nat) (x : TokState) :
    (s.setMirror r tok x).out = s.out := rfl
@[simp] theorem State.setMirror_reports (s : State) (r tok : Nat) (x : TokState) :
    (s.setMirror r tok x).reports = s.reports := rfl
@[simp] theorem State.setMirror_frNext (s : State) (r tok : Nat) (x : TokState) :
    (s.setMirror r tok x).frNext = s.frNext := rfl
@[simp] theorem State.setMirror_perf (s : State) (r tok : Nat) (x : TokState) :
    (s.setMirror r tok x).perf = s.perf := rfl
@[simp] theorem State.setMirror_perfHi (s : State) (r tok : Nat) (x : TokState) :
    (s.setMirror r tok x).perfHi = s.perfHi := rfl
@[simp] theorem State.setMirror_perfAt (s : State) (r tok : Nat) (x : TokState) :
    (s.setMirror r tok x).perfAt = s.perfAt := rfl
@[simp] theorem State.setMirror_time (s : State) (r tok : Nat) (x : TokState) :
    (s.setMirror r tok x).time = s.time := rfl
@[simp] theorem State.setMirror_cores (s : State) (r tok : Nat) (x : TokState) :
    (s.setMirror r tok x).cores = s.cores := rfl
@[simp] theorem State.setMirror_snaps (s : State) (r tok : Nat) (x : TokState) :
    (s.setMirror r tok x).snaps = s.snaps := rfl
@[simp] theorem State.setMirror_imgDis (s : State) (r tok : Nat) (x : TokState) :
    (s.setMirror r tok x).imgDis = s.imgDis := rfl
@[simp] theorem State.setMirror_flight (s : State) (r tok : Nat) (x : TokState) :
    (s.setMirror r tok x).flight = s.flight := rfl
@[simp] theorem State.setMirror_outst (s : State) (r tok : Nat) (x : TokState) :
    (s.setMirror r tok x).outst = s.outst := rfl
@[simp] theorem State.setMirror_resIds (s : State) (r tok : Nat) (x : TokState) :
    (s.setMirror r tok x).resIds = s.resIds := rfl
@[simp] theorem State.setMirror_idWait (s : State) (r tok : Nat) (x : TokState) :
    (s.setMirror r tok x).idWait = s.idWait := rfl
@[simp] theorem State.setMirror_stops (s : State) (r tok : Nat) (x : TokState) :
    (s.setMirror r tok x).stops = s.stops := rfl
@[simp] theorem State.setMirror_routes (s : State) (r tok : Nat) (x : TokState) :
    (s.setMirror r tok x).routes = s.routes := rfl
@[simp] theorem State.setMirror_macros (s : State) (r tok : Nat) (x : TokState) :
    (s.setMirror r tok x).macros = s.macros := rfl
@[simp] theorem State.setMirror_patrol (s : State) (r tok : Nat) (x : TokState) :
    (s.setMirror r tok x).patrol = s.patrol := rfl
@[simp] theorem State.setMirror_tripped (s : State) (r tok : Nat) (x : TokState) :
    (s.setMirror r tok x).tripped = s.tripped := rfl
@[simp] theorem State.setMirror_retHold (s : State) (r tok : Nat) (x : TokState) :
    (s.setMirror r tok x).retHold = s.retHold := rfl
@[simp] theorem State.setMirror_host (s : State) (r tok : Nat) (x : TokState) :
    (s.setMirror r tok x).host = s.host := rfl
@[simp] theorem State.setMirror_pwr (s : State) (r tok : Nat) (x : TokState) :
    (s.setMirror r tok x).pwr = s.pwr := rfl
@[simp] theorem State.setMirror_queues (s : State) (r tok : Nat) (x : TokState) :
    (s.setMirror r tok x).queues = s.queues := rfl
@[simp] theorem State.setMirror_tokCnt (s : State) (r tok : Nat) (x : TokState) :
    (s.setMirror r tok x).tokCnt = s.tokCnt := rfl
@[simp] theorem State.setMirror_mirrors (s : State) (r tok : Nat) (x : TokState) :
    (s.setMirror r tok x).mirrors = mapSet s.mirrors .open_ (r * 32768 + tok) x := rfl
@[simp] theorem State.setMirror_sieves (s : State) (r tok : Nat) (x : TokState) :
    (s.setMirror r tok x).sieves = s.sieves := rfl
@[simp] theorem State.setMirror_chans (s : State) (r tok : Nat) (x : TokState) :
    (s.setMirror r tok x).chans = s.chans := rfl
@[simp] theorem State.setMirror_owed (s : State) (r tok : Nat) (x : TokState) :
    (s.setMirror r tok x).owed = s.owed := rfl
@[simp] theorem State.setMirror_fuse (s : State) (r tok : Nat) (x : TokState) :
    (s.setMirror r tok x).fuse = s.fuse := rfl
@[simp] theorem State.setMirror_ctlErr (s : State) (r tok : Nat) (x : TokState) :
    (s.setMirror r tok x).ctlErr = s.ctlErr := rfl
@[simp] theorem State.setMirror_mills (s : State) (r tok : Nat) (x : TokState) :
    (s.setMirror r tok x).mills = s.mills := rfl
@[simp] theorem State.setMirror_corr (s : State) (r tok : Nat) (x : TokState) :
    (s.setMirror r tok x).corr = s.corr := rfl
@[simp] theorem State.setMirror_fh (s : State) (r tok : Nat) (x : TokState) :
    (s.setMirror r tok x).fh = s.fh := rfl
@[simp] theorem State.setMirror_ks (s : State) (r tok : Nat) (x : TokState) :
    (s.setMirror r tok x).ks = s.ks := rfl
@[simp] theorem State.setMirror_twin (s : State) (r tok : Nat) (x : TokState) :
    (s.setMirror r tok x).twin = s.twin := rfl
@[simp] theorem State.setMirror_mgmt (s : State) (r tok : Nat) (x : TokState) :
    (s.setMirror r tok x).mgmt = s.mgmt := rfl
@[simp] theorem State.setMirror_boot (s : State) (r tok : Nat) (x : TokState) :
    (s.setMirror r tok x).boot = s.boot := rfl
@[simp] theorem State.setMirror_cal (s : State) (r tok : Nat) (x : TokState) :
    (s.setMirror r tok x).cal = s.cal := rfl
@[simp] theorem State.setMirror_dump (s : State) (r tok : Nat) (x : TokState) :
    (s.setMirror r tok x).dump = s.dump := rfl

/-! ## A queue -/

@[simp] theorem State.setQ_pending (s : State) (i : Nat) (q : QState) : (s.setQ i q).pending = s.pending := rfl
@[simp] theorem State.setQ_regs (s : State) (i : Nat) (q : QState) : (s.setQ i q).regs = s.regs := rfl
@[simp] theorem State.setQ_mem (s : State) (i : Nat) (q : QState) : (s.setQ i q).mem = s.mem := rfl
@[simp] theorem State.setQ_badPar (s : State) (i : Nat) (q : QState) : (s.setQ i q).badPar = s.badPar := rfl
@[simp] theorem State.setQ_hostMem (s : State) (i : Nat) (q : QState) : (s.setQ i q).hostMem = s.hostMem := rfl
@[simp] theorem State.setQ_freeCtr (s : State) (i : Nat) (q : QState) : (s.setQ i q).freeCtr = s.freeCtr := rfl
@[simp] theorem State.setQ_out (s : State) (i : Nat) (q : QState) : (s.setQ i q).out = s.out := rfl
@[simp] theorem State.setQ_reports (s : State) (i : Nat) (q : QState) : (s.setQ i q).reports = s.reports := rfl
@[simp] theorem State.setQ_frNext (s : State) (i : Nat) (q : QState) : (s.setQ i q).frNext = s.frNext := rfl
@[simp] theorem State.setQ_perf (s : State) (i : Nat) (q : QState) : (s.setQ i q).perf = s.perf := rfl
@[simp] theorem State.setQ_perfHi (s : State) (i : Nat) (q : QState) : (s.setQ i q).perfHi = s.perfHi := rfl
@[simp] theorem State.setQ_perfAt (s : State) (i : Nat) (q : QState) : (s.setQ i q).perfAt = s.perfAt := rfl
@[simp] theorem State.setQ_time (s : State) (i : Nat) (q : QState) : (s.setQ i q).time = s.time := rfl
@[simp] theorem State.setQ_cores (s : State) (i : Nat) (q : QState) : (s.setQ i q).cores = s.cores := rfl
@[simp] theorem State.setQ_snaps (s : State) (i : Nat) (q : QState) : (s.setQ i q).snaps = s.snaps := rfl
@[simp] theorem State.setQ_imgDis (s : State) (i : Nat) (q : QState) : (s.setQ i q).imgDis = s.imgDis := rfl
@[simp] theorem State.setQ_flight (s : State) (i : Nat) (q : QState) : (s.setQ i q).flight = s.flight := rfl
@[simp] theorem State.setQ_outst (s : State) (i : Nat) (q : QState) : (s.setQ i q).outst = s.outst := rfl
@[simp] theorem State.setQ_resIds (s : State) (i : Nat) (q : QState) : (s.setQ i q).resIds = s.resIds := rfl
@[simp] theorem State.setQ_idWait (s : State) (i : Nat) (q : QState) : (s.setQ i q).idWait = s.idWait := rfl
@[simp] theorem State.setQ_stops (s : State) (i : Nat) (q : QState) : (s.setQ i q).stops = s.stops := rfl
@[simp] theorem State.setQ_routes (s : State) (i : Nat) (q : QState) : (s.setQ i q).routes = s.routes := rfl
@[simp] theorem State.setQ_macros (s : State) (i : Nat) (q : QState) : (s.setQ i q).macros = s.macros := rfl
@[simp] theorem State.setQ_patrol (s : State) (i : Nat) (q : QState) : (s.setQ i q).patrol = s.patrol := rfl
@[simp] theorem State.setQ_tripped (s : State) (i : Nat) (q : QState) : (s.setQ i q).tripped = s.tripped := rfl
@[simp] theorem State.setQ_retHold (s : State) (i : Nat) (q : QState) : (s.setQ i q).retHold = s.retHold := rfl
@[simp] theorem State.setQ_host (s : State) (i : Nat) (q : QState) : (s.setQ i q).host = s.host := rfl
@[simp] theorem State.setQ_pwr (s : State) (i : Nat) (q : QState) : (s.setQ i q).pwr = s.pwr := rfl
@[simp] theorem State.setQ_queues (s : State) (i : Nat) (q : QState) :
    (s.setQ i q).queues = mapSet s.queues QState.reset i q := rfl
@[simp] theorem State.setQ_tokCnt (s : State) (i : Nat) (q : QState) : (s.setQ i q).tokCnt = s.tokCnt := rfl
@[simp] theorem State.setQ_mirrors (s : State) (i : Nat) (q : QState) : (s.setQ i q).mirrors = s.mirrors := rfl
@[simp] theorem State.setQ_sieves (s : State) (i : Nat) (q : QState) : (s.setQ i q).sieves = s.sieves := rfl
@[simp] theorem State.setQ_chans (s : State) (i : Nat) (q : QState) : (s.setQ i q).chans = s.chans := rfl
@[simp] theorem State.setQ_owed (s : State) (i : Nat) (q : QState) : (s.setQ i q).owed = s.owed := rfl
@[simp] theorem State.setQ_fuse (s : State) (i : Nat) (q : QState) : (s.setQ i q).fuse = s.fuse := rfl
@[simp] theorem State.setQ_ctlErr (s : State) (i : Nat) (q : QState) : (s.setQ i q).ctlErr = s.ctlErr := rfl
@[simp] theorem State.setQ_mills (s : State) (i : Nat) (q : QState) : (s.setQ i q).mills = s.mills := rfl
@[simp] theorem State.setQ_corr (s : State) (i : Nat) (q : QState) : (s.setQ i q).corr = s.corr := rfl
@[simp] theorem State.setQ_fh (s : State) (i : Nat) (q : QState) : (s.setQ i q).fh = s.fh := rfl
@[simp] theorem State.setQ_ks (s : State) (i : Nat) (q : QState) : (s.setQ i q).ks = s.ks := rfl
@[simp] theorem State.setQ_twin (s : State) (i : Nat) (q : QState) : (s.setQ i q).twin = s.twin := rfl
@[simp] theorem State.setQ_mgmt (s : State) (i : Nat) (q : QState) : (s.setQ i q).mgmt = s.mgmt := rfl
@[simp] theorem State.setQ_boot (s : State) (i : Nat) (q : QState) : (s.setQ i q).boot = s.boot := rfl
@[simp] theorem State.setQ_cal (s : State) (i : Nat) (q : QState) : (s.setQ i q).cal = s.cal := rfl
@[simp] theorem State.setQ_dump (s : State) (i : Nat) (q : QState) : (s.setQ i q).dump = s.dump := rfl

/-! ## A sieve -/

@[simp] theorem State.setSieve_pending (s : State) (t : Nat) (x : Sieve) : (s.setSieve t x).pending = s.pending := rfl
@[simp] theorem State.setSieve_regs (s : State) (t : Nat) (x : Sieve) : (s.setSieve t x).regs = s.regs := rfl
@[simp] theorem State.setSieve_mem (s : State) (t : Nat) (x : Sieve) : (s.setSieve t x).mem = s.mem := rfl
@[simp] theorem State.setSieve_badPar (s : State) (t : Nat) (x : Sieve) : (s.setSieve t x).badPar = s.badPar := rfl
@[simp] theorem State.setSieve_hostMem (s : State) (t : Nat) (x : Sieve) : (s.setSieve t x).hostMem = s.hostMem := rfl
@[simp] theorem State.setSieve_freeCtr (s : State) (t : Nat) (x : Sieve) : (s.setSieve t x).freeCtr = s.freeCtr := rfl
@[simp] theorem State.setSieve_out (s : State) (t : Nat) (x : Sieve) : (s.setSieve t x).out = s.out := rfl
@[simp] theorem State.setSieve_reports (s : State) (t : Nat) (x : Sieve) : (s.setSieve t x).reports = s.reports := rfl
@[simp] theorem State.setSieve_frNext (s : State) (t : Nat) (x : Sieve) : (s.setSieve t x).frNext = s.frNext := rfl
@[simp] theorem State.setSieve_perf (s : State) (t : Nat) (x : Sieve) : (s.setSieve t x).perf = s.perf := rfl
@[simp] theorem State.setSieve_perfHi (s : State) (t : Nat) (x : Sieve) : (s.setSieve t x).perfHi = s.perfHi := rfl
@[simp] theorem State.setSieve_perfAt (s : State) (t : Nat) (x : Sieve) : (s.setSieve t x).perfAt = s.perfAt := rfl
@[simp] theorem State.setSieve_time (s : State) (t : Nat) (x : Sieve) : (s.setSieve t x).time = s.time := rfl
@[simp] theorem State.setSieve_cores (s : State) (t : Nat) (x : Sieve) : (s.setSieve t x).cores = s.cores := rfl
@[simp] theorem State.setSieve_snaps (s : State) (t : Nat) (x : Sieve) : (s.setSieve t x).snaps = s.snaps := rfl
@[simp] theorem State.setSieve_imgDis (s : State) (t : Nat) (x : Sieve) : (s.setSieve t x).imgDis = s.imgDis := rfl
@[simp] theorem State.setSieve_flight (s : State) (t : Nat) (x : Sieve) : (s.setSieve t x).flight = s.flight := rfl
@[simp] theorem State.setSieve_outst (s : State) (t : Nat) (x : Sieve) : (s.setSieve t x).outst = s.outst := rfl
@[simp] theorem State.setSieve_resIds (s : State) (t : Nat) (x : Sieve) : (s.setSieve t x).resIds = s.resIds := rfl
@[simp] theorem State.setSieve_idWait (s : State) (t : Nat) (x : Sieve) : (s.setSieve t x).idWait = s.idWait := rfl
@[simp] theorem State.setSieve_stops (s : State) (t : Nat) (x : Sieve) : (s.setSieve t x).stops = s.stops := rfl
@[simp] theorem State.setSieve_routes (s : State) (t : Nat) (x : Sieve) : (s.setSieve t x).routes = s.routes := rfl
@[simp] theorem State.setSieve_macros (s : State) (t : Nat) (x : Sieve) : (s.setSieve t x).macros = s.macros := rfl
@[simp] theorem State.setSieve_patrol (s : State) (t : Nat) (x : Sieve) : (s.setSieve t x).patrol = s.patrol := rfl
@[simp] theorem State.setSieve_tripped (s : State) (t : Nat) (x : Sieve) : (s.setSieve t x).tripped = s.tripped := rfl
@[simp] theorem State.setSieve_retHold (s : State) (t : Nat) (x : Sieve) : (s.setSieve t x).retHold = s.retHold := rfl
@[simp] theorem State.setSieve_host (s : State) (t : Nat) (x : Sieve) : (s.setSieve t x).host = s.host := rfl
@[simp] theorem State.setSieve_pwr (s : State) (t : Nat) (x : Sieve) : (s.setSieve t x).pwr = s.pwr := rfl
@[simp] theorem State.setSieve_queues (s : State) (t : Nat) (x : Sieve) : (s.setSieve t x).queues = s.queues := rfl
@[simp] theorem State.setSieve_tokCnt (s : State) (t : Nat) (x : Sieve) : (s.setSieve t x).tokCnt = s.tokCnt := rfl
@[simp] theorem State.setSieve_mirrors (s : State) (t : Nat) (x : Sieve) : (s.setSieve t x).mirrors = s.mirrors := rfl
@[simp] theorem State.setSieve_sieves (s : State) (t : Nat) (x : Sieve) :
    (s.setSieve t x).sieves = mapSet s.sieves Sieve.reset t x := rfl
@[simp] theorem State.setSieve_chans (s : State) (t : Nat) (x : Sieve) : (s.setSieve t x).chans = s.chans := rfl
@[simp] theorem State.setSieve_owed (s : State) (t : Nat) (x : Sieve) : (s.setSieve t x).owed = s.owed := rfl
@[simp] theorem State.setSieve_fuse (s : State) (t : Nat) (x : Sieve) : (s.setSieve t x).fuse = s.fuse := rfl
@[simp] theorem State.setSieve_ctlErr (s : State) (t : Nat) (x : Sieve) : (s.setSieve t x).ctlErr = s.ctlErr := rfl
@[simp] theorem State.setSieve_mills (s : State) (t : Nat) (x : Sieve) : (s.setSieve t x).mills = s.mills := rfl
@[simp] theorem State.setSieve_corr (s : State) (t : Nat) (x : Sieve) : (s.setSieve t x).corr = s.corr := rfl
@[simp] theorem State.setSieve_fh (s : State) (t : Nat) (x : Sieve) : (s.setSieve t x).fh = s.fh := rfl
@[simp] theorem State.setSieve_ks (s : State) (t : Nat) (x : Sieve) : (s.setSieve t x).ks = s.ks := rfl
@[simp] theorem State.setSieve_twin (s : State) (t : Nat) (x : Sieve) : (s.setSieve t x).twin = s.twin := rfl
@[simp] theorem State.setSieve_mgmt (s : State) (t : Nat) (x : Sieve) : (s.setSieve t x).mgmt = s.mgmt := rfl
@[simp] theorem State.setSieve_boot (s : State) (t : Nat) (x : Sieve) : (s.setSieve t x).boot = s.boot := rfl
@[simp] theorem State.setSieve_cal (s : State) (t : Nat) (x : Sieve) : (s.setSieve t x).cal = s.cal := rfl
@[simp] theorem State.setSieve_dump (s : State) (t : Nat) (x : Sieve) : (s.setSieve t x).dump = s.dump := rfl

/-! ## A mover channel -/

@[simp] theorem State.setChan_pending (s : State) (k ch : Nat) (x : Chan) : (s.setChan k ch x).pending = s.pending := rfl
@[simp] theorem State.setChan_regs (s : State) (k ch : Nat) (x : Chan) : (s.setChan k ch x).regs = s.regs := rfl
@[simp] theorem State.setChan_mem (s : State) (k ch : Nat) (x : Chan) : (s.setChan k ch x).mem = s.mem := rfl
@[simp] theorem State.setChan_badPar (s : State) (k ch : Nat) (x : Chan) : (s.setChan k ch x).badPar = s.badPar := rfl
@[simp] theorem State.setChan_hostMem (s : State) (k ch : Nat) (x : Chan) : (s.setChan k ch x).hostMem = s.hostMem := rfl
@[simp] theorem State.setChan_freeCtr (s : State) (k ch : Nat) (x : Chan) : (s.setChan k ch x).freeCtr = s.freeCtr := rfl
@[simp] theorem State.setChan_out (s : State) (k ch : Nat) (x : Chan) : (s.setChan k ch x).out = s.out := rfl
@[simp] theorem State.setChan_reports (s : State) (k ch : Nat) (x : Chan) : (s.setChan k ch x).reports = s.reports := rfl
@[simp] theorem State.setChan_frNext (s : State) (k ch : Nat) (x : Chan) : (s.setChan k ch x).frNext = s.frNext := rfl
@[simp] theorem State.setChan_perf (s : State) (k ch : Nat) (x : Chan) : (s.setChan k ch x).perf = s.perf := rfl
@[simp] theorem State.setChan_perfHi (s : State) (k ch : Nat) (x : Chan) : (s.setChan k ch x).perfHi = s.perfHi := rfl
@[simp] theorem State.setChan_perfAt (s : State) (k ch : Nat) (x : Chan) : (s.setChan k ch x).perfAt = s.perfAt := rfl
@[simp] theorem State.setChan_time (s : State) (k ch : Nat) (x : Chan) : (s.setChan k ch x).time = s.time := rfl
@[simp] theorem State.setChan_cores (s : State) (k ch : Nat) (x : Chan) : (s.setChan k ch x).cores = s.cores := rfl
@[simp] theorem State.setChan_snaps (s : State) (k ch : Nat) (x : Chan) : (s.setChan k ch x).snaps = s.snaps := rfl
@[simp] theorem State.setChan_imgDis (s : State) (k ch : Nat) (x : Chan) : (s.setChan k ch x).imgDis = s.imgDis := rfl
@[simp] theorem State.setChan_flight (s : State) (k ch : Nat) (x : Chan) : (s.setChan k ch x).flight = s.flight := rfl
@[simp] theorem State.setChan_outst (s : State) (k ch : Nat) (x : Chan) : (s.setChan k ch x).outst = s.outst := rfl
@[simp] theorem State.setChan_resIds (s : State) (k ch : Nat) (x : Chan) : (s.setChan k ch x).resIds = s.resIds := rfl
@[simp] theorem State.setChan_idWait (s : State) (k ch : Nat) (x : Chan) : (s.setChan k ch x).idWait = s.idWait := rfl
@[simp] theorem State.setChan_stops (s : State) (k ch : Nat) (x : Chan) : (s.setChan k ch x).stops = s.stops := rfl
@[simp] theorem State.setChan_routes (s : State) (k ch : Nat) (x : Chan) : (s.setChan k ch x).routes = s.routes := rfl
@[simp] theorem State.setChan_macros (s : State) (k ch : Nat) (x : Chan) : (s.setChan k ch x).macros = s.macros := rfl
@[simp] theorem State.setChan_patrol (s : State) (k ch : Nat) (x : Chan) : (s.setChan k ch x).patrol = s.patrol := rfl
@[simp] theorem State.setChan_tripped (s : State) (k ch : Nat) (x : Chan) : (s.setChan k ch x).tripped = s.tripped := rfl
@[simp] theorem State.setChan_retHold (s : State) (k ch : Nat) (x : Chan) : (s.setChan k ch x).retHold = s.retHold := rfl
@[simp] theorem State.setChan_host (s : State) (k ch : Nat) (x : Chan) : (s.setChan k ch x).host = s.host := rfl
@[simp] theorem State.setChan_pwr (s : State) (k ch : Nat) (x : Chan) : (s.setChan k ch x).pwr = s.pwr := rfl
@[simp] theorem State.setChan_queues (s : State) (k ch : Nat) (x : Chan) : (s.setChan k ch x).queues = s.queues := rfl
@[simp] theorem State.setChan_tokCnt (s : State) (k ch : Nat) (x : Chan) : (s.setChan k ch x).tokCnt = s.tokCnt := rfl
@[simp] theorem State.setChan_mirrors (s : State) (k ch : Nat) (x : Chan) : (s.setChan k ch x).mirrors = s.mirrors := rfl
@[simp] theorem State.setChan_sieves (s : State) (k ch : Nat) (x : Chan) : (s.setChan k ch x).sieves = s.sieves := rfl
@[simp] theorem State.setChan_chans (s : State) (k ch : Nat) (x : Chan) :
    (s.setChan k ch x).chans = mapSet s.chans Chan.reset (k * 128 + ch) x := rfl
@[simp] theorem State.setChan_owed (s : State) (k ch : Nat) (x : Chan) : (s.setChan k ch x).owed = s.owed := rfl
@[simp] theorem State.setChan_fuse (s : State) (k ch : Nat) (x : Chan) : (s.setChan k ch x).fuse = s.fuse := rfl
@[simp] theorem State.setChan_ctlErr (s : State) (k ch : Nat) (x : Chan) : (s.setChan k ch x).ctlErr = s.ctlErr := rfl
@[simp] theorem State.setChan_mills (s : State) (k ch : Nat) (x : Chan) : (s.setChan k ch x).mills = s.mills := rfl
@[simp] theorem State.setChan_corr (s : State) (k ch : Nat) (x : Chan) : (s.setChan k ch x).corr = s.corr := rfl
@[simp] theorem State.setChan_fh (s : State) (k ch : Nat) (x : Chan) : (s.setChan k ch x).fh = s.fh := rfl
@[simp] theorem State.setChan_ks (s : State) (k ch : Nat) (x : Chan) : (s.setChan k ch x).ks = s.ks := rfl
@[simp] theorem State.setChan_twin (s : State) (k ch : Nat) (x : Chan) : (s.setChan k ch x).twin = s.twin := rfl
@[simp] theorem State.setChan_mgmt (s : State) (k ch : Nat) (x : Chan) : (s.setChan k ch x).mgmt = s.mgmt := rfl
@[simp] theorem State.setChan_boot (s : State) (k ch : Nat) (x : Chan) : (s.setChan k ch x).boot = s.boot := rfl
@[simp] theorem State.setChan_cal (s : State) (k ch : Nat) (x : Chan) : (s.setChan k ch x).cal = s.cal := rfl
@[simp] theorem State.setChan_dump (s : State) (k ch : Nat) (x : Chan) : (s.setChan k ch x).dump = s.dump := rfl

end Sys2Proof.Machine
end

