-- ==== Sys2Proof/Laws/Ops.lean ====
section
/-!
SUPPORT. What the shared operations over registers and memory can do: a register or field that is written reads what was
written, every other one reads as before; a byte that is written reads as written, every other one as before.
-/

namespace Sys2Proof.Machine

/-! ## Registers -/

@[simp] theorem State.reg_setReg (s : State) (a : Nat) (v : Word) : (s.setReg a v).reg a = v := by
  simp [State.reg]

theorem State.reg_setReg_ne (s : State) {a b : Nat} (v : Word) (h : b ≠ a) : (s.setReg a v).reg b = s.reg b := by
  simp [State.reg, mapGet_set_ne _ _ _ _ h]

/-- Two states with the same registers read the same. -/
theorem State.reg_congr {s t : State} (h : t.regs = s.regs) (a : Nat) : t.reg a = s.reg a := by simp [State.reg, h]

theorem State.get_congr {s t : State} (h : t.regs = s.regs) (f : RF) : t.get f = s.get f := by
  simp [State.get, State.reg_congr h]

theorem State.on_congr {s t : State} (h : t.regs = s.regs) (f : RF) : t.on f = s.on f := by
  simp [State.on, State.get_congr h]

theorem State.bit_congr {s t : State} (h : t.regs = s.regs) (f : RF) (i : Nat) : t.bit f i = s.bit f i := by
  simp [State.bit, State.get_congr h]

/-- The bits of a field's mask. -/
theorem RF.getLsbD_mask (f : RF) (i : Nat) :
    f.mask.getLsbD i = (decide (i < 32) && decide (f.lo ≤ i) && decide (i < f.lo + f.w)) := by
  simp only [RF.mask, BitVec.getLsbD_shiftLeft, BitVec.getLsbD_ofNat, Nat.testBit_two_pow_sub_one]
  by_cases h : f.lo ≤ i
  · obtain ⟨k, rfl⟩ := Nat.exists_eq_add_of_le h
    by_cases h1 : f.lo + k < 32
    · have h2 : k < 32 := by omega
      simp [h1, h2]
    · simp [h1]
  · have h1 : i < f.lo := by omega
    simp [h, h1]

/-- The bits of a word with one field replaced. -/
theorem getLsbD_withField (v : Word) (f : RF) (x i : Nat) (hi : i < 32) :
    (withField v f x).getLsbD i =
      if f.lo ≤ i ∧ i < f.lo + f.w then x.testBit (i - f.lo) else v.getLsbD i := by
  simp only [withField, BitVec.getLsbD_or, BitVec.getLsbD_and, BitVec.getLsbD_not, RF.getLsbD_mask,
    BitVec.getLsbD_shiftLeft, BitVec.getLsbD_ofNat, Nat.testBit_mod_two_pow, hi, decide_true, Bool.true_and]
  by_cases h1 : f.lo ≤ i
  · by_cases h2 : i < f.lo + f.w
    · have h3 : i - f.lo < f.w := by omega
      have h4 : i - f.lo < 32 := by omega
      simp [h1, h2, h3, h4, Nat.not_lt.mpr h1]
    · have h3 : ¬ i - f.lo < f.w := by omega
      simp [h1, h2, h3]
  · have h5 : i < f.lo := by omega
    simp [h1, h5]

/-- The bits of a field. -/
theorem testBit_fieldOf (v : Word) (f : RF) (i : Nat) :
    (fieldOf v f).testBit i = (decide (i < f.w) && v.getLsbD (f.lo + i)) := by
  simp [fieldOf, Nat.testBit_mod_two_pow, Nat.testBit_shiftRight, BitVec.testBit_toNat]

/-- A field that is replaced reads its new value. -/
theorem fieldOf_withField (v : Word) (f : RF) (x : Nat) (h : f.lo + f.w ≤ 32) :
    fieldOf (withField v f x) f = x % 2 ^ f.w := by
  apply Nat.eq_of_testBit_eq
  intro i
  rw [testBit_fieldOf, Nat.testBit_mod_two_pow]
  by_cases hi : i < f.w
  · rw [getLsbD_withField _ _ _ _ (by omega)]
    simp [hi]
  · simp [hi]

/-- Another field of the word reads as before. -/
theorem fieldOf_withField_apart (v : Word) (f e : RF) (x : Nat) (h : e.lo + e.w ≤ f.lo ∨ f.lo + f.w ≤ e.lo) :
    fieldOf (withField v f x) e = fieldOf v e := by
  apply Nat.eq_of_testBit_eq
  intro i
  rw [testBit_fieldOf, testBit_fieldOf]
  by_cases hi : i < e.w
  · by_cases h32 : e.lo + i < 32
    · rw [getLsbD_withField _ _ _ _ h32, if_neg (by omega)]
    · simp [BitVec.getLsbD_of_ge _ _ (Nat.not_lt.mp h32)]
  · simp [hi]

theorem State.get_put (s : State) (f : RF) (x : Nat) (h : f.lo + f.w ≤ 32) : (s.put f x).get f = x % 2 ^ f.w := by
  simp [State.get, State.put, fieldOf_withField _ _ _ h]

theorem State.get_put_apart (s : State) (f e : RF) (x : Nat) (ha : e.a = f.a)
    (h : e.lo + e.w ≤ f.lo ∨ f.lo + f.w ≤ e.lo) : (s.put f x).get e = s.get e := by
  simp [State.get, State.put, ha, fieldOf_withField_apart _ _ _ _ h]

theorem State.get_put_ne (s : State) (f e : RF) (x : Nat) (ha : e.a ≠ f.a) : (s.put f x).get e = s.get e := by
  simp [State.get, State.put, State.reg_setReg_ne _ _ ha]

theorem State.reg_put_ne (s : State) (f : RF) (x : Nat) {b : Nat} (h : b ≠ f.a) : (s.put f x).reg b = s.reg b :=
  State.reg_setReg_ne s _ h

theorem State.get_setReg_ne (s : State) {a : Nat} (v : Word) (e : RF) (h : e.a ≠ a) : (s.setReg a v).get e = s.get e := by
  simp [State.get, State.reg_setReg_ne _ _ h]

/-- A flag that is set is on. -/
theorem State.on_flag (s : State) (f : RF) (h : f.lo + f.w ≤ 32) (hw : f.w = 1) : (s.flag f).on f = true := by
  simp [State.flag, State.on, State.get_put _ _ _ h, hw]

/-- A bit that is written reads as written, where the field holds it. -/
theorem State.bit_putBit (s : State) (f : RF) (i : Nat) (b : Bool) (h : f.lo + f.w ≤ 32) (hi : i < f.w) :
    (s.putBit f i b).bit f i = b := by
  unfold State.putBit State.bit
  split
  · next hb => simp [State.get_put _ _ _ h, Nat.testBit_mod_two_pow, hi, hb, Nat.testBit_or]
  · next hb =>
    have h2 : 2 ^ i % 2 ^ f.w = 2 ^ i := Nat.mod_eq_of_lt (Nat.pow_lt_pow_right (by omega) hi)
    have h3 : 2 ^ f.w - 1 - 2 ^ i = 2 ^ f.w - (2 ^ i + 1) := by omega
    have h4 : (2 : Nat) ^ i < 2 ^ f.w := Nat.pow_lt_pow_right (by omega) hi
    simp only [State.get_put _ _ _ h, Nat.testBit_mod_two_pow, hi, h2, h3, Nat.testBit_and,
      Nat.testBit_two_pow_sub_succ h4, Nat.testBit_two_pow_self, decide_true, Bool.not_true, Bool.and_false]
    simp at hb
    exact hb.symm

/-! ## Memory -/

theorem State.byteAt_writeByte (s : State) (a : Nat) (b : Byte) : (s.writeByte a b).byteAt a = b := by
  simp [State.byteAt]

theorem State.byteAt_writeByte_ne (s : State) {a x : Nat} (b : Byte) (h : x ≠ a) :
    (s.writeByte a b).byteAt x = s.byteAt x := by
  simp [State.byteAt, mapFind_ins_ne _ _ h]

/-- What a store of bytes leaves of memory at an address outside them. -/
theorem State.find_writeBytes_out (l : List Byte) :
    ∀ (s : State) (a x : Nat), x < a ∨ a + l.length ≤ x → mapFind? (s.writeBytes a l).mem x = mapFind? s.mem x := by
  induction l with
  | nil => intro s a x _; rfl
  | cons b l ih =>
    intro s a x h
    simp only [List.length_cons] at h
    rw [State.writeBytes, ih _ _ _ (by omega), State.writeByte_mem, mapFind_ins_ne _ _ (by omega)]

/-- A store of bytes puts each of them at its address. -/
theorem State.find_writeBytes_in (l : List Byte) :
    ∀ (s : State) (a i : Nat) (h : i < l.length), mapFind? (s.writeBytes a l).mem (a + i) = some l[i] := by
  induction l with
  | nil => intro s a i h; simp at h
  | cons b l ih =>
    intro s a i h
    cases i with
    | zero => rw [State.writeBytes, State.find_writeBytes_out _ _ _ _ (by omega)]; simp
    | succ i =>
      simp only [List.length_cons] at h
      rw [State.writeBytes, show a + (i + 1) = a + 1 + i by omega, ih _ _ _ (by omega)]
      rfl

/-- A store of bytes changes memory and its parities only. -/
theorem State.writeBytes_eq (l : List Byte) :
    ∀ (s : State) (a : Nat), s.writeBytes a l = { s with
      mem := (s.writeBytes a l).mem
      badPar := (s.writeBytes a l).badPar } := by
  induction l with
  | nil => intro s a; rfl
  | cons b l ih => intro s a; rw [State.writeBytes, ih]; simp [State.writeByte]

theorem State.writeBytes_freeCtr (s : State) (a : Nat) (l : List Byte) : (s.writeBytes a l).freeCtr = s.freeCtr := by
  rw [State.writeBytes_eq]

theorem State.byteAt_writeBytes_out (s : State) (a : Nat) (l : List Byte) (x : Nat) (h : x < a ∨ a + l.length ≤ x) :
    (s.writeBytes a l).byteAt x = s.byteAt x := by
  simp [State.byteAt, State.find_writeBytes_out _ _ _ _ h, State.writeBytes_freeCtr]

theorem State.bytesAt_writeBytes (s : State) (a : Nat) (l : List Byte) : (s.writeBytes a l).bytesAt a l.length = l := by
  apply List.ext_getElem
  · simp [State.bytesAt]
  · intro i h1 h2
    simp [State.bytesAt, State.byteAt, State.find_writeBytes_in l s a i h2]

/-! ## Cores -/

@[simp] theorem State.core_setCore (s : State) (c : Nat) (k : Core) : (s.setCore c k).core c = k := by
  simp [State.core]

theorem State.core_setCore_ne (s : State) {c d : Nat} (k : Core) (h : d ≠ c) : (s.setCore c k).core d = s.core d := by
  simp [State.core, mapGet_set_ne _ _ _ _ h]

theorem State.core_congr {s t : State} (h : t.cores = s.cores) (c : Nat) : t.core c = s.core c := by simp [State.core, h]

/-! ## Stops, queues, sieves, channels, mirrors -/

@[simp] theorem State.stop_setStop (s : State) (n : Nat) (x : StopSt) : (s.setStop n x).stop n = x := by
  simp [State.stop]

theorem State.stop_setStop_ne (s : State) {n m : Nat} (x : StopSt) (h : m ≠ n) : (s.setStop n x).stop m = s.stop m := by
  simp [State.stop, mapGet_set_ne _ _ _ _ h]

@[simp] theorem State.q_setQ (s : State) (i : Nat) (x : QState) : (s.setQ i x).q i = x := by simp [State.q]

theorem State.q_setQ_ne (s : State) {i j : Nat} (x : QState) (h : j ≠ i) : (s.setQ i x).q j = s.q j := by
  simp [State.q, mapGet_set_ne _ _ _ _ h]

@[simp] theorem State.sieve_setSieve (s : State) (t : Nat) (x : Sieve) : (s.setSieve t x).sieve t = x := by
  simp [State.sieve]

theorem State.sieve_setSieve_ne (s : State) {t u : Nat} (x : Sieve) (h : u ≠ t) : (s.setSieve t x).sieve u = s.sieve u := by
  simp [State.sieve, mapGet_set_ne _ _ _ _ h]

@[simp] theorem State.mirror_setMirror (s : State) (r tok : Nat) (x : TokState) : (s.setMirror r tok x).mirror r tok = x := by
  simp [State.mirror]

end Sys2Proof.Machine
end

