-- ==== Sys2Proof/Laws/Canon.lean ====
section
/-!
SUPPORT. The canonical form of registers and memories, and that every operation over memory and registers keeps it.
-/

namespace Sys2Proof.Machine

/-! ## Sorted sets -/

theorem setSorted_mono {lo lo' : Nat} (h : lo' ≤ lo) (m : List Nat) : setSorted lo m = true → setSorted lo' m = true := by
  cases m with
  | nil => simp [setSorted]
  | cons k m => simp [setSorted]; intro h1 h2; exact ⟨by omega, h2⟩

theorem setSorted_filter (p : Nat → Bool) (m : List Nat) :
    ∀ lo, setSorted lo m = true → setSorted lo (m.filter p) = true := by
  induction m with
  | nil => simp
  | cons k m ih =>
    intro lo h
    simp only [setSorted, Bool.and_eq_true, decide_eq_true_eq] at h
    simp only [List.filter_cons]
    split
    · simp [setSorted, h.1, ih _ h.2]
    · exact setSorted_mono (by omega) _ (ih _ h.2)

theorem setSorted_ins (m : List Nat) (x : Nat) : ∀ lo, lo ≤ x → setSorted lo m = true → setSorted lo (setIns m x) = true := by
  induction m with
  | nil => intro lo h _; simp [setIns, setSorted, h]
  | cons k m ih =>
    intro lo hx h
    simp only [setSorted, Bool.and_eq_true, decide_eq_true_eq] at h
    simp only [setIns]
    split
    · next hk =>
      simp only [setSorted, Bool.and_eq_true, decide_eq_true_eq]
      exact ⟨hx, by omega, h.2⟩
    · split
      · simp [setSorted, h]
      · next h1 h2 => simp [setSorted, h.1, ih (k + 1) (by omega) h.2]

theorem setSorted_erase (m : List Nat) (x lo : Nat) (h : setSorted lo m = true) : setSorted lo (setErase m x) = true :=
  setSorted_filter _ m lo h

theorem mapSorted_filter {α : Type} (p : Nat × α → Bool) (m : List (Nat × α)) :
    ∀ lo, mapSorted lo m = true → mapSorted lo (m.filter p) = true := by
  induction m with
  | nil => simp
  | cons e m ih =>
    obtain ⟨k, v⟩ := e
    intro lo h
    simp only [mapSorted, Bool.and_eq_true, decide_eq_true_eq] at h
    simp only [List.filter_cons]
    split
    · simp [mapSorted, h.1, ih _ h.2]
    · exact mapSorted_mono (by omega) _ (ih _ h.2)

/-! ## The canonical form -/

/-- The form in its parts. -/
theorem State.canon_iff (s : State) : s.canon = true ↔ mapWf s.regs = true ∧ mapNoDefault regReset s.regs = true ∧
    mapWf s.mem = true ∧ setSorted 0 s.badPar = true ∧ mapWf s.hostMem = true := by
  simp [State.canon, and_assoc]

/-- The form is that of four fields. -/
theorem State.canon_congr {s t : State} (h1 : t.regs = s.regs) (h2 : t.mem = s.mem) (h3 : t.badPar = s.badPar)
    (h4 : t.hostMem = s.hostMem) : t.canon = s.canon := by
  simp [State.canon, h1, h2, h3, h4]

theorem State.canon_setReg {s : State} (a : Nat) (v : Word) (h : s.canon = true) : (s.setReg a v).canon = true := by
  rw [State.canon_iff] at *
  exact ⟨mapWf_set _ _ _ _ h.1, mapNoDefault_set _ _ _ _ h.2.1, h.2.2⟩

theorem State.canon_put {s : State} (f : RF) (x : Nat) (h : s.canon = true) : (s.put f x).canon = true :=
  State.canon_setReg _ _ h

theorem State.canon_flag {s : State} (f : RF) (h : s.canon = true) : (s.flag f).canon = true := State.canon_put _ _ h

theorem State.canon_flagRepN {s : State} (f rep : RF) (n : Nat) (h : s.canon = true) : (s.flagRepN f rep n).canon = true :=
  State.canon_put _ _ (State.canon_put _ _ h)

theorem State.canon_flagRep {s : State} (f rep : RF) (h : s.canon = true) : (s.flagRep f rep).canon = true :=
  State.canon_flagRepN _ _ _ h

theorem State.canon_putBit {s : State} (f : RF) (i : Nat) (b : Bool) (h : s.canon = true) : (s.putBit f i b).canon = true := by
  unfold State.putBit; split <;> exact State.canon_put _ _ h

theorem State.canon_count {s : State} (i n : Nat) (h : s.canon = true) : (s.count i n).canon = true := h

theorem State.canon_emit {s : State} (o : Out) (h : s.canon = true) : (s.emit o).canon = true := h

theorem State.canon_fresh {s : State} (h : s.canon = true) : s.fresh.canon = true := h

theorem State.canon_popReport {s : State} (h : s.canon = true) : s.popReport.canon = true := h

theorem State.canon_setCore {s : State} (c : Nat) (k : Core) (h : s.canon = true) : (s.setCore c k).canon = true := h

theorem State.canon_setStop {s : State} (n : Nat) (x : StopSt) (h : s.canon = true) : (s.setStop n x).canon = true := h

theorem State.canon_send {s : State} (p : Packet) (h : s.canon = true) : (s.send p).canon = true := h

theorem State.canon_arrive {s : State} (p : Packet) (h : s.canon = true) : (s.arrive p).canon = true := h

theorem State.canon_setQ {s : State} (i : Nat) (q : QState) (h : s.canon = true) : (s.setQ i q).canon = true := h

theorem State.canon_setSieve {s : State} (t : Nat) (x : Sieve) (h : s.canon = true) : (s.setSieve t x).canon = true := h

theorem State.canon_setMirror {s : State} (r tok : Nat) (x : TokState) (h : s.canon = true) :
    (s.setMirror r tok x).canon = true := h

theorem State.canon_report {s : State} (r : Report) (h : s.canon = true) : (s.report r).canon = true := by
  unfold State.report
  split
  · exact h
  · exact State.canon_put _ _ h

/-- A fold of an operation that keeps the form keeps it. -/
theorem State.canon_foldl {α : Type} (f : State → α → State) (hf : ∀ s x, s.canon = true → (f s x).canon = true)
    (l : List α) : ∀ s : State, s.canon = true → (l.foldl f s).canon = true := by
  induction l with
  | nil => intro s h; exact h
  | cons x l ih => intro s h; exact ih _ (hf s x h)

theorem State.canon_sendEvent {s : State} (init strata ev w : Nat) (tok : Option (BitVec 15)) (h : s.canon = true) :
    (s.sendEvent init strata ev w tok).canon = true :=
  State.canon_foldl _ (fun s x hs => by dsimp only; split <;> exact hs) _ _ h

theorem State.canon_launch {s : State} (r : Req) (p : Packet) (h : s.canon = true) : (s.launch r p).canon = true := by
  unfold State.launch
  split <;> exact h

theorem State.canon_request {s : State} (init op addr len : Nat) (fn : BitVec 3) (spec : Bool) (d : List Byte) (p : BitVec 32)
    (k : ReqKind) (h : s.canon = true) : (s.request init op addr len fn spec d p k).canon = true := by
  unfold State.request
  have h1 : (s.count 726 1).canon = true := State.canon_count _ _ h
  extract_lets r sendable
  by_cases hs : sendable = true
  · rw [if_pos hs]; exact State.canon_launch _ _ h
  · rw [if_neg hs]; exact State.canon_launch _ _ h1

/-! ## Memory -/

theorem State.canon_writeByte {s : State} (a : Nat) (b : Byte) (h : s.canon = true) : (s.writeByte a b).canon = true := by
  rw [State.canon_iff] at *
  exact ⟨h.1, h.2.1, mapWf_ins _ _ _ h.2.2.1, setSorted_erase _ _ _ h.2.2.2.1, h.2.2.2.2⟩

theorem State.canon_writeBytes (l : List Byte) : ∀ (s : State) (a : Nat), s.canon = true → (s.writeBytes a l).canon = true := by
  induction l with
  | nil => intro s a h; exact h
  | cons b l ih => intro s a h; exact ih _ _ (State.canon_writeByte a b h)

theorem setSorted_foldl_ins {α : Type} (f : α → Nat) (l : List α) :
    ∀ m, setSorted 0 m = true → setSorted 0 (l.foldl (fun m i => setIns m (f i)) m) = true := by
  induction l with
  | nil => intro m h; exact h
  | cons x l ih => intro m h; exact ih _ (setSorted_ins _ _ _ (Nat.zero_le _) h)

theorem State.canon_poisonWord {s : State} (a : Nat) (h : s.canon = true) : (s.poisonWord a).canon = true := by
  rw [State.canon_iff] at *
  exact ⟨h.1, h.2.1, h.2.2.1, setSorted_foldl_ins _ _ _ h.2.2.2.1, h.2.2.2.2⟩

theorem State.canon_writePoison {s : State} (a : Nat) (l : List Byte) (p : BitVec 32) (h : s.canon = true) :
    (s.writePoison a l p).canon = true :=
  State.canon_foldl _ (fun s x hs => by
    split
    · exact State.canon_poisonWord _ hs
    · exact hs) _ _ (State.canon_writeBytes _ _ _ h)

theorem State.canon_loseRange {s : State} (a n : Nat) (h : s.canon = true) : (s.loseRange a n).canon = true := by
  rw [State.canon_iff] at *
  exact ⟨h.1, h.2.1, mapSorted_filter _ _ _ h.2.2.1, setSorted_filter _ _ _ h.2.2.2.1, h.2.2.2.2⟩

theorem State.canon_readNote {s : State} (init a n : Nat) (spec : Bool) (h : s.canon = true) :
    (s.readNote init a n spec).canon = true := by
  unfold State.readNote
  repeat' split
  · exact h
  · exact h
  · exact h
  · exact h
  · exact State.canon_report _ (State.canon_setReg _ _ (State.canon_setReg _ _ (State.canon_put _ _ (State.canon_put _ _ h))))

theorem State.canon_readEffect {s : State} (init a n : Nat) (spec : Bool) (h : s.canon = true) :
    (s.readEffect init a n spec).canon = true := State.canon_readNote _ _ _ _ h

/-! ## Host memory -/

theorem mapWf_foldl_ins {α : Type} (l : List (Nat × α)) :
    ∀ m : List (Nat × α), mapWf m = true → mapWf (l.foldl (fun m c => mapIns m c.1 c.2) m) = true := by
  induction l with
  | nil => intro m h; exact h
  | cons e l ih => intro m h; exact ih _ (mapWf_ins _ _ _ h)

theorem State.canon_dcEvict {s : State} (line : Nat) (h : s.canon = true) : (s.dcEvict line).canon = true := by
  rw [State.canon_iff] at *
  refine ⟨h.1, h.2.1, h.2.2.1, h.2.2.2.1, ?_⟩
  simp only [State.dcEvict]
  split
  · exact mapWf_foldl_ins _ _ h.2.2.2.2
  · exact h.2.2.2.2

theorem State.canon_dcFetch {s : State} (line : Nat) (h : s.canon = true) : (s.dcFetch line).canon = true := by
  unfold State.dcFetch
  split
  · exact h
  · have h1 : (s.dcEvict ((s.dcSetLines line).getD (Config.dcVictim s.freeCtr line % 16) 0)).canon = true := State.canon_dcEvict _ h
    generalize s.dcEvict ((s.dcSetLines line).getD (Config.dcVictim s.freeCtr line % 16) 0) = s1 at *
    dsimp only
    split
    · exact h
    · exact h1

theorem State.canon_hostWriteByte {s : State} (x : Nat) (b : Byte) (cached ns fetch : Bool) (h : s.canon = true) :
    (s.hostWriteByte x b cached ns fetch).canon = true := by
  unfold State.hostWriteByte
  dsimp only
  split
  · split
    · exact State.canon_dcFetch _ h
    · exact h
  · have h1 : (if !ns && s.dcHas x then s.dcEvict (x / 64) else s).canon = true := by
      split
      · exact State.canon_dcEvict _ h
      · exact h
    rw [State.canon_iff] at *
    exact ⟨h1.1, h1.2.1, h1.2.2.1, h1.2.2.2.1, mapWf_ins _ _ _ h1.2.2.2.2⟩

theorem State.canon_hostPutBytes (l : List Byte) : ∀ (s : State) (x : Nat) (cached ns fetch : Bool), s.canon = true →
    (s.hostPutBytes x cached ns fetch l).canon = true := by
  induction l with
  | nil => intro s x c n f h; exact h
  | cons b l ih => intro s x c n f h; exact ih _ _ _ _ _ (State.canon_hostWriteByte _ _ _ _ _ h)

theorem State.canon_hostWriteBytes {s : State} (x : Nat) (cached ns : Bool) (l : List Byte) (h : s.canon = true) :
    (s.hostWriteBytes x cached ns l).canon = true := by
  refine State.canon_hostPutBytes _ _ _ _ _ _ ?_
  split <;> exact h

end Sys2Proof.Machine
end

