-- ==== Sys2Proof/Laws/Core.lean ====
section
/-!
SUPPORT. What the shared operations of the cores can do: an instruction of a ready core acts at once, an instruction of a core
that does not run does nothing; writing a g register; retiring.
-/

namespace Sys2Proof.Machine

/-! ## The g registers -/

@[simp] theorem Core.gr_zero (k : Core) : k.gr 0 = 0 := rfl

theorem Core.gr_setG (k : Core) (rd r : Nat) (v : DWord) :
    (k.setG rd v).gr r = if r = rd ∧ rd ≠ 0 then v else k.gr r := by
  unfold Core.setG Core.gr
  by_cases h : rd = 0
  · simp [h]
  · by_cases hr : r = rd
    · subst hr; simp [h]
    · simp [h, hr, mapGet_set_ne _ _ _ _ hr]

theorem Core.setG_frame (k : Core) (rd : Nat) (v : DWord) :
    k.setG rd v = { k with
      g := (k.setG rd v).g
      pois := (k.setG rd v).pois
      pend := (k.setG rd v).pend } := by
  unfold Core.setG; split <;> rfl

@[simp] theorem Core.setG_pc (k : Core) (rd : Nat) (v : DWord) : (k.setG rd v).pc = k.pc := by
  unfold Core.setG; split <;> rfl

@[simp] theorem Core.setG_done (k : Core) (rd : Nat) (v : DWord) : (k.setG rd v).done = k.done := by
  unfold Core.setG; split <;> rfl

@[simp] theorem Core.setG_v (k : Core) (rd : Nat) (v : DWord) : (k.setG rd v).v = k.v := by
  unfold Core.setG; split <;> rfl

@[simp] theorem Core.setG_m (k : Core) (rd : Nat) (v : DWord) : (k.setG rd v).m = k.m := by
  unfold Core.setG; split <;> rfl

@[simp] theorem Core.setG_cr (k : Core) (rd : Nat) (v : DWord) : (k.setG rd v).cr = k.cr := by
  unfold Core.setG; split <;> rfl

/-! ## Retiring -/

theorem State.core_retireTo (s : State) (c : Nat) (pc : BitVec 16) :
    (s.retireTo c pc).core c = { s.core c with
      pc := pc
      done := (s.core c).done + 1 } := by
  rw [State.retireTo, State.core_congr (State.count_cores _ _ _), State.core_setCore]

theorem State.core_retireTo_ne (s : State) {c d : Nat} (pc : BitVec 16) (h : d ≠ c) :
    (s.retireTo c pc).core d = s.core d := by
  rw [State.retireTo, State.core_congr (State.count_cores _ _ _), State.core_setCore_ne _ _ h]

/-- Retiring changes the pc and the count of retired instructions only. -/
theorem State.retireTo_spec (s : State) (c : Nat) (pc : BitVec 16) : retiredTo s (s.retireTo c pc) c pc :=
  ⟨State.core_retireTo s c pc, rfl, fun _ h => State.core_retireTo_ne s pc h⟩

/-- An instruction that writes a g register and retires does that and nothing else. -/
theorem State.retireG_spec (s : State) (c rd : Nat) (v : DWord) : gWritten s (s.retireG c rd v) c rd v := by
  have hc : (s.retireG c rd v).core c = { (s.core c).setG rd v with
      pc := (s.core c).pc + 4
      done := (s.core c).done + 1 } := by
    simp [State.retireG, State.retire, State.mapCore, State.core_retireTo]
  refine ⟨fun r => ?_, by rw [hc], ?_, rfl, fun d hd => ?_⟩
  · rw [hc]; exact Core.gr_setG (s.core c) rd r v
  · rw [hc]
    conv => lhs; rw [Core.setG_frame]
  · rw [State.retireG, State.retire, State.core_retireTo_ne _ _ hd, State.mapCore, State.core_setCore_ne _ _ hd]

/-! ## Running an instruction -/

/-- A core that does not run leaves the state as it is. -/
theorem State.runInsn_stopped {s : State} {c : Nat} (h : s.coreRuns c = false) (u : Use) (kind : RaKind) (bad chk : Option Trap)
    (wait oldest : Bool) (act : State) : s.runInsn c u kind bad chk wait oldest act = s := by
  simp [State.runInsn, h]

/-- The instruction of a ready core that meets no trap and has room acts. -/
theorem State.runInsn_ready {s : State} {c : Nat} {u : Use} (h : s.ready c u) (kind : RaKind) (oldest : Bool) (act : State) :
    s.runInsn c u kind none none false oldest act = act := by
  obtain ⟨h1, h2, h3, h4, h5, h6, h7⟩ := h
  simp [State.runInsn, h1, h2, h3, h4, h5, h6, h7]

/-- The instruction of a ready core that a condition turns away takes the trap. -/
theorem State.runInsn_bad {s : State} {c : Nat} {u v : Use} (h : s.ready c u) (kind : RaKind) (x : Trap) (chk : Option Trap)
    (wait oldest : Bool) (act : State) : s.runInsn c v kind (some x) chk wait oldest act = s.trap c x := by
  obtain ⟨h1, h2, h3, h4, _, _, h7⟩ := h
  simp [State.runInsn, State.trapWhenOldest, h1, h2, h3, h4, h7]

/-- The instruction of a ready core whose operands turn it away takes the trap. -/
theorem State.runInsn_chk {s : State} {c : Nat} {u : Use} (h : s.ready c u) (kind : RaKind) (x : Trap)
    (wait oldest : Bool) (act : State) : s.runInsn c u kind none (some x) wait oldest act = s.trap c x := by
  obtain ⟨h1, h2, h3, h4, h5, _, h7⟩ := h
  simp [State.runInsn, State.trapWhenOldest, h1, h2, h3, h4, h5, h7]

/-- The checkers leave the state they found with the counter of free values advanced, or a report of R412 more. -/
theorem State.checkers_cases (s : State) (P : State → Prop) (h0 : P s.fresh)
    (h : ∀ code i r, foundFault code i = some r → P (s.fresh.found r)) : P s.checkers := by
  unfold State.checkers
  split
  · exact h _ _ _ ‹_›
  · exact h0

end Sys2Proof.Machine
end

