-- ==== Sys2Proof/Laws/Decode.lean ====
section
/-!
SUPPORT. The fields of an instruction word as the encoders write it, format by format (R86, R88, R128, R140): what decode of encode
rests on.
-/

namespace Sys2Proof

theorem extract_left {n m : Nat} (x : BitVec n) (y : BitVec m) (start len : Nat) (h : m ≤ start) :
    (x ++ y).extractLsb' start len = x.extractLsb' (start - m) len := by
  ext i hi
  simp only [BitVec.getElem_extractLsb', BitVec.getLsbD_append]
  rw [if_neg (by omega)]
  congr 1
  omega

theorem extract_right {n m : Nat} (x : BitVec n) (y : BitVec m) (start len : Nat) (h : start + len ≤ m) :
    (x ++ y).extractLsb' start len = y.extractLsb' start len := by
  ext i hi
  simp only [BitVec.getElem_extractLsb', BitVec.getLsbD_append]
  rw [if_pos (by omega)]

theorem extract_all {n : Nat} (x : BitVec n) : x.extractLsb' 0 n = x := by simp

theorem bit_of_extract {n : Nat} {x : BitVec n} {k : Nat} {b : Bool} (h : x.extractLsb' k 1 = BitVec.ofBool b) :
    x.getLsbD k = b := by
  have h0 : (x.extractLsb' k 1).getLsbD 0 = b := by rw [h]; simp
  simpa using h0

/-! ### encReg -/

@[simp] theorem wordOp_encReg (op : BitVec 6) (a b d : BitVec 5) (f : BitVec 11) :
    wordOp (encReg op a b d f) = op :=
  (extract_left (n := 21) (m := 11) _ _ _ _ (by decide)).trans ((extract_left (n := 16) (m := 5) _ _ _ _ (by decide)).trans
    ((extract_left (n := 11) (m := 5) _ _ _ _ (by decide)).trans ((extract_left (n := 6) (m := 5) _ _ _ _ (by decide)).trans
    (extract_all _))))

@[simp] theorem wordA_encReg (op : BitVec 6) (a b d : BitVec 5) (f : BitVec 11) :
    wordA (encReg op a b d f) = a :=
  (extract_left (n := 21) (m := 11) _ _ _ _ (by decide)).trans ((extract_left (n := 16) (m := 5) _ _ _ _ (by decide)).trans
    ((extract_left (n := 11) (m := 5) _ _ _ _ (by decide)).trans ((extract_right (n := 6) (m := 5) _ _ _ _ (by decide)).trans
    (extract_all _))))

@[simp] theorem wordB_encReg (op : BitVec 6) (a b d : BitVec 5) (f : BitVec 11) :
    wordB (encReg op a b d f) = b :=
  (extract_left (n := 21) (m := 11) _ _ _ _ (by decide)).trans ((extract_left (n := 16) (m := 5) _ _ _ _ (by decide)).trans
    ((extract_right (n := 11) (m := 5) _ _ _ _ (by decide)).trans (extract_all _)))

@[simp] theorem wordC_encReg (op : BitVec 6) (a b d : BitVec 5) (f : BitVec 11) :
    wordC (encReg op a b d f) = d :=
  (extract_left (n := 21) (m := 11) _ _ _ _ (by decide)).trans ((extract_right (n := 16) (m := 5) _ _ _ _ (by decide)).trans
    (extract_all _))

@[simp] theorem bits0_encReg (op : BitVec 6) (a b d : BitVec 5) (f : BitVec 11) :
    (encReg op a b d f).extractLsb' 0 11 = f :=
  (extract_right (n := 21) (m := 11) _ _ _ _ (by decide)).trans (extract_all _)

/-! ### encImm -/

@[simp] theorem wordOp_encImm (op : BitVec 6) (a b : BitVec 5) (i : BitVec 16) :
    wordOp (encImm op a b i) = op :=
  (extract_left (n := 16) (m := 16) _ _ _ _ (by decide)).trans ((extract_left (n := 11) (m := 5) _ _ _ _ (by decide)).trans
    ((extract_left (n := 6) (m := 5) _ _ _ _ (by decide)).trans (extract_all _)))

@[simp] theorem wordA_encImm (op : BitVec 6) (a b : BitVec 5) (i : BitVec 16) :
    wordA (encImm op a b i) = a :=
  (extract_left (n := 16) (m := 16) _ _ _ _ (by decide)).trans ((extract_left (n := 11) (m := 5) _ _ _ _ (by decide)).trans
    ((extract_right (n := 6) (m := 5) _ _ _ _ (by decide)).trans (extract_all _)))

@[simp] theorem wordB_encImm (op : BitVec 6) (a b : BitVec 5) (i : BitVec 16) :
    wordB (encImm op a b i) = b :=
  (extract_left (n := 16) (m := 16) _ _ _ _ (by decide)).trans ((extract_right (n := 11) (m := 5) _ _ _ _ (by decide)).trans
    (extract_all _))

@[simp] theorem wordImm_encImm (op : BitVec 6) (a b : BitVec 5) (i : BitVec 16) :
    wordImm (encImm op a b i) = i :=
  (extract_right (n := 16) (m := 16) _ _ _ _ (by decide)).trans (extract_all _)

/-! ### encJmp -/

@[simp] theorem wordOp_encJmp (op : BitVec 6) (i : BitVec 26) :
    wordOp (encJmp op i) = op :=
  (extract_left (n := 6) (m := 26) _ _ _ _ (by decide)).trans (extract_all _)

@[simp] theorem bits0_encJmp (op : BitVec 6) (i : BitVec 26) :
    (encJmp op i).extractLsb' 0 26 = i :=
  (extract_right (n := 6) (m := 26) _ _ _ _ (by decide)).trans (extract_all _)

/-! ### encShift -/

@[simp] theorem wordOp_encShift (a b : BitVec 5) (hi : BitVec 8) (k : BitVec 2) (sh : BitVec 6) :
    wordOp (encShift a b hi k sh) = 0x07#6 :=
  (extract_left (n := 26) (m := 6) _ _ _ _ (by decide)).trans ((extract_left (n := 24) (m := 2) _ _ _ _ (by decide)).trans
    ((extract_left (n := 16) (m := 8) _ _ _ _ (by decide)).trans ((extract_left (n := 11) (m := 5) _ _ _ _ (by decide)).trans
    ((extract_left (n := 6) (m := 5) _ _ _ _ (by decide)).trans (extract_all _)))))

@[simp] theorem wordA_encShift (a b : BitVec 5) (hi : BitVec 8) (k : BitVec 2) (sh : BitVec 6) :
    wordA (encShift a b hi k sh) = a :=
  (extract_left (n := 26) (m := 6) _ _ _ _ (by decide)).trans ((extract_left (n := 24) (m := 2) _ _ _ _ (by decide)).trans
    ((extract_left (n := 16) (m := 8) _ _ _ _ (by decide)).trans ((extract_left (n := 11) (m := 5) _ _ _ _ (by decide)).trans
    ((extract_right (n := 6) (m := 5) _ _ _ _ (by decide)).trans (extract_all _)))))

@[simp] theorem wordB_encShift (a b : BitVec 5) (hi : BitVec 8) (k : BitVec 2) (sh : BitVec 6) :
    wordB (encShift a b hi k sh) = b :=
  (extract_left (n := 26) (m := 6) _ _ _ _ (by decide)).trans ((extract_left (n := 24) (m := 2) _ _ _ _ (by decide)).trans
    ((extract_left (n := 16) (m := 8) _ _ _ _ (by decide)).trans ((extract_right (n := 11) (m := 5) _ _ _ _ (by decide)).trans
    (extract_all _))))

@[simp] theorem bits8_encShift (a b : BitVec 5) (hi : BitVec 8) (k : BitVec 2) (sh : BitVec 6) :
    (encShift a b hi k sh).extractLsb' 8 8 = hi :=
  (extract_left (n := 26) (m := 6) _ _ _ _ (by decide)).trans ((extract_left (n := 24) (m := 2) _ _ _ _ (by decide)).trans
    ((extract_right (n := 16) (m := 8) _ _ _ _ (by decide)).trans (extract_all _)))

@[simp] theorem bits6_encShift (a b : BitVec 5) (hi : BitVec 8) (k : BitVec 2) (sh : BitVec 6) :
    (encShift a b hi k sh).extractLsb' 6 2 = k :=
  (extract_left (n := 26) (m := 6) _ _ _ _ (by decide)).trans ((extract_right (n := 24) (m := 2) _ _ _ _ (by decide)).trans
    (extract_all _))

@[simp] theorem bits0_encShift (a b : BitVec 5) (hi : BitVec 8) (k : BitVec 2) (sh : BitVec 6) :
    (encShift a b hi k sh).extractLsb' 0 6 = sh :=
  (extract_right (n := 26) (m := 6) _ _ _ _ (by decide)).trans (extract_all _)

/-! ### encSys -/

@[simp] theorem wordOp_encSys (a b : BitVec 5) (sub : BitVec 4) (cr : BitVec 12) :
    wordOp (encSys a b sub cr) = 0x29#6 :=
  (extract_left (n := 20) (m := 12) _ _ _ _ (by decide)).trans ((extract_left (n := 16) (m := 4) _ _ _ _ (by decide)).trans
    ((extract_left (n := 11) (m := 5) _ _ _ _ (by decide)).trans ((extract_left (n := 6) (m := 5) _ _ _ _ (by decide)).trans
    (extract_all _))))

@[simp] theorem wordA_encSys (a b : BitVec 5) (sub : BitVec 4) (cr : BitVec 12) :
    wordA (encSys a b sub cr) = a :=
  (extract_left (n := 20) (m := 12) _ _ _ _ (by decide)).trans ((extract_left (n := 16) (m := 4) _ _ _ _ (by decide)).trans
    ((extract_left (n := 11) (m := 5) _ _ _ _ (by decide)).trans ((extract_right (n := 6) (m := 5) _ _ _ _ (by decide)).trans
    (extract_all _))))

@[simp] theorem wordB_encSys (a b : BitVec 5) (sub : BitVec 4) (cr : BitVec 12) :
    wordB (encSys a b sub cr) = b :=
  (extract_left (n := 20) (m := 12) _ _ _ _ (by decide)).trans ((extract_left (n := 16) (m := 4) _ _ _ _ (by decide)).trans
    ((extract_right (n := 11) (m := 5) _ _ _ _ (by decide)).trans (extract_all _)))

@[simp] theorem bits12_encSys (a b : BitVec 5) (sub : BitVec 4) (cr : BitVec 12) :
    (encSys a b sub cr).extractLsb' 12 4 = sub :=
  (extract_left (n := 20) (m := 12) _ _ _ _ (by decide)).trans ((extract_right (n := 16) (m := 4) _ _ _ _ (by decide)).trans
    (extract_all _))

@[simp] theorem bits0_encSys (a b : BitVec 5) (sub : BitVec 4) (cr : BitVec 12) :
    (encSys a b sub cr).extractLsb' 0 12 = cr :=
  (extract_right (n := 20) (m := 12) _ _ _ _ (by decide)).trans (extract_all _)

/-! ### encVc -/

@[simp] theorem wordOp_encVc (a b : BitVec 5) (sub : BitVec 2) (z : BitVec 5) (mode : BitVec 9) :
    wordOp (encVc a b sub z mode) = 0x30#6 :=
  (extract_left (n := 23) (m := 9) _ _ _ _ (by decide)).trans ((extract_left (n := 18) (m := 5) _ _ _ _ (by decide)).trans
    ((extract_left (n := 16) (m := 2) _ _ _ _ (by decide)).trans ((extract_left (n := 11) (m := 5) _ _ _ _ (by decide)).trans
    ((extract_left (n := 6) (m := 5) _ _ _ _ (by decide)).trans (extract_all _)))))

@[simp] theorem wordA_encVc (a b : BitVec 5) (sub : BitVec 2) (z : BitVec 5) (mode : BitVec 9) :
    wordA (encVc a b sub z mode) = a :=
  (extract_left (n := 23) (m := 9) _ _ _ _ (by decide)).trans ((extract_left (n := 18) (m := 5) _ _ _ _ (by decide)).trans
    ((extract_left (n := 16) (m := 2) _ _ _ _ (by decide)).trans ((extract_left (n := 11) (m := 5) _ _ _ _ (by decide)).trans
    ((extract_right (n := 6) (m := 5) _ _ _ _ (by decide)).trans (extract_all _)))))

@[simp] theorem wordB_encVc (a b : BitVec 5) (sub : BitVec 2) (z : BitVec 5) (mode : BitVec 9) :
    wordB (encVc a b sub z mode) = b :=
  (extract_left (n := 23) (m := 9) _ _ _ _ (by decide)).trans ((extract_left (n := 18) (m := 5) _ _ _ _ (by decide)).trans
    ((extract_left (n := 16) (m := 2) _ _ _ _ (by decide)).trans ((extract_right (n := 11) (m := 5) _ _ _ _ (by decide)).trans
    (extract_all _))))

@[simp] theorem bits14_encVc (a b : BitVec 5) (sub : BitVec 2) (z : BitVec 5) (mode : BitVec 9) :
    (encVc a b sub z mode).extractLsb' 14 2 = sub :=
  (extract_left (n := 23) (m := 9) _ _ _ _ (by decide)).trans ((extract_left (n := 18) (m := 5) _ _ _ _ (by decide)).trans
    ((extract_right (n := 16) (m := 2) _ _ _ _ (by decide)).trans (extract_all _)))

@[simp] theorem bits9_encVc (a b : BitVec 5) (sub : BitVec 2) (z : BitVec 5) (mode : BitVec 9) :
    (encVc a b sub z mode).extractLsb' 9 5 = z :=
  (extract_left (n := 23) (m := 9) _ _ _ _ (by decide)).trans ((extract_right (n := 18) (m := 5) _ _ _ _ (by decide)).trans
    (extract_all _))

@[simp] theorem bits0_encVc (a b : BitVec 5) (sub : BitVec 2) (z : BitVec 5) (mode : BitVec 9) :
    (encVc a b sub z mode).extractLsb' 0 9 = mode :=
  (extract_right (n := 23) (m := 9) _ _ _ _ (by decide)).trans (extract_all _)

/-! ### encV -/

@[simp] theorem wordOp_encV (op : BitVec 6) (a b d : BitVec 5) (men : Bool) (m : BitVec 3) (f : BitVec 7) :
    wordOp (encV op a b d men m f) = op :=
  (extract_left (n := 25) (m := 7) _ _ _ _ (by decide)).trans ((extract_left (n := 22) (m := 3) _ _ _ _ (by decide)).trans
    ((extract_left (n := 21) (m := 1) _ _ _ _ (by decide)).trans ((extract_left (n := 16) (m := 5) _ _ _ _ (by decide)).trans
    ((extract_left (n := 11) (m := 5) _ _ _ _ (by decide)).trans ((extract_left (n := 6) (m := 5) _ _ _ _ (by decide)).trans
    (extract_all _))))))

@[simp] theorem wordA_encV (op : BitVec 6) (a b d : BitVec 5) (men : Bool) (m : BitVec 3) (f : BitVec 7) :
    wordA (encV op a b d men m f) = a :=
  (extract_left (n := 25) (m := 7) _ _ _ _ (by decide)).trans ((extract_left (n := 22) (m := 3) _ _ _ _ (by decide)).trans
    ((extract_left (n := 21) (m := 1) _ _ _ _ (by decide)).trans ((extract_left (n := 16) (m := 5) _ _ _ _ (by decide)).trans
    ((extract_left (n := 11) (m := 5) _ _ _ _ (by decide)).trans ((extract_right (n := 6) (m := 5) _ _ _ _ (by decide)).trans
    (extract_all _))))))

@[simp] theorem wordB_encV (op : BitVec 6) (a b d : BitVec 5) (men : Bool) (m : BitVec 3) (f : BitVec 7) :
    wordB (encV op a b d men m f) = b :=
  (extract_left (n := 25) (m := 7) _ _ _ _ (by decide)).trans ((extract_left (n := 22) (m := 3) _ _ _ _ (by decide)).trans
    ((extract_left (n := 21) (m := 1) _ _ _ _ (by decide)).trans ((extract_left (n := 16) (m := 5) _ _ _ _ (by decide)).trans
    ((extract_right (n := 11) (m := 5) _ _ _ _ (by decide)).trans (extract_all _)))))

@[simp] theorem wordC_encV (op : BitVec 6) (a b d : BitVec 5) (men : Bool) (m : BitVec 3) (f : BitVec 7) :
    wordC (encV op a b d men m f) = d :=
  (extract_left (n := 25) (m := 7) _ _ _ _ (by decide)).trans ((extract_left (n := 22) (m := 3) _ _ _ _ (by decide)).trans
    ((extract_left (n := 21) (m := 1) _ _ _ _ (by decide)).trans ((extract_right (n := 16) (m := 5) _ _ _ _ (by decide)).trans
    (extract_all _))))

@[simp] theorem men_encV (op : BitVec 6) (a b d : BitVec 5) (men : Bool) (m : BitVec 3) (f : BitVec 7) :
    wordMen (encV op a b d men m f) = men :=
  bit_of_extract ((extract_left (n := 25) (m := 7) _ _ _ _ (by decide)).trans ((extract_left (n := 22) (m := 3) _ _ _ _ (by
    decide)).trans ((extract_right (n := 21) (m := 1) _ _ _ _ (by decide)).trans (extract_all _))))

@[simp] theorem wordM_encV (op : BitVec 6) (a b d : BitVec 5) (men : Bool) (m : BitVec 3) (f : BitVec 7) :
    wordM (encV op a b d men m f) = m :=
  (extract_left (n := 25) (m := 7) _ _ _ _ (by decide)).trans ((extract_right (n := 22) (m := 3) _ _ _ _ (by decide)).trans
    (extract_all _))

@[simp] theorem bits0_encV (op : BitVec 6) (a b d : BitVec 5) (men : Bool) (m : BitVec 3) (f : BitVec 7) :
    (encV op a b d men m f).extractLsb' 0 7 = f :=
  (extract_right (n := 25) (m := 7) _ _ _ _ (by decide)).trans (extract_all _)

/-! ### encVi -/

@[simp] theorem wordOp_encVi (a b : BitVec 5) (imm : BitVec 8) (men : Bool) (m : BitVec 3) (f : BitVec 4) :
    wordOp (encVi a b imm men m f) = 0x33#6 :=
  (extract_left (n := 28) (m := 4) _ _ _ _ (by decide)).trans ((extract_left (n := 25) (m := 3) _ _ _ _ (by decide)).trans
    ((extract_left (n := 24) (m := 1) _ _ _ _ (by decide)).trans ((extract_left (n := 16) (m := 8) _ _ _ _ (by decide)).trans
    ((extract_left (n := 11) (m := 5) _ _ _ _ (by decide)).trans ((extract_left (n := 6) (m := 5) _ _ _ _ (by decide)).trans
    (extract_all _))))))

@[simp] theorem wordA_encVi (a b : BitVec 5) (imm : BitVec 8) (men : Bool) (m : BitVec 3) (f : BitVec 4) :
    wordA (encVi a b imm men m f) = a :=
  (extract_left (n := 28) (m := 4) _ _ _ _ (by decide)).trans ((extract_left (n := 25) (m := 3) _ _ _ _ (by decide)).trans
    ((extract_left (n := 24) (m := 1) _ _ _ _ (by decide)).trans ((extract_left (n := 16) (m := 8) _ _ _ _ (by decide)).trans
    ((extract_left (n := 11) (m := 5) _ _ _ _ (by decide)).trans ((extract_right (n := 6) (m := 5) _ _ _ _ (by decide)).trans
    (extract_all _))))))

@[simp] theorem wordB_encVi (a b : BitVec 5) (imm : BitVec 8) (men : Bool) (m : BitVec 3) (f : BitVec 4) :
    wordB (encVi a b imm men m f) = b :=
  (extract_left (n := 28) (m := 4) _ _ _ _ (by decide)).trans ((extract_left (n := 25) (m := 3) _ _ _ _ (by decide)).trans
    ((extract_left (n := 24) (m := 1) _ _ _ _ (by decide)).trans ((extract_left (n := 16) (m := 8) _ _ _ _ (by decide)).trans
    ((extract_right (n := 11) (m := 5) _ _ _ _ (by decide)).trans (extract_all _)))))

@[simp] theorem bits8_encVi (a b : BitVec 5) (imm : BitVec 8) (men : Bool) (m : BitVec 3) (f : BitVec 4) :
    (encVi a b imm men m f).extractLsb' 8 8 = imm :=
  (extract_left (n := 28) (m := 4) _ _ _ _ (by decide)).trans ((extract_left (n := 25) (m := 3) _ _ _ _ (by decide)).trans
    ((extract_left (n := 24) (m := 1) _ _ _ _ (by decide)).trans ((extract_right (n := 16) (m := 8) _ _ _ _ (by decide)).trans
    (extract_all _))))

@[simp] theorem men_encVi (a b : BitVec 5) (imm : BitVec 8) (men : Bool) (m : BitVec 3) (f : BitVec 4) :
    (encVi a b imm men m f).getLsbD 7 = men :=
  bit_of_extract ((extract_left (n := 28) (m := 4) _ _ _ _ (by decide)).trans ((extract_left (n := 25) (m := 3) _ _ _ _ (by
    decide)).trans ((extract_right (n := 24) (m := 1) _ _ _ _ (by decide)).trans (extract_all _))))

@[simp] theorem bits4_encVi (a b : BitVec 5) (imm : BitVec 8) (men : Bool) (m : BitVec 3) (f : BitVec 4) :
    (encVi a b imm men m f).extractLsb' 4 3 = m :=
  (extract_left (n := 28) (m := 4) _ _ _ _ (by decide)).trans ((extract_right (n := 25) (m := 3) _ _ _ _ (by decide)).trans
    (extract_all _))

@[simp] theorem bits0_encVi (a b : BitVec 5) (imm : BitVec 8) (men : Bool) (m : BitVec 3) (f : BitVec 4) :
    (encVi a b imm men m f).extractLsb' 0 4 = f :=
  (extract_right (n := 28) (m := 4) _ _ _ _ (by decide)).trans (extract_all _)

/-! ### encVl -/

@[simp] theorem wordOp_encVl (op : BitVec 6) (a b d : BitVec 5) (men : Bool) (m : BitVec 3) (mode : BitVec 2) (z : BitVec 5) :
    wordOp (encVl op a b d men m mode z) = op :=
  (extract_left (n := 27) (m := 5) _ _ _ _ (by decide)).trans ((extract_left (n := 25) (m := 2) _ _ _ _ (by decide)).trans
    ((extract_left (n := 22) (m := 3) _ _ _ _ (by decide)).trans ((extract_left (n := 21) (m := 1) _ _ _ _ (by decide)).trans
    ((extract_left (n := 16) (m := 5) _ _ _ _ (by decide)).trans ((extract_left (n := 11) (m := 5) _ _ _ _ (by decide)).trans
    ((extract_left (n := 6) (m := 5) _ _ _ _ (by decide)).trans (extract_all _)))))))

@[simp] theorem wordA_encVl (op : BitVec 6) (a b d : BitVec 5) (men : Bool) (m : BitVec 3) (mode : BitVec 2) (z : BitVec 5) :
    wordA (encVl op a b d men m mode z) = a :=
  (extract_left (n := 27) (m := 5) _ _ _ _ (by decide)).trans ((extract_left (n := 25) (m := 2) _ _ _ _ (by decide)).trans
    ((extract_left (n := 22) (m := 3) _ _ _ _ (by decide)).trans ((extract_left (n := 21) (m := 1) _ _ _ _ (by decide)).trans
    ((extract_left (n := 16) (m := 5) _ _ _ _ (by decide)).trans ((extract_left (n := 11) (m := 5) _ _ _ _ (by decide)).trans
    ((extract_right (n := 6) (m := 5) _ _ _ _ (by decide)).trans (extract_all _)))))))

@[simp] theorem wordB_encVl (op : BitVec 6) (a b d : BitVec 5) (men : Bool) (m : BitVec 3) (mode : BitVec 2) (z : BitVec 5) :
    wordB (encVl op a b d men m mode z) = b :=
  (extract_left (n := 27) (m := 5) _ _ _ _ (by decide)).trans ((extract_left (n := 25) (m := 2) _ _ _ _ (by decide)).trans
    ((extract_left (n := 22) (m := 3) _ _ _ _ (by decide)).trans ((extract_left (n := 21) (m := 1) _ _ _ _ (by decide)).trans
    ((extract_left (n := 16) (m := 5) _ _ _ _ (by decide)).trans ((extract_right (n := 11) (m := 5) _ _ _ _ (by decide)).trans
    (extract_all _))))))

@[simp] theorem wordC_encVl (op : BitVec 6) (a b d : BitVec 5) (men : Bool) (m : BitVec 3) (mode : BitVec 2) (z : BitVec 5) :
    wordC (encVl op a b d men m mode z) = d :=
  (extract_left (n := 27) (m := 5) _ _ _ _ (by decide)).trans ((extract_left (n := 25) (m := 2) _ _ _ _ (by decide)).trans
    ((extract_left (n := 22) (m := 3) _ _ _ _ (by decide)).trans ((extract_left (n := 21) (m := 1) _ _ _ _ (by decide)).trans
    ((extract_right (n := 16) (m := 5) _ _ _ _ (by decide)).trans (extract_all _)))))

@[simp] theorem men_encVl (op : BitVec 6) (a b d : BitVec 5) (men : Bool) (m : BitVec 3) (mode : BitVec 2) (z : BitVec 5) :
    wordMen (encVl op a b d men m mode z) = men :=
  bit_of_extract ((extract_left (n := 27) (m := 5) _ _ _ _ (by decide)).trans ((extract_left (n := 25) (m := 2) _ _ _ _ (by
    decide)).trans ((extract_left (n := 22) (m := 3) _ _ _ _ (by decide)).trans ((extract_right (n := 21) (m := 1) _ _ _ _ (by
    decide)).trans (extract_all _)))))

@[simp] theorem wordM_encVl (op : BitVec 6) (a b d : BitVec 5) (men : Bool) (m : BitVec 3) (mode : BitVec 2) (z : BitVec 5) :
    wordM (encVl op a b d men m mode z) = m :=
  (extract_left (n := 27) (m := 5) _ _ _ _ (by decide)).trans ((extract_left (n := 25) (m := 2) _ _ _ _ (by decide)).trans
    ((extract_right (n := 22) (m := 3) _ _ _ _ (by decide)).trans (extract_all _)))

@[simp] theorem bits5_encVl (op : BitVec 6) (a b d : BitVec 5) (men : Bool) (m : BitVec 3) (mode : BitVec 2) (z : BitVec 5) :
    (encVl op a b d men m mode z).extractLsb' 5 2 = mode :=
  (extract_left (n := 27) (m := 5) _ _ _ _ (by decide)).trans ((extract_right (n := 25) (m := 2) _ _ _ _ (by decide)).trans
    (extract_all _))

@[simp] theorem bits0_encVl (op : BitVec 6) (a b d : BitVec 5) (men : Bool) (m : BitVec 3) (mode : BitVec 2) (z : BitVec 5) :
    (encVl op a b d men m mode z).extractLsb' 0 5 = z :=
  (extract_right (n := 27) (m := 5) _ _ _ _ (by decide)).trans (extract_all _)

/-! ### encFu -/

@[simp] theorem wordOp_encFu (op : BitVec 6) (a b d : BitVec 5) (param : BitVec 7) (f : BitVec 4) :
    wordOp (encFu op a b d param f) = op :=
  (extract_left (n := 28) (m := 4) _ _ _ _ (by decide)).trans ((extract_left (n := 21) (m := 7) _ _ _ _ (by decide)).trans
    ((extract_left (n := 16) (m := 5) _ _ _ _ (by decide)).trans ((extract_left (n := 11) (m := 5) _ _ _ _ (by decide)).trans
    ((extract_left (n := 6) (m := 5) _ _ _ _ (by decide)).trans (extract_all _)))))

@[simp] theorem wordA_encFu (op : BitVec 6) (a b d : BitVec 5) (param : BitVec 7) (f : BitVec 4) :
    wordA (encFu op a b d param f) = a :=
  (extract_left (n := 28) (m := 4) _ _ _ _ (by decide)).trans ((extract_left (n := 21) (m := 7) _ _ _ _ (by decide)).trans
    ((extract_left (n := 16) (m := 5) _ _ _ _ (by decide)).trans ((extract_left (n := 11) (m := 5) _ _ _ _ (by decide)).trans
    ((extract_right (n := 6) (m := 5) _ _ _ _ (by decide)).trans (extract_all _)))))

@[simp] theorem wordB_encFu (op : BitVec 6) (a b d : BitVec 5) (param : BitVec 7) (f : BitVec 4) :
    wordB (encFu op a b d param f) = b :=
  (extract_left (n := 28) (m := 4) _ _ _ _ (by decide)).trans ((extract_left (n := 21) (m := 7) _ _ _ _ (by decide)).trans
    ((extract_left (n := 16) (m := 5) _ _ _ _ (by decide)).trans ((extract_right (n := 11) (m := 5) _ _ _ _ (by decide)).trans
    (extract_all _))))

@[simp] theorem wordC_encFu (op : BitVec 6) (a b d : BitVec 5) (param : BitVec 7) (f : BitVec 4) :
    wordC (encFu op a b d param f) = d :=
  (extract_left (n := 28) (m := 4) _ _ _ _ (by decide)).trans ((extract_left (n := 21) (m := 7) _ _ _ _ (by decide)).trans
    ((extract_right (n := 16) (m := 5) _ _ _ _ (by decide)).trans (extract_all _)))

@[simp] theorem wordParam_encFu (op : BitVec 6) (a b d : BitVec 5) (param : BitVec 7) (f : BitVec 4) :
    wordParam (encFu op a b d param f) = param :=
  (extract_left (n := 28) (m := 4) _ _ _ _ (by decide)).trans ((extract_right (n := 21) (m := 7) _ _ _ _ (by decide)).trans
    (extract_all _))

@[simp] theorem bits0_encFu (op : BitVec 6) (a b d : BitVec 5) (param : BitVec 7) (f : BitVec 4) :
    (encFu op a b d param f).extractLsb' 0 4 = f :=
  (extract_right (n := 28) (m := 4) _ _ _ _ (by decide)).trans (extract_all _)

end Sys2Proof
end

