-- ==== Sys2Proof/Tests/Slice0.lean ====
section
/-!
SUPPORT. The package's own tests: ill-formed commands are refused, worked examples of the specification, single steps, and for
every statement with hypotheses a state and operands that meet them, clause by clause. Expected values are the
specification's.
-/

namespace Sys2Proof.Tests

open Sys2Proof Sys2Proof.Machine

set_option Elab.async false

/-! ## States -/

/-- The word at core 0's first pc, ADD g0, g0, g0, in instruction memory. -/
def codeMem : List Host.Cell := (List.range 4).map (fun (i : Nat) => (0x100040000 + i, (0 : Byte)))

/-- From reset, core 0 runs as `k`, with a word at pc 0. -/
def coreRun (k : Core) : State :=
  { State.reset.setHeld 0 false with
    cores := [(0, k)]
    mem := codeMem }

/-- A core in kernel mode with the given g registers and control registers. -/
def coreOf (g cr : List (Nat × DWord)) : Core :=
  { Core.reset with
    g := g
    cr := cr }

/-- A core with a VMODE and a VCOUNT, g1 = 1. -/
def coreV (vmode vcount : DWord) : Core := coreOf [(1, 1)] [(crVmode, vmode), (crVcount, vcount)]

/-- With 8 written zero bytes at the start of core 0's data memory and poison in the word after it. -/
def withData (s : State) : State := (s.writeBytes 0x100000000 [1, 2, 3, 4, 5, 6, 7, 8]).writeBytes 0x100000040 (List.replicate 64 0)

/-- Stratum 0's sieve, with core 0 running as `k`. -/
def sieveOf (k : Core) (v : Sieve) : State := { coreRun k with sieves := [(0, v)] }

/-- A sieve whose thread 7 is in a state at priority 63, queued as that state asks. -/
def oneThread (st : ThreadState) : Sieve :=
  { Sieve.reset with
    threads := [(7, { Thread.free with
      state := st
      prio := 63 })]
    ready := if st = .ready then [7] else [] }

/-- Stratum 0's sieve with tokens 5 in a state. -/
def oneTok (x : Tok) : Sieve := { oneThread .running with toks := [(5, x)] }

/-- Queue 5, open and empty. -/
def withQueue : State := State.reset.setQ 5 { QState.reset with
  base := 0x300000000
  meta_ := 0x300001000
  en := true }

/-- 64 written bytes at the start of core 0's data memory. -/
def withGranule : State := { State.reset with mem := (List.range 64).map (fun (i : Nat) => (0x100000000 + i, BitVec.ofNat 8 i)) }

/-- Whether a command at reset stops because its unit does not exist. -/
def faults (i : Instr) : Bool :=
  match exec i State.reset with
  | .fault .noSuchUnit => true
  | _ => false

/-! ## Well-formedness: a term that each check refuses, with the stop that its meaning gives -/

theorem test_wf_channel : (Instr.start 0 64).wf = false ∧ (Instr.start 9 0).wf = false ∧ (Instr.start 8 127).wf = true ∧
    faults (.start 0 64) = true := by decide
theorem test_wf_port : (Instr.txtsPop 33).wf = false ∧ (Instr.txtsPop 32).wf = true ∧
    faults (.txtsPop 33) = true := by decide
theorem test_wf_lane : (Instr.inject 41).wf = false ∧ (Instr.inject 40).wf = true ∧
    faults (.inject 41) = true := by decide
theorem test_wf_engine : (Instr.headerWritten 0 22).wf = false ∧ (Instr.headerWritten 0 48).wf = false ∧ (Instr.headerWritten 0 47).wf = true ∧
    faults (.headerWritten 0 22) = true := by decide
theorem test_wf_die : (Instr.droop 5).wf = false ∧ (Instr.droop 4).wf = true ∧ faults (.droop 5) = true := by decide
theorem test_wf_stop : (Instr.close 13 true).wf = false ∧ (Instr.close 146 true).wf = false ∧ (Instr.close 145 true).wf = true ∧
    faults (.close 13 true) = true := by decide
theorem test_wf_pin : (Instr.pinLimit 42).wf = false ∧ (Instr.pinLimit 41).wf = true ∧
    faults (.pinLimit 42) = true := by decide
theorem test_wf_clock : (Instr.clockLost 7).wf = false ∧ (Instr.clockLost 6).wf = true ∧
    faults (.clockLost 7) = true := by decide
theorem test_wf_result : (Instr.fusedResult 0 3).wf = false ∧ (Instr.fusedResult 0 2).wf = true ∧
    faults (.fusedResult 0 3) = true := by decide
theorem test_wf_word : (Instr.clr 112 0).wf = false ∧ (Instr.clr 111 0).wf = true ∧
    faults (.clr 112 0) = true := by decide
theorem test_wf_counter : (Instr.perfCntLo 0 1184).wf = false ∧ (Instr.perfCntLo 0 1183).wf = true ∧
    faults (.perfCntLo 0 1184) = true := by decide

/-- Words written out from the formats of R86 to R88, R128 to R132, R140, R145, R148 and R217, and what they are. -/
theorem test_decode_words :
    decodeCore 0 0 = .insn (.add 0 0 0 0) ∧ decodeCore 0 0x00611000 = .insn (.add 0 3 1 2) ∧
    decodeCore 7 0x1CA600BF = .insn (.srai 7 5 6 0 63) ∧ decodeCore 0 0x4BE1FFFE = .insn (.lh 0 31 1 0xFFFE) ∧
    decodeCore 0 0x6C430008 = .insn (.sd 0 2 3 8) ∧ decodeCore 0 0x70221804 = .insn (.maxd 0 1 2 3) ∧
    decodeCore 0 0x9422FFFF = .insn (.bgeu 0 1 2 0xFFFF) ∧ decodeCore 0 0xA40410C3 = .insn (.mtcr 0 0 4 0xC3) := by decide +kernel
theorem test_decode_vector_words :
    decodeCore 0 0xC0A44115 = .insn (.vsetclaim 0 5 4 0 0x115) ∧ decodeCore 0 0xC5095580 = .insn (.vadd 0 false 8 9 10 true 3) ∧
    decodeCore 0 0xCC22FFD0 = .insn (.vaddi 0 1 2 0xFF true 5) ∧ decodeCore 0 0xD0853040 = .insn (.vld 0 4 5 6 false 0 2 0) ∧
    decodeCore 0 0xD8221808 = .insn (.vext 0 1 2 3 false 0) := by decide +kernel
theorem test_decode_unit_words :
    decodeCore 0 0xE40403F4 = .insn (.lcrcg 0 0 4 0 63) ∧ decodeCore 0 0xE8244013 = .insn (.demap 0 3 1 4 8 1) ∧
    decodeCore 0 0xB0221801 = .insn (.frelease 0 1 2 3) ∧ decodeCore 0 0xA8430000 = .insn (.tdispatch 0 2 3 0) ∧
    decodeCore 0 0xBC000000 = .illegal ∧ decodeCore 0 0xDC000000 = .illegal ∧ decodeCore 0 0xE000000E = .noFunction 0 := by decide +kernel

theorem test_no_word_spells_a_command : decodeTableWord 32 0xC0A44115 = none ∧ State.reset.withFetchWord 32 5 = State.reset := by decide

/-! ## Worked examples of the specification -/

/-- 00: core 173 lies in druse 21, stratum 5; its window. -/
theorem test_example_core173 : druseOf 173 = 21 ∧ stratumOf 173 = 5 ∧ coreWin 173 = 0x105680000 := by decide
/-- 00: an earlier stamp across the wrap. -/
theorem test_example_stamps : stampEarlier 0xFFFFFF00 0x00000100 = true ∧ stampEarlier 0x00000100 0xFFFFFF00 = false := by decide
/-- 05: rounding a Q15 product at a tie, in the four modes. -/
theorem test_example_rounding :
    (List.range 4).map (fun rm => (elMul false ⟨true, rm, 3⟩ 0x4000 3).1) = [2, 2, 1, 1] ∧
    (List.range 4).map (fun rm => (elMul false ⟨true, rm, 3⟩ 0xC000 3).1) = [0xFFFF, 0xFFFE, 0xFFFE, 0xFFFF] := by decide
/-- 05: a Q15 sum that leaves the range, with SAT = 1 and 0. -/
theorem test_example_saturation :
    elAdd ⟨true, 0, 3⟩ 0x6000 0x4000 = (0x7FFF, true) ∧ elAdd ⟨false, 0, 3⟩ 0x6000 0x4000 = (0xA000, false) := by decide
/-- 05: VWMACC, VWMAC and VNARROWI of the C16 example. -/
theorem test_example_widening :
    elWmac true ⟨true, 0, 5⟩ 0x10000000 0x20004000 0xE0006000 = (0x2800000038000000, false) ∧
    elWmac false ⟨true, 0, 5⟩ 0x10000000 0x20004000 0xE0006000 = (0x0800000048000000, false) ∧
    elNarrow ⟨true, 0, 5⟩ 16 0x0800000048000000 = (0x08004800, false) := by decide
/-- 06: the CRC6 of 1, 0, 1, 1. -/
theorem test_example_crc6 : crcFeed 5 0 4 0b1101 = 0x2D := by decide
/-- 06: the LLRs of one 16-QAM symbol, scale 0x4000, DSHIFT 22. -/
theorem test_example_demap :
    demapComp 1 8 22 0 0x4000 2 9216 = [36, 45] ∧ demapComp 1 8 22 0 0x4000 2 (-24576) = [-96, -15] := by decide
/-- 10: the threshold of a queue with DLOG = 18. -/
theorem test_example_threshold : { QState.reset with dlog := 18 }.scale 40000 = 160000 := by decide
/-- 11: the default route of NI 0x49 to stratum 1, and the way back. -/
theorem test_example_route : defaultRoute 0x49 0x07 = 0x3D ∧ defaultRoute 0x07 0x49 = 0x35 := by decide
/-- 13: the exponent of the compressed PRB, and two of its mantissas. -/
theorem test_example_prb : prbExp 9 ([5000, 1000, -17, -4096] ++ List.replicate 20 0) = 5 ∧
    rnd 5000 5 0 = 156 ∧ rnd (-17) 5 0 = -1 := by decide
/-- 17: FUSE 312 with the measured and the stored USER. -/
theorem test_example_calibration :
    let s := (State.reset.put (F.CAL_ITEM_FUSE_FUSE 53) 312)
    (s.put (F.CAL_ITEM_USER_USER 53) 15).calEff 53 = 327 ∧ (s.put (F.CAL_ITEM_USER_USER 53) 800).calEff 53 = 1023 ∧
      R.CAL_ITEM_USER 53 % 2 ^ 16 = 0x1354 := by
  decide +kernel
/-- 19: the dispatches of sieve 2 and where the host reads them. -/
theorem test_example_counter : sieveEvent 2 0 = 224 ∧ R.PERF_CNT_LO 224 = 0x0D010700 ∧ R.PERF_CNT_LO 49 = 0x0D010188 := by decide

/-! ## One step -/

/-- What a command leaves, where it answers a next state. -/
def after (i : Instr) (s : State) : State :=
  match exec i s with
  | .next t => t
  | _ => s

theorem test_add_wraps :
    ((after (.add 0 3 1 2) (coreRun (coreOf [(1, 0xFFFFFFFFFFFFFFFF), (2, 2)] []))).core 0).gr 3 = 1 := by decide +kernel
theorem test_add_g0_discarded :
    ((after (.add 0 0 1 2) (coreRun (coreOf [(1, 5), (2, 2)] []))).core 0).gr 0 = 0 := by decide +kernel
theorem test_sraw_sign :
    ((after (.sraw 0 1 1 2) (coreRun (coreOf [(1, 0x80000000), (2, 36)] []))).core 0).gr 1 = 0xFFFFFFFFF8000000 := by decide +kernel
theorem test_clz_zero : ((after (.clz 0 3 1 0) (coreRun Core.reset)).core 0).gr 3 = 64 := by decide +kernel
theorem test_lh_sign :
    ((after (.lh 0 3 1 2) (withData (coreRun (coreOf [(1, 0x10000003E)] [])))).core 0).gr 3 = 0 ∧
    ((after (.lb 0 3 1 1) ((coreRun (coreOf [(1, 0x100000000)] [])).writeBytes 0x100000000 [1, 0x80, 0, 0, 0, 0, 0, 0])).core 0).gr 3 =
      0xFFFFFFFFFFFFFF80 := by decide +kernel
theorem test_sh_little_endian :
    (after (.sh 0 2 1 0) (coreRun (coreOf [(1, 0x100000010), (2, 0x1234)] []))).mem = [(0x100000010, 0x34), (0x100000011, 0x12)] ++ codeMem := by
  decide +kernel
theorem test_blt_signed :
    ((after (.blt 0 1 2 3) (coreRun (coreOf [(1, 0xFFFFFFFFFFFFFFFF), (2, 1)] []))).core 0).pc = 12 ∧
    ((after (.bltu 0 1 2 3) (coreRun (coreOf [(1, 0xFFFFFFFFFFFFFFFF), (2, 1)] []))).core 0).pc = 4 := by decide +kernel
theorem test_ecall_from_task :
    let k := (after (.twait 0 0 1 0) (coreRun (coreOf [] [(crTstat, 1)]))).core 0
    k.crv crTcause = 0x214 ∧ k.crv crTstat = 6 ∧ k.pc = 0x40 ∧ k.crv crTpc = 4 := by decide +kernel
theorem test_vsetclaim :
    let k := (after (.vsetclaim 0 5 4 0 0x115) (coreRun (coreOf [(4, 1000)] []))).core 0
    k.gr 5 = 256 ∧ k.vcount = 256 ∧ k.villOn = false := by decide +kernel
theorem test_commit :
    (((after (.commit 0) (sieveOf Core.reset (oneTok ⟨.open_, false, 0, 0, false⟩))).sieve 0).tok 5).state = .open_ ∧
    (((after (.commit 0) ((sieveOf Core.reset (oneTok ⟨.open_, false, 0, 0, false⟩)).put (F.SIEVE_TOK_SEL_INDEX 0) 5)).sieve 0).tok 5).state =
      .committed := by decide +kernel
theorem test_doorbell :
    ((after (.doorbellProduce 0x130 5 16) withQueue).q 5).toAdmit = 16 ∧
    (after (.doorbellProduce 0x130 5 17) withQueue).on F.QMGR_STAT_DB_FULL = true := by decide +kernel
theorem test_reset_key : after (.globalRst 0x5A5B) withGranule = withGranule := rfl
theorem test_rollback_at_reset : after (.advance 0xA501) State.reset = State.reset := rfl

/-! ## Witnesses -/

theorem test_wit_StepRunsFrontCommand :
    { State.reset with pending := [.warmReset, .close 5 true] }.pending = .warmReset :: [.close 5 true] ∧ State.reset.pending = [] := by
  decide

theorem test_wit_StepKeepsCanonical : State.reset.canon = true ∧ step State.reset = .next (idleStep State.reset) := by
  constructor <;> rfl

theorem test_wit_Scalar :
    let s := coreRun (coreOf [(1, 5), (2, 7)] [])
    s.ready 0 (useG [1, 2] [3]) ∧ s.ready 0 (useG [31, 0] [0]) ∧ s.ready 0 (useG [1] [3]) ∧ s.ready 0 (useG [] []) := by
  unfold State.ready; decide

theorem test_wit_Loads :
    let s := withData (coreRun (coreOf [(1, 0x100000000), (2, 0x200000000)] []))
    (∀ e ∈ loadOps, s.ready 0 (useG [1] [3]) ∧ ownData 0 (((s.core 0).ea 1 0).toNat) = true ∧ ((s.core 0).ea 1 0).toNat % e.2.1 = 0 ∧
      s.badIn ((s.core 0).ea 1 0).toNat e.2.1 = []) ∧
    (∀ e ∈ loadOps, s.ready 0 (useG [2] [0]) ∧ ownData 0 (((s.core 0).ea 2 0x7FF8).toNat) = false ∧
      eaOk s 0 ((s.core 0).ea 2 0x7FF8) e.2.1 ∧ (s.core 0).pf = [] ∧ s.loadsOut 0 < 16 ∧ s.idsFree 0 1 = true) ∧
    (let u := (coreRun (coreOf [(1, 0xD0124F8)] [(crTstat, 1)])).put F.PERF_ACCESS_USER 1;
      u.ready 0 (useG [1] [3]) ∧ (u.core 0).task = true ∧ u.counterOpen ((u.core 0).ea 1 0) = true ∧ ((u.core 0).ea 1 0).toNat % 8 = 0 ∧
        inRegSpace ((u.core 0).ea 1 0) = true) := by
  unfold State.ready eaOk; decide

theorem test_wit_StoresAndAtomics :
    let s := coreRun (coreOf [(1, 0x10003FFF8), (2, 0x200000000)] [])
    (∀ e ∈ storeOps, s.ready 0 (useG [1, 2] []) ∧ ownData 0 (((s.core 0).ea 1 0).toNat) = true ∧ ((s.core 0).ea 1 0).toNat % e.2 = 0 ∧
      ownData 0 (((s.core 0).ea 1 8).toNat) = false ∧ eaOk s 0 ((s.core 0).ea 1 8) e.2) ∧ s.idsFree 0 1 = true ∧
    s.ready 0 (useG [2, 1] [0]) ∧ atomicTarget ((s.core 0).gr 2).toNat = true ∧ ((s.core 0).gr 2).toNat % 8 = 0 ∧ s.storesOut 0 < 16 ∧
    nodeOfAddr ((s.core 0).gr 2).toNat = some 1 ∧ (s.route (nodeDruse 0) 1).getLsbD 0 = true ∧
    nodeOfAddr 0x4000000000 = none := by
  unfold State.ready eaOk; decide

theorem test_wit_BranchesAndJumps :
    let s := coreRun (coreOf [(1, 0x100), (2, 0x102)] [])
    s.ready 0 (useG [] []) ∧ s.ready 0 (useG [1, 2] []) ∧ s.ready 0 (useG [] [31]) ∧ s.ready 0 (useG [2] [3]) ∧
      (((s.core 0).gr 1 + (0 : BitVec 16).signExtend 64).truncate 16).toNat % 4 = 0 ∧
      (((s.core 0).gr 2 + (0 : BitVec 16).signExtend 64).truncate 16).toNat % 4 ≠ 0 ∧ ((s.core 0).crv crTstat).getLsbD 2 = false := by
  unfold State.ready; decide

theorem test_wit_SystemAndReturn :
    let s := coreRun (coreOf [(1, 5)] [])
    let b := coreRun (coreOf [] [(crCfg, 0x807)])
    s.ready 0 (useG [] [0]) ∧ s.ready 0 (useG [1] []) ∧ (s.core 0).task = false ∧ crAllocated 0 = true ∧ crAllocated 0xC3 = true ∧
      (s.core 0).fres = [] ∧ s.fenceWaits 0 = false ∧ ((s.core 0).crv crCfg).getLsbD 3 = true ∧
      ((s.core 0).crv crTstat).getLsbD 2 = false ∧ b.ready 0 (useG [] []) ∧ ((b.core 0).crv crCfg).getLsbD 3 = false := by
  unfold State.ready; decide

theorem test_wit_WordsAndInstructions :
    let s := coreRun (coreOf [] [])
    let p := coreRun (coreOf [(1, 0x40), (2, 2 ^ 40), (4, 0x10001)] [(crTstat, 1)])
    (encodeCore (.jal 0 0x2000000) = some 0x9E000000 ∧ coreOfInsn (.jal 0 0x2000000) = some 0 ∧ decodeCore 0 0xDC000000 = .illegal ∧
      decodeCore 0 0xE000000E = .noFunction 0 ∧ (s.core 0).ra = none ∧
      encodeCore (.add 0 0 0 0) = some (s.insnWord 0 (s.core 0).pc)) ∧
    (p.ready 0 (useG [1] [3]) ∧ (p.core 0).task = true ∧ inRegSpace ((p.core 0).ea 1 0) = true ∧ p.counterOpen ((p.core 0).ea 1 0) = false ∧
      2 ^ 40 ≤ ((p.core 0).ea 2 0).toNat ∧ ((s.core 0).ea 0 1).toNat % 2 ≠ 0 ∧ (s.core 0).task = false) := by
  unfold State.ready; decide +kernel

theorem test_wit_InstructionRefusals :
    let s := coreRun (coreOf [] [])
    let t := coreRun (coreOf [] [(crTstat, 1)])
    let v := coreRun (coreOf [] [(crVresume, 1)])
    let d : State := { s with imgDis := [(0, 2)] }
    let f := coreRun (coreOf [] [(crVmode, 0x2000)])
    s.ready 0 (useG [1] [3]) ∧ s.ready 0 (useG [] []) ∧ ((s.core 0).crv crTstat).getLsbD 2 = false ∧
      (t.ready 0 (useG [] []) ∧ (t.core 0).task = true ∧ ((t.core 0).crv crTstat).getLsbD 2 = false ∧ crAllocated crFuCtrl = true ∧
        crVector crFuCtrl = false) ∧
      (s.coreRuns 0 = true ∧ (s.core 0).ra = none ∧ (s.core 0).deferred = [] ∧ s.fetchBad 0 = false ∧ s.awaits 0 = false ∧
        (s.core 0).villOn = false) ∧
      (v.coreRuns 0 = true ∧ v.fetchBad 0 = false ∧ ¬(v.core 0).vresume = 0) ∧
      ((mapGet d.imgDis 0 0).getLsbD 1 = true ∧ d.ready 0 (useG [1] [])) ∧
      (((f.core 0).fuDis).testBit 1 = true ∧ f.ready 0 (useG [1] [])) := by
  unfold State.ready; decide

theorem test_wit_InstructionRefusals_double :
    let s := coreRun (coreOf [] [(crTstat, 4)])
    s.ready 0 (useG [1] [3]) ∧ ((s.core 0).crv crTstat).getLsbD 2 = true ∧ s.reports.length < 64 := by
  unfold State.ready; decide

/-- A prefetch of core 0 that is outstanding. -/
def pfReq : Req := ⟨0, 0, 0, 0, 0x200000000, 64, .prefetch⟩

theorem test_wit_PrefetchBuffer :
    ({ State.reset with outst := [pfReq] } : State).matchReq Packet.zero = some pfReq ∧ pfReq.kind = .prefetch ∧
      Packet.zero.resp = 0 ∧ { Packet.zero with resp := 2 }.resp ≠ 0 ∧ (State.reset.core 0).ra = none := by
  decide

/-! ## Vectors -/

/-- VMODE of an element type at SPAN 1. -/
def vm (e : Nat) : DWord := BitVec.ofNat 64 e

theorem test_wit_VectorClaim :
    let s := coreRun (coreV (vm 1) 0)
    s.ready 0 (useG [1] [3]) ∧ (s.core 0).villOn = false ∧ (coreRun (coreV (0x800000000000000F) 0)).ready 0 (useG [1] [0]) := by
  unfold State.ready; decide

theorem test_wit_VectorTwoOperands :
    ∀ e ∈ vvOps, let s := coreRun (coreV (vm (if e.2.1 0 then 0 else 5)) 3)
      s.ready 0 ⟨[1], [], [2, 3], [1]⟩ ∧ (s.core 0).vLegal true 7 ∧ e.2.1 (s.core 0).etype = true ∧ aligned 1 (s.core 0).span := by
  unfold State.ready Core.vLegal aligned; decide

theorem test_wit_VectorWidening :
    ∀ e ∈ vwOps, let s := coreRun (coreV (vm (if e.2.1 0 then 0 else 5)) 3)
      s.ready 0 ⟨[1], [], [4, 5], [2, 3]⟩ ∧ (s.core 0).vLegal false 0 ∧ e.2.1 (s.core 0).etype = true ∧
      aligned 2 (2 * (s.core 0).span) ∧ aligned 5 (s.core 0).span ∧ apart 2 2 4 1 ∧ apart 2 2 5 1 := by
  unfold State.ready Core.vLegal aligned apart; decide

theorem test_wit_VectorOneOperand :
    (∀ e ∈ vuOps, let s := coreRun (coreV (vm (if e.2.1 0 then 0 else 5)) 3)
      s.ready 0 ⟨[], [], [2], [1]⟩ ∧ (s.core 0).vLegal false 0 ∧ e.2.1 (s.core 0).etype = true ∧ aligned 2 (s.core 0).span) ∧
    (let s := coreRun (coreV (vm 7) 64);
      s.ready 0 ⟨[], [], [2], [1]⟩ ∧ (s.core 0).vLegal false 0 ∧ cvtOk (s.core 0).etype (3 : BitVec 5).toNat = true) ∧
    (let s := coreRun (coreV (vm 1) 256);
      s.ready 0 ⟨[1], [], [2, 3], [1]⟩ ∧ (s.core 0).vLegal false 0 ∧ tyNarrow (s.core 0).etype = true ∧ aligned 2 (2 * (s.core 0).span) ∧
        aligned 1 (s.core 0).span ∧ apart 1 1 2 2 ∧ (63 : BitVec 8).toNat < 64) := by
  unfold State.ready Core.vLegal aligned apart; decide

theorem test_wit_VectorImmediates :
    let s := coreRun (coreV (vm 4) 128)
    s.ready 0 ⟨[1], [], [2], [31]⟩ ∧ (s.core 0).vLegal false 0 ∧ tyRC (s.core 0).etype = true ∧ aligned 31 (s.core 0).span := by
  unfold State.ready Core.vLegal aligned; decide

theorem test_wit_VectorMasks :
    ∀ e ∈ vcOps, let s := coreRun (coreV (vm 8) 128)
      s.ready 0 ⟨[], [], [2, 3], []⟩ ∧ s.ready 0 (useG [] [0]) ∧ (s.core 0).vLegal false 0 ∧ e.2.1 (s.core 0).etype = true ∧
        aligned 3 (s.core 0).span ∧ (7 : BitVec 5).toNat < 8 := by
  unfold State.ready Core.vLegal aligned; decide

theorem test_wit_VectorReductions :
    ∀ e ∈ vrOps, let s := coreRun (coreV (vm 0) 512)
      s.ready 0 ⟨[1, 2], [3], [2, 3], [1]⟩ ∧ (s.core 0).vLegal false 0 ∧ e.2.1 (s.core 0).etype = true ∧ aligned 1 (s.core 0).span := by
  unfold State.ready Core.vLegal aligned; decide

theorem test_wit_VectorMoves :
    let s := coreRun (coreV (vm 3) 256)
    s.ready 0 ⟨[1], [], [2, 3], [1]⟩ ∧ (s.core 0).vLegal true 0 ∧ aligned 1 (s.core 0).span ∧ apart 1 1 2 1 ∧ apart 1 1 3 1 := by
  unfold State.ready Core.vLegal aligned apart; decide

/-- Core 0 with base g1 in its own data memory. -/
def coreMem (base : DWord) : Core := coreOf [(1, base), (2, 8)] [(crVmode, 1), (crVcount, 4)]

theorem test_wit_VectorLoading :
    let s := withData (coreRun (coreMem 0x100000000))
    let u := { s with badPar := [0x100000003] }
    (∀ mode ∈ [(0 : BitVec 2), 3], s.ready 0 ((s.core 0).vMemUse 3 1 0 mode true) ∧ (s.core 0).vMemBad 3 0 false 0 mode 0 true = false ∧
      s.vldWaits 0 1 0 false 0 mode.toNat = false ∧
      ∀ e ∈ (s.core 0).vPieces mode.toNat 1 0 false 0, s.vLoadStop 0 (if mode = 3 then 1 else (s.core 0).eb) e.2 = none) ∧
    u.ready 0 ((u.core 0).vMemUse 3 1 0 0 true) ∧ (u.core 0).vMemBad 3 0 false 0 0 0 true = false ∧ u.vldWaits 0 1 0 false 0 0 = false ∧ ((u.core 0).crv crTstat).getLsbD 2 = false ∧
    (u.core 0).vPieces 0 1 0 false 0 = [] ++ (0, 0x100000000) :: [(1, 0x100000002), (2, 0x100000004), (3, 0x100000006)] ∧
    (u.vLoadStop 0 (u.core 0).eb 0x100000000).isSome = true := by
  unfold State.ready; decide +kernel

theorem test_wit_VectorStores :
    let s := coreRun (coreMem 0x10003FFF8)
    ∀ mode ∈ [(0 : BitVec 2), 3], s.ready 0 ((s.core 0).vMemUse 3 1 0 mode false) ∧ (s.core 0).vMemBad 3 0 false 0 mode 0 false = false ∧
      s.storesOut 0 = 0 ∧ ∀ e ∈ (s.core 0).vPieces mode.toNat 1 0 false 0, ownData 0 e.2.toNat = true ∧
        e.2.toNat % (if mode = 3 then 1 else (s.core 0).eb) = 0 := by
  unfold State.ready; decide +kernel

/-! ## Fused units -/

theorem test_wit_FusedCorrelation :
    let s := coreRun (coreOf [] [(crCorr, 0x0040_0100)])
    let u := coreRun (coreOf [] [(crCorr, 0x4003_0000_0000)])
    s.fuBad 0 0 false false = none ∧ aligned 28 4 ∧ aligned 30 2 ∧ s.ready 0 ⟨[], [], [28, 29, 30, 31, 0, 1], [3]⟩ ∧
      s.ready 0 ⟨[1], [3], [28, 29, 30, 31], [3]⟩ ∧ (s.core 0).corrN = 256 ∧ (s.core 0).corrL = 64 ∧ (s.core 0).corrK ≤ 47 ∧
      1 ≤ (u.core 0).corrSf ∧ (u.core 0).corrSf ≤ 6 ∧ (u.core 0).corrM = 64 ∧ 64 * 2 ^ (u.core 0).corrSf ≤ 512 ∧
      u.fuBad 0 0 false false = none ∧ u.ready 0 ⟨[1], [], [28, 29, 30, 31], [3]⟩ := by
  unfold State.ready aligned; decide

theorem test_wit_FusedShiftRegisters :
    let s := coreRun (coreOf [(2, 4096)] [])
    s.fuBad 0 1 false false = none ∧ s.ready 0 (useG [1] []) ∧ s.ready 0 (useG [] [0]) ∧ s.ready 0 ⟨[2], [], [31], []⟩ ∧
      s.ready 0 ⟨[], [], [], [31]⟩ ∧ (s.core 0).poly < 6 ∧ ((s.core 0).gr 2).toNat = 4096 ∧ (63 : BitVec 7).toNat < 64 := by
  unfold State.ready; decide

theorem test_wit_FusedDemapper :
    let s := coreRun (coreOf [] [(crVcount, 128), (crDemap, 47)])
    s.fuBad 0 2 false false = none ∧ aligned 4 4 ∧ aligned 2 2 ∧ s.ready 0 ⟨[], [], [4, 5, 6, 7, 2, 3], [1]⟩ ∧ (s.core 0).vcount = 128 ∧
      128 * (demapQ 3 * 4) ≤ 4096 ∧ (s.core 0).crBits crDemap 5 0 ≤ 47 := by
  unfold State.ready aligned; decide

/-- An ILV core: 4 elements from g1 to g2, E in g3. -/
def coreIlv : Core := coreOf [(1, 0x100000000), (2, 0x10003FFFC), (3, 4)] [(crIlvRm, 0x400000000), (crIlvQm, 2)]

theorem test_wit_FusedInterleaver :
    let s := coreRun coreIlv
    s.fuBad 0 3 false false = none ∧ s.ready 0 (useG [2, 1, 3] []) ∧ (s.core 0).ilv.length < 2 ∧
      ∀ f ∈ [0, 1, 2, 3], ((s.core 0).ilvOp f true 2 1 3).badRange 0 = false := by
  unfold State.ready; decide

theorem test_wit_FusedResults :
    let o := coreIlv.ilvOp 0 true 2 1 3
    let s := (withData (coreRun { coreIlv with
      ilv := [o]
      fres := [⟨1, false, 3, 5, true⟩] })).writeBytes 0x10003FFFC [0, 0, 0, 0]
    (s.core 0).ilv = [o] ∧ s.storesOut 0 = 0 ∧ o.badRange 0 = false ∧ o.llr = true ∧ o.func ≤ 3 ∧
      (∀ i, i < 4 → s.ilvFail 0 (o.src + i) = none) ∧ o.sizes = (4, 4) ∧
      (∀ i, i < 4 → s.ilvFail 0 (o.dst + i) = none ∧ s.vResp 0 (o.dst + i) true = rDone) ∧
      ((s.core 0).fres.find? (fun r => r.unit = 1)).isSome = true ∧ (s.core 0).fres.find? (fun r => r.unit = 0) = none := by
  decide +kernel

/-! ## Sieves -/

/-- Core 0 whose current thread is 7. -/
def coreThread (g : List (Nat × DWord)) : Core := coreOf g [(crSctxThread, 0x8007)]

theorem test_wit_SieveThreads :
    let s := sieveOf (coreOf [(1, 7), (2, 63)] []) (oneThread .ready)
    let e := sieveOf (coreOf [(1, 7), (2, 64)] []) Sieve.reset
    s.ready 0 (useG [1, 2] [3]) ∧ s.ready 0 (useG [1] [3]) ∧ (s.core 0).task = false ∧ (s.sieve 0).asking = [] ∧
      ((s.serveAll 0).sieve 0).best 0 = some 7 ∧ ((e.serveAll 0).sieve 0).best 0 = none ∧
      ((s.core 0).gr 1).toNat < 4096 ∧ ((s.core 0).gr 2).toNat < 64 ∧ s.curSquashed 0 = false ∧ (s.sieve 0).freeSlot = some 0 ∧
      ((s.sieve 0).thread 7).state ≠ .free ∧ (e.sieve 0).best 0 = none ∧ ((e.core 0).gr 1).getLsbD 0 = true ∧
      ((e.core 0).gr 3).getLsbD 0 = false ∧ e.ready 0 (useG [3] [3]) ∧ 64 ≤ ((e.core 0).gr 2).toNat := by
  unfold State.ready; decide +kernel

theorem test_wit_SieveServices :
    let s := sieveOf (coreThread [(1, 0xFFFF)]) { oneThread .running with pend := [0xFFFF] }
    let t := coreRun (coreOf [] [(crTstat, 1)])
    s.ready 0 (useG [1, 2] []) ∧ s.ready 0 (useG [1] []) ∧ s.ready 0 (useG [] []) ∧ (s.core 0).task = false ∧ s.current 0 = some 7 ∧
      s.curSquashed 0 = false ∧ ((s.core 0).gr 1).toNat ∈ (s.sieve 0).pend ∧ ((s.core 0).gr 2).toNat ∉ (s.sieve 0).pend ∧
      s.ready 0 (useG [2] []) ∧ (t.core 0).task = true ∧ ((t.core 0).crv crTstat).getLsbD 2 = false ∧ t.ready 0 (useG [1] []) := by
  unfold State.ready; decide

/-- A sieve with flow 16383 enabled and one item in it. -/
def oneFlow (st : ItemState) : Sieve :=
  { Sieve.reset with flows := [(16383, ⟨5, true, 1, 0xFFFF, [⟨st, 0, none, 9, none⟩], false⟩)] }

theorem test_wit_SieveFlows :
    let s := sieveOf (coreOf [(1, 16383), (2, 0xFFFF3FFF), (3, 5)] []) (oneFlow .admitted)
    let r := sieveOf (coreOf [(2, 0xFFFF3FFF)] []) (oneFlow .void)
    s.ctlErr = [] ∧ s.ready 0 (useG [1, 3] [3]) ∧ s.ready 0 (useG [2] [3]) ∧ ((s.sieve 0).flow 16383).en = true ∧
      ((s.sieve 0).flow 16383).items.length < 1024 ∧ (s.sieve 0).itemCount < 65536 ∧ s.curSquashed 0 = false ∧
      ((s.sieve 0).flow 5).en = false ∧ ((s.core 0).gr 2).toNat < 2 ^ 32 ∧ ((s.core 0).gr 2).toNat / 2 ^ 14 % 4 = 0 ∧
      (((s.sieve 0).flow 16383).items[((s.sieve 0).flow 16383).index 0xFFFF]?).isSome = true ∧
      r.ready 0 (useG [2, 3] [3]) ∧ r.ready 0 (useG [2] [3]) ∧
      (∀ x, ((r.sieve 0).flow 16383).items[((r.sieve 0).flow 16383).index 0xFFFF]? = some x → x.state ≠ .admitted) := by
  unfold State.ready
  refine ⟨by decide, by decide, by decide, by decide, by decide, by decide, by decide, by decide, by decide, by decide, by decide,
    by decide, by decide, ?_⟩
  intro x h; cases h; decide

theorem test_wit_SieveTokens :
    let s := sieveOf (coreThread [(1, 0x8005)]) (oneTok ⟨.open_, false, 0, 0, false⟩)
    let t := sieveOf (coreOf [(1, 5)] []) (oneTok ⟨.committed, true, 0, 22, false⟩)
    s.ctlErr = [] ∧ s.ready 0 (useG [] [3]) ∧ s.ready 0 (useG [1] [3]) ∧ (s.sieve 0).freeTok = some 0 ∧
      s.closedOnWay true (nodeOfInit 0) (nodeStratum 0) = false ∧ ((s.sieve 0).tok 5).state = .open_ ∧ s.current 0 = some 7 ∧
      ((s.core 0).gr 1).getLsbD 15 = true ∧ s.tokView 0 5 = .open_ ∧
      t.ready 0 (useG [1] [3]) ∧ ((t.sieve 0).tok 5).state = .committed ∧ ((t.sieve 0).tok 5).settled = true ∧ t.current 0 = none := by
  unfold State.ready; decide +kernel

theorem test_wit_ContextBlocks :
    let s := { coreRun (coreOf [(1, 0x10003FEC0)] []) with
      mem := (List.range 320).map (fun (i : Nat) => (0x10003FEC0 + i, (0 : Byte))) ++ codeMem }
    s.ready 0 (useG [1] []) ∧ (s.core 0).task = false ∧ ((s.core 0).gr 1).toNat % 64 = 0 ∧ coreWin 0 ≤ ((s.core 0).gr 1).toNat ∧
      ((s.core 0).gr 1).toNat + 320 ≤ coreWin 0 + 0x40000 ∧ (s.core 0).fres = [] ∧ s.storesOut 0 = 0 ∧
      s.badIn ((s.core 0).gr 1).toNat 320 = [] := by
  unfold State.ready; decide +kernel

theorem test_wit_SieveCommands_tokens :
    let o := sieveOf Core.reset { oneFlow .admitted with toks := [(0, ⟨.open_, false, 0, 0, false⟩)] }
    let c := sieveOf Core.reset { oneFlow .admitted with toks := [(0, ⟨.committed, true, 0, 22, false⟩)] }
    o.get (F.SIEVE_TOK_SEL_INDEX 0) = 0 ∧ c.get (F.SIEVE_TOK_SEL_INDEX 0) = 0 ∧ ((o.sieve 0).tok 0).state = .open_ ∧
      ((c.sieve 0).tok 0).state = .committed ∧ ((c.sieve 0).tok 0).settled = true ∧ ((c.sieve 0).tok 0).acks = 22 := by
  decide +kernel

theorem test_wit_SieveCommands_flows :
    let c := { withQueue with sieves := [(0, oneFlow .released)] }
    ((oneFlow .admitted).flow 16383).en = true ∧ ((oneFlow .admitted).flow 16383).age ≠ 0 ∧
      ((oneFlow .admitted).flow 16383).stalled = false ∧ ((c.sieve 0).flow 16383).en = true ∧
      c.pushOk ((c.sieve 0).flow 16383).outq = true ∧
      (0x40000 : Word).getLsbD 18 = true ∧ ((c.sieve 0).flow (c.get (F.SIEVE_FLOW_SEL_FLOW 0))).en = false ∧ (c.q 0).esize = 0 := by
  decide +kernel

theorem test_wit_SieveCommands_served :
    let a := sieveOf { Core.reset with run := .waiting } { oneThread .ready with asking := [0] }
    (a.sieve 0).asking.find? (fun c => ((a.sieve 0).best (druseOf c)).isSome && !a.held c && decide ((a.core c).run = .waiting)) = some 0 ∧
      (a.sieve 0).best (druseOf 0) = some 7 := by
  decide +kernel

/-- An idle stratum 0: gating enabled, its 64 channels paused. -/
def idleStratum : State :=
  let s := (State.reset.put (F.SIEVE_CTRL_IDLE_GATE 0) 1).put F.PWR_CTRL_IDLE_EN 1
  { s with regs := s.regs ++ (List.range 64).map (fun (ch : Nat) => (R.MOVER_CH_STAT 0 ch, (2 : Word))) }

theorem test_wit_SieveCommands_idleGate : idleStratum.mayGate 0 = true := by decide +kernel

/-! ## Registers, resets, start and management -/

theorem test_wit_RegisterCommands :
    let s := State.reset.put F.BOOT_STAT_SEALED 1
    let c := s.setStop nodeAon ⟨true, false, 0, 0⟩
    s.regReaches 0x130 R.GLOBAL_SCRATCH0 = true ∧ s.regReaches 0x130 R.GLOBAL_ID = true ∧ s.regReaches 0x130 R.MEM_STAT = true ∧
      s.regReaches 0 (R.HOST_DB_EN 31) = true ∧ c.regReaches 0x130 R.GLOBAL_SCRATCH0 = false ∧ stopOk 0 = true ∧ stopOk 145 = true ∧
      s.sealed = true ∧ State.reset.sealed = false ∧ (∀ n, n < 112 → s.regReaches 0x130 (R.MEM_INIT_DONE n) = true ∧
        s.regReaches 0x130 (R.MEM_INIT_CLR n) = true) ∧ s.regReaches 0 R.QMGR_Q_SEL = true ∧ s.regReaches 0 R.CAL_CTRL = true ∧
      s.regReaches 0 0x30 = true ∧ s.fencedStop (nodeDruse 31) = false ∧
      ({ s with macros := [(256, { MacroSt.reset with fenced := true })] } : State).fencedStop (nodeDruse 8) = true := by
  decide +kernel

theorem test_wit_ResetScopes : (0 : Word).truncate 16 ≠ 0x5A5A#16 := by decide

/-- A header of an image of 1,024 bytes with one section, SEAL. -/
def imgHead : List Byte :=
  toBytes 4 0x4B524442 ++ toBytes 2 1 ++ toBytes 2 256 ++ toBytes 4 1024 ++ toBytes 4 0 ++ toBytes 2 0x2816 ++ toBytes 2 0 ++
    toBytes 2 1 ++ List.replicate 234 0

/-- That image: header, section table, nothing more that a check reads. -/
def img1 : List Byte := imgHead ++ [15] ++ List.replicate 767 0

/-- The device in a working phase of the start. -/
def inPhase (n : Nat) : State := { State.reset with boot := { State.reset.boot with work := n } }

theorem test_wit_StartSequence :
    (inPhase 1).boot.work = 1 ∧ (inPhase 2).boot.work = 2 ∧ (inPhase 2).ctlFenced = false ∧ (inPhase 3).boot.work = 3 ∧
      (inPhase 3).boot.warm = false ∧ hdrReason img1 ((inPhase 3).reg R.GLOBAL_STEP).toNat = 0 ∧ (inPhase 3).get F.BOOT_STAT_COPY = 0 ∧
      sigReason img1 (inPhase 3).fuse = 4 ∧
      ([] : List Byte).length < 256 ∧ tableFault img1 = none ∧ (sects img1).length = 1 ∧ (sectAt img1 0).arg = 0 ∧ (sectAt img1 0).len = 0 ∧
      (inPhase 4).boot.cores = [] ∧ (inPhase 4).on F.BOOT_FW_READY_READY = false ∧ (inPhase 7).boot.work = 7 := by
  decide +kernel

theorem test_wit_StartSequence_pass2 :
    let s := { inPhase 4 with boot := { (inPhase 4).boot with
      digest := imgDigest img1
      hdr := toBytes 24 0 ++ [2] } }
    let p := { inPhase 4 with boot := { (inPhase 4).boot with digest := 0 :: imgDigest img1 } }
    imgDigest img1 = s.boot.digest ∧ imgDigest img1 ≠ p.boot.digest ∧ s.fwTmo ≠ 0 :=
  ⟨rfl, fun h => absurd (congrArg List.length h) (by simp), by decide +kernel⟩

theorem test_wit_StartSequence_reload :
    let s := State.reset.setPwr { State.reset.pwr with phase := .reload }
    s.pwr.phase = .reload ∧ State.reset.pwr.phase ≠ .reload := by
  decide

theorem test_wit_FusesAndFlash :
    let s := (State.reset.setBoot { State.reset.boot with hdr := toBytes 12 0 ++ [64] }).put F.BOOT_STAT_SEALED 1
    let b := (State.reset.put F.BOOT_FUSE_ADV_BUSY 1).put F.BOOT_FL_CTRL_BUSY 1
    (0xA501 : Word).getLsbD 0 = true ∧ (0xA501 : Word).extractLsb' 8 8 = 0xA5#8 ∧ s.sealed = true ∧
      s.fuse.rollback < bitsOf (fieldAt s.boot.hdr 12 4) 6 0 ∧ s.on F.BOOT_FUSE_ADV_BUSY = false ∧ b.on F.BOOT_FUSE_ADV_BUSY = true ∧
      (0x40000 : Word).getLsbD 18 = true ∧ State.reset.sealed = false ∧ State.reset.on F.BOOT_FL_CTRL_BUSY = false ∧
      (fieldAt s.boot.hdr 24 4).testBit 0 = false ∧ b.on F.BOOT_FL_CTRL_BUSY = true ∧ b.on F.BOOT_FL_CTRL_WRITE = false := by
  decide +kernel

/-- Queue 5 as the host's command queue with one command in it, `l` followed by zeros, and cell 79 in a state. -/
def withCommand (l : List Byte) (st : Nat) : State :=
  let q := (((State.reset.put F.BOOT_MGMT_Q_HOSTQ 5).put F.BOOT_MGMT_FQ_FWQ 6).put (⟨R.BOOT_CELL_STATE 4, 30, 2⟩ : RF) st).setQ 5
    { QState.reset with
      base := hubWin
      meta_ := hubWin + 0x1000
      esize := 3
      en := true
      tail := 1 }
  { q with
    mem := ((l ++ List.replicate (128 - l.length) 0).zipIdx.map (fun (e : Byte × Nat) => (hubWin + e.2, e.1))) ++
      (List.range 64).map (fun (i : Nat) => (hubWin + 0x1000 + i, (0 : Byte)))
    mgmt := { q.mgmt with
      open_ := true
      desc := [(79, [])] } }

theorem test_wit_ManagementCommands :
    let s := withCommand [2, 0, 0, 0, 79] 2
    (∃ l, s.mgmtNext = some (false, l) ∧ mcOp l = 2 ∧ mcZero l [] = true ∧ mcObj l = 79) ∧ (s.desc? 79).isSome = true ∧
      s.cellState 79 ∈ [1, 2] ∧ State.reset.mgmtNext = none := by
  refine ⟨⟨[2, 0, 0, 0, 79] ++ List.replicate 123 0, ?_⟩, ?_⟩ <;> decide +kernel

theorem test_wit_ManagementCommands_activate :
    let s := withCommand [1, 0, 0, 0, 79] 0
    ∃ l, s.mgmtNext = some (false, l) ∧ mcOp l = 1 ∧ mcZero l [] = true ∧ mcObj l = 79 ∧ s.cellState 79 ∈ [0] ∧
      ∀ d, s.desc? 79 = some d → (s.hwConsume (s.cmdQ false)).fits 79 (cdNmax d) d = true := by
  refine ⟨[1, 0, 0, 0, 79] ++ List.replicate 123 0, by decide +kernel, by decide +kernel, by decide +kernel, by decide +kernel,
    by decide +kernel, ?_⟩
  intro d h
  have : d = [] := by
    have h2 : (withCommand [1, 0, 0, 0, 79] 0).desc? 79 = some ([]) := by decide +kernel
    rw [h2] at h; exact (Option.some.inj h).symm
  subst this
  have h3 : ∀ s : State, s.mgmt.desc = [(79, [])] → s.fits 79 0 ([]) = true := by
    intro s hs
    have hc : cdCau 79 0 ([]) = 0 := by
      have : cdTech ([]) = 0 := by decide
      have h0 : cdTech [] = 0 := by decide
      simp [cdCau, h0, isMoving]
    have hl : s.dieLoad (cdHome ([])) 79 = 0 := by simp [State.dieLoad, hs]
    have hd : 0 ≤ s.dieCau (cdHome ([])) := by
      unfold State.dieCau; split
      · exact le_refl 0
      · split <;> positivity
    unfold State.fits; rw [hl, hc]; simpa using hd
  exact h3 _ (by decide +kernel)

theorem test_wit_ManagementCommands_completion :
    let k : MgmtCpl := ⟨false, [], 0⟩
    let s := { withQueue.put F.BOOT_MGMT_HCPL_HCPLQ 5 with mgmt := ⟨[], some k, false, true⟩ }
    s.mgmt.cpl = some k ∧ (s.q (s.cplQ k.fw)).esize = 0 ∧ s.pushOk (s.cplQ k.fw) = true ∧ s.pushOk 0 = false := by
  decide +kernel

/-! ## Time -/

/-- Capture unit 31 takes GPIO 0 on rising edges into timebase 7. -/
def capturing : State := ((State.reset.put (F.TIME_CAP_CFG_EN 31) 1).put (F.TIME_CAP_CFG_SRC 31) 0x10).put (F.TIME_CAP_CFG_TB 31) 7

theorem test_wit_CaptureKept :
    capturing.captures 31 0x10 true = true ∧ capturing.on (F.TIME_CAP_STAT_VALID 31) = false ∧
      capturing.on (F.TIME_CAP_EVT_EN 31) = false ∧ (capturing.put (F.TIME_CAP_STAT_VALID 31) 1).captures 31 0x10 true = true ∧
      (capturing.put (F.TIME_CAP_STAT_VALID 31) 1).on (F.TIME_CAP_STAT_VALID 31) = true := by
  decide +kernel

theorem test_wit_TimeCommands :
    let h := (State.reset.put F.TIME_REF_STAT_HOLDOVER 1).put F.TIME_PPSIN_CFG_POL_AUTO 1
    let k := State.reset.put (F.TIME_TB_CFG_TWIN_LOCK 0) 1
    let p := State.reset.put (F.TIME_TB_STAT_STEP_PENDING 7) 1
    h.on F.TIME_REF_STAT_HOLDOVER = true ∧ h.time.refGood = true ∧ (3 : Word).getLsbD 3 = false ∧
      State.reset.stepDue 7 = false ∧ p.stepDue 7 = true ∧ (State.reset.cmpLive 63).due = false ∧
      State.reset.on (F.TIME_TB_CFG_TWIN_LOCK 0) = false ∧ State.reset.on (F.TIME_TB_STAT_STEP_PENDING 7) = false ∧
      k.on (F.TIME_TB_CFG_TWIN_LOCK 0) = true ∧ p.on (F.TIME_TB_STAT_STEP_PENDING 7) = true ∧ State.reset.tbOn 0 = true ∧
      State.reset.tbOn 7 = false ∧ (State.reset.put (F.TIME_CMP_CFG_MODE 63) 3).get (F.TIME_CMP_CFG_MODE 63) = 3 ∧
      State.reset.get (F.TIME_CMP_CFG_MODE 0) = 0 ∧ h.on F.TIME_PPSIN_CFG_POL_AUTO = true ∧
      ppsValid 500000000 500000001 = true ∧ ppsValid 0 1000000000 = false := by
  decide +kernel

theorem test_wit_TimeCommands_fire :
    let l : CmpLive := { CmpLive.reset with due := true }
    let s := { State.reset.put (F.TIME_CMP_STAT_ARMED 63) 1 with time := { State.reset.time with
      cmp := [(63, l)]
      pulse := [(1021, (5, 0)), (1023, (6, 1))]
      ppsLast := [(1, true)] } }
    s.on (F.TIME_CMP_STAT_ARMED 63) = true ∧ (s.cmpLive 63).due = true ∧ (s.cmpLive 63).mode = 0 ∧
      s.on (F.TIME_CMP_CFG_EN 63) = false ∧ (s.put (F.TIME_CMP_CFG_EN 63) 1).on (F.TIME_CMP_CFG_EN 63) = true ∧
      mapFind? s.time.pulse (16 * 63 + 13) = some (5, 0) ∧ mapFind? s.time.pulse (16 * 63 + 15) = some (6, 1) ∧ mapFind? s.time.ppsLast 1 = some (decide (400000000 < 600000000)) ∧
      ppsValid 600000000 400000000 = true := by
  decide +kernel

/-! ## Queues and movers -/

theorem test_wit_QueueCommands :
    let q := withQueue.q 5
    let f := { q with tail := 16 }
    let a := { q with toAdmit := 1 }
    let c := { a with closing := true }
    withQueue.ctlErr = [] ∧ q.open_ = true ∧ (16 : BitVec 21).toNat ≤ q.room ∧ f.room < (1 : BitVec 21).toNat ∧ (16 : BitVec 21).toNat ≤ f.fill ∧
      q.fill < (1 : BitVec 21).toNat ∧ QState.reset.open_ = false ∧ q.toAdmit = 0 ∧ a.toAdmit ≠ 0 ∧ c.closing = true ∧
      q.closing = false ∧ withQueue.pushOk 5 = true ∧ QState.reset.en = false := by
  decide +kernel

/-- Queue 5 with one entry whose metadata word is written. -/
def withEntry : State :=
  { withQueue.setQ 5 { withQueue.q 5 with
      tail := 1
      toAdmit := 1 } with
    mem := (List.range 72).map (fun (i : Nat) => (0x300001000 + i, (0 : Byte))) }

theorem test_wit_QueueCommands_entries :
    let s := withEntry
    let q := s.q 5
    let m := q.metaAt q.tail
    q.toAdmit ≠ 0 ∧ m % 8 = 0 ∧ isHostAddr m = false ∧ s.exactResp 0x120 m 8 = rDone ∧ s.rangeResp 0x120 m 8 true = rDone ∧
      fieldAt (s.bytesAt m 8) 6 2 = 0 ∧ q.open_ = true ∧ q.fill ≠ 0 ∧ q.head < 2 ^ 21 ∧ q.taken = false ∧ s.headDead 5 = false := by
  decide +kernel

theorem test_wit_QueueCommands_config :
    let s := withQueue.put F.QMGR_Q_SEL_QID 0x3FFFF
    let b := s.setQ 0x3FFFF { QState.reset with
      base := hubWin
      meta_ := hubWin + 0x1000 }
    let v : Word := 0x00900000
    (0x3FFFF : BitVec 18).toNat = s.get F.QMGR_Q_SEL_QID ∧ (s.q 0x3FFFF).en = false ∧ v.getLsbD 23 = true ∧
      ((s.q 0x3FFFF).load 1 v).valid = false ∧ (b.q 0x3FFFF).en = false ∧ ((b.q 0x3FFFF).load 1 0x00900404).valid = true := by
  decide +kernel

/-- Channel 63 of complex 0 in a state, its descriptor in a phase, with a register field set. -/
def chanIn (st : Nat) (ph : ChPhase) (f : RF) (x : Nat) : State :=
  { (State.reset.put (F.MOVER_CH_STAT_STATE 0 63) st).put f x with chans := [(63, { Chan.reset with
    phase := ph
    desc := List.replicate 24 0 ++ [2] })] }

theorem test_wit_Movers :
    chanOk 0 63 = true ∧ chanOk 8 127 = true ∧ State.reset.chState 0 63 = chIdle ∧
      (∀ st ∈ [chRun, chPaused, chEwait, chStopping, chHalted], (chanIn st .none F.BOOT_STAT_COPY 0).chState 0 63 = st) ∧
      (chanIn chRun .fetch F.BOOT_STAT_COPY 0).chan 0 63 = ⟨.fetch, List.replicate 24 0 ++ [2], false, false, []⟩ := by
  decide +kernel

theorem test_wit_Movers_halted :
    let f := chanIn chHalted .held (F.MOVER_CH_ERR_HI_FETCH 0 63) 1
    let g := chanIn chHalted .held (F.MOVER_CH_CUR_HI_CUR_HI 0 63) 3
    let m := chanIn chRun (.failed true 3 0x300000000) (F.MOVER_CH_CFG_POLICY 0 63) 1
    f.on (F.MOVER_CH_ERR_HI_FETCH 0 63) = true ∧ g.on (F.MOVER_CH_ERR_HI_FETCH 0 63) = false ∧
      g.on (F.MOVER_CH_ERR_HI_FMT 0 63) = false ∧ g.chState 0 63 = chHalted ∧
      g.rangeResp (moverInit 0) (g.chCur 0 63 + 24) 4 true = rDone ∧ (m.chan 0 63).phase = .failed true 3 0x300000000 ∧
      m.on (F.MOVER_CH_CFG_POLICY 0 63) = true := by
  decide +kernel

theorem test_wit_Movers_phases :
    let e := chanIn chRun .fetch F.BOOT_STAT_COPY 0
    let m := chanIn chRun .moved F.BOOT_STAT_COPY 0
    let p := { (chanIn chRun .push (F.MOVER_CH_PACEQ_QID 0 63) 5) with queues := withQueue.queues }
    let a := chanIn chPaused .held (F.MOVER_CH_CFG_PACE 0 63) 1
    e.readResp (moverInit 0) (e.chCur 0 63) 32 ≠ rDone ∧ dQadv (m.chan 0 63).desc = false ∧ dLast (m.chan 0 63).desc = true ∧
      m.on (F.MOVER_CH_STAT_SHADOW_VALID 0 63) = false ∧ (m.chan 0 63).squash = false ∧
      p.pushOk (p.get (F.MOVER_CH_PACEQ_QID 0 63)) = true ∧ a.get (F.MOVER_CH_CFG_PACE 0 63) = 1 ∧
      (a.q (a.get (F.MOVER_CH_PACEQ_QID 0 63))).open_ = false := by
  decide +kernel

/-- Channel 63 fetches a descriptor at the start of stratum 0's buffers: 1 byte from 64 bytes on, to 0x1000. -/
def chanCopies : State :=
  { chanIn chRun .fetch (F.MOVER_CH_CUR_HI_CUR_HI 0 63) 3 with
    mem := ((toBytes 5 0x300000040 ++ toBytes 3 1 ++ toBytes 5 0x300001000 ++ List.replicate 11 0 ++ [2] ++
      List.replicate 103 0).zipIdx.map (fun (e : Byte × Nat) => (0x300000000 + e.2, e.1))) }

theorem test_wit_Movers_copy :
    let s := chanCopies
    let d := s.engBytes (s.chCur 0 63) 32
    s.readResp (moverInit 0) (s.chCur 0 63) 32 = rDone ∧ s.descFails d = false ∧ s.trackedIn (s.chCur 0 63) 32 = [] ∧
      s.trackedIn (dSrc d) (dLen d) = [] ∧ s.trackedIn (dDst d) (dLen d) = [] ∧ dTokV d = false ∧ dEwait d = false ∧
      s.get (F.MOVER_CH_CFG_PACE 0 63) = 0 ∧ isHostAddr (dSrc d) = false ∧ isHostAddr (dDst d) = false ∧
      granules (dSrc d) (dLen d) = (0x300000040, 64) ∧ dDst d = 0x300001000 ∧ dLen d = 1 ∧
      (∀ i, i < 64 → s.accessResp (moverInit 0) (0x300000040 + i) false = rDone ∧ (mapFind? s.mem (0x300000040 + i)).isSome = true) ∧
      s.badPar = [] ∧ s.accessResp (moverInit 0) 0x300001000 true = rDone := by
  decide +kernel

/-! ## Fabric and memory -/

/-- A request of core 8 to an address in die 0. -/
def request (a : BitVec 40) (len : BitVec 8) (dst : BitVec 8) : Packet :=
  { Packet.zero with
    init := 8
    addr := a
    len := len
    dst := dst
    spec := true
    data := List.replicate (len.toNat + 1) 7 }

/-- The stop of druse `d` is closed. -/
def withClosed (d : Nat) : State := State.reset.setStop (nodeDruse d) ⟨true, false, 0xFFFF, 0⟩

theorem test_wit_FabricRequests :
    let s := withGranule
    let p := request 0x100000000 7 1
    (∀ op ∈ [(0 : BitVec 4), 1, 2, 3], s.mustWait { p with op := op } = false ∧ s.closedStop { p with op := op } = none ∧
        pktParityOk { p with op := op } = true) ∧ nodeOfAddr (pktAddr p) = some p.dst.toNat ∧
      isMemAddr (pktAddr p) = true ∧ isHostAddr (pktAddr p) = false ∧ s.trackedFrom p 0 = none ∧ p.hperr = 0 ∧ p.sbe = 0 ∧ p.dbe = 0 ∧
      ({ p with hperr := 1 } : Packet).hperr ≠ 0 ∧ nodeOfAddr (pktAddr p) ≠ some ({ p with dst := 2 } : Packet).dst.toNat ∧
      pktParityOk { p with
        dst := 2
        op := 0 } = true ∧ s.mustWait { p with
        dst := 2
        op := 0 } = false ∧
      (let q : Packet := { request 0x100000038 7 1 with dbe := 0x80 }
       q.dbe = 1#32 <<< (pktAddr q % 256 / 8) ∧ s.closedStop { q with op := 1 } = none ∧ s.windowResp (pktAddr q) true = rDone ∧
         s.mustWait { q with op := 1 } = false ∧ q.data.length = pktLen q) ∧
      s.windowResp (pktAddr p) false = rDone ∧ s.windowResp (pktAddr p) true = rDone ∧ p.spec = true ∧
      p.poison = 0 ∧ p.data.length = pktLen p ∧ atomHome (pktAddr p) = true ∧ s.badIn (pktAddr p) 8 = [] := by
  decide +kernel

theorem test_wit_FabricRequests_closed :
    let s := withClosed 0
    let p := request 0x100000000 7 1
    (∀ op ∈ [(0 : BitVec 4), 2], s.mustWait { p with op := op } = false ∧ pktParityOk { p with op := op } = true ∧
        s.closedStop { p with op := op } = some 1) ∧
      ({ s with flight := [{ p with op := 1 }, { p with op := 0 }] } : State).mustWait { p with op := 0 } = true ∧
      ({ s with flight := [{ p with op := 0 }, { p with op := 1 }] } : State).mustWait { p with op := 1 } = true ∧
      pktParityOk { p with op := 1 } = true := by
  decide +kernel

theorem test_wit_FabricRequests_register :
    let s := State.reset
    let p := request (BitVec.ofNat 40 R.GLOBAL_SCRATCH0) 3 (BitVec.ofNat 8 nodeAon)
    pktAddr p = R.GLOBAL_SCRATCH0 ∧ pktLen p = 4 ∧ nodeOfAddr (pktAddr p) = some p.dst.toNat ∧
      p.hperr = 0 ∧ p.pperr = 0 ∧
      (∀ op ∈ [(0 : BitVec 4), 1], s.closedStop { p with op := op } = none ∧ s.mustWait { p with op := op } = false) := by
  decide +kernel

theorem test_wit_InstructionMemoryGuard :
    let s := coreRun Core.reset
    let p := request 0x10004FFF8 7 1
    tgtOf (pktAddr p) = .core 0 0x4FFF8 ∧ nodeOfAddr (pktAddr p) = some p.dst.toNat ∧ s.trackedFrom p 0 = none ∧ p.hperr = 0 ∧
      p.dbe = 0 ∧ s.coreLive 0 = true ∧
      (∀ op ∈ [(0 : BitVec 4), 1, 2, 3], s.mustWait { p with op := op } = false ∧ s.closedStop { p with op := op } = none) ∧
      0x4FFF8 + p.data.length ≤ 0x50000 := by
  decide +kernel

/-- Core 0's only request is outstanding. -/
def waitsFor (k : ReqKind) : State :=
  { coreRun { Core.reset with pend := [(31, 0)] } with outst := [⟨0, 0, 0, 0, 0x200000000, 8, k⟩] }

theorem test_wit_FabricAnswers :
    let p := { Packet.zero with dst := 1 }
    p.hperr = 0 ∧ p.pperr = 0 ∧ p.sbe = 0 ∧ p.dbe = 0 ∧ (waitsFor .other).idWait = [] ∧
    (waitsFor .other).drainedStop { p with op := 9 } = none ∧ (waitsFor .other).drainedStop { p with op := 10 } = none ∧
    (let s := waitsFor (.load 31 8 false);
      s.mustWait { p with op := 4 } = false ∧ (∀ r, s.matchReq { p with op := 4 } = some r → pktRespFor { p with op := 4 } r = 0) ∧
      s.drainedStop { p with op := 4 } = none ∧ (s.matchReq { p with op := 4 }).isSome = true ∧ p.resp = 0 ∧
      mapFind? (s.core 0).pend 31 = some 0 ∧ s.snaps = []) ∧
    (let s := waitsFor .store;
      s.mustWait { p with op := 5 } = false ∧ s.drainedStop { p with op := 5 } = none ∧ (s.matchReq { p with op := 5 }).isSome = true ∧ (s.findReq p.init p.txn).isSome = true ∧
      { p with resp := 3 }.resp ≠ 0 ∧ s.matchReq { p with txn := 1 } = none ∧ s.drainedStop { p with op := 5, txn := 1 } = none) ∧
    (waitsFor (.notice 5 0 true)).findReq p.init p.txn = some ⟨0, 0, 0, 0, 0x200000000, 8, .notice 5 0 true⟩ ∧
    (waitsFor .other).findReq p.init p.txn = some ⟨0, 0, 0, 0, 0x200000000, 8, .other⟩ := by
  decide +kernel

theorem test_wit_FabricAnswers_events :
    let p := { Packet.zero with
      dst := 5
      channel := 63
      eventId := 9 }
    let k := { Packet.zero with
      op := 8
      dst := BitVec.ofNat 8 (nodeSpine 4)
      channel := 21
      state := 3 }
    let c := State.reset.setStop 5 ⟨true, false, 0, 0xFFFF⟩
    State.reset.closedStop { p with op := 6 } = none ∧ State.reset.closedStop { p with op := 7 } = none ∧ stratumOfNode 5 = some 0 ∧ p.tokV = false ∧ (State.reset.sieve 0).waitq = [] ∧
      p.eventId.toNat ∉ (State.reset.sieve 0).pend ∧ p.channel.toNat < 64 ∧ State.reset.chState 0 63 ≠ chEwait ∧
      State.reset.get (F.MOVER_CH_STAT_EMARKS 0 63) < 255 ∧ c.closedStop { p with op := 6 } = some 5 ∧
      c.closedStop { p with op := 7 } = some 5 ∧ ({ State.reset with flight := [k] } : State).closedStop k = none ∧ 2 ≤ k.state.toNat ∧ k.channel = 21 ∧
      stopOk 145 = true ∧ c.drainDone 5 = true ∧ State.reset.drainDone 5 = false ∧ c.pwr.phase ≠ .drain ∧
      11 ≤ (11 : BitVec 4).toNat := by
  decide +kernel

/-- A write of two bytes at the start of range 0, which maps the first MiB of host space, waits for the host. -/
def withHostWrite : State :=
  { State.reset.put (F.HOST_RNG_BASE_EN 0) 1 with host := { HostSt.reset with reqs := [{ Packet.zero with
    op := 1
    addr := 0x8000000000
    len := 1
    data := [1, 2] }] } }

theorem test_wit_FabricAnswers_host :
    withHostWrite.host.reqs.find? (fun q => decide (q.init = 0) && decide (q.txn = 0)) = withHostWrite.host.reqs.head? ∧
      withHostWrite.hpa? 0x8000000000 = some 0 ∧ withHostWrite.hostCached 0x8000000000 false = false ∧ withHostWrite.host.dc = [] := by
  decide +kernel

/-- Patrol reads macro 0, whose druse is on and which is declared written. -/
def withPatrol : State :=
  ((((withGranule.put F.MEM_PATROL_CFG_EN 1).put (F.PWR_DIE_STAT_ON 0) 1).putBit F.PWR_DRUSE_STAT_ON 0 true).putBit
    (F.MEM_INIT_DONE_DONE 0) 0 true)

theorem test_wit_MemoryAndCalibration :
    let s := withPatrol
    mapGet s.patrol (0, 0) 0 = (0, 0) ∧ s.patrols (patrolMacro 0 0) = true ∧ patrolMacro 0 0 < 3584 ∧ s.badIn (macroBase 0 + 64 * 0) 64 = [] ∧
      ({ s with badPar := [0x10000003F] } : State).ordinaryBad (macroBase 0 + 64 * 0) 64 ≠ [] ∧
      s.diePowered (sensorDie 0) = true ∧ dieOk 4 = true ∧ s.pwr.dormant = false := by
  decide +kernel

theorem test_wit_MemoryAndCalibration_off (m : Nat) : ((State.reset.put F.MEM_PATROL_CFG_EN 0).put F.MEM_PATROL_CFG_CTL_EN 0).patrols m = false := by
  have h1 : ((State.reset.put F.MEM_PATROL_CFG_EN 0).put F.MEM_PATROL_CFG_CTL_EN 0).on F.MEM_PATROL_CFG_EN = false := by decide +kernel
  have h2 : ((State.reset.put F.MEM_PATROL_CFG_EN 0).put F.MEM_PATROL_CFG_CTL_EN 0).on F.MEM_PATROL_CFG_CTL_EN = false := by decide +kernel
  simp [State.patrols, h1, h2]

theorem test_wit_MemoryAndCalibration_banks :
    let s := (((State.reset.setPwr { PwrSt.reset with phase := .banks }).put (F.PWR_DIE_STAT_ON 3) 1).putBit F.MEM_RET_STAT_ARMED 15 true)
    s.bit F.MEM_RET_STAT_ARMED 15 = true ∧ (399 : BitVec 16).toNat < s.holdMv 15 ∧ s.holdMv 15 ≤ (400 : BitVec 16).toNat ∧ s.pwr.phase = .banks ∧ s.dieOn (15 / 4) = true ∧ s.bankReleased 15 = false ∧
      s.bit F.MEM_RET_STAT_ARMED 0 = false ∧ State.reset.pwr.phase ≠ .banks ∧
      (({ s with tripped := [15] } : State).bankEnd 15).banksReleased = false := by
  decide +kernel

theorem test_wit_MemoryAndCalibration_items :
    let s := { State.reset.putBit F.CAL_STAT_BUSY 4 true with cal := { State.reset.cal with done := [(4, 0)] } }
    s.bit F.CAL_STAT_BUSY 4 = true ∧ mapFind? s.cal.done 4 = some 0 ∧ 0 + 1 < (dieItems 4).length ∧ (dieItems 4).getD 0 0 < 37 ∧
      State.reset.bit F.CAL_STAT_BUSY 4 = false ∧ State.reset.diePowered 4 = true ∧ (16 : BitVec 5).getLsbD 4 = true ∧
      { State.reset with pwr := { PwrSt.reset with dormant := true } }.pwr.dormant = true := by
  decide +kernel

/-! ## Corridor and mills -/

theorem test_wit_CorridorCommands :
    let s := State.reset.put F.CORR_CTRL_EN 1
    let d := State.reset.put F.CORR_TBL_SEL_TABLE 15
    s.on F.CORR_CTRL_EN = true ∧ (s.now - s.reg R.CORR_TICK_NEXT).toNat = 0 ∧ s.pwr.dormant = false ∧ s.get F.PWR_STAT_STATE ≠ 3 ∧
      s.on F.CORR_INQ0_EN = false ∧ s.on F.CORR_INQ1_EN = false ∧
      s.ctlErr = [] ∧ (∀ k, k < 16 → wbit (({ s with corr := s.corr.step s.now } : State).cw 3 (64 + k) 2) 26 = false ∧
        ({ s with corr := s.corr.step s.now } : State).cellValid (64 + k) = false) ∧
      (∀ k, k < 1024 → ({ s with corr := s.corr.step s.now } : State).trInit k = false) ∧
      State.reset.on F.CORR_CTRL_EN = false ∧ State.reset.corrSel = some (0, 0, 0) ∧ d.corrSel = none := by
  decide +kernel

/-- A polar encoding job: N = 32, K = 1, from 0x300000040 to 0x300000000. -/
def polarJob : List Byte :=
  toBytes 4 0x12 ++ List.replicate 12 0 ++ toBytes 8 0x300000000 ++ toBytes 8 0x300000040 ++ toBytes 8 0x300000080 ++ toBytes 4 0x15 ++
    List.replicate 20 0

/-- Mill 0 on, slot 15 on queue 5, which holds one job descriptor, `d`. -/
def withJob (d : List Byte) : State :=
  { (((State.reset.put (F.MILL_CTRL_EN 0) 1).put (F.MILL_JQ_CFG_EN 0 15) 1).put (F.MILL_JQ_CFG_QID 0 15) 5).setQ 5 { QState.reset with
      base := hubWin
      meta_ := hubWin + 0x1000
      esize := 2
      en := true
      tail := 1 } with
    mem := d.zipIdx.map (fun (e : Byte × Nat) => (hubWin + e.2, e.1)) ++
      (List.range 64).map (fun (i : Nat) => (hubWin + 0x1000 + i, (0 : Byte))) }

theorem test_wit_MillCommands_consume :
    let s := withJob polarJob
    let b := withJob (List.replicate 64 0)
    (State.reset.put (F.MILL_CTRL_EN 0) 0).on (F.MILL_CTRL_EN 0) = false ∧ s.on (F.MILL_CTRL_EN 0) = true ∧ s.on (F.MILL_JQ_CFG_EN 0 15) = true ∧
      s.get (F.MILL_JQ_CFG_QID 0 15) = 5 ∧ mapFind? (s.mill 0).held 15 = none ∧ (s.q 5).esize = 2 ∧
      s.hwHead 5 = some (hubWin, List.replicate 8 0) ∧ s.on (F.MILL_STAT_FENCED 0) = false ∧
      (s.mill 0).held = [] ∧ s.dieIso 0 = false ∧ s.jobSquashed 0 polarJob = false ∧ s.jobLate polarJob = false ∧
      s.engBytesNs (s.q 5).ns hubWin 64 = polarJob ∧ jobReason 0 (s.engBytesNs (s.q 5).ns hubWin 64) none = 0 ∧
      b.hwHead 5 = some (hubWin, List.replicate 8 0) ∧ jobReason 0 (b.engBytesNs (b.q 5).ns hubWin 64) none ≠ 0 := by
  decide +kernel

/-- Mill 0 with a job held in slot 15 and one running on engine 10. -/
def withMill (j : MillJob) : State := { State.reset with mills := [(0, ⟨[(15, MillJob.ofDesc polarJob 5 0)], [(10, j)], 15, 1⟩)] }

/-- The polar job with DL_ABORT and a deadline before now. -/
def lateJob : List Byte := toBytes 4 0x812 ++ List.replicate 8 0 ++ toBytes 4 0xFFFFFFFF ++ polarJob.drop 16

theorem test_wit_MillCommands_late :
    let j := MillJob.ofDesc lateJob 5 0
    let s : State := { State.reset.put (F.MILL_CTRL_EN 0) 0 with mills := [(0, ⟨[(15, j)], [], 15, 1⟩)] }
    mapFind? (s.mill 0).held 15 = some j ∧ s.jobSquashed 0 j.desc = false ∧ s.jobLate j.desc = true ∧ isHostAddr (jRes j.desc) = false ∧
      s.rangeResp (millInit 0) (jRes j.desc) 32 true = rDone ∧ (s.mill 0).held = [(15, j)] ∧ s.on (F.MILL_CTRL_EN 0) = false ∧
      s.trackedIn (jRes j.desc) 32 = [] := by
  decide +kernel

theorem test_wit_MillCommands :
    let j := MillJob.ofDesc polarJob 5 0
    let s := withMill j
    (s.jobSquashed 0 polarJob = false ∧ s.jobLate polarJob = false ∧ s.trackedIn (jRes j.desc) 32 = []) ∧
    let r : MillRes := ⟨0, 0, 0, false, false, false, false, 0, 4, 0, 0, 0⟩
    s.nextSlot 0 = some 15 ∧ mapFind? (s.mill 0).held 15 = some j ∧ s.freeEngine 0 (jClass j.desc) = some 11 ∧ engineOk 10 = true ∧
      engineOk 47 = true ∧ mapFind? (s.mill 0).run 47 = none ∧ mapFind? (s.mill 0).run 10 = some j ∧ j.res = none ∧ j.flush = false ∧
      s.jobSquashed 0 j.desc = false ∧ jDlAbort j.desc = false ∧ jRes j.desc % 64 = 0 ∧ isHostAddr (jRes j.desc) = false ∧
      s.rangeResp (millInit 0) (jRes j.desc) 32 true = rDone ∧
      mapFind? ((withMill { j with res := some r }).mill 0).run 10 = some { j with res := some r } ∧
      mapFind? ((withMill { j with flush := true }).mill 0).run 10 = some { j with flush := true } := by
  decide +kernel

/-! ## Fronthaul -/

/-- Port 32 receives and transmits with its link up; rule 0 takes every frame of no eCPRI message to queue 5. -/
def withPort : State :=
  (((((((withQueue.setQ 5 { withQueue.q 5 with esize := 1 }).put (F.FH_PORT_CFG_RX_EN 32) 1).put (F.FH_PORT_STAT_LINK 32) 1).put
    (F.FH_RULE_MATCH_EN 0) 1).put (F.FH_RULE_MATCH_PORT 0) 63).put (F.FH_RULE_MATCH_ENC 0) 3).put (F.FH_RULE_MATCH_MT_ANY 0) 1).put
    (F.FH_RULE_Q_QID 0) 5 |>.put (F.FH_RULE_BUF_HI_SLOT_LOG 0) 11

theorem test_wit_FrameCommands :
    let s := withPort
    let f : List Byte := List.replicate 60 0
    let e := (((s.put (F.FH_GRP_CFG_RATE 0) 3).put (F.FH_PORT_CFG_SPEED 0) 6).put (F.FH_PORT_CFG_RX_EN 0) 1).put (F.FH_PORT_STAT_LINK 0) 1
    let o := (List.range 8).foldl (fun (s : State) i => s.put (F.FH_LANE_CFG_LOOP i) 1) e
    (s.looped 32 = false ∧ s.echoes 32 = false ∧ s.hasFec 32 = false ∧ o.looped 0 = true ∧ e.looped 0 = false ∧ e.hasFec 0 = true ∧
      (e.on (F.FH_PORT_CFG_RX_EN 0) && e.on (F.FH_PORT_STAT_LINK 0) && !e.portOff 0) = true ∧ State.reset.looped 0 = false) ∧
    (State.reset.on (F.FH_PORT_CFG_RX_EN 32) && State.reset.on (F.FH_PORT_STAT_LINK 32) && !State.reset.portOff 32) = false ∧
      (s.on (F.FH_PORT_CFG_RX_EN 32) && s.on (F.FH_PORT_STAT_LINK 32) && !s.portOff 32) = true ∧ f.length = 60 ∧ ety f ≠ 0x8808 ∧
      s.ptpEvent 32 f = none ∧ s.classify 32 f = (some 0, none, 0) ∧ s.on (F.FH_RULE_MATCH_CAP 0) = false ∧
      s.rxExpand (some 0) f none = (f, false, 0) ∧ f.length ≤ 2 ^ (s.rxPlace 32 (some 0)).2.2 ∧
      (s.rxPlace 32 (some 0)).1 = 5 ∧ s.pushOk 5 = true ∧ (s.q 5).esize = 1 := by
  decide +kernel

/-- Port 0 transmits from a ring at the start of stratum 0's buffers, whose first descriptor is `d`, the frame following. -/
def withRing (d : List Byte) : State :=
  { (((((((State.reset.put (F.FH_GRP_CFG_RATE 0) 3).put (F.FH_PORT_CFG_SPEED 0) 6).put (F.FH_PORT_CFG_TX_EN 0) 1).put (F.FH_TX_CFG_EN 0) 1).put (F.FH_TX_CFG_BASE_HI 0) 3).put (F.FH_TX_TAIL_TAIL 0) 1)) with
    mem := (d ++ List.replicate 96 0).zipIdx.map (fun (e : Byte × Nat) => (0x300000000 + e.2, e.1)) }

/-- A descriptor of a frame of 60 bytes at 0x300000040. -/
def txDesc : List Byte := toBytes 8 (0x300000040 + 60 * 2 ^ 40) ++ List.replicate 24 0

theorem test_wit_FrameCommands_ring :
    let s := withRing txDesc
    let b := withRing (List.replicate 32 0)
    let s1 := s.engReadEffect (portInit 0) 0x300000000 32 false
    s.on (F.FH_PORT_CFG_TX_EN 0) = true ∧ s.on (F.FH_TX_CFG_EN 0) = true ∧ mapFind? s.fh.tx 0 = none ∧ s.txHeld 0 = false ∧
      s.portFits 0 = true ∧ s.trackedIn 0x300000000 32 = [] ∧ isHostAddr 0x300000000 = false ∧
      s.trackedIn (txAddr txDesc) (txLen txDesc) = [] ∧ isHostAddr (txAddr txDesc) = false ∧
      s.txSlot 0 = 0x300000000 ∧ s.get (F.FH_TX_HEAD_HEAD 0) ≠ s.get (F.FH_TX_TAIL_TAIL 0) ∧
      s.readResp (portInit 0) 0x300000000 32 = rDone ∧ s.engBytes 0x300000000 32 = txDesc ∧ txBad txDesc s.now = false ∧
      txLaunchV txDesc = false ∧ txComp txDesc = false ∧ txGated txDesc = false ∧ txTsReq txDesc = false ∧
      s1.readResp (portInit 0) (txAddr txDesc) (txLen txDesc) = rDone ∧ txBad (b.engBytes 0x300000000 32) b.now = true ∧
      b.readResp (portInit 0) 0x300000000 32 = rDone := by
  decide +kernel

theorem test_wit_FrameCommands_transmit :
    let x : PortTx := ⟨txDesc, [], false, false⟩
    let s := { State.reset with fh := { State.reset.fh with tx := [(0, x), (1, { x with sending := true })] } }
    mapFind? s.fh.tx 0 = some x ∧ x.sending = false ∧ s.txHeld 0 = false ∧ txGated x.desc = false ∧ txTsReq x.desc = false ∧
      s.looped 1 = false ∧ mapFind? s.fh.tx 1 = some { x with sending := true } ∧
      mapFind? s.fh.tx 2 = none := by
  decide +kernel

theorem test_wit_FrameCommands_jesd :
    let s0 := (((State.reset.put (F.FH_JESD_CFG_EN 3) 1).put (F.FH_JESD_CFG_RX_EN 3) 1).put (F.FH_JESD_CFG_TX_EN 3) 1)
    let s0 := (List.range 8).foldl (fun (s : State) i => (s.put (F.FH_LANE_STAT_CDR_LOCK (24 + i)) 1).put (F.FH_LANE_CFG_BLK_AUTO (24 + i)) 1) s0
    let s := { s0 with fh := { s0.fh with jesd := [(3, { JesdSt.reset with
      phase := some 0
      tx := true
      due := [(0, (0, 0))] })] } }
    (s.on (F.FH_JESD_CFG_EN 3) && s.on (F.FH_JESD_CFG_RX_EN 3) && (s.jesd 3).phase.isSome && s.jesdRx 3) = true ∧
      (s.on (F.FH_JESD_CFG_EN 3) && s.on (F.FH_JESD_CFG_TX_EN 3) && (s.jesd 3).phase.isSome) = true ∧
      (s.jesd 3).due = [(0, (0, 0))] ∧ (s.jesd 3).tx = true ∧ 0 ≤ s.get (F.FH_JESD_PARAM_CH_M1 3) ∧
      ((s.jesd 3).ring 16).under = false ∧ (State.reset.jesd 0).due = [] ∧ (State.reset.jesd 0).phase.isSome = false := by
  decide +kernel

/-- Group 0 at rate 3, port 0 of eight lanes. -/
def withLanes : State := ((State.reset.put (F.FH_GRP_CFG_RATE 0) 3).put (F.FH_PORT_CFG_SPEED 0) 6).put (F.FH_PORT_CFG_RX_EN 0) 1

theorem test_wit_LaneCommands :
    let s := withLanes
    let l := (s.put (F.FH_LANE_STAT_LOS_NOW 40) 1).put (F.FH_LANE_CFG_BLK_AUTO 40) 0
    let b := ((s.put (F.FH_LANE_STAT_SLIP_BUSY 0) 1).put (F.FH_LANE_CFG_BLK_AUTO 0) 0).put (F.FH_LANE_STAT_CDR_LOCK 0) 1
    laneOk 40 = true ∧ portOk 32 = true ∧ s.laneRate 0 = 3 ∧ s.laneRate 40 = 0 ∧ s.on (F.FH_LANE_STAT_LOS_NOW 0) = false ∧
      l.on (F.FH_LANE_STAT_LOS_NOW 40) = true ∧ b.on (F.FH_LANE_STAT_CDR_LOCK 0) = true ∧
      b.on (F.FH_LANE_CFG_ADAPT_FREEZE 0) = false ∧ s.on (F.FH_LANE_CFG_ADAPT_FREEZE 0) = false ∧
      s.on (F.FH_LANE_STAT_CDR_LOCK 0) = false ∧ s.on (F.FH_LANE_CFG_BLK_AUTO 0) = true ∧ b.on (F.FH_LANE_CFG_BLK_AUTO 0) = false ∧
      b.on (F.FH_LANE_STAT_SLIP_BUSY 0) = true ∧ l.on (F.FH_LANE_STAT_SLIP_BUSY 40) = false := by
  decide +kernel

theorem test_wit_LaneCommands_link :
    let s := withLanes
    let c := (List.range 8).foldl (fun (s : State) i => s.put (F.FH_LANE_STAT_CDR_LOCK i) 1) s
    let u := ((s.put (F.FH_PORT_STAT_LINK 0) 1).put (F.FH_LANE_STAT_SHORT_NOW 0) 1).put (F.FH_LANE_PRBS_CHK 0) 6
    let p := c.put (F.FH_LANE_CFG_RX_POL_AUTO 0) 1
    s.on (F.FH_LANE_STAT_SHORT_NOW 0) = false ∧ u.on (F.FH_LANE_STAT_SHORT_NOW 0) = true ∧
      (p.on (F.FH_LANE_CFG_RX_POL_AUTO 0) && p.on (F.FH_LANE_STAT_CDR_LOCK 0) && !p.laneDataLock 0) = true ∧ 2 ≤ s.portLanes 0 ∧
      lmapOk (s.portLanes 0) lmapId = true ∧ lmapOk (s.portLanes 0) 0x053977 = true ∧ s.on (F.FH_PORT_STAT_LINK 0) = false ∧
      u.on (F.FH_PORT_STAT_LINK 0) = true ∧ c.portEn 0 = true ∧ c.portFits 0 = true ∧
      c.on (F.FH_PORT_STAT_LINK 0) = false ∧
      (∀ i, i < c.portLanes 0 → c.laneRx (portLane 0 + i) = true ∧ c.aligned (portLane 0 + i) = true) ∧ u.prbsOn 0 = true ∧
      (let k := ((((s.put (F.FH_GRP_CFG_RATE 5) 1).put (F.FH_PORT_CFG_SPEED 32) 1).put (F.FH_PORT_CFG_RX_EN 32) 1).put
        (F.FH_LANE_STAT_CDR_LOCK 40) 1).put (F.FH_LANE_CFG_BLK_AUTO 40) 1
       k.portEn 32 = true ∧ k.portFits 32 = true ∧ k.on (F.FH_PORT_STAT_LINK 32) = false ∧ k.grpRate 5 = 1 ∧
         (∀ i, i < k.portLanes 32 → k.laneRx (portLane 32 + i) = true ∧ k.aligned (portLane 32 + i) = true)) ∧
      (s.put (F.FH_GRP_CFG_RATE 4) 3).twinLanes.length = 8 ∧ lmapOk 8 lmapId = true := by
  decide +kernel

/-! ## Host -/

/-- The link is up, the HDM decoder committed, Memory_Active 1. -/
def linkUp : State :=
  { State.reset.put F.HOST_LINK_SPEED 4 with host := { HostSt.reset with
    hdm := some 0
    memActive := true } }

theorem test_wit_HostAccesses :
    let s := linkUp
    let c := s.setStop nodeAon ⟨true, false, 0, 0⟩
    let e := (s.putBit (F.HOST_DB_EN_EN 31) 31 true).put F.PERF_ACCESS_USER 1
    State.reset.linkIsUp = false ∧ s.linkIsUp = true ∧ s.linkAwake.portReadResp hostInit R.GLOBAL_ID = rDone ∧
      c.linkAwake.portReadResp hostInit R.GLOBAL_ID ≠ rDone ∧ s.linkAwake.portWriteResp hostInit R.GLOBAL_SCRATCH0 0 = rDone ∧
      c.linkAwake.portWriteResp hostInit R.GLOBAL_SCRATCH0 0 ≠ rDone ∧ (s.putBit (F.HOST_DB_EN_EN 0) 0 false).pageOn 0xFF0 = false ∧ e.pageOn 0x3FFFF0 = true ∧
      s.on F.PERF_ACCESS_USER = false ∧ e.on F.PERF_ACCESS_USER = true ∧ e.regReaches hostInit R.PERF_STAT = true ∧
      0x24F8 % 8 = 0 ∧ s.pwr.dormant = false ∧ s.portReadResp ksInit R.GLOBAL_ID = rDone ∧ s.portReadResp ksInit 2 ≠ rDone ∧
      s.portWriteResp ksInit R.GLOBAL_SCRATCH0 0 = rDone ∧ s.portWriteResp ksInit 2 0 ≠ rDone ∧ isMemAddr R.GLOBAL_ID = false := by
  decide +kernel

theorem test_wit_HostAccesses_window :
    let s := { linkUp with mem := (List.range 64).map (fun (i : Nat) => (hubWin + 0x1FFFFC0 + i, (0 : Byte))) }
    let b := { linkUp with host := { linkUp.host with biWait := [(5, Packet.zero)] } }
    s.hdmOpen = true ∧ hdmAddr 0x2000000 = none ∧ hdmAddr 0x3FFFFFF = none ∧ hdmAddr 0x1FFFFC0 = some (hubWin + 0x1FFFFC0) ∧
      hdmAddr 0x4000000 = some (stratWin 0) ∧
      s.linkAwake.accessResp hostInit (hubWin + 0x1FFFFC0) false = rDone ∧ s.badIn (hubWin + 0x1FFFFC0) 64 = [] ∧
      s.snoopFull ((hubWin + 0x1FFFFC0) / 64) = false ∧ s.linkAwake.accessResp hostInit (hubWin + 0x1FFFFC0) true = rDone ∧
      (b.host.biWait.find? (fun (x : Nat × Packet) => x.1 = (320 : BitVec 40).toNat / 64)).isSome = true ∧ s.host.biWait = [] := by
  decide +kernel

theorem test_wit_HostLink :
    let s := { linkUp with host := { linkUp.host with
      busMaster := true
      ideIo := true
      dc := [(7, true)] } }
    let p := s.putBit (F.HOST_MSIX_PBA_PEND 63) 31 true
    let m := (p.put (F.HOST_MSIX_VCTRL_MASK 2047) 0).put F.HOST_STAT_DC_BUSY 1
    s.host.msiDrop = false ∧ m.msixOpen 2047 = true ∧ (m.put (F.HOST_MSIX_VCTRL_MASK 2047) 1).msixOpen 2047 = false ∧
      m.bit (F.HOST_MSIX_PBA_PEND (2047 / 32)) (2047 % 32) = true ∧ State.reset.bit (F.HOST_MSIX_PBA_PEND 0) 0 = false ∧
      State.reset.pwr.dormant = false ∧ linkOk 4 8 true = true ∧ State.reset.on F.GLOBAL_CLK_STAT_CXL_REF = false ∧
      (0x8000000 : BitVec 64).toNat % 2 ^ 27 = 0 ∧ mapFind? s.host.dc (448 / 64) = some true ∧ mapFind? s.host.dc 0 = none ∧
      s.hostWrites = [] ∧ m.hostWrites = [] ∧ withHostWrite.hostWrites = [(0, 0)] ∧
      s.pwr.phase ≠ .flush ∧ s.on F.HOST_STAT_DC_BUSY = false ∧ m.on F.HOST_STAT_DC_BUSY = true ∧ State.reset.host.ideIo = false := by
  decide +kernel

/-! ## Power -/

/-- Die 0 is on at clock level 3 and voltage level 3, with a step in progress. -/
def withStep (k : StepKind) (l : Nat) : State :=
  (((State.reset.put (F.PWR_DIE_STAT_ON 0) 1).put (F.PWR_DIE_STAT_CLK 0) 3).put (F.PWR_DIE_STAT_VOLT 0) 3).setPwr { PwrSt.reset with
    steps := [(0, (k, l))] }

theorem test_wit_PowerLevelsAndSwitches :
    let s := (withStep .clkDown 0).setPwr PwrSt.reset
    let v := s.put (F.PWR_DIE_STAT_VOLT 0) 0
    mapFind? s.pwr.steps 0 = none ∧ s.dieOn 0 = true ∧ s.get F.PWR_STAT_STATE ≤ 1 ∧ s.get (F.PWR_DIE_STAT_CLK 0) = 3 ∧
      s.get (F.PWR_DIE_STAT_VOLT 0) = 3 ∧ v.get (F.PWR_DIE_STAT_VOLT 0) = 0 ∧
      (∀ k ∈ [StepKind.clkDown, .clkUp, .vUp, .vDown, .settle], mapFind? (withStep k 7).pwr.steps 0 = some (k, 7)) ∧
      (withStep .clkDown 7).get (F.PWR_DIE_STAT_VOLT 0) < 7 ∧ ((withStep .clkUp 3).put (F.PWR_DIE_REQ_TARGET 0) 3).get (F.PWR_DIE_REQ_TARGET 0) = 3 := by
  decide +kernel

theorem test_wit_PowerLevelsAndSwitches_rails :
    let s := ((State.reset.put (F.PWR_RAIL_CFG_EN_V 4) 1).put (F.PWR_RAIL_CFG_PG_V 4) 1)
    let o := State.reset.setPwr { PwrSt.reset with railOff := [4] }
    4 ∉ s.pwr.railOff ∧ s.pwr.phase ≠ .rails ∧ s.on (F.PWR_RAIL_CFG_EN_V 4) = true ∧ s.on (F.PWR_RAIL_CFG_PG_V 4) = true ∧
      4 ∈ o.pwr.railOff := by
  decide +kernel

theorem test_wit_PowerLevelsAndSwitches_druses :
    let s0 := ((State.reset.put (F.PWR_DIE_STAT_ON 3) 1).putBit F.PWR_DRUSE_OFF_OFF 31 true)
    let on := s0.putBit F.PWR_DRUSE_STAT_ON 31 true
    let off := s0.putBit F.PWR_DRUSE_STAT_ON 31 false
    let d := { on.setPwr { PwrSt.reset with draining := [31] } with stops := [(nodeDruse 31, ⟨true, true, 0, 0⟩)] }
    let w := on.setPwr { PwrSt.reset with
      draining := [31]
      settling := [31] }
    31 ∉ on.ks.fenced ∧ ({ on with ks := { on.ks with fenced := [31] } } : State).ks.fenced = [31] ∧ on.get F.PWR_STAT_STATE ≤ 1 ∧
      on.druseOn 31 = true ∧ 31 ∉ on.pwr.draining ∧ off.dieOn (31 / 8) = true ∧ off.bit F.PWR_DRUSE_STAT_ON 31 = false ∧
      31 ∈ d.pwr.draining ∧ (d.stop (nodeDruse 31)).drained = true ∧ d.bit F.PWR_DRUSE_OFF_OFF 31 = true ∧ 31 ∈ w.pwr.settling ∧
      w.druseUp 31 = true ∧ w.pwr.phase ≠ .drain ∧ (w.stop (nodeDruse 31)).drained = false ∧ nodeDruse 31 ∉ w.pwr.forced ∧
      31 ∉ on.pwr.settling ∧ on.pwr.draining = [] := by
  decide +kernel

/-- A wake source pends and is enabled. -/
def withWake (i : Nat) : State := (State.reset.putBit F.PWR_WAKE_PEND_PEND i true).putBit F.PWR_WAKE_EN_EN i true

theorem test_wit_SleepAndWake :
    let r := State.reset.setPwr { PwrSt.reset with req := some true }
    let d := State.reset.setPwr { PwrSt.reset with dormant := true }
    let l := State.reset.setPwr { PwrSt.reset with phase := .link }
    State.reset.pwr.dormant = false ∧ d.pwr.dormant = true ∧ State.reset.get F.PWR_STAT_STATE = 0 ∧ State.reset.wakes 15 = false ∧
      (withWake 3).wakes 15 = true ∧ (withWake 3).get F.PWR_STAT_STATE ≠ 2 ∧ State.reset.pwr.req = none ∧ r.pwr.req = some true ∧
      ({ withWake 0 with pwr := r.pwr } : State).wakes 15 = true ∧ r.wakes 15 = false ∧ (r.put F.PWR_STAT_STATE 3).get F.PWR_STAT_STATE = 3 ∧
      l.pwr.phase = .link ∧ l.wakes 7 = false ∧ (withWake 1).bit F.PWR_WAKE_EN_EN 1 = true ∧
      (State.reset.putBit F.PWR_WAKE_EN_EN 1 false).bit F.PWR_WAKE_EN_EN 1 = false ∧ ({ withWake 0 with pwr := d.pwr } : State).bit F.PWR_WAKE_EN_EN 0 = true ∧
      (0x60 : BitVec 7).toNat = 0x60 + State.reset.get F.GLOBAL_STRAPS_ADDR_SEL ∧ State.reset.twin.peerLow = false := by
  decide +kernel

/-! ## Faults, twin, counters -/

/-- One report waits, of an action on a core, stratum or die. -/
def withReport (kind index action : Nat) : State := { State.reset with reports := [mkReport kind index 3 action] }

theorem test_wit_FaultsAndContainment :
    let s := withReport 1 255 2
    let i := s.put F.GLOBAL_FR_CFG_EN 1
    s.idsFree 0x131 1 = true ∧ foundFault 0x02 255 = some (mkReport 1 255 0x02 2) ∧ foundFault 0x1A 3 = some (mkReport 13 3 0x1A 1) ∧
      s.reports = [mkReport 1 255 3 2] ∧ s.ks.off = false ∧ i.frOpen = true ∧ s.frOpen = false ∧ (withReport 1 255 0).reports.length = 1 ∧
      (mkReport 1 255 3 2).domain = 31 ∧ (mkReport 2 31 3 3).domain = 31 ∧ s.druseUp 31 = true ∧ (mkReport 3 7 3 4).domain = 7 ∧
      s.stratumIso 7 = false ∧ (mkReport 4 3 3 5).domain = 3 ∧ s.bit F.GLOBAL_UNIT_AVAIL_DIES 3 = true ∧ State.reset.reports = [] := by
  decide +kernel

theorem test_found (r : Report) (h : r.code ≠ 0x1A) :
    (let t := (withReport 1 255 2).fresh.found r
     (∃ l, t.reports = mkReport 1 255 3 2 :: l) ∧ t.ks.off = false ∧ t.druseUp 31 = true) := by
  have hup : (withReport 1 255 2).druseUp 31 = true := by decide +kernel
  simp only [State.found, if_neg h]
  exact ⟨⟨_, rfl⟩, rfl, hup⟩

/-- Whatever the checkers find, the state they leave meets the hypotheses about the oldest report. -/
theorem test_wit_FaultsAndContainment_checkers :
    (let t := (withReport 1 255 2).checkers
     (∃ l, t.reports = mkReport 1 255 3 2 :: l) ∧ t.ks.off = false ∧ t.druseUp 31 = true) := by
  refine State.checkers_cases _ (fun t => (∃ l, t.reports = mkReport 1 255 3 2 :: l) ∧ t.ks.off = false ∧ t.druseUp 31 = true)
    ⟨⟨[], rfl⟩, rfl, by decide +kernel⟩ ?_
  intro code i r h
  by_cases hr : r.code = 0x1A
  · unfold foundFault at h
    split at h <;> first | cases h | skip
    all_goals (split at h <;> first | cases h | skip)
    all_goals first | (cases hr; done) | skip
    have hi : i = 0 ∨ i = 1 ∨ i = 2 ∨ i = 3 := by omega
    rcases hi with rfl | rfl | rfl | rfl <;> exact ⟨⟨_, rfl⟩, by decide +kernel, by decide +kernel⟩
  · exact test_found r hr

theorem test_wit_FaultsAndContainment_keystone :
    let s := { State.reset with ks := { State.reset.ks with
      railDue := [3]
      release := [(31, [248, 255])]
      parked := [41] } }
    let h := (State.reset.put F.GLOBAL_KS_CFG_HANG 1).setHeld 255 false
    let q := { State.reset with time := { State.reset.time with ticks := 10000 } }
    let o := { q with ks := { q.ks with off := true } }
    3 ∈ s.ks.railDue ∧ s.ks.off = false ∧ mapFind? s.ks.release 31 = some [248, 255] ∧ (∀ c ∈ [248, 255], c < 256) ∧ s.outst = [] ∧
      h.get F.GLOBAL_KS_CFG_HANG ≠ 0 ∧ h.held 255 = false ∧ (h.core 255).run = .running ∧ State.reset.held 255 = true ∧
      q.ksQuiet = true ∧ State.reset.ksQuiet = false ∧ q.on F.GLOBAL_KS_STAT_SAFE_HALT = false ∧ 3 ∉ q.ks.sentIso ∧ o.ks.off = true ∧
      41 ∈ s.ks.parked ∧ 41 ∉ q.ks.parked ∧ q.ksTarget 1 255 = true ∧ q.ksTarget 2 255 = true ∧ q.ksTarget 3 31 = true ∧
      q.ksTarget 4 31 = true ∧ q.ksTarget 5 7 = true ∧ q.ksTarget 5 8 = false := by
  decide +kernel

theorem test_wit_FaultsAndContainment_clocks :
    let s := State.reset.put F.TIME_REF_CFG_SRC 1
    (∀ k, k < 7 → s.on ⟨R.GLOBAL_CLK_STAT, k, 1⟩ = false ∧ (s.put ⟨R.GLOBAL_CLK_STAT, k, 1⟩ 1).on ⟨R.GLOBAL_CLK_STAT, k, 1⟩ = true) ∧
      s.get F.TIME_REF_CFG_SRC = 1 ∧ s.time.refGood = true := by
  decide +kernel

/-- The twin link is on; the peer drives its line, this device may be in position 1. -/
def withTwin (t : TwinSt) : State :=
  (List.range 8).foldl (fun (s : State) i => s.put (F.FH_LANE_STAT_CDR_LOCK (32 + i)) 1)
    { (State.reset.put F.TWIN_CFG_EN 1).put (F.FH_GRP_CFG_RATE 4) 3 with twin := t }

/-- A heartbeat of the peer in position 1, which holds the token. -/
def beat (typ : Byte) : TwinFrame :=
  { fcsOk := true, typ := typ, pos := true, hold := true, halt := false, standby := false, seq := 6, ttx := 9, peerTx := 7,
    peerRx := 8, health := 0, locked := false, druses := 0, data := [] }

theorem test_wit_TwinAndCounters :
    let s := withTwin TwinSt.reset
    let l := (withTwin { TwinSt.reset with last := some 6 }).put F.TWIN_CFG_TB_LOCK 1
    (s.twinTx = true ∧ s.twinRx = true ∧ l.twinRx = true ∧ State.reset.twinTx = false ∧ State.reset.twinRx = false) ∧
      State.reset.on F.TWIN_CFG_EN = false ∧ s.on F.TWIN_CFG_EN = true ∧ s.ks.off = false ∧ s.pwr.dormant = false ∧
      (beat 1).fcsOk = true ∧ (beat 1).typ = 1 ∧ (beat 2).typ ≠ 1 ∧ (beat 1).typ ≠ 2 ∧ (beat 1).typ ≠ 0x10 ∧
      (beat 1).pos ≠ s.on F.TWIN_CFG_POS ∧ (beat 1).pos = (s.put F.TWIN_CFG_POS 1).on F.TWIN_CFG_POS ∧
      l.twin.last = some (beat 1).seq ∧ l.on F.TWIN_CFG_CAP_HB = false ∧ s.twin.last ≠ some (beat 1).seq ∧
      l.on F.TWIN_CFG_TB_LOCK = true ∧ (beat 1).hold = true ∧ l.on F.TWIN_STAT_HOLD = false ∧ l.twin.claiming = false ∧
      (beat 1).peerTx ≠ 0 ∧ (s.put F.TWIN_CFG_TB_LOCK 0).on F.TWIN_CFG_TB_LOCK = false ∧ s.twin.last = none ∧ l.twin.lost = false := by
  decide +kernel

theorem test_wit_TwinAndCounters_token :
    let s := (withTwin TwinSt.reset).put F.BOOT_STAT_PHASE 8
    let c := (withTwin { TwinSt.reset with
      line := true
      peerLow := true
      claiming := true }).put F.TWIN_CFG_POS 1
    s.mayClaim = true ∧ c.mayClaim = false ∧ s.on F.TWIN_CFG_START_LEAD = false ∧
      (s.put F.TWIN_CFG_START_LEAD 1).on F.TWIN_CFG_START_LEAD = true ∧ s.twin.line = false ∧ c.twin.line = true ∧
      s.twin.claiming = false ∧ c.twin.claiming = true ∧ c.twin.peerLow = true ∧ c.on F.TWIN_CFG_POS = true := by
  decide +kernel

theorem test_wit_TwinAndCounters_states :
    let s := (withTwin TwinSt.reset).put F.TWIN_RX_CFG_EN 1
    let f := (s.put F.TWIN_RX_CFG_DLOG 4).put F.TWIN_RX_TAIL_TAIL 16
    let t := ((withTwin TwinSt.reset).put F.TWIN_TX_CFG_EN 1).put F.TWIN_TX_TAIL_TAIL 1
    (beat 0x10).typ = 0x10 ∧ t.twinTx = true ∧ s.twinRx = true ∧ isHostAddr (t.get F.TWIN_TX_CFG_BASE_HI) = false ∧ t.host.snoop = [] ∧
      State.reset.on F.TWIN_RX_CFG_EN = false ∧ s.on F.TWIN_RX_CFG_EN = true ∧
      (f.get F.TWIN_RX_TAIL_TAIL + 2 ^ 17 - f.get F.TWIN_RX_HEAD_HEAD) % 2 ^ 17 = 2 ^ f.get F.TWIN_RX_CFG_DLOG ∧
      ¬(s.get F.TWIN_RX_TAIL_TAIL + 2 ^ 17 - s.get F.TWIN_RX_HEAD_HEAD) % 2 ^ 17 = 2 ^ s.get F.TWIN_RX_CFG_DLOG ∧
      t.on F.TWIN_TX_CFG_EN = true ∧ t.get F.TWIN_TX_HEAD_HEAD ≠ t.get F.TWIN_TX_TAIL_TAIL ∧
      ¬s.get F.TWIN_TX_HEAD_HEAD ≠ s.get F.TWIN_TX_TAIL_TAIL := by
  decide +kernel

theorem test_wit_TwinAndCounters_dump :
    let b := State.reset.put F.PERF_STAT_DUMP_BUSY 1
    let s := (((State.reset.put F.PERF_DUMP_CFG_EN 1).put F.PERF_DUMP_CFG_DLOG 16).put F.PERF_DUMP_RANGE_FIRST 0).put F.PERF_DUMP_RANGE_COUNT 1184
    b.on F.PERF_STAT_DUMP_BUSY = true ∧ s.on F.PERF_STAT_DUMP_BUSY = false ∧
      s.get F.PERF_DUMP_RANGE_FIRST + s.get F.PERF_DUMP_RANGE_COUNT ≤ 1184 ∧ s.get F.PERF_DUMP_RANGE_COUNT ≠ 0 ∧
      s.on F.PERF_DUMP_CFG_EN = true ∧
      (s.get F.PERF_DUMP_RANGE_COUNT + 7) / 8 ≤ 2 ^ s.get F.PERF_DUMP_CFG_DLOG - (s.reg R.PERF_DUMP_WR - s.reg R.PERF_DUMP_RD).toNat ∧
      1184 < (s.put F.PERF_DUMP_RANGE_FIRST 1).get F.PERF_DUMP_RANGE_FIRST + (s.put F.PERF_DUMP_RANGE_FIRST 1).get F.PERF_DUMP_RANGE_COUNT ∧
      State.reset.get F.PERF_DUMP_CFG_PERIOD = 0 ∧ (State.reset.put F.PERF_DUMP_CFG_PERIOD 1).get F.PERF_DUMP_CFG_PERIOD ≠ 0 := by
  decide +kernel

end Sys2Proof.Tests
end

section
/-!
SUPPORT. What the model's functions keep: the canonical form of a state, the waiting commands and the fuses (`Kept`). One
lemma for each function that gives a state, in the order of the model's files; a lemma's name is that of its function.
-/

namespace Sys2Proof.Machine

/-- What a state that comes from another one keeps: the canonical form, the waiting commands and the fuses. -/
structure Kept (s t : State) : Prop where
  canon : s.canon = true → t.canon = true
  pending : t.pending = s.pending
  fuse : t.fuse = s.fuse

variable {s₀ s t : State}

theorem Kept.refl (s : State) : Kept s s := ⟨id, rfl, rfl⟩

/-- A state that differs only in what `Kept` does not speak of. -/
theorem Kept.frame {freeCtr : Nat} {out : List Out} {reports : List Report} {frNext : Word} {perf : List (Nat × BitVec 48)}
    {perfHi : List (Nat × BitVec 16)} {perfAt : List (Nat × Word)} {time : TimeSt} {cores : List (Nat × Core)}
    {snaps : List Snap} {imgDis : List (Nat × BitVec 4)} {flight : List Packet} {outst : List Req}
    {resIds : List (BitVec 12 × BitVec 12)} {idWait : List (Req × Packet)} {stops : List (Nat × StopSt)}
    {routes : List (Nat × BitVec 7)} {macros : List (Nat × MacroSt)} {patrol : List (Nat × (Nat × Nat))}
    {tripped : List Nat} {retHold tokCnt ctlErr : List (Nat × Nat)} {host : HostSt} {pwr : PwrSt}
    {queues : List (Nat × QState)} {mirrors : List (Nat × TokState)} {sieves : List (Nat × Sieve)}
    {chans : List (Nat × Chan)} {owed : List Owed} {mills : List (Nat × MillSt)} {corr : CorrSt} {fh : FhSt} {ks : KsSt}
    {twin : TwinSt} {mgmt : MgmtSt} {boot : BootSt} {cal : CalSt} {dump : DumpSt} (hs : Kept s₀ s) :
    Kept s₀ ⟨s.pending, s.regs, s.mem, s.badPar, s.hostMem, freeCtr, out, reports, frNext, perf, perfHi, perfAt, time,
      cores, snaps, imgDis, flight, outst, resIds, idWait, stops, routes, macros, patrol, tripped, retHold, host, pwr,
      queues, tokCnt, mirrors, sieves, chans, owed, s.fuse, ctlErr, mills, corr, fh, ks, twin, mgmt, boot, cal, dump⟩ :=
  ⟨hs.canon, hs.pending, hs.fuse⟩

theorem Kept.ite {c : Prop} [Decidable c] (hs : Kept s₀ s) (ht : Kept s₀ t) : Kept s₀ (if c then s else t) := by
  split
  · exact hs
  · exact ht

/-- A fold over what holds a state at `p`. -/
theorem Kept.foldlAt {α β : Type} (p : β → State) {f : β → α → β} {l : List α} {b : β} (hb : Kept s₀ (p b))
    (hf : ∀ b x, Kept s₀ (p b) → Kept s₀ (p (f b x))) : Kept s₀ (p (l.foldl f b)) := by
  induction l generalizing b with
  | nil => exact hb
  | cons x l ih => exact ih (hf b x hb)

theorem Kept.foldl {α : Type} {f : State → α → State} {l : List α} (hs : Kept s₀ s)
    (hf : ∀ t x, Kept s₀ t → Kept s₀ (f t x)) : Kept s₀ (l.foldl f s) :=
  hs.foldlAt id hf

theorem Kept.setReg {a : Nat} {v : Word} (hs : Kept s₀ s) : Kept s₀ (s.setReg a v) :=
  ⟨fun h => State.canon_setReg _ _ (hs.canon h), hs.pending, hs.fuse⟩

/-- Host memory takes a list that is as sorted as the one before. -/
theorem Kept.withHostMem {m : List Host.Cell} (hs : Kept s₀ s) (hm : mapWf s.hostMem = true → mapWf m = true) :
    Kept s₀ { s with hostMem := m } where
  canon h := by
    obtain ⟨h1, h2, h3, h4, h5⟩ := (State.canon_iff s).mp (hs.canon h)
    exact (State.canon_iff _).mpr ⟨h1, h2, h3, h4, hm h5⟩
  pending := hs.pending
  fuse := hs.fuse

theorem mapWf_foldl_mapIns {α β : Type} (f : β → Nat) (g : β → α) (l : List β) :
    ∀ m : List (Nat × α), mapWf m = true → mapWf (l.foldl (fun m e => mapIns m (f e) (g e)) m) = true := by
  induction l with
  | nil => intro m h; exact h
  | cons e l ih => intro m h; exact ih _ (mapWf_ins m (f e) (g e) h)

/-! ### Machine/Ops -/

theorem Kept.put {f : RF} {x : Nat} (hs : Kept s₀ s) : Kept s₀ (s.put f x) :=
  hs.setReg

theorem Kept.putBit {f : RF} {i : Nat} {b : Bool} (hs : Kept s₀ s) : Kept s₀ (s.putBit f i b) :=
  .ite hs.put hs.put

theorem Kept.count {i n : Nat} (hs : Kept s₀ s) : Kept s₀ (s.count i n) :=
  hs.frame

theorem Kept.report {r : Report} (hs : Kept s₀ s) : Kept s₀ (s.report r) := by
  unfold State.report
  extract_lets src
  have hsrc : Kept s₀ src := hs.count
  exact .ite hsrc.frame hs.count.count.put

theorem Kept.popReport (hs : Kept s₀ s) : Kept s₀ s.popReport :=
  hs.frame

theorem Kept.emit {o : Out} (hs : Kept s₀ s) : Kept s₀ (s.emit o) :=
  hs.frame

theorem Kept.setStop {n : Nat} {x : StopSt} (hs : Kept s₀ s) : Kept s₀ (s.setStop n x) :=
  hs.frame

theorem Kept.send {p : Packet} (hs : Kept s₀ s) : Kept s₀ (s.send p) :=
  hs.frame

theorem Kept.arrive {p : Packet} (hs : Kept s₀ s) : Kept s₀ (s.arrive p) :=
  hs.frame

theorem Kept.sendEventFrom {src : Nat} {init : BitVec 12} {strata eventId word : Nat} {tok : Option (BitVec 15)}
    (hs : Kept s₀ s) : Kept s₀ (s.sendEventFrom src init strata eventId word tok) :=
  hs.foldl (fun _ _ h => .ite h.send h)

theorem Kept.sendEvent {init strata eventId word : Nat} {tok : Option (BitVec 15)} (hs : Kept s₀ s) :
    Kept s₀ (s.sendEvent init strata eventId word tok) :=
  hs.sendEventFrom

theorem Kept.sendEmark {k ch word : Nat} (hs : Kept s₀ s) : Kept s₀ (s.sendEmark k ch word) :=
  hs.send

theorem Kept.launchNow {r : Req} {p : Packet} (hs : Kept s₀ s) : Kept s₀ (s.launchNow r p) := by
  unfold State.launchNow
  extract_lets
  exact hs.frame.send

theorem Kept.launch {r : Req} {p : Packet} (hs : Kept s₀ s) : Kept s₀ (s.launch r p) :=
  .ite hs.launchNow hs.frame

theorem Kept.wakeId {init : BitVec 12} (hs : Kept s₀ s) : Kept s₀ (s.wakeId init) := by
  unfold State.wakeId
  split
  · exact .ite hs.frame.launchNow hs
  · exact hs

theorem Kept.request {init op addr len : Nat} {atomfn : BitVec 3} {spec : Bool} {data : List Byte} {poison : BitVec 32}
    {kind : ReqKind} (hs : Kept s₀ s) : Kept s₀ (s.request init op addr len atomfn spec data poison kind) := by
  unfold State.request
  extract_lets
  exact .ite hs.launch hs.count.launch

theorem Kept.postWrite {init addr : Nat} {data : List Byte} {kind : ReqKind} (hs : Kept s₀ s) :
    Kept s₀ (s.postWrite init addr data kind) :=
  hs.request

theorem Kept.setHeld {c : Nat} {b : Bool} (hs : Kept s₀ s) : Kept s₀ (s.setHeld c b) :=
  hs.putBit

theorem Kept.setCore {c : Nat} {k : Core} (hs : Kept s₀ s) : Kept s₀ (s.setCore c k) :=
  hs.frame

theorem Kept.readNote {init a n : Nat} {spec : Bool} (hs : Kept s₀ s) : Kept s₀ (s.readNote init a n spec) := by
  unfold State.readNote
  extract_lets s2
  have hs2 : Kept s₀ s2 := hs.put.put
  refine .ite hs ?_
  split
  · exact hs
  · refine .ite hs.count ?_
    split
    · exact hs
    · extract_lets s3
      have hs3 : Kept s₀ s3 := hs2.setReg.setReg
      exact hs3.count.report

theorem Kept.fresh (hs : Kept s₀ s) : Kept s₀ s.fresh :=
  hs.frame

theorem Kept.readEffect {init a n : Nat} {spec : Bool} (hs : Kept s₀ s) : Kept s₀ (s.readEffect init a n spec) :=
  hs.readNote.fresh

theorem Kept.writeByte {a : Nat} {b : Byte} (hs : Kept s₀ s) : Kept s₀ (s.writeByte a b) :=
  ⟨fun h => State.canon_writeByte _ _ (hs.canon h), hs.pending, hs.fuse⟩

theorem Kept.writeBytes {a : Nat} {l : List Byte} (hs : Kept s₀ s) : Kept s₀ (s.writeBytes a l) := by
  induction l generalizing s a with
  | nil => exact hs
  | cons b l ih => exact ih hs.writeByte

theorem Kept.poisonWord {a : Nat} (hs : Kept s₀ s) : Kept s₀ (s.poisonWord a) :=
  ⟨fun h => State.canon_poisonWord _ (hs.canon h), hs.pending, hs.fuse⟩

theorem Kept.writePoison {a : Nat} {l : List Byte} {poison : BitVec 32} (hs : Kept s₀ s) :
    Kept s₀ (s.writePoison a l poison) :=
  hs.writeBytes.foldl (fun _ _ h => .ite h.poisonWord h)

theorem Kept.loseRange {a n : Nat} (hs : Kept s₀ s) : Kept s₀ (s.loseRange a n) :=
  ⟨fun h => State.canon_loseRange _ _ (hs.canon h), hs.pending, hs.fuse⟩

theorem Kept.hostAsk {k : HostReq} {line : Nat} (hs : Kept s₀ s) : Kept s₀ (s.hostAsk k line) := by
  unfold State.hostAsk
  extract_lets src
  have hsrc : Kept s₀ src := hs.emit
  exact hsrc.frame

theorem Kept.dcEvict {line : Nat} (hs : Kept s₀ s) : Kept s₀ (s.dcEvict line) :=
  ⟨fun h => State.canon_dcEvict _ (hs.canon h), hs.pending, hs.fuse⟩

theorem Kept.dcFetch {line : Nat} (hs : Kept s₀ s) : Kept s₀ (s.dcFetch line) := by
  unfold State.dcFetch
  extract_lets s1 s2
  have hs1 : Kept s₀ s1 := .ite hs hs.dcEvict.count
  have hs2 : Kept s₀ s2 := hs1.count
  exact .ite hs.count hs2.frame

theorem Kept.hostAskRead {h n : Nat} {cached ns : Bool} (hs : Kept s₀ s) : Kept s₀ (s.hostAskRead h n cached ns) :=
  hs.foldl (fun _ _ h => .ite (.ite h h.hostAsk) h.hostAsk)

theorem Kept.hostAskWrite {h n : Nat} {cached ns : Bool} (hs : Kept s₀ s) : Kept s₀ (s.hostAskWrite h n cached ns) :=
  hs.foldl (fun _ _ h => .ite (.ite h h.hostAsk) h.hostAsk)

theorem Kept.hostWriteByte {h : Nat} {b : Byte} {cached ns fetch : Bool} (hs : Kept s₀ s) :
    Kept s₀ (s.hostWriteByte h b cached ns fetch) := by
  unfold State.hostWriteByte
  extract_lets s1 _ s2
  have hs1 : Kept s₀ s1 := .ite hs.dcFetch hs
  have hs2 : Kept s₀ s2 := .ite hs.dcEvict hs
  exact .ite hs1.frame (hs2.withHostMem (mapWf_ins _ _ _))

theorem Kept.hostPutBytes {h : Nat} {cached ns fetch : Bool} {l : List Byte} (hs : Kept s₀ s) :
    Kept s₀ (s.hostPutBytes h cached ns fetch l) := by
  induction l generalizing s h fetch with
  | nil => exact hs
  | cons b l ih => exact ih hs.hostWriteByte

theorem Kept.hostWriteBytes {h : Nat} {cached ns : Bool} {l : List Byte} (hs : Kept s₀ s) :
    Kept s₀ (s.hostWriteBytes h cached ns l) :=
  .hostPutBytes (.ite hs hs.count)

/-! ### Machine/Flags -/

theorem Kept.flag {f : RF} (hs : Kept s₀ s) : Kept s₀ (s.flag f) :=
  hs.put

theorem Kept.flagRepN {f rep : RF} {n : Nat} (hs : Kept s₀ s) : Kept s₀ (s.flagRepN f rep n) :=
  hs.put.put

theorem Kept.flagRep {f rep : RF} (hs : Kept s₀ s) : Kept s₀ (s.flagRep f rep) :=
  hs.flagRepN

theorem Kept.flagBitRep {f rep : RF} {i : Nat} (hs : Kept s₀ s) : Kept s₀ (s.flagBitRep f rep i) :=
  hs.put.put

theorem Kept.writeFields {a : Nat} {v : Word} (hs : Kept s₀ s) : Kept s₀ (s.writeFields a v) := by
  unfold State.writeFields
  split
  · exact hs.setReg
  · exact hs

theorem Kept.warmRegs (hs : Kept s₀ s) : Kept s₀ s.warmRegs :=
  hs.foldl (fun _ _ h => h.setReg)

theorem Kept.resetRange {lo hi : Nat} (hs : Kept s₀ s) : Kept s₀ (s.resetRange lo hi) := by
  unfold State.resetRange
  refine hs.foldl fun _ _ h => ?_
  split
  · exact h.setReg
  · exact h

/-! ### Machine/Time -/

theorem Kept.bumpFree (hs : Kept s₀ s) : Kept s₀ s.bumpFree :=
  hs.frame

theorem Kept.leaveHoldover (hs : Kept s₀ s) : Kept s₀ s.leaveHoldover :=
  hs.put.put

theorem Kept.relock (hs : Kept s₀ s) : Kept s₀ s.relock :=
  .ite hs.leaveHoldover hs

theorem Kept.writeRefCfg {v : Word} (hs : Kept s₀ s) : Kept s₀ (s.writeRefCfg v) := by
  unfold State.writeRefCfg
  extract_lets s1
  have hs1 : Kept s₀ s1 := hs.writeFields
  exact .ite hs1.relock hs1

theorem Kept.loseRef (hs : Kept s₀ s) : Kept s₀ s.loseRef := by
  unfold State.loseRef
  extract_lets s1 s2 src
  have hs1 : Kept s₀ s1 := hs.put.put
  have hs2 : Kept s₀ s2 := hs1.flagRep
  have hsrc : Kept s₀ src := hs2.count
  exact hsrc.frame

theorem Kept.goodRef (hs : Kept s₀ s) : Kept s₀ s.goodRef := by
  unfold State.goodRef
  extract_lets _ s1
  have hs1 : Kept s₀ s1 := hs.frame
  exact .ite hs1.leaveHoldover hs1

theorem Kept.setTbVal {k : Nat} {v : BitVec 64} (hs : Kept s₀ s) : Kept s₀ (s.setTbVal k v) :=
  hs.setReg.setReg

theorem Kept.setTbSub {k : Nat} {b : BitVec 8} (hs : Kept s₀ s) : Kept s₀ (s.setTbSub k b) :=
  hs.frame

theorem Kept.writeRate {k : Nat} {v : Word} (hs : Kept s₀ s) : Kept s₀ (s.writeRate k v) :=
  .ite hs.flagRep (.ite hs.setReg.flag hs.setReg)

theorem Kept.stepGo {k : Nat} (hs : Kept s₀ s) : Kept s₀ (s.stepGo k) := by
  unfold State.stepGo
  extract_lets s1
  have hs1 : Kept s₀ s1 := hs.put
  exact .ite hs.flagRep (.ite hs.flag hs1.frame)

theorem Kept.applyStep {k : Nat} (hs : Kept s₀ s) : Kept s₀ (s.applyStep k) := by
  unfold State.applyStep
  extract_lets s1 s2 s3
  have hs1 : Kept s₀ s1 := hs.setTbVal
  have hs2 : Kept s₀ s2 := hs1.setReg
  have hs3 : Kept s₀ s3 := hs2.put.flag
  exact hs3.frame

theorem Kept.incTb {k : Nat} (hs : Kept s₀ s) : Kept s₀ (s.incTb k) := by
  unfold State.incTb
  extract_lets
  exact hs.setTbVal.setTbSub

theorem Kept.tickTb {k : Nat} (hs : Kept s₀ s) : Kept s₀ (s.tickTb k) := by
  unfold State.tickTb
  extract_lets s1
  have hs1 : Kept s₀ s1 := hs.incTb
  exact .ite (.ite hs1.applyStep hs1) (.ite hs.applyStep hs)

theorem Kept.writeTb {k : Nat} {frac : Bool} {v : Word} (hs : Kept s₀ s) : Kept s₀ (s.writeTb k frac v) :=
  .ite hs (.ite hs.setReg.setTbSub hs.setReg)

theorem Kept.snapshot {m : BitVec 8} (hs : Kept s₀ s) : Kept s₀ (s.snapshot m) :=
  hs.foldl (fun _ _ h => .ite h.setReg.setReg h)

theorem Kept.setCmpLive {k : Nat} {c : CmpLive} (hs : Kept s₀ s) : Kept s₀ (s.setCmpLive k c) :=
  hs.frame

theorem Kept.arm {k : Nat} (hs : Kept s₀ s) : Kept s₀ (s.arm k) := by
  unfold State.arm
  extract_lets
  exact .ite hs.flag hs.setCmpLive.put

theorem Kept.testCmp {k : Nat} (hs : Kept s₀ s) : Kept s₀ (s.testCmp k) := by
  unfold State.testCmp
  extract_lets
  exact .ite hs (.ite hs (.ite hs.setCmpLive hs.setCmpLive))

theorem Kept.startPulse {k pin : Nat} (hs : Kept s₀ s) : Kept s₀ (s.startPulse k pin) := by
  unfold State.startPulse
  extract_lets _ s1
  have hs1 : Kept s₀ s1 := hs.frame
  exact .ite hs1 hs1.emit

theorem Kept.endPulse {key : Nat} (hs : Kept s₀ s) : Kept s₀ (s.endPulse key) := by
  unfold State.endPulse
  extract_lets _ s1
  have hs1 : Kept s₀ s1 := hs.frame
  split
  · exact hs
  · exact .ite hs (.ite hs1 hs1.emit)

theorem Kept.fireDest {k : Nat} {c : CmpLive} (hs : Kept s₀ s) : Kept s₀ (s.fireDest k c) := by
  unfold State.fireDest
  extract_lets
  split
  · exact hs.sendEventFrom
  · exact hs.startPulse
  · exact hs.startPulse
  · exact .ite hs.sendEmark hs.flagRep
  · exact hs

theorem Kept.compareFire {k : Nat} (hs : Kept s₀ s) : Kept s₀ (s.compareFire k) := by
  unfold State.compareFire
  extract_lets _ _ s1 s2 _ s3
  have hs1 : Kept s₀ s1 := .ite hs.flag hs
  have hs2 : Kept s₀ s2 := .ite hs1.put.fireDest hs1
  have hs3 : Kept s₀ s3 := hs2.setCmpLive
  exact .ite hs (.ite hs2.setCmpLive.put (.ite hs3.flagRepN.count hs3))

theorem Kept.tick (hs : Kept s₀ s) : Kept s₀ s.tick := by
  unfold State.tick
  extract_lets s1 s2
  have hs1 : Kept s₀ s1 := hs.foldl (fun _ _ h => h.tickTb)
  have hs2 : Kept s₀ s2 := hs1.foldl (fun _ _ h => h.testCmp)
  exact .ite hs hs2.frame

theorem Kept.stepApply {k : Nat} (hs : Kept s₀ s) : Kept s₀ (s.stepApply k) :=
  .ite hs.tick hs

theorem Kept.capture {j src : Nat} {rising : Bool} (hs : Kept s₀ s) : Kept s₀ (s.capture j src rising) := by
  unfold State.capture
  extract_lets _ s1 s2
  have hs1 : Kept s₀ s1 := hs.setReg.setReg.setReg
  have hs2 : Kept s₀ s2 := hs1.put
  exact .ite hs (.ite hs.flagRep.count (.ite hs2.sendEventFrom.bumpFree hs2))

theorem Kept.ppsPeriod {i high low : Nat} (hs : Kept s₀ s) : Kept s₀ (s.ppsPeriod i high low) := by
  unfold State.ppsPeriod
  extract_lets _ _ s1 s2 s1' s2'
  have hs1 : Kept s₀ s1 := hs.frame
  have hs2 : Kept s₀ s2 := hs1.putBit
  have hs1' : Kept s₀ s1' := hs.frame
  have hs2' : Kept s₀ s2' := hs1'.putBit
  exact .ite hs.putBit (.ite (.ite (.ite hs2.putBit hs2) hs1) hs2'.report)

theorem Kept.setTxts {p : Nat} {l : List TxTs} (hs : Kept s₀ s) : Kept s₀ (s.setTxts p l) :=
  hs.frame

theorem Kept.pushTxts {p : Nat} {t : TxTs} (hs : Kept s₀ s) : Kept s₀ (s.pushTxts p t) :=
  .ite hs.setTxts hs.flagRep.count

theorem Kept.popTxts {p : Nat} (hs : Kept s₀ s) : Kept s₀ (s.popTxts p) :=
  hs.setTxts

theorem Kept.commitEpoch {p : Nat} {v : Word} (hs : Kept s₀ s) : Kept s₀ (s.commitEpoch p v) := by
  unfold State.commitEpoch
  extract_lets s1
  have hs1 : Kept s₀ s1 := hs.setReg
  exact hs1.frame

/-! ### Machine/Lane -/

theorem Kept.laneReport {l : Nat} (hs : Kept s₀ s) : Kept s₀ (s.laneReport l) :=
  hs.report

theorem Kept.portReport {p : Nat} (hs : Kept s₀ s) : Kept s₀ (s.portReport p) :=
  hs.report

theorem Kept.linkDown {p : Nat} (hs : Kept s₀ s) : Kept s₀ (s.linkDown p) := by
  unfold State.linkDown
  extract_lets s1
  have hs1 : Kept s₀ s1 := hs.put.flagRep.portReport
  exact .ite (.ite hs1.frame.emit hs1) hs

theorem Kept.laneDown {l : Nat} (hs : Kept s₀ s) : Kept s₀ (s.laneDown l) := by
  unfold State.laneDown
  extract_lets s1
  have hs1 : Kept s₀ s1 := hs.foldl (fun _ _ h => .ite h.linkDown h)
  exact hs1.foldl (fun _ _ h => .ite h.put h)

theorem Kept.synceLow (hs : Kept s₀ s) : Kept s₀ s.synceLow :=
  .ite hs.put.emit hs

theorem Kept.synce {now : Bool} (hs : Kept s₀ s) : Kept s₀ (s.synce now) :=
  .ite hs.synceLow (.ite (.ite hs hs.put.emit) (.ite hs.synceLow.flagRep hs))

theorem Kept.writeSynce {v : Word} (hs : Kept s₀ s) : Kept s₀ (s.writeSynce v) :=
  hs.writeFields.synce

theorem Kept.cutLane {l : Nat} (hs : Kept s₀ s) : Kept s₀ (s.cutLane l) :=
  hs.frame

theorem Kept.writeGrp {g : Nat} {v : Word} (hs : Kept s₀ s) : Kept s₀ (s.writeGrp g v) :=
  .ite hs.flag hs.writeFields.synce

theorem Kept.misfit {p : Nat} (hs : Kept s₀ s) : Kept s₀ (s.misfit p) :=
  hs.linkDown.flag.portReport

theorem Kept.writePortCfg {p : Nat} {v : Word} (hs : Kept s₀ s) : Kept s₀ (s.writePortCfg p v) := by
  unfold State.writePortCfg
  extract_lets s1 s2
  have hs1 : Kept s₀ s1 := hs.writeFields
  have hs2 : Kept s₀ s2 := .ite hs1 hs1.linkDown
  exact hs2.foldl (fun _ _ h => .ite h.misfit h)

theorem Kept.writeTxRing {p : Nat} {hi : Bool} {v : Word} (hs : Kept s₀ s) : Kept s₀ (s.writeTxRing p hi v) :=
  .ite (.ite hs hs.setReg) (.ite hs.put hs.writeFields)

theorem Kept.writeLaneCfg {l : Nat} {v : Word} (hs : Kept s₀ s) : Kept s₀ (s.writeLaneCfg l v) := by
  unfold State.writeLaneCfg
  extract_lets s0 s1
  have hs0 : Kept s₀ s0 := hs.writeFields
  have hs1 : Kept s₀ s1 := .ite hs0 hs0.cutLane
  exact .ite hs1 hs1.put

theorem Kept.setTap {l t : Nat} {x : ℤ} (hs : Kept s₀ s) : Kept s₀ (s.setTap l t x) :=
  hs.put

theorem Kept.writeDfe {l k : Nat} {v : Word} (hs : Kept s₀ s) : Kept s₀ (s.writeDfe l k v) :=
  .ite (hs.foldl (fun _ _ h => h.setTap)) hs

theorem Kept.writeFfe {l : Nat} {v : Word} (hs : Kept s₀ s) : Kept s₀ (s.writeFfe l v) :=
  .ite hs.flag hs.writeFields

theorem Kept.writePrbs {l : Nat} {v : Word} (hs : Kept s₀ s) : Kept s₀ (s.writePrbs l v) := by
  unfold State.writePrbs
  extract_lets s0 s1
  have hs0 : Kept s₀ s0 := hs.writeFields
  have hs1 : Kept s₀ s1 := .ite hs0 hs0.cutLane.emit
  exact .ite hs1 hs1.put

theorem Kept.bitslip {l : Nat} (hs : Kept s₀ s) : Kept s₀ (s.bitslip l) := by
  unfold State.bitslip
  extract_lets s1
  have hs1 : Kept s₀ s1 := hs.put
  exact .ite hs (.ite hs.flag hs1.frame)

theorem Kept.cntClr {l : Nat} (hs : Kept s₀ s) : Kept s₀ (s.cntClr l) :=
  hs.put.put

theorem Kept.writeLaneCmd {l : Nat} {v : Word} (hs : Kept s₀ s) : Kept s₀ (s.writeLaneCmd l v) := by
  unfold State.writeLaneCmd
  extract_lets s1 s2
  have hs1 : Kept s₀ s1 := .ite hs.bitslip hs
  have hs2 : Kept s₀ s2 := .ite hs1.emit hs1
  exact .ite hs2.cntClr hs2

theorem Kept.laneLocked {l : Nat} (hs : Kept s₀ s) : Kept s₀ (s.laneLocked l) :=
  .ite hs.flag.laneReport hs

theorem Kept.cdrLock {l ctle : Nat} (hs : Kept s₀ s) : Kept s₀ (s.cdrLock l ctle) := by
  unfold State.cdrLock
  extract_lets s1
  have hs1 : Kept s₀ s1 := hs.put
  exact .ite hs (.synce (.ite hs1 hs1.put))

theorem Kept.cdrLoss {l : Nat} (hs : Kept s₀ s) : Kept s₀ (s.cdrLoss l) := by
  unfold State.cdrLoss
  extract_lets s1
  have hs1 : Kept s₀ s1 := hs.put.put.put
  exact .ite hs1.count.laneDown.synce hs

theorem Kept.dfeStep {l : Nat} {up down : BitVec 12} (hs : Kept s₀ s) : Kept s₀ (s.dfeStep l up down) :=
  .ite (hs.foldl (fun _ _ h => h.setTap)) hs

theorem Kept.laneLos {l : Nat} (hs : Kept s₀ s) : Kept s₀ (s.laneLos l) := by
  unfold State.laneLos
  extract_lets s1 s2
  have hs1 : Kept s₀ s1 := hs.put.put.put
  have hs2 : Kept s₀ s2 := hs1.flagRep.laneReport
  exact .ite hs hs2.laneDown.synce

theorem Kept.laneSignal {l : Nat} (hs : Kept s₀ s) : Kept s₀ (s.laneSignal l) :=
  hs.put.synce

theorem Kept.laneShort {l : Nat} (hs : Kept s₀ s) : Kept s₀ (s.laneShort l) :=
  .ite hs hs.put.flagRep.laneReport.cutLane

theorem Kept.polToggle {l : Nat} (hs : Kept s₀ s) : Kept s₀ (s.polToggle l) :=
  .ite hs.put.count hs

theorem Kept.prbsErrs {l n : Nat} (hs : Kept s₀ s) : Kept s₀ (s.prbsErrs l n) :=
  .ite hs.put hs

theorem Kept.prbsLock {l n : Nat} (hs : Kept s₀ s) : Kept s₀ (s.prbsLock l n) :=
  .prbsErrs (.ite hs.put.laneLocked hs)

theorem Kept.prbsUnlock {l n : Nat} (hs : Kept s₀ s) : Kept s₀ (s.prbsUnlock l n) :=
  hs.prbsErrs.put

theorem Kept.slipDone {l bad : Nat} (hs : Kept s₀ s) : Kept s₀ (s.slipDone l bad) := by
  unfold State.slipDone
  extract_lets s1
  have hs1 : Kept s₀ s1 := hs.put
  exact hs1.put

theorem Kept.linkUp {p : Nat} {ffe : Word} (hs : Kept s₀ s) : Kept s₀ (s.linkUp p ffe) := by
  unfold State.linkUp
  extract_lets s1
  have hs1 : Kept s₀ s1 := hs.put.foldl (fun _ _ h => h.put.laneLocked)
  exact .ite (.ite hs1.frame.emit hs1) hs

theorem Kept.laneMap {p : Nat} {m : BitVec 24} (hs : Kept s₀ s) : Kept s₀ (s.laneMap p m) := by
  unfold State.laneMap
  extract_lets _ s1
  have hs1 : Kept s₀ s1 := hs.setReg
  exact .ite (.ite hs.frame hs) (.ite (.ite hs1 hs1.flag.portReport) hs)

/-! ### Machine/Access -/

theorem Kept.biOne {inv : Bool} {line : Nat} (hs : Kept s₀ s) : Kept s₀ (s.biOne inv line) := by
  unfold State.biOne
  extract_lets s1 s2
  have hs1 : Kept s₀ s1 := hs.emit.count
  have hs2 : Kept s₀ s2 := .ite hs1.writeBytes hs1
  exact .ite hs2.frame hs2

theorem Kept.snooped {a n : Nat} {inv : Bool} (hs : Kept s₀ s) : Kept s₀ (s.snooped a n inv) :=
  hs.foldl (fun _ _ h => h.biOne)

theorem Kept.hostFetchRange {a n : Nat} {ns : Bool} (hs : Kept s₀ s) : Kept s₀ (s.hostFetchRange a n ns) := by
  unfold State.hostFetchRange
  refine hs.foldl fun _ _ h => ?_
  extract_lets
  split
  · extract_lets s1
    have hs1 : Kept s₀ s1 := h.hostAskRead
    exact .ite hs1.dcFetch hs1.count
  · exact h

theorem Kept.rangeMiss {a : Nat} (hs : Kept s₀ s) : Kept s₀ (s.rangeMiss a) :=
  .ite hs.flag hs

theorem Kept.exactEffect {init a n : Nat} {ns : Bool} (hs : Kept s₀ s) : Kept s₀ (s.exactEffect init a n ns) :=
  .ite hs.rangeMiss (.ite hs.hostFetchRange.fresh hs.snooped.readEffect)

theorem Kept.engReadEffect {init a n : Nat} {ns : Bool} (hs : Kept s₀ s) : Kept s₀ (s.engReadEffect init a n ns) :=
  .ite hs.rangeMiss (.ite hs.hostFetchRange.fresh hs.snooped.readEffect)

theorem Kept.engPut {a : Nat} {l : List Byte} {ns : Bool} (hs : Kept s₀ s) : Kept s₀ (s.engPut a l ns) := by
  unfold State.engPut
  refine .ite ?_ hs.snooped.writeBytes
  split
  · exact hs.hostAskWrite.hostWriteBytes
  · exact hs

theorem Kept.engWrite {init a : Nat} {l : List Byte} {ns : Bool} (hs : Kept s₀ s) : Kept s₀ (s.engWrite init a l ns) :=
  hs.foldl (fun _ _ h => .ite h.engPut h.rangeMiss)

/-! ### Machine/Control -/

theorem Kept.ctlDouble {k : Nat} {patrol : Bool} (hs : Kept s₀ s) : Kept s₀ (s.ctlDouble k patrol) := by
  unfold State.ctlDouble
  extract_lets _ s1 s2 _ s3 _ _ s4 s4'
  have hs1 : Kept s₀ s1 := hs.flagRep.count
  have hs2 : Kept s₀ s2 := hs1.setReg
  have hs3 : Kept s₀ s3 := hs2.report
  have hs4 : Kept s₀ s4 := hs3.count
  have hs4' : Kept s₀ s4' := hs3.flag
  exact .ite hs4.frame.report (.ite hs4'.report hs3)

theorem Kept.ctlWord {patrol : Bool} {k : Nat} (hs : Kept s₀ s) : Kept s₀ (s.ctlWord patrol k) := by
  unfold State.ctlWord
  split
  · exact hs
  · exact hs.frame.flag.count
  · exact hs.ctlDouble

theorem Kept.ctlRead {l : List Nat} (hs : Kept s₀ s) : Kept s₀ (s.ctlRead l) :=
  .ite hs (hs.foldl (fun _ _ h => h.ctlWord))

theorem Kept.ctlWrite {k : Nat} (hs : Kept s₀ s) : Kept s₀ (s.ctlWrite k) :=
  hs.frame

theorem Kept.ctlPower {n : Nat} (hs : Kept s₀ s) : Kept s₀ (s.ctlPower n) :=
  hs.frame

theorem Kept.ungate {t : Nat} (hs : Kept s₀ s) : Kept s₀ (s.ungate t) :=
  .ite hs.frame hs

theorem Kept.moverWork {k : Nat} (hs : Kept s₀ s) : Kept s₀ (s.moverWork k) :=
  .ite hs.ungate hs

theorem Kept.ungateAt {a : Nat} (hs : Kept s₀ s) : Kept s₀ (s.ungateAt a) := by
  unfold State.ungateAt
  split
  · exact hs.moverWork
  · exact .ite hs.ungate hs
  · exact hs

/-! ### Machine/Memory -/

theorem Kept.clearInit {m n : Nat} (hs : Kept s₀ s) : Kept s₀ (s.clearInit m n) :=
  hs.foldl (fun _ _ h => h.putBit)

theorem Kept.initClr {n : Nat} {v : Word} (hs : Kept s₀ s) : Kept s₀ (s.initClr n v) :=
  hs.setReg

theorem Kept.loseDruse {d : Nat} (hs : Kept s₀ s) : Kept s₀ (s.loseDruse d) :=
  hs.loseRange.loseRange.clearInit.clearInit.clearInit

theorem Kept.loseBank {b : Nat} (hs : Kept s₀ s) : Kept s₀ (s.loseBank b) :=
  hs.loseRange.clearInit

theorem Kept.loseDie {n : Nat} (hs : Kept s₀ s) : Kept s₀ (s.loseDie n) := by
  unfold State.loseDie
  extract_lets s1
  have hs1 : Kept s₀ s1 := hs.foldl (fun _ _ h => h.loseDruse)
  exact hs1.foldl (fun _ _ h => h.loseRange.clearInit)

theorem Kept.loseHub (hs : Kept s₀ s) : Kept s₀ s.loseHub :=
  hs.loseRange.clearInit

theorem Kept.fenceMacro {m : Nat} (hs : Kept s₀ s) : Kept s₀ (s.fenceMacro m) := by
  unfold State.fenceMacro
  extract_lets _ s1
  have hs1 : Kept s₀ s1 := hs.put.report
  split
  · extract_lets _ s2
    have hs2 : Kept s₀ s2 := hs1.putBit.putBit.setStop
    exact hs2.frame
  · exact hs1

theorem Kept.repair (hs : Kept s₀ s) : Kept s₀ s.repair := by
  unfold State.repair
  extract_lets _ _ _ s1 s2
  have hs1 : Kept s₀ s1 := hs.frame
  have hs2 : Kept s₀ s2 := hs1.put.put
  exact hs2.foldl (fun _ _ h => h.fenceMacro)

theorem Kept.passDone {e : Nat} (hs : Kept s₀ s) : Kept s₀ (s.passDone e) :=
  hs.put.count

theorem Kept.patrolData {a : Nat} (hs : Kept s₀ s) : Kept s₀ (s.patrolData a) := by
  unfold State.patrolData
  extract_lets s1 s2
  have hs1 : Kept s₀ s1 := hs.flagRep
  have hs2 : Kept s₀ s2 := hs1.setReg.setReg
  split
  · exact hs
  · exact .ite hs.count hs2.report

theorem Kept.patrolCtl {m g : Nat} (hs : Kept s₀ s) : Kept s₀ (s.patrolCtl m g) :=
  .ite hs (hs.foldl (fun _ _ h => h.ctlWord))

theorem Kept.patrolRead {e : Nat} (hs : Kept s₀ s) : Kept s₀ (s.patrolRead e) := by
  unfold State.patrolRead
  extract_lets p start
  have hstart {j g : Nat} {s0 : State} (h : start = some (j, g, s0)) : Kept s₀ s0 := by
    unfold start at h
    split at h
    · cases h; exact hs
    · split at h
      · cases h; exact hs
      · split at h
        · cases h; exact .ite hs hs.passDone
        · cases h
  generalize start = o at hstart
  obtain _ | ⟨j, g, s0⟩ := o
  · exact hs
  · have hs0 : Kept s₀ s0 := hstart rfl
    dsimp -zeta only
    extract_lets m s1 s2
    have hs1 : Kept s₀ s1 := .count (.ite hs0.patrolData hs0.patrolCtl)
    have hs2 : Kept s₀ s2 := .ite hs1.put hs1
    refine .ite hs2.frame ?_
    split
    · exact hs2.frame
    · exact hs2.passDone.frame

theorem Kept.armBanks (hs : Kept s₀ s) : Kept s₀ s.armBanks :=
  hs.frame.put.foldl (fun _ _ h => h.putBit)

theorem Kept.sentinelTrip {b mv : Nat} (hs : Kept s₀ s) : Kept s₀ (s.sentinelTrip b mv) := by
  unfold State.sentinelTrip
  extract_lets s1 src
  have hs1 : Kept s₀ s1 := hs.loseRange
  have hsrc : Kept s₀ src := hs1.count
  exact .ite hsrc.frame hs

theorem Kept.bankEnd {b : Nat} (hs : Kept s₀ s) : Kept s₀ (s.bankEnd b) := by
  unfold State.bankEnd
  extract_lets _ s0 src s1 s2
  have hs0 : Kept s₀ s0 := .ite hs.count hs
  have hsrc : Kept s₀ src := hs0.putBit.putBit
  have hs1 : Kept s₀ s1 := hsrc.frame
  have hs2 : Kept s₀ s2 := hs1.setReg
  exact .ite hs2.count hs2.flagBitRep.clearInit.count.report

/-! ### Machine/Cal -/

theorem Kept.calRefresh {i : Nat} (hs : Kept s₀ s) : Kept s₀ (s.calRefresh i) :=
  hs.put.put

theorem Kept.calFuses {applied : Bool} (hs : Kept s₀ s) : Kept s₀ (s.calFuses applied) := by
  unfold State.calFuses
  refine hs.foldl fun _ _ h => ?_
  extract_lets _ s1
  have hs1 : Kept s₀ s1 := h.put
  exact .calRefresh (.ite hs1.put hs1)

theorem Kept.tapStep1 {i : Nat} (hs : Kept s₀ s) : Kept s₀ (s.tapStep1 i) := by
  unfold State.tapStep1
  extract_lets
  exact .ite hs hs.put.calRefresh.count

theorem Kept.tapStep (hs : Kept s₀ s) : Kept s₀ s.tapStep :=
  .ite hs (hs.foldl (fun _ _ h => h.tapStep1))

theorem Kept.writeCalUser {i : Nat} {v : Word} (hs : Kept s₀ s) : Kept s₀ (s.writeCalUser i v) :=
  hs.writeFields.calRefresh

theorem Kept.calStart {n : Nat} (hs : Kept s₀ s) : Kept s₀ (s.calStart n) := by
  unfold State.calStart
  extract_lets s1 s2
  have hs1 : Kept s₀ s1 := by
    unfold s1
    split
    · exact hs.put
    · exact hs
  have hs2 : Kept s₀ s2 := hs1.putBit
  exact hs2.frame

theorem Kept.calTrigger {n : Nat} (hs : Kept s₀ s) : Kept s₀ (s.calTrigger n) :=
  .ite hs (.ite hs.putBit.count hs.calStart)

theorem Kept.calEnd {n : Nat} (hs : Kept s₀ s) : Kept s₀ (s.calEnd n) := by
  unfold State.calEnd
  extract_lets s1 src _ s2
  have hs1 : Kept s₀ s1 := hs.putBit.put.flag
  have hsrc : Kept s₀ src := hs1.count
  have hs2 : Kept s₀ s2 := hsrc.frame
  exact .ite hs2.putBit.calStart hs2

theorem Kept.itemMeasured {n code : Nat} {lock : Bool} (hs : Kept s₀ s) : Kept s₀ (s.itemMeasured n code lock) := by
  unfold State.itemMeasured
  split
  · exact hs
  · extract_lets _ _ s1
    have hs1 : Kept s₀ s1 := .ite hs.flagRep.count hs.put.calRefresh
    exact .ite hs1.frame hs1.calEnd

theorem Kept.calStop {l : List Nat} (hs : Kept s₀ s) : Kept s₀ (s.calStop l) := by
  unfold State.calStop
  refine hs.foldl fun _ _ h => ?_
  extract_lets s1
  have hs1 : Kept s₀ s1 := h.putBit.putBit
  exact hs1.frame

theorem Kept.calLive (hs : Kept s₀ s) : Kept s₀ s.calLive := by
  unfold State.calLive
  extract_lets s1
  have hs1 : Kept s₀ s1 := by
    unfold s1
    refine hs.foldl fun _ _ h => ?_
    split
    · exact h.put
    · exact h
  exact .ite (hs1.foldl (fun _ _ h => h.calTrigger)) hs1

theorem Kept.thermal {n k : Nat} {t : Int} (hs : Kept s₀ s) : Kept s₀ (s.thermal n k t) := by
  unfold State.thermal
  extract_lets mark s1 s2
  have hs1 : Kept s₀ s1 := .ite hs.report hs
  have hs2 : Kept s₀ s2 := .ite hs1.report hs1
  exact hs2.frame.frame

theorem Kept.sensor {k t : Nat} {ok : Bool} (hs : Kept s₀ s) : Kept s₀ (s.sensor k t ok) := by
  unfold State.sensor
  extract_lets _ s1 src
  have hs1 : Kept s₀ s1 := .ite hs.put.put hs.put
  have hsrc : Kept s₀ src := hs1.report
  refine .ite hs ?_
  split
  · exact .ite hs1 hsrc.frame
  · extract_lets _ s2
    have hs2 : Kept s₀ s2 := hs1.frame.thermal
    exact .ite hs2.calTrigger hs2

theorem Kept.calRun {v : Nat} (hs : Kept s₀ s) : Kept s₀ (s.calRun v) :=
  hs.foldl (fun _ _ h => .ite h.calTrigger h)

/-! ### Machine/Queue -/

theorem Kept.msixSend {v : Nat} (hs : Kept s₀ s) : Kept s₀ (s.msixSend v) := by
  unfold State.msixSend
  extract_lets s1
  have hs1 : Kept s₀ s1 := hs.count.emit
  exact hs1.frame

theorem Kept.msixNow {v : Nat} (hs : Kept s₀ s) : Kept s₀ (s.msixNow v) :=
  .ite hs.msixSend (.ite hs hs.putBit.count)

theorem Kept.msix {v : Nat} (hs : Kept s₀ s) : Kept s₀ (s.msix v) :=
  .ite hs (.ite hs.msixNow hs.frame)

theorem Kept.msixRelease {w : BitVec 12 × BitVec 12} (hs : Kept s₀ s) : Kept s₀ (s.msixRelease w) := by
  unfold State.msixRelease
  extract_lets
  exact hs.frame.foldl (fun _ _ h => h.msixNow)

theorem Kept.msixPending {v : Nat} (hs : Kept s₀ s) : Kept s₀ (s.msixPending v) :=
  .ite hs.putBit.msixSend hs

theorem Kept.setMirror {r tok : Nat} {x : TokState} (hs : Kept s₀ s) : Kept s₀ (s.setMirror r tok x) :=
  hs.frame

theorem Kept.setQ {i : Nat} {q : QState} (hs : Kept s₀ s) : Kept s₀ (s.setQ i q) :=
  hs.frame

theorem Kept.qErr {i kind : Nat} (hs : Kept s₀ s) : Kept s₀ (s.qErr i kind) :=
  hs.put.put

theorem Kept.metaErr {i : Nat} (hs : Kept s₀ s) : Kept s₀ (s.metaErr i) := by
  unfold State.metaErr
  extract_lets s1
  have hs1 : Kept s₀ s1 := hs.flagRep.qErr.count
  exact hs1.report

theorem Kept.metaEffect {q : QState} {n : Nat} (hs : Kept s₀ s) : Kept s₀ (s.metaEffect q n) :=
  hs.exactEffect

theorem Kept.qNotify {i : Nat} {high : Bool} (hs : Kept s₀ s) : Kept s₀ (s.qNotify i high) := by
  unfold State.qNotify
  extract_lets _ s1 s2
  have hs1 : Kept s₀ s1 := hs.count
  have hs2 : Kept s₀ s2 := .ite hs1.sendEvent hs1
  exact .ite hs2.count.msix hs2

theorem Kept.qTest {i : Nat} (hs : Kept s₀ s) : Kept s₀ (s.qTest i) := by
  unfold State.qTest
  extract_lets
  exact .ite hs (.ite hs.setQ.qNotify (.ite hs.setQ.qNotify hs))

theorem Kept.tokAdd {tok : Nat} (hs : Kept s₀ s) : Kept s₀ (s.tokAdd tok) :=
  hs.frame

theorem Kept.tokSub {tok : Nat} (hs : Kept s₀ s) : Kept s₀ (s.tokSub tok) :=
  hs.frame

theorem Kept.fateEffect {i : Nat} {x : Fate} (hs : Kept s₀ s) : Kept s₀ (s.fateEffect i x) := by
  unfold State.fateEffect
  extract_lets s1
  have hs1 : Kept s₀ s1 := hs.count
  split
  · split
    · exact hs1.tokAdd
    · exact hs1
  · exact hs.count.metaErr
  · exact hs.count.flag.qErr
  · exact hs.count

theorem Kept.admitOne {i : Nat} (hs : Kept s₀ s) : Kept s₀ (s.admitOne i) := by
  unfold State.admitOne
  extract_lets _ s0 _ _ s1 _ s2 s3 s4
  have hs0 : Kept s₀ s0 := hs.ctlRead
  have hs1 : Kept s₀ s1 := hs0.metaEffect.fateEffect
  have hs2 : Kept s₀ s2 := hs1.engWrite
  have hs3 : Kept s₀ s3 := .ite hs2.engWrite hs2
  have hs4 : Kept s₀ s4 := .ite hs3.metaErr hs3
  exact .ite hs (.ite hs.ctlRead hs4.setQ.qTest)

theorem Kept.produce {i n : Nat} (hs : Kept s₀ s) : Kept s₀ (s.produce i n) := by
  unfold State.produce
  extract_lets s' _ s0
  have hs' : Kept s₀ s' := hs.ctlRead
  have hs0 : Kept s₀ s0 := hs'.count
  exact .ite hs0 (.ite hs0.flag.qErr.count (.ite hs0.flagRep.qErr.count hs0.setQ))

theorem Kept.uncount {t : Option Nat} (hs : Kept s₀ s) : Kept s₀ (s.uncount t) := by
  unfold State.uncount
  split
  · exact hs.tokSub
  · exact hs

theorem Kept.passHead {i : Nat} (hs : Kept s₀ s) : Kept s₀ (s.passHead i) := by
  unfold State.passHead
  extract_lets
  exact hs.setQ.uncount

theorem Kept.passHeads {i n : Nat} (hs : Kept s₀ s) : Kept s₀ (s.passHeads i n) := by
  induction n generalizing s with
  | zero => exact hs
  | succ n ih => exact ih hs.passHead

theorem Kept.skipDead {i n : Nat} (hs : Kept s₀ s) : Kept s₀ (s.skipDead i n) := by
  induction n generalizing s with
  | zero => exact hs
  | succ n ih =>
    unfold State.skipDead
    extract_lets q r s1 s2
    have hs1 : Kept s₀ s1 := hs.metaEffect
    have hs2 : Kept s₀ s2 := .ite hs1 (.ite hs1.metaErr (.ite hs1 hs1.count))
    exact .ite hs (ih hs2.passHead)

theorem Kept.consume {i n : Nat} (hs : Kept s₀ s) : Kept s₀ (s.consume i n) := by
  unfold State.consume
  extract_lets s' _ s0
  have hs' : Kept s₀ s' := hs.ctlRead
  have hs0 : Kept s₀ s0 := hs'.count
  exact .ite hs0 (.ite hs0.flag.qErr.count (.ite hs0.flag.qErr.count hs0.passHeads.qTest))

theorem Kept.takeEffect {i : Nat} (hs : Kept s₀ s) : Kept s₀ (s.takeEffect i) := by
  unfold State.takeEffect
  extract_lets s0 s1 s2
  have hs0 : Kept s₀ s0 := hs.ctlRead.count
  have hs1 : Kept s₀ s1 := hs0.skipDead
  have hs2 : Kept s₀ s2 := .ite hs1 hs1.qTest
  exact .ite hs0 (.ite hs2 hs2.metaEffect.setQ.count.uncount)

theorem Kept.hwConsume {i : Nat} (hs : Kept s₀ s) : Kept s₀ (s.hwConsume i) := by
  unfold State.hwConsume
  extract_lets s0 s1
  have hs0 : Kept s₀ s0 := hs.ctlRead
  have hs1 : Kept s₀ s1 := hs0.skipDead
  exact .ite hs0 (.ite (.ite hs1 hs1.qTest) hs1.metaEffect.count.passHead.qTest)

theorem Kept.headEffect {init i n : Nat} (hs : Kept s₀ s) : Kept s₀ (s.headEffect init i n) := by
  -- the function is unfolded as a constant: unfolding it in place makes the kernel evaluate the matched term
  obtain ⟨f, hf⟩ : ∃ f, f = @State.headEffect := ⟨_, rfl⟩
  rw [← hf]
  delta State.headEffect at hf
  subst hf
  beta_reduce
  cases s.hwHead i with
  | none => exact hs
  | some h => exact hs.engReadEffect

theorem Kept.hwPush {i : Nat} {payload : List Byte} {tag : Nat} {tok : Option (BitVec 15)} {stamp : Option Word}
    (hs : Kept s₀ s) : Kept s₀ (s.hwPush i payload tag tok stamp) := by
  unfold State.hwPush
  extract_lets s' _ _ _ _ _ s1 s2 s3
  have hs' : Kept s₀ s' := hs.ctlRead
  have hs1 : Kept s₀ s1 := hs'.count.engWrite.engWrite
  have hs2 : Kept s₀ s2 := hs1.fateEffect
  have hs3 : Kept s₀ s3 := .ite hs2.metaErr hs2
  exact .ite hs' (.ite hs'.count hs3.setQ.qTest)

theorem Kept.qTrim {i : Nat} (hs : Kept s₀ s) : Kept s₀ (s.qTrim i) := by
  unfold State.qTrim
  extract_lets
  exact .ite hs (hs.setQ.foldl (fun _ _ h => h.uncount))

theorem Kept.qWrite {w : Nat} {v : Word} (hs : Kept s₀ s) : Kept s₀ (s.qWrite w v) := by
  unfold State.qWrite
  extract_lets _ s' _ _ _ s1
  have hs' : Kept s₀ s' := hs.ctlWrite
  have hs1 : Kept s₀ s1 := .ite hs' hs'.flag.qErr
  exact .ite (.ite hs1.setQ (.ite hs1.setQ hs1.setQ)) (.ite (.ite hs'.setQ hs'.setQ.flag.qErr) hs'.setQ.qTrim)

theorem Kept.qDisable {i : Nat} (hs : Kept s₀ s) : Kept s₀ (s.qDisable i) := by
  unfold State.qDisable
  extract_lets
  exact .ite hs.setQ hs

theorem Kept.doorbell {i : Nat} {v : Word} (hs : Kept s₀ s) : Kept s₀ (s.doorbell i v) :=
  .ite hs.consume hs.produce

theorem Kept.qmNotice {tok : Nat} {x : TokState} (hs : Kept s₀ s) : Kept s₀ (s.qmNotice tok x) :=
  hs.setMirror.count

/-! ### Machine/Corridor -/

theorem Kept.setCw {t i w : Nat} {v : Word} (hs : Kept s₀ s) : Kept s₀ (s.setCw t i w v) :=
  hs.frame

theorem Kept.amend {t i w : Nat} {mask v : Word} (hs : Kept s₀ s) : Kept s₀ (s.amend t i w mask v) := by
  unfold State.amend
  extract_lets
  exact hs.frame

theorem Kept.readRec {t i : Nat} (hs : Kept s₀ s) : Kept s₀ (s.readRec t i) :=
  .ite hs hs.ctlRead

theorem Kept.readRecs {t : Nat} {l : List Nat} (hs : Kept s₀ s) : Kept s₀ (s.readRecs t l) :=
  .ite hs (hs.foldl (fun _ _ h => h.readRec))

theorem Kept.corrData {v : Word} (hs : Kept s₀ s) : Kept s₀ (s.corrData v) := by
  unfold State.corrData
  refine .ite hs.flag ?_
  split
  · exact hs.setCw.ctlWrite
  · exact hs

theorem Kept.corrCtrl {v : Word} (hs : Kept s₀ s) : Kept s₀ (s.corrCtrl v) := by
  unfold State.corrCtrl
  extract_lets s1
  have hs1 : Kept s₀ s1 := hs.writeFields
  exact .ite (.ite hs1 hs1.setReg) hs1.frame

theorem Kept.setTr0 {t hi lo x : Nat} (hs : Kept s₀ s) : Kept s₀ (s.setTr0 t hi lo x) :=
  hs.setCw

theorem Kept.setTrk {t : Nat} {x : Trk} (hs : Kept s₀ s) : Kept s₀ (s.setTrk t x) := by
  unfold State.setTrk
  extract_lets s1
  have hs1 : Kept s₀ s1 := hs.setCw.setCw.setCw.setCw
  refine hs1.foldl fun _ _ h => ?_
  extract_lets
  exact h.setCw.setCw

theorem Kept.readTrain {t : Nat} (hs : Kept s₀ s) : Kept s₀ (s.readTrain t) :=
  .ite hs hs.readRec.readRec.readRecs

theorem Kept.trainForward {t : Nat} (hs : Kept s₀ s) : Kept s₀ (s.trainForward t) := by
  unfold State.trainForward
  extract_lets s'
  have hs' : Kept s₀ s' := hs.readRec
  exact .ite hs'.setTrk.setCw hs'

theorem Kept.trkInit {t : Nat} {pos spd : ℤ} {spdV : Bool} {sdp sdv : Nat} {tm : Word} (hs : Kept s₀ s) :
    Kept s₀ (s.trkInit t pos spd spdV sdp sdv tm) := by
  unfold State.trkInit
  extract_lets
  exact hs.setTrk.setCw.setCw.setTr0.setTr0.count

theorem Kept.badRec (hs : Kept s₀ s) : Kept s₀ s.badRec :=
  hs.flagRep.count

theorem Kept.spdUpdate {t : Nat} {spd : Int} {sdv : Nat} {tm : Word} (hs : Kept s₀ s) :
    Kept s₀ (s.spdUpdate t spd sdv tm) := by
  -- the function is unfolded as a constant: unfolding it in place makes the kernel evaluate the matched term
  obtain ⟨f, hf⟩ : ∃ f, f = @State.spdUpdate := ⟨_, rfl⟩
  rw [← hf]
  delta State.spdUpdate at hf
  subst hf
  beta_reduce
  extract_lets tau x
  generalize x.update _ _ _ _ _ = u
  cases u with
  | bad => exact hs.count
  | gated => exact hs.count
  | done x2 => exact hs.setTrk.setCw

theorem Kept.posReport {l : List Byte} (hs : Kept s₀ s) : Kept s₀ (s.posReport l) := by
  unfold State.posReport
  extract_lets -underBinder _ _ _ _ _ _ _ _ _ s1 x spdOf
  have hs1 : Kept s₀ s1 := .ite hs hs.setTr0
  have hspd {u : State} (hu : Kept s₀ u) : Kept s₀ (spdOf u) := .ite hu.spdUpdate hu
  refine .ite hs.badRec (.ite hs.count (.ite hs1.trkInit.count ?_))
  generalize x.update _ _ _ _ _ = u
  cases u with
  | bad => exact hspd hs1.count
  | gated =>
    have hs2 {n : Nat} : Kept s₀ ((s1.count 523 1).setTr0 (bitsOf (fieldAt l 0 4) 17 8) 23 16 n) := hs1.count.setTr0
    exact .ite hs2.trkInit (hspd hs2)
  | done x1 => exact hspd hs1.setTrk.setCw.setTr0.count

theorem Kept.measured {t : Nat} {tm : Word} {x : Upd} (hs : Kept s₀ s) : Kept s₀ (s.measured t tm x) := by
  unfold State.measured
  split
  · exact hs.count
  · exact hs.count
  · exact hs.setTrk.setCw.count

theorem Kept.measRecord {l : List Byte} (hs : Kept s₀ s) : Kept s₀ (s.measRecord l) := by
  unfold State.measRecord
  extract_lets _ _ _ _ _ _ _ _ _ _ _ _ _ _ _ _ s1
  have hs1 : Kept s₀ s1 := .ite hs (.ite hs.measured hs.measured)
  exact .ite hs.badRec (.ite hs.count (.ite hs1 hs1.measured))

theorem Kept.corrRecord {l : List Byte} (hs : Kept s₀ s) : Kept s₀ (s.corrRecord l) := by
  unfold State.corrRecord
  extract_lets _ _ s' s''
  have hs' : Kept s₀ s' := hs.readRec
  have hs'' : Kept s₀ s'' := hs.readTrain.readRec
  split
  · exact .ite hs' hs'.posReport
  · exact .ite hs'' hs''.measRecord
  · exact hs.badRec

theorem State.corrTake_succ (s : State) (q n : Nat) : s.corrTake q (n + 1) = match s.hwHead q with
    | none => s.hwConsume q
    | some (a, m) =>
      if (metaTokV m && decide (s.mirror recvQm (metaTok m) = .open_)) || !stampEarlier (BitVec.ofNat 32 (fieldAt m
          0 4)) s.now
      then s
      else (((s.headEffect 0x121 q 32).hwConsume q).corrRecord (s.engBytesNs (s.q q).ns a 32)).corrTake q n := by
  -- the function is unfolded as a constant: unfolding it in place makes the kernel evaluate the matched term
  obtain ⟨f, hf⟩ : ∃ f, f = @State.corrTake := ⟨_, rfl⟩
  obtain ⟨hd, hhd⟩ : ∃ g, g = @State.hwHead := ⟨_, rfl⟩
  rw [← hf, ← hhd]
  delta State.corrTake State.corrTake._f at hf
  rw [← hhd] at hf
  subst hf
  rfl

theorem Kept.corrTake {q n : Nat} (hs : Kept s₀ s) : Kept s₀ (s.corrTake q n) := by
  induction n generalizing s with
  | zero => exact hs
  | succ n ih =>
    rw [State.corrTake_succ]
    cases s.hwHead q with
    | none => exact hs.hwConsume
    | some h => exact .ite hs (ih hs.headEffect.hwConsume.corrRecord)

theorem Kept.corrInput {en : Bool} {q : Nat} (hs : Kept s₀ s) : Kept s₀ (s.corrInput en q) :=
  .ite hs (.ite hs.flagRep hs.corrTake)

theorem Kept.predPush {q : Nat} {l : List Byte} (hs : Kept s₀ s) : Kept s₀ (s.predPush q l) := by
  unfold State.predPush
  extract_lets src
  have hsrc : Kept s₀ src := hs.hwPush.count
  exact .ite hsrc.frame hs.count

theorem Kept.modPredict {t k : Nat} (hs : Kept s₀ s) : Kept s₀ (s.modPredict t k) := by
  unfold State.modPredict
  extract_lets s1
  have hs1 : Kept s₀ s1 := hs.count.count
  exact hs1.foldl (fun _ _ h => .ite h.predPush h)

theorem Kept.predict (hs : Kept s₀ s) : Kept s₀ s.predict := by
  unfold State.predict
  refine hs.readRecs.foldl fun _ _ h => ?_
  extract_lets s'
  have hs' : Kept s₀ s' := .ite h.readTrain h
  exact .ite (hs'.foldl (fun _ _ h => h.modPredict)) hs'

theorem Kept.cellComplete {c : Nat} (hs : Kept s₀ s) : Kept s₀ (s.cellComplete c) :=
  .ite hs (.ite ((hs.foldl (fun _ _ h => h.setCw)).setCw) hs)

theorem Kept.cellChange {c : Nat} {set : List Nat} (hs : Kept s₀ s) : Kept s₀ (s.cellChange c set) := by
  unfold State.cellChange
  extract_lets _ _ _ s1 s2 s3
  have hs1 : Kept s₀ s1 := hs.hwPush
  have hs2 : Kept s₀ s2 := hs1.frame.foldl (fun _ _ h => h.setCw)
  have hs3 : Kept s₀ s3 := hs2.setCw.setCw
  exact .ite hs (.ite hs.flagRep.count hs3.count.sendEvent)

theorem Kept.membership (hs : Kept s₀ s) : Kept s₀ s.membership := by
  unfold State.membership
  extract_lets _ s' s1 _ s2
  have hs' : Kept s₀ s' := hs.readRecs
  have hs1 : Kept s₀ s1 := hs'.foldl (fun _ _ h => h.cellComplete)
  have hs2 : Kept s₀ s2 := hs1.foldl (fun _ _ h => .ite h.cellChange h)
  exact hs2.frame

theorem Kept.corrSteps (hs : Kept s₀ s) : Kept s₀ s.corrSteps := by
  unfold State.corrSteps
  extract_lets s1 s2 s3
  have hs1 : Kept s₀ s1 := hs.frame
  have hs2 : Kept s₀ s2 := hs1.foldl (fun _ _ h => h.trainForward)
  have hs3 : Kept s₀ s3 := hs2.corrInput.corrInput
  exact hs3.predict.membership

theorem Kept.corrTick (hs : Kept s₀ s) : Kept s₀ s.corrTick := by
  unfold State.corrTick
  extract_lets _ _ s1 s2
  have hs1 : Kept s₀ s1 := hs.setReg.count
  have hs2 : Kept s₀ s2 := .ite hs1 hs1.flagRepN.count
  exact .ite hs hs2.corrSteps

theorem Kept.clearTrackers (hs : Kept s₀ s) : Kept s₀ s.clearTrackers :=
  hs.foldl (fun _ _ h => h.setTr0)

theorem Kept.clearPending (hs : Kept s₀ s) : Kept s₀ s.clearPending :=
  hs.foldl (fun _ _ h => h.setCw)

theorem Kept.clearValid (hs : Kept s₀ s) : Kept s₀ s.clearValid :=
  hs.foldl (fun _ _ h => h.setCw)

/-! ### Machine/Cells -/

theorem Kept.setDesc {c : Nat} {d : List Byte} (hs : Kept s₀ s) : Kept s₀ (s.setDesc c d) :=
  hs.frame

theorem Kept.writeCellRec {c : Nat} {d : List Byte} (hs : Kept s₀ s) : Kept s₀ (s.writeCellRec c d) := by
  unfold State.writeCellRec
  extract_lets _ s1 s2
  have hs1 : Kept s₀ s1 := hs.amend.amend
  have hs2 : Kept s₀ s2 := .ite hs1.amend.amend.amend hs1
  exact .ite hs (hs2.foldl (fun _ _ h => h.amend))

theorem Kept.setCellState {c x tag : Nat} (hs : Kept s₀ s) : Kept s₀ (s.setCellState c x tag) := by
  unfold State.setCellState
  extract_lets _ _ _ s1 s2 s2'
  have hs1 : Kept s₀ s1 := hs.setReg
  have hs2 : Kept s₀ s2 := hs1.amend
  have hs2' : Kept s₀ s2' := .ite hs1 (.ite (hs2.foldl (fun _ _ h => h.amend)) hs2)
  exact hs2'.sendEvent

theorem Kept.rehome {n : Nat} (hs : Kept s₀ s) : Kept s₀ (s.rehome n) := by
  unfold State.rehome
  refine hs.foldl fun _ _ h => ?_
  split
  · exact h
  · exact .ite h (.ite h.setDesc.setCellState (.ite h.setCellState h))

theorem Kept.openMgmt (hs : Kept s₀ s) : Kept s₀ s.openMgmt := by
  unfold State.openMgmt
  extract_lets _ s1
  have hs1 : Kept s₀ s1 := hs.foldl (fun _ _ h => h.flagRep)
  exact hs1.frame

theorem verdict_accepted {bad rights noObj refused : Bool} {t u : State}
    (h : verdict bad rights noObj refused t = .accepted u) : t = u := by
  unfold verdict at h
  split at h
  · cases h
  · split at h
    · cases h
    · split at h
      · cases h
      · split at h
        · cases h
        · exact Verdict.accepted.inj h

theorem Kept.cellMove {fw host : Bool} {l : List Byte} {src : List Nat} {dst : Nat} (hs : Kept s₀ s)
    (h : s.cellMove fw host l src dst = .accepted t) : Kept s₀ t :=
  verdict_accepted h ▸ hs.setCellState

theorem Kept.cellModify {fw : Bool} {l : List Byte} (hs : Kept s₀ s) (h : s.cellModify fw l = .accepted t) : Kept s₀ t :=
  verdict_accepted h ▸ hs.setDesc.writeCellRec

theorem Kept.mcellParam {fw : Bool} {l : List Byte} (hs : Kept s₀ s) (h : s.mcellParam fw l = .accepted t) : Kept s₀ t :=
  verdict_accepted h ▸ hs.setDesc.amend.foldl fun _ _ h => h.amend

theorem Kept.mcellAnchor {fw : Bool} {l : List Byte} (hs : Kept s₀ s) (h : s.mcellAnchor fw l = .accepted t) : Kept s₀ t :=
  verdict_accepted h ▸ hs.amend

theorem Kept.trainRegister {fw : Bool} {l : List Byte}
    (hs : Kept s₀ s) (h : s.trainRegister fw l = .accepted t) : Kept s₀ t :=
  verdict_accepted h ▸ hs.amend.foldl fun _ _ h => h.amend

theorem Kept.trainRelease {fw : Bool} {l : List Byte} (hs : Kept s₀ s) (h : s.trainRelease fw l = .accepted t) : Kept s₀ t :=
  verdict_accepted h ▸ hs.amend

theorem Kept.trainModem {fw : Bool} {l : List Byte} (hs : Kept s₀ s) (h : s.trainModem fw l = .accepted t) : Kept s₀ t :=
  verdict_accepted h ▸ hs.amend.amend

theorem Kept.trackVertices {fw : Bool} {l : List Byte}
    (hs : Kept s₀ s) (h : s.trackVertices fw l = .accepted t) : Kept s₀ t :=
  verdict_accepted h ▸ hs.foldl fun _ _ h => h.foldl fun _ _ h => h.amend

theorem Kept.trackDir {fw : Bool} {l : List Byte} (hs : Kept s₀ s) (h : s.trackDir fw l = .accepted t) : Kept s₀ t :=
  verdict_accepted h ▸ hs.amend

theorem Kept.rpSet {fw : Bool} {l : List Byte} (hs : Kept s₀ s) (h : s.rpSet fw l = .accepted t) : Kept s₀ t :=
  verdict_accepted h ▸ hs.foldl fun _ _ h => h.amend

theorem Kept.mgmt1 {fw : Bool} {ops : Nat → Bool} {f : State → List Byte → Verdict} (hs : Kept s₀ s)
    (hf : ∀ {t u : State} {l : List Byte}, Kept s₀ t → f t l = .accepted u → Kept s₀ u) :
    Kept s₀ (s.mgmt1 fw ops f) := by
  unfold State.mgmt1
  obtain _ | ⟨w, l⟩ := s.mgmtNext
  · exact hs
  · refine .ite hs ?_
    extract_lets s1 v t _ t1
    have hs1 : Kept s₀ s1 := hs.headEffect.hwConsume
    have ht : Kept s₀ t := by
      unfold t
      cases h : v with
      | accepted t => exact hf hs1 h
      | _ => exact hs1
    have ht1 : Kept s₀ t1 := ht.setReg.setReg
    exact ht1.frame

theorem Kept.pushCpl (hs : Kept s₀ s) : Kept s₀ s.pushCpl := by
  unfold State.pushCpl
  extract_lets _ gone
  have hgone : Kept s₀ gone := hs.frame.put
  split
  · exact hs
  · extract_lets
    exact .ite hgone (.ite hgone.hwPush hs.put)

theorem Kept.mgmtComplete (hs : Kept s₀ s) : Kept s₀ s.mgmtComplete :=
  ((hs.mgmt1 fun _ h => Verdict.noConfusion h).mgmt1 fun _ h => Verdict.noConfusion h).pushCpl

/-! ### Machine/HostPort -/

theorem Kept.dcFlushAll (hs : Kept s₀ s) : Kept s₀ s.dcFlushAll :=
  hs.foldl (fun _ _ h => h.dcEvict)

theorem Kept.dcFlush (hs : Kept s₀ s) : Kept s₀ s.dcFlush :=
  hs.put

theorem Kept.dcFlushEnd (hs : Kept s₀ s) : Kept s₀ s.dcFlushEnd :=
  .ite hs.dcFlushAll.put hs

theorem Kept.writeHostCtrl {v : Word} (hs : Kept s₀ s) : Kept s₀ (s.writeHostCtrl v) := by
  unfold State.writeHostCtrl
  extract_lets s1
  have hs1 : Kept s₀ s1 := hs.writeFields
  exact .ite hs1.dcFlush hs1

theorem Kept.hostSnoop {line : Nat} {inv : Bool} (hs : Kept s₀ s) : Kept s₀ (s.hostSnoop line inv) := by
  unfold State.hostSnoop
  extract_lets _ s'
  have hs' : Kept s₀ s' := hs.frame
  split
  · exact hs'
  · extract_lets s1 s2
    have hs1 : Kept s₀ s1 := .ite hs'.emit hs'
    have hs2 : Kept s₀ s2 := hs1.dcEvict
    exact .ite hs2 hs2.frame

theorem Kept.linkReset (hs : Kept s₀ s) : Kept s₀ s.linkReset := by
  unfold State.linkReset
  extract_lets s1
  have hs1 : Kept s₀ s1 := hs.dcFlushAll.resetRange
  exact hs1.frame

theorem Kept.linkLost (hs : Kept s₀ s) : Kept s₀ s.linkLost := by
  unfold State.linkLost
  extract_lets s1
  have hs1 : Kept s₀ s1 := hs.linkReset.flag
  exact .ite hs1.report hs

theorem Kept.perst (hs : Kept s₀ s) : Kept s₀ s.perst :=
  .ite hs.linkLost hs.linkReset

theorem Kept.ideFail (hs : Kept s₀ s) : Kept s₀ s.ideFail := by
  unfold State.ideFail
  extract_lets s1
  have hs1 : Kept s₀ s1 := hs.linkReset.flag
  exact .ite hs1.report hs

theorem Kept.linkTrained {speed width : Nat} {flit256 : Bool} (hs : Kept s₀ s) :
    Kept s₀ (s.linkTrained speed width flit256) :=
  .ite hs (.ite hs.frame (.ite hs.put.put.put.count hs))

theorem Kept.hostConfig {w : Nat} {v : BitVec 64} (hs : Kept s₀ s) : Kept s₀ (s.hostConfig w v) := by
  unfold State.hostConfig
  extract_lets _ s'
  have hs' : Kept s₀ s' := hs.frame
  refine .ite hs ?_
  split
  · exact hs'.frame
  · exact hs'.frame
  · exact .ite hs'.frame hs'
  · exact hs'.frame
  · exact hs'.frame.put
  · exact hs'.frame.put
  · exact hs'.frame
  · exact hs'

theorem Kept.linkIdle (hs : Kept s₀ s) : Kept s₀ s.linkIdle :=
  .ite hs.frame hs

/-! ### Machine/CoreOps -/

theorem Kept.trapTo {c : Nat} {t : Trap} {deferred : Bool} {restart : BitVec 16} (hs : Kept s₀ s) :
    Kept s₀ (s.trapTo c t deferred restart) := by
  unfold State.trapTo
  extract_lets _ _ _ _ _ s1 s2
  have hs1 : Kept s₀ s1 := hs.setCore.count
  have hs2 : Kept s₀ s2 := .ite hs1.count hs1
  exact .ite hs.setCore.count.report (.ite hs2.count hs2)

theorem Kept.trap {c : Nat} {t : Trap} (hs : Kept s₀ s) : Kept s₀ (s.trap c t) :=
  hs.trapTo

theorem Kept.takeDeferred {c : Nat} (hs : Kept s₀ s) : Kept s₀ (s.takeDeferred c) := by
  unfold State.takeDeferred
  extract_lets
  split
  · exact hs
  · exact hs.setCore.count.trapTo

theorem Kept.retireTo {c : Nat} {pc : BitVec 16} (hs : Kept s₀ s) : Kept s₀ (s.retireTo c pc) := by
  unfold State.retireTo
  extract_lets
  exact hs.setCore.count

theorem Kept.retire {c : Nat} (hs : Kept s₀ s) : Kept s₀ (s.retire c) :=
  hs.retireTo

theorem Kept.mapCore {c : Nat} {f : Core → Core} (hs : Kept s₀ s) : Kept s₀ (s.mapCore c f) :=
  hs.setCore

theorem Kept.retireG {c rd : Nat} {v : DWord} (hs : Kept s₀ s) : Kept s₀ (s.retireG c rd v) :=
  hs.mapCore.retire

theorem Kept.tallied {c o n : Nat} (hs : Kept s₀ s) : Kept s₀ (s.tallied c o n) :=
  hs.count.mapCore

theorem Kept.prefetch {c gran : Nat} (hs : Kept s₀ s) : Kept s₀ (s.prefetch c gran) := by
  unfold State.prefetch
  extract_lets
  exact .ite hs.count hs.setCore.count.request

theorem Kept.raStep {c : Nat} {r : RunAhead} {use : Use} {kind : RaKind} {traps : Bool} (hs : Kept s₀ s) :
    Kept s₀ (s.raStep c r use kind traps) := by
  unfold State.raStep
  extract_lets k n inv set wait
  have hset {t : State} {x : RunAhead} (ht : Kept s₀ t) : Kept s₀ (set t x) := ht.mapCore.count
  refine .ite hs ?_
  cases kind with
  | stop => exact hs.mapCore
  | skip => exact hset hs
  | alu f => exact .ite (hset hs) (hset hs)
  | branch f taken link => exact .ite (hset hs) (.ite (hset hs.fresh) (.ite (hset hs) (hset hs)))
  | load size signed base off =>
    refine .ite (hset hs) (.ite ?_ (.ite (hset (.ite hs.count hs.prefetch)) (hset hs)))
    split <;> exact hset hs
  | store size rt base off => exact .ite (hset hs) (hset hs)
  | vunit base off bytes eb =>
    exact .ite (hset hs) (.ite (hset hs) (hset (hs.foldl fun _ _ h => .ite h.count h.prefetch)))

theorem Kept.needWait {c : Nat} {use : Use} {kind : RaKind} (hs : Kept s₀ s) : Kept s₀ (s.needWait c use kind) := by
  unfold State.needWait
  extract_lets
  split
  · exact hs
  · extract_lets
    exact hs.setCore.count.raStep

theorem Kept.trapWhenOldest {c : Nat} {t : Trap} (hs : Kept s₀ s) : Kept s₀ (s.trapWhenOldest c t) :=
  .ite hs hs.trap

theorem Kept.runInsn {c : Nat} {use : Use} {kind : RaKind} {bad chk : Option Trap} {wait oldest : Bool} {act : State}
    (hs : Kept s₀ s) (hact : Kept s₀ act) : Kept s₀ (s.runInsn c use kind bad chk wait oldest act) := by
  unfold State.runInsn
  refine .ite hs ?_
  split
  · exact hs.raStep
  · refine .ite (.ite hs hs.takeDeferred) ?_
    refine .ite (.ite hs hs.readEffect.trap) ?_
    split
    · exact hs.trapWhenOldest
    · refine .ite hs.needWait ?_
      split
      · exact hs.trapWhenOldest
      · refine .ite hs ?_
        split
        · exact hs.trapWhenOldest
        · exact hact

theorem Kept.doLoad {c rt size : Nat} {signed : Bool} {a : Nat} (hs : Kept s₀ s) :
    Kept s₀ (s.doLoad c rt size signed a) := by
  unfold State.doLoad
  extract_lets _ s1 _ s1'
  have hs1 : Kept s₀ s1 := hs.readEffect
  have hs1' : Kept s₀ s1' := hs.frame
  refine .ite hs1.mapCore.retire ?_
  split
  · exact hs.retireG.tallied.tallied
  · exact hs1'.mapCore.request.retire.tallied

theorem Kept.doStore {c size : Nat} {v : DWord} {a : Nat} (hs : Kept s₀ s) : Kept s₀ (s.doStore c size v a) := by
  unfold State.doStore
  extract_lets _ s1
  have hs1 : Kept s₀ s1 := hs.mapCore
  exact .ite hs1.writeBytes.retire hs1.request.retire

theorem Kept.dropPrefetch {c : Nat} (hs : Kept s₀ s) : Kept s₀ (s.dropPrefetch c) :=
  hs.mapCore

theorem Kept.orphan {c : Nat} {keep : List (BitVec 12)} (hs : Kept s₀ s) : Kept s₀ (s.orphan c keep) :=
  hs.frame

theorem Kept.untally {c : Nat} {l : List (Nat × Nat)} (hs : Kept s₀ s) : Kept s₀ (s.untally c l) :=
  hs.frame

theorem Kept.failOldest {c : Nat} (hs : Kept s₀ s) : Kept s₀ (s.failOldest c) := by
  unfold State.failOldest
  extract_lets _ s1
  have hs1 : Kept s₀ s1 := hs.frame
  split
  · exact hs
  · extract_lets _ _ s2
    have hs2 : Kept s₀ s2 := hs1.setCore.orphan
    split
    · exact hs
    · exact hs2.untally.trap

theorem Kept.answerLoad {c rd : Nat} {t : BitVec 12} {v : DWord} {poison : Option (BitVec 40)} (hs : Kept s₀ s) :
    Kept s₀ (s.answerLoad c rd t v poison) := by
  unfold State.answerLoad
  extract_lets s1
  have hs1 : Kept s₀ s1 := hs.frame
  exact hs1.mapCore.failOldest

theorem Kept.failLoad {c : Nat} {t : BitVec 12} {e : Nat} (hs : Kept s₀ s) : Kept s₀ (s.failLoad c t e) := by
  unfold State.failLoad
  extract_lets s1
  have hs1 : Kept s₀ s1 := hs.frame
  exact hs1.mapCore.failOldest

theorem Kept.resend {c : Nat} {r : Req} (hs : Kept s₀ s) : Kept s₀ (s.resend c r) := by
  unfold State.resend
  extract_lets
  exact hs.frame.mapCore.request

theorem Kept.badLoad {c rd size : Nat} {signed : Bool} {r : Req} {resp : Nat} {data : List Byte} (hs : Kept s₀ s) :
    Kept s₀ (s.badLoad c rd size signed r resp data) :=
  .ite hs.resend (.ite hs.answerLoad hs.failLoad)

theorem Kept.defer {c code sub : Nat} {a : BitVec 40} (hs : Kept s₀ s) : Kept s₀ (s.defer c code sub a) :=
  hs.mapCore

theorem Kept.resetCore {c : Nat} (hs : Kept s₀ s) : Kept s₀ (s.resetCore c) := by
  unfold State.resetCore
  extract_lets s1
  have hs1 : Kept s₀ s1 := hs.setCore.orphan
  exact hs1.frame

/-! ### Machine/Vector -/

theorem Kept.vRetire {c beats : Nat} {r : Core × Bool} (hs : Kept s₀ s) : Kept s₀ (s.vRetire c beats r) := by
  unfold State.vRetire
  extract_lets _ _ s1
  have hs1 : Kept s₀ s1 := hs.setCore.tallied
  exact .retire (.ite hs1.tallied hs1)

theorem Kept.vInsn {c : BitVec 8} {use : Use} {bad : Bool} {beats : Nat} {r : Core → Core × Bool} (hs : Kept s₀ s) :
    Kept s₀ (s.vInsn c use bad beats r) :=
  hs.runInsn hs.vRetire

theorem Kept.vBin {c : BitVec 8} {sc : Bool} {vd vs1 vs2 : BitVec 5} {men : Bool} {m : BitVec 3} {types : Nat → Bool}
    {f : VMode → Nat → Nat → Nat → Nat × Bool} (hs : Kept s₀ s) : Kept s₀ (s.vBin c sc vd vs1 vs2 men m types f) := by
  unfold State.vBin
  extract_lets
  exact hs.vInsn

theorem Kept.vShift {c : BitVec 8} {sc : Bool} {vd vs1 vs2 : BitVec 5} {men : Bool} {m : BitVec 3} {kind : Nat}
    (hs : Kept s₀ s) : Kept s₀ (s.vShift c sc vd vs1 vs2 men m kind) :=
  hs.vBin

theorem Kept.vUn {c : BitVec 8} {sc : Bool} {vd vs1 vs2 : BitVec 5} {men : Bool} {m : BitVec 3} {types : Nat → Bool}
    {f : VMode → Nat → Nat × Bool} (hs : Kept s₀ s) : Kept s₀ (s.vUn c sc vd vs1 vs2 men m types f) := by
  unfold State.vUn
  extract_lets
  exact hs.vInsn

theorem Kept.vWide {c : BitVec 8} {sc : Bool} {vd vs1 vs2 : BitVec 5} {men : Bool} {m : BitVec 3} {types : Nat → Bool}
    {f : VMode → Nat → Nat → Nat → Nat × Bool} (hs : Kept s₀ s) : Kept s₀ (s.vWide c sc vd vs1 vs2 men m types f) := by
  unfold State.vWide
  extract_lets
  exact hs.vInsn

theorem Kept.vNarrow {c : BitVec 8} {rs : List Nat} {bad : Bool} {vd vs1 : BitVec 5} {men : Bool} {m : BitVec 3}
    {amount : Core → Nat} (hs : Kept s₀ s) : Kept s₀ (s.vNarrow c rs bad vd vs1 men m amount) := by
  unfold State.vNarrow
  extract_lets
  exact hs.vInsn

theorem Kept.vImm {c : BitVec 8} {vd vs1 : BitVec 5} {men : Bool} {m : BitVec 3} {bad : Bool}
    {f : VMode → Nat → Nat × Bool} (hs : Kept s₀ s) : Kept s₀ (s.vImm c vd vs1 men m bad f) := by
  unfold State.vImm
  extract_lets
  exact hs.vInsn

theorem Kept.vShiftImm {c : BitVec 8} {vd vs1 : BitVec 5} {imm : BitVec 8} {men : Bool} {m : BitVec 3} {kind : Nat}
    (hs : Kept s₀ s) : Kept s₀ (s.vShiftImm c vd vs1 imm men m kind) :=
  hs.vImm

theorem Kept.vRed {c : BitVec 8} {d s1 s2 : BitVec 5} {men : Bool} {m : BitVec 3} {types : Nat → Bool}
    {f : VMode → Nat → List Nat → Nat × Bool} (hs : Kept s₀ s) : Kept s₀ (s.vRed c d s1 s2 men m types f) := by
  unfold State.vRed
  extract_lets
  exact hs.vInsn

theorem Kept.vMove {c : BitVec 8} {rs : List Nat} {d : BitVec 5} {src : List (BitVec 5)} {men : Bool} {m : BitVec 3}
    {bad apart : Bool} {twice : Nat} {is : Core → List Nat} {f : Core → Nat → Option Nat} (hs : Kept s₀ s) :
        Kept s₀ (s.vMove c rs d src men m bad apart twice is f) := by
  unfold State.vMove
  extract_lets
  exact hs.vInsn

theorem Kept.vCmp {c : BitVec 8} {d s1 s2 : BitVec 5} {men : Bool} {m : BitVec 3} {types : Nat → Bool}
    {f : VMode → Nat → Nat → Bool} (hs : Kept s₀ s) : Kept s₀ (s.vCmp c d s1 s2 men m types f) := by
  unfold State.vCmp
  extract_lets
  exact hs.vInsn

theorem Kept.vMaskOp {c : BitVec 8} {d s1 s2 : BitVec 5} {men : Bool} {m : BitVec 3} {f : Bool → Bool → Bool}
    (hs : Kept s₀ s) : Kept s₀ (s.vMaskOp c d s1 s2 men m f) := by
  unfold State.vMaskOp
  extract_lets
  exact hs.vInsn

theorem Kept.vMaskG {c : BitVec 8} {d s1 : BitVec 5} {men : Bool} {m : BitVec 3} {f : Core → List Nat → DWord}
    (hs : Kept s₀ s) : Kept s₀ (s.vMaskG c d s1 men m f) := by
  unfold State.vMaskG
  extract_lets
  exact hs.vInsn

theorem Kept.vReadEffect {c eb : Nat} {l : List (Nat × DWord)} {stop : Option (Nat × DWord)} (hs : Kept s₀ s) :
    Kept s₀ (s.vReadEffect c eb l stop) := by
  unfold State.vReadEffect
  extract_lets _ s1 s2
  have hs1 : Kept s₀ s1 := hs.foldl (fun _ _ h => .ite h.hostFetchRange h.readNote)
  have hs2 : Kept s₀ s2 := by
    unfold s2
    split
    · exact .ite hs1.rangeMiss hs1
    · exact hs1
  exact hs2.frame

theorem Kept.vStop {c i : Nat} {t : Trap} (hs : Kept s₀ s) : Kept s₀ (s.vStop c i t) :=
  hs.mapCore.trap

theorem Kept.doVld {c vt base s2 : Nat} {men : Bool} {m : BitVec 3} {mode : Nat} (hs : Kept s₀ s) :
    Kept s₀ (s.doVld c vt base s2 men m mode) := by
  unfold State.doVld
  extract_lets k eb l stop ok byte s1 k2 s2 s3
  have hs1 : Kept s₀ s1 := hs.vReadEffect
  have hs2 : Kept s₀ s2 := hs1.vRetire
  have hs3 : Kept s₀ s3 := .ite hs2.tallied hs2
  generalize stop = o
  cases o with
  | some e => exact .vStop (.ite hs1 hs1.mapCore)
  | none => exact .ite hs3.tallied hs3

theorem Kept.vRelease {c vt mode : Nat} {l : List (Nat × DWord)} (hs : Kept s₀ s) : Kept s₀ (s.vRelease c vt mode l) := by
  unfold State.vRelease
  extract_lets
  exact hs.foldl (fun _ _ h => .ite h.engPut.mapCore h.rangeMiss.defer)

theorem Kept.doVst {c vt base s2 : Nat} {men : Bool} {m : BitVec 3} {mode : Nat} (hs : Kept s₀ s) :
    Kept s₀ (s.doVst c vt base s2 men m mode) := by
  unfold State.doVst
  extract_lets _ _ _ s1
  have hs1 : Kept s₀ s1 := hs.vRelease
  split
  · exact .vStop (.ite (.ite hs.rangeMiss hs) hs.vRelease)
  · exact hs1.vRetire

/-! ### Machine/Fused -/

theorem Kept.fuRetire {c : Nat} (hs : Kept s₀ s) : Kept s₀ (s.fuRetire c) :=
  hs.tallied.retire

theorem Kept.lfsrRead {c : BitVec 8} {use : Use} {illegal mode range : Bool} {f : Core → Core} (hs : Kept s₀ s) :
    Kept s₀ (s.lfsrRead c use illegal mode range f) :=
  hs.runInsn hs.mapCore.fuRetire

theorem Kept.lfsr {c : BitVec 8} {use : Use} {illegal mode range : Bool} {f : Core → Core} (hs : Kept s₀ s) :
    Kept s₀ (s.lfsr c use illegal mode range f) :=
  hs.runInsn hs.mapCore.fuRetire

theorem Kept.pair {α : Type} {x : α} (hs : Kept s₀ s) : Kept s₀ (s, x).1 := hs

theorem Kept.pairIte {α : Type} {c : Prop} [Decidable c] {x y : α} (hs : Kept s₀ s) (ht : Kept s₀ t) :
    Kept s₀ (if c then (s, x) else (t, y)).1 := by
  split
  · exact hs
  · exact ht

theorem Kept.ilvStep {c : Nat} {o : IlvOp} {walk : List Nat} {x : State × Nat × Option (Nat × Nat × Nat)} {k : Nat}
    (hx : Kept s₀ x.1) : Kept s₀ (State.ilvStep c o walk x k).1 := by
  -- the function is unfolded as a constant: unfolding it in place makes the kernel evaluate the matched term
  obtain ⟨f, hf⟩ : ∃ f, f = @State.ilvStep := ⟨_, rfl⟩
  rw [← hf]
  delta State.ilvStep at hf
  subst hf
  beta_reduce
  cases x.2.2 with
  | some e => exact hx
  | none =>
    extract_lets s p a b
    have hs : Kept s₀ s := hx
    cases s.ilvFail c a with
    | some e => exact .pair hs.readEffect
    | none =>
      cases if o.func = 3 then s.ilvFail c b else none with
      | some e => exact .pair hs.readEffect
      | none => exact .pairIte hs hs.writeByte.mapCore

theorem Kept.ilvRun {c : Nat} (hs : Kept s₀ s) : Kept s₀ (s.ilvRun c) := by
  unfold State.ilvRun
  split
  · exact hs
  · extract_lets r _ s1 s2
    have hr : Kept s₀ r.1 := Kept.foldlAt Prod.fst hs fun _ _ h => h.ilvStep
    have hs2 : Kept s₀ s2 := hr.frame.count.mapCore
    refine .ite hs ?_
    split
    · exact hs2.defer
    · exact hs2

theorem Kept.ilvInsn {c : BitVec 8} {func : Nat} {bit : Bool} {d s1 s2 : BitVec 5} {param : BitVec 7} (hs : Kept s₀ s) :
    Kept s₀ (s.ilvInsn c func bit d s1 s2 param) := by
  unfold State.ilvInsn
  extract_lets
  exact hs.runInsn hs.mapCore.fuRetire

theorem Kept.fusedResult {c unit : Nat} (hs : Kept s₀ s) : Kept s₀ (s.fusedResult c unit) := by
  unfold State.fusedResult
  split
  · exact hs
  · extract_lets s1 src
    have hs1 : Kept s₀ s1 := .ite hs.count hs
    have hsrc : Kept s₀ src := hs1.mapCore
    exact hsrc.frame

/-! ### Machine/Mover -/

theorem Kept.setChan {k ch : Nat} {c : Chan} (hs : Kept s₀ s) : Kept s₀ (s.setChan k ch c) :=
  hs.frame

theorem Kept.setChState {k ch x : Nat} (hs : Kept s₀ s) : Kept s₀ (s.setChState k ch x) :=
  hs.put

theorem Kept.setChCur {k ch a : Nat} (hs : Kept s₀ s) : Kept s₀ (s.setChCur k ch a) :=
  hs.put.put

theorem Kept.flushOwed {due : Owed → Bool} (hs : Kept s₀ s) : Kept s₀ (s.flushOwed due) :=
  hs.frame.foldl (fun _ _ h => h.send)

theorem Kept.moverAcks {k : Nat} (hs : Kept s₀ s) : Kept s₀ (s.moverAcks k) :=
  hs.flushOwed

theorem Kept.chStop {k ch : Nat} (hs : Kept s₀ s) : Kept s₀ (s.chStop k ch) :=
  hs.setChan.setChState.moverAcks

theorem Kept.chFetch {k ch a : Nat} (hs : Kept s₀ s) : Kept s₀ (s.chFetch k ch a) :=
  hs.setChan.setChCur.setChState.moverAcks

theorem Kept.chBoundary {k ch : Nat} {d : List Byte} (hs : Kept s₀ s) : Kept s₀ (s.chBoundary k ch d) :=
  .ite hs.chStop (.ite (.ite hs.put.put.chFetch hs.chStop) hs.chFetch)

theorem Kept.chEnd {k ch status resp : Nat} {write : Bool} (hs : Kept s₀ s) : Kept s₀ (s.chEnd k ch status resp write) := by
  unfold State.chEnd
  extract_lets _ s1 s2 s3
  have hs1 : Kept s₀ s1 := hs.put.count
  have hs2 : Kept s₀ s2 := .ite hs1.count hs1
  have hs3 : Kept s₀ s3 := .ite hs2.sendEvent hs2
  exact hs3.chBoundary

theorem Kept.chHalt {k ch a : Nat} {write : Bool} {resp : Nat} {fetch fmt : Bool} (hs : Kept s₀ s) :
    Kept s₀ (s.chHalt k ch a write resp fetch fmt) := by
  unfold State.chHalt
  extract_lets s1 s2
  have hs1 : Kept s₀ s1 := hs.setReg
  have hs2 : Kept s₀ s2 := hs1.setReg
  exact hs2.setChan.setChState.count

theorem Kept.chMark {k ch : Nat} {write : Bool} {resp : Nat} {fmt : Bool} (hs : Kept s₀ s) :
    Kept s₀ (s.chMark k ch write resp fmt) := by
  unfold State.chMark
  extract_lets _ _ _ _ s1
  have hs1 : Kept s₀ s1 := hs.engWrite.flagRep
  exact .ite hs.rangeMiss.chHalt hs1.count.chEnd

theorem Kept.chFail {k ch a : Nat} {write : Bool} {resp : Nat} {fmt : Bool} (hs : Kept s₀ s) :
    Kept s₀ (s.chFail k ch a write resp fmt) :=
  .ite hs.chHalt hs.chMark

theorem Kept.chTransfer {k ch : Nat} (hs : Kept s₀ s) : Kept s₀ (s.chTransfer k ch) := by
  unfold State.chTransfer
  extract_lets _ _ _ _ _ _ _ _ _ _ s1 s2 s3 s4
  have hs1 : Kept s₀ s1 := hs.engReadEffect
  have hs2 : Kept s₀ s2 := hs1.engWrite
  have hs3 : Kept s₀ s3 := hs2.count.count
  have hs4 : Kept s₀ s4 := hs3.frame.put
  exact hs4.setChan

theorem Kept.chBegin {k ch : Nat} (hs : Kept s₀ s) : Kept s₀ (s.chBegin k ch) :=
  hs.setChState.chTransfer

theorem Kept.chEmarkStep {k ch : Nat} (hs : Kept s₀ s) : Kept s₀ (s.chEmarkStep k ch) := by
  unfold State.chEmarkStep
  extract_lets
  exact .ite hs.chBegin (.ite hs.setChan.setChState hs.put.setReg.setChan.chBegin)

theorem Kept.chPaceStep {k ch : Nat} (hs : Kept s₀ s) : Kept s₀ (s.chPaceStep k ch) := by
  unfold State.chPaceStep
  extract_lets _ _ _ s1
  have hs1 : Kept s₀ s1 := hs.setChan
  exact .ite hs.chEmarkStep (.ite hs.setChan.setChState (.ite hs1.chEmarkStep hs1.setChState))

theorem Kept.chJudge {k ch : Nat} (hs : Kept s₀ s) : Kept s₀ (s.chJudge k ch) := by
  unfold State.chJudge
  extract_lets
  exact .ite hs.chEnd (.ite hs.chFail hs.chPaceStep)

theorem Kept.chFetched {k ch : Nat} (hs : Kept s₀ s) : Kept s₀ (s.chFetched k ch) := by
  unfold State.chFetched
  extract_lets _ _ s1
  have hs1 : Kept s₀ s1 := hs.engReadEffect
  exact .ite hs (.ite hs.chStop (.ite hs1.chHalt hs1.setChan.chJudge))

theorem Kept.chDrain {k ch : Nat} (hs : Kept s₀ s) : Kept s₀ (s.chDrain k ch) := by
  unfold State.chDrain
  extract_lets
  exact .ite hs.chEnd (.ite hs.hwPush.chEnd hs.setChan)

theorem Kept.chDone {k ch : Nat} (hs : Kept s₀ s) : Kept s₀ (s.chDone k ch) := by
  unfold State.chDone
  extract_lets _ _ _ _ s1
  have hs1 : Kept s₀ s1 := hs.engReadEffect
  exact .ite hs (.ite hs.chEnd (.ite hs.chEnd (.ite hs.hwConsume.chEnd (.ite hs1.chFail hs1.setChan.chDrain))))

theorem Kept.chRefuse {k ch : Nat} (hs : Kept s₀ s) : Kept s₀ (s.chRefuse k ch) :=
  hs.flag

theorem Kept.chStart {k ch : Nat} (hs : Kept s₀ s) : Kept s₀ (s.chStart k ch) := by
  unfold State.chStart
  extract_lets
  exact .ite hs.chRefuse hs.moverWork.setChan.chFetch

theorem Kept.chStopCmd {k ch : Nat} (hs : Kept s₀ s) : Kept s₀ (s.chStopCmd k ch) := by
  unfold State.chStopCmd
  extract_lets
  exact .ite (.ite hs.setChState.chEnd hs.setChState) (.ite hs.chStop hs.chRefuse)

theorem Kept.chRetry {k ch : Nat} (hs : Kept s₀ s) : Kept s₀ (s.chRetry k ch) :=
  .ite hs.chRefuse (.ite hs.chFetch hs.chBegin)

theorem Kept.chSkip {k ch : Nat} (hs : Kept s₀ s) : Kept s₀ (s.chSkip k ch) :=
  .ite hs.chRefuse hs.setChState.chMark

theorem Kept.chArm {k ch : Nat} (hs : Kept s₀ s) : Kept s₀ (s.chArm k ch) :=
  hs.put

theorem Kept.chShadow {k ch : Nat} {hi : Bool} {v : Word} (hs : Kept s₀ s) : Kept s₀ (s.chShadow k ch hi v) :=
  .put (.ite hs.put hs.put)

theorem Kept.chCmd {k ch : Nat} {v : Word} (hs : Kept s₀ s) : Kept s₀ (s.chCmd k ch v) := by
  unfold State.chCmd
  split
  · exact hs.chStart
  · exact hs.chStopCmd
  · exact hs.chRetry
  · exact hs.chSkip
  · exact hs.chArm
  · exact hs

theorem Kept.emark {k ch : Nat} {stamp : Word} (hs : Kept s₀ s) : Kept s₀ (s.emark k ch stamp) := by
  unfold State.emark
  extract_lets s0 _ s1
  have hs0 : Kept s₀ s0 := hs.moverWork.count
  have hs1 : Kept s₀ s1 := hs0.put.setChan
  exact .ite hs.flagRep (.ite hs0.flag (.ite hs1.chEmarkStep hs1))

theorem Kept.moverSquash {k tok : Nat} (hs : Kept s₀ s) : Kept s₀ (s.moverSquash k tok) := by
  unfold State.moverSquash
  refine hs.setMirror.foldl fun _ _ h => ?_
  extract_lets
  exact .ite (.ite h.chEnd h.setChan) h

theorem Kept.moverReset {k : Nat} (hs : Kept s₀ s) : Kept s₀ (s.moverReset k) :=
  (hs.resetRange.foldl (fun _ _ h => h.setChan)).moverAcks

/-! ### Machine/Mill -/

theorem Kept.setMill {n : Nat} {x : MillSt} (hs : Kept s₀ s) : Kept s₀ (s.setMill n x) := by
  unfold State.setMill
  extract_lets s1 s2 s3
  have hs1 : Kept s₀ s1 := hs.frame
  have hs2 : Kept s₀ s2 := hs1.setReg.setReg
  have hs3 : Kept s₀ s3 := hs2.put
  exact hs3.foldl (fun _ _ h => h.put)

theorem Kept.jobEnd {n e : Nat} {d : List Byte} {status : Nat} (hs : Kept s₀ s) : Kept s₀ (s.jobEnd n e d status) := by
  unfold State.jobEnd
  extract_lets s1
  have hs1 : Kept s₀ s1 := hs.count
  exact .ite hs1.sendEvent hs1

theorem Kept.millAcks {n : Nat} (hs : Kept s₀ s) : Kept s₀ (s.millAcks n) :=
  hs.flushOwed

theorem Kept.freeJob {n e : Nat} (hs : Kept s₀ s) : Kept s₀ (s.freeJob n e) :=
  hs.setMill.millAcks

theorem Kept.jobDrop {n e : Nat} {j : MillJob} {status : Nat} (hs : Kept s₀ s) : Kept s₀ (s.jobDrop n e j status) :=
  hs.jobEnd.freeJob

theorem Kept.badJob {n q : Nat} {d : List Byte} {reason : Nat} (hs : Kept s₀ s) : Kept s₀ (s.badJob n q d reason) := by
  unfold State.badJob
  extract_lets s1
  have hs1 : Kept s₀ s1 := hs.flagRep
  exact hs1.put.put.put

theorem Kept.jobBare {n : Nat} {d : List Byte} {status : Nat} (hs : Kept s₀ s) : Kept s₀ (s.jobBare n d status) := by
  unfold State.jobBare
  extract_lets _ _ _ src
  have hsrc : Kept s₀ src := hs.engWrite.jobEnd
  exact hsrc.frame

theorem Kept.millStall {n slot : Nat} (hs : Kept s₀ s) : Kept s₀ (s.millStall n slot) := by
  unfold State.millStall
  extract_lets
  split
  · exact hs
  · exact .ite hs hs.setMill.flagRep.count

theorem Kept.millStalls {n : Nat} (hs : Kept s₀ s) : Kept s₀ (s.millStalls n) :=
  hs.foldl (fun _ _ h => h.millStall)

theorem Kept.heldEnd {n slot : Nat} (hs : Kept s₀ s) : Kept s₀ (s.heldEnd n slot) := by
  unfold State.heldEnd
  extract_lets _ gone
  have hgone : Kept s₀ gone := hs.setMill
  split
  · exact hs
  · exact .ite hgone.jobEnd (.ite hgone.jobBare hs)

theorem Kept.heldCycle {n : Nat} (hs : Kept s₀ s) : Kept s₀ (s.heldCycle n) :=
  hs.foldl (fun _ _ h => h.heldEnd)

theorem Kept.heldCycles (hs : Kept s₀ s) : Kept s₀ s.heldCycles :=
  hs.foldl (fun _ _ h => h.heldCycle)

theorem Kept.millTake {n slot : Nat} {d : List Byte} {tok : Option Nat} (hs : Kept s₀ s) :
    Kept s₀ (s.millTake n slot d tok) := by
  unfold State.millTake
  extract_lets _ s1
  have hs1 : Kept s₀ s1 := hs.badJob
  exact .ite hs.jobEnd (.ite (.ite hs1.jobBare hs1.jobEnd) hs.setMill.heldEnd.millStall)

theorem Kept.millConsume {n slot : Nat} (hs : Kept s₀ s) : Kept s₀ (s.millConsume n slot) := by
  unfold State.millConsume
  extract_lets s'
  have hs' : Kept s₀ s' := hs.heldCycle
  refine .ite hs' ?_
  refine .ite hs'.flag ?_
  split
  · exact hs'.hwConsume
  · exact hs'.headEffect.hwConsume.millTake

theorem Kept.setRun {n e : Nat} {j : MillJob} (hs : Kept s₀ s) : Kept s₀ (s.setRun n e j) :=
  hs.setMill

theorem Kept.millReadErr {n e : Nat} {j : MillJob} {resp a : Nat} (hs : Kept s₀ s) : Kept s₀ (s.millReadErr n e j resp a) :=
  hs.setRun.report

theorem Kept.millRun {n slot e : Nat} {held : MillJob} (hs : Kept s₀ s) : Kept s₀ (s.millRun n slot e held) := by
  unfold State.millRun
  extract_lets _ _ s1 src s2 _ _ _ s3 s4 s5
  have hs1 : Kept s₀ s1 := hs.setMill.put
  have hsrc : Kept s₀ src := hs1.count
  have hs2 : Kept s₀ s2 := hsrc.frame
  have hs3 : Kept s₀ s3 := hs2.engReadEffect
  have hs4 : Kept s₀ s4 := .ite hs3.engReadEffect hs3
  have hs5 : Kept s₀ s5 := hs4.count
  exact .ite hs2.setRun (.ite hs5.millReadErr (.ite hs5.millReadErr (.ite hs5.badJob.setRun hs5.setRun)))

theorem Kept.millStart {n : Nat} (hs : Kept s₀ s) : Kept s₀ (s.millStart n) := by
  unfold State.millStart
  extract_lets s0
  have hs0 : Kept s₀ s0 := hs.heldCycle.millStalls
  split
  · exact hs0
  · split
    · exact hs0
    · split
      · exact hs0
      · exact hs0.millRun

theorem Kept.millCount {n : Nat} {d : List Byte} {sat : Nat} (hs : Kept s₀ s) : Kept s₀ (s.millCount n d sat) := by
  unfold State.millCount
  refine .count ?_
  split
  · exact hs.count
  · exact hs.count
  · exact hs.count
  · exact hs.count
  · exact hs

theorem Kept.millPass {n e : Nat} {j : MillJob} {final : Bool} (hs : Kept s₀ s) : Kept s₀ (s.millPass n e j final) := by
  unfold State.millPass
  extract_lets _ _ _ _ _ _ src s1 s2
  have hsrc : Kept s₀ src := hs.engWrite
  have hs1 : Kept s₀ s1 := hsrc.frame
  have hs2 : Kept s₀ s2 := hs1.millCount
  exact .ite hs2.setRun (.ite (.setRun (.ite hs2.count hs2)) hs2.setRun)

theorem Kept.millAbort {n e : Nat} {final : Bool} (hs : Kept s₀ s) : Kept s₀ (s.millAbort n e final) := by
  unfold State.millAbort
  extract_lets cut
  have hcut : Kept s₀ cut := hs.count
  split
  · exact hs
  · extract_lets _ src
    have hsrc : Kept s₀ src := hcut.setRun
    exact .ite hs (.ite hcut.jobDrop (.ite hcut.jobDrop (.ite hsrc.frame hs.millPass)))

theorem Kept.millHeader {n e : Nat} (hs : Kept s₀ s) : Kept s₀ (s.millHeader n e) := by
  unfold State.millHeader
  split
  · exact hs
  · extract_lets
    split
    · exact hs
    · extract_lets _ s1
      have hs1 : Kept s₀ s1 := hs.engWrite
      exact hs1.jobEnd.freeJob

theorem Kept.millDiscard {n : Nat} {p : Nat → Bool} (hs : Kept s₀ s) : Kept s₀ (s.millDiscard n p) := by
  unfold State.millDiscard
  extract_lets _ _ s1
  have hs1 : Kept s₀ s1 := hs.setMill
  exact hs1.foldl (fun _ _ h => h.jobEnd)

theorem Kept.millsDiscard {p : Nat → Bool} (hs : Kept s₀ s) : Kept s₀ (s.millsDiscard p) :=
  hs.foldl (fun _ _ h => h.millDiscard)

theorem Kept.millEndAll {n : Nat} (hs : Kept s₀ s) : Kept s₀ (s.millEndAll n) := by
  unfold State.millEndAll
  extract_lets _ s1 s2
  have hs1 : Kept s₀ s1 := hs.setMill
  have hs2 : Kept s₀ s2 := hs1.foldl (fun _ _ h => h.jobEnd)
  exact (hs2.foldl (fun _ _ h => h.jobEnd)).millAcks

theorem Kept.millSquash {n tok : Nat} (hs : Kept s₀ s) : Kept s₀ (s.millSquash n tok) := by
  unfold State.millSquash
  extract_lets _ _ s1
  have hs1 : Kept s₀ s1 := hs.setMirror.setMill
  exact hs1.foldl (fun _ _ h => h.jobEnd)

theorem Kept.engineFault {n e : Nat} (hs : Kept s₀ s) : Kept s₀ (s.engineFault n e) := by
  unfold State.engineFault
  extract_lets s1 s2
  have hs1 : Kept s₀ s1 := by
    unfold s1
    split
    · exact hs.jobDrop
    · exact hs
  have hs2 : Kept s₀ s2 := hs1.flagRep.count
  exact hs2.setReg.report.millStalls

theorem Kept.millFront {n : Nat} (hs : Kept s₀ s) : Kept s₀ (s.millFront n) :=
  hs.put.putBit.millEndAll.report

theorem Kept.millCtrl {n : Nat} {v : Word} (hs : Kept s₀ s) : Kept s₀ (s.millCtrl n v) := by
  unfold State.millCtrl
  extract_lets s1
  have hs1 : Kept s₀ s1 := hs.writeFields
  exact .ite hs1.millDiscard hs1

theorem Kept.millEngines {n a : Nat} {v : Word} (hs : Kept s₀ s) : Kept s₀ (s.millEngines n a v) :=
  hs.writeFields.millStalls

/-! ### Machine/Sieve -/

theorem Kept.setSieve {t : Nat} {x : Sieve} (hs : Kept s₀ s) : Kept s₀ (s.setSieve t x) :=
  hs.frame

theorem Kept.mapSieve {t : Nat} {f : Sieve → Sieve} (hs : Kept s₀ s) : Kept s₀ (s.mapSieve t f) :=
  hs.setSieve

theorem Kept.dispatch {c rd i : Nat} (hs : Kept s₀ s) : Kept s₀ (s.dispatch c rd i) := by
  unfold State.dispatch
  extract_lets _ s' _ s1
  have hs' : Kept s₀ s' := hs.ctlRead
  have hs1 : Kept s₀ s1 := hs'.mapSieve
  exact hs1.count.mapCore.retireG

theorem Kept.event {t : Nat} {id : BitVec 16} {tok : Option (BitVec 15)} {data stamp : Word} (hs : Kept s₀ s) :
    Kept s₀ (s.event t id tok data stamp) := by
  unfold State.event
  extract_lets _ _ _ _ _ s1
  have hs1 : Kept s₀ s1 := hs.setSieve.count
  exact .ite hs.flagRep.count (.ite (.ite hs hs.setSieve.count) (.ite hs1.flag.count hs1))

theorem Kept.flowAdvance {t i : Nat} (hs : Kept s₀ s) : Kept s₀ (s.flowAdvance t i) := by
  unfold State.flowAdvance
  extract_lets s' _ s1
  have hs' : Kept s₀ s' := hs.ctlRead
  have hs1 : Kept s₀ s1 := hs'.mapSieve
  split
  · exact hs1
  · extract_lets
    exact .ite hs1.mapSieve.hwPush hs1

theorem Kept.flowStall {t i : Nat} (hs : Kept s₀ s) : Kept s₀ (s.flowStall t i) := by
  unfold State.flowStall
  extract_lets s'
  have hs' : Kept s₀ s' := hs.ctlRead
  split
  · exact .ite hs'.mapSieve.flagRep.count.sendEvent hs'
  · exact hs'

theorem Kept.flowCfg {t : Nat} {w : Word} (hs : Kept s₀ s) : Kept s₀ (s.flowCfg t w) := by
  unfold State.flowCfg
  extract_lets
  exact .ite hs.mapSieve.count (.ite hs.mapSieve (.ite hs.mapSieve.flag hs.mapSieve))

theorem Kept.notice {t tok r : Nat} {x : TokState} (hs : Kept s₀ s) : Kept s₀ (s.notice t tok r x) := by
  unfold State.notice
  extract_lets
  exact hs.launch

theorem Kept.broadcast {t tok : Nat} {x : TokState} (hs : Kept s₀ s) : Kept s₀ (s.broadcast t tok x) :=
  hs.foldl (fun _ _ h => h.notice)

theorem Kept.sieveNotice {t tok : Nat} {x : TokState} (hs : Kept s₀ s) : Kept s₀ (s.sieveNotice t tok x) := by
  unfold State.sieveNotice
  extract_lets s1
  have hs1 : Kept s₀ s1 := hs.setMirror
  split
  · exact hs1.mapSieve
  · exact hs1.mapSieve.count
  · exact hs1

theorem Kept.tokResolve {t i : Nat} {x : TokState} (hs : Kept s₀ s) : Kept s₀ (s.tokResolve t i x) := by
  unfold State.tokResolve
  extract_lets _ s1
  have hs1 : Kept s₀ s1 := hs.mapSieve
  exact hs1.count.sieveNotice.broadcast

theorem Kept.tokFree {t i : Nat} (hs : Kept s₀ s) : Kept s₀ (s.tokFree t i) := by
  unfold State.tokFree
  extract_lets s1
  have hs1 : Kept s₀ s1 := hs.mapSieve
  exact hs1.count.broadcast

theorem Kept.tokAcked {tok : Nat} {free : Bool} (hs : Kept s₀ s) : Kept s₀ (s.tokAcked tok free) := by
  unfold State.tokAcked
  extract_lets
  exact .ite hs hs.mapSieve

theorem Kept.tokCommit {t i : Nat} (hs : Kept s₀ s) : Kept s₀ (s.tokCommit t i).2 := by
  unfold State.tokCommit
  extract_lets s'
  have hs' : Kept s₀ s' := hs.ctlRead
  split
  · dsimp only
    exact hs'.tokResolve
  · dsimp only
    exact hs'
  · dsimp only
    exact hs'

theorem Kept.tokSquash {t i : Nat} (hs : Kept s₀ s) : Kept s₀ (s.tokSquash t i).2 := by
  unfold State.tokSquash
  extract_lets s'
  have hs' : Kept s₀ s' := hs.ctlRead
  split
  · dsimp only
    exact hs'.tokResolve
  · dsimp only
    exact hs'
  · dsimp only
    exact hs'

theorem Kept.tokRelease {t i : Nat} (hs : Kept s₀ s) : Kept s₀ (s.tokRelease t i).2 := by
  unfold State.tokRelease
  extract_lets s'
  have hs' : Kept s₀ s' := hs.ctlRead
  split
  · split
    · dsimp only
      exact hs'.tokFree
    · dsimp only
      exact hs'
  · split
    · dsimp only
      exact hs'.tokFree
    · dsimp only
      exact hs'
  · dsimp only
    exact hs'

theorem Kept.tokSettle {t i : Nat} (hs : Kept s₀ s) : Kept s₀ (s.tokSettle t i) := by
  unfold State.tokSettle
  extract_lets
  exact .ite hs.mapSieve hs

theorem Kept.tokCmd {t : Nat} {w : Word} (hs : Kept s₀ s) : Kept s₀ (s.tokCmd t w) := by
  unfold State.tokCmd
  extract_lets
  split
  · exact hs.tokCommit
  · exact hs.tokSquash
  · exact hs.tokRelease
  · exact hs

theorem Kept.squashTokens {t : Nat} {p : Tok → Bool} (hs : Kept s₀ s) : Kept s₀ (s.squashTokens t p) :=
  hs.foldl (fun _ _ h => h.tokResolve)

theorem Kept.sieveDruse {d : Nat} (hs : Kept s₀ s) : Kept s₀ (s.sieveDruse d) := by
  unfold State.sieveDruse
  extract_lets _ s1
  have hs1 : Kept s₀ s1 := hs.squashTokens
  exact hs1.setSieve.count

theorem Kept.sieveReset {t : Nat} (hs : Kept s₀ s) : Kept s₀ (s.sieveReset t) := by
  unfold State.sieveReset
  extract_lets s1
  have hs1 : Kept s₀ s1 := hs.squashTokens
  exact hs1.setSieve.foldl (fun _ _ h => h.tokFree)

theorem Kept.sieveInsn {c : BitVec 8} {use : Use} {illegal k : Bool} {act : State} (hs : Kept s₀ s)
    (hact : Kept s₀ act) : Kept s₀ (s.sieveInsn c use illegal k act) :=
  hs.runInsn hact.dropPrefetch

theorem Kept.service {c : BitVec 8} {func : Nat} {use : Use} {illegal : Bool} {act : State} (hs : Kept s₀ s)
    (hact : Kept s₀ act) : Kept s₀ (s.service c func use illegal act) :=
  hs.sieveInsn (.ite hs.trapTo hact)

theorem Kept.serve {t : Nat} (hs : Kept s₀ s) : Kept s₀ (s.serve t) := by
  unfold State.serve
  extract_lets
  split
  · split
    · exact hs.dispatch
    · exact hs
  · exact hs

theorem Kept.serveAll {t : Nat} (hs : Kept s₀ s) : Kept s₀ (s.serveAll t) :=
  hs.foldl (fun _ _ h => h.serve)

theorem Kept.doDispatch {c rd rs1 : Nat} (hs : Kept s₀ s) : Kept s₀ (s.doDispatch c rd rs1) := by
  unfold State.doDispatch
  extract_lets _ s'
  have hs' : Kept s₀ s' := hs.serveAll
  split
  · exact hs'.dispatch
  · exact .ite hs'.retireG hs'.mapCore.mapSieve

theorem Kept.spawn {c : Nat} {a p : DWord} (hs : Kept s₀ s) : Kept s₀ (s.spawn c a p).2.2 := by
  unfold State.spawn
  extract_lets
  split
  · exact hs
  · split
    · exact hs
    · split
      · exact hs
      · exact hs.mapSieve.count

theorem Kept.leave {c : Nat} {f : Sieve → Nat → Sieve} (hs : Kept s₀ s) : Kept s₀ (s.leave c f) := by
  unfold State.leave
  extract_lets
  split
  · exact hs.retire
  · exact hs.mapSieve.mapCore.retire

theorem Kept.setPri {c : Nat} {a p : DWord} (hs : Kept s₀ s) : Kept s₀ (s.setPri c a p).2 := by
  unfold State.setPri
  extract_lets
  split
  · dsimp only
    exact hs
  · split
    · dsimp only
      exact hs
    · dsimp only
      exact hs.mapSieve

theorem Kept.admitItem {c : Nat} {a : DWord} (hs : Kept s₀ s) : Kept s₀ (s.admitItem c a).2.2 := by
  unfold State.admitItem
  extract_lets
  split
  · exact hs
  · split
    · exact hs
    · split
      · exact hs
      · split
        · exact hs
        · exact hs.mapSieve.count

theorem Kept.settleItem {c : Nat} {a : DWord} {ev : Nat} {g : Item → Item} (hs : Kept s₀ s) :
    Kept s₀ (s.settleItem c a ev g).2 := by
  unfold State.settleItem
  extract_lets _ _ s'
  have hs' : Kept s₀ s' := hs.ctlRead
  split
  · exact hs'
  · split
    · exact hs'.mapSieve.count
    · exact hs'

theorem Kept.tokInsn {c : BitVec 8} {rd rs1 rs2 : BitVec 5} {f : Nat → Nat → Nat × State} (hs : Kept s₀ s)
    (hf : ∀ t i, Kept s₀ (f t i).2) : Kept s₀ (s.tokInsn c rd rs1 rs2 f) :=
  hs.sieveInsn (.ite hs.frame.retireG (hf _ _).retireG)

theorem Kept.attach {c : Nat} {a : DWord} (hs : Kept s₀ s) : Kept s₀ (s.attach c a).2 := by
  unfold State.attach
  extract_lets
  split
  · dsimp only
    exact hs
  · split
    · dsimp only
      exact hs.mapSieve
    · split
      · dsimp only
        exact hs.mapSieve
      · dsimp only
        exact hs

theorem Kept.ctxSave {c a : Nat} (hs : Kept s₀ s) : Kept s₀ (s.ctxSave c a) := by
  -- the function is unfolded as a constant: unfolding it in place makes the kernel evaluate the matched term
  obtain ⟨f, hf⟩ : ∃ f, f = @State.ctxSave := ⟨_, rfl⟩
  rw [← hf]
  delta State.ctxSave at hf
  subst hf
  beta_reduce
  extract_lets l
  cases s.ctxFail c a true with
  | none => exact hs.engPut.mapCore.retire
  | some e => exact hs.engPut.trap

theorem Kept.ctxRestore {c a : Nat} (hs : Kept s₀ s) : Kept s₀ (s.ctxRestore c a) := by
  -- the function is unfolded as a constant: unfolding it in place makes the kernel evaluate the matched term
  obtain ⟨f, hf⟩ : ∃ f, f = @State.ctxRestore := ⟨_, rfl⟩
  rw [← hf]
  delta State.ctxRestore at hf
  subst hf
  beta_reduce
  cases s.ctxFail c a false with
  | none => exact hs.fresh.mapCore.retire
  | some e => exact .ite hs.readEffect.trap hs.trap

theorem Kept.ctxInsn {c : BitVec 8} {rd rs1 rs2 : BitVec 5} {act : Nat → State} (hs : Kept s₀ s)
    (hact : ∀ a, Kept s₀ (act a)) : Kept s₀ (s.ctxInsn c rd rs1 rs2 act) :=
  hs.runInsn (hact _).dropPrefetch

/-! ### Machine/Twin -/

theorem Kept.setTwin {t : TwinSt} (hs : Kept s₀ s) : Kept s₀ (s.setTwin t) :=
  hs.frame

theorem Kept.twinReport {code : Nat} (hs : Kept s₀ s) : Kept s₀ (s.twinReport code) :=
  hs.report

theorem Kept.stopFollowing (hs : Kept s₀ s) : Kept s₀ s.stopFollowing :=
  hs.put

theorem Kept.releaseToken (hs : Kept s₀ s) : Kept s₀ s.releaseToken :=
  .ite hs.put.setTwin.emit hs

theorem Kept.abdicate (hs : Kept s₀ s) : Kept s₀ s.abdicate := by
  unfold State.abdicate
  extract_lets s1
  have hs1 : Kept s₀ s1 := hs.releaseToken.flag
  exact .ite (.twinReport (.ite hs1.emit hs1)) hs

theorem Kept.startClaim (hs : Kept s₀ s) : Kept s₀ s.startClaim :=
  hs.setTwin.stopFollowing.emit

theorem Kept.tryClaim (hs : Kept s₀ s) : Kept s₀ s.tryClaim :=
  .ite hs.startClaim hs

theorem Kept.claimCmd (hs : Kept s₀ s) : Kept s₀ s.claimCmd :=
  .ite hs.startClaim hs.flag

theorem Kept.writeTwinCmd {v : Word} (hs : Kept s₀ s) : Kept s₀ (s.writeTwinCmd v) :=
  .ite hs (.ite hs.claimCmd (.ite hs.abdicate hs))

theorem Kept.claimSample (hs : Kept s₀ s) : Kept s₀ s.claimSample := by
  unfold State.claimSample
  extract_lets _ s1 s2
  have hs1 : Kept s₀ s1 := hs.put.setTwin
  have hs2 : Kept s₀ s2 := hs1.flagRep.setReg
  exact .ite hs (.ite hs.releaseToken hs2.count.twinReport)

theorem Kept.peerLine {low : Bool} (hs : Kept s₀ s) : Kept s₀ (s.peerLine low) :=
  hs.put.setTwin.tryClaim

theorem Kept.leadClaim (hs : Kept s₀ s) : Kept s₀ s.leadClaim :=
  .ite hs.startClaim hs

theorem Kept.sendHeartbeat (hs : Kept s₀ s) : Kept s₀ s.sendHeartbeat := by
  unfold State.sendHeartbeat
  extract_lets _ s1
  have hs1 : Kept s₀ s1 := hs.put.count
  exact .ite hs1.emit hs

theorem Kept.twinStep {theta : ℤ} (hs : Kept s₀ s) : Kept s₀ (s.twinStep theta) := by
  unfold State.twinStep
  extract_lets s1
  have hs1 : Kept s₀ s1 := hs.put.count
  exact .ite hs.flag hs1.frame

theorem Kept.twinRate {rate : ℤ} (hs : Kept s₀ s) : Kept s₀ (s.twinRate rate) := by
  unfold State.twinRate
  extract_lets _ s1
  have hs1 : Kept s₀ s1 := hs.setReg
  exact .ite hs1 hs1.flag

theorem Kept.twinLocked {theta : ℤ} (hs : Kept s₀ s) : Kept s₀ (s.twinLocked theta) := by
  unfold State.twinLocked
  extract_lets _ _ s1
  have hs1 : Kept s₀ s1 := hs.setTwin
  exact .ite hs1.put (.ite hs1.put hs1)

theorem Kept.follow {h : TwinFrame} (hs : Kept s₀ s) : Kept s₀ (s.follow h) := by
  unfold State.follow
  extract_lets _ s0 _ s1
  have hs0 : Kept s₀ s0 := .ite hs hs.put.setTwin
  have hs1 : Kept s₀ s1 := hs0.setReg.twinLocked
  exact .ite hs0 (.ite hs1.twinStep hs1.setTwin.twinRate)

theorem Kept.validHeartbeat {h : TwinFrame} (hs : Kept s₀ s) : Kept s₀ (s.validHeartbeat h) := by
  unfold State.validHeartbeat
  extract_lets s1 s2 s3 s4
  have hs1 : Kept s₀ s1 := hs.setReg.put
  have hs2 : Kept s₀ s2 := hs1.put.count
  have hs3 : Kept s₀ s3 := .ite hs2.put hs2
  have hs4 : Kept s₀ s4 := .ite hs3.follow hs3.stopFollowing
  exact hs4.setTwin

theorem Kept.heartbeat {h : TwinFrame} (hs : Kept s₀ s) : Kept s₀ (s.heartbeat h) := by
  unfold State.heartbeat
  extract_lets s1
  have hs1 : Kept s₀ s1 := .ite (hs.foldl (fun _ _ h => h.capture)) hs
  exact .ite hs (.ite hs1.flag.twinReport (.ite hs1 hs1.validHeartbeat))

theorem Kept.heartbeatLost (hs : Kept s₀ s) : Kept s₀ s.heartbeatLost := by
  unfold State.heartbeatLost
  extract_lets s1 s2
  have hs1 : Kept s₀ s1 := hs.flagRep.put.stopFollowing
  have hs2 : Kept s₀ s2 := hs1.count.twinReport
  exact .ite hs2.setTwin.tryClaim hs

theorem Kept.abdicateFrame {h : TwinFrame} (hs : Kept s₀ s) : Kept s₀ (s.abdicateFrame h) :=
  .ite hs.setTwin.tryClaim hs

theorem Kept.writeTwinCfg {v : Word} (hs : Kept s₀ s) : Kept s₀ (s.writeTwinCfg v) := by
  unfold State.writeTwinCfg
  extract_lets s1 s2
  have hs1 : Kept s₀ s1 := hs.writeFields
  have hs2 : Kept s₀ s2 := .ite hs1 hs1.stopFollowing
  exact .ite hs2 hs2.releaseToken

theorem Kept.writeTwinRing {base cfg : Nat} {en : RF} {mask : Word} {hi : Bool} {v : Word} (hs : Kept s₀ s) :
    Kept s₀ (s.writeTwinRing base cfg en mask hi v) :=
  .ite (.ite hs hs.setReg) (.ite hs.put hs.writeFields)

theorem Kept.sendState (hs : Kept s₀ s) : Kept s₀ s.sendState := by
  unfold State.sendState
  extract_lets _ s1 _ s2
  have hs1 : Kept s₀ s1 := hs.engReadEffect.put
  have hs2 : Kept s₀ s2 := hs1.setTwin.count
  exact .ite hs2.emit hs

theorem Kept.stateFrame {h : TwinFrame} (hs : Kept s₀ s) : Kept s₀ (s.stateFrame h) := by
  unfold State.stateFrame
  extract_lets _ _ s1
  have hs1 : Kept s₀ s1 := hs.engWrite.put.count
  exact .ite hs (.ite hs.put.count (.ite hs1.sendEvent.bumpFree hs1))

/-! ### Machine/Contain -/

theorem Kept.holdCore {c : Nat} (hs : Kept s₀ s) : Kept s₀ (s.holdCore c) :=
  hs.resetCore.setHeld

theorem Kept.holdCores {l : List Nat} (hs : Kept s₀ s) : Kept s₀ (s.holdCores l) :=
  hs.foldl (fun _ _ h => h.holdCore)

theorem Kept.freeIds {nodes : List Nat} (hs : Kept s₀ s) : Kept s₀ (s.freeIds nodes) :=
  hs.frame

theorem Kept.discardDruse {d : Nat} (hs : Kept s₀ s) : Kept s₀ (s.discardDruse d) :=
  hs.sieveDruse.millsDiscard.freeIds

theorem Kept.stratumReset {t : Nat} (hs : Kept s₀ s) : Kept s₀ (s.stratumReset t) :=
  hs.holdCores.sieveReset.moverReset.millsDiscard.freeIds

theorem Kept.closeStop {node : Nat} (hs : Kept s₀ s) : Kept s₀ (s.closeStop node) := by
  unfold State.closeStop
  extract_lets _ src
  have hsrc : Kept s₀ src := hs.setStop
  exact hsrc.frame

theorem Kept.openStop {node : Nat} (hs : Kept s₀ s) : Kept s₀ (s.openStop node) :=
  hs.setStop

theorem Kept.noteRelease {d : Nat} (hs : Kept s₀ s) : Kept s₀ (s.noteRelease d) := by
  unfold State.noteRelease
  extract_lets
  exact hs.frame

theorem Kept.noteRestart {d : Nat} (hs : Kept s₀ s) : Kept s₀ (s.noteRestart d) := by
  unfold State.noteRestart
  extract_lets _ s1
  have hs1 : Kept s₀ s1 := hs.put.count
  exact hs1.frame

theorem Kept.restartDruse {d : Nat} (hs : Kept s₀ s) : Kept s₀ (s.restartDruse d) :=
  hs.noteRelease.holdCores.discardDruse.noteRestart

theorem Kept.fenceDruse {d : Nat} (hs : Kept s₀ s) : Kept s₀ (s.fenceDruse d) := by
  unfold State.fenceDruse
  extract_lets s1
  have hs1 : Kept s₀ s1 := hs.holdCores.discardDruse.closeStop.putBit
  exact hs1.frame

theorem Kept.restartRelease {d : Nat} (hs : Kept s₀ s) : Kept s₀ (s.restartRelease d) := by
  unfold State.restartRelease
  extract_lets _ _ _ s1 s2
  have hs1 : Kept s₀ s1 := hs.frame
  have hs2 : Kept s₀ s2 := .ite hs1.put hs1
  split
  · exact hs
  · exact .ite hs (.ite (hs2.foldl (fun _ _ h => h.setHeld)) hs2)

theorem Kept.isolateDie {n : Nat} (hs : Kept s₀ s) : Kept s₀ (s.isolateDie n) := by
  unfold State.isolateDie
  extract_lets s1 s2 _ _ s3 s4 s5 s6
  have hs1 : Kept s₀ s1 := hs.holdCores.closeStop.closeStop
  have hs2 : Kept s₀ s2 := hs1.stratumReset.stratumReset.millEndAll
  have hs3 : Kept s₀ s3 := hs2.frame
  have hs4 : Kept s₀ s4 := hs3.putBit.putBit.putBit.putBit
  have hs5 : Kept s₀ s5 := hs4.foldl (fun _ _ h => h.putBit)
  have hs6 : Kept s₀ s6 := hs5.rehome
  exact .ite hs (.ite hs6.frame hs6)

theorem Kept.isolateStratum {t : Nat} (hs : Kept s₀ s) : Kept s₀ (s.isolateStratum t) := by
  unfold State.isolateStratum
  extract_lets s1 s2 s3 s4
  have hs1 : Kept s₀ s1 := hs.holdCores.closeStop
  have hs2 : Kept s₀ s2 := hs1.foldl (fun _ _ h => h.closeStop)
  have hs3 : Kept s₀ s3 := hs2.stratumReset.putBit
  have hs4 : Kept s₀ s4 := hs3.foldl (fun _ _ h => h.putBit)
  exact .ite hs (.ite hs4.isolateDie hs4.rehome)

theorem Kept.dieRailOff {n : Nat} (hs : Kept s₀ s) : Kept s₀ (s.dieRailOff n) := by
  unfold State.dieRailOff
  extract_lets s1
  have hs1 : Kept s₀ s1 := hs.put.loseDie.emit
  exact .ite hs1.frame hs

theorem Kept.writeFrCfg {v : Word} (hs : Kept s₀ s) : Kept s₀ (s.writeFrCfg v) := by
  unfold State.writeFrCfg
  extract_lets s1
  have hs1 : Kept s₀ s1 := hs.writeFields
  exact .ite hs1 (.ite hs1.put.flag hs1.frame)

theorem Kept.writeFrRd {v : Word} (hs : Kept s₀ s) : Kept s₀ (s.writeFrRd v) :=
  .ite hs.flag hs.setReg

theorem Kept.writeRecord {r : Report} (hs : Kept s₀ s) : Kept s₀ (s.writeRecord r) :=
  .ite hs.frame.postWrite hs.flagRep.put.count

theorem Kept.recordDone {seq : Word} {code action : Nat} (hs : Kept s₀ s) : Kept s₀ (s.recordDone seq code action) := by
  unfold State.recordDone
  extract_lets s1 s2
  have hs1 : Kept s₀ s1 := hs.setReg
  have hs2 : Kept s₀ s2 := .ite hs1.sendEvent hs1
  exact .ite hs2.msix hs2

theorem Kept.discardNotice {action index : Nat} {seq : Word} (hs : Kept s₀ s) :
    Kept s₀ (s.discardNotice action index seq) := by
  unfold State.discardNotice
  extract_lets s1
  have hs1 : Kept s₀ s1 := hs.sendEvent
  exact .ite hs1.msix hs1

theorem Kept.contain {r : Report} (hs : Kept s₀ s) : Kept s₀ (s.contain r) := by
  unfold State.contain
  extract_lets
  split
  · exact .ite hs (.ite hs.fenceDruse.report hs.restartDruse)
  · exact hs.fenceDruse
  · exact hs.isolateStratum
  · exact hs.isolateDie
  · exact hs

theorem Kept.faultReport (hs : Kept s₀ s) : Kept s₀ s.faultReport := by
  unfold State.faultReport
  split
  · exact hs
  · extract_lets s1 s2 s3
    have hs1 : Kept s₀ s1 := hs.popReport.writeRecord
    have hs2 : Kept s₀ s2 := hs1.contain
    have hs3 : Kept s₀ s3 := .ite hs2.discardNotice hs2
    exact .ite hs (.ite hs3.abdicate hs3)

theorem Kept.found {r : Report} (hs : Kept s₀ s) : Kept s₀ (s.found r) :=
  .ite hs.millFront hs.report

theorem Kept.checkers (hs : Kept s₀ s) : Kept s₀ s.checkers := by
  unfold State.checkers
  extract_lets s1
  have hs1 : Kept s₀ s1 := hs.fresh
  split
  · exact hs1.found
  · exact hs1

theorem Kept.releaseCore {c : Nat} (hs : Kept s₀ s) : Kept s₀ (s.releaseCore c) :=
  .ite hs.setHeld hs

theorem Kept.ksCmd {op i : Nat} (hs : Kept s₀ s) : Kept s₀ (s.ksCmd op i) := by
  unfold State.ksCmd
  refine .ite hs.flagRep ?_
  split
  · exact hs.holdCore
  · exact hs.releaseCore
  · exact hs.put.restartDruse
  · exact hs.foldl (fun _ _ h => h.releaseCore)
  · exact (hs.put.foldl (fun _ _ h => h.noteRelease)).stratumReset

theorem Kept.coreHang {c : Nat} (hs : Kept s₀ s) : Kept s₀ (s.coreHang c) :=
  .ite hs.report hs

theorem Kept.safeHalt (hs : Kept s₀ s) : Kept s₀ s.safeHalt := by
  unfold State.safeHalt
  extract_lets s1
  have hs1 : Kept s₀ s1 := hs.put.put
  exact .ite hs hs1.frame.abdicate

theorem Kept.ksDisagree (hs : Kept s₀ s) : Kept s₀ s.ksDisagree :=
  .ite hs hs.put.safeHalt

theorem Kept.ksPulse (hs : Kept s₀ s) : Kept s₀ s.ksPulse :=
  .ite hs hs.frame

theorem Kept.ksSilent (hs : Kept s₀ s) : Kept s₀ s.ksSilent :=
  .ite hs.put.safeHalt hs

theorem Kept.sentinelIso {n : Nat} (hs : Kept s₀ s) : Kept s₀ (s.sentinelIso n) := by
  unfold State.sentinelIso
  extract_lets s1 s2
  have hs1 : Kept s₀ s1 := hs.holdCores.closeStop.closeStop
  have hs2 : Kept s₀ s2 := hs1.putBit
  exact .ite hs hs2.frame

theorem Kept.pinLimit {pin : Nat} (hs : Kept s₀ s) : Kept s₀ (s.pinLimit pin) := by
  unfold State.pinLimit
  extract_lets s1 _ s2
  have hs1 : Kept s₀ s1 := hs.put.put
  have hs2 : Kept s₀ s2 := hs1.count.report.emit
  exact hs2.frame

theorem Kept.pinParkEnd {pin : Nat} (hs : Kept s₀ s) : Kept s₀ (s.pinParkEnd pin) :=
  .ite hs.frame.emit hs

theorem Kept.groupLost {g : Nat} (hs : Kept s₀ s) : Kept s₀ (s.groupLost g) :=
  hs.foldl (fun _ _ h => h.cdrLoss.laneDown)

theorem Kept.clockLost {k : Nat} (hs : Kept s₀ s) : Kept s₀ (s.clockLost k) := by
  unfold State.clockLost
  extract_lets s1 _ s2
  have hs1 : Kept s₀ s1 := hs.put.flagRep.count
  have hs2 : Kept s₀ s2 := hs1.report
  exact .ite hs (.ite (.ite hs2.loseRef hs2) (.ite (.ite hs2 hs2.linkLost) hs2.groupLost))

theorem Kept.clockBack {k : Nat} (hs : Kept s₀ s) : Kept s₀ (s.clockBack k) :=
  hs.put

theorem Kept.droop {e : Nat} (hs : Kept s₀ s) : Kept s₀ (s.droop e) := by
  unfold State.droop
  extract_lets _ _ _ _ s1 _ s2 _ s3
  have hs1 : Kept s₀ s1 := hs.putBit.put.count
  have hs2 : Kept s₀ s2 := hs1.frame
  have hs3 : Kept s₀ s3 := .ite hs2.report hs2
  exact .ite hs3.report hs3

theorem Kept.droopRestore {e : Nat} (hs : Kept s₀ s) : Kept s₀ (s.droopRestore e) :=
  hs.frame

/-! ### Machine/Reset -/

theorem Kept.showFuses {applied : Bool} (hs : Kept s₀ s) : Kept s₀ (s.showFuses applied) := by
  unfold State.showFuses
  extract_lets s1 s2
  have hs1 : Kept s₀ s1 := hs.setReg.setReg
  have hs2 : Kept s₀ s2 := hs1.put.put
  exact hs2.calFuses

theorem Kept.enterPhase {p : Nat} (hs : Kept s₀ s) : Kept s₀ (s.enterPhase p) := by
  unfold State.enterPhase
  extract_lets _ s1
  have hs1 : Kept s₀ s1 := hs.frame
  exact hs1.put

theorem State.canon_powerOnBase {s : State} (h : s.canon = true) (u : State) :
    { u with regs := [], mem := [], badPar := [], hostMem := s.hostMem : State }.canon = true := by
  obtain ⟨-, -, -, -, h5⟩ := (State.canon_iff s).mp h
  exact (State.canon_iff _).mpr ⟨rfl, rfl, rfl, rfl, h5⟩

theorem Kept.powerOn {straps : Nat} (hs : Kept s₀ s) : Kept s₀ (s.powerOn straps) := by
  unfold State.powerOn
  extract_lets _ _ t t1 t2
  have ht : Kept s₀ t := ⟨fun h => State.canon_powerOnBase (hs.canon h) t, hs.pending, hs.fuse⟩
  have ht1 : Kept s₀ t1 := ht.put.put.showFuses
  have ht2 : Kept s₀ t2 := .ite ht1.emit ht1
  exact ht2.repair.enterPhase

theorem Kept.refence (hs : Kept s₀ s) : Kept s₀ s.refence := by
  unfold State.refence
  extract_lets _ s1
  have hs1 : Kept s₀ s1 := hs.put.put
  refine hs1.foldl fun _ _ h => ?_
  split
  · extract_lets s2
    have hs2 : Kept s₀ s2 := h.putBit.closeStop
    exact hs2.frame
  · exact h

theorem Kept.warmState (hs : Kept s₀ s) : Kept s₀ s.warmState := by
  unfold State.warmState
  extract_lets s0 s1
  have hs0 : Kept s₀ s0 := hs.foldl (fun _ _ h => h.emit)
  have hs1 : Kept s₀ s1 := .synceLow (.ite hs0.emit hs0)
  exact hs1.frame

theorem Kept.warmShow {old : State} (hs : Kept s₀ s) : Kept s₀ (State.warmShow old s) := by
  unfold State.warmShow
  extract_lets s1 s2 s3
  have hs1 : Kept s₀ s1 := hs.put.put.put
  have hs2 : Kept s₀ s2 := hs1.put.put
  have hs3 : Kept s₀ s3 := hs2.setReg.setReg
  exact hs3.clearTrackers.clearPending.clearValid.refence

theorem Kept.warmReset (hs : Kept s₀ s) : Kept s₀ s.warmReset := by
  unfold State.warmReset
  extract_lets s1 _ s2
  have hs1 : Kept s₀ s1 := hs.warmState.warmRegs.warmShow.showFuses
  have hs2 : Kept s₀ s2 := hs1.frame
  exact .ite hs2.setReg.enterPhase (.ite hs2.put.enterPhase hs2.enterPhase)

theorem Kept.dormantReset (hs : Kept s₀ s) : Kept s₀ s.dormantReset := by
  unfold State.dormantReset
  extract_lets _ w _ w1 w2 w3
  have hw : Kept s₀ w := hs.warmState.linkReset
  have hw1 : Kept s₀ w1 := hw.frame
  have hw2 : Kept s₀ w2 := hw1.foldl (fun _ _ h => h.setReg)
  have hw3 : Kept s₀ w3 := hw2.warmShow.showFuses.foldl (fun _ _ h => h.put.calRefresh)
  exact hw3.put.put.enterPhase

theorem Kept.startReset (hs : Kept s₀ s) : Kept s₀ s.startReset := by
  unfold State.startReset
  extract_lets t _ t1
  have ht : Kept s₀ t := hs.powerOn
  have ht1 : Kept s₀ t1 := by
    refine ⟨fun h => ?_, ht.pending, ht.fuse⟩
    obtain ⟨h1, h2, -, -, h5⟩ := (State.canon_iff t).mp (ht.canon h)
    obtain ⟨-, -, h3, h4, -⟩ := (State.canon_iff s).mp (hs.canon h)
    exact (State.canon_iff _).mpr ⟨h1, h2, h3, h4, h5⟩
  exact ht1.setReg.put.enterPhase

/-! ### Machine/Power -/

theorem Kept.setPwr {p : PwrSt} (hs : Kept s₀ s) : Kept s₀ (s.setPwr p) :=
  hs.frame

theorem Kept.avsWrite {r mv : Nat} (hs : Kept s₀ s) : Kept s₀ (s.avsWrite r mv) :=
  hs.count.emit

theorem Kept.setStep {n : Nat} {k : StepKind} {l : Nat} (hs : Kept s₀ s) : Kept s₀ (s.setStep n k l) :=
  hs.setPwr

theorem Kept.dieStep {n : Nat} (hs : Kept s₀ s) : Kept s₀ (s.dieStep n) := by
  unfold State.dieStep
  extract_lets
  exact .ite hs (.ite hs.put.setStep (.ite (.ite hs.put.avsWrite.setStep hs.put.setStep) (.ite hs.put.avsWrite.setStep hs)))

theorem Kept.stepEnd {n : Nat} (hs : Kept s₀ s) : Kept s₀ (s.stepEnd n) :=
  hs.setPwr.put

theorem Kept.writeTarget {n : Nat} {v : Word} (hs : Kept s₀ s) : Kept s₀ (s.writeTarget n v) :=
  hs.writeFields.dieStep

theorem Kept.clockDone {n : Nat} (hs : Kept s₀ s) : Kept s₀ (s.clockDone n) := by
  unfold State.clockDone
  split
  · extract_lets s1
    have hs1 : Kept s₀ s1 := hs.put
    exact .ite hs1.avsWrite.setStep hs1.stepEnd.count.dieStep
  · exact hs.put.stepEnd.count.dieStep
  · exact hs

theorem Kept.dieVdone {n : Nat} (hs : Kept s₀ s) : Kept s₀ (s.dieVdone n) := by
  unfold State.dieVdone
  split
  · exact hs.put.stepEnd.count.dieStep
  · exact hs.setStep
  · exact hs

theorem Kept.settleEnd {n : Nat} (hs : Kept s₀ s) : Kept s₀ (s.settleEnd n) := by
  unfold State.settleEnd
  split
  · exact hs.put.setStep
  · exact hs

theorem Kept.wakeEvent (hs : Kept s₀ s) : Kept s₀ s.wakeEvent := by
  unfold State.wakeEvent
  extract_lets s1
  have hs1 : Kept s₀ s1 := hs.sendEvent
  exact .ite hs1.msix hs1

theorem Kept.dieDark {n : Nat} (hs : Kept s₀ s) : Kept s₀ (s.dieDark n) :=
  hs.put.put.setPwr.loseDie.foldl (fun _ _ h => h.putBit)

theorem Kept.switchOff {d : Nat} (hs : Kept s₀ s) : Kept s₀ (s.switchOff d) := by
  unfold State.switchOff
  extract_lets s1 s2
  have hs1 : Kept s₀ s1 := hs.putBit
  have hs2 : Kept s₀ s2 := hs1.holdCores.discardDruse.closeStop
  exact .ite hs (.ite hs1 hs2.setPwr)

theorem Kept.switchOn {d : Nat} (hs : Kept s₀ s) : Kept s₀ (s.switchOn d) := by
  unfold State.switchOn
  extract_lets s1 s2
  have hs1 : Kept s₀ s1 := hs.putBit
  have hs2 : Kept s₀ s2 := hs1.putBit
  exact .ite hs (.ite hs1 hs2.setPwr)

theorem Kept.writeDruseOff {v : Word} (hs : Kept s₀ s) : Kept s₀ (s.writeDruseOff v) :=
  hs.foldl (fun _ _ h => .ite h (.ite h.switchOff h.switchOn))

theorem Kept.switchOpen {d : Nat} (hs : Kept s₀ s) : Kept s₀ (s.switchOpen d) := by
  unfold State.switchOpen
  extract_lets s1 _ s2
  have hs1 : Kept s₀ s1 := hs.putBit.loseDruse
  have hs2 : Kept s₀ s2 := hs1.setPwr
  exact .ite (.ite hs2 hs2.switchOn) hs

theorem Kept.switchSettled {d : Nat} (hs : Kept s₀ s) : Kept s₀ (s.switchSettled d) := by
  unfold State.switchSettled
  extract_lets _ s1
  have hs1 : Kept s₀ s1 := hs.setPwr
  exact .ite (.ite hs1.openStop hs1) hs

theorem Kept.cancelSleep (hs : Kept s₀ s) : Kept s₀ s.cancelSleep :=
  hs.setPwr.flagRep.count.wakeEvent

theorem Kept.sleepRequest {deep : Bool} (hs : Kept s₀ s) : Kept s₀ (s.sleepRequest deep) := by
  unfold State.sleepRequest
  extract_lets
  exact .ite hs.flag (.ite hs.cancelSleep hs.setPwr)

theorem Kept.writeSleepReq {v : Word} (hs : Kept s₀ s) : Kept s₀ (s.writeSleepReq v) := by
  unfold State.writeSleepReq
  split
  · exact hs.sleepRequest
  · exact hs.sleepRequest
  · exact hs.flag

theorem Kept.railDown {r : Nat} (hs : Kept s₀ s) : Kept s₀ (s.railDown r) :=
  .ite hs.setPwr.emit hs

theorem Kept.railUp {r : Nat} (hs : Kept s₀ s) : Kept s₀ (s.railUp r) :=
  .ite hs.setPwr.emit hs

theorem Kept.leaveStandby (hs : Kept s₀ s) : Kept s₀ s.leaveStandby :=
  hs.put.setReg.setPwr.clearTrackers.avsWrite

theorem Kept.leaveDormant (hs : Kept s₀ s) : Kept s₀ s.leaveDormant := by
  unfold State.leaveDormant
  extract_lets s1
  have hs1 : Kept s₀ s1 := hs.railUp.dormantReset.put
  exact hs1.setReg

theorem Kept.inStandby (hs : Kept s₀ s) : Kept s₀ s.inStandby := by
  unfold State.inStandby
  extract_lets _ s1
  have hs1 : Kept s₀ s1 := hs.put.setPwr
  exact .ite hs1.leaveStandby hs1

theorem Kept.hubIsLow (hs : Kept s₀ s) : Kept s₀ s.hubIsLow := by
  unfold State.hubIsLow
  extract_lets _ s1 _ s2
  have hs1 : Kept s₀ s1 := hs.frame
  have hs2 : Kept s₀ s2 := hs1.setPwr
  exact .ite hs2.setPwr hs2.inStandby

theorem Kept.afterDrain (hs : Kept s₀ s) : Kept s₀ s.afterDrain := by
  unfold State.afterDrain
  extract_lets s1 s2
  have hs1 : Kept s₀ s1 := hs.armBanks
  have hs2 : Kept s₀ s2 := hs1.foldl (fun _ _ h => .foldl (.ite h.railDown.dieDark h) (fun _ _ h => .ite h h.loseBank))
  exact hs2.setPwr.avsWrite

theorem Kept.drainStep (hs : Kept s₀ s) : Kept s₀ s.drainStep :=
  .ite hs.afterDrain hs

theorem Kept.afterFlush (hs : Kept s₀ s) : Kept s₀ s.afterFlush := by
  unfold State.afterFlush
  extract_lets s1 s2 s3
  have hs1 : Kept s₀ s1 := hs.foldl (fun _ _ h => h.stratumReset)
  have hs2 : Kept s₀ s2 := (hs1.foldl (fun _ _ h => h.millEndAll)).calStop
  have hs3 : Kept s₀ s3 := hs2.foldl (fun _ _ h => h.closeStop.closeStop)
  exact .ite hs3.setPwr.drainStep hs

theorem Kept.commitCycle (hs : Kept s₀ s) : Kept s₀ s.commitCycle := by
  unfold State.commitCycle
  extract_lets
  split
  · exact hs
  · extract_lets s1 s2
    have hs1 : Kept s₀ s1 := hs.setPwr.count
    have hs2 : Kept s₀ s2 := hs1.put.abdicate
    exact .ite hs.cancelSleep (.ite hs2.setPwr hs2.dcFlush.setPwr)

theorem Kept.enterDormant (hs : Kept s₀ s) : Kept s₀ s.enterDormant := by
  unfold State.enterDormant
  extract_lets s1 s2 _ s3 s4 s5 _ s6
  have hs1 : Kept s₀ s1 := hs.linkReset
  have hs2 : Kept s₀ s2 := hs1.foldl (fun _ _ h => h.emit)
  have hs3 : Kept s₀ s3 := hs2.frame
  have hs4 : Kept s₀ s4 := hs3.frame.foldl (fun _ _ h => h.loseBank.putBit)
  have hs5 : Kept s₀ s5 := hs4.railDown.loseHub.calStop
  have hs6 : Kept s₀ s6 := hs5.setPwr
  exact .ite hs (.ite hs6.leaveDormant hs6)

theorem Kept.exitDone (hs : Kept s₀ s) : Kept s₀ s.exitDone := by
  unfold State.exitDone
  extract_lets _ s1 s2
  have hs1 : Kept s₀ s1 := hs.put.setPwr
  have hs2 : Kept s₀ s2 := hs1.foldl (fun _ _ h => .ite h.switchOff h)
  exact ((hs2.foldl (fun _ _ h => h.dieStep)).wakeEvent).tryClaim

theorem Kept.banksDone (hs : Kept s₀ s) : Kept s₀ s.banksDone := by
  unfold State.banksDone
  extract_lets s1
  have hs1 : Kept s₀ s1 := hs.foldl (fun _ _ h => h.openStop.openStop)
  exact .ite hs1.setPwr hs1.exitDone

theorem Kept.scanEnd {b : Nat} (hs : Kept s₀ s) : Kept s₀ (s.scanEnd b) := by
  unfold State.scanEnd
  extract_lets s1
  have hs1 : Kept s₀ s1 := hs.bankEnd
  exact .ite (.ite hs1.banksDone hs1) hs

theorem Kept.dieStart {n : Nat} (hs : Kept s₀ s) : Kept s₀ (s.dieStart n) := by
  unfold State.dieStart
  extract_lets s1 s2
  have hs1 : Kept s₀ s1 := hs.put.put.put
  have hs2 : Kept s₀ s2 := by
    unfold s2
    refine hs1.foldl fun _ _ h => ?_
    extract_lets _ s1'
    have hs1' : Kept s₀ s1' := h.putBit
    exact .ite h (.ite hs1'.openStop hs1')
  exact hs2.setSieve.setSieve.ctlPower

theorem Kept.railsStep (hs : Kept s₀ s) : Kept s₀ s.railsStep := by
  unfold State.railsStep
  extract_lets s1 _ s2
  have hs1 : Kept s₀ s1 := hs.foldl (fun _ _ h => h.dieStart)
  have hs2 : Kept s₀ s2 := hs1.setPwr
  exact .ite (.ite hs2.banksDone hs2) hs

theorem Kept.hubIsUp (hs : Kept s₀ s) : Kept s₀ s.hubIsUp := by
  unfold State.hubIsUp
  extract_lets _ s1
  have hs1 : Kept s₀ s1 := hs.setPwr
  exact (hs1.foldl (fun _ _ h => h.railUp.avsWrite)).railsStep

theorem Kept.vdone {r : Nat} (hs : Kept s₀ s) : Kept s₀ (s.vdone r) := by
  unfold State.vdone
  refine .ite hs.dieVdone ?_
  split
  · exact hs.hubIsLow
  · exact hs.hubIsUp
  · exact hs

theorem Kept.avsFlag {r : Nat} (hs : Kept s₀ s) : Kept s₀ (s.avsFlag r) := by
  unfold State.avsFlag
  extract_lets s1
  have hs1 : Kept s₀ s1 := hs.flag
  exact hs1.report

theorem Kept.avsFail {r : Nat} (hs : Kept s₀ s) : Kept s₀ (s.avsFail r) := by
  unfold State.avsFail
  refine .ite ?_ ?_
  · split
    · exact hs.avsFlag.stepEnd
    · exact hs.avsFlag.stepEnd
    · exact hs
  · split
    · exact hs.avsFlag.hubIsLow
    · exact hs.avsFlag.hubIsUp
    · exact hs

theorem Kept.powerGood {r : Nat} (hs : Kept s₀ s) : Kept s₀ (s.powerGood r) :=
  .ite hs hs.setPwr.railsStep

theorem Kept.pgFail {r : Nat} (hs : Kept s₀ s) : Kept s₀ (s.pgFail r) := by
  unfold State.pgFail
  extract_lets _ s1 _ s2
  have hs1 : Kept s₀ s1 := hs.flag.setPwr
  have hs2 : Kept s₀ s2 := hs1.dieDark.report
  exact .ite hs (.ite (.railsStep (.ite hs2.setPwr hs2)) hs1.loseHub.releaseToken.put.safeHalt)

theorem Kept.drainForce {node : Nat} (hs : Kept s₀ s) : Kept s₀ (s.drainForce node) := by
  unfold State.drainForce
  extract_lets _ s1 _ s2
  have hs1 : Kept s₀ s1 := hs.flag
  have hs2 : Kept s₀ s2 := hs1.report
  exact .ite hs2.setPwr.drainStep hs

theorem Kept.wakeFire {i : Nat} (hs : Kept s₀ s) : Kept s₀ (s.wakeFire i) := by
  unfold State.wakeFire
  extract_lets s1
  have hs1 : Kept s₀ s1 := hs.putBit
  exact .ite hs1 (.ite (.ite hs1.leaveDormant hs1) (.ite hs1.leaveStandby hs1))

theorem Kept.heartbeatLoss (hs : Kept s₀ s) : Kept s₀ s.heartbeatLoss := by
  unfold State.heartbeatLoss
  extract_lets s1
  have hs1 : Kept s₀ s1 := hs.heartbeatLost
  exact .ite hs1.wakeFire hs1

theorem Kept.tokenChange {low : Bool} (hs : Kept s₀ s) : Kept s₀ (s.tokenChange low) :=
  .ite (.ite hs hs.setTwin.wakeFire) hs.peerLine

theorem Kept.i2cMatch {a : Nat} (hs : Kept s₀ s) : Kept s₀ (s.i2cMatch a) :=
  .ite hs.wakeFire hs

theorem Kept.compareWake {k : Nat} (hs : Kept s₀ s) : Kept s₀ (s.compareWake k) := by
  unfold State.compareWake
  extract_lets _ s1
  have hs1 : Kept s₀ s1 := hs.compareFire
  exact .ite hs1.wakeFire hs1

/-! ### Machine/Boot -/

theorem Kept.setBoot {b : BootSt} (hs : Kept s₀ s) : Kept s₀ (s.setBoot b) :=
  hs.frame

theorem Kept.ctlCleared (hs : Kept s₀ s) : Kept s₀ s.ctlCleared :=
  .ite hs hs.frame.enterPhase

theorem Kept.noImage (hs : Kept s₀ s) : Kept s₀ s.noImage := by
  unfold State.noImage
  extract_lets s1
  have hs1 : Kept s₀ s1 := hs.foldl (fun _ _ h => h.railDown.dieDark.closeStop.closeStop)
  exact hs1.holdCores.enterPhase

theorem Kept.pllLocked (hs : Kept s₀ s) : Kept s₀ s.pllLocked := by
  unfold State.pllLocked
  extract_lets s1 s2 s3
  have hs1 : Kept s₀ s1 := hs.foldl (fun _ _ h => h.railUp)
  have hs2 : Kept s₀ s2 := (hs1.foldl (fun _ _ h => h.dieStart)).holdCores
  have hs3 : Kept s₀ s3 := .ite hs2 hs2.put
  exact .ite hs (.ite hs3.put.put.noImage hs3.enterPhase)

theorem Kept.copyFails {reason sect : Nat} {wrote : Bool} (hs : Kept s₀ s) : Kept s₀ (s.copyFails reason sect wrote) := by
  unfold State.copyFails
  extract_lets s1 s2
  have hs1 : Kept s₀ s1 := .put (.ite hs.put hs.put)
  have hs2 : Kept s₀ s2 := hs1.startReset
  exact .ite hs1.noImage (.ite hs1.startReset (.ite hs2.frame.noImage hs1.noImage))

theorem Kept.goLive (hs : Kept s₀ s) : Kept s₀ s.goLive := by
  unfold State.goLive
  extract_lets s0 s1 _ s2 _ s3 s4
  have hs0 : Kept s₀ s0 := hs.enterPhase
  have hs1 : Kept s₀ s1 := .ite hs0.put hs0
  have hs2 : Kept s₀ s2 := hs1.foldl (fun _ _ h => h.writeTarget)
  have hs3 : Kept s₀ s3 := hs2.openMgmt.foldl (fun _ _ h => h.setCellState)
  have hs4 : Kept s₀ s4 := hs3.put.calLive
  exact .ite hs4.setPwr.wakeEvent hs4

theorem Kept.fwReady {v : Word} (hs : Kept s₀ s) : Kept s₀ (s.fwReady v) := by
  unfold State.fwReady
  extract_lets s1
  have hs1 : Kept s₀ s1 := hs.writeFields
  exact .ite hs1.goLive hs1

theorem Kept.fwLate (hs : Kept s₀ s) : Kept s₀ s.fwLate := by
  unfold State.fwLate
  extract_lets s1
  have hs1 : Kept s₀ s1 := hs.flag
  exact .ite hs1.report.goLive hs

theorem Kept.released (hs : Kept s₀ s) : Kept s₀ s.released := by
  unfold State.released
  extract_lets s1 s2
  have hs1 : Kept s₀ s1 := hs.foldl (fun _ _ h => .ite h.releaseCore h)
  have hs2 : Kept s₀ s2 := hs1.enterPhase
  exact .ite hs2.goLive hs2

theorem Kept.rollback {v : Word} (hs : Kept s₀ s) : Kept s₀ (s.rollback v) := by
  unfold State.rollback
  extract_lets
  exact .ite hs.put.setBoot hs

theorem State.rollbackDone_canon (h : s.canon = true) : s.rollbackDone.canon = true := by
  unfold State.rollbackDone
  split
  · exact State.canon_put _ _ (State.canon_put _ _ h)
  · exact h

theorem Kept.flashCtrl {v : Word} (hs : Kept s₀ s) : Kept s₀ (s.flashCtrl v) := by
  unfold State.flashCtrl
  extract_lets s1
  have hs1 : Kept s₀ s1 := hs.writeFields
  exact .ite hs1 (.ite hs1.flag (.ite hs1 hs1.put.emit))

theorem Kept.flashDone {data : List Byte} (hs : Kept s₀ s) : Kept s₀ (s.flashDone data) := by
  unfold State.flashDone
  extract_lets s1
  have hs1 : Kept s₀ s1 := hs.put
  exact .ite hs (.ite hs1 (hs1.foldl (fun _ _ h => h.put)))

theorem Kept.globalRst {v : Word} (hs : Kept s₀ s) : Kept s₀ (s.globalRst v) :=
  .ite hs.warmReset hs

/-! ### Machine/Fh -/

theorem Kept.dropFrame {p : Nat} (hs : Kept s₀ s) : Kept s₀ (s.dropFrame p) :=
  hs.put.count

theorem Kept.captureFrame {p : Nat} (hs : Kept s₀ s) : Kept s₀ (s.captureFrame p) :=
  hs.foldl (fun _ _ h => h.capture)

theorem Kept.rxDeliver {p : Nat} {f : List Byte} {r : Option Nat} {e : Option Ecpri} {eaxc : Nat} (hs : Kept s₀ s) :
    Kept s₀ (s.rxDeliver p f r e eaxc) := by
  unfold State.rxDeliver
  extract_lets _ _ _ s1 s2 _ _ _ _ _ s3 s4 s5
  have hs1 : Kept s₀ s1 := .ite hs.count hs
  have hs2 : Kept s₀ s2 := .ite hs1.captureFrame hs1
  have hs3 : Kept s₀ s3 := hs2.engWrite
  have hs4 : Kept s₀ s4 := .ite hs3.engWrite hs3
  have hs5 : Kept s₀ s5 := .ite hs4 hs4.put
  exact .ite hs2.dropFrame hs5.hwPush

theorem Kept.rxFec {p corr unc : Nat} (hs : Kept s₀ s) : Kept s₀ (s.rxFec p corr unc) := by
  unfold State.rxFec
  extract_lets s1 s2
  have hs1 : Kept s₀ s1 := hs.put.count
  have hs2 : Kept s₀ s2 := hs1.put.count
  exact .ite hs1 hs2.flagRepN.portReport

theorem Kept.rxFrame {p : Nat} {f : List Byte} {fcsOk : Bool} (hs : Kept s₀ s) : Kept s₀ (s.rxFrame p f fcsOk) := by
  unfold State.rxFrame
  extract_lets s1 _ s2
  have hs1 : Kept s₀ s1 := hs.count.count
  have hs2 : Kept s₀ s2 := hs1.bumpFree
  exact .ite hs (.ite hs1.count.dropFrame (.ite hs1.dropFrame (.ite hs2.dropFrame hs2.rxDeliver)))

theorem Kept.rxOutside {p : Nat} {f : List Byte} {fcsOk : Bool} {corr unc : Nat} (hs : Kept s₀ s) :
    Kept s₀ (s.rxOutside p f fcsOk corr unc) := by
  unfold State.rxOutside
  extract_lets s1
  have hs1 : Kept s₀ s1 := .ite hs.emit hs
  exact .ite hs (.ite hs1.rxFec.rxFrame hs1.rxFrame)

theorem Kept.txEnd {p : Nat} {d : List Byte} {status : Nat} (hs : Kept s₀ s) : Kept s₀ (s.txEnd p d status) := by
  unfold State.txEnd
  extract_lets s1 _ s2
  have hs1 : Kept s₀ s1 := hs.put
  have hs2 : Kept s₀ s2 := hs1.frame
  exact .ite hs2.sendEvent hs2

theorem Kept.setPortTx {p : Nat} {t : PortTx} (hs : Kept s₀ s) : Kept s₀ (s.setPortTx p t) :=
  hs.frame

theorem Kept.twoStep {p : Nat} {d f : List Byte} (hs : Kept s₀ s) : Kept s₀ (s.twoStep p d f) := by
  unfold State.twoStep
  split
  · exact .ite hs.count.pushTxts hs
  · exact hs

theorem Kept.txStart {p : Nat} {d f : List Byte} (hs : Kept s₀ s) : Kept s₀ (s.txStart p d f) := by
  unfold State.txStart
  extract_lets s1
  have hs1 : Kept s₀ s1 := hs.flagRep.count
  refine .ite hs.put.count.txEnd ?_
  split
  · exact .ite hs1.txEnd.bumpFree hs.count.setPortTx
  · exact hs.twoStep.setPortTx

theorem Kept.txTake {p : Nat} (hs : Kept s₀ s) : Kept s₀ (s.txTake p) := by
  unfold State.txTake
  extract_lets _ _ s1 _ s2
  have hs1 : Kept s₀ s1 := hs.engReadEffect
  have hs2 : Kept s₀ s2 := hs1.engReadEffect
  exact .ite hs (.ite hs1.txEnd (.ite hs1.txEnd (.ite hs2.txEnd (.ite hs2.txEnd (.ite hs2.setPortTx hs2.txStart)))))

theorem Kept.txLaunchNow {p : Nat} (hs : Kept s₀ s) : Kept s₀ (s.txLaunchNow p) := by
  unfold State.txLaunchNow
  split
  · exact .ite hs hs.txStart
  · exact hs

theorem Kept.txOut {p : Nat} {t : PortTx} (hs : Kept s₀ s) : Kept s₀ (s.txOut p t) := by
  unfold State.txOut
  extract_lets _ s1
  have hs1 : Kept s₀ s1 := .ite hs hs.emit
  exact .ite hs1.rxFrame hs1

theorem Kept.txDone {p : Nat} (hs : Kept s₀ s) : Kept s₀ (s.txDone p) := by
  unfold State.txDone
  split
  · exact .ite hs.count.txOut.txEnd hs
  · exact hs

theorem Kept.setJesd {j : Nat} {x : JesdSt} (hs : Kept s₀ s) : Kept s₀ (s.setJesd j x) :=
  hs.frame

theorem Kept.writeJesdCfg {j : Nat} {v : Word} (hs : Kept s₀ s) : Kept s₀ (s.writeJesdCfg j v) := by
  unfold State.writeJesdCfg
  extract_lets _ _ _ s1 _ s2
  have hs1 : Kept s₀ s1 := hs.writeFields
  have hs2 : Kept s₀ s2 := .ite hs1 hs1.put
  exact .ite hs.writeFields.flag (.ite hs1.setJesd.put (.ite hs2 hs2.setJesd))

theorem Kept.writeJesdParam {j : Nat} {v : Word} (hs : Kept s₀ s) : Kept s₀ (s.writeJesdParam j v) :=
  .ite hs hs.writeFields

theorem Kept.writeJesdRing {j off : Nat} {v : Word} (hs : Kept s₀ s) : Kept s₀ (s.writeJesdRing j off v) := by
  unfold State.writeJesdRing
  extract_lets
  split
  · exact .ite hs hs.setJesd
  · exact .ite hs hs.setJesd
  · exact .ite hs hs.setJesd
  · exact hs

theorem Kept.jesdSysref {k : Nat} {at_ : BitVec 64} (hs : Kept s₀ s) : Kept s₀ (s.jesdSysref k at_) := by
  unfold State.jesdSysref
  refine hs.foldl fun _ _ h => ?_
  extract_lets
  refine .ite h ?_
  split
  · exact h.setJesd
  · exact .ite h.setJesd (.ite h h.flag.count)

theorem Kept.jesdWrite {j c : Nat} {l : List Word} (hs : Kept s₀ s) : Kept s₀ (s.jesdWrite j c l) := by
  unfold State.jesdWrite
  extract_lets _ _ s1
  have hs1 : Kept s₀ s1 := hs.foldl (fun _ _ h => h.engWrite)
  exact hs1.setJesd

theorem Kept.jesdLock {j : Nat} (hs : Kept s₀ s) : Kept s₀ (s.jesdLock j) :=
  .ite hs (hs.put.foldl (fun _ _ h => h.put.laneLocked))

theorem Kept.jesdBlock {j : Nat} {crcOk : Bool} {samples : List (List Word)} (hs : Kept s₀ s) :
    Kept s₀ (s.jesdBlock j crcOk samples) := by
  unfold State.jesdBlock
  extract_lets _ s1 s2 _ _ s3
  have hs1 : Kept s₀ s1 := hs.jesdLock
  have hs2 : Kept s₀ s2 := .ite hs1 hs1.flagRep.count
  have hs3 : Kept s₀ s3 := hs2.foldl (fun _ _ h => h.jesdWrite)
  exact .ite hs (.ite hs3.setJesd hs3.setJesd)

theorem Kept.jesdEntry {j : Nat} (hs : Kept s₀ s) : Kept s₀ (s.jesdEntry j) := by
  unfold State.jesdEntry
  extract_lets
  split
  · exact hs
  · extract_lets s1
    have hs1 : Kept s₀ s1 := hs.setJesd
    exact .ite hs1.hwPush.bumpFree hs1

theorem Kept.jesdEmpty {j ch : Nat} (hs : Kept s₀ s) : Kept s₀ (s.jesdEmpty j ch) := by
  unfold State.jesdEmpty
  extract_lets
  exact .ite hs hs.setJesd.flagRep.count

theorem Kept.jesdSend {j ch n : Nat} (hs : Kept s₀ s) : Kept s₀ (s.jesdSend j ch n) := by
  unfold State.jesdSend
  extract_lets _ _ _ _ s1 s2 s3
  have hs1 : Kept s₀ s1 := hs.foldl (fun _ _ h => h.engReadEffect)
  have hs2 : Kept s₀ s2 := hs1.setJesd
  have hs3 : Kept s₀ s3 := .ite hs2 hs2.emit
  exact .ite hs3.jesdEmpty hs3

theorem Kept.jesdStart {j n : Nat} (hs : Kept s₀ s) : Kept s₀ (s.jesdStart j n) :=
  .ite (hs.setJesd.foldl (fun _ _ h => h.jesdSend)) hs

theorem Kept.jesdUnderrun {j ch : Nat} (hs : Kept s₀ s) : Kept s₀ (s.jesdUnderrun j ch) := by
  unfold State.jesdUnderrun
  extract_lets
  exact .ite hs hs.jesdSend

/-! ### Machine/Idle -/

theorem Kept.fireUnit {k : Nat} (hs : Kept s₀ s) : Kept s₀ (s.fireUnit k) :=
  .ite hs.compareWake.jesdSysref hs.compareWake

theorem Kept.armUnit {k : Nat} (hs : Kept s₀ s) : Kept s₀ (s.armUnit k) :=
  hs.fireUnit.arm

theorem Kept.idleStep (hs : Kept s₀ s) : Kept s₀ (idleStep s) := by
  have hs2 : Kept s₀ (((List.range 64).filter fun k =>
      s.tick.on (F.TIME_CMP_STAT_ARMED k) && (s.tick.cmpLive k).due).foldl State.fireUnit s.tick) :=
    hs.tick.foldl fun _ _ h => h.fireUnit
  exact .ite hs (hs2.foldl fun _ _ h => h.endPulse).linkIdle.heldCycles

/-! ### Machine/Perf -/

theorem Kept.clrAll (hs : Kept s₀ s) : Kept s₀ s.clrAll :=
  hs.frame

theorem Kept.latchCounter {init i : Nat} (hs : Kept s₀ s) : Kept s₀ (s.latchCounter init i) :=
  hs.frame

theorem Kept.writeDumpCfg {v : Word} (hs : Kept s₀ s) : Kept s₀ (s.writeDumpCfg v) := by
  unfold State.writeDumpCfg
  extract_lets s1
  have hs1 : Kept s₀ s1 := hs.writeFields
  exact .ite hs1.put.flag hs1

theorem Kept.dumpNext (hs : Kept s₀ s) : Kept s₀ s.dumpNext := by
  unfold State.dumpNext
  extract_lets _ s1
  have hs1 : Kept s₀ s1 := hs.postWrite
  exact .ite hs.put hs1.frame

theorem Kept.dumpDone (hs : Kept s₀ s) : Kept s₀ s.dumpDone :=
  hs.setReg.count.dumpNext

theorem Kept.dumpStart (hs : Kept s₀ s) : Kept s₀ s.dumpStart := by
  unfold State.dumpStart
  extract_lets _ _ _ src
  have hsrc : Kept s₀ src := hs.put
  exact .ite hs.flagRep.count (.ite hs.flag.count (.ite hs.flagRep.count hsrc.frame.dumpNext))

/-! ### Machine/Regs -/

theorem Kept.regReadEffect {init a : Nat} (hs : Kept s₀ s) : Kept s₀ (s.regReadEffect init a) := by
  unfold State.regReadEffect
  split
  · exact hs.takeEffect
  · split
    · exact hs.latchCounter
    · exact hs.ungateAt.ctlRead

theorem Kept.writeGlobal {a : Nat} {v : Word} (hs : Kept s₀ s) : Kept s₀ (s.writeGlobal a v) :=
  .ite hs.ksCmd (.ite hs.setReg (.ite hs.writeFrCfg (.ite hs.writeFrRd (.ite hs.globalRst hs.writeFields))))

theorem Kept.writeTimebase {k off a : Nat} {v : Word} (hs : Kept s₀ s) : Kept s₀ (s.writeTimebase k off a v) := by
  unfold State.writeTimebase
  split
  · exact hs.writeTb
  · exact hs.writeTb
  · exact hs.writeFields
  · exact hs.writeRate
  · exact .ite hs.stepGo hs
  · exact hs.writeFields

theorem Kept.writeTime {a : Nat} {v : Word} (hs : Kept s₀ s) : Kept s₀ (s.writeTime a v) := by
  unfold State.writeTime
  refine .ite hs.writeRefCfg ?_
  refine .ite hs.snapshot ?_
  refine .ite hs.writeSynce ?_
  split
  · exact hs.writeTimebase
  · split
    · exact .ite hs.fireUnit.writeFields.arm hs.writeFields
    · exact hs.writeFields
    · split
      · exact hs.commitEpoch
      · exact .ite hs.popTxts hs
      · exact hs.writeFields

theorem Kept.writeQmgr {a : Nat} {v : Word} (hs : Kept s₀ s) : Kept s₀ (s.writeQmgr a v) := by
  unfold State.writeQmgr
  refine .ite hs.qWrite ?_
  split
  · exact hs.doorbell
  · exact hs.writeFields

theorem Kept.writeChan {k ch off a : Nat} {v : Word} (hs : Kept s₀ s) : Kept s₀ (s.writeChan k ch off a v) := by
  unfold State.writeChan
  split
  · exact hs.chCmd
  · exact .ite hs.writeFields hs
  · exact hs.writeFields
  · exact hs.chShadow
  · exact hs.chShadow
  · exact hs.writeFields

theorem Kept.writeMover {a : Nat} {v : Word} (hs : Kept s₀ s) : Kept s₀ (s.writeMover a v) := by
  unfold State.writeMover
  split
  · split
    · exact hs.writeChan
    · exact hs.writeFields
  · exact hs

theorem Kept.writeSieve {a : Nat} {v : Word} (hs : Kept s₀ s) : Kept s₀ (s.writeSieve a v) := by
  unfold State.writeSieve
  split
  · exact hs.flowCfg
  · exact hs.tokCmd
  · exact hs.writeFields

theorem Kept.writeClose {node : Nat} {v : Bool} (hs : Kept s₀ s) : Kept s₀ (s.writeClose node v) :=
  .ite hs.closeStop (.ite hs hs.openStop)

theorem Kept.clearDrops {node : Nat} (hs : Kept s₀ s) : Kept s₀ (s.clearDrops node) :=
  hs.setStop

theorem Kept.writeStop {v : Word} (hs : Kept s₀ s) : Kept s₀ (s.writeStop v) := by
  unfold State.writeStop
  extract_lets _ s1
  have hs1 : Kept s₀ s1 := .ite hs hs.writeClose
  exact .ite hs (.ite hs1.clearDrops hs1)

theorem Kept.writeBridgeDis {v : Word} (hs : Kept s₀ s) : Kept s₀ (s.writeBridgeDis v) :=
  hs.foldl (fun _ _ h => .ite h h.putBit.putBit)

theorem Kept.setRoute {ni dst : Nat} {e : BitVec 7} (hs : Kept s₀ s) : Kept s₀ (s.setRoute ni dst e) :=
  hs.frame

theorem Kept.writeVein {a : Nat} {v : Word} (hs : Kept s₀ s) : Kept s₀ (s.writeVein a v) :=
  .ite hs.writeBridgeDis (.ite hs.writeStop (.ite (.ite hs hs.setRoute) hs.writeFields))

theorem Kept.writeLane {l off a : Nat} {v : Word} (hs : Kept s₀ s) : Kept s₀ (s.writeLane l off a v) := by
  unfold State.writeLane
  split
  · exact hs.writeLaneCfg
  · exact hs.writeDfe
  · exact hs.writeDfe
  · exact hs.writeDfe
  · exact hs.writeFfe
  · exact hs.writePrbs
  · exact hs.writeLaneCmd
  · exact hs.writeFields

theorem Kept.writePort {p off a : Nat} {v : Word} (hs : Kept s₀ s) : Kept s₀ (s.writePort p off a v) := by
  unfold State.writePort
  split
  · exact hs.writePortCfg
  · exact hs.writeTxRing
  · exact hs.writeTxRing
  · exact hs.writeFields

theorem Kept.writeJesd {j off a : Nat} {v : Word} (hs : Kept s₀ s) : Kept s₀ (s.writeJesd j off a v) :=
  .ite hs.writeJesdCfg (.ite hs.writeJesdParam (.ite hs.writeJesdRing hs.writeFields))

theorem Kept.writeFh {a : Nat} {v : Word} (hs : Kept s₀ s) : Kept s₀ (s.writeFh a v) := by
  unfold State.writeFh
  split
  · exact .ite hs.writeGrp hs.writeFields
  · split
    · exact hs.writeLane
    · split
      · exact hs.writePort
      · split
        · exact hs.writeFields
        · split
          · exact hs.writeJesd
          · exact hs

theorem Kept.writeHost {a : Nat} {v : Word} (hs : Kept s₀ s) : Kept s₀ (s.writeHost a v) := by
  unfold State.writeHost
  refine .ite hs.writeHostCtrl ?_
  split <;> exact hs.writeFields

theorem Kept.writePower {a : Nat} {v : Word} (hs : Kept s₀ s) : Kept s₀ (s.writePower a v) := by
  unfold State.writePower
  refine .ite hs.writeSleepReq ?_
  refine .ite hs.writeDruseOff ?_
  split
  · exact hs.writeTarget
  · exact hs.writeFields

theorem Kept.writeCal {a : Nat} {v : Word} (hs : Kept s₀ s) : Kept s₀ (s.writeCal a v) := by
  unfold State.writeCal
  refine .ite hs.calRun ?_
  split
  · exact hs.writeCalUser
  · exact hs.writeFields

theorem Kept.writeMem {a : Nat} {v : Word} (hs : Kept s₀ s) : Kept s₀ (s.writeMem a v) := by
  unfold State.writeMem
  split
  · exact hs.initClr
  · exact hs.writeFields

theorem Kept.writeCorr {a : Nat} {v : Word} (hs : Kept s₀ s) : Kept s₀ (s.writeCorr a v) :=
  .ite hs.corrCtrl (.ite hs.corrData hs.writeFields)

theorem Kept.writeMill {a : Nat} {v : Word} (hs : Kept s₀ s) : Kept s₀ (s.writeMill a v) := by
  unfold State.writeMill
  split
  · exact hs.millCtrl
  · exact hs.millEngines
  · exact hs.millEngines
  · exact hs.writeFields

theorem Kept.writePerf {a : Nat} {v : Word} (hs : Kept s₀ s) : Kept s₀ (s.writePerf a v) := by
  unfold State.writePerf
  refine .ite (.ite hs.clrAll hs) ?_
  refine .ite hs.setReg ?_
  refine .ite hs.writeDumpCfg ?_
  refine .ite (.ite hs.dumpStart hs) ?_
  split
  · exact .ite hs.writeFields hs
  · exact hs.writeFields

theorem Kept.writeTwin {a : Nat} {v : Word} (hs : Kept s₀ s) : Kept s₀ (s.writeTwin a v) :=
  .ite hs.writeTwinCfg (.ite hs.writeTwinCmd (.ite hs.writeTwinRing (.ite hs.writeTwinRing (.ite hs.writeTwinRing
      (.ite hs.writeTwinRing hs.writeFields)))))

theorem Kept.writeBoot {a : Nat} {v : Word} (hs : Kept s₀ s) : Kept s₀ (s.writeBoot a v) :=
  .ite hs.rollback (.ite hs.fwReady (.ite hs.flashCtrl hs.writeFields))

theorem Kept.regWrite {a : Nat} {v : Word} (hs : Kept s₀ s) : Kept s₀ (s.regWrite a v) := by
  unfold State.regWrite
  extract_lets s'
  have hs' : Kept s₀ s' := hs.ungateAt
  split
  · exact hs'.writeGlobal
  · exact hs'.writeTime
  · exact hs'.writeQmgr
  · exact hs'.writeMover
  · exact hs'.writeSieve
  · exact hs'.writeVein
  · exact hs'.writeFh
  · exact hs'.writeHost
  · exact hs'.writePower
  · exact hs'.writeCal
  · exact hs'.writeMem
  · exact hs'.writeCorr
  · exact hs'.writeMill
  · exact hs'.writePerf
  · exact hs'.writeTwin
  · exact hs'.writeBoot
  · exact hs'

/-! ### Machine/Scalar -/

theorem Kept.regOp {c : BitVec 8} {rd rs1 rs2 : BitVec 5} {f : DWord → DWord → DWord} (hs : Kept s₀ s) :
    Kept s₀ (s.regOp c rd rs1 rs2 f) :=
  hs.runInsn hs.retireG

theorem Kept.regOp1 {c : BitVec 8} {rd rs1 rs2 : BitVec 5} {f : DWord → DWord} (hs : Kept s₀ s) :
    Kept s₀ (s.regOp1 c rd rs1 rs2 f) :=
  hs.runInsn hs.retireG

theorem Kept.immOp {c : BitVec 8} {rd rs1 : BitVec 5} {bad : Bool} {f : DWord → DWord} (hs : Kept s₀ s) :
    Kept s₀ (s.immOp c rd rs1 bad f) :=
  hs.runInsn hs.retireG

theorem Kept.loadOp {c : BitVec 8} {rt base : BitVec 5} {off : BitVec 16} {size : Nat} {signed : Bool}
    (hs : Kept s₀ s) : Kept s₀ (s.loadOp c rt base off size signed) := by
  unfold State.loadOp
  extract_lets
  exact hs.runInsn hs.doLoad

theorem Kept.storeOp {c : BitVec 8} {rt base : BitVec 5} {off : BitVec 16} {size : Nat} (hs : Kept s₀ s) :
    Kept s₀ (s.storeOp c rt base off size) := by
  unfold State.storeOp
  extract_lets
  exact hs.runInsn hs.doStore

theorem Kept.doAtomic {c rd fn : Nat} {v : DWord} {a : Nat} (hs : Kept s₀ s) : Kept s₀ (s.doAtomic c rd fn v a) := by
  unfold State.doAtomic
  extract_lets _ s1
  have hs1 : Kept s₀ s1 := hs.frame
  exact hs1.mapCore.request.retire

theorem Kept.atomicOp {c : BitVec 8} {rd rs1 rs2 : BitVec 5} {fn : Nat} (hs : Kept s₀ s) :
    Kept s₀ (s.atomicOp c rd rs1 rs2 fn) := by
  unfold State.atomicOp
  extract_lets
  exact hs.runInsn hs.doAtomic

theorem Kept.branchOp {c : BitVec 8} {rs1 rs2 : BitVec 5} {off : BitVec 16} {f : DWord → DWord → Bool}
    (hs : Kept s₀ s) : Kept s₀ (s.branchOp c rs1 rs2 off f) := by
  unfold State.branchOp
  extract_lets
  exact hs.runInsn hs.retireTo

theorem Kept.endReq {r : Req} (hs : Kept s₀ s) : Kept s₀ (s.endReq r) :=
  hs.frame.wakeId

theorem Kept.lateResponse {p : Packet} (hs : Kept s₀ s) : Kept s₀ (s.lateResponse p) := by
  unfold State.lateResponse
  extract_lets s1
  have hs1 : Kept s₀ s1 := hs.flagRep.count
  exact hs1.frame.wakeId

theorem Kept.fillPrefetch {c : Nat} {r : Req} {p : Packet} (hs : Kept s₀ s) : Kept s₀ (s.fillPrefetch c r p) :=
  hs.endReq.mapCore

/-! ### Machine/Fabric -/

theorem Kept.respond {p : Packet} {op resp : Nat} {data : List Byte} {poison : BitVec 32} (hs : Kept s₀ s) :
    Kept s₀ (s.respond p op resp data poison) :=
  hs.send

theorem Kept.delivered {p : Packet} (hs : Kept s₀ s) : Kept s₀ (s.delivered p) :=
  hs.send

theorem Kept.dropParity {p : Packet} (hs : Kept s₀ s) : Kept s₀ (s.dropParity p) := by
  unfold State.dropParity
  extract_lets s1
  have hs1 : Kept s₀ s1 := hs.arrive.flagRep.count
  exact hs1.setReg.fresh

theorem Kept.niCheck {p : Packet} (hs : Kept s₀ s) : Kept s₀ (s.niCheck p) := by
  unfold State.niCheck
  extract_lets s1 s2
  have hs1 : Kept s₀ s1 := .ite hs hs.flag.count
  have hs2 : Kept s₀ s2 := hs1.flagRepN.count.setReg
  exact .ite hs1 hs2.report

theorem Kept.received {p : Packet} (hs : Kept s₀ s) : Kept s₀ (s.received p) :=
  .ite hs hs.niCheck

theorem Kept.dropPosted {n : Nat} (hs : Kept s₀ s) : Kept s₀ (s.dropPosted n) :=
  hs.count.setStop

theorem Kept.dropOther {n : Nat} (hs : Kept s₀ s) : Kept s₀ (s.dropOther n) :=
  hs.count.setStop

theorem Kept.memRead {p : Packet} (hs : Kept s₀ s) : Kept s₀ (s.memRead p) := by
  unfold State.memRead
  extract_lets
  exact hs.readEffect.respond

theorem Kept.memWrite {p : Packet} (hs : Kept s₀ s) : Kept s₀ (s.memWrite p) :=
  hs.writePoison

theorem Kept.memAtom {p : Packet} (hs : Kept s₀ s) : Kept s₀ (s.memAtom p) := by
  unfold State.memAtom
  extract_lets _ _ _ s1
  have hs1 : Kept s₀ s1 := hs.readEffect
  exact .ite hs1.writeBytes.respond hs1.respond

theorem Kept.memPerform {p : Packet} (hs : Kept s₀ s) : Kept s₀ (s.memPerform p) := by
  unfold State.memPerform
  split
  · exact hs.memRead
  · exact hs.memWrite.respond
  · exact hs.memWrite.delivered
  · exact hs.memAtom

theorem Kept.refuse {p : Packet} {resp : Nat} (hs : Kept s₀ s) : Kept s₀ (s.refuse p resp) := by
  unfold State.refuse
  split
  · exact hs.respond
  · exact .delivered (.ite hs.dropPosted hs)
  · exact hs.respond

theorem Kept.memAccess {p : Packet} {line : Nat} (hs : Kept s₀ s) : Kept s₀ (s.memAccess p line) := by
  unfold State.memAccess
  split
  · extract_lets s1
    have hs1 : Kept s₀ s1 := hs.emit.count
    exact hs1.frame
  · exact hs.memPerform

theorem Kept.hostPerform {p : Packet} {h : Nat} {given : List Byte} (hs : Kept s₀ s) :
    Kept s₀ (s.hostPerform p h given) := by
  unfold State.hostPerform
  extract_lets _ s1 s2
  have hs1 : Kept s₀ s1 := .ite (hs.withHostMem (mapWf_foldl_mapIns _ _ _ _)) hs
  have hs2 : Kept s₀ s2 := .ite (hs1.foldl (fun _ _ h => h.dcFetch)) hs1.count
  split
  · exact hs2.fresh.respond
  · exact hs.hostWriteBytes.delivered
  · exact hs.hostWriteBytes.respond

theorem Kept.hostRequest {p : Packet} (hs : Kept s₀ s) : Kept s₀ (s.hostRequest p) := by
  unfold State.hostRequest
  extract_lets
  split
  · exact hs.rangeMiss.refuse
  · extract_lets s1
    have hs1 : Kept s₀ s1 := .ite hs.hostAskRead hs.hostAskWrite
    exact .ite hs.refuse (.ite hs.hostPerform hs1.frame)

theorem Kept.hostAnswer {p : Packet} (hs : Kept s₀ s) : Kept s₀ (s.hostAnswer p) := by
  unfold State.hostAnswer
  extract_lets
  split
  · exact hs
  · extract_lets s1 s2
    have hs1 : Kept s₀ s1 := hs.frame
    have hs2 : Kept s₀ s2 := by
      unfold s2
      split
      · exact hs1.rangeMiss.refuse
      · exact hs1.hostPerform
    exact .ite hs2 hs2.msixRelease

theorem Kept.regRd {p : Packet} (hs : Kept s₀ s) : Kept s₀ (s.regRd p) := by
  unfold State.regRd
  extract_lets _ s1
  have hs1 : Kept s₀ s1 := hs.regReadEffect
  exact .ite hs.respond (.ite hs1.respond hs1.respond)

theorem Kept.regWr {p : Packet} (hs : Kept s₀ s) : Kept s₀ (s.regWr p) := by
  unfold State.regWr
  extract_lets
  exact .ite hs.refuse (.ite hs.regWrite.delivered hs.regWrite.respond)

theorem Kept.serveRequest {p : Packet} (hs : Kept s₀ s) : Kept s₀ (s.serveRequest p) := by
  unfold State.serveRequest
  split
  · exact .ite hs.regRd (.ite hs.refuse hs.regWr)
  · exact hs.hostRequest
  · exact .ite hs.memAccess hs.refuse

theorem Kept.requestArrives {p : Packet} (hs : Kept s₀ s) : Kept s₀ (s.requestArrives p) := by
  unfold State.requestArrives
  refine .ite hs.dropParity ?_
  refine .ite hs ?_
  split
  · exact hs.arrive.refuse
  · exact hs.arrive.received.serveRequest

theorem Kept.postedArrives {p : Packet} (hs : Kept s₀ s) : Kept s₀ (s.postedArrives p) := by
  unfold State.postedArrives
  refine .ite hs.dropParity ?_
  refine .ite hs ?_
  split
  · exact hs.arrive.dropPosted.delivered
  · exact .ite hs.arrive.delivered hs.arrive.received.serveRequest

theorem Kept.complete {r : Req} {resp : Nat} {data : List Byte} (hs : Kept s₀ s) : Kept s₀ (s.complete r resp data) := by
  unfold State.complete
  extract_lets c s1 take
  have hs1 : Kept s₀ s1 := hs.endReq
  have htake {rd size : Nat} {signed : Bool} : Kept s₀ (take rd size signed) := .ite hs1.answerLoad hs1.badLoad
  split
  · exact htake
  · exact htake
  · exact .ite hs1 hs1.defer
  · exact hs.fillPrefetch
  · exact hs1.dumpNext
  · exact hs1.tokAcked
  · exact hs1
  · exact hs1

theorem Kept.responseArrives {p : Packet} (hs : Kept s₀ s) : Kept s₀ (s.responseArrives p) := by
  unfold State.responseArrives
  extract_lets s1
  have hs1 : Kept s₀ s1 := hs.arrive.received
  refine .ite hs.dropParity ?_
  refine .ite hs ?_
  split
  · exact hs.arrive.dropOther
  · split
    · exact hs1.complete
    · exact hs1.lateResponse

theorem Kept.deliveryArrives {p : Packet} (hs : Kept s₀ s) : Kept s₀ (s.deliveryArrives p) := by
  unfold State.deliveryArrives
  extract_lets s1
  have hs1 : Kept s₀ s1 := hs.arrive
  refine .ite hs.dropParity ?_
  split
  · exact hs1.dropOther
  · split
    · exact hs1.lateResponse
    · split
      · exact hs1.endReq.recordDone
      · exact hs1.endReq.dumpDone
      · exact hs1.endReq

theorem Kept.ackArrives {p : Packet} (hs : Kept s₀ s) : Kept s₀ (s.ackArrives p) := by
  unfold State.ackArrives
  extract_lets s1
  have hs1 : Kept s₀ s1 := hs.arrive
  refine .ite hs.dropParity ?_
  split
  · exact hs1.dropOther
  · split
    · exact hs1.lateResponse
    · split
      · exact hs1.endReq.tokAcked
      · exact hs1.lateResponse

theorem Kept.reserveId {r : Req} (hs : Kept s₀ s) : Kept s₀ (s.reserveId r) := by
  unfold State.reserveId
  extract_lets s1
  have hs1 : Kept s₀ s1 := hs.frame
  exact .ite hs1.flag hs1

theorem Kept.timeout {init txn : BitVec 12} (hs : Kept s₀ s) : Kept s₀ (s.timeout init txn) := by
  unfold State.timeout
  extract_lets
  split
  · exact hs
  · extract_lets s1 s2
    have hs1 : Kept s₀ s1 := hs.reserveId.count
    have hs2 : Kept s₀ s2 := .ite hs1.report hs1
    exact hs2.complete

theorem Kept.eventArrives {p : Packet} (hs : Kept s₀ s) : Kept s₀ (s.eventArrives p) := by
  unfold State.eventArrives
  extract_lets s1
  have hs1 : Kept s₀ s1 := hs.arrive
  refine .ite hs.dropParity ?_
  split
  · exact hs1.dropOther
  · split
    · exact hs1.event
    · exact hs1

theorem Kept.emarkArrives {p : Packet} (hs : Kept s₀ s) : Kept s₀ (s.emarkArrives p) := by
  unfold State.emarkArrives
  extract_lets s1
  have hs1 : Kept s₀ s1 := hs.arrive
  refine .ite hs.dropParity ?_
  split
  · exact hs1.dropOther
  · split
    · exact hs1.emark
    · exact .ite hs1.emark hs1

theorem Kept.noticeAt {r : Nat} {p : Packet} (hs : Kept s₀ s) : Kept s₀ (s.noticeAt r p) := by
  unfold State.noticeAt
  extract_lets _ _ s1 s1'
  have hs1 : Kept s₀ s1 := hs.moverSquash
  have hs1' : Kept s₀ s1' := hs.millSquash
  exact .ite hs.sieveNotice.send (.ite (.ite hs1.frame.moverAcks hs.setMirror.send) (.ite (.ite hs1'.frame.millAcks
      hs.setMirror.send) hs.qmNotice.send))

theorem Kept.noticeArrives {p : Packet} (hs : Kept s₀ s) : Kept s₀ (s.noticeArrives p) :=
  .ite hs.dropParity (.ite hs (.ite hs.arrive.send hs.arrive.noticeAt))

theorem Kept.drain {node : Nat} (hs : Kept s₀ s) : Kept s₀ (s.drain node) :=
  .ite hs.setStop.drainStep hs

/-! ### Machine/HostSide -/

theorem Kept.portRead {init a : Nat} (hs : Kept s₀ s) : Kept s₀ (s.portRead init a) :=
  .ite hs (.ite hs hs.regReadEffect)

theorem Kept.portWrite {init a : Nat} {v : Word} (hs : Kept s₀ s) : Kept s₀ (s.portWrite init a v) :=
  .ite hs (.ite hs hs.regWrite)

theorem Kept.linkAwake (hs : Kept s₀ s) : Kept s₀ s.linkAwake :=
  hs.frame

theorem Kept.barErr {u resp : Nat} {write : Bool} (hs : Kept s₀ s) : Kept s₀ (s.barErr u resp write) :=
  hs.setReg.flag.count

theorem Kept.barReadUnit {off : Nat} {be : List Bool} {b : BarRead} {u : Nat} (hb : Kept s₀ b.st) :
    Kept s₀ (BarRead.unit off be b u).st :=
  .ite hb.portRead hb

theorem Kept.bar0Read {off : Nat} {be : List Bool} (hs : Kept s₀ s) : Kept s₀ (s.bar0Read off be) := by
  unfold State.bar0Read
  extract_lets b bytes
  have hb : Kept s₀ b.st := Kept.foldlAt BarRead.st hs.linkAwake fun _ _ h => h.barReadUnit
  refine .ite hs ?_
  split
  · exact hb.emit
  · exact hb.barErr.emit

theorem Kept.barWriteUnit {off : Nat} {data : List Byte} {be : List Bool} {x : State × Option (Nat × Nat)} {u : Nat}
    (hx : Kept s₀ x.1) : Kept s₀ (barWriteUnit off data be x u).1 :=
  .ite hx.portWrite hx

theorem Kept.bar0Write {off : Nat} {data : List Byte} {be : List Bool} (hs : Kept s₀ s) :
    Kept s₀ (s.bar0Write off data be) := by
  unfold State.bar0Write
  extract_lets x
  have hx : Kept s₀ x.1 := Kept.foldlAt Prod.fst hs.linkAwake fun _ _ h => h.barWriteUnit
  refine .ite hs ?_
  split
  · exact hx
  · exact .ite hx.barErr.emit hx.barErr

theorem Kept.bar2Write {off : Nat} {data : List Byte} (hs : Kept s₀ s) : Kept s₀ (s.bar2Write off data) := by
  unfold State.bar2Write
  extract_lets s0
  have hs0 : Kept s₀ s0 := hs.linkAwake
  exact .ite hs (.ite hs0.flagRep (.ite hs0.flagRep hs0.portWrite.count))

theorem Kept.bar2Read {off : Nat} (hs : Kept s₀ s) : Kept s₀ (s.bar2Read off) := by
  unfold State.bar2Read
  extract_lets s0
  have hs0 : Kept s₀ s0 := hs.linkAwake
  exact .ite hs (.ite hs0.emit (.ite hs0.flagRep.emit hs0.portRead.emit))

theorem Kept.bar4Read {off : Nat} (hs : Kept s₀ s) : Kept s₀ (s.bar4Read off) := by
  unfold State.bar4Read
  extract_lets s0 _ _ s1
  have hs0 : Kept s₀ s0 := hs.linkAwake
  have hs1 : Kept s₀ s1 := hs0.portRead
  exact .ite hs (.ite hs0.flagRep.count.emit (.ite hs0.emit (.ite hs1.emit hs0.emit)))

theorem Kept.hdmErr {off resp : Nat} {write : Bool} (hs : Kept s₀ s) : Kept s₀ (s.hdmErr off resp write) :=
  hs.setReg.flagRep

theorem Kept.trackLine {line : Nat} (hs : Kept s₀ s) : Kept s₀ (s.trackLine line) := by
  unfold State.trackLine
  extract_lets _ s1
  have hs1 : Kept s₀ s1 := .ite hs.biOne hs
  exact .ite hs hs1.frame

theorem Kept.hdmRead {off : Nat} (hs : Kept s₀ s) : Kept s₀ (s.hdmRead off) := by
  unfold State.hdmRead
  extract_lets s0 fail
  have hs0 : Kept s₀ s0 := hs.linkAwake.count
  have hfail {t : State} {resp : Nat} {bytes : List Byte} (ht : Kept s₀ t) : Kept s₀ (fail t resp bytes) := ht.hdmErr.emit
  refine .ite hs ?_
  split
  · exact hfail hs0
  · extract_lets a r s1
    have hs1 : Kept s₀ s1 := hs0.readEffect.trackLine
    exact .ite (hfail hs0) (.ite hs1.emit (hfail hs1))

theorem Kept.hdmWrite {off : Nat} {data : List Byte} (hs : Kept s₀ s) : Kept s₀ (s.hdmWrite off data) := by
  unfold State.hdmWrite
  extract_lets s0
  have hs0 : Kept s₀ s0 := hs.linkAwake.count
  refine .ite hs ?_
  split
  · exact hs0.hdmErr
  · extract_lets
    exact .ite hs0.hdmErr hs0.writeBytes

theorem Kept.snoopAnswer {a : Nat} {data : Option (List Byte)} (hs : Kept s₀ s) : Kept s₀ (s.snoopAnswer a data) := by
  unfold State.snoopAnswer
  extract_lets _ s1
  have hs1 : Kept s₀ s1 := by
    unfold s1
    split
    · exact .ite hs.writeBytes hs
    · exact hs
  refine .ite hs ?_
  split
  · exact hs1
  · extract_lets s2
    have hs2 : Kept s₀ s2 := hs1.frame
    exact hs2.memAccess

theorem Kept.i2cRead {a : Nat} (hs : Kept s₀ s) : Kept s₀ (s.i2cRead a) := by
  unfold State.i2cRead
  extract_lets s1 s2
  have hs1 : Kept s₀ s1 := hs.portRead
  have hs2 : Kept s₀ s2 := .ite hs1 hs1.flag
  exact .ite hs hs2.emit

theorem Kept.i2cWrite {a : Nat} {v : Word} (hs : Kept s₀ s) : Kept s₀ (s.i2cWrite a v) := by
  unfold State.i2cWrite
  extract_lets s1
  have hs1 : Kept s₀ s1 := hs.portWrite
  exact .ite hs (.ite hs1 hs1.flag)

theorem Kept.jtagWrite {a : Nat} {data : List Byte} (hs : Kept s₀ s) : Kept s₀ (s.jtagWrite a data) :=
  .ite hs.engWrite (.ite hs hs.portWrite)

theorem Kept.jtagRead {a n : Nat} (hs : Kept s₀ s) : Kept s₀ (s.jtagRead a n) :=
  .ite (.ite hs.emit hs.portRead.emit) hs.exactEffect.emit

theorem Kept.debugResume {c : Nat} (hs : Kept s₀ s) : Kept s₀ (s.debugResume c) :=
  .ite hs.setCore hs

/-! ### Machine/Image -/

theorem Kept.pass1 {img : List Byte} {readOk : Bool} (hs : Kept s₀ s) : Kept s₀ (s.pass1 img readOk) := by
  unfold State.pass1
  extract_lets
  exact .ite hs (.ite hs.copyFails (.ite hs.copyFails (.ite hs.copyFails (.ite hs.copyFails (.ite hs.copyFails
      hs.setBoot.enterPhase)))))

theorem Kept.runAll {l : List (State → Applied)} (hs : Kept s₀ s)
    (hl : ∀ f ∈ l, ∀ t, Kept s₀ t → Kept s₀ (f t).2) : Kept s₀ (Machine.runAll s l).2 := by
  have hgo (r : Applied) (hr : Kept s₀ r.2) :
      Kept s₀ (l.foldl (fun r f => if r.1 ≠ 0 ∨ r.2.boot.work ≠ s.boot.work then r else f r.2) r).2 := by
    induction l generalizing r with
    | nil => exact hr
    | cons f l ih =>
      refine ih (fun g hg => hl g (List.mem_cons_of_mem f hg)) _ ?_
      dsimp only
      split
      · exact hr
      · exact hl f List.mem_cons_self _ hr
  exact hgo _ hs

theorem Kept.bootWrite {rights : Bool} {a : Nat} {v : Word} (hs : Kept s₀ s) : Kept s₀ (s.bootWrite rights a v).2 := by
  unfold State.bootWrite
  split
  · exact hs
  · exact hs.regWrite

theorem Kept.bootStore {a : Nat} {l : List Byte} (hs : Kept s₀ s) : Kept s₀ (s.bootStore a l).2 := by
  unfold State.bootStore
  dsimp only
  exact hs.engWrite

theorem Kept.regWrites {l : List Byte} {keep : Nat → Bool} (hs : Kept s₀ s) : Kept s₀ (s.regWrites l keep).2 :=
  hs.runAll (by
    simp only [List.mem_map]
    rintro _ ⟨r, -, rfl⟩ t ht
    exact ht.bootWrite)

theorem Kept.routesSect {l : List Byte} (hs : Kept s₀ s) : Kept s₀ (s.routesSect l).2 := by
  unfold State.routesSect
  split
  · exact hs
  · exact hs.foldl (fun _ _ h => h.setRoute)

theorem Kept.queuesSect {l : List Byte} (hs : Kept s₀ s) : Kept s₀ (s.queuesSect l).2 :=
  hs.runAll (by
    simp only [List.mem_flatMap, List.mem_append, List.mem_map, List.mem_cons, List.not_mem_nil, or_false]
    rintro _ ⟨r, -, ((rfl | rfl) | ⟨i, -, rfl⟩) | rfl⟩ t ht <;> exact ht.bootWrite)

theorem Kept.calUserSect {l : List Byte} (hs : Kept s₀ s) : Kept s₀ (s.calUserSect l).2 :=
  hs.runAll (by
    simp only [List.mem_map]
    rintro _ ⟨r, -, rfl⟩ t ht
    exact ht.bootWrite)

theorem Kept.markInit {l : List Nat} (hs : Kept s₀ s) : Kept s₀ (s.markInit l) :=
  hs.foldl (fun _ _ h => h.putBit)

theorem Kept.fillSect {l : List (Nat × List Byte)} (hs : Kept s₀ s) : Kept s₀ (s.fillSect l).2 := by
  have hr : Kept s₀ (Machine.runAll s (l.map fun e t => t.bootStore e.1 e.2)).2 := hs.runAll (by
    simp only [List.mem_map]
    rintro _ ⟨e, -, rfl⟩ t ht
    exact ht.bootStore)
  exact .ite hr.markInit hr

theorem Kept.fwSect {arg : Nat} {l : List Byte} (hs : Kept s₀ s) : Kept s₀ (s.fwSect arg l).2 :=
  hs.runAll (by
    simp only [List.mem_map]
    rintro _ ⟨c, -, rfl⟩ t ht
    exact ht.bootStore.frame)

theorem Kept.trackSect {l : List Byte} (hs : Kept s₀ s) : Kept s₀ (s.trackSect l) := by
  unfold State.trackSect
  extract_lets _ _ s1
  have hs1 : Kept s₀ s1 := hs.foldl (fun _ _ h => h.amend)
  exact hs1.foldl (fun _ _ h => h.foldl (fun _ _ h => h.amend))

theorem Kept.cellsSect {l : List Byte} (hs : Kept s₀ s) : Kept s₀ (s.cellsSect l) := by
  unfold State.cellsSect
  extract_lets s1
  have hs1 : Kept s₀ s1 := hs.foldl (fun _ _ h => h.foldl (fun _ _ h => h.amend))
  exact hs1.foldl (fun _ _ h => h.setDesc.writeCellRec)

theorem Kept.seal (hs : Kept s₀ s) : Kept s₀ s.seal := by
  unfold State.seal
  extract_lets s1 s2
  have hs1 : Kept s₀ s1 := hs.setReg.put
  have hs2 : Kept s₀ s2 := hs1.foldl (fun _ _ h => h.setReg)
  exact .ite hs hs2.put

theorem Kept.section_ {img : List Byte} {x : Sect} (hs : Kept s₀ s) : Kept s₀ (s.section_ img x).2 := by
  have hite {c : Prop} [Decidable c] {r : Applied} (hr : Kept s₀ r.2) : Kept s₀ (if c then r else (8, s)).2 := by
    split
    · exact hr
    · exact hs
  unfold State.section_
  dsimp only
  split
  · exact hs
  · split
    · exact hite hs.regWrites
    · split
      · exact hs.fillSect
      · exact hs
    · exact hite hs.fwSect
    · exact hite hs.trackSect
    · exact hite hs.cellsSect
    · exact hite hs.queuesSect
    · exact hite hs.routesSect
    · exact hite hs.calUserSect
    · exact hite hs.seal

theorem Kept.sections {img : List Byte} {l : List (Sect × Nat)} (hs : Kept s₀ s) : Kept s₀ (s.sections img l).2.2 := by
  induction l generalizing s with
  | nil => exact hs
  | cons e l ih =>
    have hr : Kept s₀ (s.section_ img e.1).2 := hs.section_
    unfold State.sections
    dsimp only
    split
    · exact hr
    · split
      · exact hr
      · exact ih hr

theorem Kept.pass2 {img : List Byte} {readOk : Bool} (hs : Kept s₀ s) : Kept s₀ (s.pass2 img readOk) := by
  unfold State.pass2
  extract_lets
  refine .ite hs ?_
  refine .ite hs.copyFails ?_
  refine .ite hs.copyFails ?_
  split
  · exact hs.copyFails
  · exact .ite hs.sections.copyFails (.ite hs.sections hs.sections.enterPhase.released)

theorem Kept.reloadSects {img : List Byte} (hs : Kept s₀ s) : Kept s₀ (s.reloadSects img) :=
  hs.foldl (fun _ _ h => .ite h.fwSect (.ite h.regWrites h))

theorem Kept.reload {img : List Byte} {readOk : Bool} (hs : Kept s₀ s) : Kept s₀ (s.reload img readOk) := by
  unfold State.reload
  extract_lets s1 _ s1'
  have hs1 : Kept s₀ s1 := hs.flag
  have hs1' : Kept s₀ s1' := hs.reloadSects
  exact .ite hs (.ite hs1.report.exitDone ((hs1'.foldl (fun _ _ h => .ite h.releaseCore h)).exitDone))

/-! ### Commands -/

/-- If a command completes, then in a state that comes from `s` as `Kept` says. -/
def Keeps (s : State) (o : Host.Outcome State Fault Refusal) : Prop := ∀ t, o = .next t → Kept s t

theorem Keeps.next (h : Kept s t) : Keeps s (.next t) := by
  rintro _ ⟨⟩
  exact h

theorem Keeps.fault {r : Fault} : Keeps s (.fault r) := by
  rintro _ ⟨⟩

theorem Keeps.ite {p : Prop} [Decidable p] {o o' : Host.Outcome State Fault Refusal} (h : Keeps s o) (h' : Keeps s o') :
    Keeps s (if p then o else o') := by
  split
  · exact h
  · exact h'

/-- A command on a unit that the device may have or not. -/
theorem Keeps.unit {p : Prop} [Decidable p] (h : Kept s t) : Keeps s (if p then .next t else .fault .noSuchUnit) :=
  .ite (.next h) .fault

/-- What every command but ROLLBACK_PROGRAMMED keeps. -/
theorem exec_keeps {c : Instr} (hc : c ≠ .rollbackProgrammed) (s : State) : Keeps s (exec c s) := by
  have hs := Kept.refl s
  cases c with
  | registerWrite => exact .next (.ite hs.regWrite hs)
  | powerOnReset => exact .next hs.powerOn
  | warmReset => exact .next hs.warmReset
  | globalRst => exact .next hs.globalRst
  | controlMemoryCleared => exact .next hs.ctlCleared
  | startPllLock => exact .next hs.pllLocked
  | imagePass1 => exact .next hs.pass1
  | imagePass2 => exact .next hs.pass2
  | ready => exact .next hs.fwReady
  | fwTmoExpiry => exact .next hs.fwLate
  | advance => exact .next hs.rollback
  | rollbackProgrammed => exact absurd rfl hc
  | flashGo => exact .next hs.flashCtrl
  | flashCommandDone => exact .next hs.flashDone
  | cellActivate | cellDeactivate | cellReady | cellDrained => exact .next (hs.mgmt1 fun h hv => h.cellMove hv)
  | cellModify => exact .next (hs.mgmt1 fun h hv => h.cellModify hv)
  | mcellParam => exact .next (hs.mgmt1 fun h hv => h.mcellParam hv)
  | mcellAnchor => exact .next (hs.mgmt1 fun h hv => h.mcellAnchor hv)
  | trainRegister => exact .next (hs.mgmt1 fun h hv => h.trainRegister hv)
  | trainRelease => exact .next (hs.mgmt1 fun h hv => h.trainRelease hv)
  | trainModem => exact .next (hs.mgmt1 fun h hv => h.trainModem hv)
  | trackVertices => exact .next (hs.mgmt1 fun h hv => h.trackVertices hv)
  | trackDir => exact .next (hs.mgmt1 fun h hv => h.trackDir hv)
  | rpSet => exact .next (hs.mgmt1 fun h hv => h.rpSet hv)
  | mgmtCompletion => exact .next hs.mgmtComplete
  | relock => exact .next hs.relock
  | refSourceSwitch => exact .next hs.writeRefCfg
  | refLost => exact .next hs.loseRef
  | refGood => exact .next hs.goodRef
  | rate => exact .next hs.writeRate
  | stepGo => exact .next hs.stepGo
  | stepApply => exact .next hs.stepApply
  | timebaseValueWrite => exact .next hs.writeTb
  | mask => exact .next hs.snapshot
  | arm => exact .next hs.armUnit
  | compareFire => exact .next hs.fireUnit
  | pulseWidthEnd => exact .next hs.endPulse
  | capture => exact .next hs.capture
  | ppsInputPeriod => exact .next hs.ppsPeriod
  | txtsPop => exact .unit hs.popTxts
  | epochTb => exact .unit hs.commitEpoch
  | add | sub | and | or | xor | sll | srl | sra | slt | sltu | min | max | minu | maxu | mul | mulh | mulhu |
    addw | subw | andw | orw | xorw | sllw | srlw | sraw | mulw => exact .next hs.regOp
  | clz | popc | abs => exact .next hs.regOp1
  | addi | andi | ori | xori | slti | sltiu | slli | srli | srai | lui | addiw => exact .next hs.immOp
  | lb | lbu | lh | lhu | lw | lwu | ld => exact .next hs.loadOp
  | sb | sh | sw | sd => exact .next hs.storeOp
  | swapd | addd | andd | ord | maxd => exact .next hs.atomicOp
  | beq | bne | blt | bge | bltu | bgeu => exact .next hs.branchOp
  | j => exact .next (hs.runInsn hs.retireTo)
  | jal | jalr | tret => exact .next (hs.runInsn hs.mapCore.retireTo)
  | mfcr => exact .next (hs.runInsn hs.retireG)
  | mtcr | vclaim | vsetclaim => exact .next (hs.runInsn hs.mapCore.retire)
  | fence => exact .next (hs.runInsn hs.dropPrefetch.retire)
  | brk => exact .next (hs.runInsn (.ite hs.trapTo hs.retire.mapCore))
  | prefetchReturn =>
    refine .next ?_
    split
    · exact .ite hs.responseArrives hs
    · exact hs.responseArrives
  | prefetchBufferExpiry => exact .next (.ite hs.dropPrefetch hs)
  | vadd | vsub | vmin | vmax | vand | vor | vxor | vmul | vmulc | vmac | vmacc | vmsub => exact .next hs.vBin
  | vsll | vsrl | vsra | vsrar => exact .next hs.vShift
  | vabs | vneg | vconj | vpow => exact .next hs.vUn
  | vwadd | vwmul | vwmulc | vwmac | vwmacc => exact .next hs.vWide
  | vnarrow | vnarrowi => exact .next hs.vNarrow
  | vcvt | vext | vins => exact .next hs.vInsn
  | vaddi | vsplati => exact .next hs.vImm
  | vslli | vsrli | vsrai | vsrari => exact .next hs.vShiftImm
  | vredsum | vredmax | vredmin => exact .next hs.vRed
  | vsplat | vslideup | vslidedn | vperm | vmv | vsel => exact .next hs.vMove
  | vcmpeq | vcmplt | vcmple => exact .next hs.vCmp
  | vmand | vmor | vmxor | vmandn => exact .next hs.vMaskOp
  | vmpopc | vmfirst => exact .next hs.vMaskG
  | vld => exact .next (hs.runInsn hs.doVld)
  | vst => exact .next (hs.runInsn hs.doVst)
  | ccorr | cdesp | cpeak | demap => exact .next (hs.runInsn hs.mapCore.fuRetire)
  | lginit | lgen | lgenv | lcrcinit | lcrcg | lcrcv => exact .next hs.lfsr
  | lcrcrd => exact .next hs.lfsrRead
  | isel | ibil | idil | icomb => exact .next hs.ilvInsn
  | fusedResult => exact .unit hs.fusedResult
  | ilvOperationEnd => exact .next hs.ilvRun
  | tdispatch => exact .next (hs.sieveInsn hs.doDispatch)
  | tdispatchServed => exact .next hs.serve
  | tspawn => exact .next (hs.sieveInsn hs.spawn.retireG)
  | twait | tyield | texit => exact .next (hs.service hs.leave)
  | tsetpri => exact .next (hs.sieveInsn hs.setPri.retireG)
  | tevent => exact .next (hs.sieveInsn hs.sendEvent.retire)
  | fadmit => exact .next (hs.sieveInsn hs.admitItem.retireG)
  | frelease | fvoid => exact .next (hs.sieveInsn hs.settleItem.retireG)
  | topen =>
    refine .next (hs.sieveInsn ?_)
    split
    · exact hs.retireG
    · exact hs.mapSieve.count.retireG
  | tcommit => exact .next (hs.tokInsn fun _ _ => hs.tokCommit)
  | tsquash => exact .next (hs.tokInsn fun _ _ => hs.tokSquash)
  | tfree => exact .next (hs.tokInsn fun _ _ => hs.tokRelease)
  | tstate => exact .next (hs.sieveInsn (.ite hs.frame.retireG hs.retireG))
  | tattach =>
    refine .next (hs.sieveInsn ?_)
    exact .retireG hs.attach
  | ctxsv => exact .next (hs.ctxInsn fun _ => hs.ctxSave)
  | ctxld => exact .next (hs.ctxInsn fun _ => hs.ctxRestore)
  | commit | squash | free => exact .next hs.tokCmd
  | settleIntervalEnd => exact .next hs.tokSettle
  | flowHeadAdvance => exact .next hs.flowAdvance
  | flowStall => exact .next hs.flowStall
  | flowEnable => exact .next hs.flowCfg
  | idleGate => exact .next (.ite hs.mapSieve hs)
  | doorbellProduce => exact .next hs.produce
  | entryAdmission => exact .next hs.admitOne
  | doorbellConsume => exact .next hs.consume
  | qmgrTake => exact .next hs.takeEffect.emit
  | hardwarePush => exact .next hs.hwPush
  | hardwareConsume => exact .next hs.millConsume
  | queueCfgWrite => exact .next hs.qWrite
  | queueDisable => exact .next hs.qDisable
  | start => exact .unit hs.chStart
  | stop => exact .unit hs.chStopCmd
  | retry => exact .unit hs.chRetry
  | skip => exact .unit hs.chSkip
  | shadowArm => exact .unit hs.chArm
  | shadowWrite => exact .unit hs.chShadow
  | descriptorFetched => exact .unit hs.chFetched
  | pacingTest => exact .unit (.ite hs.chPaceStep hs)
  | descriptorEnd => exact .unit hs.chDone
  | drainPush => exact .unit (.ite hs.chDrain hs)
  | transferFailure =>
    refine .unit ?_
    split
    · exact hs.chFail
    · exact hs
  | rd | wr | atom => exact .next hs.requestArrives
  | wrp => exact .next hs.postedArrives
  | rdrsp | wrrsp => exact .next hs.responseArrives
  | evt => exact .next hs.eventArrives
  | emark => exact .next hs.emarkArrives
  | tokn => exact .next (.ite hs.noticeArrives hs)
  | freeNotice => exact .next hs.noticeArrives
  | tokack => exact .next hs.ackArrives
  | dlvd => exact .next hs.deliveryArrives
  | badOp => exact .ite .fault (.next (.ite hs.dropParity (.ite hs.arrive.flag.count hs)))
  | requestTimeout => exact .next hs.timeout
  | close => exact .unit hs.writeClose
  | clrCnt => exact .unit hs.clearDrops
  | drained => exact .unit hs.drain
  | patrolRead => exact .unit hs.patrolRead
  | clr => exact .unit hs.initClr
  | sentinelTrip => exact .next hs.sentinelTrip
  | retentionScanEnd => exact .next hs.scanEnd
  | frameReceive => exact .unit hs.rxOutside
  | txTailWrite => exact .unit hs.writeFields
  | txDescriptor => exact .unit hs.txTake
  | launch => exact .unit hs.txLaunchNow
  | frameTransmitEnd => exact .unit hs.txDone
  | jesdMultiblock => exact .next hs.jesdBlock
  | jesdRxEntry => exact .next hs.jesdEntry
  | jesdTxStart => exact .next hs.jesdStart
  | underrun => exact .next hs.jesdUnderrun
  | cdrAcquisition => exact .unit hs.cdrLock
  | dfeAdaptStep => exact .unit hs.dfeStep
  | bitslip => exact .unit hs.bitslip
  | slipDone => exact .unit hs.slipDone
  | inject => exact .unit hs.emit
  | cntClr => exact .unit hs.cntClr
  | lossOfSignal => exact .unit hs.laneLos
  | signalRecovered => exact .unit hs.laneSignal
  | shortDetect => exact .unit hs.laneShort
  | shortRetry => exact .unit hs.put
  | polarityToggle => exact .unit hs.polToggle
  | laneMap => exact .ite (.next hs.laneMap) (.unit hs.laneMap)
  | linkLost => exact .unit hs.linkDown
  | bar0Read => exact .next hs.bar0Read
  | bar0Write => exact .next hs.bar0Write
  | doorbellWrite => exact .next hs.bar2Write
  | doorbellTakeRead => exact .next hs.bar2Read
  | bar4Read => exact .next hs.bar4Read
  | msixNotification => exact .next hs.msix
  | msixPendingSend => exact .next hs.msixPending
  | linkDown => exact .next hs.linkLost
  | functionLevelReset => exact .next hs.linkReset
  | cxlPerst => exact .next hs.perst
  | hdmRead => exact .next hs.hdmRead
  | hdmWrite => exact .next hs.hdmWrite
  | backInvalidateResponse => exact .next hs.snoopAnswer
  | hostSnoop => exact .next hs.hostSnoop
  | dcFlush => exact .next hs.dcFlush
  | dcFlushDone => exact .next hs.dcFlushEnd.afterFlush
  | ideFail => exact .next hs.ideFail
  | target => exact .next hs.writeTarget
  | clockStepDone => exact .next hs.clockDone
  | vdone => exact .unit hs.vdone
  | voltageSettleEnd => exact .next hs.settleEnd
  | avsFail => exact .unit hs.avsFail
  | powerGood => exact .unit hs.powerGood
  | pgFail => exact .unit hs.pgFail
  | druseOff => exact .next hs.switchOff
  | drusePowerSwitchOpen => exact .next hs.switchOpen
  | drainForced => exact .unit hs.drainForce
  | druseOn => exact .next hs.switchOn
  | drusePowerSettle => exact .next hs.switchSettled
  | sleepRequestStandby | sleepRequestDormant => exact .next hs.sleepRequest
  | commitCycle => exact .next hs.commitCycle
  | dormantLinkWaitEnd => exact .next hs.enterDormant
  | wakeN => exact .next hs.wakeFire
  | i2cAddressMatch => exact .next hs.i2cMatch
  | twinTokenChange => exact .next hs.tokenChange
  | reloadDone => exact .next hs.reload
  | i2cWrite => exact .next hs.i2cWrite
  | i2cRead => exact .next hs.i2cRead
  | sensorConversion => exact .next hs.sensor
  | run => exact .next hs.calRun
  | itemMeasured => exact .unit hs.itemMeasured
  | tapStep => exact .next hs.tapStep
  | corridorTick => exact .next hs.corrTick
  | corrTblData => exact .next hs.corrData
  | jobStart => exact .next hs.millStart
  | abortPoint => exact .unit hs.millAbort
  | headerWritten => exact .unit hs.millHeader
  | flush => exact .next hs.millDiscard
  | engineParityError => exact .unit hs.engineFault
  | faultReport => exact .next hs.checkers.faultReport
  | dieRailOff => exact .next hs.dieRailOff
  | frRdWrite => exact .next hs.writeFrRd
  | coreHang => exact .next hs.coreHang
  | druseRestartRelease => exact .next hs.restartRelease
  | holdCore | releaseCore | druseRestart | releaseDruse | stratumReset => exact .next hs.ksCmd
  | ksDisagree => exact .next hs.ksDisagree
  | keystonePulse => exact .next hs.ksPulse
  | dieSentinelSilence => exact .next hs.sentinelIso
  | ksSilent => exact .next hs.ksSilent
  | pinLimit => exact .unit hs.pinLimit
  | pinParkEnd => exact .unit hs.pinParkEnd
  | clockLost => exact .unit hs.clockLost
  | droop => exact .unit hs.droop
  | droopClockRestore => exact .unit hs.droopRestore
  | heartbeatSend => exact .next hs.sendHeartbeat
  | heartbeat => exact .next hs.heartbeat
  | heartbeatLoss => exact .next hs.heartbeatLoss
  | abdicateFrame => exact .next hs.abdicateFrame
  | stateFrame => exact .next hs.stateFrame
  | stateFrameSend => exact .next hs.sendState
  | claim => exact .next hs.claimCmd
  | abdicate => exact .next hs.abdicate
  | claimSample => exact .next hs.claimSample
  | startLeadClaim => exact .next hs.leadClaim
  | clrAll => exact .next hs.clrAll
  | perfCntLo => exact .unit hs.latchCounter.emit
  | go => exact .next hs.dumpStart
  | dumpPeriodExpiry => exact .next (.ite hs hs.dumpStart)
  | cdrLockLoss => exact .unit hs.cdrLoss
  | portLinkUp => exact .unit hs.linkUp
  | prbsCheckerLock => exact .unit hs.prbsLock
  | prbsCheckerUnlock => exact .unit hs.prbsUnlock
  | cxlLinkUp => exact .next hs.linkTrained
  | hostConfigWrite => exact .next hs.hostConfig
  | hostMemoryResponse => exact .next hs.hostAnswer
  | jtagDebugAccess =>
    refine .next ?_
    split
    · exact .debugResume (.ite hs.jtagWrite hs.jtagRead)
    · exact .ite hs.jtagWrite hs.jtagRead
  | clockReturn => exact .unit hs.clockBack

/-- A step keeps the canonical form: of the command that raises the fused count by its own lemma, else as `Kept`. -/
theorem step_canon (hc : s.canon = true) (h : step s = .next t) : t.canon = true := by
  unfold step at h
  split at h
  next c rest _ =>
    by_cases hr : c = .rollbackProgrammed
    · subst hr
      obtain rfl := Host.Outcome.next.inj h
      exact State.rollbackDone_canon hc
    · exact (exec_keeps hr _ t h).canon hc
  next =>
    obtain rfl := Host.Outcome.next.inj h
    exact (Kept.refl s).idleStep.canon hc

theorem exec_pulseWidthEnd (k : PulseEnd) (s : State) :
    exec (.pulseWidthEnd k) s = .next (s.endPulse (16 * k.unit.toNat + k.pin.toNat)) := rfl

end Sys2Proof.Machine
end

section
/-!
PROOFS. The scope statements: canonical form and completion (O2, O4, O5).
-/

open Sys2Proof Sys2Proof.Machine

/-- Settles O5, by what each command and the idle step keep (`exec_keeps`, `Kept.idleStep`). -/
theorem stepKeepsCanonical : Obligations.StepKeepsCanonical :=
  fun _ _ hc h => step_canon hc h

/-- Refutes O2: PULSE_WIDTH_END completes also for a pin above 9, which `Instr.wf` refuses. -/
theorem not_commandsComplete : ¬ Obligations.CommandsComplete := by
  intro h
  obtain ⟨-, hstops⟩ := h (.pulseWidthEnd ⟨0, 15⟩) .reset
  have hwf : (Instr.pulseWidthEnd ⟨0, 15⟩).wf = false := by decide
  have hfault := hstops hwf
  rw [exec_pulseWidthEnd] at hfault
  cases hfault

/-- Settles O4: after reset every map of the canonical form is empty. -/
theorem resetCanonical : Obligations.ResetCanonical := by
  unfold Obligations.ResetCanonical
  decide

end

section
/-!
SUPPORT. A register write as a write of each of its fields under its type (R3 to R6), the registers of which a statement
speaks, and the stops' commands.
-/

namespace Sys2Proof.Machine

variable {s : State} {a n : Nat} {v : Word}

/-! ### Writes of whole registers -/

theorem onlyRegs_setReg (s : State) (a : Nat) (v : Word) : onlyRegs s (s.setReg a v) [a] :=
  ⟨rfl, fun _ hb => s.reg_setReg_ne v (List.ne_of_not_mem_cons hb)⟩

/-- A register that takes the value it holds: nothing changes. -/
theorem onlyRegs_setReg_self (s : State) (a : Nat) : onlyRegs s (s.setReg a (s.reg a)) [] := by
  refine ⟨rfl, fun b _ => ?_⟩
  by_cases hb : b = a
  · rw [hb, State.reg_setReg]
  · exact s.reg_setReg_ne _ hb

theorem fieldOf_whole (v : Word) (a : Nat) : fieldOf v ⟨a, 0, 32⟩ = v.toNat := by
  simp [fieldOf, Nat.mod_eq_of_lt v.isLt]

theorem withField_whole (w : Word) (a x : Nat) : withField w ⟨a, 0, 32⟩ x = BitVec.ofNat 32 x := by
  refine BitVec.eq_of_getLsbD_eq fun i hi => ?_
  rw [getLsbD_withField _ _ _ _ hi, if_pos (by simpa using hi), BitVec.getLsbD_ofNat, decide_eq_true hi]
  simp

/-- A write field by field, from the fields that the register map lists. -/
theorem writeFields_eq {l : List FieldDef} (h : (regDefAt a).map RegDef.fields = some l) (s : State) (v : Word) :
    s.writeFields a v = s.setReg a (l.foldl (fun w f => f.write s.sealed a v w) (s.reg a)) := by
  obtain ⟨d, hd, rfl⟩ := Option.map_eq_some_iff.mp h
  simp [State.writeFields, hd, writeWord]

theorem regDefAt_scratch : ∀ a ∈ [R.GLOBAL_SCRATCH0, R.GLOBAL_SCRATCH1, R.GLOBAL_SCRATCH2, R.GLOBAL_SCRATCH3],
    (regDefAt a).map RegDef.fields = some [⟨0, 32, .rws, 0, 0⟩] := by
  decide +kernel

theorem regDefAt_memInitDone : ∀ n < 112, (regDefAt (R.MEM_INIT_DONE n)).map RegDef.fields =
    some [⟨0, 32, .w1s, 0, 0⟩] := by
  decide +kernel

theorem regDefAt_hostDbEn : ∀ i < 32, (regDefAt (R.HOST_DB_EN i)).map RegDef.fields =
    some [⟨0, 32, .rwl, 4294967295, 0⟩] := by
  decide +kernel

theorem regWrite_scratch (h : a ∈ [R.GLOBAL_SCRATCH0, R.GLOBAL_SCRATCH1, R.GLOBAL_SCRATCH2, R.GLOBAL_SCRATCH3]) (s : State)
    (v : Word) : s.regWrite a v = s.setReg a v := by
  have hw : s.regWrite a v = s.writeFields a v := by
    fin_cases h <;> rfl
  rw [hw, writeFields_eq (regDefAt_scratch a h)]
  simp [FieldDef.write, FieldDef.rf, fieldOf_whole, withField_whole]

theorem regWrite_qSel (s : State) (v : Word) :
    s.regWrite R.QMGR_Q_SEL v = s.put F.QMGR_Q_SEL_QID (v.toNat % 2 ^ 18) := by
  have hw : s.regWrite R.QMGR_Q_SEL v = s.writeFields R.QMGR_Q_SEL v := rfl
  have hd : (regDefAt R.QMGR_Q_SEL).map RegDef.fields = some [⟨0, 18, .rw, 0, 0⟩] := by decide +kernel
  rw [hw, writeFields_eq hd]
  simp [FieldDef.write, FieldDef.rf, State.put, F.QMGR_Q_SEL_QID, fieldOf]

/-- What only reads keeps: GLOBAL_ID, and an offset that no register has. -/
theorem onlyRegs_regWrite_readOnly (h : a ∈ [R.GLOBAL_ID, 0x30]) (s : State) (v : Word) :
    onlyRegs s (s.regWrite a v) [] := by
  obtain rfl | rfl : a = R.GLOBAL_ID ∨ a = 0x30 := by simpa using h
  · have hw : s.regWrite R.GLOBAL_ID v = s.writeFields R.GLOBAL_ID v := rfl
    have hd : (regDefAt R.GLOBAL_ID).map RegDef.fields =
      some [⟨0, 16, .ro, 10262, 0⟩, ⟨16, 12, .ro, 229, 0⟩, ⟨28, 4, .ro, 3, 0⟩] := by decide +kernel
    rw [hw, writeFields_eq hd]
    exact onlyRegs_setReg_self s _
  · have hw : s.regWrite 0x30 v = s.writeFields 0x30 v := rfl
    have hd : regDefAt 0x30 = none := by decide +kernel
    rw [hw, State.writeFields, hd]
    exact ⟨rfl, fun _ _ => rfl⟩

theorem regWrite_block7 (h : a / 2 ^ 24 = 7) (s : State) (v : Word) : s.regWrite a v = s.writeHost a v := by
  unfold State.regWrite State.ungateAt
  rw [h]
  rfl

theorem regWrite_block10 (h : a / 2 ^ 24 = 10) (s : State) (v : Word) : s.regWrite a v = s.writeMem a v := by
  unfold State.regWrite State.ungateAt
  rw [h]
  rfl

theorem regWrite_memInitDone (h : n < 112) (s : State) (v : Word) :
    s.regWrite (R.MEM_INIT_DONE n) v = s.setReg (R.MEM_INIT_DONE n) (s.reg (R.MEM_INIT_DONE n) ||| v) := by
  have hdiv : R.MEM_INIT_DONE n / 2 ^ 24 = 10 := by
    unfold R.MEM_INIT_DONE
    omega
  have hclr : unitAt (R.MEM_INIT_CLR 0) 4 112 (R.MEM_INIT_DONE n) = none := by
    rw [unitAt, if_neg]
    unfold R.MEM_INIT_CLR R.MEM_INIT_DONE
    omega
  rw [regWrite_block10 hdiv, State.writeMem, hclr, writeFields_eq (regDefAt_memInitDone n h)]
  simp [FieldDef.write, FieldDef.rf, fieldOf_whole, withField_whole]

theorem regWrite_memInitClr (h : n < 112) (s : State) (v : Word) : s.regWrite (R.MEM_INIT_CLR n) v = s.initClr n v := by
  have hdiv : R.MEM_INIT_CLR n / 2 ^ 24 = 10 := by
    unfold R.MEM_INIT_CLR
    omega
  have hoff : R.MEM_INIT_CLR n - R.MEM_INIT_CLR 0 = 4 * n := by
    unfold R.MEM_INIT_CLR
    omega
  have hclr : unitAt (R.MEM_INIT_CLR 0) 4 112 (R.MEM_INIT_CLR n) = some (n, 0) := by
    rw [unitAt, hoff, Nat.mul_div_cancel_left n (by decide), Nat.mul_mod_right, if_pos ⟨Nat.le_add_right _ _, h⟩]
  rw [regWrite_block10 hdiv, State.writeMem, hclr]
  rfl

theorem regWrite_hostDbEn (h : n < 32) (s : State) (v : Word) :
    s.regWrite (R.HOST_DB_EN n) v = s.setReg (R.HOST_DB_EN n) (if s.sealed then s.reg (R.HOST_DB_EN n) else v) := by
  have hdiv : R.HOST_DB_EN n / 2 ^ 24 = 7 := by
    unfold R.HOST_DB_EN
    omega
  have hctrl : R.HOST_DB_EN n ≠ R.HOST_CTRL := by
    unfold R.HOST_DB_EN R.HOST_CTRL
    omega
  have hmsix : unitAt (R.HOST_MSIX_ADDR_LO 0) 16 2048 (R.HOST_DB_EN n) = none := by
    rw [unitAt, if_neg]
    unfold R.HOST_MSIX_ADDR_LO R.HOST_DB_EN
    omega
  rw [regWrite_block7 hdiv, State.writeHost, if_neg hctrl, hmsix]
  dsimp only
  rw [writeFields_eq (regDefAt_hostDbEn n h)]
  simp [FieldDef.write, FieldDef.rf, fieldOf_whole, withField_whole]

/-! ### Registers with fields of several types -/

theorem State.get_setReg_same (s : State) (e : RF) (w : Word) : (s.setReg e.a w).get e = fieldOf w e := by
  rw [State.get, State.reg_setReg]

/-- Whether a write of a field leaves the bits of `e`: it is read-only, or they are neither its own nor those of the repeat
count beside it. -/
def FieldDef.clear (f : FieldDef) (e : RF) : Bool :=
  decide (f.acc = .ro) || (decide (e.lo + e.w ≤ f.lo) || decide (f.lo + f.w ≤ e.lo)) &&
    (decide (f.rep = 0) || decide (e.lo + e.w ≤ f.rep) || decide (f.rep + 8 ≤ e.lo))

theorem fieldOf_write_clear {f : FieldDef} {e : RF} (h : f.clear e = true) (sealed : Bool) (a : Nat) (v w : Word) :
    fieldOf (f.write sealed a v w) e = fieldOf w e := by
  simp only [FieldDef.clear, Bool.and_eq_true, Bool.or_eq_true, decide_eq_true_eq] at h
  obtain hro | ⟨hf, hrep⟩ := h
  · simp only [FieldDef.write, hro]
  have hown (w : Word) (x : Nat) : fieldOf (withField w (f.rf a) x) e = fieldOf w e := fieldOf_withField_apart w _ e x hf
  unfold FieldDef.write
  cases f.acc with
  | rw | rws | w1s => exact hown _ _
  | ro | wo => rfl
  | rwl =>
    dsimp only
    split
    · rfl
    · exact hown _ _
  | w1c =>
    dsimp only
    split
    next hcnt =>
      have hrep' : e.lo + e.w ≤ f.rep ∨ f.rep + 8 ≤ e.lo := by
        simp only [ne_eq, Bool.and_eq_true, decide_eq_true_eq] at hcnt
        omega
      rw [fieldOf_withField_apart _ _ e _ hrep', hown]
    · exact hown _ _

theorem fieldOf_foldl_write_clear {l : List FieldDef} {e : RF} (h : ∀ f ∈ l, f.clear e = true) (sealed : Bool) (a : Nat)
    (v w : Word) : fieldOf (l.foldl (fun w f => f.write sealed a v w) w) e = fieldOf w e := by
  induction l generalizing w with
  | nil => rfl
  | cons f l ih =>
    rw [List.foldl_cons, ih fun g hg => h g (List.mem_cons_of_mem _ hg)]
    exact fieldOf_write_clear (h f List.mem_cons_self) _ _ _ _

theorem fieldOf_lt (v : Word) (e : RF) : fieldOf v e < 2 ^ e.w := Nat.mod_lt _ (Nat.two_pow_pos _)

theorem fieldOf_withField_fieldOf (v w : Word) (e : RF) (h : e.lo + e.w ≤ 32) :
    fieldOf (withField w e (fieldOf v e)) e = fieldOf v e := by
  rw [fieldOf_withField _ _ _ h, Nat.mod_eq_of_lt (fieldOf_lt v e)]

/-- A field reads after a write what the one entry `f` of its register makes of it, when the other entries are clear
of it. -/
theorem get_writeFields {e : RF} {l₁ l₂ : List FieldDef} {f : FieldDef}
    (hd : (regDefAt e.a).map RegDef.fields = some (l₁ ++ f :: l₂)) (h₁ : ∀ g ∈ l₁, g.clear e = true)
    (h₂ : ∀ g ∈ l₂, g.clear e = true) (s : State) (v : Word) :
    ∃ w, fieldOf w e = s.get e ∧ (s.writeFields e.a v).get e = fieldOf (f.write s.sealed e.a v w) e := by
  refine ⟨_, fieldOf_foldl_write_clear h₁ s.sealed e.a v _, ?_⟩
  rw [writeFields_eq hd, State.get_setReg_same, List.foldl_append, List.foldl_cons, fieldOf_foldl_write_clear h₂]

theorem fieldOf_write_rw {f : FieldDef} {a : Nat} (hf : f.acc = .rw) (h : f.lo + f.w ≤ 32) (sealed : Bool) (v w : Word) :
    fieldOf (f.write sealed a v w) (f.rf a) = fieldOf v (f.rf a) := by
  simp only [FieldDef.write, hf]
  exact fieldOf_withField_fieldOf v w (f.rf a) h

theorem fieldOf_write_rwl {f : FieldDef} {a : Nat} (hf : f.acc = .rwl) (h : f.lo + f.w ≤ 32) (sealed : Bool) (v w : Word) :
    fieldOf (f.write sealed a v w) (f.rf a) = if sealed then fieldOf w (f.rf a) else fieldOf v (f.rf a) := by
  simp only [FieldDef.write, hf]
  cases sealed with
  | true => rfl
  | false => exact fieldOf_withField_fieldOf v w (f.rf a) h

theorem fieldOf_bit (v : Word) (a lo : Nat) : fieldOf v ⟨a, lo, 1⟩ = if v.getLsbD lo then 1 else 0 := by
  simp only [fieldOf, ← BitVec.testBit_toNat, Nat.testBit, Nat.shiftRight_eq_div_pow]
  rcases Nat.mod_two_eq_zero_or_one (v.toNat / 2 ^ lo) with h | h <;> simp [h]

/-- A flag of one bit with a repeat count beside it: 1 clears both, 0 leaves both. -/
theorem fieldOf_write_w1c {lo rep : Nat} (h : lo < rep) (hr : rep + 8 ≤ 32) (sealed : Bool) (a : Nat) (v w : Word) {e : RF}
    (he : e ∈ [⟨a, lo, 1⟩, ⟨a, rep, 8⟩]) :
    fieldOf ((⟨lo, 1, .w1c, 0, rep⟩ : FieldDef).write sealed a v w) e = if v.getLsbD lo then 0 else fieldOf w e := by
  have hrep : rep ≠ 0 := by omega
  have hlo : lo + 1 ≤ 32 := by omega
  obtain rfl | rfl : e = ⟨a, lo, 1⟩ ∨ e = ⟨a, rep, 8⟩ := by simpa using he
  · have hy : fieldOf w ⟨a, lo, 1⟩ < 2 := fieldOf_lt w _
    cases hv : v.getLsbD lo with
    | true =>
      simp only [FieldDef.write, FieldDef.rf, fieldOf_bit v, hv]
      simp [hrep, fieldOf_withField_apart _ ⟨a, rep, 8⟩ ⟨a, lo, 1⟩ _ (.inl h),
        fieldOf_withField _ ⟨a, lo, 1⟩ _ hlo]
    | false =>
      simp only [FieldDef.write, FieldDef.rf, fieldOf_bit v, hv]
      simp [fieldOf_withField _ ⟨a, lo, 1⟩ _ hlo, Nat.mod_eq_of_lt hy]
  · cases hv : v.getLsbD lo with
    | true =>
      simp only [FieldDef.write, FieldDef.rf, fieldOf_bit v, hv]
      simp [hrep, fieldOf_withField _ ⟨a, rep, 8⟩ _ hr]
    | false =>
      simp only [FieldDef.write, FieldDef.rf, fieldOf_bit v, hv]
      simp [fieldOf_withField_apart _ ⟨a, lo, 1⟩ ⟨a, rep, 8⟩ _ (.inr h)]

theorem get_calCtrl_autoEn (s : State) (v : Word) : (s.regWrite R.CAL_CTRL v).get F.CAL_CTRL_AUTO_EN = v.toNat % 2 := by
  obtain ⟨w, -, hw⟩ := get_writeFields (e := F.CAL_CTRL_AUTO_EN) (l₁ := []) (f := ⟨0, 1, .rw, 1, 0⟩)
    (l₂ := [⟨1, 1, .rwl, 1, 0⟩, ⟨8, 5, .rw, 8, 0⟩]) (by decide +kernel) (by decide) (by decide) s v
  refine hw.trans ((fieldOf_write_rw rfl (by decide) _ v w).trans ?_)
  simp [fieldOf, FieldDef.rf]

theorem get_calCtrl_liveRun (s : State) (v : Word) : (s.regWrite R.CAL_CTRL v).get F.CAL_CTRL_LIVE_RUN =
    if s.sealed then s.get F.CAL_CTRL_LIVE_RUN else v.toNat / 2 % 2 := by
  obtain ⟨w, hold, hw⟩ := get_writeFields (e := F.CAL_CTRL_LIVE_RUN) (l₁ := [⟨0, 1, .rw, 1, 0⟩])
    (f := ⟨1, 1, .rwl, 1, 0⟩) (l₂ := [⟨8, 5, .rw, 8, 0⟩]) (by decide +kernel) (by decide) (by decide) s v
  rw [← hold]
  refine hw.trans ((fieldOf_write_rwl rfl (by decide) _ v w).trans ?_)
  simp [fieldOf, FieldDef.rf, F.CAL_CTRL_LIVE_RUN, Nat.shiftRight_eq_div_pow]

theorem get_calCtrl_delta (s : State) (v : Word) : (s.regWrite R.CAL_CTRL v).get F.CAL_CTRL_DELTA = v.toNat / 256 % 32 := by
  obtain ⟨w, -, hw⟩ := get_writeFields (e := F.CAL_CTRL_DELTA) (l₁ := [⟨0, 1, .rw, 1, 0⟩, ⟨1, 1, .rwl, 1, 0⟩])
    (f := ⟨8, 5, .rw, 8, 0⟩) (l₂ := []) (by decide +kernel) (by decide) (by decide) s v
  refine hw.trans ((fieldOf_write_rw rfl (by decide) _ v w).trans ?_)
  simp [fieldOf, FieldDef.rf, Nat.shiftRight_eq_div_pow]

/-- The fields of MEM_STAT. -/
def memStatFields : List FieldDef :=
  [⟨0, 1, .w1c, 0, 8⟩, ⟨1, 1, .w1c, 0, 16⟩, ⟨2, 1, .w1c, 0, 0⟩, ⟨3, 1, .w1c, 0, 24⟩, ⟨4, 1, .ro, 0, 0⟩, ⟨8, 8, .ro, 0, 0⟩,
    ⟨16, 8, .ro, 0, 0⟩, ⟨24, 8, .ro, 0, 0⟩]

theorem regDefAt_memStat : (regDefAt R.MEM_STAT).map RegDef.fields = some memStatFields := by
  decide +kernel

theorem get_memStat_par (s : State) (v : Word) {e : RF} (he : e ∈ [F.MEM_STAT_PAR_ERR, F.MEM_STAT_PAR_REP]) :
    (s.regWrite R.MEM_STAT v).get e = if v.getLsbD 0 then 0 else s.get e := by
  have hea : e.a = R.MEM_STAT := by
    fin_cases he <;> rfl
  have hclear : ∀ g ∈ memStatFields.tail, g.clear e = true := by
    fin_cases he <;> decide
  obtain ⟨w, hold, hw⟩ := get_writeFields (l₁ := []) (hea ▸ regDefAt_memStat) (by simp) hclear s v
  rw [hea] at hw
  rw [← hold]
  exact hw.trans (fieldOf_write_w1c (by decide) (by decide) _ _ v w he)

theorem get_memStat_fenced (s : State) (v : Word) :
    (s.regWrite R.MEM_STAT v).get F.MEM_STAT_FENCED = s.get F.MEM_STAT_FENCED := by
  have hw : s.regWrite R.MEM_STAT v = s.writeFields R.MEM_STAT v := rfl
  rw [hw, writeFields_eq regDefAt_memStat]
  exact (s.get_setReg_same F.MEM_STAT_FENCED _).trans (fieldOf_foldl_write_clear (by decide) _ _ _ _)

theorem onlyRegs_writeFields (a : Nat) (s : State) (v : Word) : onlyRegs s (s.writeFields a v) [a] := by
  unfold State.writeFields
  split
  · exact onlyRegs_setReg _ _ _
  · exact ⟨rfl, fun _ _ => rfl⟩

/-! ### The command -/

theorem exec_registerWrite_unreached {init : BitVec 12} {a : BitVec 28}
    (h : s.regReaches init.toNat a.toNat = false ∨ a.toNat % 4 ≠ 0) : exec (.registerWrite init a v) s = .next s := by
  have hc : (s.regReaches init.toNat a.toNat && decide (a.toNat % 4 = 0)) = false := by
    rcases h with h | h
    · rw [h, Bool.false_and]
    · rw [decide_eq_false h, Bool.and_false]
  show execRegisterWrite init a v s = _
  rw [execRegisterWrite, hc]
  rfl

theorem exec_registerWrite_reached {init : BitVec 12} {a : BitVec 28} {A : Nat} {t : State}
    (h : s.regReaches init.toNat a.toNat = true) (ht : exec (.registerWrite init a v) s = .next t) (ha : a.toNat = A)
    (hA : A % 4 = 0) : t = s.regWrite A v := by
  subst ha
  have hc : execRegisterWrite init a v s = .next (s.regWrite a.toNat v) := by
    rw [execRegisterWrite, h, decide_eq_true hA]
    rfl
  exact (Host.Outcome.next.inj (hc.symm.trans ht)).symm

theorem scratch_mod : ∀ a ∈ [R.GLOBAL_SCRATCH0, R.GLOBAL_SCRATCH1, R.GLOBAL_SCRATCH2, R.GLOBAL_SCRATCH3], a % 4 = 0 := by
  decide

theorem readOnly_mod : ∀ a ∈ [R.GLOBAL_ID, 0x30], a % 4 = 0 := by
  decide

theorem memInitDone_mod (n : Nat) : R.MEM_INIT_DONE n % 4 = 0 := by
  unfold R.MEM_INIT_DONE
  omega

theorem memInitClr_mod (n : Nat) : R.MEM_INIT_CLR n % 4 = 0 := by
  unfold R.MEM_INIT_CLR
  omega

theorem hostDbEn_mod (i : Nat) : R.HOST_DB_EN i % 4 = 0 := by
  unfold R.HOST_DB_EN
  omega

/-! ### Stops -/

theorem exec_close {n : BitVec 8} (h : stopOk n.toNat = true) (s : State) :
    exec (.close n true) s = .next (s.closeStop n.toNat) := by
  show execClose n true s = _
  rw [execClose, if_pos h]
  rfl

theorem exec_open {n : BitVec 8} (h : stopOk n.toNat = true) (s : State) :
    exec (.close n false) s = .next (if s.fencedStop n.toNat then s else s.openStop n.toNat) := by
  show execClose n false s = _
  rw [execClose, if_pos h]
  rfl

theorem exec_clrCnt {n : BitVec 8} (h : stopOk n.toNat = true) (s : State) :
    exec (.clrCnt n) s = .next (s.clearDrops n.toNat) := by
  show execClrCnt n s = _
  rw [execClrCnt, if_pos h]

/-- The packets in flight at a stop that closes: each that has exit space there is marked (R279). -/
theorem closeStop_flight_getElem? {n i : Nat} {p q : Packet} (hp : s.flight[i]? = some p)
    (hq : (s.closeStop n).flight[i]? = some q) : q = if s.reserved n i p then { p with adm := p.adm ++ [n] } else p := by
  simp only [State.closeStop, List.getElem?_map, List.getElem?_zipIdx, hp] at hq
  simpa using hq.symm

theorem State.stop_closeStop (s : State) (n : Nat) : (s.closeStop n).stop n = { s.stop n with closed := true } :=
  s.stop_setStop n { s.stop n with closed := true }

theorem State.stop_closeStop_ne (s : State) {n m : Nat} (h : m ≠ n) : (s.closeStop n).stop m = s.stop m :=
  s.stop_setStop_ne { s.stop n with closed := true } h

theorem closeStop_flight_map (s : State) (n : Nat) :
    (s.closeStop n).flight.map (fun p => { p with adm := [] }) = s.flight.map (fun p => { p with adm := [] }) := by
  refine List.ext_getElem? fun i => ?_
  simp only [State.closeStop, List.getElem?_map, List.getElem?_zipIdx, Option.map_map]
  cases s.flight[i]? with
  | none => rfl
  | some p =>
    simp only [Option.map_some, Function.comp_apply]
    split <;> rfl

end Sys2Proof.Machine
end

section
/-!
PROOFS. Register writes by access type, and the commands of a stop (O37).
-/

open Sys2Proof Sys2Proof.Machine

/-- Settles O37: a write of a register is a write of each of its fields under its type (`writeFields_eq`); a stop's commands
replace its state. -/
theorem registerCommands : Obligations.RegisterCommands := by
  unfold Obligations.RegisterCommands
  refine ⟨fun s init a v => ⟨exec_registerWrite_unreached, fun h => ⟨_, rfl, ?_⟩⟩, fun s n hn => ⟨?_, ?_, ?_⟩⟩
  · have hexec {A : Nat} := exec_registerWrite_reached (A := A) (v := v) h rfl
    refine ⟨fun ha => ?_, fun ha => ?_, fun ha => ?_, fun n hn ha => ?_, fun n hn ha => ?_, fun ha => ?_, fun ha => ?_,
      fun i hi ha => ?_⟩
    · rw [hexec rfl (scratch_mod _ ha), regWrite_scratch ha]
      exact ⟨onlyRegs_setReg _ _ _, State.reg_setReg _ _ _⟩
    · rw [hexec ha rfl, ha, regWrite_qSel]
      exact ⟨onlyRegs_setReg _ _ _, (State.get_put _ _ _ (by decide)).trans (Nat.mod_mod _ _)⟩
    · rw [hexec rfl (readOnly_mod _ ha)]
      exact onlyRegs_regWrite_readOnly ha s v
    · rw [hexec ha (memInitDone_mod n), ha, regWrite_memInitDone hn]
      exact ⟨onlyRegs_setReg _ _ _, State.reg_setReg _ _ _⟩
    · rw [hexec ha (memInitClr_mod n), regWrite_memInitClr hn]
      exact ⟨onlyRegs_setReg _ _ _, State.reg_setReg _ _ _⟩
    · rw [hexec ha rfl, ha]
      exact ⟨onlyRegs_writeFields R.CAL_CTRL s v, get_calCtrl_autoEn s v, get_calCtrl_delta s v, get_calCtrl_liveRun s v⟩
    · rw [hexec ha rfl]
      exact ⟨onlyRegs_writeFields R.MEM_STAT s v, get_memStat_par s v (by simp), get_memStat_par s v (by simp),
        get_memStat_fenced s v⟩
    · rw [hexec ha (hostDbEn_mod i), regWrite_hostDbEn hi]
      exact ⟨onlyRegs_setReg _ _ _, State.reg_setReg _ _ _⟩
  · refine ⟨_, exec_close hn s, rfl, fun m hm => s.stop_closeStop_ne hm, s.stop_closeStop _, closeStop_flight_map s _,
      fun i p q hp hq => ?_⟩
    rw [closeStop_flight_getElem? hp hq]
    split
    · rfl
    · exact (List.append_nil _).symm
  · refine ⟨_, exec_open hn s, ?_⟩
    cases s.fencedStop n.toNat with
    | true => exact ⟨rfl, fun _ _ => rfl, fun _ => rfl, nofun⟩
    | false => exact ⟨rfl, fun m hm => s.stop_setStop_ne _ hm, nofun, fun _ => s.stop_setStop _ _⟩
  · exact ⟨_, exec_clrCnt hn s, rfl, fun m hm => s.stop_setStop_ne _ hm, s.stop_setStop _ _⟩

end

section
/-!
SUPPORT. What the reset scopes leave (R7, R70): what the writes after a reset's first state change (`Stays`), and the
registers that hold through warm reset.
-/

namespace Sys2Proof.Machine

variable {l : List Nat} {s₀ s t : State}

/-- No packet, request, queue or core state. -/
def State.NoWork (s : State) : Prop :=
  s.flight = [] ∧ s.outst = [] ∧ s.idWait = [] ∧ s.cores = [] ∧ s.queues = []

/-- What a reset's later writes leave of a state: memories, parities, host memory, repair and routes, what went out, the
registers outside of `l`; and no work comes up where there was none. -/
structure Stays (l : List Nat) (s t : State) : Prop where
  mem : t.mem = s.mem
  badPar : t.badPar = s.badPar
  hostMem : t.hostMem = s.hostMem
  macros : t.macros = s.macros
  routes : t.routes = s.routes
  out : s.out <+: t.out
  noWork : s.NoWork → t.NoWork
  reg : ∀ a ∉ l, t.reg a = s.reg a

theorem Stays.refl (l : List Nat) (s : State) : Stays l s s :=
  ⟨rfl, rfl, rfl, rfl, rfl, ⟨[], List.append_nil _⟩, id, fun _ _ => rfl⟩

/-- A state that differs only in what `Stays` does not speak of. -/
theorem Stays.frame {pending : List Instr} {freeCtr : Nat} {reports : List Report} {frNext : Word}
    {perf : List (Nat × BitVec 48)} {perfHi : List (Nat × BitVec 16)} {perfAt : List (Nat × Word)} {time : TimeSt}
    {snaps : List Snap} {imgDis : List (Nat × BitVec 4)} {resIds : List (BitVec 12 × BitVec 12)}
    {stops : List (Nat × StopSt)} {patrol : List (Nat × (Nat × Nat))} {tripped : List Nat}
    {retHold tokCnt ctlErr : List (Nat × Nat)} {host : HostSt}
    {pwr : PwrSt} {mirrors : List (Nat × TokState)} {sieves : List (Nat × Sieve)} {chans : List (Nat × Chan)}
    {owed : List Owed} {fuse : FuseSt} {mills : List (Nat × MillSt)} {corr : CorrSt} {fh : FhSt} {ks : KsSt} {twin : TwinSt}
    {mgmt : MgmtSt} {boot : BootSt} {cal : CalSt} {dump : DumpSt} (hs : Stays l s₀ s) :
    Stays l s₀ ⟨pending, s.regs, s.mem, s.badPar, s.hostMem, freeCtr, s.out, reports, frNext, perf, perfHi, perfAt, time,
      s.cores, snaps, imgDis, s.flight, s.outst, resIds, s.idWait, stops, s.routes, s.macros, patrol, tripped, retHold, host,
      pwr, s.queues, tokCnt, mirrors, sieves, chans, owed, fuse, ctlErr, mills, corr, fh, ks, twin, mgmt, boot, cal, dump⟩ :=
  ⟨hs.mem, hs.badPar, hs.hostMem, hs.macros, hs.routes, hs.out, hs.noWork, hs.reg⟩

theorem Stays.setReg {a : Nat} {v : Word} (hs : Stays l s₀ s) (ha : a ∈ l) : Stays l s₀ (s.setReg a v) :=
  ⟨hs.mem, hs.badPar, hs.hostMem, hs.macros, hs.routes, hs.out, hs.noWork,
    fun b hb => (s.reg_setReg_ne v (ne_of_mem_of_not_mem ha hb).symm).trans (hs.reg b hb)⟩

theorem Stays.put {f : RF} {x : Nat} (hs : Stays l s₀ s) (hf : f.a ∈ l) : Stays l s₀ (s.put f x) :=
  hs.setReg hf

theorem Stays.emit {o : Out} (hs : Stays l s₀ s) : Stays l s₀ (s.emit o) :=
  ⟨hs.mem, hs.badPar, hs.hostMem, hs.macros, hs.routes, hs.out.trans ⟨[o], rfl⟩, hs.noWork, hs.reg⟩

theorem Stays.ite {c : Prop} [Decidable c] (hs : Stays l s₀ s) (ht : Stays l s₀ t) : Stays l s₀ (if c then s else t) := by
  split
  · exact hs
  · exact ht

theorem Stays.foldl {α : Type} {f : State → α → State} {xs : List α} (hs : Stays l s₀ s)
    (hf : ∀ x ∈ xs, ∀ t, Stays l s₀ t → Stays l s₀ (f t x)) : Stays l s₀ (xs.foldl f s) := by
  induction xs generalizing s with
  | nil => exact hs
  | cons x xs ih => exact ih (hf x List.mem_cons_self s hs) fun y hy => hf y (List.mem_cons_of_mem x hy)

theorem Stays.putBit {f : RF} {i : Nat} {b : Bool} (hs : Stays l s₀ s) (hf : f.a ∈ l) : Stays l s₀ (s.putBit f i b) :=
  .ite (hs.put hf) (hs.put hf)

theorem Stays.report {r : Report} (hs : Stays l s₀ s) (hl : R.GLOBAL_FR_LOST ∈ l) : Stays l s₀ (s.report r) :=
  .ite hs.frame (Stays.put hs.frame hl)

theorem Stays.closeStop {n : Nat} (hs : Stays l s₀ s) : Stays l s₀ (s.closeStop n) where
  mem := hs.mem
  badPar := hs.badPar
  hostMem := hs.hostMem
  macros := hs.macros
  routes := hs.routes
  out := hs.out
  noWork h := by
    obtain ⟨hflight, hrest⟩ := hs.noWork h
    exact ⟨by simp [State.closeStop, hflight], hrest⟩
  reg := hs.reg

/-! ### Fuses and calibration -/

/-- The registers of a calibration item that reset writes. -/
def calItemRegs (i : Nat) : List Nat := [R.CAL_ITEM_FUSE i, R.CAL_ITEM_EFF i, R.CAL_ITEM_APPLIED i]

/-- The registers that show the fuses. -/
def fuseRegs : List Nat :=
  [R.GLOBAL_SERIAL_LO, R.GLOBAL_SERIAL_HI, R.BOOT_FUSE] ++ (List.range 146).flatMap calItemRegs

theorem Stays.calRefresh {i : Nat} (hs : Stays l s₀ s) (hl : ∀ a ∈ calItemRegs i, a ∈ l) : Stays l s₀ (s.calRefresh i) :=
  (hs.put (hl (R.CAL_ITEM_EFF i) (by simp [calItemRegs]))).put (hl (R.CAL_ITEM_APPLIED i) (by simp [calItemRegs]))

theorem Stays.calFuses {b : Bool} (hs : Stays l s₀ s) (hl : ∀ a ∈ fuseRegs, a ∈ l) : Stays l s₀ (s.calFuses b) := by
  refine hs.foldl fun i hi t ht => ?_
  have hl : ∀ a ∈ calItemRegs i, a ∈ l := fun a ha =>
    hl a (List.mem_append_right _ (List.mem_flatMap.mpr ⟨i, hi, ha⟩))
  have h1 : Stays l s₀ (t.put (F.CAL_ITEM_FUSE_FUSE i) (mapGet t.fuse.cal 0 i).toNat) :=
    ht.put (hl (R.CAL_ITEM_FUSE i) (by simp [calItemRegs]))
  exact .calRefresh (.ite (h1.put (hl (R.CAL_ITEM_APPLIED i) (by simp [calItemRegs]))) h1) hl

theorem Stays.showFuses {b : Bool} (hs : Stays l s₀ s) (hl : ∀ a ∈ fuseRegs, a ∈ l) : Stays l s₀ (s.showFuses b) := by
  unfold State.showFuses
  refine .calFuses ?_ hl
  refine .put (.put (.setReg (.setReg hs ?_) ?_) ?_) ?_
  · exact hl R.GLOBAL_SERIAL_LO (by simp [fuseRegs])
  · exact hl R.GLOBAL_SERIAL_HI (by simp [fuseRegs])
  · exact hl R.BOOT_FUSE (by simp [fuseRegs])
  · exact hl R.BOOT_FUSE (by simp [fuseRegs])

/-! ### Repair and the start -/

theorem Stays.enterPhase {p : Nat} (hs : Stays l s₀ s) (hl : R.BOOT_STAT ∈ l) : Stays l s₀ (s.enterPhase p) :=
  Stays.put hs.frame hl

/-- The registers that repair writes. -/
def repairRegs : List Nat := [R.MEM_REP_SUM, R.MEM_STAT, R.GLOBAL_FR_LOST, R.GLOBAL_DRUSE_AVAIL, R.PWR_DRUSE_STAT]

theorem Stays.fenceMacro {m : Nat} (hs : Stays l s₀ s) (hl : ∀ a ∈ repairRegs, a ∈ l) : Stays l s₀ (s.fenceMacro m) := by
  unfold State.fenceMacro
  extract_lets _ s1
  have h1 : Stays l s₀ s1 := .report (hs.put (f := F.MEM_STAT_FENCED) (hl R.MEM_STAT (by decide))) (hl _ (by decide))
  split
  · exact .frame (.frame (.putBit (.putBit h1 (hl R.GLOBAL_DRUSE_AVAIL (by decide))) (hl R.PWR_DRUSE_STAT (by decide))))
  · exact h1

/-- Repair takes the fuse map's macros and writes its registers. -/
theorem Stays.repair (hl : ∀ a ∈ repairRegs, a ∈ l) (s : State) : ∃ m, Stays l { s with macros := m } s.repair := by
  unfold State.repair
  extract_lets ms fenced used s1 s2
  have h2 : Stays l s1 s2 := ((Stays.refl l s1).put (hl R.MEM_REP_SUM (by decide))).put (hl R.MEM_REP_SUM (by decide))
  exact ⟨_, h2.foldl fun _ _ _ h => h.fenceMacro hl⟩

/-- The registers that warm reset writes for fenced druses. -/
def fenceRegs : List Nat := [R.MEM_REP_SUM, R.GLOBAL_DRUSE_AVAIL]

theorem Stays.refence (hs : Stays l s₀ s) (hl : ∀ a ∈ fenceRegs, a ∈ l) : Stays l s₀ s.refence := by
  unfold State.refence
  extract_lets ms s1
  have h1 : Stays l s₀ s1 := (hs.put (hl R.MEM_REP_SUM (by decide))).put (hl R.MEM_REP_SUM (by decide))
  refine h1.foldl fun e _ t ht => ?_
  split
  · exact .frame (.closeStop (ht.putBit (hl R.GLOBAL_DRUSE_AVAIL (by decide))))
  · exact ht

theorem Stays.clearTrackers (hs : Stays l s₀ s) : Stays l s₀ s.clearTrackers :=
  hs.foldl fun _ _ _ h => h.frame

theorem Stays.clearPending (hs : Stays l s₀ s) : Stays l s₀ s.clearPending :=
  hs.foldl fun _ _ _ h => h.frame

theorem Stays.clearValid (hs : Stays l s₀ s) : Stays l s₀ s.clearValid :=
  hs.foldl fun _ _ _ h => h.frame

/-! ### Power-on reset -/

theorem sealed_of_get (h : t.get F.BOOT_STAT_SEALED = s.get F.BOOT_STAT_SEALED) : t.sealed = s.sealed := by
  rw [State.sealed, State.sealed, State.on, State.on, h]

theorem sealed_enterPhase (s : State) (p : Nat) : (s.enterPhase p).sealed = s.sealed :=
  sealed_of_get (State.get_put_apart _ F.BOOT_STAT_PHASE F.BOOT_STAT_SEALED _ rfl (by decide))

/-- The state from which a power-on reset builds the device: that after reset, with what is not the device's silicon. -/
def State.powerOnBase (s : State) : State :=
  { State.reset with
    pending := s.pending
    out := s.out
    hostMem := s.hostMem
    freeCtr := s.freeCtr
    fuse := s.fuse
    twin := { TwinSt.reset with peerLow := s.twin.peerLow } }

/-- The registers that a power-on reset writes beside the straps and BOOT_STAT. -/
def powerOnRegs : List Nat := R.TWIN_STAT :: (fuseRegs ++ repairRegs)

theorem Stays.trans {u : State} (hst : Stays l s t) (htu : Stays l t u) : Stays l s u where
  mem := htu.mem.trans hst.mem
  badPar := htu.badPar.trans hst.badPar
  hostMem := htu.hostMem.trans hst.hostMem
  macros := htu.macros.trans hst.macros
  routes := htu.routes.trans hst.routes
  out := hst.out.trans htu.out
  noWork h := htu.noWork (hst.noWork h)
  reg a ha := (htu.reg a ha).trans (hst.reg a ha)

theorem Stays.withMacros {m : List (Nat × MacroSt)} (hs : Stays l s t) :
    Stays l { s with macros := m } { t with macros := m } :=
  ⟨hs.mem, hs.badPar, hs.hostMem, rfl, hs.routes, hs.out, hs.noWork, hs.reg⟩

/-- A power-on reset, up to its first phase: repair decides what is fenced. -/
theorem powerOn_stays (s : State) (straps : Nat) : ∃ m u, s.powerOn straps = u.enterPhase 1 ∧
    Stays powerOnRegs { s.powerOnBase.put F.GLOBAL_STRAPS_ADDR_SEL straps with macros := m } u := by
  unfold State.powerOn
  extract_lets _ _ t t1 t2
  have h0 : Stays powerOnRegs (t.put F.GLOBAL_STRAPS_ADDR_SEL straps)
      ((t.put F.GLOBAL_STRAPS_ADDR_SEL straps).put F.TWIN_STAT_PEER_HOLD (if s.twin.peerLow then 1 else 0)) :=
    (Stays.refl _ _).put List.mem_cons_self
  have h1 : Stays powerOnRegs (t.put F.GLOBAL_STRAPS_ADDR_SEL straps) t1 :=
    h0.showFuses fun a ha => List.mem_cons_of_mem _ (List.mem_append_left _ ha)
  have h2 : Stays powerOnRegs (t.put F.GLOBAL_STRAPS_ADDR_SEL straps) t2 := .ite h1.emit h1
  obtain ⟨m, hm⟩ := Stays.repair (fun a ha => List.mem_cons_of_mem _ (List.mem_append_right fuseRegs ha)) t2
  exact ⟨m, _, rfl, h2.withMacros.trans hm⟩

theorem powerOn_leaves (s : State) (b : BitVec 4) : ∃ t, exec (.powerOnReset b) s = .next t ∧
    t.fuse = s.fuse ∧ t.hostMem = s.hostMem ∧ t.pending = s.pending ∧ s.out <+: t.out ∧
    t.get F.GLOBAL_STRAPS_ADDR_SEL = b.toNat ∧ t.boot.work = 1 ∧ t.mem = [] ∧
    t.flight = [] ∧ t.outst = [] ∧ t.cores = [] ∧ t.queues = [] ∧ t.sealed = false := by
  have hkept := (Kept.refl s).powerOn (straps := b.toNat)
  obtain ⟨m, u, hu, hstays⟩ := powerOn_stays s b.toNat
  obtain ⟨hflight, houtst, -, hcores, hqueues⟩ := hstays.noWork ⟨rfl, rfl, rfl, rfl, rfl⟩
  refine ⟨s.powerOn b.toNat, rfl, hkept.fuse, ?_, hkept.pending, ?_⟩
  all_goals rw [hu]
  · exact hstays.hostMem
  have hstraps : (u.enterPhase 1).get F.GLOBAL_STRAPS_ADDR_SEL = b.toNat := by
    have h1 : (u.enterPhase 1).get F.GLOBAL_STRAPS_ADDR_SEL = u.get F.GLOBAL_STRAPS_ADDR_SEL :=
      State.get_put_ne _ F.BOOT_STAT_PHASE _ _ (by decide)
    have h2 : u.get F.GLOBAL_STRAPS_ADDR_SEL =
        (s.powerOnBase.put F.GLOBAL_STRAPS_ADDR_SEL b.toNat).get F.GLOBAL_STRAPS_ADDR_SEL :=
      congrArg (fieldOf · _) (hstays.reg R.GLOBAL_STRAPS (by decide))
    rw [h1, h2, State.get_put _ _ _ (by decide)]
    exact Nat.mod_eq_of_lt b.isLt
  have hsealed : (u.enterPhase 1).sealed = false := by
    rw [sealed_enterPhase]
    have h1 : u.get F.BOOT_STAT_SEALED = (s.powerOnBase.put F.GLOBAL_STRAPS_ADDR_SEL b.toNat).get F.BOOT_STAT_SEALED :=
      congrArg (fieldOf · _) (hstays.reg R.BOOT_STAT (by decide))
    have h2 : s.powerOnBase.get F.BOOT_STAT_SEALED = 0 := (State.get_congr (s := .reset) rfl _).trans (by decide +kernel)
    rw [State.get_put_ne _ _ _ _ (by decide), h2] at h1
    simp [State.sealed, State.on, h1]
  exact ⟨hstays.out, hstraps, rfl, hstays.mem, hflight, houtst, hcores, hqueues, hsealed⟩

/-! ### Warm reset -/

/-- The registers that show state after a warm reset, beside BOOT_STAT. -/
def warmShownRegs : List Nat :=
  [R.GLOBAL_STRAPS, R.TWIN_STAT, R.TIME_REF_STAT, R.GLOBAL_CLK_STAT, R.HOST_LINK] ++ (fenceRegs ++ fuseRegs)

theorem warmShow_stays (hl : ∀ a ∈ warmShownRegs, a ∈ l) (old s : State) :
    Stays l (s.put F.BOOT_STAT_SEALED (old.get F.BOOT_STAT_SEALED)) (State.warmShow old s) := by
  unfold State.warmShow
  extract_lets s1 s2 s3
  have h1 : Stays l (s.put F.BOOT_STAT_SEALED (old.get F.BOOT_STAT_SEALED)) s1 :=
    ((Stays.refl l _).put (hl R.GLOBAL_STRAPS (by decide))).put (hl R.TWIN_STAT (by decide))
  have h2 : Stays l (s.put F.BOOT_STAT_SEALED (old.get F.BOOT_STAT_SEALED)) s2 :=
    (h1.put (hl R.TIME_REF_STAT (by decide))).put (hl R.TIME_REF_STAT (by decide))
  have h3 : Stays l (s.put F.BOOT_STAT_SEALED (old.get F.BOOT_STAT_SEALED)) s3 :=
    (h2.setReg (hl _ (by decide))).setReg (hl _ (by decide))
  exact h3.clearTrackers.clearPending.clearValid.refence fun a ha =>
    hl a (List.mem_append_right _ (List.mem_append_left _ ha))

/-- What a warm reset's registers show, up to the boot controller's own word. -/
theorem warmShown_stays (hl : ∀ a ∈ warmShownRegs, a ∈ l) (old s : State) :
    Stays l (s.put F.BOOT_STAT_SEALED (old.get F.BOOT_STAT_SEALED)) ((State.warmShow old s).showFuses true) :=
  (warmShow_stays hl old s).showFuses fun a ha => hl a (List.mem_append_right _ (List.mem_append_right _ ha))

theorem sealed_withBoot (s : State) (b : BootSt) : { s with boot := b }.sealed = s.sealed := rfl

/-- The start that a warm reset begins: the phase of the boot controller, with its word as before without an image. -/
def State.warmEnter (old s : State) : State :=
  if old.get F.BOOT_STAT_PHASE = 9 then (s.setReg R.BOOT_STAT (old.reg R.BOOT_STAT)).enterPhase 9
  else if s.boot.warm then (s.put F.BOOT_STAT_COPY (old.get F.BOOT_LOADED_COPY)).enterPhase 2
  else s.enterPhase 2

theorem warmReset_eq (s : State) : ∃ b, s.warmReset =
    State.warmEnter s { (State.warmShow s s.warmState.warmRegs).showFuses true with boot := b } :=
  ⟨_, rfl⟩

theorem Stays.warmEnter (hs : Stays l s₀ s) (hl : R.BOOT_STAT ∈ l) (old : State) : Stays l s₀ (State.warmEnter old s) :=
  .ite ((hs.setReg hl).enterPhase hl) (.ite ((hs.put hl).enterPhase hl) (hs.enterPhase hl))

theorem sealed_warmEnter {old : State} (h : s.sealed = old.sealed) : (State.warmEnter old s).sealed = old.sealed := by
  unfold State.warmEnter
  split
  · rw [sealed_enterPhase]
    exact sealed_of_get (s.get_setReg_same F.BOOT_STAT_SEALED _)
  · split
    · rw [sealed_enterPhase, ← h]
      exact sealed_of_get (s.get_put_apart F.BOOT_STAT_COPY F.BOOT_STAT_SEALED _ rfl (by decide))
    · rw [sealed_enterPhase, h]

theorem warmReset_stays (s : State) : Stays (R.BOOT_STAT :: warmShownRegs) s.warmState.warmRegs s.warmReset := by
  obtain ⟨b, hb⟩ := warmReset_eq s
  have hshown := warmShown_stays (l := R.BOOT_STAT :: warmShownRegs) (fun a ha => List.mem_cons_of_mem _ ha) s
    s.warmState.warmRegs
  have hsealed : Stays (R.BOOT_STAT :: warmShownRegs) s.warmState.warmRegs
      (s.warmState.warmRegs.put F.BOOT_STAT_SEALED (s.get F.BOOT_STAT_SEALED)) := (Stays.refl _ _).put List.mem_cons_self
  rw [hb]
  exact .warmEnter (.frame (hsealed.trans hshown)) List.mem_cons_self s

theorem warmReset_sealed (s : State) : s.warmReset.sealed = s.sealed := by
  obtain ⟨b, hb⟩ := warmReset_eq s
  rw [hb]
  refine sealed_warmEnter ((sealed_withBoot _ b).trans (sealed_of_get ?_))
  have h := (warmShown_stays (fun _ ha => ha) s s.warmState.warmRegs).reg R.BOOT_STAT (by decide)
  refine (congrArg (fieldOf · F.BOOT_STAT_SEALED) h).trans ((State.get_put _ _ _ (by decide)).trans ?_)
  exact Nat.mod_eq_of_lt (fieldOf_lt _ _)

theorem warmState_stays (s : State) : Stays [R.TIME_SYNCE_STAT] s s.warmState := by
  unfold State.warmState
  extract_lets s0 s1 recs z
  have h0 : Stays [R.TIME_SYNCE_STAT] s s0 := (Stays.refl _ s).foldl fun _ _ _ h => h.emit
  have h0' : Stays [R.TIME_SYNCE_STAT] s (if s.twin.line then s0.emit (.token false) else s0) := .ite h0.emit h0
  have h1 : Stays [R.TIME_SYNCE_STAT] s s1 := .ite (.emit (h0'.put List.mem_cons_self)) h0'
  exact ⟨h1.mem, h1.badPar, h1.hostMem, h1.macros, h1.routes, h1.out, fun _ => ⟨rfl, rfl, rfl, rfl, rfl⟩, h1.reg⟩

/-- Registers go through warm reset one by one: the listed ones take their words. -/
theorem reg_foldl_warmWord (l : List Nat) (f : Nat → Word) (a : Nat) (s : State) :
    (l.foldl (fun t a => t.setReg a (f a)) s).reg a = if a ∈ l then f a else s.reg a := by
  induction l generalizing s with
  | nil => rfl
  | cons b l ih =>
    rw [List.foldl_cons, ih]
    by_cases hl : a ∈ l
    · simp [hl]
    · by_cases hb : a = b
      · simp [hb]
      · simp [hl, hb, State.reg_setReg_ne _ _ hb]

theorem mapFind_eq_none {α : Type} {m : List (Nat × α)} {x : Nat} (h : x ∉ m.map (·.1)) : mapFind? m x = none := by
  induction m with
  | nil => rfl
  | cons e m ih =>
    obtain ⟨he, hm⟩ := not_or.mp (mt List.mem_cons.mpr h)
    rw [mapFind?, if_neg (Ne.symm he), ih hm]

/-- A register whose reset value goes through warm reset unchanged. -/
theorem reg_warmRegs {a : Nat} (h : warmWord a (regReset a) = regReset a) (s : State) :
    s.warmRegs.reg a = warmWord a (s.reg a) := by
  unfold State.warmRegs
  rw [reg_foldl_warmWord]
  split
  · rfl
  next ha =>
    have hr : s.reg a = regReset a := by rw [State.reg, mapGet, mapFind_eq_none ha, Option.getD_none]
    rw [hr, h]

theorem warmRegs_eq (s : State) : ∃ regs, s.warmRegs = { s with regs := regs } := by
  have h (l : List Nat) (f : Nat → Word) : ∀ t : State, (∃ regs, t = { s with regs := regs }) →
      ∃ regs, l.foldl (fun t a => t.setReg a (f a)) t = { s with regs := regs } := by
    induction l with
    | nil => exact fun _ ht => ht
    | cons b l ih =>
      rintro t ⟨regs, rfl⟩
      exact ih _ ⟨_, rfl⟩
  exact h _ _ s ⟨s.regs, rfl⟩

/-! ### Registers that keep their values -/

/-- The registers of one field that holds through warm reset. -/
theorem warmWord_whole {a reset : Nat} {acc : Acc} (hd : (regDefAt a).map RegDef.fields = some [⟨0, 32, acc, reset, 0⟩])
    (hacc : acc = .rws ∨ acc = .rwl) (ha : a < 0x1001000 ∨ 0x1001200 ≤ a) (w : Word) : warmWord a w = w := by
  obtain ⟨d, hreg, hf⟩ := Option.map_eq_some_iff.mp hd
  have hkeep : withField (regReset a) ⟨a, 0, 32⟩ (fieldOf w ⟨a, 0, 32⟩) = w := by
    rw [withField_whole, fieldOf_whole, BitVec.ofNat_toNat, BitVec.setWidth_eq]
  have hns : (decide (0x1001000 ≤ a) && decide (a < 0x1001200) && decide (a % 64 = 8)) = false := by
    simp only [Bool.and_eq_false_iff, decide_eq_false_iff_not]
    omega
  unfold warmWord
  split
  · rfl
  · rcases hacc with rfl | rfl <;> simp [hreg, hf, hns, FieldDef.rf, hkeep]

theorem warmWord_timebase {k : Nat} (hk : k < 8) (w : Word) : warmWord (R.TIME_TB_NS k) w = w := by
  unfold warmWord
  rw [if_pos]
  interval_cases k <;> rfl

theorem warmWord_memStat (w : Word) : warmWord R.MEM_STAT w = 0 := rfl

theorem warmWord_veinStat (w : Word) : warmWord R.VEIN_STAT w = 0 := rfl

theorem warmReset_reg {a : Nat} (ha : a ∉ R.BOOT_STAT :: warmShownRegs) (hs : a ≠ R.TIME_SYNCE_STAT)
    (h : warmWord a (regReset a) = regReset a) (s : State) : s.warmReset.reg a = warmWord a (s.reg a) := by
  rw [(warmReset_stays s).reg a ha, reg_warmRegs h, (warmState_stays s).reg a (by simpa using hs)]

/-- What warm reset keeps beside the registers. -/
theorem warmReset_keeps (s : State) : s.warmReset.mem = s.mem ∧ s.warmReset.badPar = s.badPar ∧
    s.warmReset.hostMem = s.hostMem ∧ s.warmReset.macros = s.macros ∧
    s.warmReset.routes = s.routes ∧ s.out <+: s.warmReset.out ∧
    s.warmReset.NoWork := by
  have hstate := warmState_stays s
  have hstays := warmReset_stays s
  obtain ⟨regs, hregs⟩ := warmRegs_eq s.warmState
  rw [hregs] at hstays
  exact ⟨hstays.mem.trans hstate.mem, hstays.badPar.trans hstate.badPar, hstays.hostMem.trans hstate.hostMem,
    hstays.macros.trans hstate.macros, hstays.routes.trans hstate.routes, hstate.out.trans hstays.out,
    hstays.noWork ⟨rfl, rfl, rfl, rfl, rfl⟩⟩

theorem warmReset_hostDbEn {i : Nat} (hi : i < 32) (s : State) :
    s.warmReset.reg (R.HOST_DB_EN i) = s.reg (R.HOST_DB_EN i) := by
  have hkeep (w : Word) : warmWord (R.HOST_DB_EN i) w = w := by
    refine warmWord_whole (regDefAt_hostDbEn i hi) (.inr rfl) (.inr ?_) w
    unfold R.HOST_DB_EN
    omega
  have hapart : ∀ i < 32, R.HOST_DB_EN i ∉ R.BOOT_STAT :: warmShownRegs := by decide +kernel
  rw [warmReset_reg (hapart i hi) ?_ (hkeep _), hkeep]
  unfold R.HOST_DB_EN R.TIME_SYNCE_STAT
  omega

theorem warmReset_scratch {a : Nat} (ha : a ∈ [R.GLOBAL_SCRATCH0, R.GLOBAL_SCRATCH1, R.GLOBAL_SCRATCH2, R.GLOBAL_SCRATCH3])
    (s : State) : s.warmReset.reg a = s.reg a := by
  have hlow : ∀ a ∈ [R.GLOBAL_SCRATCH0, R.GLOBAL_SCRATCH1, R.GLOBAL_SCRATCH2, R.GLOBAL_SCRATCH3],
      a ∉ R.BOOT_STAT :: warmShownRegs ∧ a ≠ R.TIME_SYNCE_STAT ∧ a < 0x1001000 := by decide +kernel
  obtain ⟨hapart, hne, hlt⟩ := hlow a ha
  have hkeep := warmWord_whole (regDefAt_scratch a ha) (.inl rfl) (.inl hlt)
  rw [warmReset_reg hapart hne (hkeep _), hkeep]

theorem warmReset_timebase {k : Nat} (hk : k < 8) (s : State) :
    s.warmReset.reg (R.TIME_TB_NS k) = s.reg (R.TIME_TB_NS k) := by
  have hapart : ∀ k < 8, R.TIME_TB_NS k ∉ R.BOOT_STAT :: warmShownRegs := by decide +kernel
  rw [warmReset_reg (hapart k hk) ?_ (warmWord_timebase hk _), warmWord_timebase hk]
  unfold R.TIME_TB_NS R.TIME_SYNCE_STAT
  omega

theorem warmReset_memStat (s : State) : s.warmReset.reg R.MEM_STAT = 0 :=
  (warmReset_reg (by decide) (by decide) rfl s).trans (warmWord_memStat _)

theorem warmReset_veinStat (s : State) : s.warmReset.reg R.VEIN_STAT = 0 :=
  (warmReset_reg (by decide) (by decide) rfl s).trans (warmWord_veinStat _)

theorem globalRst_of_key (s : State) : s.globalRst 0x5A5A = s.warmReset := if_pos (by decide)

theorem globalRst_of_ne {v : Word} (h : v.truncate 16 ≠ 0x5A5A#16) (s : State) : s.globalRst v = s := by
  refine if_neg fun hv => h ?_
  refine BitVec.eq_of_toNat_eq ?_
  simpa [bitsOf] using hv

end Sys2Proof.Machine
end

section
/-!
PROOFS. What power-on reset and warm reset keep and clear (O38).
-/

open Sys2Proof Sys2Proof.Machine

/-- Settles O38: a power-on reset starts from the state after reset (`powerOn_leaves`), a warm reset keeps what its
registers' types say and what `warmReset_keeps` lists. -/
theorem resetScopes : Obligations.ResetScopes := by
  unfold Obligations.ResetScopes
  refine ⟨⟨rfl, rfl, by decide +kernel, by decide +kernel, fun _ => rfl⟩, powerOn_leaves, fun s => ?_, fun s v hv => ?_⟩
  · have hkept := (Kept.refl s).warmReset
    obtain ⟨hmem, hpar, hhost, hmacros, hroutes, hout, hflight, houtst, hid, hcores, hqueues⟩ := warmReset_keeps s
    exact ⟨s.warmReset, rfl, congrArg Host.Outcome.next (globalRst_of_key s), hmem, hpar, hhost, hkept.fuse, hmacros,
      hroutes, hkept.pending, hout, hflight, houtst, hid, hcores, hqueues, warmReset_memStat s, warmReset_veinStat s,
      fun _ hi => warmReset_hostDbEn hi s, fun _ ha => warmReset_scratch ha s, fun _ hk => warmReset_timebase hk s,
      warmReset_sealed s⟩
  · exact congrArg Host.Outcome.next (globalRst_of_ne hv s)

end

section
/-!
SUPPORT. What the commands of the TIME block read and leave: fields of one register, folds that change registers only, snapshots
and captures (R40, R55 to R57).
-/

namespace Sys2Proof.Machine

variable {s t u : State} {e f rep : RF} {k j : Nat} {l l' : List Nat}

/-! ### Fields of one register -/

theorem State.on_put (f : RF) (h : (f.lo + f.w).ble 32 = true) (s : State) (x : Nat) :
    (s.put f x).on f = decide (x % 2 ^ f.w = 1) := by
  rw [State.on, State.get_put _ _ _ (Nat.le_of_ble_eq_true h)]

/-- Two fields of one register without a common bit. -/
structure RF.Beside (e f : RF) : Prop where
  addr : e.a = f.a
  apart : ((e.lo + e.w).ble f.lo || (f.lo + f.w).ble e.lo) = true

theorem State.get_put_beside (e f : RF) (h : e.Beside f) (s : State) (x : Nat) : (s.put f x).get e = s.get e := by
  obtain ⟨haddr, hapart⟩ := h
  simp only [Bool.or_eq_true, Nat.ble_eq] at hapart
  exact s.get_put_apart f e x haddr hapart

theorem State.on_of_get (h : t.get e = s.get e) : t.on e = s.on e :=
  congrArg (fun x => decide (x = 1)) h

theorem State.on_put_beside (e f : RF) (h : e.Beside f) (s : State) (x : Nat) : (s.put f x).on e = s.on e :=
  State.on_of_get (State.get_put_beside e f h s x)

theorem State.get_of_reg (h : t.reg e.a = s.reg e.a) : t.get e = s.get e :=
  congrArg (fieldOf · e) h

theorem State.on_of_reg (h : t.reg e.a = s.reg e.a) : t.on e = s.on e :=
  State.on_of_get (State.get_of_reg h)

/-- A flag with the repeat count above it in its register (R4). -/
structure RF.CountedBy (f rep : RF) : Prop where
  addr : rep.a = f.a
  flag : f.w = 1
  count : rep.w = 8
  above : f.lo.blt rep.lo = true
  fits : (rep.lo + 8).ble 32 = true

theorem State.on_flagRep (h : f.CountedBy rep) (s : State) : (s.flagRep f rep).on f = true := by
  obtain ⟨haddr, hw, -, habove, hfits⟩ := h
  simp only [Nat.blt_eq, Nat.ble_eq] at habove hfits
  rw [State.flagRep, State.flagRepN, State.on_of_get (State.get_put_apart _ rep f _ haddr.symm (.inl (by omega)))]
  exact s.on_flag f (by omega) hw

theorem State.get_rep_flagRep (h : f.CountedBy rep) (s : State) :
    (s.flagRep f rep).get rep = min 255 (s.get rep + 1) := by
  obtain ⟨-, -, hw, -, hfits⟩ := h
  rw [State.flagRep, State.flagRepN, State.get_put _ _ _ (hw ▸ Nat.le_of_ble_eq_true hfits), hw]
  omega

theorem State.on_flagRep_beside (e f rep : RF) (hf : e.Beside f) (hr : e.Beside rep) (s : State) :
    (s.flagRep f rep).on e = s.on e :=
  (State.on_put_beside e rep hr _ _).trans (State.on_put_beside e f hf s 1)

/-! ### Changes of registers only -/

theorem onlyRegs.refl (l : List Nat) (s : State) : onlyRegs s s l := ⟨rfl, fun _ _ => rfl⟩

theorem onlyRegs.trans (hst : onlyRegs s t l) (htu : onlyRegs t u l) : onlyRegs s u l := by
  obtain ⟨ht, hregs⟩ := hst
  obtain ⟨hu, hregs'⟩ := htu
  exact ⟨hu.trans (by rw [ht]), fun a ha => (hregs' a ha).trans (hregs a ha)⟩

theorem onlyRegs.mono (h : onlyRegs s t l) (hl : l ⊆ l') : onlyRegs s t l' :=
  ⟨h.1, fun a ha => h.2 a fun h => ha (hl h)⟩

theorem onlyRegs.setReg {a : Nat} {v : Word} (h : onlyRegs s t l) (ha : a ∈ l) : onlyRegs s (t.setReg a v) l :=
  h.trans ((onlyRegs_setReg t a v).mono (List.cons_subset.mpr ⟨ha, List.nil_subset _⟩))

theorem onlyRegs.put {x : Nat} (h : onlyRegs s t l) (ha : f.a ∈ l) : onlyRegs s (t.put f x) l :=
  h.setReg ha

theorem onlyRegs_flagRep (h : f.CountedBy rep) (s : State) : onlyRegs s (s.flagRep f rep) [f.a] :=
  ((onlyRegs.refl _ s).put List.mem_cons_self).put (List.mem_singleton.mpr h.addr)

theorem State.reg_flagRep_ne (h : f.CountedBy rep) (s : State) {a : Nat} (ha : a ≠ f.a) :
    (s.flagRep f rep).reg a = s.reg a :=
  (onlyRegs_flagRep h s).2 a (mt List.mem_singleton.mp ha)

theorem onlyRegs.ite {c : Prop} [Decidable c] (ht : onlyRegs s t l) (hu : onlyRegs s u l) :
    onlyRegs s (if c then t else u) l := by
  split
  · exact ht
  · exact hu

theorem onlyRegs.foldl {α : Type} {g : State → α → State} {xs : List α} (h : onlyRegs s t l)
    (hg : ∀ x ∈ xs, ∀ u, onlyRegs s u l → onlyRegs s (g u x) l) : onlyRegs s (xs.foldl g t) l :=
  List.foldlRecOn xs g h fun u hu x hx => hg x hx u hu

/-- What each step of a fold leaves, the fold leaves. -/
theorem foldl_keeps {σ α β : Type} (p : σ → β) {g : σ → α → σ} (hg : ∀ b x, p (g b x) = p b) (xs : List α) (b : σ) :
    p (xs.foldl g b) = p b :=
  List.foldlRecOn (motive := fun c => p c = p b) xs g rfl fun c hc x _ => (hg c x).trans hc

theorem sendEventFrom_regs {src : Nat} {init : BitVec 12} {strata eventId word : Nat} {tok : Option (BitVec 15)} (s : State) :
    (s.sendEventFrom src init strata eventId word tok).regs = s.regs := by
  refine foldl_keeps State.regs (fun t x => ?_) _ s
  split <;> rfl

/-! ### Snapshots (R40) -/

/-- One timebase's part of a snapshot of `s`. -/
def State.snapOne (s : State) (m : BitVec 8) (t : State) (k : Nat) : State :=
  if m.getLsbD k then
    (t.setReg (R.TIME_TB_SNAP_NS k) (s.reg (R.TIME_TB_NS k))).setReg (R.TIME_TB_SNAP_FRAC k) (s.reg (R.TIME_TB_FRAC k))
  else t

theorem snapshot_eq (s : State) (m : BitVec 8) : s.snapshot m = (List.range 8).foldl (s.snapOne m) s := rfl

/-- The snapshot registers of those timebases of a list that a mask selects. -/
def snapRegs (m : BitVec 8) (l : List Nat) : List Nat :=
  (l.filter (m.getLsbD ·)).flatMap fun k => [R.TIME_TB_SNAP_NS k, R.TIME_TB_SNAP_FRAC k]

theorem mem_snapRegs {m : BitVec 8} {a : Nat} :
    a ∈ snapRegs m l ↔ ∃ k ∈ l, m.getLsbD k = true ∧ (a = R.TIME_TB_SNAP_NS k ∨ a = R.TIME_TB_SNAP_FRAC k) := by
  simp [snapRegs, and_assoc]

theorem onlyRegs.snapOnes (s : State) (m : BitVec 8) (t : State) (l : List Nat) :
    onlyRegs t (l.foldl (s.snapOne m) t) (snapRegs m l) := by
  refine (onlyRegs.refl _ t).foldl fun k hk u hu => ?_
  unfold State.snapOne
  split
  next hm => exact (hu.setReg (mem_snapRegs.mpr ⟨k, hk, hm, .inl rfl⟩)).setReg (mem_snapRegs.mpr ⟨k, hk, hm, .inr rfl⟩)
  · exact hu

/-- The timebases before one, it, and the timebases after it. -/
theorem range_eight_split : ∀ k < 8, List.range 8 = List.range k ++ k :: List.range' (k + 1) (7 - k) := by decide

theorem reg_snapshot {m : BitVec 8} (hk : k < 8) (hm : m.getLsbD k = true) (s : State) :
    (s.snapshot m).reg (R.TIME_TB_SNAP_NS k) = s.reg (R.TIME_TB_NS k) ∧
      (s.snapshot m).reg (R.TIME_TB_SNAP_FRAC k) = s.reg (R.TIME_TB_FRAC k) := by
  rw [snapshot_eq, range_eight_split k hk, List.foldl_append, List.foldl_cons]
  obtain ⟨-, hrest⟩ := onlyRegs.snapOnes s m (s.snapOne m ((List.range k).foldl (s.snapOne m) s) k)
    (List.range' (k + 1) (7 - k))
  have hlater {a : Nat} (ha : a = R.TIME_TB_SNAP_NS k ∨ a = R.TIME_TB_SNAP_FRAC k) :
      a ∉ snapRegs m (List.range' (k + 1) (7 - k)) := by
    rw [mem_snapRegs]
    rintro ⟨j, hj, -, hja⟩
    obtain ⟨hkj, -⟩ := List.mem_range'_1.mp hj
    unfold R.TIME_TB_SNAP_NS R.TIME_TB_SNAP_FRAC at ha hja
    omega
  have hne : R.TIME_TB_SNAP_NS k ≠ R.TIME_TB_SNAP_FRAC k := by
    unfold R.TIME_TB_SNAP_NS R.TIME_TB_SNAP_FRAC
    omega
  rw [hrest _ (hlater (.inl rfl)), hrest _ (hlater (.inr rfl)), State.snapOne, if_pos hm, State.reg_setReg_ne _ _ hne]
  exact ⟨State.reg_setReg _ _ _, State.reg_setReg _ _ _⟩

/-! ### Captures (R55 to R57) -/

theorem capture_countedBy (j : Nat) : (F.TIME_CAP_STAT_OVR j).CountedBy (F.TIME_CAP_STAT_OVR_REP j) :=
  ⟨rfl, rfl, rfl, rfl, rfl⟩

theorem capture_of_valid {src : Nat} {rising : Bool} (h : s.captures j src rising = true)
    (hv : s.on (F.TIME_CAP_STAT_VALID j) = true) : s.capture j src rising =
      (s.flagRep (F.TIME_CAP_STAT_OVR j) (F.TIME_CAP_STAT_OVR_REP j)).count 1172 1 := by
  simp [State.capture, h, hv]

/-- The state with a capture unit's latched values: the edge's timebase and TB0 (R55, R57). -/
def State.latched (s : State) (j : Nat) : State :=
  let tb := s.get (F.TIME_CAP_CFG_TB j)
  (((s.setReg (R.TIME_CAP_NS j) (s.reg (R.TIME_TB_NS tb))).setReg (R.TIME_CAP_FRAC j)
    (s.reg (R.TIME_TB_FRAC tb))).setReg (R.TIME_CAP_TB0 j) s.now).put (F.TIME_CAP_STAT_VALID j) 1

theorem capture_of_not_valid {src : Nat} {rising : Bool} (h : s.captures j src rising = true)
    (hv : s.on (F.TIME_CAP_STAT_VALID j) = false) : s.capture j src rising =
      if (s.latched j).on (F.TIME_CAP_EVT_EN j) then
        ((s.latched j).sendEventFrom nodeTime Config.timeInit ((s.latched j).get (F.TIME_CAP_EVT_STRATA j))
          ((s.latched j).get (F.TIME_CAP_EVT_EVENT_ID j)) (Config.captureWord (s.latched j).freeCtr).toNat none).bumpFree
      else s.latched j := by
  rw [State.capture, h, hv]
  rfl

theorem capture_regs {src : Nat} {rising : Bool} (h : s.captures j src rising = true)
    (hv : s.on (F.TIME_CAP_STAT_VALID j) = false) : (s.capture j src rising).regs = (s.latched j).regs := by
  rw [capture_of_not_valid h hv]
  split
  · exact sendEventFrom_regs _
  · rfl

theorem onlyRegs.latched (s : State) (j : Nat) : onlyRegs s (s.latched j)
    [R.TIME_CAP_NS j, R.TIME_CAP_FRAC j, R.TIME_CAP_TB0 j, R.TIME_CAP_STAT j] :=
  (((onlyRegs.refl _ s).setReg (by simp)).setReg (by simp)).setReg (by simp) |>.put (by simp [F.TIME_CAP_STAT_VALID])

theorem reg_latched (s : State) (j : Nat) :
    (s.latched j).reg (R.TIME_CAP_NS j) = s.reg (R.TIME_TB_NS (s.get (F.TIME_CAP_CFG_TB j))) ∧
      (s.latched j).reg (R.TIME_CAP_FRAC j) = s.reg (R.TIME_TB_FRAC (s.get (F.TIME_CAP_CFG_TB j))) ∧
      (s.latched j).reg (R.TIME_CAP_TB0 j) = s.now := by
  simp [State.latched, State.put, State.reg_setReg_ne, F.TIME_CAP_STAT_VALID, R.TIME_CAP_NS, R.TIME_CAP_FRAC,
    R.TIME_CAP_TB0, R.TIME_CAP_STAT]

theorem on_latched_valid (s : State) (j : Nat) : (s.latched j).on (F.TIME_CAP_STAT_VALID j) = true :=
  State.on_put (F.TIME_CAP_STAT_VALID j) rfl _ 1

theorem get_latched_rep (s : State) (j : Nat) :
    (s.latched j).get (F.TIME_CAP_STAT_OVR_REP j) = s.get (F.TIME_CAP_STAT_OVR_REP j) := by
  refine (State.get_put_beside (F.TIME_CAP_STAT_OVR_REP j) (F.TIME_CAP_STAT_VALID j) ⟨rfl, rfl⟩ _ 1).trans (State.get_of_reg ?_)
  simp [State.reg_setReg_ne, F.TIME_CAP_STAT_OVR_REP, R.TIME_CAP_NS, R.TIME_CAP_FRAC, R.TIME_CAP_TB0, R.TIME_CAP_STAT]

theorem on_latched_event (s : State) (j : Nat) : (s.latched j).on (F.TIME_CAP_EVT_EN j) = s.on (F.TIME_CAP_EVT_EN j) := by
  refine State.on_of_reg ((onlyRegs.latched s j).2 _ ?_)
  simp [F.TIME_CAP_EVT_EN, R.TIME_CAP_EVT, R.TIME_CAP_NS, R.TIME_CAP_FRAC, R.TIME_CAP_TB0, R.TIME_CAP_STAT]

/-! ### A step -/

theorem step_of_pending {c : Instr} {rest : List Instr} {s : State} (h : s.pending = c :: rest) :
    step s = exec c { s with pending := rest } := by
  unfold step
  split
  next c' rest' h' =>
    obtain ⟨rfl, rfl⟩ := List.cons.inj (h.symm.trans h')
    exact Eq.refl _
  next h' => exact absurd (h.symm.trans h') (List.cons_ne_nil _ _)

theorem step_of_idle {s : State} (h : s.pending = []) : step s = .next (idleStep s) := by
  unfold step
  split
  next h' => exact absurd (h'.symm.trans h) (List.cons_ne_nil _ _)
  next => exact Eq.refl _

end Sys2Proof.Machine
end

section
/-!
PROOFS. The front command, snapshots and captures (O1, O42, O43).
-/

open Sys2Proof Sys2Proof.Machine

/-- Settles O1: the two cases of `step`, by the queue. -/
theorem stepRunsFrontCommand : Obligations.StepRunsFrontCommand :=
  ⟨fun _ _ _ => step_of_pending, fun _ => step_of_idle⟩

/-- Settles O42: each selected timebase's part of the fold writes its two registers (`reg_snapshot`), and the fold no other
(`onlyRegs.snapOnes`). -/
theorem snapshot : Obligations.Snapshot := by
  unfold Obligations.Snapshot
  intro s m
  obtain ⟨hregs, hframe⟩ := onlyRegs.snapOnes s m s (List.range 8)
  refine ⟨s.snapshot m, rfl, hregs, fun k hk hm => reg_snapshot hk hm s, fun a ha => hframe a fun h => ?_⟩
  obtain ⟨k, hk, hm, hak⟩ := mem_snapRegs.mp h
  obtain ⟨hns, hfrac⟩ := ha k (List.mem_range.mp hk) hm
  exact hak.elim hns hfrac

/-- Settles O43: a capture that meets VALID = 1 only counts itself (`capture_of_valid`), one that meets VALID = 0 latches the
edge's values (`reg_latched`). -/
theorem captureKept : Obligations.CaptureKept := by
  unfold Obligations.CaptureKept
  intro s j src rising hcap latched tb
  have hstat {a : Nat} (ha : a ∈ [R.TIME_CAP_NS j.toNat, R.TIME_CAP_FRAC j.toNat, R.TIME_CAP_TB0 j.toNat]) :
      a ≠ R.TIME_CAP_STAT j.toNat := by
    rintro rfl
    simp [R.TIME_CAP_NS, R.TIME_CAP_FRAC, R.TIME_CAP_TB0, R.TIME_CAP_STAT] at ha
  refine ⟨fun hv => ⟨_, congrArg Host.Outcome.next (capture_of_valid hcap hv), ?_⟩, fun hv => ⟨_, rfl, ?_⟩⟩
  · have hcounted := capture_countedBy j.toNat
    have hregs := State.count_regs (s.flagRep (F.TIME_CAP_STAT_OVR j.toNat) (F.TIME_CAP_STAT_OVR_REP j.toNat)) 1172 1
    have hframe {a : Nat} (ha : a ≠ R.TIME_CAP_STAT j.toNat) :=
      (State.reg_congr hregs a).trans (State.reg_flagRep_ne hcounted s ha)
    have hvalid := (State.on_flagRep_beside (F.TIME_CAP_STAT_VALID j.toNat) (F.TIME_CAP_STAT_OVR j.toNat)
      (F.TIME_CAP_STAT_OVR_REP j.toNat) ⟨rfl, rfl⟩ ⟨rfl, rfl⟩ s).trans hv
    refine ⟨?_, (State.on_congr hregs _).trans (State.on_flagRep hcounted s),
      (State.get_congr hregs _).trans (State.get_rep_flagRep hcounted s), (State.on_congr hregs _).trans hvalid, rfl,
      fun _ ha => hframe ha⟩
    simp only [latched, hframe (hstat _), List.mem_cons, true_or, or_true]
  · have hregs := capture_regs hcap hv
    obtain ⟨hns, hfrac, htb0⟩ := reg_latched s j.toNat
    have hlatched : latched (s.capture j.toNat src.toNat rising) =
        [s.reg (R.TIME_TB_NS tb), s.reg (R.TIME_TB_FRAC tb), s.now] := by
      simp only [latched, State.reg_congr hregs, hns, hfrac, htb0, tb]
    refine ⟨hlatched, (State.on_congr hregs _).trans (on_latched_valid _ _),
      (State.get_congr hregs _).trans (get_latched_rep _ _), fun hevt => ?_⟩
    rw [capture_of_not_valid hcap hv, on_latched_event, hevt]
    rfl

end

section
/-!
SUPPORT. Reference, timebases, compare units, 1PPS inputs and PTP registers (R33 to R39, R47 to R50, R54, R62, R63, R426).
-/

namespace Sys2Proof.Machine

variable {s t u : State} {v : Word} {j k a : Nat}

/-! ### Reference (R33 to R35) -/

theorem onlyRegs_leaveHoldover (s : State) : onlyRegs s s.leaveHoldover [R.TIME_REF_STAT] :=
  ((onlyRegs.refl _ s).put List.mem_cons_self).put List.mem_cons_self

theorem on_holdover_leaveHoldover (s : State) : s.leaveHoldover.on F.TIME_REF_STAT_HOLDOVER = false :=
  (State.on_put_beside F.TIME_REF_STAT_HOLDOVER F.TIME_REF_STAT_LOCK ⟨rfl, rfl⟩ _ 1).trans
    (State.on_put F.TIME_REF_STAT_HOLDOVER rfl s 0)

theorem on_lock_leaveHoldover (s : State) : s.leaveHoldover.on F.TIME_REF_STAT_LOCK = true :=
  State.on_put F.TIME_REF_STAT_LOCK rfl _ 1

theorem relock_of_good (hh : s.on F.TIME_REF_STAT_HOLDOVER = true) (hg : s.time.refGood = true) :
    s.relock = s.leaveHoldover := by
  rw [State.relock, hh, hg]
  rfl

theorem writeRefCfg_of_no_relock (h : v.getLsbD 3 = false) (s : State) :
    s.writeRefCfg v = s.writeFields R.TIME_REF_CFG v := by
  rw [State.writeRefCfg, h]
  rfl

theorem fieldOf_bit_inj {v w : Word} {a lo : Nat} (h : fieldOf w ⟨a, lo, 1⟩ = fieldOf v ⟨a, lo, 1⟩) :
    w.getLsbD lo = v.getLsbD lo := by
  rw [fieldOf_bit, fieldOf_bit] at h
  have hone := congrArg (· = 1) h
  simpa using hone

theorem and_three_congr {v w : Word} (h0 : w.getLsbD 0 = v.getLsbD 0) (h1 : w.getLsbD 1 = v.getLsbD 1) :
    w &&& 3 = v &&& 3 := by
  refine BitVec.eq_of_getLsbD_eq fun i _ => ?_
  rw [BitVec.getLsbD_and, BitVec.getLsbD_and]
  match i with
  | 0 => rw [h0]
  | 1 => rw [h1]
  | i + 2 =>
    have hthree : (3 : Word).getLsbD (i + 2) = false := by
      simp [BitVec.getLsbD_ofNat, Nat.testBit_succ]
    rw [hthree, Bool.and_false, Bool.and_false]

theorem get_refCfg_src (h : s.sealed = false) (v : Word) :
    (s.writeFields R.TIME_REF_CFG v).get F.TIME_REF_CFG_SRC = fieldOf v F.TIME_REF_CFG_SRC := by
  obtain ⟨w, -, hw⟩ := get_writeFields (e := F.TIME_REF_CFG_SRC) (l₁ := []) (f := ⟨0, 1, .rwl, 0, 0⟩)
    (l₂ := [⟨1, 1, .rwl, 0, 0⟩, ⟨2, 1, .rw, 1, 0⟩, ⟨3, 1, .wo, 0, 0⟩]) (by decide +kernel) (by decide) (by decide) s v
  exact hw.trans ((fieldOf_write_rwl rfl (by decide) _ v w).trans (by rw [h]; rfl))

theorem get_refCfg_freq (h : s.sealed = false) (v : Word) :
    (s.writeFields R.TIME_REF_CFG v).get F.TIME_REF_CFG_FREQ = fieldOf v F.TIME_REF_CFG_FREQ := by
  obtain ⟨w, -, hw⟩ := get_writeFields (e := F.TIME_REF_CFG_FREQ) (l₁ := [⟨0, 1, .rwl, 0, 0⟩]) (f := ⟨1, 1, .rwl, 0, 0⟩)
    (l₂ := [⟨2, 1, .rw, 1, 0⟩, ⟨3, 1, .wo, 0, 0⟩]) (by decide +kernel) (by decide) (by decide) s v
  exact hw.trans ((fieldOf_write_rwl rfl (by decide) _ v w).trans (by rw [h]; rfl))

theorem reg_refCfg_low (h : s.sealed = false) (v : Word) :
    (s.writeFields R.TIME_REF_CFG v).reg R.TIME_REF_CFG &&& 3 = v &&& 3 :=
  and_three_congr (fieldOf_bit_inj (get_refCfg_src h v)) (fieldOf_bit_inj (get_refCfg_freq h v))

theorem on_refCfg_auto (s : State) (v : Word) :
    (s.writeFields R.TIME_REF_CFG v).on F.TIME_REF_CFG_HOLD_EXIT_AUTO = v.getLsbD 2 := by
  obtain ⟨w, -, hw⟩ := get_writeFields (e := F.TIME_REF_CFG_HOLD_EXIT_AUTO) (l₁ := [⟨0, 1, .rwl, 0, 0⟩, ⟨1, 1, .rwl, 0, 0⟩])
    (f := ⟨2, 1, .rw, 1, 0⟩) (l₂ := [⟨3, 1, .wo, 0, 0⟩]) (by decide +kernel) (by decide) (by decide) s v
  have hget := hw.trans ((fieldOf_write_rw rfl (by decide) _ v w).trans (fieldOf_bit v _ 2))
  refine (congrArg (fun x => decide (x = 1)) hget).trans ?_
  cases v.getLsbD 2 <;> rfl

theorem refLost_countedBy : F.TIME_REF_STAT_REF_LOST.CountedBy F.TIME_REF_STAT_REF_LOST_REP := ⟨rfl, rfl, rfl, rfl, rfl⟩

theorem loseRef_leaves (s : State) : s.loseRef.on F.TIME_REF_STAT_LOCK = false ∧ s.loseRef.on F.TIME_REF_STAT_HOLDOVER = true ∧
    s.loseRef.on F.TIME_REF_STAT_REF_LOST = true ∧ s.loseRef.time = { s.time with refGood := false } ∧
    ∀ a, a ≠ R.TIME_REF_STAT → s.loseRef.reg a = s.reg a := by
  have hregs : s.loseRef.regs = (((s.put F.TIME_REF_STAT_LOCK 0).put F.TIME_REF_STAT_HOLDOVER 1).flagRep
      F.TIME_REF_STAT_REF_LOST F.TIME_REF_STAT_REF_LOST_REP).regs := rfl
  refine ⟨(State.on_congr hregs _).trans ?_, (State.on_congr hregs _).trans ?_, (State.on_congr hregs _).trans ?_, rfl,
    fun a ha => (State.reg_congr hregs a).trans ?_⟩
  · rw [State.on_flagRep_beside F.TIME_REF_STAT_LOCK F.TIME_REF_STAT_REF_LOST F.TIME_REF_STAT_REF_LOST_REP ⟨rfl, rfl⟩
      ⟨rfl, rfl⟩, State.on_put_beside F.TIME_REF_STAT_LOCK F.TIME_REF_STAT_HOLDOVER ⟨rfl, rfl⟩,
      State.on_put F.TIME_REF_STAT_LOCK rfl]
    rfl
  · rw [State.on_flagRep_beside F.TIME_REF_STAT_HOLDOVER F.TIME_REF_STAT_REF_LOST F.TIME_REF_STAT_REF_LOST_REP ⟨rfl, rfl⟩
      ⟨rfl, rfl⟩, State.on_put F.TIME_REF_STAT_HOLDOVER rfl]
    rfl
  · exact State.on_flagRep refLost_countedBy _
  · exact (State.reg_flagRep_ne refLost_countedBy _ ha).trans <|
      (State.reg_put_ne _ F.TIME_REF_STAT_HOLDOVER 1 ha).trans (s.reg_put_ne F.TIME_REF_STAT_LOCK 0 ha)

theorem goodRef_eq (s : State) : s.goodRef =
    if s.on F.TIME_REF_CFG_HOLD_EXIT_AUTO && s.on F.TIME_REF_STAT_HOLDOVER then
      { s with time := { s.time with refGood := true } }.leaveHoldover
    else { s with time := { s.time with refGood := true } } := rfl

theorem goodRef_leaves (s : State) : s.goodRef.time = { s.time with refGood := true } ∧
    (∀ a, a ≠ R.TIME_REF_STAT → s.goodRef.reg a = s.reg a) ∧
    s.goodRef.on F.TIME_REF_STAT_HOLDOVER = (s.on F.TIME_REF_STAT_HOLDOVER && !s.on F.TIME_REF_CFG_HOLD_EXIT_AUTO) := by
  rw [goodRef_eq]
  split
  next h =>
    obtain ⟨hauto, hhold⟩ := Bool.and_eq_true_iff.mp h
    refine ⟨rfl, fun a ha => (onlyRegs_leaveHoldover _).2 a (mt List.mem_singleton.mp ha), ?_⟩
    rw [on_holdover_leaveHoldover, hauto, Bool.not_true, Bool.and_false]
  next h =>
    refine ⟨rfl, fun _ _ => rfl, ?_⟩
    show s.on F.TIME_REF_STAT_HOLDOVER = _
    obtain hauto | hhold := Bool.and_eq_false_iff.mp (Bool.eq_false_iff.mpr h)
    · rw [hauto, Bool.not_false, Bool.and_true]
    · rw [hhold, Bool.false_and]

/-! ### Timebases (R36 to R39) -/

/-- Whether the twin lock holds the rate and the steps of a timebase (R39). -/
def State.locked (s : State) (k : Nat) : Bool := k = 0 && s.on (F.TIME_TB_CFG_TWIN_LOCK 0)

theorem locked_zero (h : s.on (F.TIME_TB_CFG_TWIN_LOCK 0) = true) : s.locked 0 = true := by
  rw [State.locked, h]
  rfl

theorem locked_eq_false {k : BitVec 3} (h : k ≠ 0 ∨ s.on (F.TIME_TB_CFG_TWIN_LOCK 0) = false) : s.locked k.toNat = false := by
  rw [State.locked]
  obtain hk | hon := h
  · rw [decide_eq_false (show k.toNat ≠ 0 from BitVec.toNat_ne_iff_ne.mpr hk), Bool.false_and]
  · rw [hon, Bool.and_false]

theorem lockDiscard_countedBy : (F.TIME_TB_STAT_LOCK_DISCARD 0).CountedBy (F.TIME_TB_STAT_LOCK_DISCARD_REP 0) :=
  ⟨rfl, rfl, rfl, rfl, rfl⟩

theorem writeRate_of_locked (h : s.locked k = true) (v : Word) :
    s.writeRate k v = s.flagRep (F.TIME_TB_STAT_LOCK_DISCARD 0) (F.TIME_TB_STAT_LOCK_DISCARD_REP 0) := if_pos h

theorem stepGo_of_locked (h : s.locked k = true) :
    s.stepGo k = s.flagRep (F.TIME_TB_STAT_LOCK_DISCARD 0) (F.TIME_TB_STAT_LOCK_DISCARD_REP 0) := if_pos h

theorem writeRate_of_unlocked (h : s.locked k = false) (v : Word) : s.writeRate k v =
    if clampRate v ≠ v.toInt then
      (s.setReg (R.TIME_TB_RATE k) (BitVec.ofInt 32 (clampRate v))).flag (F.TIME_TB_STAT_RATE_CLAMP k)
    else s.setReg (R.TIME_TB_RATE k) (BitVec.ofInt 32 (clampRate v)) := by
  refine (if_neg (Bool.eq_false_iff.mp h)).trans ?_
  split
  · rfl
  next hv => rw [not_not.mp hv, BitVec.ofInt_toInt]

theorem writeRate_leaves (h : s.locked k = false) (v : Word) :
    onlyRegs s (s.writeRate k v) [R.TIME_TB_RATE k, R.TIME_TB_STAT k] ∧
      (s.writeRate k v).reg (R.TIME_TB_RATE k) = BitVec.ofInt 32 (clampRate v) ∧
      (clampRate v ≠ v.toInt → (s.writeRate k v).on (F.TIME_TB_STAT_RATE_CLAMP k) = true) := by
  have hset : onlyRegs s (s.setReg (R.TIME_TB_RATE k) (BitVec.ofInt 32 (clampRate v))) [R.TIME_TB_RATE k, R.TIME_TB_STAT k] :=
    (onlyRegs.refl _ s).setReg List.mem_cons_self
  rw [writeRate_of_unlocked h]
  split
  next hv =>
    have hne : R.TIME_TB_RATE k ≠ (F.TIME_TB_STAT_RATE_CLAMP k).a := by
      simp [R.TIME_TB_RATE, F.TIME_TB_STAT_RATE_CLAMP, R.TIME_TB_STAT]
    exact ⟨hset.put (List.mem_cons_of_mem _ List.mem_cons_self), (State.reg_put_ne _ _ 1 hne).trans (State.reg_setReg _ _ _),
      fun _ => State.on_put (F.TIME_TB_STAT_RATE_CLAMP k) rfl _ 1⟩
  next hv => exact ⟨hset, State.reg_setReg _ _ _, fun h => absurd h hv⟩

theorem stepGo_of_unlocked (h : s.locked k = false) (hp : s.on (F.TIME_TB_STAT_STEP_PENDING k) = false) : s.stepGo k =
    { s.put (F.TIME_TB_STAT_STEP_PENDING k) 1 with time := { s.time with
        latch := mapIns s.time.latch k (s.reg (R.TIME_TB_STEP_NS k), s.reg (R.TIME_TB_STEP_FRAC k)) } } :=
  (if_neg (Bool.eq_false_iff.mp h)).trans (if_neg (Bool.eq_false_iff.mp hp))

theorem stepGo_leaves (h : s.locked k = false) (hp : s.on (F.TIME_TB_STAT_STEP_PENDING k) = false) :
    (s.stepGo k).on (F.TIME_TB_STAT_STEP_PENDING k) = true ∧
      (s.stepGo k).stepVal k = s.reg (R.TIME_TB_STEP_NS k) ++ s.reg (R.TIME_TB_STEP_FRAC k) ∧
      ∀ a, a ≠ R.TIME_TB_STAT k → (s.stepGo k).reg a = s.reg a := by
  have hgo := stepGo_of_unlocked h hp
  have hregs : (s.stepGo k).regs = (s.put (F.TIME_TB_STAT_STEP_PENDING k) 1).regs := by rw [hgo]
  refine ⟨(State.on_congr hregs _).trans (State.on_put (F.TIME_TB_STAT_STEP_PENDING k) rfl s 1), ?_,
    fun a ha => (State.reg_congr hregs a).trans (s.reg_put_ne (F.TIME_TB_STAT_STEP_PENDING k) 1 ha)⟩
  simp [hgo, State.stepVal]

theorem writeTb_of_running (h : k = 0 ∨ s.tbOn k = true) (frac : Bool) (v : Word) : s.writeTb k frac v = s := by
  refine if_pos ?_
  simpa using h

theorem writeTb_of_stopped (hk : k ≠ 0) (h : s.tbOn k = false) (frac : Bool) (v : Word) : s.writeTb k frac v =
    if frac then (s.setReg (R.TIME_TB_FRAC k) v).setTbSub k 0 else s.setReg (R.TIME_TB_NS k) v := by
  refine if_neg ?_
  simp [hk, h]

/-! ### Ticks (R31, R37) -/

/-- Timebase `k` reads the same in two states: its registers, the bits below its fraction and its latched step. -/
structure SameTb (k : Nat) (s t : State) : Prop where
  reg : ∀ a, a / 64 = R.TIME_TB_NS k / 64 → t.reg a = s.reg a
  sub : t.tbSub k = s.tbSub k
  step : t.stepVal k = s.stepVal k

theorem SameTb.refl (k : Nat) (s : State) : SameTb k s s := ⟨fun _ _ => rfl, rfl, rfl⟩

theorem SameTb.trans (hst : SameTb k s t) (htu : SameTb k t u) : SameTb k s u :=
  ⟨fun a ha => (htu.reg a ha).trans (hst.reg a ha), htu.sub.trans hst.sub, htu.step.trans hst.step⟩

theorem SameTb.frame (h : SameTb k s t) (hregs : u.regs = t.regs)
    (hsub : mapGet u.time.sub 0 k = mapGet t.time.sub 0 k)
    (hlatch : mapGet u.time.latch (0, 0) k = mapGet t.time.latch (0, 0) k) : SameTb k s u := by
  refine ⟨fun a ha => (State.reg_congr hregs a).trans (h.reg a ha), hsub.trans h.sub, Eq.trans ?_ h.step⟩
  rw [State.stepVal, State.stepVal, hlatch]

theorem mapGet_erase_ne {α : Type} (m : List (Nat × α)) (d : α) {x z : Nat} (hz : z ≠ x) :
    mapGet (mapErase m x) d z = mapGet m d z := by
  rw [mapGet, mapFind_erase_ne m hz, mapGet]

theorem SameTb.setReg (h : SameTb k s t) (ha : a / 64 ≠ R.TIME_TB_NS k / 64) (v : Word) : SameTb k s (t.setReg a v) :=
  ⟨fun b hb => (t.reg_setReg_ne v fun hba => ha ((congrArg (· / 64) hba).symm.trans hb)).trans (h.reg b hb), h.sub, h.step⟩

/-- The registers of a timebase lie in its own block of 64 bytes. -/
theorem tbBlock_ne (hj : j ≠ k) {b : Nat} (hb : b = 0x1001000 + 64 * j + a) (ha : a < 64) : b / 64 ≠ R.TIME_TB_NS k / 64 := by
  unfold R.TIME_TB_NS
  omega

theorem SameTb.setTbVal (h : SameTb k s t) (hj : j ≠ k) (v : BitVec 64) : SameTb k s (t.setTbVal j v) :=
  (h.setReg (tbBlock_ne (a := 0) hj (by simp [R.TIME_TB_NS]) (by decide)) _).setReg
    (tbBlock_ne (a := 4) hj (by simp [R.TIME_TB_FRAC]; omega) (by decide)) _

theorem SameTb.putStat {f : RF} (h : SameTb k s t) (hj : j ≠ k) (hf : f.a = R.TIME_TB_STAT j) (x : Nat) :
    SameTb k s (t.put f x) :=
  h.setReg (tbBlock_ne (a := 28) hj (by rw [hf]; simp [R.TIME_TB_STAT]; omega) (by decide)) _

theorem SameTb.applyStep (h : SameTb k s t) (hj : j ≠ k) : SameTb k s (t.applyStep j) := by
  unfold State.applyStep
  extract_lets s1 s2 s3
  have h2 : SameTb k s s2 := (h.setTbVal hj _).setReg
    (tbBlock_ne (a := 40) hj (by simp [R.TIME_TB_STEP_AT]; omega) (by decide)) _
  have h3 : SameTb k s s3 :=
    (h2.putStat hj (f := F.TIME_TB_STAT_STEP_PENDING j) rfl 0).putStat hj (f := F.TIME_TB_STAT_STEPPED j) rfl 1
  exact h3.frame rfl rfl (mapGet_erase_ne _ _ (Ne.symm hj))

theorem SameTb.incTb (h : SameTb k s t) (hj : j ≠ k) : SameTb k s (t.incTb j) := by
  unfold State.incTb
  extract_lets v
  have h1 := h.setTbVal hj (v.extractLsb' 8 64)
  exact h1.frame rfl (mapGet_set_ne _ _ _ _ (Ne.symm hj)) rfl

theorem SameTb.ite {c : Prop} [Decidable c] (ht : SameTb k s t) (hu : SameTb k s u) : SameTb k s (if c then t else u) := by
  split
  · exact ht
  · exact hu

theorem SameTb.tickTb (h : SameTb k s t) (hj : j ≠ k) : SameTb k s (t.tickTb j) := by
  unfold State.tickTb
  extract_lets s1
  have h1 : SameTb k s s1 := h.incTb hj
  exact .ite (.ite (h1.applyStep hj) h1) (.ite (h.applyStep hj) h)

theorem SameTb.tickTbs (s : State) {l : List Nat} (hl : k ∉ l) : SameTb k s (l.foldl State.tickTb s) := by
  induction l generalizing s with
  | nil => exact .refl k s
  | cons j l ih =>
    obtain ⟨hkj, hkl⟩ := not_or.mp (mt List.mem_cons.mpr hl)
    exact ((SameTb.refl k s).tickTb (Ne.symm hkj)).trans (ih _ hkl)

theorem tbVal_setTbVal (s : State) (k : Nat) (v : BitVec 64) : (s.setTbVal k v).tbVal k = v := by
  have hne : R.TIME_TB_NS k ≠ R.TIME_TB_FRAC k := by simp [R.TIME_TB_NS, R.TIME_TB_FRAC]
  rw [State.tbVal, State.setTbVal, State.reg_setReg, State.reg_setReg_ne _ _ hne, State.reg_setReg]
  exact (BitVec.extractLsb'_append_extractLsb'_eq_extractLsb' rfl).trans BitVec.extractLsb'_eq_self

theorem tbVal_congr (hns : t.reg (R.TIME_TB_NS k) = s.reg (R.TIME_TB_NS k))
    (hfrac : t.reg (R.TIME_TB_FRAC k) = s.reg (R.TIME_TB_FRAC k)) : t.tbVal k = s.tbVal k := by
  rw [State.tbVal, State.tbVal, hns, hfrac]

theorem reg_ns_eq (s : State) (k : Nat) : s.reg (R.TIME_TB_NS k) = (s.tbVal k).extractLsb' 32 32 :=
  BitVec.extractLsb'_append_eq_left.symm

theorem tbVal_incTb (s : State) (k : Nat) : (s.incTb k).tbVal k =
    ((s.tbVal k ++ s.tbSub k) + BitVec.ofInt 72 (2 ^ 40 + (s.reg (R.TIME_TB_RATE k)).toInt)).extractLsb' 8 64 :=
  tbVal_setTbVal s k _

theorem onlyRegs_setTbVal (s : State) (k : Nat) (v : BitVec 64) :
    onlyRegs s (s.setTbVal k v) [R.TIME_TB_NS k, R.TIME_TB_FRAC k] :=
  ((onlyRegs.refl _ s).setReg List.mem_cons_self).setReg (List.mem_cons_of_mem _ List.mem_cons_self)

theorem on_incTb_pending (s : State) (k : Nat) :
    (s.incTb k).on (F.TIME_TB_STAT_STEP_PENDING k) = s.on (F.TIME_TB_STAT_STEP_PENDING k) := by
  have hregs (v : BitVec 64) (b : BitVec 8) : ((s.setTbVal k v).setTbSub k b).regs = (s.setTbVal k v).regs := rfl
  refine (State.on_congr (hregs _ _) _).trans (State.on_of_reg ((onlyRegs_setTbVal s k _).2 _ ?_))
  simp [F.TIME_TB_STAT_STEP_PENDING, R.TIME_TB_STAT, R.TIME_TB_NS, R.TIME_TB_FRAC]

theorem applyStep_leaves (s : State) (k : Nat) :
    (s.applyStep k).tbVal k = s.tbVal k + s.stepVal k ∧ (s.applyStep k).reg (R.TIME_TB_STEP_AT k) = (s.applyStep k).now ∧
      (s.applyStep k).on (F.TIME_TB_STAT_STEP_PENDING k) = false ∧ (s.applyStep k).on (F.TIME_TB_STAT_STEPPED k) = true := by
  unfold State.applyStep
  extract_lets s1 s2 s3
  have hregs : { s3 with time := { s3.time with latch := mapErase s3.time.latch k } }.regs = s3.regs := rfl
  generalize { s3 with time := { s3.time with latch := mapErase s3.time.latch k } } = t at hregs
  have hkeep {a : Nat} (ha : a ∉ [R.TIME_TB_STEP_AT k, R.TIME_TB_STAT k]) : t.reg a = s1.reg a :=
    (State.reg_congr hregs a).trans <| ((((onlyRegs.refl _ s1).setReg List.mem_cons_self).put
      (f := F.TIME_TB_STAT_STEP_PENDING k) (List.mem_cons_of_mem _ List.mem_cons_self)).put
      (f := F.TIME_TB_STAT_STEPPED k) (List.mem_cons_of_mem _ List.mem_cons_self)).2 a ha
  have hnow : t.now = s1.now := hkeep (by simp [R.TIME_TB_NS, R.TIME_TB_STEP_AT, R.TIME_TB_STAT]; omega)
  have hstat : R.TIME_TB_STEP_AT k ≠ R.TIME_TB_STAT k := by simp [R.TIME_TB_STEP_AT, R.TIME_TB_STAT]
  refine ⟨(tbVal_congr (hkeep ?_) (hkeep ?_)).trans (tbVal_setTbVal s k _), ?_, (State.on_congr hregs _).trans ?_,
    (State.on_congr hregs _).trans ?_⟩
  · simp [R.TIME_TB_NS, R.TIME_TB_STEP_AT, R.TIME_TB_STAT]
  · simp [R.TIME_TB_FRAC, R.TIME_TB_STEP_AT, R.TIME_TB_STAT]
  · rw [hnow]
    exact (State.reg_congr hregs _).trans <| (State.reg_put_ne _ (F.TIME_TB_STAT_STEPPED k) 1 hstat).trans <|
      (State.reg_put_ne _ (F.TIME_TB_STAT_STEP_PENDING k) 0 hstat).trans (State.reg_setReg s1 _ _)
  · exact (State.on_put_beside (F.TIME_TB_STAT_STEP_PENDING k) (F.TIME_TB_STAT_STEPPED k) ⟨rfl, rfl⟩ _ 1).trans
      (State.on_put (F.TIME_TB_STAT_STEP_PENDING k) rfl _ 0)
  · exact State.on_put (F.TIME_TB_STAT_STEPPED k) rfl _ 1

theorem stepDue_iff : s.stepDue k = true ↔ s.pwr.dormant = false ∧ s.on (F.TIME_TB_STAT_STEP_PENDING k) = true ∧
    (s.tbOn k = true → (s.incTb k).reg (R.TIME_TB_NS k) ≠ s.reg (R.TIME_TB_NS k)) := by
  simp only [State.stepDue, Bool.and_eq_true, Bool.or_eq_true, Bool.not_eq_true', decide_eq_true_eq, and_assoc]
  cases s.tbOn k <;> simp

/-- A tick that adds a timebase's pending step adds it to the value after the tick's increment (R37). -/
theorem tickTb_of_due (hp : s.on (F.TIME_TB_STAT_STEP_PENDING k) = true)
    (hd : s.tbOn k = true → (s.incTb k).reg (R.TIME_TB_NS k) ≠ s.reg (R.TIME_TB_NS k)) :
    s.tickTb k = (if s.tbOn k then s.incTb k else s).applyStep k := by
  unfold State.tickTb
  extract_lets s1
  cases hon : s.tbOn k with
  | true =>
    have hp1 : s1.on (F.TIME_TB_STAT_STEP_PENDING k) = true := (on_incTb_pending s k).trans hp
    simp [hp1, hd hon, s1]
  | false => simp [hp]

theorem SameTb.tbVal (h : SameTb k s t) : t.tbVal k = s.tbVal k :=
  tbVal_congr (h.reg _ rfl) (h.reg _ (by unfold R.TIME_TB_FRAC R.TIME_TB_NS; omega))

theorem SameTb.on_pending (h : SameTb k s t) :
    t.on (F.TIME_TB_STAT_STEP_PENDING k) = s.on (F.TIME_TB_STAT_STEP_PENDING k) :=
  State.on_of_reg (h.reg _ (by simp only [F.TIME_TB_STAT_STEP_PENDING]; unfold R.TIME_TB_STAT R.TIME_TB_NS; omega))

theorem SameTb.on_stepped (h : SameTb k s t) : t.on (F.TIME_TB_STAT_STEPPED k) = s.on (F.TIME_TB_STAT_STEPPED k) :=
  State.on_of_reg (h.reg _ (by simp only [F.TIME_TB_STAT_STEPPED]; unfold R.TIME_TB_STAT R.TIME_TB_NS; omega))

theorem SameTb.tbOn (h : SameTb k s t) : t.tbOn k = s.tbOn k :=
  State.on_of_reg (h.reg _ (by simp only [F.TIME_TB_CFG_EN]; unfold R.TIME_TB_CFG R.TIME_TB_NS; omega))

theorem SameTb.tbVal_incTb (h : SameTb k s t) : (t.incTb k).tbVal k = (s.incTb k).tbVal k := by
  rw [Machine.tbVal_incTb, Machine.tbVal_incTb, h.tbVal, h.sub,
    h.reg (R.TIME_TB_RATE k) (by unfold R.TIME_TB_RATE R.TIME_TB_NS; omega)]

theorem testCmp_regs (s : State) (k : Nat) : (s.testCmp k).regs = s.regs := by
  unfold State.testCmp
  extract_lets c t
  split
  · rfl
  · split
    · rfl
    · split <;> rfl

theorem tick_regs (h : s.pwr.dormant = false) : s.tick.regs = ((List.range 8).foldl State.tickTb s).regs := by
  rw [State.tick, if_neg (Bool.eq_false_iff.mp h)]
  exact foldl_keeps State.regs testCmp_regs _ _

theorem tick_of_due (hk : k < 8) (h : s.stepDue k = true) :
    s.tick.tbVal k = (if s.tbOn k then (s.incTb k).tbVal k else s.tbVal k) + s.stepVal k ∧
      s.tick.reg (R.TIME_TB_STEP_AT k) = s.tick.now ∧ s.tick.on (F.TIME_TB_STAT_STEP_PENDING k) = false ∧
      s.tick.on (F.TIME_TB_STAT_STEPPED k) = true := by
  obtain ⟨hdormant, hp, hd⟩ := stepDue_iff.mp h
  have hregs := tick_regs hdormant
  rw [range_eight_split k hk, List.foldl_append, List.foldl_cons] at hregs
  have hbefore : SameTb k s ((List.range k).foldl State.tickTb s) := .tickTbs s (by simp)
  generalize (List.range k).foldl State.tickTb s = u at hregs hbefore
  have htick : u.tickTb k = (if u.tbOn k then u.incTb k else u).applyStep k := by
    refine tickTb_of_due (hbefore.on_pending.trans hp) fun hon => ?_
    rw [reg_ns_eq, reg_ns_eq, hbefore.tbVal_incTb, hbefore.tbVal, ← reg_ns_eq, ← reg_ns_eq]
    exact hd (hbefore.tbOn ▸ hon)
  have hafter : SameTb k (u.tickTb k) ((List.range' (k + 1) (7 - k)).foldl State.tickTb (u.tickTb k)) :=
    .tickTbs _ (by simp [List.mem_range'_1])
  have hzero : SameTb 0 (u.tickTb k) ((List.range' (k + 1) (7 - k)).foldl State.tickTb (u.tickTb k)) :=
    .tickTbs _ (by simp [List.mem_range'_1])
  generalize (List.range' (k + 1) (7 - k)).foldl State.tickTb (u.tickTb k) = w at hregs hafter hzero
  rw [htick] at hafter hzero
  obtain ⟨hval, hat, hpending, hstepped⟩ := applyStep_leaves (if u.tbOn k then u.incTb k else u) k
  have hnow : s.tick.now = w.now := State.reg_congr hregs _
  refine ⟨?_, ?_, (State.on_congr hregs _).trans (hafter.on_pending.trans hpending),
    (State.on_congr hregs _).trans (hafter.on_stepped.trans hstepped)⟩
  · rw [tbVal_congr (State.reg_congr hregs _) (State.reg_congr hregs _), hafter.tbVal, hval, hbefore.tbOn, ← hbefore.step]
    cases s.tbOn k with
    | true => exact congrArg₂ _ hbefore.tbVal_incTb rfl
    | false => exact congrArg₂ _ hbefore.tbVal rfl
  · rw [hnow, State.reg_congr hregs, hafter.reg _ (by unfold R.TIME_TB_STEP_AT R.TIME_TB_NS; omega), hat]
    exact (hzero.reg _ rfl).symm

/-! ### Compare units (R47 to R54) -/

/-- The TIME block's registers and the live comparators are kept. -/
structure CmpKept (s t : State) : Prop where
  cmp : t.time.cmp = s.time.cmp
  reg : ∀ a, a / 2 ^ 24 = 1 → t.reg a = s.reg a

theorem CmpKept.refl (s : State) : CmpKept s s := ⟨rfl, fun _ _ => rfl⟩

theorem CmpKept.frame (h : CmpKept s t) (hregs : u.regs = t.regs) (hcmp : u.time.cmp = t.time.cmp) : CmpKept s u :=
  ⟨hcmp.trans h.cmp, fun a ha => (State.reg_congr hregs a).trans (h.reg a ha)⟩

theorem CmpKept.setReg (h : CmpKept s t) (ha : a / 2 ^ 24 ≠ 1) (v : Word) : CmpKept s (t.setReg a v) :=
  ⟨h.cmp, fun b hb => (t.reg_setReg_ne v fun hba => ha ((congrArg (· / 2 ^ 24) hba).symm.trans hb)).trans (h.reg b hb)⟩

theorem CmpKept.put {f : RF} (h : CmpKept s t) (ha : f.a / 2 ^ 24 ≠ 1) (x : Nat) : CmpKept s (t.put f x) :=
  h.setReg ha _

theorem CmpKept.ite {c : Prop} [Decidable c] (ht : CmpKept s t) (hu : CmpKept s u) : CmpKept s (if c then t else u) := by
  split
  · exact ht
  · exact hu

theorem CmpKept.foldl {α : Type} {g : State → α → State} {xs : List α} (h : CmpKept s t)
    (hg : ∀ x ∈ xs, ∀ u, CmpKept s u → CmpKept s (g u x)) : CmpKept s (xs.foldl g t) :=
  List.foldlRecOn xs g h fun u hu x hx => hg x hx u hu

theorem sendEventFrom_time {src : Nat} {init : BitVec 12} {strata eventId word : Nat} {tok : Option (BitVec 15)} (s : State) :
    (s.sendEventFrom src init strata eventId word tok).time = s.time := by
  refine foldl_keeps State.time (fun t x => ?_) _ s
  split <;> rfl

theorem CmpKept.startPulse (k pin : Nat) (s : State) : CmpKept s (s.startPulse k pin) := by
  unfold State.startPulse
  extract_lets _ s1
  have h1 : CmpKept s s1 := (CmpKept.refl s).frame rfl rfl
  exact .ite h1 (h1.frame rfl rfl)

theorem CmpKept.fireDest (s : State) (k : Nat) (c : CmpLive) : CmpKept s (s.fireDest k c) := by
  unfold State.fireDest
  extract_lets a w
  split
  · exact (CmpKept.refl s).frame (sendEventFrom_regs s) (congrArg TimeSt.cmp (sendEventFrom_time s))
  · exact .startPulse k _ s
  · exact .startPulse k _ s
  · refine .ite ((CmpKept.refl s).frame rfl rfl) ?_
    exact ((CmpKept.refl s).put (f := F.MOVER_STAT_EMARK_DROP 8) (by decide) 1).put
      (f := F.MOVER_STAT_EMARK_DROP_REP 8) (by decide) _
  · exact .refl s

theorem CmpKept.clearTrackers (h : CmpKept s t) : CmpKept s t.clearTrackers :=
  h.foldl fun _ _ _ hu => hu.frame rfl rfl

theorem CmpKept.avsWrite {r mv : Nat} (h : CmpKept s t) : CmpKept s (t.avsWrite r mv) :=
  h.frame rfl rfl

theorem CmpKept.leaveStandby (h : CmpKept s t) : CmpKept s t.leaveStandby := by
  have h1 : CmpKept s ((t.put F.PWR_STAT_STATE 4).setReg R.PWR_WAKE_AT t.now) := (h.put (by decide) 4).setReg (by decide) _
  have h2 : CmpKept s (((t.put F.PWR_STAT_STATE 4).setReg R.PWR_WAKE_AT t.now).setPwr { t.pwr with phase := .hubUp }) :=
    h1.frame rfl rfl
  exact h2.clearTrackers.avsWrite

/-- Wake source 3, a compare unit's firing, wakes the device from Standby only (R384). -/
theorem CmpKept.wakeFire (s : State) : CmpKept s (s.wakeFire 3) := by
  unfold State.wakeFire
  extract_lets s1
  have h1 : CmpKept s s1 := .ite ((CmpKept.refl s).put (by decide) _) ((CmpKept.refl s).put (by decide) _)
  refine .ite h1 ?_
  rw [if_neg (show ¬ 3 < 3 by decide)]
  exact .ite h1 (.ite h1.leaveStandby h1)

theorem CmpKept.jesdSysref (h : CmpKept s t) (k : Nat) (at_ : BitVec 64) : CmpKept s (t.jesdSysref k at_) := by
  refine h.foldl fun j hj u hu => ?_
  dsimp only
  refine .ite hu ?_
  have hstat : (F.FH_JESD_STAT_SYSREF_MISALIGN j).a / 2 ^ 24 ≠ 1 := by
    have hj4 := List.mem_range.mp hj
    simp only [F.FH_JESD_STAT_SYSREF_MISALIGN]
    unfold R.FH_JESD_STAT
    omega
  split
  · exact hu.frame rfl rfl
  · exact .ite (hu.frame rfl rfl) (.ite hu ((hu.put hstat 1).frame rfl rfl))

/-- Beyond the unit's own action, a firing wakes the device and is a SYSREF. -/
theorem CmpKept.fireUnit (s : State) (k : Nat) : CmpKept (s.compareFire k) (s.fireUnit k) := by
  have hwake : CmpKept (s.compareFire k) (s.compareWake k) := .ite (.wakeFire _) (.refl _)
  exact .ite (hwake.jesdSysref k _) hwake

theorem fireUnit_of_not_fires (h : s.cmpFires k = false) : s.fireUnit k = s.compareFire k := by
  refine (if_neg (Bool.eq_false_iff.mp h)).trans (if_neg ?_)
  rw [show (s.on (F.TIME_CMP_STAT_ARMED k) && (s.cmpLive k).due && s.on (F.TIME_CMP_CFG_EN k)) = false from h]
  simp

theorem cmpFires_of_not_due (h : (s.cmpLive k).due = false) : s.cmpFires k = false := by
  rw [State.cmpFires, h, Bool.and_false, Bool.false_and]

theorem compareFire_of_not_due (h : (s.cmpLive k).due = false) : s.compareFire k = s := by
  refine if_pos ?_
  rw [h, Bool.and_false]
  rfl

theorem arm_of_bad_mode (h : s.get (F.TIME_CMP_CFG_MODE k) = 3) : s.arm k = s.flag (F.TIME_CMP_STAT_BAD_CFG k) := by
  rw [State.arm, h]
  rfl

theorem arm_of_once (h : s.get (F.TIME_CMP_CFG_MODE k) = 0) : ∃ c : CmpLive,
    s.arm k = (s.setCmpLive k c).put (F.TIME_CMP_STAT_ARMED k) 1 ∧
      c.val = s.reg (R.TIME_CMP_NS k) ++ s.reg (R.TIME_CMP_FRAC k) ∧ c.mode = 0 ∧ c.tb = s.get (F.TIME_CMP_CFG_TB k) := by
  rw [State.arm, h]
  exact ⟨_, rfl, rfl, rfl, rfl⟩

theorem cmpLive_setCmpLive (s : State) (k : Nat) (c : CmpLive) : (s.setCmpLive k c).cmpLive k = c :=
  mapGet_set_same _ _ _ _

theorem cmpLive_congr (h : t.time.cmp = s.time.cmp) (k : Nat) : t.cmpLive k = s.cmpLive k := by
  rw [State.cmpLive, h, State.cmpLive]

/-- What a unit's instant leaves before the unit disarms or advances: LATE, the count and the firing (R47, R49). -/
def State.fired (s : State) (k : Nat) : State :=
  let c := s.cmpLive k
  let s1 := if c.late then s.flag (F.TIME_CMP_STAT_LATE k) else s
  if s.on (F.TIME_CMP_CFG_EN k) then
    (s1.put (F.TIME_CMP_STAT_COUNT k) (s1.get (F.TIME_CMP_STAT_COUNT k) + 1)).fireDest k c
  else s1

theorem compareFire_of_once (ha : s.on (F.TIME_CMP_STAT_ARMED k) = true) (hd : (s.cmpLive k).due = true)
    (hm : (s.cmpLive k).mode = 0) :
    s.compareFire k = ((s.fired k).setCmpLive k CmpLive.reset).put (F.TIME_CMP_STAT_ARMED k) 0 := by
  refine (if_neg ?_).trans (if_pos hm)
  rw [ha, hd]
  decide

theorem lateFlag_count (s : State) (k : Nat) (b : Bool) :
    (if b then s.flag (F.TIME_CMP_STAT_LATE k) else s).get (F.TIME_CMP_STAT_COUNT k) = s.get (F.TIME_CMP_STAT_COUNT k) := by
  split
  · exact State.get_put_beside (F.TIME_CMP_STAT_COUNT k) (F.TIME_CMP_STAT_LATE k) ⟨rfl, rfl⟩ s 1
  · rfl

/-- The registers of the compare units lie in the TIME block. -/
theorem cmpReg_block (hk : k < 64) {b : Nat} (hb : b = 0x1002000 + 32 * k + a) (ha : a < 32) : b / 2 ^ 24 = 1 := by
  omega

theorem CmpKept.on {e : RF} (h : CmpKept s t) (he : e.a / 2 ^ 24 = 1) : t.on e = s.on e := State.on_of_reg (h.reg _ he)

theorem CmpKept.get {e : RF} (h : CmpKept s t) (he : e.a / 2 ^ 24 = 1) : t.get e = s.get e := State.get_of_reg (h.reg _ he)

theorem cmpStat_block (hk : k < 64) : R.TIME_CMP_STAT k / 2 ^ 24 = 1 :=
  cmpReg_block (a := 28) hk (by unfold R.TIME_CMP_STAT; omega) (by decide)

theorem reg_fired (ha : a / 2 ^ 24 = 1) (hs : a ≠ R.TIME_CMP_STAT k) (s : State) : (s.fired k).reg a = s.reg a := by
  unfold State.fired
  extract_lets c s1
  have h1 : s1.reg a = s.reg a := by
    unfold s1
    split
    · exact s.reg_put_ne (F.TIME_CMP_STAT_LATE k) 1 hs
    · rfl
  split
  · exact ((CmpKept.fireDest _ k c).reg a ha).trans ((s1.reg_put_ne (F.TIME_CMP_STAT_COUNT k) _ hs).trans h1)
  · exact h1

/-- Of the TIME block, a unit's action changes the unit's status only. -/
theorem reg_compareFire (ha : a / 2 ^ 24 = 1) (hs : a ≠ R.TIME_CMP_STAT k) (s : State) : (s.compareFire k).reg a = s.reg a := by
  have hfired := reg_fired ha hs s
  unfold State.compareFire
  extract_lets c en s1 s2 adv s3
  have h2 : s2.reg a = s.reg a := hfired
  split
  · rfl
  · split
    · exact (State.reg_put_ne _ (F.TIME_CMP_STAT_ARMED k) 0 hs).trans h2
    · split
      · exact (State.reg_congr (State.count_regs _ _ _) a).trans <|
          (State.reg_put_ne _ (F.TIME_CMP_STAT_MISSED_REP k) _ hs).trans <|
            (State.reg_put_ne _ (F.TIME_CMP_STAT_MISSED k) 1 hs).trans h2
      · exact h2

theorem reg_fireUnit (ha : a / 2 ^ 24 = 1) (hs : a ≠ R.TIME_CMP_STAT k) (s : State) : (s.fireUnit k).reg a = s.reg a :=
  ((CmpKept.fireUnit s k).reg a ha).trans (reg_compareFire ha hs s)

theorem get_count_fired_of_en (hk : k < 64) (he : s.on (F.TIME_CMP_CFG_EN k) = true) :
    (s.fired k).get (F.TIME_CMP_STAT_COUNT k) = (s.get (F.TIME_CMP_STAT_COUNT k) + 1) % 2 ^ 16 := by
  unfold State.fired
  extract_lets c s1
  have hlate : s1.get (F.TIME_CMP_STAT_COUNT k) = s.get (F.TIME_CMP_STAT_COUNT k) := lateFlag_count s k c.late
  rw [if_pos he, (CmpKept.fireDest _ k c).get (cmpStat_block hk), hlate]
  exact State.get_put s1 (F.TIME_CMP_STAT_COUNT k) _ (Nat.le_of_ble_eq_true rfl)

theorem fired_of_not_en (he : s.on (F.TIME_CMP_CFG_EN k) = false) :
    s.fired k = if (s.cmpLive k).late then s.flag (F.TIME_CMP_STAT_LATE k) else s :=
  if_neg (Bool.eq_false_iff.mp he)

theorem compareFire_once_leaves (ha : s.on (F.TIME_CMP_STAT_ARMED k) = true) (hd : (s.cmpLive k).due = true)
    (hm : (s.cmpLive k).mode = 0) : (s.compareFire k).on (F.TIME_CMP_STAT_ARMED k) = false ∧
      (s.compareFire k).cmpLive k = CmpLive.reset ∧
      (s.compareFire k).get (F.TIME_CMP_STAT_COUNT k) = (s.fired k).get (F.TIME_CMP_STAT_COUNT k) := by
  rw [compareFire_of_once ha hd hm]
  exact ⟨State.on_put (F.TIME_CMP_STAT_ARMED k) rfl _ 0, cmpLive_setCmpLive (s.fired k) k _,
    State.get_put_beside (F.TIME_CMP_STAT_COUNT k) (F.TIME_CMP_STAT_ARMED k) ⟨rfl, rfl⟩ _ 0⟩

theorem fireUnit_once_leaves (hk : k < 64) (ha : s.on (F.TIME_CMP_STAT_ARMED k) = true) (hd : (s.cmpLive k).due = true)
    (hm : (s.cmpLive k).mode = 0) : (s.fireUnit k).on (F.TIME_CMP_STAT_ARMED k) = false ∧
      (s.fireUnit k).cmpLive k = CmpLive.reset ∧
      (s.fireUnit k).get (F.TIME_CMP_STAT_COUNT k) = (s.fired k).get (F.TIME_CMP_STAT_COUNT k) := by
  obtain ⟨harmed, hcmp, hcount⟩ := compareFire_once_leaves ha hd hm
  have hkept := CmpKept.fireUnit s k
  exact ⟨(hkept.on (cmpStat_block hk)).trans harmed, (cmpLive_congr hkept.cmp k).trans hcmp,
    (hkept.get (cmpStat_block hk)).trans hcount⟩

/-- A unit with EN = 0 lets its instant pass: nothing goes out (R49). -/
theorem fireUnit_suppressed (he : s.on (F.TIME_CMP_CFG_EN k) = false) (ha : s.on (F.TIME_CMP_STAT_ARMED k) = true)
    (hd : (s.cmpLive k).due = true) (hm : (s.cmpLive k).mode = 0) :
    (s.fired k).get (F.TIME_CMP_STAT_COUNT k) = s.get (F.TIME_CMP_STAT_COUNT k) ∧ (s.fireUnit k).flight = s.flight ∧
      (s.fireUnit k).out = s.out := by
  have hfires : s.cmpFires k = false := by rw [State.cmpFires, he, Bool.and_false]
  rw [fireUnit_of_not_fires hfires, compareFire_of_once ha hd hm, fired_of_not_en he]
  refine ⟨lateFlag_count s k _, ?_, ?_⟩
  · cases (s.cmpLive k).late <;> rfl
  · cases (s.cmpLive k).late <;> rfl

theorem armUnit_of_bad_mode (hd : (s.cmpLive k).due = false) (hm : s.get (F.TIME_CMP_CFG_MODE k) = 3) :
    s.armUnit k = s.flag (F.TIME_CMP_STAT_BAD_CFG k) := by
  rw [State.armUnit, fireUnit_of_not_fires (cmpFires_of_not_due hd), compareFire_of_not_due hd, arm_of_bad_mode hm]

theorem armUnit_once_leaves (hk : k < 64) (hm : s.get (F.TIME_CMP_CFG_MODE k) = 0) :
    (s.armUnit k).on (F.TIME_CMP_STAT_ARMED k) = true ∧
      ((s.armUnit k).cmpLive k).val = s.reg (R.TIME_CMP_NS k) ++ s.reg (R.TIME_CMP_FRAC k) ∧
      ((s.armUnit k).cmpLive k).mode = 0 ∧ ((s.armUnit k).cmpLive k).tb = s.get (F.TIME_CMP_CFG_TB k) := by
  have hreg {b o : Nat} (hb : b = 0x1002000 + 32 * k + o) (ho : o < 28) : (s.fireUnit k).reg b = s.reg b := by
    refine reg_fireUnit (cmpReg_block hk hb (by omega)) ?_ s
    unfold R.TIME_CMP_STAT
    omega
  have hcfg : (s.fireUnit k).reg (R.TIME_CMP_CFG k) = s.reg (R.TIME_CMP_CFG k) := hreg (o := 0) rfl (by decide)
  have hns := hreg (b := R.TIME_CMP_NS k) (o := 4) (by unfold R.TIME_CMP_NS; omega) (by decide)
  have hfrac := hreg (b := R.TIME_CMP_FRAC k) (o := 8) (by unfold R.TIME_CMP_FRAC; omega) (by decide)
  obtain ⟨c, harm, hval, hmode, htb⟩ := arm_of_once
    ((State.get_of_reg (e := F.TIME_CMP_CFG_MODE k) hcfg).trans hm)
  have hlive : (s.armUnit k).cmpLive k = c := by
    rw [State.armUnit, harm]
    exact cmpLive_setCmpLive (s.fireUnit k) k c
  refine ⟨?_, ?_, ?_, ?_⟩
  · rw [State.armUnit, harm]
    exact State.on_put (F.TIME_CMP_STAT_ARMED k) rfl _ 1
  · rw [hlive, hval, hns, hfrac]
  · rw [hlive, hmode]
  · rw [hlive, htb, State.get_of_reg hcfg]

/-! ### Pulses (R54) -/

theorem endPulse_of_running {key x left : Nat} (h : mapFind? s.time.pulse key = some (x, left)) (hl : left ≠ 0) :
    s.endPulse key = s := by
  rw [State.endPulse, h]
  exact if_pos hl

theorem endPulse_of_ended {key x : Nat} (h : mapFind? s.time.pulse key = some (x, 0)) : s.endPulse key =
    let t := { s with time := { s.time with pulse := mapErase s.time.pulse key } }
    if t.pinHigh x then t else t.emit (.pin x false) := by
  rw [State.endPulse, h]
  rfl

theorem endPulse_ended_leaves {key x : Nat} (h : mapFind? s.time.pulse key = some (x, 0)) :
    (s.endPulse key).time.pulse = mapErase s.time.pulse key ∧ (s.endPulse key).regs = s.regs ∧
      (s.endPulse key).out = if (s.endPulse key).pinHigh x then s.out else s.out ++ [.pin x false] := by
  rw [endPulse_of_ended h]
  extract_lets _ t
  by_cases hx : t.pinHigh x = true
  · rw [if_pos hx]
    exact ⟨rfl, rfl, (if_pos hx).symm⟩
  · rw [if_neg hx]
    exact ⟨rfl, rfl, (if_neg hx).symm⟩

/-! ### 1PPS inputs (R426) -/

theorem State.reg_report_ne (s : State) (r : Report) (ha : a ≠ R.GLOBAL_FR_LOST) : (s.report r).reg a = s.reg a := by
  unfold State.report
  split
  · rfl
  · exact State.reg_put_ne _ F.GLOBAL_FR_LOST_LOST _ ha

theorem State.bit_of_reg {e : RF} {i : Nat} (h : t.reg e.a = s.reg e.a) : t.bit e i = s.bit e i :=
  congrArg (·.testBit i) (State.get_of_reg h)

theorem State.bit_putBit_beside (e f : RF) (h : e.Beside f) (s : State) (i j : Nat) (b : Bool) :
    (s.putBit f i b).bit e j = s.bit e j := by
  unfold State.putBit
  split
  · exact congrArg (·.testBit j) (State.get_put_beside e f h s _)
  · exact congrArg (·.testBit j) (State.get_put_beside e f h s _)

theorem onlyRegs.putBit {f : RF} {i : Nat} {b : Bool} {l : List Nat} (h : onlyRegs s t l) (ha : f.a ∈ l) :
    onlyRegs s (t.putBit f i b) l :=
  .ite (h.put ha) (h.put ha)

theorem ppsPeriod_of_invalid {i high low : Nat} (hauto : s.on F.TIME_PPSIN_CFG_POL_AUTO = true)
    (hv : ppsValid high low = false) : ∃ T r, s.ppsPeriod i high low =
      ({ s with time := T }.putBit F.GLOBAL_PPSIN_PPS_BAD i true).report r := by
  rw [State.ppsPeriod, hauto, hv]
  exact ⟨_, _, rfl⟩

theorem ppsPeriod_invalid_leaves {i high low : Nat} (hi : i < 2) (hauto : s.on F.TIME_PPSIN_CFG_POL_AUTO = true)
    (hv : ppsValid high low = false) : (s.ppsPeriod i high low).bit F.GLOBAL_PPSIN_PPS_BAD i = true ∧
      (s.ppsPeriod i high low).bit F.GLOBAL_PPSIN_INV i = s.bit F.GLOBAL_PPSIN_INV i := by
  obtain ⟨T, r, h⟩ := ppsPeriod_of_invalid (i := i) hauto hv
  have hreg (t : State) : (t.report r).reg R.GLOBAL_PPSIN = t.reg R.GLOBAL_PPSIN := State.reg_report_ne t r (by decide)
  rw [h]
  exact ⟨(State.bit_of_reg (e := F.GLOBAL_PPSIN_PPS_BAD) (hreg _)).trans (State.bit_putBit _ _ _ _ (by decide) hi),
    (State.bit_of_reg (e := F.GLOBAL_PPSIN_INV) (hreg _)).trans <|
      State.bit_putBit_beside F.GLOBAL_PPSIN_INV F.GLOBAL_PPSIN_PPS_BAD ⟨rfl, rfl⟩ { s with time := T } i i true⟩

theorem ppsPeriod_of_valid {i high low : Nat} (hauto : s.on F.TIME_PPSIN_CFG_POL_AUTO = true)
    (hv : ppsValid high low = true) : s.ppsPeriod i high low =
      let t := { s with time := { s.time with ppsLast := mapIns s.time.ppsLast i (decide (low < high)) } }
      if mapFind? s.time.ppsLast i = some (decide (low < high)) ∧ s.bit F.GLOBAL_PPSIN_INV i ≠ decide (low < high) then
        if low < high then (t.putBit F.GLOBAL_PPSIN_INV i (decide (low < high))).putBit F.GLOBAL_PPSIN_POL_INV i true
        else t.putBit F.GLOBAL_PPSIN_INV i (decide (low < high))
      else t := by
  simp [State.ppsPeriod, hauto, hv]

theorem onlyRegs.withTime {T : TimeSt} {l : List Nat} (h : onlyRegs { s with time := T } t l) :
    onlyRegs { s with time := t.time } t l := by
  have htime : t.time = T := by rw [h.1]
  rwa [htime]

theorem ppsPeriod_agreeing_leaves {i high low : Nat} (hi : i < 2) (hauto : s.on F.TIME_PPSIN_CFG_POL_AUTO = true)
    (hv : ppsValid high low = true) (hlast : mapFind? s.time.ppsLast i = some (decide (low < high))) :
    (s.ppsPeriod i high low).bit F.GLOBAL_PPSIN_INV i = decide (low < high) ∧
      onlyRegs { s with time := (s.ppsPeriod i high low).time } (s.ppsPeriod i high low) [R.GLOBAL_PPSIN] := by
  rw [ppsPeriod_of_valid hauto hv]
  extract_lets _ t
  have hset := State.bit_putBit t F.GLOBAL_PPSIN_INV i (decide (low < high)) (by decide) hi
  have hregs : onlyRegs t (t.putBit F.GLOBAL_PPSIN_INV i (decide (low < high))) [R.GLOBAL_PPSIN] :=
    (onlyRegs.refl _ t).putBit (by decide)
  split
  · split
    · exact ⟨(State.bit_putBit_beside F.GLOBAL_PPSIN_INV F.GLOBAL_PPSIN_POL_INV ⟨rfl, rfl⟩ _ i i true).trans hset,
        (hregs.putBit (by decide)).withTime⟩
    · exact ⟨hset, hregs.withTime⟩
  next hsame => exact ⟨not_not.mp fun h => hsame ⟨hlast, h⟩, (onlyRegs.refl _ t).withTime⟩

/-! ### PTP registers (R62, R63) -/

theorem exec_txtsPop {p : BitVec 6} (h : p.toNat < 33) (s : State) : exec (.txtsPop p) s = .next (s.popTxts p.toNat) :=
  if_pos (decide_eq_true (Nat.le_of_lt_succ h))

theorem exec_epochTb {p : BitVec 6} (h : p.toNat < 33) (s : State) (v : Word) :
    exec (.epochTb p v) s = .next (s.commitEpoch p.toNat v) :=
  if_pos (decide_eq_true (Nat.le_of_lt_succ h))

theorem txts_popTxts (s : State) (p : Nat) : (s.popTxts p).txts p = (s.txts p).tail := mapGet_set_same _ _ _ _

theorem txts_popTxts_ne {p q : Nat} (h : q ≠ p) (s : State) : (s.popTxts p).txts q = s.txts q := mapGet_set_ne _ _ _ _ h

theorem onlyRegs_commitEpoch (s : State) (p : Nat) (v : Word) :
    onlyRegs { s with time := (s.commitEpoch p v).time } (s.commitEpoch p v) [R.TIME_PTP_EPOCH_TB p] :=
  ⟨rfl, fun _ ha => s.reg_setReg_ne v (mt List.mem_singleton.mpr ha)⟩

end Sys2Proof.Machine
end

section
/-!
PROOFS. Reference, timebases, compare units, 1PPS inputs and PTP registers (O44).
-/

open Sys2Proof Sys2Proof.Machine

/-- Settles O44: each clause is what its command's lemma says that it leaves. -/
theorem timeCommands : Obligations.TimeCommands := by
  unfold Obligations.TimeCommands
  intro s v
  refine ⟨fun hh hg => ?relock, fun hv => ?refSource, ?refLost, ?refGood, fun k hk => ⟨?rate, fun hp => ?stepGo⟩,
    fun hl => ?locked, fun k => ⟨fun h => ?stepEarly, fun h => ?stepApply⟩,
    fun k hk b => ?valueRunning, fun k hk hstopped => ⟨?valueNs, ?valueFrac⟩, fun k hd hm => ?armRefused,
    fun k hm => ?armOnce, fun k ha hd hm => ?fire, fun k pin x left hpulse => ⟨fun hl => ?pulseRunning, fun hl => ?pulseEnd⟩,
    fun i hi lo hauto => ⟨fun hv => ?ppsInvalid, fun hv hlast => ?ppsAgreeing⟩, fun p hp => ⟨?txtsPop, ?epoch⟩⟩
  case relock =>
    exact ⟨s.leaveHoldover, congrArg Host.Outcome.next (relock_of_good hh hg), on_holdover_leaveHoldover s,
      on_lock_leaveHoldover s, onlyRegs_leaveHoldover s⟩
  case refSource =>
    exact ⟨_, congrArg Host.Outcome.next (writeRefCfg_of_no_relock hv s), onlyRegs_writeFields _ s v,
      fun hs => reg_refCfg_low hs v, on_refCfg_auto s v⟩
  case refLost => exact ⟨s.loseRef, rfl, loseRef_leaves s⟩
  case refGood => exact ⟨s.goodRef, rfl, goodRef_leaves s⟩
  case rate => exact ⟨s.writeRate k.toNat v, rfl, writeRate_leaves (locked_eq_false hk) v⟩
  case stepGo => exact ⟨s.stepGo k.toNat, rfl, stepGo_leaves (locked_eq_false hk) hp⟩
  case locked =>
    exact ⟨_, congrArg Host.Outcome.next (writeRate_of_locked (locked_zero hl) v),
      congrArg Host.Outcome.next (stepGo_of_locked (locked_zero hl)),
      onlyRegs_flagRep lockDiscard_countedBy s, State.on_flagRep lockDiscard_countedBy s⟩
  case stepEarly => exact congrArg Host.Outcome.next (if_neg (Bool.eq_false_iff.mp h))
  case stepApply => exact ⟨congrArg Host.Outcome.next (if_pos h), tick_of_due k.isLt h⟩
  case valueRunning =>
    exact congrArg Host.Outcome.next (writeTb_of_running (hk.imp_left fun h => congrArg BitVec.toNat h) b v)
  case valueNs => exact congrArg Host.Outcome.next (writeTb_of_stopped (BitVec.toNat_ne_iff_ne.mpr hk) hstopped false v)
  case valueFrac =>
    exact congrArg Host.Outcome.next (writeTb_of_stopped (BitVec.toNat_ne_iff_ne.mpr hk) hstopped true v)
  case armRefused =>
    exact ⟨_, congrArg Host.Outcome.next (armUnit_of_bad_mode hd hm),
      State.on_put (F.TIME_CMP_STAT_BAD_CFG k.toNat) rfl s 1, rfl⟩
  case armOnce => exact ⟨s.armUnit k.toNat, rfl, armUnit_once_leaves k.isLt hm⟩
  case fire =>
    obtain ⟨harmed, hcmp, hcount⟩ := fireUnit_once_leaves k.isLt ha hd hm
    refine ⟨s.fireUnit k.toNat, rfl, harmed, hcmp, fun he => hcount.trans (get_count_fired_of_en k.isLt he), fun he => ?_⟩
    obtain ⟨hfired, hout⟩ := fireUnit_suppressed he ha hd hm
    exact ⟨hcount.trans hfired, hout⟩
  case pulseRunning => exact congrArg Host.Outcome.next (endPulse_of_running hpulse hl)
  case pulseEnd => exact ⟨_, rfl, endPulse_ended_leaves (hl ▸ hpulse)⟩
  case ppsInvalid => exact ⟨_, rfl, ppsPeriod_invalid_leaves i.isLt hauto hv⟩
  case ppsAgreeing => exact ⟨_, rfl, ppsPeriod_agreeing_leaves i.isLt hauto hv hlast⟩
  case txtsPop => exact ⟨_, exec_txtsPop hp s, txts_popTxts s _, rfl, fun q hq => txts_popTxts_ne hq s⟩
  case epoch => exact ⟨_, exec_epochTb hp s v, mapFind_ins_same _ _ _, onlyRegs_commitEpoch s _ v⟩

end

section
/-!
SUPPORT. Instruction memory behind the fabric: where it lies, what a request finds there, and what an engine's write leaves
(R78, R80).
-/

namespace Sys2Proof.Machine

variable {s t : State} {p : Packet} {a c off : Nat}

/-! ### Addresses of a core's window (R78) -/

theorem tgtOf_eq_core_iff : tgtOf a = .core c off ↔ a = coreWin c + off ∧ c < 256 ∧ off < 0x80000 := by
  unfold tgtOf coreWin
  split
  next => exact iff_of_false nofun (by omega)
  split
  next hreg hcore =>
    rw [Bool.and_eq_true, decide_eq_true_eq, decide_eq_true_eq] at hcore
    rw [Tgt.core.injEq]
    omega
  next hreg hcore =>
    rw [Bool.and_eq_true, decide_eq_true_eq, decide_eq_true_eq] at hcore
    refine iff_of_false ?_ (by omega)
    split_ifs <;> nofun

theorem tgtOf_core_add (h : tgtOf a = .core c off) {i : Nat} (hi : off + i < 0x80000) : tgtOf (a + i) = .core c (off + i) := by
  obtain ⟨ha, hc, -⟩ := tgtOf_eq_core_iff.mp h
  exact tgtOf_eq_core_iff.mpr ⟨by omega, hc, hi⟩

theorem isHostAddr_core (h : tgtOf a = .core c off) : isHostAddr a = false :=
  decide_eq_false (h ▸ nofun)

/-! ### What instruction memory answers (R80) -/

theorem windowResp_live_write (h : tgtOf a = .core c off) (hlo : 0x40000 ≤ off) (hhi : off < 0x50000)
    (hlive : s.coreLive c = true) : s.windowResp a true = rRights := by
  simp [State.windowResp, h, hlo, hlive, Nat.not_le.mpr hhi]

theorem windowResp_read (h : tgtOf a = .core c off) (hhi : off < 0x50000) : s.windowResp a false = rDone := by
  simp [State.windowResp, h, Nat.not_le.mpr hhi]

theorem atomHome_instr (h : tgtOf a = .core c off) (hlo : 0x40000 ≤ off) : atomHome a = false := by
  simp [atomHome, h, hlo]

theorem coreLive_congr (hheld : t.held c = s.held c) (hcores : t.cores = s.cores) : t.coreLive c = s.coreLive c := by
  rw [State.coreLive, hheld, State.core_congr hcores, State.coreLive]

/-! ### Requests on their way to memory -/

/-- Accesses to core windows are of the data class (R264). -/
theorem pktCtl_core (h : tgtOf (pktAddr p) = .core c off) (hop : p.op.toNat ≤ 3) : pktCtl p = false := by
  have hreg : tgtOf p.addr.toNat ≠ .reg p.addr.toNat := fun hreg => nomatch hreg.symm.trans h
  have hcases : p.op.toNat = 0 ∨ p.op.toNat = 1 ∨ p.op.toNat = 2 ∨ p.op.toNat = 3 := by omega
  rcases hcases with hread | hwrite | hposted | hatom
  · simp [pktCtl, hread, hreg]
  · simp [pktCtl, hwrite, hreg]
  · simp [pktCtl, hposted, hreg]
  · simp [pktCtl, hatom]

theorem pktParityOk_data (hctl : pktCtl p = false) (herr : p.hperr = 0) : pktParityOk p = true := by
  simp [pktParityOk, Packet.hparGot, hctl, herr]

/-- Without a double-bit error the NI's check at most sets SBE and counts (R268). -/
theorem received_of_no_dbe (h : p.dbe = 0) (s : State) :
    s.received p = s ∨ s.received p = (s.flag F.VEIN_STAT_SBE).count 708 (bitCount p.sbe) := by
  unfold State.received State.niCheck
  rw [if_pos h]
  split
  · exact .inl rfl
  · split
    · exact .inl rfl
    · exact .inr rfl

/-- The state in which a request acts on its target: its packet has left the fabric and its NI has checked it. -/
def State.accepted (s : State) (p : Packet) : State := (s.arrive p).received p

/-- What a request without double-bit errors leaves on its way to its target. -/
structure Accepted (s t : State) (p : Packet) : Prop where
  mem : t.mem = s.mem
  badPar : t.badPar = s.badPar
  freeCtr : t.freeCtr = s.freeCtr
  cores : t.cores = s.cores
  host : t.host = s.host
  flight : t.flight = s.flight.erase p
  reg : ∀ b, b ≠ R.VEIN_STAT → t.reg b = s.reg b

theorem accepted_leaves (h : p.dbe = 0) (s : State) : Accepted s (s.accepted p) p := by
  unfold State.accepted
  rcases received_of_no_dbe h (s.arrive p) with heq | heq <;> rw [heq]
  · exact ⟨rfl, rfl, rfl, rfl, rfl, rfl, fun _ _ => rfl⟩
  · exact ⟨rfl, rfl, rfl, rfl, rfl, rfl, fun _ hb => (s.arrive p).reg_put_ne F.VEIN_STAT_SBE 1 hb⟩

theorem Accepted.coreLive (h : Accepted s t p) (hc : c < 256) : t.coreLive c = s.coreLive c := by
  refine coreLive_congr (State.bit_of_reg (h.reg _ ?_)) h.cores
  simp only [F.GLOBAL_CORE_HELD_HELD, R.GLOBAL_CORE_HELD, R.VEIN_STAT]
  omega

theorem Accepted.bytesAt (h : Accepted s t p) (a n : Nat) : t.bytesAt a n = s.bytesAt a n := by
  simp only [State.bytesAt, State.byteAt, h.mem, h.freeCtr]

theorem Accepted.trackedFrom (h : Accepted s t p) (q : Packet) (line : Nat) : t.trackedFrom q line = s.trackedFrom q line := by
  rw [State.trackedFrom, h.host, State.trackedFrom]

/-! ### Answers -/

/-- The source NI leaves what a response says (R266). -/
theorem inject_says (s : State) (p : Packet) : (s.inject p).op = p.op ∧ (s.inject p).resp = p.resp ∧
    (s.inject p).init = p.init ∧ (s.inject p).txn = p.txn ∧ (s.inject p).data = p.data := by
  unfold State.inject
  extract_lets
  split
  · exact ⟨rfl, rfl, rfl, rfl, rfl⟩
  · exact ⟨rfl, rfl, rfl, rfl, rfl⟩

theorem respond_sends (s : State) (p : Packet) (op resp : Nat) (data : List Byte) (poison : BitVec 32) :
    ∃ x, (s.respond p op resp data poison).flight = s.flight ++ [x] ∧ x.op = BitVec.ofNat 4 op ∧
      x.resp = BitVec.ofNat 3 resp ∧ x.init = p.init ∧ x.txn = p.txn ∧ x.data = data :=
  ⟨_, rfl, inject_says _ _⟩

theorem report_flight (s : State) (r : Report) : (s.report r).flight = s.flight := by
  unfold State.report
  split
  · rfl
  · rfl

/-- A read's notes reach no packet in flight: its fault record waits in the report buffer (R285, R409). -/
theorem readNote_flight (s : State) (init a n : Nat) (spec : Bool) : (s.readNote init a n spec).flight = s.flight := by
  unfold State.readNote
  split
  · rfl
  split
  · rfl
  split
  · rfl
  split
  · rfl
  · exact report_flight _ _

theorem memRead_sends (s : State) (p : Packet) : ∃ x, (s.memRead p).flight = s.flight ++ [x] ∧ x.op = 4 ∧
    x.data = s.bytesAt (pktAddr p) (pktLen p) ∧ (x.resp = 0 ∨ x.resp = 1) := by
  obtain ⟨x, hflight, hop, hresp, -, -, hdata⟩ :=
    respond_sends (s.readEffect (pktInit p) (pktAddr p) (pktLen p) p.spec) p 4
      (if (s.badIn (pktAddr p) (pktLen p)).isEmpty then rDone else rPoison) (s.bytesAt (pktAddr p) (pktLen p))
      (s.poisonIn (pktAddr p) (pktLen p))
  refine ⟨x, hflight.trans (congrArg (· ++ [x]) (readNote_flight s _ _ _ _)), hop, hdata, ?_⟩
  split at hresp
  · exact .inl hresp
  · exact .inr hresp

/-! ### Requests at instruction memory (R80) -/

/-- A data-class request for an address of core `c`'s instruction memory, without parity or double-bit errors, whose turn has
come and whose way is open. -/
structure AtInstrMem (s : State) (p : Packet) (c off : Nat) : Prop where
  addr : tgtOf (pktAddr p) = .core c off
  lo : 0x40000 ≤ off
  hi : off < 0x50000
  op : p.op.toNat ≤ 3
  node : nodeOfAddr (pktAddr p) = some p.dst.toNat
  wayOpen : s.closedStop p = none
  turn : s.mustWait p = false
  header : p.hperr = 0
  payload : p.dbe = 0

theorem AtInstrMem.parityOk (h : AtInstrMem s p c off) : pktParityOk p = true :=
  pktParityOk_data (pktCtl_core h.addr h.op) h.header

theorem AtInstrMem.turnedAway (h : AtInstrMem s p c off) : s.turnedAway p = none := by
  simp [State.turnedAway, h.node, h.wayOpen]

theorem AtInstrMem.requestArrives (h : AtInstrMem s p c off) : s.requestArrives p = (s.accepted p).serveRequest p := by
  simp [State.requestArrives, h.parityOk, h.turn, h.turnedAway, State.accepted]

theorem AtInstrMem.postedArrives (h : AtInstrMem s p c off) : s.postedArrives p = (s.accepted p).serveRequest p := by
  simp [State.postedArrives, h.parityOk, h.turn, h.turnedAway, h.wayOpen, State.accepted]

theorem AtInstrMem.accepted (h : AtInstrMem s p c off) : Accepted s (s.accepted p) p :=
  accepted_leaves h.payload s

theorem AtInstrMem.coreLive (h : AtInstrMem s p c off) : (s.accepted p).coreLive c = s.coreLive c :=
  h.accepted.coreLive (tgtOf_eq_core_iff.mp h.addr).2.1

theorem AtInstrMem.serveRequest (h : AtInstrMem s p c off) (t : State) : t.serveRequest p =
    if t.memResp p = rDone then t.memAccess p 0 else t.refuse p (t.memResp p) := by
  simp [State.serveRequest, h.addr]

theorem AtInstrMem.memResp_write (h : AtInstrMem s p c off) (hop : p.op = 1 ∨ p.op = 2) (hlive : t.coreLive c = true) :
    t.memResp p = rRights := by
  have hrights := windowResp_live_write h.addr h.lo h.hi hlive
  rcases hop with hop | hop <;> simpa [State.memResp, hop] using hrights

theorem AtInstrMem.memResp_atom (h : AtInstrMem s p c off) (hop : p.op = 3) : t.memResp p = rNoTarget := by
  simp [State.memResp, hop, atomHome_instr h.addr h.lo]

theorem AtInstrMem.memResp_read (h : AtInstrMem s p c off) (hop : p.op = 0) : t.memResp p = rDone := by
  simp [State.memResp, hop, windowResp_read h.addr h.hi]

theorem AtInstrMem.write_refused (h : AtInstrMem s p c off) (hop : p.op = 1) (hlive : s.coreLive c = true) :
    s.requestArrives p = (s.accepted p).respond p 5 rRights [] 0 := by
  rw [h.requestArrives, h.serveRequest, h.memResp_write (.inl hop) (h.coreLive.trans hlive), if_neg (by decide),
    State.refuse, hop]
  rfl

theorem AtInstrMem.posted_dropped (h : AtInstrMem s p c off) (hop : p.op = 2) (hlive : s.coreLive c = true) :
    s.postedArrives p = (s.accepted p).delivered p := by
  rw [h.postedArrives, h.serveRequest, h.memResp_write (.inr hop) (h.coreLive.trans hlive), if_neg (by decide),
    State.refuse, hop]
  rfl

/-- Instruction memory takes no atomic at all (R88). -/
theorem AtInstrMem.atom_refused (h : AtInstrMem s p c off) (hop : p.op = 3) :
    s.requestArrives p = (s.accepted p).respond p 4 rNoTarget [] 0 := by
  rw [h.requestArrives, h.serveRequest, h.memResp_atom hop, if_neg (by decide), State.refuse, hop]
  rfl

theorem AtInstrMem.read_served (h : AtInstrMem s p c off) (hop : p.op = 0) (hfree : s.trackedFrom p 0 = none) :
    s.requestArrives p = (s.accepted p).memRead p := by
  rw [h.requestArrives, h.serveRequest, h.memResp_read hop, if_pos rfl, State.memAccess, h.accepted.trackedFrom, hfree,
    State.memPerform, hop]
  rfl

/-! ### Engines' writes (R80) -/

theorem mem_blocksOf {n : Nat} {b : Nat × Nat} (h : b ∈ blocksOf a n) : a ≤ b.1 ∧ b.1 < a + n := by
  obtain ⟨i, -, hi⟩ := List.mem_filterMap.mp h
  extract_lets lo top at hi
  split at hi
  · cases hi
    omega
  · cases hi

theorem accessResp_live_write (h : tgtOf a = .core c off) (hlo : 0x40000 ≤ off) (hhi : off < 0x50000)
    (hlive : s.coreLive c = true) (init : Nat) : s.accessResp init a true ≠ rDone := by
  unfold State.accessResp
  split
  · decide
  split
  · decide
  split
  · decide
  · rw [windowResp_live_write h hlo hhi hlive]
    decide

/-- Each block of the range is turned down and leaves the state. -/
theorem engWrite_live (h : tgtOf a = .core c off) (hlo : 0x40000 ≤ off) (hlive : s.coreLive c = true) {l : List Byte}
    (hl : off + l.length ≤ 0x50000) (init : Nat) (ns : Bool) : s.engWrite init a l ns = s := by
  unfold State.engWrite
  refine List.foldlRecOn (motive := (· = s)) _ _ rfl fun t ht b hb => ?_
  subst ht
  obtain ⟨hge, hlt⟩ := mem_blocksOf hb
  obtain ⟨i, hi⟩ := Nat.exists_eq_add_of_le hge
  have hblock : tgtOf b.1 = .core c (off + i) := hi ▸ tgtOf_core_add h (by omega)
  rw [if_neg (accessResp_live_write hblock (by omega) (by omega) hlive init), State.rangeMiss, isHostAddr_core hblock]
  rfl

end Sys2Proof.Machine
end

section
/-!
PROOFS. The guard of instruction memory (O48).
-/

open Sys2Proof Sys2Proof.Machine

/-- Settles O48: a live core's instruction memory turns writes and atomics down (`windowResp_live_write`, `atomHome_instr`) before
they reach a byte, reads pass to the memory, and an engine's write fails at each of its blocks. -/
theorem instructionMemoryGuard : Obligations.InstructionMemoryGuard := by
  unfold Obligations.InstructionMemoryGuard
  intro s p c off haddr hlo hhi hnode hopen hfree hheader hpayload
  have hat (op : BitVec 4) (hop : op ∈ [(0 : BitVec 4), 1, 2, 3]) (hturn : s.mustWait { p with op := op } = false) :
      AtInstrMem s { p with op := op } c off :=
    ⟨haddr, hlo, hhi, (by decide : ∀ op ∈ [(0 : BitVec 4), 1, 2, 3], op.toNat ≤ 3) op hop, hnode, hopen op hop, hturn, hheader,
      hpayload⟩
  refine ⟨fun hlive hturn => ?write, fun hlive hturn => ?posted, fun hlive hturn => ?atom, fun hturn => ?read,
    fun hlive init l ns hl => ?engine⟩
  case write =>
    have h := hat 1 (by decide) hturn
    obtain ⟨x, hflight, hop, hresp, hinit, htxn, -⟩ := respond_sends (s.accepted _) { p with op := 1 } 5 rRights [] 0
    exact ⟨_, x, congrArg Host.Outcome.next (h.write_refused rfl hlive), h.accepted.mem, h.accepted.badPar,
      hflight.trans (congrArg (· ++ [x]) h.accepted.flight), hop, hresp, hinit, htxn⟩
  case posted =>
    have h := hat 2 (by decide) hturn
    exact ⟨_, congrArg Host.Outcome.next (h.posted_dropped rfl hlive), h.accepted.mem, h.accepted.badPar⟩
  case atom =>
    have h := hat 3 (by decide) hturn
    exact ⟨_, congrArg Host.Outcome.next (h.atom_refused rfl), h.accepted.mem, h.accepted.badPar⟩
  case read =>
    have h := hat 0 (by decide) hturn
    obtain ⟨x, hflight, hop, hdata, hresp⟩ := memRead_sends (s.accepted { p with op := 0 }) { p with op := 0 }
    exact ⟨_, x, congrArg Host.Outcome.next (h.read_served rfl hfree), hflight.trans (congrArg (· ++ [x]) h.accepted.flight),
      hop, hdata.trans (h.accepted.bytesAt _ _), hresp⟩
  case engine => exact engWrite_live haddr hlo hlive hl init ns

end


section
/-!
SUPPORT. Words of a core's instructions (R85 to R88, R128, R140, R217): a word is what its format's encoder makes of its fields,
the word of an instruction decodes to it, and what decodes to an instruction is its word.
-/

namespace Sys2Proof

variable {c : BitVec 8} {w : Word} {i : Instr} {op : BitVec 6} {n : Nat}

/-! ### A word is its fields -/

/-- Neighbouring fields of a word, joined. -/
theorem extract_join (w : Word) (lo n m : Nat) :
    w.extractLsb' (lo + n) m ++ w.extractLsb' lo n = w.extractLsb' lo (m + n) :=
  BitVec.extractLsb'_append_extractLsb'_eq_extractLsb' rfl

theorem field_of_toNat {start len : Nat} (h : (w.extractLsb' start len).toNat = n) :
    BitVec.ofNat len n = w.extractLsb' start len := by
  rw [← h, BitVec.ofNat_toNat, BitVec.setWidth_eq]

theorem ofBool_bit (w : Word) (k : Nat) : BitVec.ofBool (w.getLsbD k) = w.extractLsb' k 1 := by
  ext j hj
  obtain rfl : j = 0 := by omega
  simp

theorem encReg_of_fields (hop : (wordOp w).toNat = op.toNat) (hf : (w.extractLsb' 0 11).toNat = n) :
    encReg op (wordA w) (wordB w) (wordC w) (BitVec.ofNat 11 n) = w := by
  rw [← BitVec.eq_of_toNat_eq hop, field_of_toNat hf]
  unfold encReg wordOp wordA wordB wordC
  rw [extract_join w 21 5 6, extract_join w 16 5 11, extract_join w 11 5 16, extract_join w 0 11 21]
  exact extract_all w

theorem encImm_of_fields (hop : (wordOp w).toNat = op.toNat) : encImm op (wordA w) (wordB w) (wordImm w) = w := by
  rw [← BitVec.eq_of_toNat_eq hop]
  unfold encImm wordOp wordA wordB wordImm
  rw [extract_join w 21 5 6, extract_join w 16 5 11, extract_join w 0 16 16]
  exact extract_all w

theorem encJmp_of_fields (hop : (wordOp w).toNat = op.toNat) : encJmp op (w.extractLsb' 0 26) = w := by
  rw [← BitVec.eq_of_toNat_eq hop]
  unfold encJmp wordOp
  rw [extract_join w 0 26 6]
  exact extract_all w

theorem encShift_of_fields (hop : (wordOp w).toNat = 0x07) (hk : (w.extractLsb' 6 2).toNat = n) :
    encShift (wordA w) (wordB w) (w.extractLsb' 8 8) (BitVec.ofNat 2 n) (w.extractLsb' 0 6) = w := by
  have hop : wordOp w = 0x07#6 := BitVec.eq_of_toNat_eq hop
  rw [field_of_toNat hk]
  unfold encShift wordA wordB
  rw [← hop]
  unfold wordOp
  rw [extract_join w 21 5 6, extract_join w 16 5 11, extract_join w 8 8 16, extract_join w 6 2 24, extract_join w 0 6 26]
  exact extract_all w

theorem encSys_of_fields (hop : (wordOp w).toNat = 0x29) (hsub : (w.extractLsb' 12 4).toNat = n) :
    encSys (wordA w) (wordB w) (BitVec.ofNat 4 n) (w.extractLsb' 0 12) = w := by
  have hop : wordOp w = 0x29#6 := BitVec.eq_of_toNat_eq hop
  rw [field_of_toNat hsub]
  unfold encSys wordA wordB
  rw [← hop]
  unfold wordOp
  rw [extract_join w 21 5 6, extract_join w 16 5 11, extract_join w 12 4 16, extract_join w 0 12 20]
  exact extract_all w

theorem encVc_of_fields (hop : (wordOp w).toNat = 0x30) (hsub : (w.extractLsb' 14 2).toNat = n) :
    encVc (wordA w) (wordB w) (BitVec.ofNat 2 n) (w.extractLsb' 9 5) (w.extractLsb' 0 9) = w := by
  have hop : wordOp w = 0x30#6 := BitVec.eq_of_toNat_eq hop
  rw [field_of_toNat hsub]
  unfold encVc wordA wordB
  rw [← hop]
  unfold wordOp
  rw [extract_join w 21 5 6, extract_join w 16 5 11, extract_join w 14 2 16, extract_join w 9 5 18, extract_join w 0 9 23]
  exact extract_all w

theorem encV_of_fields (hop : (wordOp w).toNat = op.toNat) (hf : (w.extractLsb' 0 7).toNat = n) :
    encV op (wordA w) (wordB w) (wordC w) (wordMen w) (wordM w) (BitVec.ofNat 7 n) = w := by
  rw [← BitVec.eq_of_toNat_eq hop, field_of_toNat hf]
  unfold encV wordOp wordA wordB wordC wordMen wordM
  rw [ofBool_bit, extract_join w 21 5 6, extract_join w 16 5 11, extract_join w 11 5 16, extract_join w 10 1 21,
    extract_join w 7 3 22, extract_join w 0 7 25]
  exact extract_all w

theorem encVi_of_fields (hop : (wordOp w).toNat = 0x33) (hf : (w.extractLsb' 0 4).toNat = n) :
    encVi (wordA w) (wordB w) (w.extractLsb' 8 8) (w.getLsbD 7) (w.extractLsb' 4 3) (BitVec.ofNat 4 n) = w := by
  have hop : wordOp w = 0x33#6 := BitVec.eq_of_toNat_eq hop
  rw [field_of_toNat hf]
  unfold encVi wordA wordB
  rw [← hop]
  unfold wordOp
  rw [ofBool_bit, extract_join w 21 5 6, extract_join w 16 5 11, extract_join w 8 8 16, extract_join w 7 1 24,
    extract_join w 4 3 25, extract_join w 0 4 28]
  exact extract_all w

theorem encVl_of_fields (hop : (wordOp w).toNat = op.toNat) :
    encVl op (wordA w) (wordB w) (wordC w) (wordMen w) (wordM w) (w.extractLsb' 5 2) (w.extractLsb' 0 5) = w := by
  rw [← BitVec.eq_of_toNat_eq hop]
  unfold encVl wordOp wordA wordB wordC wordMen wordM
  rw [ofBool_bit, extract_join w 21 5 6, extract_join w 16 5 11, extract_join w 11 5 16, extract_join w 10 1 21,
    extract_join w 7 3 22, extract_join w 5 2 25, extract_join w 0 5 27]
  exact extract_all w

theorem encFu_of_fields (hop : (wordOp w).toNat = op.toNat) (hf : (w.extractLsb' 0 4).toNat = n) :
    encFu op (wordA w) (wordB w) (wordC w) (wordParam w) (BitVec.ofNat 4 n) = w := by
  rw [← BitVec.eq_of_toNat_eq hop, field_of_toNat hf]
  unfold encFu wordOp wordA wordB wordC wordParam
  rw [extract_join w 21 5 6, extract_join w 16 5 11, extract_join w 11 5 16, extract_join w 4 7 21, extract_join w 0 4 28]
  exact extract_all w

/-! ### What decodes to an instruction is its word -/

theorem encode_of_decodeVv {sc : Bool} (hop : (wordOp w).toNat = (opVv sc).toNat) (h : decodeVv c sc w = .insn i) :
    encodeCore i = some w ∧ coreOfInsn i = some c := by
  unfold decodeVv at h
  split at h <;> cases h
  all_goals exact ⟨congrArg some (encV_of_fields hop ‹_›), rfl⟩

/-- By opcode, and within an opcode by selector. -/
theorem encode_of_decodeCore (h : decodeCore c w = .insn i) : encodeCore i = some w ∧ coreOfInsn i = some c := by
  unfold decodeCore at h
  split at h
  case h_1 hop | h_22 hop | h_33 hop | h_34 hop | h_35 hop | h_36 hop | h_37 hop =>
    simp only [decodeReg, decodeAtomic, decodeThread, decodeEvent, decodeFlow, decodeToken, decodeContext] at h
    split at h <;> cases h
    all_goals exact ⟨congrArg some (encReg_of_fields hop ‹_›), rfl⟩
  case h_8 hop =>
    unfold decodeShift at h
    split at h <;> cases h
    all_goals exact ⟨congrArg some (encShift_of_fields hop ‹_›), rfl⟩
  case h_32 hop =>
    unfold decodeSys at h
    split at h <;> cases h
    all_goals exact ⟨congrArg some (encSys_of_fields hop ‹_›), rfl⟩
  case h_38 hop =>
    unfold decodeVc at h
    split at h <;> cases h
    all_goals exact ⟨congrArg some (encVc_of_fields hop ‹_›), rfl⟩
  case h_39 hop => exact encode_of_decodeVv (sc := false) hop h
  case h_40 hop => exact encode_of_decodeVv (sc := true) hop h
  case h_41 hop =>
    unfold decodeVi at h
    split at h <;> cases h
    all_goals exact ⟨congrArg some (encVi_of_fields hop ‹_›), rfl⟩
  case h_44 hop =>
    unfold decodeVx at h
    split at h <;> cases h
    all_goals exact ⟨congrArg some (encV_of_fields hop ‹_›), rfl⟩
  case h_45 hop | h_46 hop | h_48 hop =>
    simp only [decodeCorr, decodeLfsr, decodeIlv] at h
    split at h <;> cases h
    all_goals exact ⟨congrArg some (encFu_of_fields hop ‹_›), rfl⟩
  all_goals cases h
  case h_29 hop | h_30 hop => exact ⟨congrArg some (encJmp_of_fields hop), rfl⟩
  case h_42 hop | h_43 hop => exact ⟨congrArg some (encVl_of_fields hop), rfl⟩
  case h_47 hop => exact ⟨congrArg some (field_of_toNat (w := w) rfl ▸ encFu_of_fields hop rfl), rfl⟩
  all_goals exact ⟨congrArg some (encImm_of_fields ‹_›), rfl⟩

/-! ### The word of an instruction decodes to it -/

theorem decodeCore_opVv {sc : Bool} (h : wordOp w = opVv sc) : decodeCore c w = decodeVv c sc w := by
  cases sc <;> rw [decodeCore, h] <;> rfl

theorem decode_of_encodeCore (hw : encodeCore i = some w) (hc : coreOfInsn i = some c) : decodeCore c w = .insn i := by
  cases i <;> cases hw <;> cases hc
  case add | sub | and | or | xor | sll | srl | sra | slt | sltu | min | max | minu | maxu | mul | mulh | mulhu | clz | popc
      | abs | addw | subw | andw | orw | xorw | sllw | srlw | sraw | mulw =>
    rw [decodeCore, wordOp_encReg]
    change decodeReg c _ = _
    rw [decodeReg, bits0_encReg, wordA_encReg, wordB_encReg, wordC_encReg]
    rfl
  case swapd | addd | andd | ord | maxd =>
    rw [decodeCore, wordOp_encReg]
    change decodeAtomic c _ = _
    rw [decodeAtomic, bits0_encReg, wordA_encReg, wordB_encReg, wordC_encReg]
    rfl
  case tdispatch | tspawn | twait | tyield | texit | tsetpri =>
    rw [decodeCore, wordOp_encReg]
    change decodeThread c _ = _
    rw [decodeThread, bits0_encReg, wordA_encReg, wordB_encReg, wordC_encReg]
    rfl
  case tevent =>
    rw [decodeCore, wordOp_encReg]
    change decodeEvent c _ = _
    rw [decodeEvent, bits0_encReg, wordA_encReg, wordB_encReg, wordC_encReg]
    rfl
  case fadmit | frelease | fvoid =>
    rw [decodeCore, wordOp_encReg]
    change decodeFlow c _ = _
    rw [decodeFlow, bits0_encReg, wordA_encReg, wordB_encReg, wordC_encReg]
    rfl
  case topen | tcommit | tsquash | tfree | tstate | tattach =>
    rw [decodeCore, wordOp_encReg]
    change decodeToken c _ = _
    rw [decodeToken, bits0_encReg, wordA_encReg, wordB_encReg, wordC_encReg]
    rfl
  case ctxsv | ctxld =>
    rw [decodeCore, wordOp_encReg]
    change decodeContext c _ = _
    rw [decodeContext, bits0_encReg, wordA_encReg, wordB_encReg, wordC_encReg]
    rfl
  case addi | andi | ori | xori | slti | sltiu | lui | addiw | jalr | lb | lbu | lh | lhu | lw | lwu | ld | sb | sh | sw | sd
      | beq | bne | blt | bge | bltu | bgeu =>
    rw [decodeCore, wordOp_encImm, wordA_encImm, wordB_encImm, wordImm_encImm]
    rfl
  case j | jal =>
    rw [decodeCore, wordOp_encJmp, bits0_encJmp]
    rfl
  case slli | srli | srai =>
    rw [decodeCore, wordOp_encShift]
    change decodeShift c _ = _
    rw [decodeShift, bits6_encShift, bits8_encShift, bits0_encShift, wordA_encShift, wordB_encShift]
    rfl
  case mfcr | mtcr | fence | tret | brk =>
    rw [decodeCore, wordOp_encSys]
    change decodeSys c _ = _
    rw [decodeSys, bits12_encSys, bits0_encSys, wordA_encSys, wordB_encSys]
    rfl
  case vclaim | vsetclaim =>
    rw [decodeCore, wordOp_encVc]
    change decodeVc c _ = _
    rw [decodeVc, bits14_encVc, bits9_encVc, bits0_encVc, wordA_encVc, wordB_encVc]
    rfl
  case vadd | vsub | vmin | vmax | vand | vor | vxor | vsll | vsrl | vsra | vsrar | vabs | vneg | vconj | vmul | vmulc | vmac
      | vmacc | vmsub | vwadd | vwmul | vwmulc | vwmac | vwmacc | vpow | vnarrow | vcvt =>
    rw [decodeCore_opVv (wordOp_encV _ _ _ _ _ _ _), decodeVv, bits0_encV, men_encV, wordM_encV, wordA_encV,
      wordB_encV, wordC_encV]
    rfl
  case vaddi | vslli | vsrli | vsrai | vsrari | vnarrowi | vsplati =>
    rw [decodeCore, wordOp_encVi]
    change decodeVi c _ = _
    rw [decodeVi, bits0_encVi, bits8_encVi, men_encVi, bits4_encVi, wordA_encVi, wordB_encVi]
    rfl
  case vld | vst =>
    rw [decodeCore, wordOp_encVl, wordA_encVl, wordB_encVl, wordC_encVl, men_encVl, wordM_encVl, bits5_encVl, bits0_encVl]
    rfl
  case vredsum | vredmax | vredmin | vext | vins | vsplat | vslideup | vslidedn | vperm | vmv | vsel | vcmpeq | vcmplt |
      vcmple | vmand | vmor | vmxor | vmandn | vmpopc | vmfirst =>
    rw [decodeCore, wordOp_encV]
    change decodeVx c _ = _
    rw [decodeVx, bits0_encV, men_encV, wordM_encV, wordA_encV, wordB_encV, wordC_encV]
    rfl
  case ccorr | cdesp | cpeak =>
    rw [decodeCore, wordOp_encFu]
    change decodeCorr c _ = _
    rw [decodeCorr, bits0_encFu, wordA_encFu, wordB_encFu, wordC_encFu, wordParam_encFu]
    rfl
  case lginit | lgen | lgenv | lcrcinit | lcrcg | lcrcv | lcrcrd =>
    rw [decodeCore, wordOp_encFu]
    change decodeLfsr c _ = _
    rw [decodeLfsr, bits0_encFu, wordA_encFu, wordB_encFu, wordC_encFu, wordParam_encFu]
    rfl
  case isel | ibil | idil | icomb =>
    rw [decodeCore, wordOp_encFu]
    change decodeIlv c _ = _
    rw [decodeIlv, bits0_encFu, wordA_encFu, wordB_encFu, wordC_encFu, wordParam_encFu]
    rfl
  case demap =>
    rw [decodeCore, wordOp_encFu, bits0_encFu, wordA_encFu, wordB_encFu, wordC_encFu, wordParam_encFu]
    rfl

end Sys2Proof
end

section
/-!
SUPPORT. What a change of one core leaves of the machine, and what a trap leaves of its core (R107, R109).
-/

namespace Sys2Proof.Machine

variable {s t u : State} {c d n m : Nat} {k : Core} {x : Trap} {restart : BitVec 16}

/-! ### Control registers -/

@[simp] theorem Core.crv_setCr (k : Core) (n : Nat) (v : DWord) : (k.setCr n v).crv n = v := mapGet_set_same _ _ _ _

theorem Core.crv_setCr_ne (k : Core) (h : m ≠ n) (v : DWord) : (k.setCr n v).crv m = k.crv m := mapGet_set_ne _ _ _ _ h

/-! ### One core -/

@[simp] theorem State.core_count (s : State) (i n c : Nat) : (s.count i n).core c = s.core c := rfl

@[simp] theorem State.core_mapCore (s : State) (c : Nat) (f : Core → Core) : (s.mapCore c f).core c = f (s.core c) :=
  s.core_setCore c _

theorem onlyCore.refl (s : State) (c : Nat) : onlyCore s s c := ⟨rfl, fun _ _ => rfl⟩

theorem onlyCore.setCore (h : onlyCore s t c) (k : Core) : onlyCore s (t.setCore c k) c := by
  obtain ⟨heq, hcores⟩ := h
  exact ⟨by rw [heq]; rfl, fun d hd => (t.core_setCore_ne k hd).trans (hcores d hd)⟩

theorem onlyCore.mapCore (h : onlyCore s t c) (f : Core → Core) : onlyCore s (t.mapCore c f) c := h.setCore _

theorem onlyCore.count (h : onlyCore s t c) (i n : Nat) : onlyCore s (t.count i n) c := by
  obtain ⟨heq, hcores⟩ := h
  exact ⟨by rw [heq]; rfl, hcores⟩

theorem onlyCore.retireTo (h : onlyCore s t c) (pc : BitVec 16) : onlyCore s (t.retireTo c pc) c := (h.setCore _).count _ _

theorem onlyCore.retire (h : onlyCore s t c) : onlyCore s (t.retire c) c := h.retireTo _

theorem onlyCore.ite {p : Prop} [Decidable p] (ht : onlyCore s t c) (hu : onlyCore s u c) :
    onlyCore s (if p then t else u) c := by
  split
  · exact ht
  · exact hu

/-! ### Traps -/

/-- A core that has taken a trap (R107). -/
def Core.takeTrap (k : Core) (x : Trap) (restart : BitVec 16) : Core :=
  ((({ k with
    pf := []
    pc := (k.crv crTvec).truncate 16 }.setCr crTpc (restart.zeroExtend 64)).setCr crTcause
      (BitVec.ofNat 64 (x.code + x.sub * 256))).setCr crTaddr (BitVec.ofNat 64 x.addr)).setCr crTstat
      (BitVec.ofNat 64 ((if k.task then 2 else 0) + 4))

/-- Outside a handler a trap changes its core and counts (R107). -/
theorem State.trapTo_takes (h : ((s.core c).crv crTstat).getLsbD 2 = false) (x : Trap) (restart : BitVec 16) :
    (s.trapTo c x false restart).core c = (s.core c).takeTrap x restart ∧ onlyCore s (s.trapTo c x false restart) c := by
  unfold State.trapTo
  rw [if_neg (by rw [h]; decide)]
  extract_lets k1 k2 s1 s2
  have h1 : s1.core c = (s.core c).takeTrap x restart ∧ onlyCore s s1 c :=
    ⟨s.core_setCore c k2, ((onlyCore.refl s c).setCore k2).count _ _⟩
  have h2 : s2.core c = (s.core c).takeTrap x restart ∧ onlyCore s s2 c := by
    unfold s2
    split
    · exact ⟨h1.1, h1.2.count _ _⟩
    · exact h1
  split
  · exact ⟨h2.1, h2.2.count _ _⟩
  · exact h2

theorem State.trapTo_trapped (h : ((s.core c).crv crTstat).getLsbD 2 = false) (x : Trap) (restart : BitVec 16) :
    trapped s (s.trapTo c x false restart) c x restart := by
  obtain ⟨hcore, honly⟩ := s.trapTo_takes h x restart
  refine ⟨?_, ?_, ?_, ?_, ?_, ?_, ?_, ?_, honly⟩ <;> rw [hcore]
  · rfl
  · exact (Core.crv_setCr_ne _ (by decide) _).trans ((Core.crv_setCr_ne _ (by decide) _).trans
      ((Core.crv_setCr_ne _ (by decide) _).trans (Core.crv_setCr _ _ _)))
  · exact (Core.crv_setCr_ne _ (by decide) _).trans ((Core.crv_setCr_ne _ (by decide) _).trans (Core.crv_setCr _ _ _))
  · exact (Core.crv_setCr_ne _ (by decide) _).trans (Core.crv_setCr _ _ _)
  · refine (Core.crv_setCr _ _ _).trans ?_
    split <;> rfl
  · rfl
  · rfl
  · rfl

theorem State.trap_trapped (h : ((s.core c).crv crTstat).getLsbD 2 = false) (x : Trap) :
    trapped s (s.trap c x) c x (s.core c).pc := s.trapTo_trapped h x _

/-- An instruction of a ready core that a condition turns away traps at itself. -/
theorem State.runInsn_bad_trapped {w v : Use} (hready : s.ready c w) (h : ((s.core c).crv crTstat).getLsbD 2 = false)
    (kind : RaKind) (x : Trap) (chk : Option Trap) (wait oldest : Bool) (act : State) :
    trapped s (s.runInsn c v kind (some x) chk wait oldest act) c x (s.core c).pc := by
  rw [State.runInsn_bad hready]
  exact s.trap_trapped h x

/-- An instruction of a ready core whose operands turn it away traps at itself. -/
theorem State.runInsn_chk_trapped {w : Use} (hready : s.ready c w) (h : ((s.core c).crv crTstat).getLsbD 2 = false)
    (kind : RaKind) (x : Trap) (wait oldest : Bool) (act : State) :
    trapped s (s.runInsn c w kind none (some x) wait oldest act) c x (s.core c).pc := by
  rw [State.runInsn_chk hready]
  exact s.trap_trapped h x

end Sys2Proof.Machine
end

section
/-!
SUPPORT. Words that are no instruction, and a core that runs a word (R85, R87, R140, R143).
-/

namespace Sys2Proof.Machine

variable {s : State} {c : BitVec 8} {w : Word} {i : Instr}

theorem runWord_insn (h : decodeCore c w = .insn i) (s : State) : s.runWord c w = exec i s := by
  rw [State.runWord, h]

theorem runWord_illegal (h : decodeCore c w = .illegal) (s : State) :
    s.runWord c w = .next (s.noInsn c.toNat (some trapIllegal)) := by
  rw [State.runWord, h]

theorem runWord_noFunction {unit : Nat} (h : decodeCore c w = .noFunction unit) (s : State) :
    s.runWord c w = .next (s.noInsn c.toNat (s.fuBad c.toNat unit false true)) := by
  rw [State.runWord, h]

/-- Outside run-ahead a core runs the word at its pc. -/
theorem runCore_eq (h : (s.core c.toNat).ra = none) :
    s.runCore c = s.runWord c (s.insnWord c.toNat (s.core c.toNat).pc) := by
  rw [State.runCore, h]

/-- A function that a unit does not allocate is refused with MODE, unless the unit refuses it first (R143). -/
theorem fuBad_noFunction (s : State) (c unit : Nat) : s.fuBad c unit false true = some (trapFused
    (if (mapGet s.imgDis 0 c).getLsbD unit then 1 else if ((s.core c).fuDis).testBit unit then 2 else 3)) := by
  rw [State.fuBad, if_neg (by decide), if_pos rfl]
  split
  · rfl
  · split <;> rfl

theorem decode_reserved_function {a b d : BitVec 5} {f : BitVec 11}
    (h : f.toNat ∈ [0xE, 0xF, 0x13, 0x1B, 0x108, 0x111, 0x7FF]) : decodeCore c (encReg 0 a b d f) = .illegal := by
  rw [decodeCore, wordOp_encReg]
  change decodeReg c _ = _
  rw [decodeReg, bits0_encReg]
  simp only [List.mem_cons, List.not_mem_nil, or_false] at h
  rcases h with h | h | h | h | h | h | h <;> rw [h] <;> rfl

theorem decode_reserved_opcode {a b : BitVec 5} {k : BitVec 16} : decodeCore c (encImm 0x37 a b k) = .illegal := by
  rw [decodeCore, wordOp_encImm]
  rfl

theorem decode_corr_noFunction {a b d : BitVec 5} {p : BitVec 7} : decodeCore c (encFu 0x38 a b d p 3) = .noFunction 0 := by
  rw [decodeCore, wordOp_encFu]
  change decodeCorr c _ = _
  rw [decodeCorr, bits0_encFu]
  rfl

theorem decode_lfsr_noFunction {a b d : BitVec 5} {p : BitVec 7} : decodeCore c (encFu 0x39 a b d p 7) = .noFunction 1 := by
  rw [decodeCore, wordOp_encFu]
  change decodeLfsr c _ = _
  rw [decodeLfsr, bits0_encFu]
  rfl

theorem decode_ilv_noFunction {a b d : BitVec 5} {p : BitVec 7} : decodeCore c (encFu 0x3B a b d p 4) = .noFunction 3 := by
  rw [decodeCore, wordOp_encFu]
  change decodeIlv c _ = _
  rw [decodeIlv, bits0_encFu]
  rfl

end Sys2Proof.Machine
end

section
/-!
PROOFS. Words and instructions (O13).
-/

open Sys2Proof Sys2Proof.Machine

/-- Settles O13: the fields that an encoder writes are those that decode reads (`decode_of_encodeCore`), a word is what its
format's encoder makes of its fields (`encode_of_decodeCore`), and a word that is no instruction is refused without operands. -/
theorem wordsAndInstructions : Obligations.WordsAndInstructions := by
  unfold Obligations.WordsAndInstructions
  refine ⟨fun i w c hw hc => ?word, fun i w c h => encode_of_decodeCore h, fun s c w hready hintrap => ⟨fun h => ?illegal,
    fun u h => ?noFunction⟩, fun c => ⟨fun a b d f hf => decode_reserved_function hf, fun a b k => decode_reserved_opcode,
    fun a b d p => ⟨decode_corr_noFunction, decode_lfsr_noFunction, decode_ilv_noFunction⟩⟩⟩
  case word =>
    have hdec := decode_of_encodeCore hw hc
    refine ⟨hdec, fun s => ⟨runWord_insn hdec s, fun hra hpc => ?_⟩⟩
    rw [runCore_eq hra, hpc, runWord_insn hdec]
  case illegal =>
    exact ⟨_, runWord_illegal h s, State.runInsn_bad_trapped hready hintrap _ _ _ _ _ _⟩
  case noFunction =>
    rw [runWord_noFunction h, fuBad_noFunction]
    exact ⟨_, rfl, State.runInsn_bad_trapped hready hintrap _ _ _ _ _ _⟩

end


section
/-!
SUPPORT. The integer operations, branches and jumps of a ready core (R88): what each command is over the operation that its
family shares, and what that operation leaves.
-/

namespace Sys2Proof.Machine

variable {s : State} {c : BitVec 8} {rd rs1 rs2 : BitVec 5}

/-! ### The tables of R88 -/

/-- Each integer operation of two registers is the shared one with the value of its row. -/
theorem exec_intOps : ∀ e ∈ intOps, ∀ (s : State) (c : BitVec 8) (rd rs1 rs2 : BitVec 5),
    exec (e.1 c rd rs1 rs2) s = .next (s.regOp c rd rs1 rs2 e.2) := by
  unfold intOps
  rw [List.forall_mem_append]
  constructor
  · iterate 8 refine List.forall_mem_cons.mpr ⟨fun _ _ _ _ _ => rfl, ?_⟩
    iterate 6
      refine List.forall_mem_cons.mpr ⟨fun s c rd rs1 rs2 => ?_, ?_⟩
      · change Host.Outcome.next (s.regOp c rd rs1 rs2 _) = _
        simp only [BitVec.slt, BitVec.ult, decide_eq_true_eq]
    exact List.forall_mem_singleton.mpr fun _ _ _ _ _ => rfl
  · iterate 10 refine List.forall_mem_cons.mpr ⟨fun _ _ _ _ _ => rfl, ?_⟩
    exact List.forall_mem_singleton.mpr fun _ _ _ _ _ => rfl

/-- ABS of R88; that of the least word is itself. -/
theorem abs_eq_ofInt (a : DWord) : (if a.msb then -a else a) = BitVec.ofInt 64 a.toInt.natAbs := by
  split
  next h =>
    have hneg : a.toInt < 0 := BitVec.toInt_neg_iff.mpr (by rwa [BitVec.msb_eq_true_iff_two_mul_ge] at h)
    rw [Int.ofNat_natAbs_of_nonpos hneg.le, BitVec.ofInt_neg, BitVec.ofInt_toInt]
  next h =>
    have hnonneg : 0 ≤ a.toInt := BitVec.toInt_pos_iff.mpr (by rwa [Bool.not_eq_true, BitVec.msb_eq_false_iff_two_mul_lt] at h)
    rw [Int.natAbs_of_nonneg hnonneg, BitVec.ofInt_toInt]

theorem toInt_sext16 (k : BitVec 16) : (sext16 k).toInt = k.toInt := BitVec.toInt_signExtend_of_le (by decide)

/-- Each operation of one register, with its zero field given. -/
theorem exec_unaryOps : ∀ e ∈ unaryOps, ∀ (s : State) (c : BitVec 8) (rd rs1 rs2 : BitVec 5),
    exec (e.1 c rd rs1 rs2) s = .next (s.regOp1 c rd rs1 rs2 e.2) := by
  unfold unaryOps
  iterate 2 refine List.forall_mem_cons.mpr ⟨fun _ _ _ _ _ => rfl, ?_⟩
  refine List.forall_mem_singleton.mpr fun s c rd rs1 rs2 => ?_
  simp only [← abs_eq_ofInt]
  rfl

theorem exec_immOps : ∀ e ∈ immOps, ∀ (s : State) (c : BitVec 8) (rd rs1 : BitVec 5) (imm : BitVec 16),
    exec (e.1 c rd rs1 imm) s = .next (s.immOp c rd rs1 false (e.2 · imm)) := by
  unfold immOps
  iterate 4 refine List.forall_mem_cons.mpr ⟨fun _ _ _ _ _ => rfl, ?_⟩
  refine List.forall_mem_cons.mpr ⟨fun s c rd rs1 imm => ?slti, List.forall_mem_cons.mpr ⟨fun s c rd rs1 imm => ?sltiu, ?_⟩⟩
  case slti =>
    change Host.Outcome.next (s.immOp c rd rs1 false _) = _
    simp only [BitVec.slt, toInt_sext16, decide_eq_true_eq]
  case sltiu =>
    change Host.Outcome.next (s.immOp c rd rs1 false _) = _
    simp only [BitVec.ult, decide_eq_true_eq]
    rfl
  exact List.forall_mem_singleton.mpr fun _ _ _ _ _ => rfl

theorem exec_shiftImmOps : ∀ e ∈ shiftImmOps, ∀ (s : State) (c : BitVec 8) (rd rs1 : BitVec 5) (hi : BitVec 8) (sh : BitVec 6),
    exec (e.1 c rd rs1 hi sh) s = .next (s.immOp c rd rs1 (hi ≠ 0) (e.2 · sh)) := by
  unfold shiftImmOps
  iterate 2 refine List.forall_mem_cons.mpr ⟨fun _ _ _ _ _ _ => rfl, ?_⟩
  exact List.forall_mem_singleton.mpr fun _ _ _ _ _ _ => rfl

/-! ### What the shared operations leave -/

theorem regOp_writes (h : s.ready c.toNat (useG [rs1.toNat, rs2.toNat] [rd.toNat])) (f : DWord → DWord → DWord) :
    gWritten s (s.regOp c rd rs1 rs2 f) c.toNat rd.toNat (f ((s.core c.toNat).gr rs1.toNat) ((s.core c.toNat).gr rs2.toNat)) := by
  rw [State.regOp, State.runInsn_ready h]
  exact s.retireG_spec _ _ _

theorem regOp1_writes (h : s.ready c.toNat (useG [rs1.toNat] [rd.toNat])) (f : DWord → DWord) :
    gWritten s (s.regOp1 c rd rs1 0 f) c.toNat rd.toNat (f ((s.core c.toNat).gr rs1.toNat)) := by
  rw [State.regOp1, illegalIf, if_neg (by decide), State.runInsn_ready h]
  exact s.retireG_spec _ _ _

theorem immOp_writes (h : s.ready c.toNat (useG [rs1.toNat] [rd.toNat])) (f : DWord → DWord) :
    gWritten s (s.immOp c rd rs1 false f) c.toNat rd.toNat (f ((s.core c.toNat).gr rs1.toNat)) := by
  rw [State.immOp, illegalIf, if_neg (by decide), State.runInsn_ready h]
  exact s.retireG_spec _ _ _

end Sys2Proof.Machine
end

section
/-!
PROOFS. Integer operations (O7, O8).
-/

open Sys2Proof Sys2Proof.Machine

/-- Settles O7: every row of the table is the shared operation (`exec_intOps`), which writes rd alone (`regOp_writes`). -/
theorem scalarBinary : Obligations.ScalarBinary :=
  fun e he s c rd rs1 rs2 hready => ⟨_, exec_intOps e he s c rd rs1 rs2, regOp_writes hready e.2⟩

/-- Settles O8: as O7, with the fields that must be 0 at 0. -/
theorem scalarUnaryAndImmediate : Obligations.ScalarUnaryAndImmediate := by
  unfold Obligations.ScalarUnaryAndImmediate
  intro s c rd rs1 hready
  refine ⟨fun e he => ⟨_, exec_unaryOps e he s c rd rs1 0, regOp1_writes hready e.2⟩,
    fun e he imm => ⟨_, exec_immOps e he s c rd rs1 imm, immOp_writes hready (e.2 · imm)⟩,
    fun e he sh => ⟨_, exec_shiftImmOps e he s c rd rs1 0 sh, immOp_writes hready (e.2 · sh)⟩, fun hrs1 imm => ?_⟩
  subst hrs1
  exact ⟨_, rfl, immOp_writes hready fun _ => sext16 imm <<< 16⟩

end


section
/-!
SUPPORT. Branches, jumps and system instructions of a ready core (R88, R105, R108, R110).
-/

namespace Sys2Proof.Machine

variable {s t : State} {c : BitVec 8} {rd rs1 rs2 : BitVec 5}

theorem toNat_ne_zero {n : Nat} {r : BitVec n} : r.toNat ≠ 0 ↔ r ≠ 0 := by
  rw [ne_eq, ne_eq, ← BitVec.toNat_inj]
  rfl

/-! ### Branches and jumps -/

theorem not_slt_eq (a b : DWord) : (!a.slt b) = decide (b.toInt ≤ a.toInt) := by
  rw [BitVec.slt, ← decide_not]
  exact decide_eq_decide.mpr Int.not_lt

theorem not_ult_eq (a b : DWord) : (!a.ult b) = decide (b.toNat ≤ a.toNat) := by
  rw [BitVec.ult, ← decide_not]
  exact decide_eq_decide.mpr Nat.not_lt

theorem decide_ne_eq (a b : DWord) : decide (a ≠ b) = (a != b) := decide_not

theorem exec_branchOps : ∀ e ∈ branchOps, ∀ (s : State) (c : BitVec 8) (rs1 rs2 : BitVec 5) (off : BitVec 16),
    exec (e.1 c rs1 rs2 off) s = .next (s.branchOp c rs1 rs2 off e.2) := by
  unfold branchOps
  simp only [← not_slt_eq, ← not_ult_eq, ← decide_ne_eq]
  iterate 6 refine List.forall_mem_cons.mpr ⟨fun _ _ _ _ _ => rfl, ?_⟩
  exact List.forall_mem_nil _

theorem shiftLeft_two (off : BitVec 16) : off <<< 2 = 4 * off := by
  apply BitVec.eq_of_toNat_eq
  simp [Nat.shiftLeft_eq, Nat.mul_comm]

theorem branchOp_retires (h : s.ready c.toNat (useG [rs1.toNat, rs2.toNat] [])) (off : BitVec 16) (f : DWord → DWord → Bool) :
    retiredTo s (s.branchOp c rs1 rs2 off f) c.toNat
      (if f ((s.core c.toNat).gr rs1.toNat) ((s.core c.toNat).gr rs2.toNat) then (s.core c.toNat).pc + 4 * off
       else (s.core c.toNat).pc + 4) := by
  rw [State.branchOp, State.runInsn_ready h, brTarget, shiftLeft_two]
  exact s.retireTo_spec _ _

/-- A jump that writes its link: the pc of the jump, the link in a g register, nothing else of the machine. -/
theorem linkTo_leaves (s : State) (c rd : Nat) (pc : BitVec 16) :
    let t := (s.mapCore c (fun k => k.setG rd k.link)).retireTo c pc
    (t.core c).pc = pc ∧
      (∀ r, (t.core c).gr r = if r = rd ∧ rd ≠ 0 then ((s.core c).pc + 4).zeroExtend 64 else (s.core c).gr r) ∧ onlyCore s t c := by
  have hcore := State.core_retireTo (s.mapCore c (fun k => k.setG rd k.link)) c pc
  rw [State.core_mapCore] at hcore
  refine ⟨by rw [hcore], fun r => ?_, ((onlyCore.refl s c).mapCore _).retireTo _⟩
  rw [hcore]
  exact Core.gr_setG (s.core c) rd r _

end Sys2Proof.Machine
end

section
/-!
PROOFS. Branches and jumps (O11).
-/

open Sys2Proof Sys2Proof.Machine

/-- Settles O11: a branch retires to its target or past itself (`branchOp_retires`), JAL and JALR write their link before they
retire (`linkTo_leaves`), and JALR's misaligned target traps. -/
theorem branchesAndJumps : Obligations.BranchesAndJumps := by
  unfold Obligations.BranchesAndJumps
  refine ⟨fun e he s c rs1 rs2 off hready => ⟨_, exec_branchOps e he s c rs1 rs2 off, branchOp_retires hready off e.2⟩,
    fun s c off hready => ⟨_, rfl, ?j⟩, fun s c off hready => ⟨_, rfl, ?jal⟩,
    fun s c rd rs1 imm hready => ⟨fun hx => ⟨_, rfl, ?jalr⟩, fun hx hintrap => ⟨_, rfl, ?misaligned⟩⟩⟩
  case j =>
    rw [State.runInsn_ready hready, jmpTarget, shiftLeft_two]
    exact s.retireTo_spec _ _
  case jal =>
    rw [State.runInsn_ready hready, jmpTarget, shiftLeft_two]
    obtain ⟨hpc, hgr, honly⟩ := linkTo_leaves s c.toNat 31 ((s.core c.toNat).pc + 4 * off.truncate 16)
    exact ⟨hpc, fun r => (hgr r).trans (by simp), honly⟩
  case jalr =>
    have hx : (jalrTarget ((s.core c.toNat).gr rs1.toNat) imm).toNat % 4 = 0 := hx
    rw [if_pos hx, State.runInsn_ready hready]
    obtain ⟨hpc, hgr, honly⟩ := linkTo_leaves s c.toNat rd.toNat (jalrTarget ((s.core c.toNat).gr rs1.toNat) imm)
    exact ⟨hpc, fun r => (hgr r).trans (by simp only [toNat_ne_zero]), honly⟩
  case misaligned =>
    have hx : ¬ (jalrTarget ((s.core c.toNat).gr rs1.toNat) imm).toNat % 4 = 0 := hx
    rw [if_neg hx]
    exact State.runInsn_chk_trapped hready hintrap _ _ _ _ _

end


section
/-!
SUPPORT. Control registers, FENCE, BRK and TRET of a ready core (R88, R101, R108, R110, R113, R119).
-/

namespace Sys2Proof.Machine

variable {s : State} {k : Core} {c n m : Nat}

/-! ### Control registers -/

@[simp] theorem Core.setCr_g (k : Core) (n : Nat) (v : DWord) : (k.setCr n v).g = k.g := rfl

theorem Core.writeCr_g (k : Core) (n : Nat) (v : DWord) : (k.writeCr n v).g = k.g := by
  unfold Core.writeCr
  split
  · rfl
  · split <;> rfl

/-- A register with no rule of its own takes the written bits of its mask (R113). -/
theorem Core.writeCr_plain (hmode : n ≠ crVmode) (hcount : n ≠ crVcount) (v : DWord) :
    k.writeCr n v = k.setCr n ((k.crv n &&& ~~~ crMask n) ||| (v &&& crMask n)) := by
  rw [Core.writeCr, if_neg hmode, if_neg hcount]

/-- An MTCR leaves every other control register, but that one of VMODE cuts VCOUNT (R119). -/
theorem Core.crv_writeCr_ne (hne : m ≠ n) (hcut : m ≠ crVcount ∨ n ≠ crVmode) (v : DWord) :
    (k.writeCr n v).crv m = k.crv m := by
  by_cases hmode : n = crVmode
  · subst hmode
    have hcount : m ≠ crVcount := hcut.resolve_right (not_not_intro rfl)
    rw [Core.writeCr, if_pos rfl]
    exact (Core.crv_setCr_ne _ hcount _).trans (Core.crv_setCr_ne _ hne _)
  · by_cases hcount : n = crVcount
    · subst hcount
      rw [Core.writeCr, if_neg hmode, if_pos rfl]
      exact Core.crv_setCr_ne _ hne _
    · rw [Core.writeCr_plain hmode hcount]
      exact Core.crv_setCr_ne _ hne _

/-- With no fused operation in flight no control register is waited for. -/
theorem Core.crWaits_of_fres (h : k.fres = []) (n : Nat) : k.crWaits n = false := by simp [Core.crWaits, h]

/-! ### An instruction that changes its core and retires -/

theorem retireTo_mapCore (s : State) (c : Nat) (f : Core → Core) (pc : BitVec 16) :
    ((s.mapCore c f).retireTo c pc).core c = { f (s.core c) with
        pc := pc
        done := (f (s.core c)).done + 1 } ∧ onlyCore s ((s.mapCore c f).retireTo c pc) c := by
  refine ⟨?_, ((onlyCore.refl s c).mapCore f).retireTo pc⟩
  rw [State.core_retireTo, State.core_mapCore]

theorem Core.writeCr_pc (k : Core) (n : Nat) (v : DWord) : (k.writeCr n v).pc = k.pc := by
  unfold Core.writeCr
  split
  · rfl
  · split <;> rfl

/-! ### TSTAT after TRET (R108) -/

/-- MODE is PMODE, INTRAP is clear. -/
theorem tstat_tret (v : DWord) :
    let w : DWord := BitVec.ofNat 64 (v.toNat / 2 % 2 * 3)
    w.getLsbD 0 = v.getLsbD 1 ∧ w.getLsbD 2 = false := by
  have hbit : v.getLsbD 1 = decide (v.toNat / 2 % 2 = 1) := by
    rw [BitVec.getLsbD, Nat.testBit_eq_decide_div_mod_eq]
  rw [hbit]
  obtain h | h := Nat.mod_two_eq_zero_or_one (v.toNat / 2) <;> rw [h] <;> exact ⟨rfl, rfl⟩

theorem Core.tret_task (k : Core) : k.tret.task = (k.crv crTstat).getLsbD 1 := by
  rw [Core.task]
  exact (congrArg (BitVec.getLsbD · 0) (Core.crv_setCr k crTstat _)).trans (tstat_tret _).1

theorem Core.tret_intrap (k : Core) : (k.tret.crv crTstat).getLsbD 2 = false :=
  (congrArg (BitVec.getLsbD · 2) (Core.crv_setCr k crTstat _)).trans (tstat_tret _).2

theorem Core.crv_tret_ne (k : Core) (h : n ≠ crTstat) : k.tret.crv n = k.crv n := Core.crv_setCr_ne k h _

/-! ### The commands of a ready core -/

section
variable {c : BitVec 8} {rd rs1 : BitVec 5} {cr : BitVec 12}

theorem exec_mfcr_ready (h : s.ready c.toNat (useG [] [rd.toNat])) (htask : (s.core c.toNat).task = false)
    (halloc : crAllocated cr.toNat = true) (hfres : (s.core c.toNat).fres = []) :
    exec (.mfcr c rd 0 cr) s = .next (s.retireG c.toNat rd.toNat (s.readCr c.toNat cr.toNat)) := by
  change execMfcr c rd 0 cr s = _
  simp only [execMfcr, halloc, htask, Core.crWaits_of_fres hfres]
  exact congrArg _ (State.runInsn_ready h _ _ _)

theorem exec_mtcr_ready (h : s.ready c.toNat (useG [rs1.toNat] [])) (htask : (s.core c.toNat).task = false)
    (halloc : crAllocated cr.toNat = true) (hfres : (s.core c.toNat).fres = []) : exec (.mtcr c 0 rs1 cr) s =
      .next ((s.mapCore c.toNat (fun k => k.writeCr cr.toNat (k.gr rs1.toNat))).retire c.toNat) := by
  change execMtcr c 0 rs1 cr s = _
  simp only [execMtcr, halloc, htask, Core.crWaits_of_fres hfres]
  exact congrArg _ (State.runInsn_ready h _ _ _)

theorem exec_fence_ready (h : s.ready c.toNat (useG [] [])) (hwait : s.fenceWaits c.toNat = false) :
    exec (.fence c 0 0 0) s = .next ((s.dropPrefetch c.toNat).retire c.toNat) := by
  change execFence c 0 0 0 s = _
  simp only [execFence, hwait]
  exact congrArg _ (State.runInsn_ready h _ _ _)

theorem exec_brk_ready (h : s.ready c.toNat (useG [] [])) : exec (.brk c 0 0 0) s =
    .next (if ((s.core c.toNat).crv crCfg).getLsbD 3 then s.trapTo c.toNat ⟨0x18, 0, 0⟩ false ((s.core c.toNat).pc + 4)
      else (s.retire c.toNat).mapCore c.toNat (fun k => { k with run := .halted })) :=
  congrArg _ (State.runInsn_ready h _ _ _)

theorem exec_tret_ready (h : s.ready c.toNat (useG [] [])) (htask : (s.core c.toNat).task = false) :
    exec (.tret c 0 0 0) s =
      .next ((s.mapCore c.toNat Core.tret).retireTo c.toNat (((s.core c.toNat).crv crTpc).truncate 16)) := by
  change execTret c 0 0 0 s = _
  simp only [execTret, htask]
  exact congrArg _ (State.runInsn_ready h _ _ _)

end

end Sys2Proof.Machine
end

section
/-!
PROOFS. System instructions and TRET (O12).
-/

open Sys2Proof Sys2Proof.Machine

/-- Settles O12: each command of a ready core acts at once (`exec_mfcr_ready` and its like); MTCR by the rules of `Core.writeCr`,
BRK as a trap past itself or by halting, TRET by `tstat_tret`. -/
theorem systemAndReturn : Obligations.SystemAndReturn := by
  unfold Obligations.SystemAndReturn
  refine ⟨⟨fun s c rd cr hready htask halloc hfres => ⟨_, exec_mfcr_ready hready htask halloc hfres, s.retireG_spec _ _ _⟩,
    fun s c rs1 cr hready htask halloc hfres => ⟨_, exec_mtcr_ready hready htask halloc hfres, ?mtcr⟩,
    fun s c hready hwait => ⟨_, exec_fence_ready hready hwait, ?fence⟩,
    fun s c hready => ⟨fun hcfg => ⟨_, exec_brk_ready hready, ?halt⟩, fun hcfg hintrap => ⟨_, exec_brk_ready hready, ?debug⟩⟩⟩,
    fun s c hready htask => ⟨_, exec_tret_ready hready htask, ?tret⟩⟩
  case mtcr =>
    rw [State.retire, State.core_mapCore]
    obtain ⟨hcore, honly⟩ := retireTo_mapCore s c.toNat (fun k => k.writeCr cr.toNat (k.gr rs1.toNat)) _
    refine ⟨fun hmode hcount => ?_, fun n hne hcut => ?_, ?_, ?_, honly⟩ <;> rw [hcore]
    · rw [Core.writeCr_plain hmode hcount]
      exact Core.crv_setCr _ _ _
    · exact Core.crv_writeCr_ne hne hcut _
    · exact Core.writeCr_g _ _ _
    · rw [Core.writeCr_pc]
  case fence =>
    rw [State.retire, State.dropPrefetch, State.core_mapCore]
    obtain ⟨hcore, honly⟩ := retireTo_mapCore s c.toNat (fun k => { k with pf := [] }) ((s.core c.toNat).pc + 4)
    exact ⟨by rw [hcore], by rw [hcore], by rw [hcore], honly⟩
  case halt =>
    rw [hcfg, if_neg Bool.false_ne_true]
    refine ⟨?_, ?_, ?_, (onlyCore.refl s c.toNat).retire.mapCore _⟩ <;> rw [State.core_mapCore]
    · rw [State.retire, State.core_retireTo]
    · rw [State.retire, State.core_retireTo]
  case debug =>
    rw [hcfg, if_pos rfl]
    exact s.trapTo_trapped hintrap _ _
  case tret =>
    obtain ⟨hcore, honly⟩ := retireTo_mapCore s c.toNat Core.tret (((s.core c.toNat).crv crTpc).truncate 16)
    refine ⟨?_, ?_, ?_, fun n hn => ?_, ?_, honly⟩ <;> rw [hcore]
    · exact (s.core c.toNat).tret_task
    · exact (s.core c.toNat).tret_intrap
    · exact (s.core c.toNat).crv_tret_ne hn
    · rfl

end


section
/-!
SUPPORT. What turns an instruction away: the address checks of a scalar access, illegal vector instructions, the refusals of a
fused unit, and a trap inside a handler (R86, R89, R105, R109, R123, R143).
-/

namespace Sys2Proof.Machine

variable {s : State} {c : Nat} {ea : DWord} {size : Nat} {open_ : Bool}

/-! ### Scalar loads -/

theorem exec_loadOps : ∀ e ∈ loadOps, ∀ (s : State) (c : BitVec 8) (rt base : BitVec 5) (off : BitVec 16),
    exec (e.1 c rt base off) s = .next (s.loadOp c rt base off e.2.1 e.2.2) := by
  unfold loadOps
  iterate 6 refine List.forall_mem_cons.mpr ⟨fun _ _ _ _ _ => rfl, ?_⟩
  exact List.forall_mem_singleton.mpr fun _ _ _ _ _ => rfl

/-- In task mode register space is refused, but for open counters (R105). -/
theorem State.checkEa_priv (htask : (s.core c).task = true) (hreg : inRegSpace ea = true) :
    s.checkEa c ea size false = some (trapPriv ea.toNat) := by
  simp [State.checkEa, htask, hreg]

/-- An address beyond 40 bits lies in no register space (R89). -/
theorem State.checkEa_range (h : 2 ^ 40 ≤ ea.toNat) : s.checkEa c ea size open_ = some (trapMem 0x12 (ea.toNat % 2 ^ 40)) := by
  have hreg : inRegSpace ea = false := decide_eq_false (by omega)
  rw [State.checkEa, hreg, Bool.and_false, Bool.false_and, if_neg Bool.false_ne_true, if_pos h]

theorem State.checkEa_align (hrange : ea.toNat < 2 ^ 40) (halign : ea.toNat % size ≠ 0)
    (hpriv : inRegSpace ea = false ∨ (s.core c).task = false) :
    s.checkEa c ea size open_ = some (trapMem 0x10 ea.toNat) := by
  have hkernel : ((s.core c).task && inRegSpace ea && !open_) = false := by
    obtain h | h := hpriv <;> simp [h]
  rw [State.checkEa, hkernel, if_neg Bool.false_ne_true, if_neg (Nat.not_le.mpr hrange), if_pos halign]

/-! ### An instruction that needs no operand to be turned away -/

/-- It traps whatever registers are in flight, once it is the oldest (R106, R107). -/
theorem State.runInsn_bad_of_oldest (hrun : s.coreRuns c = true) (hra : (s.core c).ra = none) (hdef : (s.core c).deferred = [])
    (hfetch : s.fetchBad c = false) (hold : s.awaits c = false) (u : Use) (kind : RaKind) (x : Trap) (chk : Option Trap)
    (wait oldest : Bool) (act : State) : s.runInsn c u kind (some x) chk wait oldest act = s.trap c x := by
  simp [State.runInsn, State.trapWhenOldest, hrun, hra, hdef, hfetch, hold]

theorem illegalIf_of (h : b = true) : illegalIf b = some trapIllegal := if_pos h

theorem crTrap_task : crTrap false true false = some (trapPriv 0) := rfl

/-- The refusals of a fused unit in their order (R143). -/
theorem fuBad_refused {unit : Nat} {mode : Bool}
    (h : (mapGet s.imgDis 0 c).getLsbD unit = true ∨ ((s.core c).fuDis).testBit unit = true ∨ mode = true) :
    s.fuBad c unit false mode = some (trapFused
      (if (mapGet s.imgDis 0 c).getLsbD unit then 1 else if ((s.core c).fuDis).testBit unit then 2 else 3)) := by
  rw [State.fuBad, if_neg Bool.false_ne_true]
  split
  · rfl
  · split
    · rfl
    · rw [if_pos ((h.resolve_left ‹_›).resolve_left ‹_›)]

/-! ### The double trap (R109) -/

theorem State.report_reports (h : s.reports.length < 64) (r : Report) :
    (s.report r).reports = s.reports ++ [{ r with stamp := s.now }] := by
  rw [State.report, if_pos h]
  rfl

theorem State.report_cores (s : State) (r : Report) : (s.report r).cores = s.cores := by
  unfold State.report
  split <;> rfl

/-- Inside a handler a trap stops the core and reports. -/
theorem State.trapTo_double (h : ((s.core c).crv crTstat).getLsbD 2 = true) (hroom : s.reports.length < 64) (x : Trap)
    (restart : BitVec 16) :
    (s.trapTo c x false restart).core c = { s.core c with run := .stopped } ∧
      (s.trapTo c x false restart).reports = s.reports ++ [{ mkReport 1 c 0x01 2 with
        stamp := s.now
        sub := x.sub
        data1 := (BitVec.ofNat 64 (x.code + x.sub * 256)).toNat }] := by
  rw [State.trapTo, if_pos h]
  refine ⟨(State.core_congr (State.report_cores _ _) c).trans (s.core_setCore c _), ?_⟩
  exact State.report_reports (s := (s.setCore c _).count _ _) hroom _

end Sys2Proof.Machine
end

section
/-!
PROOFS. Refusals and the double trap (O14).
-/

open Sys2Proof Sys2Proof.Machine

/-- Settles O14: what turns the instruction away is computed from its fields (`illegalIf`), its mode (`crTrap`), its address
(`State.checkEa`) or its unit (`fuBad_refused`), and the instruction of a core with nothing older traps at itself. -/
theorem instructionRefusals : Obligations.InstructionRefusals := by
  unfold Obligations.InstructionRefusals
  refine ⟨fun s c rt base off hready hintrap e he => ?loads, fun s c rd rs1 hready hintrap => ?illegal,
    fun s c hready htask hintrap => ?kernel, fun s c sc vd vs1 vs2 men m hrun hra hdef hfetch hold hintrap hbad => ⟨_, rfl, ?vector⟩,
    fun s c s1 p hready hintrap hp hrefused => ⟨_, rfl, ?fused⟩,
    fun s c rd rs1 rs2 hready hrs2 hintrap hroom => ⟨_, exec_unaryOps _ (List.mem_cons_self ..) s c rd rs1 rs2, ?double⟩⟩
  case loads =>
    have htraps : ∀ x, s.checkEa c.toNat ((s.core c.toNat).ea base.toNat off) e.2.1
          (s.counterOpen ((s.core c.toNat).ea base.toNat off)) = some x →
        ∃ t, exec (e.1 c rt base off) s = .next t ∧ trapped s t c.toNat x (s.core c.toNat).pc := by
      intro x hx
      refine ⟨_, exec_loadOps e he s c rt base off, ?_⟩
      rw [State.loadOp, hx]
      exact State.runInsn_chk_trapped hready hintrap _ _ _ _ _
    exact ⟨fun htask hreg hopen => htraps _ (hopen ▸ State.checkEa_priv htask hreg), fun h => htraps _ (State.checkEa_range h),
      fun hrange halign hpriv => htraps _ (State.checkEa_align hrange halign hpriv)⟩
  case illegal =>
    refine ⟨fun e he rs2 hrs2 => ⟨_, exec_unaryOps e he s c rd rs1 rs2, ?_⟩,
      fun e he hi sh hhi => ⟨_, exec_shiftImmOps e he s c rd rs1 hi sh, ?_⟩, fun hrs1 imm => ⟨_, rfl, ?_⟩⟩
    · rw [State.regOp1, illegalIf_of (decide_eq_true hrs2)]
      exact State.runInsn_bad_trapped hready hintrap _ _ _ _ _ _
    · rw [State.immOp, illegalIf_of (decide_eq_true hhi)]
      exact State.runInsn_bad_trapped hready hintrap _ _ _ _ _ _
    · rw [State.immOp, illegalIf_of (decide_eq_true hrs1)]
      exact State.runInsn_bad_trapped hready hintrap _ _ _ _ _ _
  case kernel =>
    refine ⟨⟨_, rfl, ?_⟩, fun cr halloc hid hvector => ⟨_, rfl, ?_⟩⟩
    · rw [htask]
      exact State.runInsn_bad_trapped hready hintrap _ _ _ _ _ _
    · rw [htask, halloc, hvector, decide_eq_false hid]
      exact State.runInsn_bad_trapped hready hintrap _ _ _ _ _ _
  case vector =>
    rw [State.vBin, State.vInsn, illegalIf_of (by
      obtain h | h | h := hbad <;> simp [Core.vBad, unaligned, h]),
      State.runInsn_bad_of_oldest hrun hra hdef hfetch hold]
    exact s.trap_trapped hintrap _
  case fused =>
    have hparam : (decide (8 ≤ p.toNat) || decide ((0 : BitVec 5) ≠ 0) || decide ((0 : BitVec 5) ≠ 0)) = false := by simpa using hp
    rw [State.lfsr, hparam, fuBad_refused (hrefused.imp_right (Or.imp_right fun h => by
      rw [Nat.mod_eq_of_lt hp]
      exact decide_eq_true h))]
    exact State.runInsn_bad_trapped hready hintrap _ _ _ _ _ _
  case double =>
    rw [State.regOp1, illegalIf_of (decide_eq_true hrs2), State.runInsn_bad hready]
    obtain ⟨hcore, hreports⟩ := s.trapTo_double hintrap hroom trapIllegal (s.core c.toNat).pc
    exact ⟨congrArg Core.run hcore, by rw [State.trap, hcore], hreports⟩

end


section
/-!
SUPPORT. The answer to a prefetch (R97, R99, R269).
-/

namespace Sys2Proof.Machine

variable {s : State} {p : Packet} {r : Req}

theorem responseArrives_badParity (h : pktParityOk p = false) (s : State) : s.responseArrives p = s.dropParity p := by
  rw [State.responseArrives, h, Bool.not_false, if_pos rfl]

theorem dropParity_outst (s : State) (p : Packet) : (s.dropParity p).outst = s.outst := by
  rw [State.dropParity, State.fresh_outst, State.setReg_outst, State.count_outst, State.flagRep_outst, State.arrive_outst]

theorem exec_prefetchReturn (hmatch : s.matchReq p = some r) (hkind : r.kind = .prefetch) :
    exec (.prefetchReturn p) s = .next (s.responseArrives { p with op := 4 }) := by
  change execPrefetchReturn p s = _
  rw [execPrefetchReturn, hmatch]
  exact congrArg _ (if_pos hkind)

/-- An outstanding prefetch of core 0. -/
def prefetchReq : Req := ⟨0, 0, 0, 0, 0, 64, .prefetch⟩

/-- Its answer, whose header fails parity on the way. -/
def badAnswer : Packet := { Packet.zero with hperr := 1 }

theorem pktParityOk_of_hperr (h : p.hperr ≠ 0) : pktParityOk p = false := by
  have hbad : p.hparGot ≠ p.hpar := fun heq => h (by simpa [Packet.hparGot] using heq)
  rw [pktParityOk, decide_eq_false hbad, Bool.false_and]

end Sys2Proof.Machine
end

section
/-!
PROOFS. The prefetch buffer (O15).
-/

open Sys2Proof Sys2Proof.Machine

/-- Refutes O15: an answer to an outstanding prefetch whose header fails its parity is dropped at a router (R269), and the prefetch
stays outstanding. -/
theorem not_prefetchBuffer : ¬ Obligations.PrefetchBuffer := by
  unfold Obligations.PrefetchBuffer
  intro ⟨hreturn, _⟩
  obtain ⟨t, ht, houtst, -⟩ := hreturn { State.reset with outst := [prefetchReq] } badAnswer prefetchReq rfl rfl
  rw [exec_prefetchReturn rfl rfl, responseArrives_badParity (pktParityOk_of_hperr (by decide))] at ht
  cases ht
  rw [dropParity_outst] at houtst
  exact absurd houtst (List.cons_ne_nil _ _)

end


section
/-!
SUPPORT. What a core's request leaves: it is outstanding, and one packet is new in flight (R88, R266, R276).
-/

namespace Sys2Proof.Machine

variable {s t u : State} {p : Packet} {c op a n : Nat} {fn : BitVec 3} {data : List Byte} {kind : ReqKind}

/-! ### Packets at injection (R266) -/

/-- The source NI gives a packet its stamp, channel, route and way, and names its stop; it leaves the rest. -/
theorem inject_frame (s : State) (p : Packet) : s.inject p = { p with
    stamp := (s.inject p).stamp
    vc := (s.inject p).vc
    route := (s.inject p).route
    way := (s.inject p).way
    src := BitVec.ofNat 8 (pktFrom p) } := by
  unfold State.inject
  extract_lets
  split <;> rfl

/-- A request comes from its initiator's stop. -/
theorem pktFrom_request (h : p.op.toNat ≤ 3) : pktFrom p = nodeOfInit p.init.toNat := by
  have hcases : p.op.toNat = 0 ∨ p.op.toNat = 1 ∨ p.op.toNat = 2 ∨ p.op.toNat = 3 := by omega
  obtain hop | hop | hop | hop := hcases <;> simp [pktFrom, pktIsRsp, hop]

theorem pktFrom_answer (h : p.op = 4 ∨ p.op = 5) : pktFrom p = p.src.toNat := by
  obtain hop | hop := h <;> simp [pktFrom, pktIsRsp, hop]

theorem pktFrom_txn (p : Packet) (x : BitVec 12) : pktFrom { p with txn := x } = pktFrom p := rfl

theorem nodeOfInit_core (h : c < 256) : nodeOfInit c = nodeDruse (c / 8) := if_pos h

/-! ### Requests -/

theorem requestSent.congr (h : requestSent s t c op a n fn data kind) (houtst : u.outst = t.outst) (hflight : u.flight = t.flight) :
    requestSent s u c op a n fn data kind := by
  rwa [requestSent, houtst, hflight]

/-- The packet of a core's request. -/
def requestPacket (c op a n : Nat) (fn : BitVec 3) (data : List Byte) : Packet :=
  { Packet.zero with
    op := BitVec.ofNat 4 op
    dst := BitVec.ofNat 8 ((nodeOfAddr a).getD 0)
    init := BitVec.ofNat 12 c
    addr := BitVec.ofNat 40 a
    len := BitVec.ofNat 8 (n - 1)
    atomfn := fn
    data := data }

/-- The answer of a core's own NI to a request that it cannot send (R276). -/
def State.noTargetPacket (s : State) (c op : Nat) : Packet :=
  { Packet.zero with
    op := if op = 1 || op = 2 then 5 else 4
    dst := BitVec.ofNat 8 (nodeOfInit c)
    init := BitVec.ofNat 12 c
    resp := BitVec.ofNat 3 rNoTarget
    echo := s.now.truncate 24
    src := BitVec.ofNat 8 (nodeOfInit c)
    vc := 2 }

/-- A request before it has its transaction ID and its stamp. -/
def newReq (c op a n : Nat) (kind : ReqKind) : Req := ⟨BitVec.ofNat 12 c, 0, 0, BitVec.ofNat 4 op, BitVec.ofNat 40 a, n, kind⟩

/-- Whether the address has a stop and a valid route leads there. -/
def State.sendable (s : State) (c a : Nat) : Bool :=
  match nodeOfAddr a with
  | some d => (s.route (nodeOfInit c) d).getLsbD 0
  | none => false

theorem sendable_iff : s.sendable c a = true ↔ ∃ d, nodeOfAddr a = some d ∧ (s.route (nodeOfInit c) d).getLsbD 0 = true := by
  unfold State.sendable
  split
  next d hd => simp [hd]
  next hd => simp [hd]

theorem State.launch_of_ids {r : Req} (h : s.idsFree r.init.toNat 1 = true) (p : Packet) : s.launch r p = s.launchNow r p :=
  if_pos h

theorem request_eq (hids : s.idsFree (BitVec.ofNat 12 c).toNat 1 = true) : s.request c op a n fn false data 0 kind =
    if s.sendable c a then s.launchNow (newReq c op a n kind) (requestPacket c op a n fn data)
    else (s.count 726 1).launchNow (newReq c op a n kind) (s.noTargetPacket c op) := by
  rw [← State.launch_of_ids (r := newReq c op a n kind) hids,
    ← State.launch_of_ids (s := s.count 726 1) (r := newReq c op a n kind) hids]
  rfl

theorem launchNow_frame (s : State) (r : Req) (p : Packet) : s.launchNow r p = { s with
    outst := (s.launchNow r p).outst
    flight := (s.launchNow r p).flight } := rfl

theorem launchNow_outst (s : State) (r : Req) (p : Packet) : (s.launchNow r p).outst = s.outst ++ [{ r with
    txn := s.freeTxn r.init.toNat
    echo := s.now.truncate 24 }] := rfl

/-- One packet is new, and it says what was to be sent, under the request's transaction ID. -/
theorem launchNow_flight (s : State) (r : Req) (p : Packet) : ∃ x, (s.launchNow r p).flight = s.flight ++ [x] ∧ x = { p with
    txn := s.freeTxn r.init.toNat
    stamp := x.stamp
    vc := x.vc
    route := x.route
    way := x.way
    src := BitVec.ofNat 8 (pktFrom p) } := by
  refine ⟨State.inject { s with outst := (s.launchNow r p).outst } { p with txn := s.freeTxn r.init.toNat }, rfl, ?_⟩
  rw [← pktFrom_txn p (s.freeTxn r.init.toNat)]
  exact inject_frame _ _

theorem request_frame (hids : s.idsFree (BitVec.ofNat 12 c).toNat 1 = true) :
    s.request c op a n fn false data 0 kind = { s with
      perf := (s.request c op a n fn false data 0 kind).perf
      outst := (s.request c op a n fn false data 0 kind).outst
      flight := (s.request c op a n fn false data 0 kind).flight } := by
  rw [request_eq hids]
  split <;> rfl

theorem request_sends (hc : c < 256) (hids : s.idsFree c 1 = true) (hop : op ∈ [0, 1, 3]) :
    requestSent s (s.request c op a n fn false data 0 kind) c op a n fn data kind := by
  have hinit : (BitVec.ofNat 12 c).toNat = c := by
    rw [BitVec.toNat_ofNat]
    omega
  have hnode := nodeOfInit_core hc
  have hcode : (BitVec.ofNat 4 op).toNat ≤ 3 := (by decide : ∀ op ∈ [0, 1, 3], (BitVec.ofNat 4 op).toNat ≤ 3) op hop
  rw [request_eq (by rwa [hinit])]
  split
  next hsend =>
    obtain ⟨x, hflight, hx⟩ := launchNow_flight s (newReq c op a n kind) (requestPacket c op a n fn data)
    rw [pktFrom_request hcode] at hx
    refine ⟨?_, x, hflight, ?_, ?_, ?_, fun d hd _ => ?_, fun hno => ?_⟩
    · rw [launchNow_outst, newReq, hinit]
    · rw [hx]
      rfl
    · rw [hx, newReq, hinit]
    · rw [hx, ← hnode, requestPacket, hinit]
    · rw [hx, requestPacket, hd]
      exact ⟨rfl, rfl, rfl, rfl, rfl, rfl, rfl, rfl⟩
    · obtain ⟨d, hd, hroute⟩ := sendable_iff.mp hsend
      rw [hnode, hno d hd] at hroute
      cases hroute
  next hsend =>
    obtain ⟨x, hflight, hx⟩ := launchNow_flight (s.count 726 1) (newReq c op a n kind) (s.noTargetPacket c op)
    have hanswer : (s.noTargetPacket c op).op = 4 ∨ (s.noTargetPacket c op).op = 5 := by
      unfold State.noTargetPacket
      split
      · exact .inr rfl
      · exact .inl rfl
    rw [pktFrom_answer hanswer] at hx
    refine ⟨?_, x, hflight, ?_, ?_, ?_, fun d hd hroute => ?_, fun _ => ?_⟩
    · rw [launchNow_outst, newReq, hinit]
      rfl
    · rw [hx]
      rfl
    · rw [hx, newReq, hinit]
      rfl
    · rw [hx, ← hnode]
      exact BitVec.ofNat_toNat ..
    · exact absurd (sendable_iff.mpr ⟨d, hd, hnode ▸ hroute⟩) hsend
    · rw [hx, ← hnode]
      refine ⟨?_, rfl, rfl⟩
      have hop2 : op ≠ 2 := by rintro rfl; exact absurd hop (by decide)
      simp [State.noTargetPacket, hop2]

end Sys2Proof.Machine
end


section
/-!
SUPPORT. Loads, stores and atomics of a ready core (R88, R89, R100 to R103, R284).
-/

namespace Sys2Proof.Machine

variable {s t u : State} {c op a n x : Nat} {fn : BitVec 3} {data l : List Byte} {kind : ReqKind} {ea : DWord} {size : Nat} {open_ : Bool}

/-! ### Parity after a store of bytes (R284) -/

theorem mem_badPar_writeBytes (l : List Byte) : ∀ (s : State) (a : Nat) {x : Nat},
    x ∈ (s.writeBytes a l).badPar ↔ x ∈ s.badPar ∧ (x < a ∨ a + l.length ≤ x) := by
  induction l with
  | nil =>
    intro s a x
    exact (and_iff_left (by simp only [List.length_nil]; omega)).symm
  | cons b l ih =>
    intro s a x
    rw [State.writeBytes, ih, State.writeByte, setErase, List.mem_filter, decide_eq_true_eq, List.length_cons, and_assoc]
    refine and_congr_right fun _ => ?_
    omega

theorem State.badAt_writeBytes_out (s : State) (h : x < a ∨ a + l.length ≤ x) : (s.writeBytes a l).badAt x = s.badAt x := by
  have hpar : (s.writeBytes a l).badPar.contains x = s.badPar.contains x := by
    simp [mem_badPar_writeBytes, h]
  rw [State.badAt, State.find_writeBytes_out l s a x h, hpar, State.writeBytes_freeCtr, State.badAt]

theorem State.badAt_writeBytes_in (s : State) {i : Nat} (h : i < l.length) : (s.writeBytes a l).badAt (a + i) = false := by
  have hpar : (s.writeBytes a l).badPar.contains (a + i) = false := by
    rw [← Bool.not_eq_true, List.contains_iff_mem, mem_badPar_writeBytes]
    omega
  rw [State.badAt, State.find_writeBytes_in l s a i h, hpar]
  rfl

theorem State.badIn_eq_nil (h : ∀ i < n, s.badAt (a + i) = false) : s.badIn a n = [] := by
  rw [State.badIn, List.filter_eq_nil_iff]
  intro x hx
  obtain ⟨i, hi, rfl⟩ := List.mem_map.mp hx
  rw [h i (List.mem_range.mp hi)]
  exact Bool.false_ne_true

theorem State.badIn_writeBytes (s : State) (a : Nat) (l : List Byte) : (s.writeBytes a l).badIn a l.length = [] :=
  State.badIn_eq_nil fun _ hi => s.badAt_writeBytes_in hi

/-- A read of good bytes leaves no note (R285). -/
theorem State.readNote_good (h : s.badIn a n = []) (init : Nat) (spec : Bool) : s.readNote init a n spec = s := by
  rw [State.readNote, h]
  exact ite_self _

/-! ### Addresses -/

theorem State.checkEa_none (hrange : ea.toNat < 2 ^ 40) (halign : ea.toNat % size = 0)
    (hpriv : (s.core c).task = true → inRegSpace ea = false ∨ open_ = true) : s.checkEa c ea size open_ = none := by
  have hkernel : ((s.core c).task && inRegSpace ea && !open_) = false := by
    cases htask : (s.core c).task
    · rfl
    · obtain h | h := hpriv htask <;> simp [h]
  rw [State.checkEa, hkernel, if_neg Bool.false_ne_true, if_neg (Nat.not_le.mpr hrange), if_neg (not_not_intro halign)]

theorem ownData_bounds (hc : c < 256) (h : ownData c a = true) : 0x10000000 ≤ a ∧ a < 2 ^ 40 := by
  rw [ownData, Bool.and_eq_true, decide_eq_true_eq, decide_eq_true_eq, coreWin] at h
  omega

theorem inRegSpace_false (h : 0x10000000 ≤ ea.toNat) : inRegSpace ea = false := decide_eq_false (by omega)

theorem State.checkEa_own (hc : c < 256) (hown : ownData c ea.toNat = true) (halign : ea.toNat % size = 0) :
    s.checkEa c ea size open_ = none := by
  obtain ⟨hlo, hhi⟩ := ownData_bounds hc hown
  exact State.checkEa_none hhi halign fun _ => .inl (inRegSpace_false hlo)

theorem State.checkEa_eaOk (h : eaOk s c ea size) : s.checkEa c ea size open_ = none :=
  State.checkEa_none h.1 h.2.1 fun htask => .inl (h.2.2 htask)

theorem State.checkEa_counter (hopen : s.counterOpen ea = true) (halign : ea.toNat % size = 0) :
    s.checkEa c ea size (s.counterOpen ea) = none := by
  refine State.checkEa_none ?_ halign fun _ => .inr hopen
  simp only [State.counterOpen, Bool.and_eq_true, decide_eq_true_eq] at hopen
  omega

theorem tgtOf_beyond (h : 2 ^ 40 ≤ a) : tgtOf a = .nowhere := by
  have hlt (n : Nat) (hn : n ≤ 2 ^ 40) : ¬ a < n := by omega
  simp [tgtOf, hlt]

theorem atomicTarget_bounds (h : atomicTarget a = true) : 0x10000000 ≤ a ∧ a < 2 ^ 40 := by
  constructor
  · by_contra hlo
    rw [atomicTarget, tgtOf, if_pos (Nat.not_le.mp hlo)] at h
    cases h
  · by_contra hhi
    rw [atomicTarget, tgtOf_beyond (Nat.not_lt.mp hhi)] at h
    cases h

/-! ### Requests of an instruction -/

theorem freeTxn_congr (houtst : t.outst = s.outst) (hres : t.resIds = s.resIds) (c : Nat) : t.freeTxn c = s.freeTxn c := by
  rw [State.freeTxn, houtst, hres, State.freeTxn]

theorem idsFree_congr (houtst : t.outst = s.outst) (hres : t.resIds = s.resIds) (c n : Nat) : t.idsFree c n = s.idsFree c n := by
  rw [State.idsFree, houtst, hres, State.idsFree]

theorem requestSent.base (h : requestSent u t c op a n fn data kind) (houtst : u.outst = s.outst) (hflight : u.flight = s.flight)
    (hres : u.resIds = s.resIds) (hregs : u.regs = s.regs) (hroutes : u.routes = s.routes) :
    requestSent s t c op a n fn data kind := by
  have hroute : u.route = s.route := by
    unfold State.route
    rw [hroutes]
  rwa [requestSent, houtst, hflight, freeTxn_congr houtst hres, State.now, State.reg, hregs, hroute] at h

/-- What an instruction that sends a request may change beside its core (R100). -/
def sendFrame (s t : State) : Prop :=
  t = { s with
    cores := t.cores
    perf := t.perf
    snaps := t.snaps
    outst := t.outst
    flight := t.flight }

theorem sendFrame.retireTo (h : sendFrame s t) (c : Nat) (pc : BitVec 16) : sendFrame s (t.retireTo c pc) := by
  unfold sendFrame at h ⊢
  rw [h]
  rfl

theorem sendFrame.tallied (h : sendFrame s t) (c o n : Nat) : sendFrame s (t.tallied c o n) := by
  unfold sendFrame at h ⊢
  rw [h]
  rfl

/-- An instruction that changes its core and the snapshots, sends a request and retires. -/
theorem issue_sends (hc : c < 256) (hids : s.idsFree c 1 = true) (hop : op ∈ [0, 1, 3]) (snaps : List Snap) {k : Core}
    (hpc : k.pc = (s.core c).pc) (hg : k.g = (s.core c).g) (hv : k.v = (s.core c).v) (hm : k.m = (s.core c).m)
    (hcr : k.cr = (s.core c).cr) :
    let t := ((State.setCore { s with snaps := snaps } c k).request c op a n fn false data 0 kind).retire c
    sentOnly s t c ∧ requestSent s t c op a n fn data kind ∧ (t.core c).pend = k.pend := by
  obtain ⟨u, hu⟩ : ∃ u, u = State.setCore { s with snaps := snaps } c k := ⟨_, rfl⟩
  have hsame : sendFrame s u ∧ u.outst = s.outst ∧ u.flight = s.flight ∧ u.resIds = s.resIds ∧ u.regs = s.regs ∧
      u.routes = s.routes := hu ▸ ⟨rfl, rfl, rfl, rfl, rfl, rfl⟩
  obtain ⟨hframe, houtst, hflight, hres, hregs, hroutes⟩ := hsame
  have huc : u.core c = k := hu ▸ State.core_setCore _ _ _
  have hud : ∀ d, d ≠ c → u.core d = s.core d := fun d hd => hu ▸ State.core_setCore_ne _ _ hd
  rw [← hu]
  have hidsu : u.idsFree c 1 = true := (idsFree_congr houtst hres c 1).trans hids
  obtain ⟨w, hw⟩ : ∃ w, w = u.request c op a n fn false data 0 kind := ⟨_, rfl⟩
  have hsent : requestSent u w c op a n fn data kind := hw ▸ request_sends hc hidsu hop
  have hinit : (BitVec.ofNat 12 c).toNat = c := by
    rw [BitVec.toNat_ofNat]
    omega
  have hwframe : w = { u with
      perf := w.perf
      outst := w.outst
      flight := w.flight } := hw ▸ request_frame (hinit.symm ▸ hidsu)
  have hcores : w.cores = u.cores := by rw [hwframe]
  rw [← hw]
  have hcore : (w.retire c).core c = { k with
      pc := k.pc + 4
      done := k.done + 1 } := by
    rw [State.retire, State.core_retireTo, State.core_congr hcores, huc]
  refine ⟨⟨?_, ?_, ?_, ?_, ?_, fun d hd => ?_, ?_⟩, ?_, ?_⟩
  · rw [hcore, ← hpc]
  · rw [hcore, ← hg]
  · rw [hcore, ← hv]
  · rw [hcore, ← hm]
  · rw [hcore, ← hcr]
  · rw [State.retire, State.core_retireTo_ne _ _ hd, State.core_congr hcores, hud d hd]
  · refine sendFrame.retireTo ?_ c _
    unfold sendFrame at hframe ⊢
    rw [hwframe, hframe]
  · exact (hsent.base houtst hflight hres hregs hroutes).congr rfl rfl
  · rw [hcore]

theorem State.core_tallied (s : State) (c o n : Nat) : (s.tallied c o n).core c = { s.core c with
    tally := mapSet (s.core c).tally 0 o (mapGet (s.core c).tally 0 o + n) } := State.core_mapCore _ _ _

theorem State.core_tallied_ne (s : State) {c d : Nat} (o n : Nat) (h : d ≠ c) : (s.tallied c o n).core d = s.core d :=
  State.core_setCore_ne _ _ h

theorem sentOnly.tallied (h : sentOnly s t c) (o n : Nat) : sentOnly s (t.tallied c o n) c := by
  obtain ⟨hpc, hg, hv, hm, hcr, hothers, hframe⟩ := h
  refine ⟨?_, ?_, ?_, ?_, ?_, fun d hd => ?_, sendFrame.tallied hframe c o n⟩
  · rwa [State.core_tallied]
  · rwa [State.core_tallied]
  · rwa [State.core_tallied]
  · rwa [State.core_tallied]
  · rwa [State.core_tallied]
  · rw [State.core_tallied_ne _ _ _ hd, hothers d hd]

theorem requestSent.tallied (h : requestSent s t c op a n fn data kind) (d o m : Nat) :
    requestSent s (t.tallied d o m) c op a n fn data kind := h.congr rfl rfl

/-! ### The instructions -/

section
variable {c : BitVec 8} {rt base rd rs1 rs2 : BitVec 5} {off : BitVec 16} {signed : Bool}

theorem exec_storeOps : ∀ e ∈ storeOps, ∀ (s : State) (c : BitVec 8) (rt base : BitVec 5) (off : BitVec 16),
    exec (e.1 c rt base off) s = .next (s.storeOp c rt base off e.2) := by
  unfold storeOps
  iterate 3 refine List.forall_mem_cons.mpr ⟨fun _ _ _ _ _ => rfl, ?_⟩
  exact List.forall_mem_singleton.mpr fun _ _ _ _ _ => rfl

theorem exec_atomOps : ∀ e ∈ atomOps.zip (List.range 5), ∀ (s : State) (c : BitVec 8) (rd rs1 rs2 : BitVec 5),
    exec (e.1.1 c rd rs1 rs2) s = .next (s.atomicOp c rd rs1 rs2 e.2) := by
  unfold atomOps
  iterate 4 refine List.forall_mem_cons.mpr ⟨fun _ _ _ _ _ => rfl, ?_⟩
  exact List.forall_mem_singleton.mpr fun _ _ _ _ _ => rfl

theorem atomWord_atomOps : ∀ e ∈ atomOps.zip (List.range 5), ∀ old v : DWord, atomWord e.2 old v = e.1.2 old v := by
  unfold atomOps
  iterate 4 refine List.forall_mem_cons.mpr ⟨fun _ _ => rfl, ?_⟩
  exact List.forall_mem_singleton.mpr fun _ _ => rfl

theorem Core.await_frame (k : Core) (r : Nat) (t : BitVec 12) : k.await r t = { k with pend := (k.await r t).pend } := by
  unfold Core.await
  split <;> rfl

theorem Core.find_await (k : Core) {r : Nat} (h : r ≠ 0) (t : BitVec 12) : mapFind? (k.await r t).pend r = some t := by
  rw [Core.await, if_neg h]
  exact mapFind_ins_same _ _ _

/-- A load from the own data memory acts at once. -/
theorem loadOp_own (h : s.ready c.toNat (useG [base.toNat] [rt.toNat]))
    (hown : ownData c.toNat ((s.core c.toNat).ea base.toNat off).toNat = true)
    (halign : ((s.core c.toNat).ea base.toNat off).toNat % size = 0)
    (hgood : s.badIn ((s.core c.toNat).ea base.toNat off).toNat size = []) :
    s.loadOp c rt base off size signed = s.fresh.retireG c.toNat rt.toNat
      (extendLoad size signed (s.bytesAt ((s.core c.toNat).ea base.toNat off).toNat size)) := by
  have hwait : s.loadWaits c.toNat ((s.core c.toNat).ea base.toNat off).toNat size = false := by
    rw [State.loadWaits, if_pos hown, hgood]
    exact Bool.and_false _
  rw [State.loadOp, State.checkEa_own c.isLt hown halign, hwait, State.runInsn_ready h, State.doLoad, if_pos hown,
    State.readEffect, State.readNote_good hgood, hgood]
  rfl

/-- A load from elsewhere with nothing prefetched sends its request. -/
theorem loadOp_elsewhere (h : s.ready c.toNat (useG [base.toNat] [rt.toNat]))
    (hown : ownData c.toNat ((s.core c.toNat).ea base.toNat off).toNat = false)
    (hchk : s.checkEa c.toNat ((s.core c.toNat).ea base.toNat off) size (s.counterOpen ((s.core c.toNat).ea base.toNat off)) = none)
    (hpf : (s.core c.toNat).pf = []) (hroom : s.loadsOut c.toNat < 16) (hids : s.idsFree c.toNat 1 = true) :
    let a := ((s.core c.toNat).ea base.toNat off).toNat
    let t := s.loadOp c rt base off size signed
    sentOnly s t c.toNat ∧ requestSent s t c.toNat 0 a size 0 [] (.load rt.toNat size signed) ∧
      (rt ≠ 0 → mapFind? (t.core c.toNat).pend rt.toNat = some (s.freeTxn c.toNat)) := by
  intro a
  have hentry : (if isMemAddr a then (s.core c.toNat).pfEntry (a / 64) else none) = none := by
    rw [Core.pfEntry, hpf]
    exact ite_self _
  have hwait : s.loadWaits c.toNat a size = false := by
    rw [State.loadWaits, if_neg (Bool.eq_false_iff.mp hown), hentry, hids]
    simpa using hroom
  have hframe := (s.core c.toNat).await_frame rt.toNat (s.freeTxn c.toNat)
  have hload : s.loadOp c rt base off size signed = s.doLoad c.toNat rt.toNat size signed a := by
    rw [State.loadOp, hchk, hwait, State.runInsn_ready h]
  rw [hload, State.doLoad, if_neg (Bool.eq_false_iff.mp hown), hentry]
  obtain ⟨honly, hsent, hpend⟩ := issue_sends c.isLt hids (List.mem_cons_self ..)
    (s.snaps ++ [⟨c.toNat, s.freeTxn c.toNat, BitVec.ofNat 40 a, s.core c.toNat, none⟩])
    (k := (s.core c.toNat).await rt.toNat (s.freeTxn c.toNat)) (by rw [hframe]) (by rw [hframe]) (by rw [hframe])
    (by rw [hframe]) (by rw [hframe])
  refine ⟨honly.tallied 10 1, hsent.tallied c.toNat 10 1, fun hrt => ?_⟩
  rw [State.core_tallied]
  exact (congrArg (mapFind? · rt.toNat) hpend).trans (Core.find_await _ (toNat_ne_zero.mpr hrt) _)

/-- A store to the own data memory acts at once. -/
theorem storeOp_own (h : s.ready c.toNat (useG [base.toNat, rt.toNat] []))
    (hown : ownData c.toNat ((s.core c.toNat).ea base.toNat off).toNat = true)
    (halign : ((s.core c.toNat).ea base.toNat off).toNat % size = 0) :
    let a := ((s.core c.toNat).ea base.toNat off).toNat
    s.storeOp c rt base off size =
      ((s.mapCore c.toNat (fun k => k.dropPf a size)).writeBytes a (toBytes size ((s.core c.toNat).gr rt.toNat).toNat)).retire
        c.toNat := by
  rw [State.storeOp, State.checkEa_own c.isLt hown halign, hown, Bool.not_true, Bool.false_and, State.runInsn_ready h,
    State.doStore, if_pos hown]

theorem State.storeWaits_room (hroom : s.storesOut c.toNat < 16) (hids : s.idsFree c.toNat 1 = true) :
    s.storeWaits c.toNat = false := by
  rw [State.storeWaits, hids]
  simpa using hroom

/-- A store elsewhere sends its bytes. -/
theorem storeOp_elsewhere (h : s.ready c.toNat (useG [base.toNat, rt.toNat] []))
    (hown : ownData c.toNat ((s.core c.toNat).ea base.toNat off).toNat = false)
    (hea : eaOk s c.toNat ((s.core c.toNat).ea base.toNat off) size)
    (hroom : s.storesOut c.toNat < 16) (hids : s.idsFree c.toNat 1 = true) :
    let a := ((s.core c.toNat).ea base.toNat off).toNat
    let t := s.storeOp c rt base off size
    sentOnly s t c.toNat ∧
      requestSent s t c.toNat 1 a size 0 (toBytes size ((s.core c.toNat).gr rt.toNat).toNat) .store := by
  intro a
  have hstore : s.storeOp c rt base off size = s.doStore c.toNat size ((s.core c.toNat).gr rt.toNat) a := by
    rw [State.storeOp, State.checkEa_eaOk hea, State.storeWaits_room hroom hids, Bool.and_false, State.runInsn_ready h]
  rw [hstore, State.doStore, if_neg (Bool.eq_false_iff.mp hown)]
  obtain ⟨honly, hsent, -⟩ := issue_sends (op := 1) (a := a) (n := size) (fn := 0)
    (data := toBytes size ((s.core c.toNat).gr rt.toNat).toNat) (kind := .store) c.isLt hids (by decide) s.snaps
    (k := (s.core c.toNat).dropPf a size) rfl rfl rfl rfl rfl
  exact ⟨honly, hsent⟩

/-- An atomic on a memory that takes atomics sends its operand. -/
theorem atomicOp_sends (h : s.ready c.toNat (useG [rs1.toNat, rs2.toNat] [rd.toNat]))
    (htarget : atomicTarget ((s.core c.toNat).gr rs1.toNat).toNat = true) (halign : ((s.core c.toNat).gr rs1.toNat).toNat % 8 = 0)
    (hroom : s.storesOut c.toNat < 16) (hids : s.idsFree c.toNat 1 = true) (f : Nat) :
    let a := ((s.core c.toNat).gr rs1.toNat).toNat
    let t := s.atomicOp c rd rs1 rs2 f
    sentOnly s t c.toNat ∧
      requestSent s t c.toNat 3 a 8 (BitVec.ofNat 3 f) (toBytes 8 ((s.core c.toNat).gr rs2.toNat).toNat) (.atom rd.toNat) ∧
      (rd ≠ 0 → mapFind? (t.core c.toNat).pend rd.toNat = some (s.freeTxn c.toNat)) := by
  intro a
  obtain ⟨hlo, hhi⟩ := atomicTarget_bounds htarget
  have hframe := (s.core c.toNat).await_frame rd.toNat (s.freeTxn c.toNat)
  have hatom : s.atomicOp c rd rs1 rs2 f = s.doAtomic c.toNat rd.toNat f ((s.core c.toNat).gr rs2.toNat) a := by
    rw [State.atomicOp, State.checkEa_none hhi halign fun _ => .inl (inRegSpace_false hlo), htarget,
      State.storeWaits_room hroom hids]
    exact State.runInsn_ready h _ _ _
  rw [hatom, State.doAtomic]
  obtain ⟨honly, hsent, hpend⟩ := issue_sends (op := 3) (a := a) (n := 8) (fn := BitVec.ofNat 3 f)
    (data := toBytes 8 ((s.core c.toNat).gr rs2.toNat).toNat) (kind := .atom rd.toNat) c.isLt hids (by decide)
    (s.snaps ++ [⟨c.toNat, s.freeTxn c.toNat, BitVec.ofNat 40 a, s.core c.toNat, none⟩])
    (k := { (s.core c.toNat).await rd.toNat (s.freeTxn c.toNat) with pf := [] }) (by rw [hframe]) (by rw [hframe])
    (by rw [hframe]) (by rw [hframe]) (by rw [hframe])
  exact ⟨honly, hsent, fun hrd => (congrArg (mapFind? · rd.toNat) hpend).trans (Core.find_await _ (toNat_ne_zero.mpr hrd) _)⟩

end

theorem toBytes_length (n x : Nat) : (toBytes n x).length = n := by simp [toBytes]

/-- What a store to the own data memory leaves: its bytes with good parity, every other byte, the core but for its pc, its tally and
its prefetch buffer. -/
theorem store_leaves (s : State) (c a n x : Nat) :
    let t := ((s.mapCore c (fun k => k.dropPf a n)).writeBytes a (toBytes n x)).retire c
    t.bytesAt a n = toBytes n x ∧ t.badIn a n = [] ∧
      (∀ y, y < a ∨ a + n ≤ y → t.byteAt y = s.byteAt y ∧ t.badAt y = s.badAt y) ∧
      t.core c = { s.core c with
        pf := (t.core c).pf
        pc := (s.core c).pc + 4
        done := (t.core c).done } ∧ (∀ d, d ≠ c → t.core d = s.core d) ∧
      t = { s with
        cores := t.cores
        perf := t.perf
        mem := t.mem
        badPar := t.badPar } := by
  have hlen := toBytes_length n x
  obtain ⟨u, hu⟩ : ∃ u, u = s.mapCore c (fun k => k.dropPf a n) := ⟨_, rfl⟩
  obtain ⟨w, hw⟩ : ∃ w, w = u.writeBytes a (toBytes n x) := ⟨_, rfl⟩
  have hframe : w = { u with
      mem := w.mem
      badPar := w.badPar } := hw ▸ State.writeBytes_eq _ _ _
  have hcores : w.cores = u.cores := by rw [hframe]
  have hcore : (w.retire c).core c = { (s.core c).dropPf a n with
      pc := (s.core c).pc + 4
      done := (s.core c).done + 1 } := by
    rw [State.retire, State.core_retireTo, State.core_congr hcores, hu, State.core_mapCore]
    rfl
  rw [← hu, ← hw]
  refine ⟨?_, ?_, fun y hy => ⟨?_, ?_⟩, ?_, fun d hd => ?_, ?_⟩
  · have hin := State.bytesAt_writeBytes u a (toBytes n x)
    rw [hlen, ← hw] at hin
    exact hin
  · have hin := State.badIn_writeBytes u a (toBytes n x)
    rw [hlen, ← hw] at hin
    exact hin
  · have hout := State.byteAt_writeBytes_out u a (toBytes n x) y (hlen.symm ▸ hy)
    rw [← hw] at hout
    exact hout.trans (hu ▸ rfl)
  · have hout := State.badAt_writeBytes_out (l := toBytes n x) u (hlen.symm ▸ hy)
    rw [← hw] at hout
    exact hout.trans (hu ▸ rfl)
  · rw [hcore]
    rfl
  · rw [State.retire, State.core_retireTo_ne _ _ hd, State.core_congr hcores, hu, State.mapCore, State.core_setCore_ne _ _ hd]
  · rw [hframe, hu]
    rfl

end Sys2Proof.Machine
end

section
/-!
PROOFS. Loads, stores and atomics (O9, O10).
-/

open Sys2Proof Sys2Proof.Machine

/-- Settles O9: a load of good own bytes writes its register at once (`loadOp_own`), one from elsewhere is a request
(`loadOp_elsewhere`). -/
theorem loads : Obligations.Loads := by
  unfold Obligations.Loads
  refine ⟨fun e he s c rt base off hready hown halign hgood => ⟨_, exec_loadOps e he s c rt base off, ?own⟩,
    fun e he s c rt base off hready hown hea hpf hroom hids => ⟨_, exec_loadOps e he s c rt base off, ?elsewhere⟩⟩
  case own =>
    rw [loadOp_own hready hown halign hgood]
    obtain ⟨hgr, hpc, -, heq, hcores⟩ := s.fresh.retireG_spec c.toNat rt.toNat
      (extendLoad e.2.1 e.2.2 (s.bytesAt ((s.core c.toNat).ea base.toNat off).toNat e.2.1))
    refine ⟨(hgr rt.toNat).trans ?_, fun r hr => (hgr r).trans (if_neg fun h => hr h.1), hpc, ?_, hcores⟩
    · by_cases hrt : rt = 0
      · subst hrt
        rfl
      · rw [if_pos ⟨rfl, toNat_ne_zero.mpr hrt⟩, if_neg hrt]
    · rw [heq]
      rfl
  case elsewhere =>
    refine loadOp_elsewhere hready hown ?_ hpf hroom hids
    obtain h | ⟨hopen, halign⟩ := hea
    · exact State.checkEa_eaOk h
    · exact State.checkEa_counter hopen halign

/-- Settles O10: a store of own bytes writes them at once (`store_leaves`), other stores and the atomics are requests
(`storeOp_elsewhere`, `atomicOp_sends`). -/
theorem storesAndAtomics : Obligations.StoresAndAtomics := by
  unfold Obligations.StoresAndAtomics
  refine ⟨fun e he s c rt base off hready hown halign => ⟨_, exec_storeOps e he s c rt base off, ?own⟩,
    fun e he s c rt base off hready hown hea hroom hids =>
      ⟨_, exec_storeOps e he s c rt base off, storeOp_elsewhere hready hown hea hroom hids⟩,
    fun e he s c rd rs1 rs2 hready htarget halign hroom hids => ⟨_, exec_atomOps e he s c rd rs1 rs2, ?atomic⟩⟩
  case own =>
    rw [storeOp_own hready hown halign]
    obtain ⟨hin, hgood, hout, hcore, hothers, hframe⟩ := store_leaves s c.toNat ((s.core c.toNat).ea base.toNat off).toNat e.2
      ((s.core c.toNat).gr rt.toNat).toNat
    exact ⟨hin, hgood, hout, by rw [hcore], by rw [hcore], by rw [hcore], by rw [hcore], by rw [hcore], hothers, hframe⟩
  case atomic =>
    obtain ⟨honly, hsent, hpend⟩ := atomicOp_sends hready htarget halign hroom hids e.2
    exact ⟨honly, hsent, hpend, atomWord_atomOps e he⟩

end


section
/-!
SUPPORT. Sieve instructions of a ready core: TWAIT, TYIELD, TEXIT and TEVENT (R110, R213, R217).
-/

namespace Sys2Proof.Machine

variable {s t : State} {v : Sieve} {c i j u : Nat} {x : Thread} {tr : Trap} {restart : BitVec 16}

/-! ### Threads of a sieve -/

theorem Sieve.thread_toReady (v : Sieve) (i : Nat) (x : Thread) : (v.toReady i x).thread i = { x with state := .ready } := by
  simp [Sieve.thread, Sieve.toReady, Sieve.setThread]

theorem Sieve.thread_freeThread (v : Sieve) (i : Nat) : (v.freeThread i).thread i = Thread.free := by
  simp [Sieve.thread, Sieve.freeThread, Sieve.setThread]

theorem Sieve.thread_freeThread_ne (v : Sieve) (h : j ≠ i) : (v.freeThread i).thread j = v.thread j := by
  simp [Sieve.thread, Sieve.freeThread, Sieve.setThread, mapGet_set_ne _ _ _ _ h]

/-- A thread that waits for an event that is not pending joins WAITQ. -/
theorem Sieve.wait_waits {id : BitVec 16} (h : id.toNat ∉ v.pend) : (v.wait i id).thread i = { v.thread i with
      state := .waiting
      ev := id } ∧
    (v.wait i id).waitq = v.waitq.filter (· ≠ i) ++ [i] ∧ (v.wait i id).pend = v.pend := by
  have hpend : ¬ v.pend.contains id.toNat = true := fun hc => h (List.contains_iff_mem.mp hc)
  rw [Sieve.wait, if_neg hpend]
  exact ⟨by simp [Sieve.thread, Sieve.setThread], rfl, rfl⟩

/-- A pending event is taken at once, and the thread is READY. -/
theorem Sieve.wait_pending {id : BitVec 16} (h : id.toNat ∈ v.pend) : v.wait i id =
    ({ v with pend := setErase v.pend id.toNat } : Sieve).toReady i { v.thread i with
      ev := id
      reason := 2
      evTok := none
      data := 0
      stamp := 0 } :=
  if_pos (List.contains_iff_mem.mpr h)

theorem Sieve.wait_ev (v : Sieve) (i : Nat) (id : BitVec 16) : ((v.wait i id).thread i).ev = id := by
  by_cases h : id.toNat ∈ v.pend
  · rw [Sieve.wait_pending h, Sieve.thread_toReady]
  · rw [(Sieve.wait_waits h).1]

/-! ### Sieve instructions -/

section
variable {c : BitVec 8} {w : Use} {k : Bool} {func : Nat} {act : State}

/-- A sieve instruction of a ready core acts and empties the prefetch buffer. -/
theorem State.sieveInsn_ready (h : s.ready c.toNat w) (hk : (k && (s.core c.toNat).task) = false) :
    s.sieveInsn c w false k act = act.dropPrefetch c.toNat := by
  rw [State.sieveInsn, hk]
  exact State.runInsn_ready h _ _ _

theorem State.service_kernel (h : s.ready c.toNat w) (htask : (s.core c.toNat).task = false) :
    s.service c func w false act = act.dropPrefetch c.toNat := by
  rw [State.service, State.sieveInsn_ready h rfl, htask, if_neg Bool.false_ne_true]

theorem State.service_task (h : s.ready c.toNat w) (htask : (s.core c.toNat).task = true) :
    s.service c func w false act =
      (s.trapTo c.toNat ⟨0x14, func, 0⟩ false ((s.core c.toNat).pc + 4)).dropPrefetch c.toNat := by
  rw [State.service, State.sieveInsn_ready h rfl, htask, if_pos rfl]

end

theorem exec_twait (s : State) (c : BitVec 8) (rs1 : BitVec 5) : exec (.twait c 0 rs1 0) s =
    .next (s.service c 2 (useG [rs1.toNat] []) false
      (s.leave c.toNat fun v i => v.wait i (((s.core c.toNat).gr rs1.toNat).truncate 16))) := rfl

theorem exec_tyield (s : State) (c : BitVec 8) : exec (.tyield c 0 0 0) s =
    .next (s.service c 3 (useG [] []) false (s.leave c.toNat Sieve.yield)) := rfl

theorem exec_texit (s : State) (c : BitVec 8) : exec (.texit c 0 0 0) s =
    .next (s.service c 4 (useG [] []) false (s.leave c.toNat fun v i => v.freeThread i)) := rfl

theorem State.core_dropPrefetch (s : State) (c : Nat) : (s.dropPrefetch c).core c = { s.core c with pf := [] } :=
  s.core_mapCore c _

theorem trapped.dropPrefetch (h : trapped s t c tr restart) : trapped s (t.dropPrefetch c) c tr restart := by
  obtain ⟨hpc, htpc, hcause, haddr, hstat, hg, hv, hm, honly⟩ := h
  unfold trapped
  rw [State.core_dropPrefetch]
  exact ⟨hpc, htpc, hcause, haddr, hstat, hg, hv, hm, honly.mapCore _⟩

/-! ### A thread leaves its core (R213) -/

theorem Core.noThread_valid (k : Core) : (k.noThread.crv crSctxThread).getLsbD 15 = false := by
  rw [Core.noThread, Core.crv_setCr]
  simp

theorem State.leave_eq (hcur : s.current c = some i) (hsq : s.curSquashed c = false) (f : Sieve → Nat → Sieve) :
    s.leave c f = ((s.mapSieve (stratumOf c) fun v => f v i).mapCore c Core.noThread).retire c := by
  rw [State.leave, hcur, hsq]
  rfl

theorem onlyCore.after_sieve {r : State} (h : onlyCore r t c) (hr : r = { s with sieves := r.sieves }) :
    t = { s with
      cores := t.cores
      sieves := t.sieves
      perf := t.perf } ∧ t.sieve = r.sieve := by
  obtain ⟨heq, -⟩ := h
  constructor
  · rw [heq, hr]
  · rw [heq]
    rfl

/-- The sieve has changed as given, the core has no thread, and its pc has moved on. -/
theorem leave_leaves (hcur : s.current c = some i) (hsq : s.curSquashed c = false) (f : Sieve → Nat → Sieve) :
    let t := (s.leave c f).dropPrefetch c
    onlySieve s t (stratumOf c) ∧ t.sieve (stratumOf c) = f (s.sieve (stratumOf c)) i ∧
      t.current c = none ∧ (t.core c).g = (s.core c).g ∧ (t.core c).pc = (s.core c).pc + 4 := by
  rw [s.leave_eq hcur hsq]
  obtain ⟨r, hr⟩ : ∃ r, r = s.mapSieve (stratumOf c) fun v => f v i := ⟨_, rfl⟩
  have hrc : r.core c = s.core c := by
    rw [hr]
    rfl
  have hrt : r.sieve (stratumOf c) = f (s.sieve (stratumOf c)) i := by
    rw [hr]
    exact s.sieve_setSieve _ _
  have hrd : ∀ d, d ≠ stratumOf c → r.sieve d = s.sieve d := by
    rw [hr]
    exact fun d hd => s.sieve_setSieve_ne _ hd
  have hframe : r = { s with sieves := r.sieves } := by
    rw [hr]
    rfl
  rw [← hr]
  have honly : onlyCore r (((r.mapCore c Core.noThread).retire c).dropPrefetch c) c :=
    (((onlyCore.refl r c).mapCore _).retire).mapCore _
  have hcore : (((r.mapCore c Core.noThread).retire c).dropPrefetch c).core c = { (s.core c).noThread with
      pf := []
      pc := (s.core c).pc + 4
      done := (s.core c).done + 1 } := by
    rw [State.core_dropPrefetch, State.retire, State.core_retireTo, State.core_mapCore, hrc]
    rfl
  obtain ⟨heq, hsieve⟩ := honly.after_sieve hframe
  refine ⟨⟨heq, fun d hd => ?_⟩, ?_, ?_, ?_, ?_⟩
  · rw [hsieve, hrd d hd]
  · rw [hsieve, hrt]
  · rw [State.current, hcore]
    exact if_neg (Bool.eq_false_iff.mp (s.core c).noThread_valid)
  · rw [hcore]
    rfl
  · rw [hcore]

/-! ### Events (R214) -/

/-- The packets of an event change what is in flight only. -/
theorem sendEvent_frame (s : State) (init strata id word : Nat) (tok : Option (BitVec 15)) :
    s.sendEvent init strata id word tok = { s with flight := (s.sendEvent init strata id word tok).flight } := by
  unfold State.sendEvent State.sendEventFrom
  refine List.foldlRecOn (motive := fun t : State => t = { s with flight := t.flight }) _ _ rfl fun t ht n _ => ?_
  split
  · rw [ht]
    rfl
  · exact ht

theorem retire_dropPrefetch_flight (s : State) (c : Nat) : ((s.retire c).dropPrefetch c).flight = s.flight := rfl

theorem retire_dropPrefetch_core (s : State) (c : Nat) : ((s.retire c).dropPrefetch c).core c = { s.core c with
    pf := []
    pc := (s.core c).pc + 4
    done := (s.core c).done + 1 } := by
  rw [State.core_dropPrefetch, State.retire, State.core_retireTo]

/-- The fields of TEVENT's first operand: the strata's mask and the event ID. -/
theorem exec_tevent (s : State) (c : BitVec 8) (rs1 rs2 : BitVec 5) : exec (.tevent c 0 rs1 rs2) s =
    .next (s.sieveInsn c (useG [rs1.toNat, rs2.toNat] []) false false
      ((s.sendEvent c.toNat (((s.core c.toNat).gr rs1.toNat).toNat / 2 ^ 16 % 256) (((s.core c.toNat).gr rs1.toNat).toNat % 2 ^ 16)
        (((s.core c.toNat).gr rs2.toNat).toNat % 2 ^ 32) (s.curTok c.toNat)).retire c.toNat)) := by
  have hmask (a : Nat) : bitsOf a 23 16 = a / 2 ^ 16 % 256 := by
    rw [bitsOf, Nat.shiftRight_eq_div_pow]
    rfl
  have hid (a : Nat) : bitsOf a 15 0 = a % 2 ^ 16 := rfl
  rw [← hmask, ← hid]
  rfl

end Sys2Proof.Machine
end

section
/-!
PROOFS. Service instructions and TEVENT (O32).
-/

open Sys2Proof Sys2Proof.Machine

/-- Settles O32: in kernel mode the thread leaves its core (`leave_leaves`) with the sieve changed by the rule of its instruction,
in task mode the instruction is a trap past itself, and TEVENT sends the event of its operands. -/
theorem sieveServices : Obligations.SieveServices := by
  unfold Obligations.SieveServices
  intro s c rs1 rs2 k u v hready hready1
  refine ⟨fun i htask hcur hsq => ⟨⟨_, exec_tyield s c, ?yield⟩, ⟨_, exec_texit s c, ?exit⟩, ⟨_, exec_twait s c rs1, ?wait⟩⟩,
    fun htask hintrap =>
      ⟨⟨_, exec_twait s c rs1, ?waitTask⟩, ⟨_, exec_tyield s c, ?yieldTask⟩, ⟨_, exec_texit s c, ?exitTask⟩⟩,
    fun hready2 => ⟨_, exec_tevent s c rs1 rs2, ?event⟩⟩
  case yield =>
    rw [State.service_kernel hready htask]
    obtain ⟨honly, hsieve, hleft, hg, hpc⟩ := leave_leaves hcur hsq Sieve.yield
    rw [hsieve]
    have hthread := v.thread_toReady i { v.thread i with
      reason := 3
      evTok := none
      data := 0
      stamp := 0 }
    exact ⟨honly, rfl, congrArg Thread.state hthread, congrArg Thread.reason hthread, hleft, hg, hpc⟩
  case exit =>
    rw [State.service_kernel hready htask]
    obtain ⟨honly, hsieve, hleft, hg, hpc⟩ := leave_leaves hcur hsq fun v i => v.freeThread i
    rw [hsieve]
    exact ⟨honly, v.thread_freeThread i, fun j hj => v.thread_freeThread_ne hj, hleft, hg, hpc⟩
  case wait =>
    rw [State.service_kernel hready1 htask]
    obtain ⟨honly, hsieve, hleft, hg, hpc⟩ := leave_leaves hcur hsq fun v i => v.wait i ((k.gr rs1.toNat).truncate 16)
    rw [hsieve]
    refine ⟨honly, v.wait_ev i _, fun hid => ?_, fun hid => ?_, hleft, hg, hpc⟩
    · obtain ⟨hthread, hwaitq, hpend⟩ := Sieve.wait_waits (i := i) hid
      exact ⟨congrArg Thread.state hthread, hwaitq, hpend⟩
    · rw [Sieve.wait_pending hid, Sieve.thread_toReady]
      exact ⟨rfl, rfl, fun hmem => of_decide_eq_true (List.mem_filter.mp hmem).2 rfl, rfl⟩
  case waitTask =>
    rw [State.service_task hready1 htask]
    exact (s.trapTo_trapped hintrap _ _).dropPrefetch
  case yieldTask =>
    rw [State.service_task hready htask]
    exact (s.trapTo_trapped hintrap _ _).dropPrefetch
  case exitTask =>
    rw [State.service_task hready htask]
    exact (s.trapTo_trapped hintrap _ _).dropPrefetch
  case event =>
    rw [State.sieveInsn_ready hready2 rfl]
    have hframe := sendEvent_frame s c.toNat ((k.gr rs1.toNat).toNat / 2 ^ 16 % 256) ((k.gr rs1.toNat).toNat % 2 ^ 16)
      ((k.gr rs2.toNat).toNat % 2 ^ 32) (s.curTok c.toNat)
    refine ⟨retire_dropPrefetch_flight _ _, ?_, ?_, ?_⟩
    · rw [retire_dropPrefetch_core, hframe]
      rfl
    · rw [retire_dropPrefetch_core, hframe]
      rfl
    · rw [hframe]
      rfl

end


section
/-!
SUPPORT. Packets that fabric and targets turn away, and the answers that go back (R264, R266, R269, R276, R279).
-/

namespace Sys2Proof.Machine

variable {s t : State} {p q x : Packet} {a b n : Nat}

/-! ### Parity (R269) -/

theorem parDrop_countedBy : F.VEIN_STAT_PAR_DROP.CountedBy F.VEIN_STAT_PAR_DROP_REP := ⟨rfl, rfl, rfl, rfl, rfl⟩

/-- A packet that fails its parity leaves the fabric, the drop is flagged, and no unit sees it. -/
theorem dropParity_leaves (s : State) (p : Packet) : (s.dropParity p).flight = s.flight.erase p ∧ (s.dropParity p).mem = s.mem ∧
    (s.dropParity p).outst = s.outst ∧ (s.dropParity p).cores = s.cores ∧ (s.dropParity p).sieves = s.sieves ∧
    (s.dropParity p).on F.VEIN_STAT_PAR_DROP = true := by
  unfold State.dropParity
  refine ⟨?_, ?_, ?_, ?_, ?_, ?_⟩
  · rw [State.fresh_flight, State.setReg_flight, State.count_flight, State.flagRep_flight]
    rfl
  · rw [State.fresh_mem, State.setReg_mem, State.count_mem, State.flagRep_mem, State.arrive_mem]
  · rw [State.fresh_outst, State.setReg_outst, State.count_outst, State.flagRep_outst, State.arrive_outst]
  · rw [State.fresh_cores, State.setReg_cores, State.count_cores, State.flagRep_cores, State.arrive_cores]
  · rw [State.fresh_sieves, State.setReg_sieves, State.count_sieves, State.flagRep_sieves, State.arrive_sieves]
  · refine (State.on_congr (State.fresh_regs _) _).trans ?_
    refine (State.on_of_reg (State.reg_setReg_ne _ _ (by decide))).trans ?_
    exact State.on_flagRep parDrop_countedBy _

/-- Wherever a packet arrives, one that fails its parity is dropped. -/
theorem exec_badParity (h : p.hperr ≠ 0) (s : State) : ∀ e ∈ [(Instr.rd p, (0 : BitVec 4)), (.wr p, 1), (.wrp p, 2), (.atom p, 3),
    (.rdrsp p, 4), (.wrrsp p, 5), (.evt p, 6), (.emark p, 7), (.tokack p, 9), (.dlvd p, 10)],
    exec e.1 s = .next (s.dropParity { p with op := e.2 }) := by
  have hbad (op : BitVec 4) : (!pktParityOk { p with op := op }) = true := by
    rw [pktParityOk_of_hperr (p := { p with op := op }) h]
    rfl
  iterate 10 refine List.forall_mem_cons.mpr ⟨congrArg Host.Outcome.next (if_pos (hbad _)), ?_⟩
  exact List.forall_mem_nil _

/-! ### Requests that do not reach their target -/

theorem requestArrives_waits (hok : pktParityOk p = true) (hwait : s.mustWait p = true) : s.requestArrives p = s := by
  rw [State.requestArrives, hok, hwait]
  rfl

theorem requestArrives_away {r : Nat} (hok : pktParityOk p = true) (hturn : s.mustWait p = false) (haway : s.turnedAway p = some r) :
    s.requestArrives p = (s.arrive p).refuse p r := by
  rw [State.requestArrives, hok, hturn, haway]
  rfl

theorem turnedAway_noTarget (h : nodeOfAddr (pktAddr p) ≠ some p.dst.toNat) : s.turnedAway p = some rNoTarget := if_pos h

theorem turnedAway_closed (h : nodeOfAddr (pktAddr p) = some p.dst.toNat) (hclosed : (s.closedStop p).isSome = true) :
    s.turnedAway p = some rDomainOff := by
  rw [State.turnedAway, if_neg (not_not_intro h), if_pos hclosed]

theorem postedArrives_closed (hok : pktParityOk p = true) (hturn : s.mustWait p = false) (hclosed : s.closedStop p = some n) :
    s.postedArrives p = ((s.arrive p).dropPosted n).delivered p := by
  rw [State.postedArrives, hok, hturn, hclosed]
  rfl

/-! ### Answers (R264, R266) -/

/-- An answer goes to the initiator's stop, with the request's stamp as its echo. -/
theorem respond_answers (s : State) (q : Packet) (op resp : Nat) (data : List Byte) (poison : BitVec 32) :
    ∃ x, (s.respond q op resp data poison).flight = s.flight ++ [x] ∧
      (x.op = BitVec.ofNat 4 op ∧ x.resp = BitVec.ofNat 3 resp ∧ x.init = q.init ∧ x.txn = q.txn ∧ x.echo = q.stamp ∧
        x.dst = BitVec.ofNat 8 (pktSrc q)) ∧ x.data = data ∧ x.poison = poison := by
  refine ⟨_, rfl, ?_⟩
  rw [inject_frame]
  exact ⟨⟨rfl, rfl, rfl, rfl, rfl, rfl⟩, rfl, rfl⟩

theorem delivered_sends (s : State) (q : Packet) :
    ∃ x, (s.delivered q).flight = s.flight ++ [x] ∧ x.op = 10 ∧ x.txn = q.txn ∧ x.init = q.init := by
  refine ⟨_, rfl, ?_⟩
  rw [inject_frame]
  exact ⟨rfl, rfl, rfl⟩

/-! ### Requests at device memory (R285, R286, R88) -/

/-- A request for device memory, with a good header, whose turn has come, whose way is open, and whose lines no host cache holds. -/
structure AtMem (s : State) (p : Packet) : Prop where
  mem : isMemAddr (pktAddr p) = true
  device : isHostAddr (pktAddr p) = false
  op : p.op.toNat ≤ 3
  node : nodeOfAddr (pktAddr p) = some p.dst.toNat
  wayOpen : s.closedStop p = none
  turn : s.mustWait p = false
  header : p.hperr = 0
  untracked : s.trackedFrom p 0 = none

/-- Accesses to memory are of the data class (R264). -/
theorem pktCtl_mem (h : isMemAddr (pktAddr p) = true) (hop : p.op.toNat ≤ 3) : pktCtl p = false := by
  have hreg : tgtOf p.addr.toNat ≠ .reg p.addr.toNat := by
    intro hreg
    rw [isMemAddr, pktAddr, hreg] at h
    cases h
  have hcases : p.op.toNat = 0 ∨ p.op.toNat = 1 ∨ p.op.toNat = 2 ∨ p.op.toNat = 3 := by omega
  obtain hread | hwrite | hposted | hatom := hcases
  · simp [pktCtl, hread, hreg]
  · simp [pktCtl, hwrite, hreg]
  · simp [pktCtl, hposted, hreg]
  · simp [pktCtl, hatom]

theorem AtMem.ctl (h : AtMem s p) : pktCtl p = false := pktCtl_mem h.mem h.op

theorem AtMem.parityOk (h : AtMem s p) : pktParityOk p = true := pktParityOk_data h.ctl h.header

theorem AtMem.turnedAway (h : AtMem s p) : s.turnedAway p = none := by
  simp [State.turnedAway, h.node, h.wayOpen]

theorem AtMem.requestArrives (h : AtMem s p) : s.requestArrives p = (s.accepted p).serveRequest p := by
  rw [State.requestArrives, h.parityOk, h.turn, h.turnedAway]
  rfl

theorem AtMem.postedArrives (h : AtMem s p) : s.postedArrives p = (s.accepted p).serveRequest p := by
  rw [State.postedArrives, h.parityOk, h.turn, h.wayOpen, h.turnedAway]
  rfl

/-- It acts on the memory where the window lets it (R78, R295). -/
theorem AtMem.serveRequest (h : AtMem s p) (hresp : t.memResp p = rDone) (htracked : t.trackedFrom p 0 = none) :
    t.serveRequest p = t.memPerform p := by
  have hmem := h.mem
  have hdevice : tgtOf (pktAddr p) ≠ .host := of_decide_eq_false h.device
  unfold State.serveRequest
  split
  next hreg => rw [isMemAddr, hreg] at hmem; cases hmem
  next hhost => exact absurd hhost hdevice
  next => rw [if_pos hresp, State.memAccess, htracked]

/-- A payload without errors is delivered as it came (R268). -/
theorem accepted_clean (hsbe : p.sbe = 0) (hdbe : p.dbe = 0) (s : State) : s.accepted p = s.arrive p := by
  rw [State.accepted, State.received, State.niCheck, if_pos hdbe, if_pos hsbe]
  exact ite_self _

theorem AtMem.performs (h : AtMem s p) (hsbe : p.sbe = 0) (hdbe : p.dbe = 0) (hresp : s.memResp p = rDone) :
    (s.accepted p).serveRequest p = (s.arrive p).memPerform p := by
  rw [accepted_clean hsbe hdbe]
  exact h.serveRequest hresp h.untracked

/-! ### What the memory does -/

/-- A speculative read answers the bytes and changes nothing. -/
theorem memRead_answers (hspec : q.spec = true) (s : State) : ∃ x, (s.memRead q).flight = s.flight ++ [x] ∧
    (x.op = 4 ∧ x.resp = (if (s.badIn (pktAddr q) (pktLen q)).isEmpty then 0 else 1) ∧ x.init = q.init ∧ x.txn = q.txn ∧
      x.echo = q.stamp ∧ x.dst = BitVec.ofNat 8 (pktSrc q)) ∧
    x.data = s.bytesAt (pktAddr q) (pktLen q) ∧ x.poison = s.poisonIn (pktAddr q) (pktLen q) ∧
    (s.memRead q).mem = s.mem ∧ (s.memRead q).badPar = s.badPar ∧ (s.memRead q).regs = s.regs := by
  have hnote : s.readEffect (pktInit q) (pktAddr q) (pktLen q) q.spec = s.fresh := by
    rw [State.readEffect, State.readNote, if_pos hspec]
  obtain ⟨x, hflight, ⟨hop, hresp, hrest⟩, hdata, hpoison⟩ := respond_answers s.fresh q 4
    (if (s.badIn (pktAddr q) (pktLen q)).isEmpty then rDone else rPoison) (s.bytesAt (pktAddr q) (pktLen q))
    (s.poisonIn (pktAddr q) (pktLen q))
  rw [State.memRead, hnote]
  refine ⟨x, hflight, ⟨hop, hresp.trans ?_, hrest⟩, hdata, hpoison, rfl, rfl, rfl⟩
  split <;> rfl

theorem writePoison_clean (s : State) (a : Nat) (l : List Byte) : s.writePoison a l 0 = s.writeBytes a l := by
  unfold State.writePoison
  refine List.foldlRecOn (motive := (· = s.writeBytes a l)) _ _ rfl fun t ht i _ => ?_
  simpa using ht

theorem memWrite_clean (hdbe : q.dbe = 0) (hpoison : q.poison = 0) (hlen : q.data.length = pktLen q) (s : State) :
    s.memWrite q = s.writeBytes (pktAddr q) q.data := by
  rw [State.memWrite, pktPoisoned, hdbe, hpoison, ← hlen, List.take_length]
  exact writePoison_clean _ _ _

/-- A store of a packet's bytes: they are there with good parity, every other byte is as before. -/
theorem writeBytes_leaves (hlen : q.data.length = n) (s : State) (a : Nat) :
    let t := s.writeBytes a q.data
    t.bytesAt a n = q.data ∧ t.badIn a n = [] ∧
      (∀ b, b < a ∨ a + n ≤ b → t.byteAt b = s.byteAt b ∧ t.badAt b = s.badAt b) ∧ t.regs = s.regs ∧ t.flight = s.flight := by
  have hframe := State.writeBytes_eq q.data s a
  subst hlen
  exact ⟨s.bytesAt_writeBytes a q.data, s.badIn_writeBytes a q.data,
    fun b hb => ⟨s.byteAt_writeBytes_out a q.data b hb, s.badAt_writeBytes_out hb⟩, by rw [hframe], by rw [hframe]⟩

/-- An atomic on a good word answers the old word and writes the new one. -/
theorem memAtom_good (hgood : s.badIn (pktAddr q) 8 = []) : s.memAtom q =
    (s.fresh.writeBytes (pktAddr q) (toBytes 8 (atomWord q.atomfn.toNat (BitVec.ofNat 64 (ofBytes (s.bytesAt (pktAddr q) 8)))
      (BitVec.ofNat 64 (ofBytes (slice q.data 0 8)))).toNat)).respond q 4 rDone (s.bytesAt (pktAddr q) 8) 0 := by
  rw [State.memAtom, State.readEffect, State.readNote_good hgood, hgood]
  rfl

/-! ### Double-bit errors (R268, R286) -/

theorem dbe_countedBy : F.VEIN_STAT_DBE.CountedBy F.VEIN_STAT_DBE_REP := ⟨rfl, rfl, rfl, rfl, rfl⟩

theorem report_keeps (s : State) (r : Report) : (s.report r).mem = s.mem ∧ (s.report r).badPar = s.badPar ∧
    (s.report r).freeCtr = s.freeCtr ∧ (s.report r).cores = s.cores ∧ (s.report r).macros = s.macros ∧
    (s.report r).host = s.host := by
  unfold State.report
  split
  · exact ⟨rfl, rfl, rfl, rfl, rfl, rfl⟩
  · simp

/-- What the check of a payload with a double-bit error leaves: flags, the place of the error and a report. -/
structure DbeNoted (s t : State) (p : Packet) : Prop where
  mem : t.mem = s.mem
  badPar : t.badPar = s.badPar
  freeCtr : t.freeCtr = s.freeCtr
  cores : t.cores = s.cores
  macros : t.macros = s.macros
  host : t.host = s.host
  reg : ∀ b, b ∉ [R.VEIN_STAT, R.VEIN_ERR_LOC, R.GLOBAL_FR_LOST] → t.reg b = s.reg b
  flag : t.on F.VEIN_STAT_DBE = true
  loc : t.reg R.VEIN_ERR_LOC = BitVec.ofNat 32 (p.dst.toNat + 2 ^ 8 + p.init.toNat * 2 ^ 12)

theorem niCheck_dbe (hsbe : p.sbe = 0) (hdbe : p.dbe ≠ 0) (s : State) : DbeNoted s (s.niCheck p) p := by
  obtain ⟨u, hu⟩ : ∃ u, u = s.flagRepN F.VEIN_STAT_DBE F.VEIN_STAT_DBE_REP (bitCount p.dbe) := ⟨_, rfl⟩
  obtain ⟨w, hw⟩ : ∃ w, w = (u.count 709 (bitCount p.dbe)).setReg R.VEIN_ERR_LOC
      (BitVec.ofNat 32 (p.dst.toNat + 2 ^ 8 + p.init.toNat * 2 ^ 12)) := ⟨_, rfl⟩
  have hcheck : s.niCheck p = w.report { mkReport 7 p.dst.toNat 0x10 0 with
      init := p.init.toNat
      addr := p.addr.toNat
      data0 := (w.reg R.VEIN_STAT).toNat } := by
    rw [State.niCheck, if_neg hdbe, if_pos hsbe, hw, hu]
  have hu_on : u.on F.VEIN_STAT_DBE = true := by
    rw [hu]
    refine (State.on_of_get (State.get_put_apart _ F.VEIN_STAT_DBE_REP F.VEIN_STAT_DBE _ rfl (.inl (by decide)))).trans ?_
    exact s.on_flag _ (by decide) rfl
  have hu_reg (b : Nat) (hb : b ≠ R.VEIN_STAT) : u.reg b = s.reg b := by
    rw [hu]
    exact (State.reg_put_ne _ F.VEIN_STAT_DBE_REP _ hb).trans (s.reg_put_ne F.VEIN_STAT_DBE _ hb)
  have hw_reg (b : Nat) (hb : b ≠ R.VEIN_ERR_LOC) : w.reg b = u.reg b := by
    rw [hw]
    exact (State.reg_setReg_ne _ _ hb).trans (State.reg_congr (State.count_regs _ _ _) b)
  have hw_loc : w.reg R.VEIN_ERR_LOC = BitVec.ofNat 32 (p.dst.toNat + 2 ^ 8 + p.init.toNat * 2 ^ 12) := by
    rw [hw]
    exact State.reg_setReg _ _ _
  obtain ⟨hmem, hbad, hfree, hcores, hmacros, hhost⟩ := report_keeps w { mkReport 7 p.dst.toNat 0x10 0 with
    init := p.init.toNat
    addr := p.addr.toNat
    data0 := (w.reg R.VEIN_STAT).toNat }
  rw [hcheck]
  refine ⟨hmem.trans ?_, hbad.trans ?_, hfree.trans ?_, hcores.trans ?_, hmacros.trans ?_, hhost.trans ?_, fun b hb => ?_, ?_, ?_⟩
  · rw [hw, hu]; rfl
  · rw [hw, hu]; rfl
  · rw [hw, hu]; rfl
  · rw [hw, hu]; rfl
  · rw [hw, hu]; rfl
  · rw [hw, hu]; rfl
  · simp only [List.mem_cons, List.not_mem_nil, or_false, not_or] at hb
    obtain ⟨hstat, hloc, hlost⟩ := hb
    rw [State.reg_report_ne w _ hlost, hw_reg b hloc, hu_reg b hstat]
  · rw [← hu_on]
    exact State.on_of_reg ((State.reg_report_ne w _ (by decide)).trans (hw_reg _ (by decide)))
  · rw [State.reg_report_ne w _ (by decide), hw_loc]

theorem windowResp_congr {w : Bool} (hdevice : isHostAddr a = false) (hcores : t.cores = s.cores) (hmacros : t.macros = s.macros)
    (hheld : ∀ c < 256, t.held c = s.held c) (hbanks : ∀ b, t.bankReleased b = s.bankReleased b) :
    t.windowResp a w = s.windowResp a w := by
  have hmacro (m : Nat) : t.macroSt m = s.macroSt m := by rw [State.macroSt, hmacros, State.macroSt]
  unfold State.windowResp
  split
  next => rfl
  next c off hcore => rw [coreLive_congr (hheld c (tgtOf_eq_core_iff.mp hcore).2.1) hcores]
  next => rfl
  next => simp only [hmacro, hbanks]
  next => rw [hmacro]
  next hhost => exact absurd hhost (of_decide_eq_false hdevice)
  next => rfl

theorem mem_setIns {m : List Nat} {x y : Nat} : x ∈ setIns m y ↔ x = y ∨ x ∈ m := by
  induction m with
  | nil => simp [setIns]
  | cons k m ih =>
    unfold setIns
    split
    · exact List.mem_cons
    · split
      next heq => simp [heq]
      next => simp only [List.mem_cons, ih, or_left_comm]

theorem mem_foldl_setIns {g : Nat → Nat} (l : List Nat) : ∀ {m : List Nat} {x : Nat},
    x ∈ l.foldl (fun m i => setIns m (g i)) m ↔ x ∈ m ∨ ∃ i ∈ l, x = g i := by
  induction l with
  | nil => simp
  | cons i l ih =>
    intro m x
    rw [List.foldl_cons, ih, mem_setIns]
    simp only [List.mem_cons, exists_eq_or_imp]
    tauto

/-- What one step of a fold makes and every step keeps holds at its end. -/
theorem foldl_makes {α β : Type} {P : β → Prop} {f : β → α → β} {y : α} (hkeep : ∀ b i, P b → P (f b i)) (hmake : ∀ b, P (f b y)) :
    ∀ (l : List α) (b : β), y ∈ l → P (l.foldl f b) := by
  have hkeeps : ∀ (l : List α) (b : β), P b → P (l.foldl f b) := by
    intro l
    induction l with
    | nil => exact fun _ h => h
    | cons i l ih => exact fun b h => ih _ (hkeep b i h)
  intro l
  induction l with
  | nil => exact fun _ h => absurd h (List.not_mem_nil)
  | cons i l ih =>
    intro b hmem
    obtain rfl | hmem := List.mem_cons.mp hmem
    · exact hkeeps l _ (hmake b)
    · exact ih _ hmem

theorem mem_badPar_poisonWord (s : State) (a : Nat) {x : Nat} :
    x ∈ (s.poisonWord a).badPar ↔ x ∈ s.badPar ∨ ∃ i ∈ List.range 8, x = 8 * (a / 8) + i :=
  mem_foldl_setIns (g := fun i => 8 * (a / 8) + i) _

/-- A word whose poison bit a write carries is stored poison. -/
theorem wordPoisoned_writePoison {l : List Byte} {w : BitVec 32} (hl : l ≠ []) (hw : w.getLsbD (a % 256 / 8) = true) (s : State) :
    (s.writePoison a l w).wordPoisoned a = true := by
  have hall : ∀ j ∈ List.range 8, 8 * (a / 8) + j ∈ (s.writePoison a l w).badPar := by
    intro j hj
    unfold State.writePoison
    refine foldl_makes (P := fun t : State => 8 * (a / 8) + j ∈ t.badPar) (y := a % 256 / 8) (fun t i ht => ?_) (fun t => ?_) _ _
      (List.mem_range.mpr (by omega))
    · split
      · exact (mem_badPar_poisonWord _ _).mpr (.inl ht)
      · exact ht
    · have hlen : 0 < l.length := List.length_pos_iff.mpr hl
      have hword : (a / 256 * 256 + 8 * (a % 256 / 8)) / 8 = a / 8 := by omega
      rw [hw, decide_eq_true (by omega), decide_eq_true (by omega), Bool.and_true, Bool.and_true, if_pos rfl,
        mem_badPar_poisonWord, hword]
      exact .inr ⟨j, hj, rfl⟩
  rw [State.wordPoisoned, List.all_eq_true]
  intro j hj
  have hbad : (s.writePoison a l w).badPar.contains (8 * (a / 8) + j) = true := List.contains_iff_mem.mpr (hall j hj)
  rw [State.badAt, hbad]
  exact ite_self _

theorem writePoison_frame (s : State) (a : Nat) (l : List Byte) (w : BitVec 32) :
    s.writePoison a l w = { s.writeBytes a l with badPar := (s.writePoison a l w).badPar } := by
  unfold State.writePoison
  refine List.foldlRecOn (motive := fun t : State => t = { s.writeBytes a l with badPar := t.badPar }) _ _ rfl fun t ht i _ => ?_
  split
  · rw [ht]
    rfl
  · exact ht

end Sys2Proof.Machine
end


section
/-!
SUPPORT. Requests at a register of the GLOBAL block (R82).
-/

namespace Sys2Proof.Machine

variable {s t : State} {p q x : Packet} {a b n : Nat}

theorem tgtOf_reg (h : a < 0x10000000) : tgtOf a = .reg a := if_pos h

/-- Accesses to registers are of the control class (R264). -/
theorem pktCtl_reg (h : tgtOf (pktAddr p) = .reg (pktAddr p)) (hop : p.op.toNat ≤ 2) : pktCtl p = true := by
  have hreg : tgtOf p.addr.toNat = .reg p.addr.toNat := h
  have hcases : p.op.toNat = 0 ∨ p.op.toNat = 1 ∨ p.op.toNat = 2 := by omega
  obtain hread | hwrite | hposted := hcases
  · simp [pktCtl, hread, hreg]
  · simp [pktCtl, hwrite, hreg]
  · simp [pktCtl, hposted, hreg]

/-- A request for a register, with a good header and payload, whose turn has come and whose way is open. -/
structure AtReg (s : State) (p : Packet) : Prop where
  addr : tgtOf (pktAddr p) = .reg (pktAddr p)
  op : p.op.toNat ≤ 2
  node : nodeOfAddr (pktAddr p) = some p.dst.toNat
  wayOpen : s.closedStop p = none
  turn : s.mustWait p = false
  header : p.hperr = 0
  payload : p.pperr = 0

theorem AtReg.parityOk (h : AtReg s p) : pktParityOk p = true := by
  simp [pktParityOk, Packet.hparGot, h.header, h.payload]

/-- It meets its register as it came: the NI checks payloads of the data class only (R268). -/
theorem AtReg.requestArrives (h : AtReg s p) : s.requestArrives p = (s.arrive p).serveRequest p := by
  have haway : s.turnedAway p = none := by simp [State.turnedAway, h.node, h.wayOpen]
  rw [State.requestArrives, h.parityOk, h.turn, haway, State.received, pktCtl_reg h.addr h.op]
  rfl

theorem AtReg.serve_read (h : AtReg s p) (hop : p.op = 0) : s.requestArrives p = (s.arrive p).regRd p := by
  rw [h.requestArrives, State.serveRequest, h.addr, if_pos hop]

theorem AtReg.serve_write (h : AtReg s p) (hop : p.op = 1) : s.requestArrives p = (s.arrive p).regWr p := by
  rw [h.requestArrives, State.serveRequest, h.addr, hop]
  rfl

/-! ### GLOBAL_SCRATCH0 -/

theorem ctlBehind_scratch0 (s : State) : s.ctlBehind R.GLOBAL_SCRATCH0 = [] := rfl

theorem regReadEffect_scratch0 (s : State) (init : Nat) : s.regReadEffect init R.GLOBAL_SCRATCH0 = s := by
  change s.ctlRead [] = s
  exact ite_self _

theorem regReadResp_scratch0 (s : State) : s.regReadResp R.GLOBAL_SCRATCH0 = rDone := by
  have hbad : s.ctlBad (s.ctlBehind R.GLOBAL_SCRATCH0) = false := ite_self _
  rw [State.regReadResp, hbad]
  rfl

theorem regRead_scratch0 (s : State) (init : Nat) : s.regRead init R.GLOBAL_SCRATCH0 = s.reg R.GLOBAL_SCRATCH0 := rfl

/-- A field that SEAL does not lock turns no write down (R6). -/
theorem regWriteResp_scratch0 (s : State) (v : Word) : s.regWriteResp R.GLOBAL_SCRATCH0 v = rDone := by
  obtain ⟨d, hd, hfields⟩ := Option.map_eq_some_iff.mp (regDefAt_scratch R.GLOBAL_SCRATCH0 (List.mem_cons_self ..))
  have hopen : s.rwlRefused R.GLOBAL_SCRATCH0 v = false := by
    simp [State.rwlRefused, hd, hfields]
  rw [State.regWriteResp, if_neg (by decide), State.writeResp, hopen]
  rfl

theorem regRd_scratch0 (ha : pktAddr p = R.GLOBAL_SCRATCH0) (hn : pktLen p = 4) (s : State) :
    s.regRd p = s.respond p 4 rDone (toBytes 4 (s.reg R.GLOBAL_SCRATCH0).toNat) 0 := by
  rw [State.regRd, ha, hn, if_neg (by decide), regReadEffect_scratch0, regReadResp_scratch0, if_pos rfl, regRead_scratch0]

theorem regWr_scratch0 (ha : pktAddr p = R.GLOBAL_SCRATCH0) (hn : pktLen p = 4) (hop : p.op = 1) (s : State) : s.regWr p =
    (s.setReg R.GLOBAL_SCRATCH0 (BitVec.ofNat 32 (ofBytes (slice p.data 0 4)))).respond p 5 rDone [] 0 := by
  rw [State.regWr, ha, hn, if_neg (by decide), if_neg (by rw [hop]; decide), regWriteResp_scratch0,
    regWrite_scratch (List.mem_cons_self ..)]

end Sys2Proof.Machine
end

section
/-!
SUPPORT. What each request leaves, as the fabric's statement asks it.
-/

namespace Sys2Proof.Machine

variable {s t : State} {p q x : Packet} {a b n : Nat}

/-- A posted write that meets a closed stop is counted there and delivered (R279). -/
theorem dropPosted_delivered (s : State) (q : Packet) (m : Nat) :
    let t := ((s.arrive q).dropPosted m).delivered q
    (t.mem = s.mem ∧ t.badPar = s.badPar ∧ t.regs = s.regs) ∧ (t.stop m).posted = oneMore (s.stop m).posted ∧
      ∃ x, t.flight = s.flight.erase q ++ [x] ∧ x.op = 10 ∧ x.txn = q.txn ∧ x.init = q.init := by
  refine ⟨⟨rfl, rfl, rfl⟩, ?_, delivered_sends _ _⟩
  exact congrArg StopSt.posted (State.stop_setStop _ _ _)

/-- A write of a clean packet at device memory. -/
theorem AtMem.write_clean (h : AtMem s q) (hop : q.op = 1) (hsbe : q.sbe = 0) (hdbe : q.dbe = 0) (hpoison : q.poison = 0)
    (hlen : q.data.length = pktLen q) (hresp : s.windowResp (pktAddr q) true = rDone) :
    s.requestArrives q = ((s.arrive q).writeBytes (pktAddr q) q.data).respond q 5 rDone [] 0 := by
  have hmem : s.memResp q = rDone := by simpa [State.memResp, hop] using hresp
  rw [h.requestArrives, h.performs hsbe hdbe hmem, State.memPerform, hop]
  exact congrArg (State.respond · q 5 rDone [] 0) (memWrite_clean hdbe hpoison hlen _)

theorem AtMem.posted_clean (h : AtMem s q) (hop : q.op = 2) (hsbe : q.sbe = 0) (hdbe : q.dbe = 0) (hpoison : q.poison = 0)
    (hlen : q.data.length = pktLen q) (hresp : s.windowResp (pktAddr q) true = rDone) :
    s.postedArrives q = ((s.arrive q).writeBytes (pktAddr q) q.data).delivered q := by
  have hmem : s.memResp q = rDone := by simpa [State.memResp, hop] using hresp
  rw [h.postedArrives, h.performs hsbe hdbe hmem, State.memPerform, hop]
  exact congrArg (State.delivered · q) (memWrite_clean hdbe hpoison hlen _)

theorem AtMem.read_clean (h : AtMem s q) (hop : q.op = 0) (hsbe : q.sbe = 0) (hdbe : q.dbe = 0)
    (hresp : s.windowResp (pktAddr q) false = rDone) : s.requestArrives q = (s.arrive q).memRead q := by
  have hmem : s.memResp q = rDone := by simpa [State.memResp, hop] using hresp
  rw [h.requestArrives, h.performs hsbe hdbe hmem, State.memPerform, hop]
  rfl

theorem AtMem.atom_clean (h : AtMem s q) (hop : q.op = 3) (hsbe : q.sbe = 0) (hdbe : q.dbe = 0)
    (hhome : atomHome (pktAddr q) = true) (hresp : s.windowResp (pktAddr q) true = rDone) :
    s.requestArrives q = (s.arrive q).memAtom q := by
  have hmem : s.memResp q = rDone := by simpa [State.memResp, hop, hhome] using hresp
  rw [h.requestArrives, h.performs hsbe hdbe hmem, State.memPerform, hop]
  rfl

/-- An atomic on a good word answers the old word, writes the new one, and leaves the bytes beside it. -/
theorem memAtom_leaves (hgood : s.badIn (pktAddr q) 8 = []) : ∃ x, (s.memAtom q).flight = s.flight ++ [x] ∧
    (x.op = 4 ∧ x.resp = 0 ∧ x.init = q.init ∧ x.txn = q.txn ∧ x.echo = q.stamp ∧ x.dst = BitVec.ofNat 8 (pktSrc q)) ∧
    x.data = s.bytesAt (pktAddr q) 8 ∧
    (s.memAtom q).bytesAt (pktAddr q) 8 = toBytes 8 (atomWord q.atomfn.toNat (BitVec.ofNat 64 (ofBytes (s.bytesAt (pktAddr q) 8)))
      (BitVec.ofNat 64 (ofBytes (slice q.data 0 8)))).toNat ∧
    ∀ b, b < pktAddr q ∨ pktAddr q + 8 ≤ b → mapFind? (s.memAtom q).mem b = mapFind? s.mem b := by
  rw [memAtom_good hgood]
  generalize (atomWord q.atomfn.toNat (BitVec.ofNat 64 (ofBytes (s.bytesAt (pktAddr q) 8)))
    (BitVec.ofNat 64 (ofBytes (slice q.data 0 8)))).toNat = new
  have hlen := toBytes_length 8 new
  have hstored := s.fresh.bytesAt_writeBytes (pktAddr q) (toBytes 8 new)
  have hout := State.find_writeBytes_out (toBytes 8 new) s.fresh (pktAddr q)
  have hframe := State.writeBytes_eq (toBytes 8 new) s.fresh (pktAddr q)
  rw [hlen] at hstored hout
  generalize s.fresh.writeBytes (pktAddr q) (toBytes 8 new) = u at hstored hout hframe ⊢
  have hflight : u.flight = s.flight := by
    rw [hframe]
    rfl
  obtain ⟨x, hsent, hanswers, hdata, -⟩ := respond_answers u q 4 rDone (s.bytesAt (pktAddr q) 8) 0
  exact ⟨x, hsent.trans (congrArg (· ++ [x]) hflight), hanswers, hdata, hstored, hout⟩

/-! ### A write with a double-bit error (R268, R286) -/

theorem bytesAt_congr (hmem : t.mem = s.mem) (hfree : t.freeCtr = s.freeCtr) (a n : Nat) : t.bytesAt a n = s.bytesAt a n := by
  simp only [State.bytesAt, State.byteAt, hmem, hfree]

theorem AtMem.accepted_dbe (h : AtMem s q) (hsbe : q.sbe = 0) (hdbe : q.dbe ≠ 0) : DbeNoted s (s.accepted q) q := by
  have hcheck := niCheck_dbe hsbe hdbe (s.arrive q)
  rw [State.accepted, State.received, h.ctl, if_neg Bool.false_ne_true]
  exact ⟨hcheck.mem, hcheck.badPar, hcheck.freeCtr, hcheck.cores, hcheck.macros, hcheck.host, hcheck.reg, hcheck.flag, hcheck.loc⟩

/-- What is noted of an error turns no access away. -/
theorem DbeNoted.windowResp (h : DbeNoted s t p) (hdevice : isHostAddr a = false) (w : Bool) :
    t.windowResp a w = s.windowResp a w := by
  refine windowResp_congr hdevice h.cores h.macros (fun c hc => State.bit_of_reg (h.reg _ ?_))
    fun b => State.bit_of_reg (h.reg _ (by decide))
  simp only [List.mem_cons, List.not_mem_nil, or_false, F.GLOBAL_CORE_HELD_HELD, R.GLOBAL_CORE_HELD, R.VEIN_STAT, R.VEIN_ERR_LOC,
    R.GLOBAL_FR_LOST]
  omega

theorem AtMem.write_dbe (h : AtMem s q) (hop : q.op = 1) (hsbe : q.sbe = 0) (hdbe : q.dbe ≠ 0) (hpoison : q.poison = 0)
    (hlen : q.data.length = pktLen q) (hresp : s.windowResp (pktAddr q) true = rDone) :
    s.requestArrives q = ((s.accepted q).writePoison (pktAddr q) q.data q.dbe).respond q 5 rDone [] 0 := by
  have hnoted := h.accepted_dbe hsbe hdbe
  have hmem : (s.accepted q).memResp q = rDone := by
    rw [← hnoted.windowResp h.device] at hresp
    simpa [State.memResp, hop] using hresp
  have htracked : (s.accepted q).trackedFrom q 0 = none := by
    rw [State.trackedFrom, hnoted.host]
    exact h.untracked
  have hpoisoned : pktPoisoned q = q.dbe := by
    rw [pktPoisoned, hpoison]
    exact BitVec.zero_or
  have hwrite : (s.accepted q).memWrite q = (s.accepted q).writePoison (pktAddr q) q.data q.dbe := by
    rw [State.memWrite, hpoisoned, ← hlen, List.take_length]
  rw [h.requestArrives, h.serveRequest hmem htracked, State.memPerform, hop, ← hwrite]
  rfl

/-- The bytes are stored, the word that they begin in is stored poison, and the error stays noted. -/
theorem DbeNoted.writePoison (h : DbeNoted s t q) (hlen : q.data.length = n) (hpos : 0 < n)
    (hbit : q.dbe.getLsbD (a % 256 / 8) = true) :
    let u := t.writePoison a q.data q.dbe
    u.on F.VEIN_STAT_DBE = true ∧ u.bytesAt a n = q.data ∧ u.wordPoisoned a = true ∧
      (u.reg R.VEIN_ERR_LOC).toNat = q.dst.toNat + 2 ^ 8 + q.init.toNat * 2 ^ 12 := by
  have hframe := writePoison_frame t a q.data q.dbe
  have hbytes := State.writeBytes_eq q.data t a
  have hregs : (t.writePoison a q.data q.dbe).regs = t.regs := by rw [hframe, hbytes]
  subst hlen
  refine ⟨(State.on_congr hregs _).trans h.flag, ?_, wordPoisoned_writePoison (List.length_pos_iff.mp hpos) hbit t, ?_⟩
  · rw [bytesAt_congr (s := t.writeBytes a q.data) (by rw [hframe]) (by rw [hframe])]
    exact t.bytesAt_writeBytes _ _
  · have hdst := q.dst.isLt
    have hinit := q.init.isLt
    rw [State.reg_congr hregs, h.loc, BitVec.toNat_ofNat]
    omega

theorem dbe_bit {k : Nat} (hk : k < 32) : (1#32 <<< k).getLsbD k = true := by simp [hk]

end Sys2Proof.Machine
end

section
/-!
PROOFS. Requests at their targets (O47).
-/

open Sys2Proof Sys2Proof.Machine

/-- Settles O47: a packet that fails its parity is dropped (`exec_badParity`), one that waits or is turned away is answered by its NI
or stop, one at device memory acts on the bytes of its range (`AtMem`), one at a register on the word (`AtReg`). -/
theorem fabricRequests : Obligations.FabricRequests := by
  unfold Obligations.FabricRequests
  intro s p a n rd wr wp am same answers
  refine ⟨fun hbad e he => ⟨_, exec_badParity hbad s e he, dropParity_leaves s _⟩,
    fun hok hwait => congrArg Host.Outcome.next (requestArrives_waits hok hwait),
    fun hok hwait => congrArg Host.Outcome.next (requestArrives_waits hok hwait),
    fun hok hturn hnode => ?noTarget, fun hok hturn hnode hclosed => ?closed, fun m hok hturn hclosed => ?posted,
    fun hnode hopen hmem hdevice hfree hheader hsbe => ?memory, fun ha hn hnode hheader hpayload => ?register⟩
  case noTarget =>
    obtain ⟨x, hflight, hanswers, -⟩ := respond_answers (s.arrive rd) rd 4 rNoTarget [] 0
    exact ⟨_, x, congrArg Host.Outcome.next (requestArrives_away hok hturn (turnedAway_noTarget hnode)), ⟨rfl, rfl, rfl⟩, hflight,
      hanswers⟩
  case closed =>
    obtain ⟨x, hflight, hanswers, -⟩ := respond_answers (s.arrive rd) rd 4 rDomainOff [] 0
    exact ⟨_, x, congrArg Host.Outcome.next (requestArrives_away hok hturn (turnedAway_closed hnode hclosed)), ⟨rfl, rfl, rfl⟩,
      hflight, hanswers⟩
  case posted =>
    obtain ⟨hsame, hcount, x, hflight, hop, htxn, hinit⟩ := dropPosted_delivered s wp m
    exact ⟨_, x, congrArg Host.Outcome.next (postedArrives_closed hok hturn hclosed), hsame, hflight, hop, htxn, hinit, hcount⟩
  case memory =>
    have hat (op : BitVec 4) (hop : op ∈ [(0 : BitVec 4), 1, 2, 3]) (hturn : s.mustWait { p with op := op } = false) :
        AtMem s { p with op := op } :=
      ⟨hmem, hdevice, (by decide : ∀ op ∈ [(0 : BitVec 4), 1, 2, 3], op.toNat ≤ 3) op hop, hnode, hopen op hop, hturn, hheader,
        hfree⟩
    refine ⟨fun hdbe hturn hresp hspec => ?read, fun hresp hdbe hpoison hlen hturn => ?dbe,
      fun hdbe hresp hpoison hlen => ⟨fun hturn => ?write, fun hturn => ?writePosted⟩, fun hdbe hturn hresp hhome hgood => ?atom⟩
    case read =>
      obtain ⟨x, hflight, hanswers, hdata, hpoison, hsame⟩ := memRead_answers (q := rd) hspec (s.arrive rd)
      exact ⟨_, x, congrArg Host.Outcome.next ((hat 0 (by decide) hturn).read_clean rfl hsbe hdbe hresp), hsame, hflight, hanswers,
        hdata, hpoison⟩
    case dbe =>
      have hbit : wr.dbe.getLsbD (a % 256 / 8) = true := hdbe ▸ dbe_bit (by omega)
      have hne : wr.dbe ≠ 0 := by
        intro hzero
        rw [hzero] at hbit
        simp at hbit
      have h := hat 1 (by decide) hturn
      exact ⟨_, congrArg Host.Outcome.next (h.write_dbe rfl hsbe hne hpoison hlen hresp),
        (h.accepted_dbe hsbe hne).writePoison hlen (Nat.succ_pos _) hbit⟩
    case write =>
      obtain ⟨hin, hgood, hout, hregs, hflight⟩ := writeBytes_leaves (q := wr) hlen (s.arrive wr) a
      obtain ⟨x, hsent, hanswers, -⟩ := respond_answers ((s.arrive wr).writeBytes a p.data) wr 5 rDone [] 0
      exact ⟨_, x, congrArg Host.Outcome.next ((hat 1 (by decide) hturn).write_clean rfl hsbe hdbe hpoison hlen hresp), hin, hgood,
        hout, hregs, hsent.trans (congrArg (· ++ [x]) hflight), hanswers⟩
    case writePosted =>
      obtain ⟨hin, -, hout, hregs, hflight⟩ := writeBytes_leaves (q := wp) hlen (s.arrive wp) a
      obtain ⟨x, hsent, hop, htxn, -⟩ := delivered_sends ((s.arrive wp).writeBytes a p.data) wp
      exact ⟨_, x, congrArg Host.Outcome.next ((hat 2 (by decide) hturn).posted_clean rfl hsbe hdbe hpoison hlen hresp), hin, hout,
        hregs, hsent.trans (congrArg (· ++ [x]) hflight), hop, htxn⟩
    case atom =>
      obtain ⟨x, hflight, hanswers, hdata, hnew, hout⟩ := memAtom_leaves (q := am) (s := s.arrive am) hgood
      exact ⟨_, x, congrArg Host.Outcome.next ((hat 3 (by decide) hturn).atom_clean rfl hsbe hdbe hhome hresp), hflight, hanswers,
        hdata, hnew, hout⟩
  case register =>
    have hat (op : BitVec 4) (hop : op.toNat ≤ 2) (hopen : s.closedStop { p with op := op } = none)
        (hturn : s.mustWait { p with op := op } = false) : AtReg s { p with op := op } :=
      ⟨tgtOf_reg (by rw [show pktAddr { p with op := op } = R.GLOBAL_SCRATCH0 from ha]; decide), hop, hnode, hopen, hturn, hheader,
        hpayload⟩
    refine ⟨fun hopen hturn => ?read, fun hopen hturn => ?write⟩
    case read =>
      have hserved := ((hat 0 (by decide) hopen hturn).serve_read rfl).trans (regRd_scratch0 (p := rd) ha hn (s.arrive rd))
      obtain ⟨x, hflight, hanswers, hdata, -⟩ := respond_answers (s.arrive rd) rd 4 rDone
        (toBytes 4 ((s.arrive rd).reg R.GLOBAL_SCRATCH0).toNat) 0
      exact ⟨_, x, congrArg Host.Outcome.next hserved, ⟨rfl, rfl, rfl⟩, hflight, hanswers, hdata⟩
    case write =>
      have hserved := ((hat 1 (by decide) hopen hturn).serve_write rfl).trans (regWr_scratch0 (p := wr) ha hn rfl (s.arrive wr))
      obtain ⟨x, hflight, hanswers, -⟩ := respond_answers ((s.arrive wr).setReg R.GLOBAL_SCRATCH0
        (BitVec.ofNat 32 (ofBytes (slice p.data 0 4)))) wr 5 rDone [] 0
      exact ⟨_, x, congrArg Host.Outcome.next hserved, rfl, State.reg_setReg _ _ _, fun b hb => State.reg_setReg_ne _ _ hb, hflight,
        hanswers⟩

end


section
/-!
SUPPORT. Responses and what they end (R97, R100, R102, R106, R278).
-/

namespace Sys2Proof.Machine

variable {s t : State} {p q x : Packet} {r : Req} {k : Core} {c rd n : Nat}

/-! ### A packet without errors -/

/-- A packet whose header and payload came through. -/
structure CleanPacket (p : Packet) : Prop where
  header : p.hperr = 0
  payload : p.pperr = 0
  sbe : p.sbe = 0
  dbe : p.dbe = 0

theorem CleanPacket.parityOk (h : CleanPacket p) : pktParityOk p = true := by
  simp [pktParityOk, Packet.hparGot, h.header, h.payload]

/-! ### The end of a request -/

/-- With nothing waiting for a transaction ID the end of a request ends it alone. -/
theorem wakeId_of_idle (h : s.idWait = []) (init : BitVec 12) : s.wakeId init = s := by
  rw [State.wakeId, h]
  rfl

theorem endReq_of_idle (h : s.idWait = []) (r : Req) : s.endReq r = { s with outst := s.outst.erase r } :=
  wakeId_of_idle (s := { s with outst := s.outst.erase r }) h r.init

theorem failOldest_of_ok (h : ∀ x ∈ s.snaps, x.err = none) (c : Nat) : s.failOldest c = s := by
  unfold State.failOldest
  split
  next => rfl
  next x hx => rw [h x (List.mem_of_find?_eq_some hx)]

/-! ### A value for a register -/

theorem Core.deliver_clean {t₀ : BitVec 12} (h : mapFind? k.pend rd = some t₀) (v : DWord) : k.deliver rd t₀ v none = k.setG rd v := if_pos h

theorem Core.find_pend_setG (hrd : rd ≠ 0) (v : DWord) : mapFind? (k.setG rd v).pend rd = none := by
  rw [Core.setG, if_neg hrd]
  exact mapFind_erase_same _ _

/-- The core after a clean answer: the register has its value, and the episode that the load triggered is over (R97). -/
def Core.answered (k : Core) (rd : Nat) (t : BitVec 12) (v : DWord) : Core :=
  { k.setG rd v with
    ra := match (k.setG rd v).ra with
      | some r => if r.txn = t then none else some r
      | none => none }

/-- With no failed load the answer changes the core, the later snapshots and nothing else. -/
theorem answerLoad_eq {t₀ : BitVec 12} (hpend : mapFind? (s.core c).pend rd = some t₀) (hok : ∀ x ∈ s.snaps, x.err = none)
    (v : DWord) : ∃ S, s.answerLoad c rd t₀ v none = State.setCore { s with snaps := S } c ((s.core c).answered rd t₀ v) := by
  unfold State.answerLoad
  extract_lets s1
  have hsnaps : ∀ x ∈ s1.snaps, x.err = none := by
    intro x hx
    obtain ⟨y, hy, rfl⟩ := List.mem_map.mp hx
    have herr := hok y (List.mem_filter.mp hy).1
    split
    · exact herr
    · exact herr
  refine ⟨s1.snaps, ?_⟩
  refine (failOldest_of_ok (by exact hsnaps) c).trans ?_
  rw [State.mapCore]
  have hdeliver : (s1.core c).deliver rd t₀ v none = (s.core c).setG rd v := Core.deliver_clean hpend v
  rw [hdeliver]
  rfl

/-- A load's answer reaches its register, and every other register is as before. -/
theorem answerLoad_leaves (hrd : rd ≠ 0) {t₀ : BitVec 12} (hpend : mapFind? (s.core c).pend rd = some t₀)
    (hok : ∀ x ∈ s.snaps, x.err = none) (v : DWord) :
    let t := s.answerLoad c rd t₀ v none
    (t.core c).gr rd = v ∧ (∀ r, r ≠ rd → (t.core c).gr r = (s.core c).gr r) ∧ mapFind? (t.core c).pend rd = none ∧
      t.outst = s.outst ∧ t.flight = s.flight ∧ t.mem = s.mem ∧ t.regs = s.regs := by
  obtain ⟨S, hS⟩ := answerLoad_eq hpend hok v
  have hgr (r : Nat) : ((s.core c).answered rd t₀ v).gr r = ((s.core c).setG rd v).gr r := rfl
  rw [hS]
  refine ⟨?_, fun r hr => ?_, ?_, rfl, rfl, rfl, rfl⟩
  · rw [State.core_setCore, hgr, Core.gr_setG, if_pos ⟨rfl, hrd⟩]
  · rw [State.core_setCore, hgr, Core.gr_setG, if_neg fun h => hr h.1]
  · rw [State.core_setCore]
    exact Core.find_pend_setG hrd v

/-! ### A response arrives -/

/-- One whose turn has come and that no drained stop drops ends its request. -/
theorem responseArrives_completes (h : CleanPacket p) (hturn : s.mustWait p = false) (hway : s.drainedStop p = none)
    (hreq : s.matchReq p = some r) : s.responseArrives p = (s.arrive p).complete r (pktRespFor p r) p.data := by
  have haccepted : (s.arrive p).received p = s.arrive p := accepted_clean h.sbe h.dbe s
  rw [State.responseArrives, h.parityOk, hturn, hway, hreq, haccepted]
  rfl

theorem responseArrives_late (h : CleanPacket p) (hturn : s.mustWait p = false) (hway : s.drainedStop p = none)
    (hreq : s.matchReq p = none) : s.responseArrives p = (s.arrive p).lateResponse p := by
  have haccepted : (s.arrive p).received p = s.arrive p := accepted_clean h.sbe h.dbe s
  rw [State.responseArrives, h.parityOk, hturn, hway, hreq, haccepted]
  rfl

theorem complete_load {size : Nat} {sg : Bool} (hkind : r.kind = .load rd size sg) (data : List Byte) :
    s.complete r rDone data =
      (s.endReq r).answerLoad r.init.toNat rd r.txn (extendLoad size sg (slice data 0 size)) none := by
  rw [State.complete, hkind]
  rfl

theorem complete_store (hkind : r.kind = .store) (resp : Nat) (data : List Byte) : s.complete r resp data =
    if resp = rDone then s.endReq r else (s.endReq r).defer r.init.toNat 0x08 resp r.addr := by
  rw [State.complete, hkind]

theorem lateRsp_countedBy : F.VEIN_STAT_LATE_RSP.CountedBy F.VEIN_STAT_LATE_REP := ⟨rfl, rfl, rfl, rfl, rfl⟩

/-- A response that answers no request is flagged, and no core sees it (R278). -/
theorem lateResponse_leaves (hidle : s.idWait = []) (p : Packet) :
    let t := s.lateResponse p
    t.on F.VEIN_STAT_LATE_RSP = true ∧ t.outst = s.outst ∧ t.cores = s.cores ∧ t.flight = s.flight := by
  obtain ⟨u, hu⟩ : ∃ u, u = (s.flagRep F.VEIN_STAT_LATE_RSP F.VEIN_STAT_LATE_REP).count 713 1 := ⟨_, rfl⟩
  have hidleu : u.idWait = [] := by rw [hu, State.count_idWait, State.flagRep_idWait, hidle]
  have hlate : s.lateResponse p =
      { u with resIds := u.resIds.filter (fun x => !(decide (x.1 = p.init) && decide (x.2 = p.txn))) } := by
    rw [State.lateResponse, ← hu]
    exact wakeId_of_idle (by exact hidleu) p.init
  rw [hlate]
  refine ⟨?_, ?_, ?_, ?_⟩
  · have hon : u.on F.VEIN_STAT_LATE_RSP = true := by
      rw [hu]
      exact (State.on_congr (State.count_regs _ _ _) _).trans (State.on_flagRep lateRsp_countedBy _)
    exact hon
  · exact (congrArg State.outst hu).trans (by rw [State.count_outst, State.flagRep_outst])
  · exact (congrArg State.cores hu).trans (by rw [State.count_cores, State.flagRep_cores])
  · exact (congrArg State.flight hu).trans (by rw [State.count_flight, State.flagRep_flight])

/-! ### Acknowledgements and deliveries (R228, R274) -/

theorem ackArrives_notice (h : CleanPacket p) (hway : s.drainedStop p = none) (hreq : s.findReq p.init p.txn = some r)
    {tok : BitVec 15} {t₀ : Nat} {free : Bool} (hkind : r.kind = .notice tok t₀ free) :
    s.ackArrives p = ((s.arrive p).endReq r).tokAcked tok.toNat free := by
  simp only [State.ackArrives, h.parityOk, hway, hreq, hkind]
  rfl

theorem deliveryArrives_other (h : CleanPacket p) (hway : s.drainedStop p = none) (hreq : s.findReq p.init p.txn = some r)
    (hkind : r.kind = .other) : s.deliveryArrives p = (s.arrive p).endReq r := by
  simp only [State.deliveryArrives, h.parityOk, hway, hreq, hkind]
  rfl

end Sys2Proof.Machine
end


section
/-!
SUPPORT. Events, eMarks, notices, timeouts, drained stops and the host's answers (R215, R227 to R229, R255, R264, R278 to R280,
R335).
-/

namespace Sys2Proof.Machine

variable {s t : State} {p q x : Packet} {r : Req} {c n u h : Nat}

/-! ### A load's answer (R100) -/

/-- The answer ends the request, writes its register, and changes no other register and no memory. -/
theorem load_returns {rd size : Nat} {sg : Bool} (hp : CleanPacket p) (hidle : s.idWait = []) (hturn : s.mustWait p = false)
    (hway : s.drainedStop p = none) (hreq : s.matchReq p = some r) (hkind : r.kind = .load rd size sg)
    (hresp : pktRespFor p r = rDone) (hrd : rd ≠ 0) (hpend : mapFind? (s.core r.init.toNat).pend rd = some r.txn)
    (hok : ∀ x ∈ s.snaps, x.err = none) :
    let t := s.responseArrives p
    (t.core r.init.toNat).gr rd = extendLoad size sg (slice p.data 0 size) ∧
      (∀ x, x ≠ rd → (t.core r.init.toNat).gr x = (s.core r.init.toNat).gr x) ∧
      mapFind? (t.core r.init.toNat).pend rd = none ∧ t.outst = s.outst.erase r ∧ t.flight = s.flight.erase p ∧
      t.mem = s.mem ∧ t.regs = s.regs := by
  obtain ⟨u, hu⟩ : ∃ u : State, u = { s.arrive p with outst := s.outst.erase r } := ⟨_, rfl⟩
  have hended : (s.arrive p).endReq r = u := (endReq_of_idle (s := s.arrive p) hidle r).trans hu.symm
  obtain ⟨hcore, hsnaps, houtst, hflight, hmem, hregs⟩ : u.core r.init.toNat = s.core r.init.toNat ∧ u.snaps = s.snaps ∧
      u.outst = s.outst.erase r ∧ u.flight = s.flight.erase p ∧ u.mem = s.mem ∧ u.regs = s.regs :=
    hu ▸ ⟨rfl, rfl, rfl, rfl, rfl, rfl⟩
  rw [responseArrives_completes hp hturn hway hreq, hresp, complete_load hkind, hended]
  obtain ⟨hgr, hothers, hnone, houtst', hflight', hmem', hregs'⟩ := answerLoad_leaves (s := u) hrd (hcore ▸ hpend) (hsnaps ▸ hok)
    (extendLoad size sg (slice p.data 0 size))
  exact ⟨hgr, fun x hx => (hothers x hx).trans (congrArg (Core.gr · x) hcore), hnone, houtst'.trans houtst, hflight'.trans hflight,
    hmem'.trans hmem, hregs'.trans hregs⟩

/-! ### Events (R215) -/

theorem eventArrives_sieve (hp : CleanPacket p) (hopen : s.closedStop p = none) (hstop : stratumOfNode p.dst.toNat = some u) :
    s.eventArrives p =
      (s.arrive p).event u p.eventId (if p.tokV then some p.token else none) (pktWord p) (pktStamp p) := by
  simp only [State.eventArrives, hp.parityOk, hopen, hstop]
  rfl

theorem eventArrives_untokened (hp : CleanPacket p) (hopen : s.closedStop p = none) (hstop : stratumOfNode p.dst.toNat = some u)
    (htok : p.tokV = false) : s.eventArrives p = (s.arrive p).event u p.eventId none (pktWord p) (pktStamp p) := by
  rw [eventArrives_sieve hp hopen hstop, htok]
  rfl

theorem eventArrives_closed (hp : CleanPacket p) (hclosed : s.closedStop p = some n) :
    s.eventArrives p = (s.arrive p).dropOther n := by
  simp only [State.eventArrives, hp.parityOk, hclosed]
  rfl

/-- An event without a token that no thread waits for becomes pending. -/
theorem event_pends {id : BitVec 16} (hwait : (s.sieve u).waitq = []) (hnew : id.toNat ∉ (s.sieve u).pend) (data stamp : Word) :
    id.toNat ∈ ((s.event u id none data stamp).sieve u).pend ∧
      ((s.event u id none data stamp).sieve u).threads = (s.sieve u).threads := by
  have hpend : (s.sieve u).pend.contains id.toNat = false := by
    rw [← Bool.not_eq_true, List.contains_iff_mem]
    exact hnew
  have heq : s.event u id none data stamp =
      (s.setSieve u { s.sieve u with pend := setIns (s.sieve u).pend id.toNat }).count (sieveEvent u 3) 1 := by
    simp only [State.event, hwait, hpend]
    rfl
  have hsieve : (s.event u id none data stamp).sieve u = { s.sieve u with pend := setIns (s.sieve u).pend id.toNat } := by
    rw [heq]
    exact State.sieve_setSieve _ _ _
  rw [hsieve]
  exact ⟨mem_setIns.mpr (.inl rfl), rfl⟩

/-- A packet dropped at a closed stop is counted there (R279). -/
theorem dropOther_leaves (s : State) (p : Packet) (n : Nat) :
    let t := (s.arrive p).dropOther n
    t.sieves = s.sieves ∧ t.regs = s.regs ∧ (t.stop n).other = oneMore (s.stop n).other :=
  ⟨rfl, rfl, congrArg StopSt.other (State.stop_setStop _ _ _)⟩

/-! ### eMarks (R255) -/

theorem emarkArrives_mover (hp : CleanPacket p) (hopen : s.closedStop p = none) (hstop : stratumOfNode p.dst.toNat = some u) :
    s.emarkArrives p = (s.arrive p).emark u p.channel.toNat (pktStamp p) := by
  simp only [State.emarkArrives, hp.parityOk, hopen, hstop]
  rfl

theorem emarkArrives_closed (hp : CleanPacket p) (hclosed : s.closedStop p = some n) :
    s.emarkArrives p = (s.arrive p).dropOther n := by
  simp only [State.emarkArrives, hp.parityOk, hclosed]
  rfl

/-- An eMark of a channel that does not wait for one counts in EMARKS. -/
theorem emark_counts {ch : Nat} (hch : ch < 64) (hstate : s.chState u ch ≠ chEwait)
    (hroom : s.get (F.MOVER_CH_STAT_EMARKS u ch) < 255) (stamp : Word) :
    (s.emark u ch stamp).get (F.MOVER_CH_STAT_EMARKS u ch) = s.get (F.MOVER_CH_STAT_EMARKS u ch) + 1 := by
  have hchans : ¬ chansOf u ≤ ch := by
    unfold chansOf
    split <;> omega
  unfold State.emark
  extract_lets s0 c s1
  rw [if_neg hchans, if_neg (by omega), if_neg hstate]
  have hput : s1.get (F.MOVER_CH_STAT_EMARKS u ch) = (s.get (F.MOVER_CH_STAT_EMARKS u ch) + 1) % 2 ^ 8 :=
    s0.get_put (F.MOVER_CH_STAT_EMARKS u ch) _ (Nat.le_refl 32)
  rw [hput]
  omega

/-! ### Notices at the queue manager (R227, R229) -/

/-- The one packet in flight, a notice for the queue manager, is acted on and acknowledged. -/
theorem noticeArrives_qm (hp : CleanPacket p) (hflight : s.flight = [p]) (hopen : s.closedStop p = none) (hqm : p.channel = 21) :
    let t := s.noticeArrives p
    t.mirror recvQm p.token.toNat = mirrorAfter (noticeState p) ∧
      ∃ x, t.flight = [x] ∧ x.op = 9 ∧ x.token = p.token ∧ x.txn = p.txn := by
  have hnone : (s.flight.takeWhile (fun q => q ≠ p)).any (fun q =>
      decide (q.op = 8) && decide (q.token = p.token) && decide (q.channel = p.channel)) = false := by
    rw [hflight]
    simp
  have harrive : s.noticeArrives p =
      ((s.arrive p).qmNotice p.token.toNat (mirrorAfter (noticeState p))).send (tokAck p) := by
    rw [State.noticeArrives, hp.parityOk, hnone, hopen, hqm]
    rfl
  have hempty : s.flight.erase p = [] := by
    rw [hflight]
    simp
  rw [harrive]
  refine ⟨State.mirror_setMirror _ _ _ _, State.inject _ (tokAck p), congrArg (· ++ [_]) hempty, ?_⟩
  rw [inject_frame]
  exact ⟨rfl, rfl, rfl⟩

theorem mirrorAfter_free (h : p.state = 0) : mirrorAfter (noticeState { p with op := 8 }) = .open_ := by
  rw [noticeState, h]
  rfl

theorem mirrorAfter_notice (h : 2 ≤ p.state.toNat) :
    mirrorAfter (noticeState { p with op := 8 }) = if p.state = 2 then .committed else .squashed := by
  have hcases : p.state = 2 ∨ p.state = 3 := by
    have hlt := p.state.isLt
    obtain h2 | h3 : p.state.toNat = 2 ∨ p.state.toNat = 3 := by omega
    · exact .inl (BitVec.eq_of_toNat_eq h2)
    · exact .inr (BitVec.eq_of_toNat_eq h3)
  obtain hstate | hstate := hcases <;> rw [noticeState, hstate] <;> rfl

/-- A write response says how its write went, whatever its payload. -/
theorem pktRespFor_write (r : Req) : pktRespFor { p with op := 5 } r = p.resp.toNat :=
  if_neg fun h => absurd h.1 (by decide : ¬ (5 : BitVec 4) = 4)

/-! ### Packets without an operation (R264) -/

theorem badOp_leaves (s : State) (p : Packet) :
    let t := ((s.arrive p).flag F.VEIN_STAT_BAD_OP).count 727 1
    t.on F.VEIN_STAT_BAD_OP = true ∧ t.flight = s.flight.erase p ∧ t.mem = s.mem ∧ t.outst = s.outst :=
  ⟨(State.on_congr (State.count_regs _ _ _) _).trans ((s.arrive p).on_flag F.VEIN_STAT_BAD_OP (by decide) rfl), rfl, rfl, rfl⟩

theorem exec_badOp (hp : CleanPacket p) {node : BitVec 8} (hstop : stopOk node.toNat = true) (hop : 11 ≤ p.op.toNat) :
    exec (.badOp p node) s = .next (((s.arrive p).flag F.VEIN_STAT_BAD_OP).count 727 1) := by
  change execBadOp p node s = _
  rw [execBadOp, hstop, hp.parityOk, if_pos hop]
  rfl

/-! ### Timeouts (R278) -/

theorem report_idle (s : State) (r : Report) : (s.report r).idWait = s.idWait ∧ (s.report r).outst = s.outst ∧
    (s.report r).resIds = s.resIds ∧ (s.report r).cores = s.cores ∧ (s.report r).mem = s.mem := by
  unfold State.report
  split
  · exact ⟨rfl, rfl, rfl, rfl, rfl⟩
  · simp

theorem reserveId_leaves (s : State) (r : Req) : (s.reserveId r).idWait = s.idWait ∧ (s.reserveId r).outst = s.outst ∧
    (s.reserveId r).resIds = s.resIds ++ [(r.init, r.txn)] ∧ (s.reserveId r).cores = s.cores ∧ (s.reserveId r).mem = s.mem := by
  unfold State.reserveId
  extract_lets s1
  split
  · exact ⟨rfl, rfl, rfl, rfl, rfl⟩
  · exact ⟨rfl, rfl, rfl, rfl, rfl⟩

/-- A store whose timer expires ends with a deferred error, and its transaction ID stays reserved. -/
theorem timeout_store {init txn : BitVec 12} (hidle : s.idWait = []) (hreq : s.findReq init txn = some r) (hkind : r.kind = .store) :
    let t := s.timeout init txn
    t.outst = s.outst.erase r ∧ t.resIds = s.resIds ++ [(r.init, r.txn)] ∧
      (t.core r.init.toNat).deferred = (s.core r.init.toNat).deferred ++ [⟨0x08, rTimeout, r.addr⟩] ∧ t.mem = s.mem := by
  obtain ⟨hidle1, houtst1, hres1, hcores1, hmem1⟩ := reserveId_leaves s r
  obtain ⟨u, hu⟩ : ∃ u, u = ((s.reserveId r).count (if reqControl r then 711 else 712) 1).report
      { mkReport 7 (nodeOfInit init.toNat) 0x11 0 with
        init := init.toNat
        addr := r.addr.toNat } := ⟨_, rfl⟩
  obtain ⟨hidle2, houtst2, hres2, hcores2, hmem2⟩ : u.idWait = s.idWait ∧ u.outst = s.outst ∧
      u.resIds = s.resIds ++ [(r.init, r.txn)] ∧ u.cores = s.cores ∧ u.mem = s.mem := by
    obtain ⟨h1, h2, h3, h4, h5⟩ := report_idle ((s.reserveId r).count (if reqControl r then 711 else 712) 1)
      { mkReport 7 (nodeOfInit init.toNat) 0x11 0 with
        init := init.toNat
        addr := r.addr.toNat }
    rw [hu]
    exact ⟨h1.trans hidle1, h2.trans houtst1, h3.trans hres1, h4.trans hcores1, h5.trans hmem1⟩
  have hreports : reqReports r = true := by rw [reqReports, hkind]
  have hstep : s.timeout init txn = ({ u with outst := u.outst.erase r } : State).defer r.init.toNat 0x08 rTimeout r.addr := by
    rw [State.timeout, hreq]
    simp only [hreports]
    rw [← endReq_of_idle (hidle2.trans hidle), hu]
    exact complete_store hkind rTimeout []
  rw [hstep, State.defer]
  refine ⟨congrArg (List.erase · r) houtst2, hres2, ?_, hmem2⟩
  rw [State.core_mapCore]
  exact congrArg (fun k : Core => k.deferred ++ [⟨0x08, rTimeout, r.addr⟩]) (State.core_congr hcores2 _)

/-! ### Drained stops (R280) -/

theorem exec_drained {node : BitVec 8} (hstop : stopOk node.toNat = true) (s : State) :
    exec (.drained node) s = .next (s.drain node.toNat) := if_pos hstop

theorem drain_waits (h : s.drainDone n = false) : s.drain n = s := if_neg (Bool.eq_false_iff.mp h)

theorem drain_done (h : s.drainDone n = true) (hphase : s.pwr.phase ≠ .drain) :
    s.drain n = s.setStop n { s.stop n with drained := true } := by
  rw [State.drain, if_pos h, State.drainStep, State.setStop_pwr, decide_eq_false hphase, Bool.false_and, if_neg Bool.false_ne_true]

/-! ### The host's answers (R335) -/

/-- Past the device cache, which holds no line, bytes go to host memory. -/
theorem hostPutBytes_uncached (l : List Byte) : ∀ (s : State) (h : Nat) (fetch : Bool), s.host.dc = [] →
    (∃ m, s.hostPutBytes h false false fetch l = { s with hostMem := m }) ∧
      (∀ i < l.length, mapFind? (s.hostPutBytes h false false fetch l).hostMem (h + i) = some (l.getD i 0)) ∧
      ∀ b, b < h ∨ h + l.length ≤ b → mapFind? (s.hostPutBytes h false false fetch l).hostMem b = mapFind? s.hostMem b := by
  induction l with
  | nil => exact fun s h fetch _ => ⟨⟨s.hostMem, rfl⟩, fun i hi => absurd hi (Nat.not_lt_zero i), fun b _ => rfl⟩
  | cons x l ih =>
    intro s h fetch hdc
    have hmiss : s.dcHas h = false := by
      rw [State.dcHas, hdc]
      rfl
    have hbyte (f : Bool) : s.hostWriteByte h x false false f = { s with hostMem := mapIns s.hostMem h x } := by
      simp only [State.hostWriteByte, hmiss]
      rfl
    rw [State.hostPutBytes, hbyte]
    obtain ⟨⟨m, hm⟩, hin, hout⟩ := ih { s with hostMem := mapIns s.hostMem h x } (h + 1) false hdc
    refine ⟨⟨m, hm⟩, fun i hi => ?_, fun b hb => ?_⟩
    · cases i with
      | zero => exact (hout h (.inl (Nat.lt_succ_self h))).trans (mapFind_ins_same _ _ _)
      | succ i =>
        rw [show h + (i + 1) = h + 1 + i by omega]
        exact hin i (Nat.lt_of_succ_lt_succ hi)
    · rw [List.length_cons] at hb
      exact (hout b (by omega)).trans (mapFind_ins_ne _ _ (by omega))

theorem msixNow_keeps (s : State) (v : Nat) :
    (s.msixNow v).host.reqs = s.host.reqs ∧ (s.msixNow v).mem = s.mem ∧ (s.msixNow v).hostMem = s.hostMem := by
  unfold State.msixNow
  split
  · exact ⟨rfl, rfl, rfl⟩
  · split
    · exact ⟨rfl, rfl, rfl⟩
    · unfold State.putBit
      split
      · exact ⟨rfl, rfl, rfl⟩
      · exact ⟨rfl, rfl, rfl⟩

/-- Notifications that a completed write lets go touch neither the requests at the HOST stop nor a memory (R333). -/
theorem msixRelease_keeps (s : State) (w : BitVec 12 × BitVec 12) :
    (s.msixRelease w).host.reqs = s.host.reqs ∧ (s.msixRelease w).mem = s.mem ∧ (s.msixRelease w).hostMem = s.hostMem := by
  unfold State.msixRelease
  refine List.foldlRecOn (motive := fun t : State => t.host.reqs = s.host.reqs ∧ t.mem = s.mem ∧ t.hostMem = s.hostMem) _ _
    ⟨rfl, rfl, rfl⟩ fun t ⟨hreqs, hmem, hhost⟩ e _ => ?_
  obtain ⟨hreqs', hmem', hhost'⟩ := msixNow_keeps t e.1
  exact ⟨hreqs'.trans hreqs, hmem'.trans hmem, hhost'.trans hhost⟩

/-- An answered write past the device cache puts its bytes into host memory and leaves the HOST stop. -/
theorem hostAnswer_write (hreq : s.host.reqs.find? (fun q => decide (q.init = p.init) && decide (q.txn = p.txn)) = some q)
    (hrange : s.hpa? (pktAddr q) = some h) (hop : q.op = 1) (huncached : s.hostCached (pktAddr q) false = false)
    (hdc : s.host.dc = []) :
    let t := s.hostAnswer p
    let l := q.data.take (pktLen q)
    t.host.reqs = s.host.reqs.erase q ∧ t.mem = s.mem ∧ (∀ i < l.length, mapFind? t.hostMem (h + i) = some (l.getD i 0)) ∧
      ∀ b, b < h ∨ h + l.length ≤ b → mapFind? t.hostMem b = mapFind? s.hostMem b := by
  intro t l
  obtain ⟨s1, hs1⟩ : ∃ s1 : State, s1 = { s with host := { s.host with reqs := s.host.reqs.erase q } } := ⟨_, rfl⟩
  have hpast : s1.hostCached (pktAddr q) false = false := hs1 ▸ huncached
  have hperform : s1.hostPerform q h p.data =
      ((s1.count 1118 (hostLines h l.length)).hostPutBytes h false false true l).respond q 5 rDone [] 0 := by
    simp only [State.hostPerform, hop, hpast, State.hostWriteBytes]
    rfl
  have hanswer : t = (s1.hostPerform q h p.data).msixRelease (q.init, q.txn) := by
    unfold t State.hostAnswer
    rw [hreq]
    simp only [← hs1, hrange, hop]
    rfl
  obtain ⟨hreqs1, hmem1, hhost1, hdc1⟩ : s1.host.reqs = s.host.reqs.erase q ∧ s1.mem = s.mem ∧ s1.hostMem = s.hostMem ∧
      s1.host.dc = [] := hs1 ▸ ⟨rfl, rfl, rfl, hdc⟩
  obtain ⟨⟨m, hm⟩, hin, hout⟩ := hostPutBytes_uncached l (s1.count 1118 (hostLines h l.length)) h true hdc1
  obtain ⟨hreqs, hmem, hhost⟩ := msixRelease_keeps (s1.hostPerform q h p.data) (q.init, q.txn)
  rw [hperform, hm] at hreqs hmem hhost
  rw [hm] at hin hout
  rw [hanswer, hperform, hm]
  refine ⟨hreqs.trans hreqs1, hmem.trans hmem1, fun i hi => ?_, fun b hb => ?_⟩
  · rw [hhost]
    exact hin i hi
  · rw [hhost]
    exact (hout b hb).trans (congrArg (mapFind? · b) hhost1)

end Sys2Proof.Machine
end

section
/-!
PROOFS. Answers, events and notices (O49).
-/

open Sys2Proof Sys2Proof.Machine

/-- Settles O49: a response ends its request (`responseArrives_completes`), an event or eMark reaches its unit or is counted at a
closed stop, a notice is acted on and acknowledged, and timeouts, drained stops and the host's answers end what waited. -/
theorem fabricAnswers : Obligations.FabricAnswers := by
  unfold Obligations.FabricAnswers
  intro s p rs ws ev em hheader hpayload hsbe hdbe hidle
  have hclean (op : BitVec 4) : CleanPacket { p with op := op } := ⟨hheader, hpayload, hsbe, hdbe⟩
  refine ⟨fun r rd size sg hturn hway hreq hkind hresp hrd hpend hok =>
      ⟨_, rfl, load_returns (hclean 4) hidle hturn hway hreq hkind hresp hrd hpend hok⟩,
    fun hturn hway => ⟨fun r hreq hkind => ⟨fun hdone => ?store, fun hfailed => ?storeFailed⟩, fun hnone => ⟨_, rfl, ?late⟩⟩,
    fun u hevent hemark hstop => ⟨congrArg Host.Outcome.next (eventArrives_sieve (hclean 6) hevent hstop),
      fun htok hwait hnew => ⟨_, rfl, ?pends⟩, fun hch hstate hroom => ⟨_, rfl, ?counts⟩⟩,
    fun m => ⟨fun hclosed => ⟨_, rfl, ?eventDropped⟩, fun hclosed => ⟨_, rfl, ?emarkDropped⟩⟩,
    fun hflight hopen hqm => ⟨fun hstate => ?notice, fun hstate => ?free⟩,
    fun r tok t₀ fr hway hreq hkind => congrArg Host.Outcome.next (ackArrives_notice (hclean 9) hway hreq hkind),
    fun r hway hreq hkind => congrArg Host.Outcome.next (deliveryArrives_other (hclean 10) hway hreq hkind),
    fun n hstop hop => ⟨_, exec_badOp ⟨hheader, hpayload, hsbe, hdbe⟩ hstop hop, badOp_leaves s p⟩,
    fun r hreq hkind => ⟨_, rfl, timeout_store hidle hreq hkind⟩,
    fun n hstop => ⟨fun hwait => ?waits, fun hdone hphase => ?drained⟩,
    fun q h hreq hrange hop huncached hdc => ⟨_, rfl, hostAnswer_write hreq hrange hop huncached hdc⟩⟩
  case store =>
    refine congrArg Host.Outcome.next ((responseArrives_completes (hclean 5) hturn hway hreq).trans ?_)
    have hresp : pktRespFor ws r = rDone := (pktRespFor_write r).trans (congrArg BitVec.toNat hdone)
    rw [complete_store hkind, if_pos hresp]
  case storeFailed =>
    refine congrArg Host.Outcome.next ((responseArrives_completes (hclean 5) hturn hway hreq).trans ?_)
    have hne : p.resp.toNat ≠ rDone := toNat_ne_zero.mpr hfailed
    rw [complete_store hkind, pktRespFor_write, if_neg hne]
    rfl
  case late =>
    rw [responseArrives_late (hclean 5) hturn hway hnone]
    exact lateResponse_leaves (s := s.arrive ws) hidle ws
  case pends =>
    rw [eventArrives_untokened (hclean 6) hevent hstop htok]
    exact event_pends (s := s.arrive ev) hwait hnew _ _
  case counts =>
    rw [emarkArrives_mover (hclean 7) hemark hstop]
    exact emark_counts (s := s.arrive em) hch hstate hroom _
  case eventDropped =>
    rw [eventArrives_closed (hclean 6) hclosed]
    obtain ⟨hsieves, -, hcount⟩ := dropOther_leaves s ev m
    exact ⟨hsieves, hcount⟩
  case emarkDropped =>
    rw [emarkArrives_closed (hclean 7) hclosed]
    obtain ⟨-, hregs, hcount⟩ := dropOther_leaves s em m
    exact ⟨hregs, hcount⟩
  case notice =>
    obtain ⟨hmirror, x, hsent, hop, htok, htxn⟩ := noticeArrives_qm (hclean 8) hflight hopen hqm
    refine ⟨_, x, congrArg Host.Outcome.next (if_pos hstate), hmirror.trans ?_, hsent, hop, htok, htxn⟩
    exact mirrorAfter_notice hstate
  case free =>
    have hfree : ({ p with
        op := 8
        state := 0 } : Packet) = { p with op := 8 } := by rw [← hstate]
    obtain ⟨hmirror, x, hsent, hop, -, -⟩ := noticeArrives_qm (hclean 8) hflight hopen hqm
    refine ⟨_, x, congrArg (fun q => Host.Outcome.next (s.noticeArrives q)) hfree, hmirror.trans ?_, hsent, hop⟩
    exact mirrorAfter_free hstate
  case waits =>
    rw [exec_drained hstop, drain_waits hwait]
  case drained =>
    rw [exec_drained hstop, drain_done hdone hphase]

end


section
/-!
SUPPORT. The accesses of the host: the bytes of a word, the units of a BAR0 access, doorbells, counters (R328 to R331, R446).
-/

namespace Sys2Proof.Machine

variable {s t : State} {a b i n : Nat}

/-! ### Little-endian bytes -/

theorem toBytes_mod (n x : Nat) : toBytes n (x % 2 ^ (8 * n)) = toBytes n x := by
  refine List.map_congr_left fun i hi => BitVec.eq_of_getLsbD_eq fun j hj => ?_
  have hlt : 8 * i + j < 8 * n := by have := List.mem_range.mp hi; omega
  simp only [BitVec.getLsbD_ofNat, Nat.testBit_shiftRight, Nat.testBit_mod_two_pow, hlt, decide_true, Bool.true_and]

theorem toBytes_append (m n x : Nat) : toBytes m x ++ toBytes n (x >>> (8 * m)) = toBytes (m + n) x := by
  simp only [toBytes, List.range_add, List.map_append, List.map_map, ← Nat.shiftRight_add]
  congr 2
  funext i
  simp [Nat.mul_add]

/-- The two halves that PERF_CNT_LO and PERF_CNT_HI give are the counter's eight bytes. -/
theorem toBytes_counter (c : BitVec 48) :
    toBytes 4 (c.truncate 32).toNat ++ toBytes 4 (((c >>> 32).truncate 16).setWidth 32).toNat = toBytes 8 c.toNat := by
  have hlow : toBytes 4 (c.truncate 32).toNat = toBytes 4 c.toNat := by
    rw [BitVec.truncate_eq_setWidth, BitVec.toNat_setWidth]
    exact toBytes_mod 4 _
  have hhigh : (((c >>> 32).truncate 16).setWidth 32).toNat = c.toNat >>> 32 := by
    have := c.isLt
    simp only [BitVec.truncate_eq_setWidth, BitVec.toNat_setWidth, BitVec.toNat_ushiftRight, Nat.shiftRight_eq_div_pow]
    omega
  rw [hlow, hhigh]
  exact toBytes_append 4 4 _

theorem ofBytes_four (b0 b1 b2 b3 : Byte) : BitVec.ofNat 32 (ofBytes [b0, b1, b2, b3]) = b3 ++ b2 ++ b1 ++ b0 := by
  apply BitVec.eq_of_toNat_eq
  have h0 := b0.isLt
  have h1 := b1.isLt
  have h2 := b2.isLt
  have h3 := b3.isLt
  have happend {m : Nat} (x : BitVec m) (y : Byte) : (x ++ y).toNat = x.toNat * 256 + y.toNat := by
    rw [BitVec.toNat_append, ← Nat.shiftLeft_add_eq_or_of_lt y.isLt, Nat.shiftLeft_eq]
  rw [happend, happend, happend, BitVec.toNat_ofNat]
  simp only [ofBytes, List.foldr_cons, List.foldr_nil]
  omega

/-! ### The one unit of an aligned access of four bytes (R328) -/

/-- Byte enables of an aligned word. -/
def fullBe : List Bool := [true, true, true, true]

theorem unitBe_add (off d : Nat) (be : List Bool) : unitBe off be (off + d) = unitBe 0 be d := by
  simp [unitBe, beAt, Nat.add_assoc]

theorem unitBe_fullBe (off : Nat) : unitBe off fullBe off = 4 := unitBe_add off 0 fullBe

theorem unitsOf_fullBe {off : Nat} (h : off % 4 = 0) : unitsOf off fullBe = [off] := by
  have hbase : off / 4 * 4 = off := by omega
  have hfilter : (List.range 17).filter (fun i => unitBe 0 fullBe (4 * i) ≠ 0) = [0] := by decide
  have hunit : ((fun u => decide (unitBe off (fullBe.take 64) u ≠ 0)) ∘ fun i => off + 4 * i) =
      fun i => decide (unitBe 0 fullBe (4 * i) ≠ 0) := by
    funext i
    exact congrArg (fun n => decide (n ≠ 0)) (unitBe_add off (4 * i) fullBe)
  rw [unitsOf, hbase, List.filter_map, hunit, hfilter]
  rfl

theorem unitWord_self (off : Nat) (b0 b1 b2 b3 : Byte) : unitWord off [b0, b1, b2, b3] off = b3 ++ b2 ++ b1 ++ b0 := by
  rw [← ofBytes_four]
  simp [unitWord, List.range_succ]

/-- The answer's bytes are those of the one word that was read. -/
theorem barRead_bytes {off : Nat} (h : off % 4 = 0) (u : State) (f : Option (Nat × Nat)) (w : Word) :
    (List.range 4).map (fun i => (⟨u, f, [(off, w)]⟩ : BarRead).byte (off + i)) = toBytes 4 w.toNat := by
  refine List.map_congr_left fun i hi => ?_
  have hlt := List.mem_range.mp hi
  have hword : (off + i) / 4 * 4 = off := by omega
  have hbyte : (off + i) % 4 = i := by omega
  simp [BarRead.byte, hword, hbyte, mapGet, mapFind?]

theorem bar0Read_done {off : Nat} (hup : s.linkIsUp = true) (h : off % 4 = 0)
    (hresp : s.linkAwake.portReadResp hostInit off = rDone) :
    s.bar0Read off fullBe = (s.linkAwake.portRead hostInit off).emit
      (.readData (toBytes 4 (s.linkAwake.portReadWord hostInit off).toNat) true) := by
  rw [← barRead_bytes h (s.linkAwake.portRead hostInit off) none]
  simp only [State.bar0Read, hup, unitsOf_fullBe h, List.foldl_cons, List.foldl_nil, BarRead.unit,
    show fullBe.take 64 = fullBe from rfl, unitBe_fullBe, hresp]
  rfl

/-- A read that is not answered DONE is latched, and the host has all ones. -/
theorem bar0Read_fails {off : Nat} (hup : s.linkIsUp = true) (h : off % 4 = 0)
    (hresp : s.linkAwake.portReadResp hostInit off ≠ rDone) :
    let e := (s.linkAwake.portRead hostInit off).barErr off (s.linkAwake.portReadResp hostInit off) false
    s.bar0Read off fullBe = e.emit (.readData (toBytes 4 (0xFFFFFFFF : Word).toNat) (!e.on F.HOST_CTRL_ERR_UR)) := by
  rw [← barRead_bytes h (s.linkAwake.portRead hostInit off) (some (off, s.linkAwake.portReadResp hostInit off))]
  simp only [State.bar0Read, hup, unitsOf_fullBe h, List.foldl_cons, List.foldl_nil, BarRead.unit,
    show fullBe.take 64 = fullBe from rfl, unitBe_fullBe, Bool.not_true, Bool.false_eq_true, if_false, decide_true, if_true,
    ne_eq, hresp, not_false_eq_true, Option.isNone_none, Bool.and_self]
  rfl

theorem bar0Write_done {off : Nat} {b0 b1 b2 b3 : Byte} (hup : s.linkIsUp = true) (h : off % 4 = 0)
    (hresp : s.linkAwake.portWriteResp hostInit off (b3 ++ b2 ++ b1 ++ b0) = rDone) :
    s.bar0Write off [b0, b1, b2, b3] fullBe = s.linkAwake.portWrite hostInit off (b3 ++ b2 ++ b1 ++ b0) := by
  simp only [State.bar0Write, hup, unitsOf_fullBe h, List.foldl_cons, List.foldl_nil, barWriteUnit,
    show fullBe.take 64 = fullBe from rfl, unitBe_fullBe, unitWord_self, hresp]
  rfl

/-- UR goes out where HOST_CTRL asks for it. -/
def State.answerUr (s : State) : State := if s.on F.HOST_CTRL_ERR_UR then s.emit .unsupported else s

theorem bar0Write_fails {off : Nat} {b0 b1 b2 b3 : Byte} (hup : s.linkIsUp = true) (h : off % 4 = 0)
    (hresp : s.linkAwake.portWriteResp hostInit off (b3 ++ b2 ++ b1 ++ b0) ≠ rDone) :
    s.bar0Write off [b0, b1, b2, b3] fullBe = ((s.linkAwake.portWrite hostInit off (b3 ++ b2 ++ b1 ++ b0)).barErr off
      (s.linkAwake.portWriteResp hostInit off (b3 ++ b2 ++ b1 ++ b0)) true).answerUr := by
  simp only [State.bar0Write, hup, unitsOf_fullBe h, List.foldl_cons, List.foldl_nil, barWriteUnit,
    show fullBe.take 64 = fullBe from rfl, unitBe_fullBe, unitWord_self, Bool.not_true, Bool.false_eq_true, if_false,
    decide_true, if_true, ne_eq, hresp, not_false_eq_true, Option.isNone_none, Bool.and_self]
  rfl

/-- HOST_BAR_ERR takes a word, BAR_ERR is set, and the failure is counted. -/
def State.latchBarErr (s : State) (v : Word) : State := ((s.setReg R.HOST_BAR_ERR v).flag F.HOST_STAT_BAR_ERR).count 1130 1

theorem barErr_eq (s : State) (u resp : Nat) (w : Bool) :
    s.barErr u resp w = s.latchBarErr (BitVec.ofNat 32 (u % 2 ^ 28 + resp * 2 ^ 28 + (if w then 2 ^ 31 else 0))) := rfl

theorem on_latchBarErr (s : State) (v : Word) : (s.latchBarErr v).on F.HOST_STAT_BAR_ERR = true := by
  rw [State.latchBarErr, State.on_congr (State.count_regs _ _ _)]
  exact State.on_flag _ _ (by decide) rfl

theorem reg_latchBarErr (s : State) (v : Word) : (s.latchBarErr v).reg R.HOST_BAR_ERR = v := by
  rw [State.latchBarErr, State.reg_congr (State.count_regs _ _ _), State.flag, State.reg_put_ne _ _ _ (by decide), State.reg_setReg]

theorem mem_latchBarErr (s : State) (v : Word) : (s.latchBarErr v).mem = s.mem := rfl

theorem out_latchBarErr (s : State) (v : Word) : (s.latchBarErr v).out = s.out := rfl

theorem on_barErr (s : State) (u resp : Nat) (w : Bool) : (s.barErr u resp w).on F.HOST_STAT_BAR_ERR = true := by
  rw [barErr_eq, on_latchBarErr]

theorem mem_barErr (s : State) (u resp : Nat) (w : Bool) : (s.barErr u resp w).mem = s.mem := by
  rw [barErr_eq, mem_latchBarErr]

theorem out_barErr (s : State) (u resp : Nat) (w : Bool) : (s.barErr u resp w).out = s.out := by
  rw [barErr_eq, out_latchBarErr]

theorem reg_barErr (s : State) (resp : Nat) {u : Nat} (hu : u < 2 ^ 28) :
    (s.barErr u resp true).reg R.HOST_BAR_ERR = BitVec.ofNat 32 (u + resp * 2 ^ 28 + 2 ^ 31) := by
  rw [barErr_eq, reg_latchBarErr, Nat.mod_eq_of_lt hu, if_pos rfl]

theorem answerUr_regs (s : State) : s.answerUr.regs = s.regs := by
  unfold State.answerUr
  split <;> rfl

theorem answerUr_out (s : State) (h : s.answerUr.on F.HOST_CTRL_ERR_UR = true) : s.answerUr.out = s.out ++ [.unsupported] := by
  rw [State.on_congr (answerUr_regs s)] at h
  rw [State.answerUr, if_pos h]
  rfl

theorem answerUr_barErr (s : State) (resp : Nat) {u : Nat} (hu : u < 2 ^ 28) :
    let t := (s.barErr u resp true).answerUr
    t.on F.HOST_STAT_BAR_ERR = true ∧ (t.on F.HOST_CTRL_ERR_UR = true → t.out = s.out ++ [.unsupported]) ∧
      t.reg R.HOST_BAR_ERR = BitVec.ofNat 32 (u + resp * 2 ^ 28 + 2 ^ 31) := by
  have hregs := answerUr_regs (s.barErr u resp true)
  refine ⟨(State.on_congr hregs _).trans (on_barErr s u resp true), fun h => ?_,
    (State.reg_congr hregs _).trans (reg_barErr s resp hu)⟩
  rw [answerUr_out _ h, out_barErr]

/-! ### Doorbells (R329, R330) -/

theorem dbBad_countedBy : F.HOST_STAT_DB_BAD.CountedBy F.HOST_STAT_DB_BAD_REP := ⟨rfl, rfl, rfl, rfl, rfl⟩

theorem dbDenied_countedBy : F.HOST_STAT_DB_DENIED.CountedBy F.HOST_STAT_DB_DENIED_REP := ⟨rfl, rfl, rfl, rfl, rfl⟩

theorem bar2Write_malformed {off : Nat} {data : List Byte} (hup : s.linkIsUp = true) (h : data.length ≠ 4 ∨ off % 16 ≠ 0) :
    s.bar2Write off data = s.linkAwake.flagRep F.HOST_STAT_DB_BAD F.HOST_STAT_DB_BAD_REP := by
  rw [State.bar2Write, hup, Bool.not_true, if_neg Bool.false_ne_true]
  exact if_pos h

theorem bar2Write_denied {off : Nat} {data : List Byte} (hup : s.linkIsUp = true) (hlen : data.length = 4) (h : off % 16 = 0)
    (hpage : s.pageOn off = false) :
    s.bar2Write off data = s.linkAwake.flagRep F.HOST_STAT_DB_DENIED F.HOST_STAT_DB_DENIED_REP := by
  have hpage' : s.linkAwake.pageOn off = false := hpage
  simp [State.bar2Write, hup, hlen, h, hpage']

theorem bar2Write_rings {off : Nat} {data : List Byte} (hup : s.linkIsUp = true) (hlen : data.length = 4) (h : off % 16 = 0)
    (hpage : s.pageOn off = true) :
    s.bar2Write off data =
      (s.linkAwake.portWrite hostInit (R.QMGR_DB (off / 16)) (BitVec.ofNat 32 (ofBytes data))).count 1129 1 := by
  have hpage' : s.linkAwake.pageOn off = true := hpage
  simp [State.bar2Write, hup, hlen, h, hpage']

theorem bar2Read_elsewhere {off : Nat} (hup : s.linkIsUp = true) (h : off % 16 ≠ 4) :
    s.bar2Read off = s.linkAwake.emit (.readData (toBytes 4 0) true) := by
  simp [State.bar2Read, hup, h]

theorem bar2Read_denied {off : Nat} (hup : s.linkIsUp = true) (h : off % 16 = 4) (hpage : s.pageOn off = false) :
    s.bar2Read off = (s.linkAwake.flagRep F.HOST_STAT_DB_DENIED F.HOST_STAT_DB_DENIED_REP).emit
      (.readData (toBytes 4 0) true) := by
  have hpage' : s.linkAwake.pageOn off = false := hpage
  simp [State.bar2Read, hup, h, hpage']

theorem bar2Read_takes {off : Nat} (hup : s.linkIsUp = true) (h : off % 16 = 4) (hpage : s.pageOn off = true) :
    s.bar2Read off = (s.linkAwake.portRead hostInit (R.QMGR_TAKE (off / 16))).emit
      (.readData (toBytes 4 (s.linkAwake.portReadWord hostInit (R.QMGR_TAKE (off / 16))).toNat) true) := by
  have hpage' : s.linkAwake.pageOn off = true := hpage
  simp [State.bar2Read, hup, h, hpage']

/-! ### Counters through BAR4 (R331, R446, R449) -/

theorem userDenied_countedBy : F.PERF_STAT_USER_DENIED.CountedBy F.PERF_STAT_DENIED_REP := ⟨rfl, rfl, rfl, rfl, rfl⟩

theorem regReaches_of_nodeOfReg (init : Nat) (h : nodeOfReg a = nodeOfReg b) : s.regReaches init a = s.regReaches init b := by
  rw [State.regReaches, State.regReaches, State.regValid, State.regValid, h]

theorem nodeOfReg_perf (h : a / 2 ^ 24 = 13) : nodeOfReg a = nodeOfReg R.PERF_STAT := by
  simp only [nodeOfReg, h]
  rfl

theorem unitAt_miss {base stride n : Nat} (h : ¬(base ≤ a ∧ (a - base) / stride < n)) : unitAt base stride n a = none :=
  if_neg h

theorem unitAt_word (base n : Nat) {d : Nat} (hi : i < n) (hd : d < 8) : unitAt base 8 n (base + 8 * i + d) = some (i, d) := by
  have hoff : base + 8 * i + d - base = 8 * i + d := by omega
  have hdiv : (8 * i + d) / 8 = i := by omega
  have hmod : (8 * i + d) % 8 = d := by omega
  rw [unitAt, hoff, hdiv, hmod, if_pos ⟨by omega, hi⟩]

/-- No queue's or sieve's window lies among the counter registers. -/
theorem perf_windows (h : a / 2 ^ 24 = 13) :
    unitAt (R.QMGR_TAKE 0) 4 (2 ^ 18) a = none ∧ unitAt (R.SIEVE_CTRL 0) 0x40000 8 a = none ∧ inQWindow a = false ∧
      a ≠ R.CORR_TBL_DATA := by
  have hlo : 0xD000000 ≤ a := by omega
  have htake : R.QMGR_TAKE 0 + 4 * 2 ^ 18 ≤ 0xD000000 := by decide
  have hsieve : R.SIEVE_CTRL 0 + 0x40000 * 8 ≤ 0xD000000 := by decide
  have hqueue : R.QMGR_Q_NOTIFY < 0xD000000 := by decide
  have hcorr : R.CORR_TBL_DATA < 0xD000000 := by decide
  refine ⟨unitAt_miss (by omega), unitAt_miss (by omega), ?_, by omega⟩
  have hpast : ¬ a ≤ R.QMGR_Q_NOTIFY := by omega
  simp [inQWindow, hpast]

theorem ctlBehind_perf (h : a / 2 ^ 24 = 13) : s.ctlBehind a = [] := by
  obtain ⟨htake, hsieve, hqueue, hcorr⟩ := perf_windows h
  rw [State.ctlBehind, htake, hsieve, hqueue, if_neg Bool.false_ne_true, if_neg hcorr]

theorem regReadResp_perf (h : a / 2 ^ 24 = 13) : s.regReadResp a = rDone := by
  simp [State.regReadResp, ctlBehind_perf h, State.ctlBad]

theorem regRead_perf (init : Nat) (h : a / 2 ^ 24 = 13) : s.regRead init a = s.perfView init a := by
  simp only [State.regRead, h]

theorem perfCntLo_eq (i : Nat) : R.PERF_CNT_LO i = R.PERF_CNT_LO 0 + 8 * i := by simp [R.PERF_CNT_LO]

theorem perfBlock (hi : i < 1184) {d : Nat} (hd : d < 8) : (R.PERF_CNT_LO i + d) / 2 ^ 24 = 13 := by
  rw [R.PERF_CNT_LO]
  omega

theorem unitAt_perf (hi : i < 1184) {d : Nat} (hd : d < 8) :
    unitAt (R.PERF_CNT_LO 0) 8 1184 (R.PERF_CNT_LO i + d) = some (i, d) := by
  rw [perfCntLo_eq]
  exact unitAt_word _ _ hi hd

/-- A counter register is no PERF_LAST_AT. -/
theorem perfCnt_ne_lastAt (i d : Nat) : R.PERF_CNT_LO i + d ≠ R.PERF_LAST_AT := by
  have h : R.PERF_LAST_AT < R.PERF_CNT_LO 0 := by decide
  rw [perfCntLo_eq]
  omega

theorem perfView_low (init : Nat) (hi : i < 1184) : s.perfView init (R.PERF_CNT_LO i) = (s.counter i).truncate 32 := by
  have hunit : unitAt (R.PERF_CNT_LO 0) 8 1184 (R.PERF_CNT_LO i) = some (i, 0) := unitAt_perf hi (d := 0) (by decide)
  have hne : R.PERF_CNT_LO i ≠ R.PERF_LAST_AT := perfCnt_ne_lastAt i 0
  rw [State.perfView, if_neg hne, hunit]
  rfl

theorem perfView_high (init : Nat) (hi : i < 1184) : s.perfView init (R.PERF_CNT_LO i + 4) = s.counterHi init i := by
  rw [State.perfView, if_neg (perfCnt_ne_lastAt i 4), unitAt_perf hi (d := 4) (by decide)]
  rfl

theorem regReadEffect_perf_low (init : Nat) (hi : i < 1184) : s.regReadEffect init (R.PERF_CNT_LO i) = s.latchCounter init i := by
  have hunit : unitAt (R.PERF_CNT_LO 0) 8 1184 (R.PERF_CNT_LO i) = some (i, 0) := unitAt_perf hi (d := 0) (by decide)
  have hblock : R.PERF_CNT_LO i / 2 ^ 24 = 13 := perfBlock hi (d := 0) (by decide)
  rw [State.regReadEffect, (perf_windows hblock).1, hunit]
  rfl

theorem regReadEffect_perf_high (init : Nat) (hi : i < 1184) : s.regReadEffect init (R.PERF_CNT_LO i + 4) = s := by
  have hblock := perfBlock hi (d := 4) (by decide)
  rw [State.regReadEffect, (perf_windows hblock).1, unitAt_perf hi (d := 4) (by decide)]
  simp only [ctlBehind_perf hblock, State.ungateAt, hblock]
  simp [State.ctlRead]

section
variable {d : Nat} (hi : i < 1184) (hd : d < 8) (hword : d % 4 = 0) (hreach : s.regReaches hostInit R.PERF_STAT = true)
include hi hd hword hreach

theorem perf_port_passes : ¬(2 ^ 28 ≤ R.PERF_CNT_LO i + d ∨ (R.PERF_CNT_LO i + d) % 4 ≠ 0) ∧
    s.regReaches hostInit (R.PERF_CNT_LO i + d) = true := by
  refine ⟨?_, (regReaches_of_nodeOfReg _ (nodeOfReg_perf (perfBlock hi hd))).trans hreach⟩
  rw [R.PERF_CNT_LO]
  omega

theorem portReadResp_perf : s.portReadResp hostInit (R.PERF_CNT_LO i + d) = rDone := by
  obtain ⟨haddr, hreg⟩ := perf_port_passes hi hd hword hreach
  rw [State.portReadResp, if_neg haddr, hreg, Bool.not_true, if_neg Bool.false_ne_true, regReadResp_perf (perfBlock hi hd)]

theorem portRead_perf : s.portRead hostInit (R.PERF_CNT_LO i + d) = s.regReadEffect hostInit (R.PERF_CNT_LO i + d) := by
  obtain ⟨haddr, hreg⟩ := perf_port_passes hi hd hword hreach
  rw [State.portRead, if_neg haddr, hreg, Bool.not_true, if_neg Bool.false_ne_true]

theorem portReadWord_perf : s.portReadWord hostInit (R.PERF_CNT_LO i + d) =
    (s.regReadEffect hostInit (R.PERF_CNT_LO i + d)).perfView hostInit (R.PERF_CNT_LO i + d) := by
  rw [State.portReadWord, if_pos (portReadResp_perf hi hd hword hreach), portRead_perf hi hd hword hreach,
    regRead_perf _ (perfBlock hi hd)]

end

theorem counter_latchCounter (s : State) (init i j : Nat) : (s.latchCounter init i).counter j = s.counter j := rfl

theorem counterHi_latchCounter (s : State) (init i : Nat) :
    (s.latchCounter init i).counterHi init i = ((s.counter i >>> 32).truncate 16).setWidth 32 :=
  congrArg (BitVec.setWidth 32) (mapGet_set_same _ _ _ _)

/-- A read of eight bytes latches the counter and answers it whole. -/
theorem bar4Read_counter {off : Nat} (hup : s.linkIsUp = true) (huser : s.on F.PERF_ACCESS_USER = true) (hoff : off < 0x2500)
    (hmod : off % 8 = 0) (hreach : s.regReaches hostInit R.PERF_STAT = true) :
    s.bar4Read off = (s.linkAwake.latchCounter hostInit (off / 8)).emit
      (.readData (toBytes 8 (s.counter (off / 8)).toNat) true) := by
  obtain ⟨u, hu⟩ : ∃ u : State, u = s.linkAwake := ⟨_, rfl⟩
  have huser' : u.on F.PERF_ACCESS_USER = true := hu ▸ huser
  have hreach' : u.regReaches hostInit R.PERF_STAT = true := hu ▸ hreach
  have hcounter : s.counter (off / 8) = u.counter (off / 8) := hu ▸ rfl
  have hi : off / 8 < 1184 := by omega
  have hbad : ¬(0x2500 ≤ off ∨ off % 4 ≠ 0) := by omega
  have hread : u.portRead hostInit (R.PERF_CNT_LO (off / 8)) = u.latchCounter hostInit (off / 8) :=
    (portRead_perf hi (d := 0) (by decide) rfl hreach').trans (regReadEffect_perf_low _ hi)
  have hlow : u.portReadWord hostInit (R.PERF_CNT_LO (off / 8)) = (u.counter (off / 8)).truncate 32 := by
    refine (portReadWord_perf hi (d := 0) (by decide) rfl hreach').trans ?_
    rw [Nat.add_zero, regReadEffect_perf_low _ hi, perfView_low _ hi, counter_latchCounter]
  have hhigh : (u.latchCounter hostInit (off / 8)).portReadWord hostInit (R.PERF_CNT_LO (off / 8) + 4) =
      ((u.counter (off / 8) >>> 32).truncate 16).setWidth 32 := by
    rw [portReadWord_perf (s := u.latchCounter hostInit (off / 8)) hi (d := 4) (by decide) rfl hreach',
      regReadEffect_perf_high _ hi, perfView_high _ hi, counterHi_latchCounter]
  rw [hcounter, ← toBytes_counter, ← hlow, ← hhigh, ← hu, ← hread]
  simp only [State.bar4Read, hup, ← hu, huser', if_neg hbad, if_pos hmod, Bool.not_true, Bool.false_eq_true, if_false, if_true]

theorem bar4Read_denied {off : Nat} (hup : s.linkIsUp = true) (huser : s.on F.PERF_ACCESS_USER = false) :
    s.bar4Read off = ((s.linkAwake.flagRep F.PERF_STAT_USER_DENIED F.PERF_STAT_DENIED_REP).count 1183 1).emit
      (.readData (toBytes (if off % 8 = 0 then 8 else 4) 0) true) := by
  have huser' : s.linkAwake.on F.PERF_ACCESS_USER = false := huser
  simp [State.bar4Read, hup, huser']

theorem bar4Read_beyond {off : Nat} (hup : s.linkIsUp = true) (huser : s.on F.PERF_ACCESS_USER = true) (hoff : 0x2500 ≤ off) :
    s.bar4Read off = s.linkAwake.emit (.readData (toBytes (if off % 8 = 0 then 8 else 4) 0) true) := by
  have huser' : s.linkAwake.on F.PERF_ACCESS_USER = true := huser
  simp [State.bar4Read, hup, huser', hoff]

end Sys2Proof.Machine
end


section
/-!
SUPPORT. The HDM window, back-invalidate answers, I2C and JTAG (R338 to R341, R393, R110), and every access of the host with the
link down.
-/

namespace Sys2Proof.Machine

variable {s t u : State} {a line : Nat}

/-! ### The link down (R326) -/

/-- No access of the host does anything. -/
theorem hostAccess_down (h : s.linkIsUp = false) (off d p w l : Nat) (data : List Byte) (be : List Bool)
    (o : Option (List Byte)) :
    s.bar0Read off be = s ∧ s.bar0Write off data be = s ∧ s.bar2Write d data = s ∧ s.bar2Read d = s ∧ s.bar4Read p = s ∧
      s.hdmRead w = s ∧ s.hdmWrite w data = s ∧ s.snoopAnswer l o = s := by
  have hclosed : s.hdmOpen = false := by simp [State.hdmOpen, h]
  refine ⟨?_, ?_, ?_, ?_, ?_, ?_, ?_, ?_⟩
  · simp [State.bar0Read, h]
  · simp [State.bar0Write, h]
  · simp [State.bar2Write, h]
  · simp [State.bar2Read, h]
  · simp [State.bar4Read, h]
  · simp [State.hdmRead, hclosed]
  · simp [State.hdmWrite, hclosed]
  · simp [State.snoopAnswer, h]

/-! ### What an answer leaves -/

theorem on_emit (s : State) (o : Out) (f : RF) : (s.emit o).on f = s.on f := State.on_congr rfl f

theorem mem_emit (s : State) (o : Out) : (s.emit o).mem = s.mem := rfl

theorem out_emit (s : State) (o : Out) : (s.emit o).out = s.out ++ [o] := rfl

/-! ### The HDM window (R338 to R341) -/

theorem hdmErr_countedBy : F.HOST_STAT_HDM_ERR.CountedBy F.HOST_STAT_HDM_ERR_REP := ⟨rfl, rfl, rfl, rfl, rfl⟩

/-- HOST_HDM_ERR takes a word, and HDM_ERR is set and counted. -/
def State.latchHdmErr (s : State) (v : Word) : State :=
  (s.setReg R.HOST_HDM_ERR v).flagRep F.HOST_STAT_HDM_ERR F.HOST_STAT_HDM_ERR_REP

theorem hdmErr_eq (s : State) (off resp : Nat) (w : Bool) :
    s.hdmErr off resp w =
      s.latchHdmErr (BitVec.ofNat 32 (off / 64 * 64 + resp * 2 ^ 27 + (if w then 2 ^ 30 else 0))) := rfl

theorem latchHdmErr_leaves (s : State) (v : Word) :
    (s.latchHdmErr v).on F.HOST_STAT_HDM_ERR = true ∧ (s.latchHdmErr v).mem = s.mem ∧ (s.latchHdmErr v).out = s.out :=
  ⟨State.on_flagRep hdmErr_countedBy _, rfl, rfl⟩

theorem hdmErr_leaves (s : State) (off resp : Nat) (w : Bool) :
    (s.hdmErr off resp w).on F.HOST_STAT_HDM_ERR = true ∧ (s.hdmErr off resp w).mem = s.mem ∧
      (s.hdmErr off resp w).out = s.out := by
  rw [hdmErr_eq]
  exact latchHdmErr_leaves s _

theorem hdmRead_unmapped {off : Nat} (hopen : s.hdmOpen = true) (h : hdmAddr off = none) :
    s.hdmRead off = ((s.linkAwake.count 1121 1).hdmErr off rNoTarget false).emit (.readData [] false) := by
  simp [State.hdmRead, hopen, h]

theorem hdmWrite_unmapped {off : Nat} (hopen : s.hdmOpen = true) (h : hdmAddr off = none) (data : List Byte) :
    s.hdmWrite off data = (s.linkAwake.count 1122 1).hdmErr off rNoTarget true := by
  simp [State.hdmWrite, hopen, h]

theorem accessResp_count (s : State) (i n init a : Nat) (w : Bool) :
    (s.count i n).accessResp init a w = s.accessResp init a w := rfl

theorem hdmRead_line {off : Nat} (hopen : s.hdmOpen = true) (h : hdmAddr off = some a)
    (hresp : s.linkAwake.accessResp hostInit (a / 64 * 64) false = rDone) (hgood : s.badIn (a / 64 * 64) 64 = []) :
    s.hdmRead off = ((s.linkAwake.count 1121 1).fresh.trackLine (a / 64)).emit
      (.readData (s.bytesAt (a / 64 * 64) 64) true) := by
  obtain ⟨v, hv⟩ : ∃ v : State, v = s.linkAwake.count 1121 1 := ⟨_, rfl⟩
  have hresp' : v.accessResp hostInit (a / 64 * 64) false = rDone := hv ▸ hresp
  have hgood' : v.badIn (a / 64 * 64) 64 = [] := hv ▸ hgood
  have hbytes : s.bytesAt (a / 64 * 64) 64 = v.bytesAt (a / 64 * 64) 64 := hv ▸ rfl
  have hline : a / 64 * 64 / 64 = a / 64 := Nat.mul_div_cancel _ (by decide)
  have heffect : v.readEffect hostInit (a / 64 * 64) 64 false = v.fresh :=
    congrArg State.fresh (State.readNote_good hgood' _ _)
  rw [hbytes, ← hv]
  simp [State.hdmRead, hopen, h, ← hv, hresp', hgood', heffect, hline]

theorem hdmWrite_line {off : Nat} (hopen : s.hdmOpen = true) (h : hdmAddr off = some a) (data : List Byte)
    (hresp : s.linkAwake.accessResp hostInit a true = rDone) :
    s.hdmWrite off data = (s.linkAwake.count 1122 1).writeBytes a (data.take (64 - a % 64)) := by
  simp [State.hdmWrite, hopen, h, accessResp_count, hresp]

/-- The state with a line added to the snoop filter. -/
def State.snoopAdd (s : State) (line : Nat) : State :=
  { s with host := { s.host with snoop := setIns s.host.snoop line } }

theorem trackLine_tracked (h : line ∈ s.host.snoop) : s.trackLine line = s := if_pos (List.contains_iff_mem.mpr h)

theorem trackLine_new (h : line ∉ s.host.snoop) (hfree : s.snoopFull line = false) : s.trackLine line = s.snoopAdd line := by
  have hnew : ¬s.host.snoop.contains line = true := fun hc => h (List.contains_iff_mem.mp hc)
  rw [State.trackLine, if_neg hnew, hfree]
  rfl

/-- A line with a free way, or one that is tracked already, is tracked, and no line is given up for it. -/
theorem trackLine_leaves (h : line ∈ s.host.snoop ∨ s.snoopFull line = false) :
    line ∈ (s.trackLine line).host.snoop ∧ (s.trackLine line).out = s.out ∧ (s.trackLine line).mem = s.mem := by
  by_cases hmem : line ∈ s.host.snoop
  case pos =>
    rw [trackLine_tracked hmem]
    exact ⟨hmem, rfl, rfl⟩
  case neg =>
    rw [trackLine_new hmem (h.resolve_left hmem)]
    exact ⟨mem_setIns.mpr (Or.inl rfl), rfl, rfl⟩

/-! ### Back-invalidate answers (R340) -/

theorem snoopAnswer_unawaited (h : ∀ e ∈ s.host.biWait, e.1 ≠ a / 64) : s.snoopAnswer a none = s := by
  have hnone : s.host.biWait.find? (fun e => e.1 = a / 64) = none :=
    List.find?_eq_none.mpr fun e he => by simpa using h e he
  simp [State.snoopAnswer, hnone]

/-- The state in which the access that waited for a line's snoop goes on. -/
def State.snoopEnded (s : State) (e : Nat × Packet) (line : Nat) : State :=
  { s with host := { s.host with
      biWait := s.host.biWait.erase e
      snoop := if e.2.op = 0 then s.host.snoop else setErase s.host.snoop line } }

theorem snoopAnswer_resumes {e : Nat × Packet} (hup : s.linkIsUp = true)
    (h : s.host.biWait.find? (fun e => e.1 = a / 64) = some e) :
    s.snoopAnswer a none = (s.snoopEnded e (a / 64)).memAccess e.2 (a / 64 + 1) := by
  simp only [State.snoopAnswer, hup, Bool.not_true, Bool.false_eq_true, if_false, h]
  rfl

/-! ### I2C (R393) -/

theorem i2cRead_dormant (h : s.pwr.dormant = true) (a : Nat) : s.i2cRead a = s := if_pos h

theorem i2cWrite_dormant (h : s.pwr.dormant = true) (a : Nat) (v : Word) : s.i2cWrite a v = s := if_pos h

section
variable (hawake : s.pwr.dormant = false)
include hawake

theorem i2cRead_done (h : s.portReadResp ksInit a = rDone) :
    s.i2cRead a = (s.portRead ksInit a).emit (.readData (toBytes 4 (s.portReadWord ksInit a).toNat) true) := by
  simp [State.i2cRead, hawake, h]

theorem i2cRead_fails (h : s.portReadResp ksInit a ≠ rDone) :
    s.i2cRead a = ((s.portRead ksInit a).flag F.PWR_STAT_I2C_ERR).emit
      (.readData (toBytes 4 (s.portReadWord ksInit a).toNat) true) := by
  simp [State.i2cRead, hawake, h]

theorem i2cWrite_done {v : Word} (h : s.portWriteResp ksInit a v = rDone) : s.i2cWrite a v = s.portWrite ksInit a v := by
  simp [State.i2cWrite, hawake, h]

theorem i2cWrite_fails {v : Word} (h : s.portWriteResp ksInit a v ≠ rDone) :
    s.i2cWrite a v = (s.portWrite ksInit a v).flag F.PWR_STAT_I2C_ERR := by
  simp [State.i2cWrite, hawake, h]

end

theorem on_i2cErr (s : State) : (s.flag F.PWR_STAT_I2C_ERR).on F.PWR_STAT_I2C_ERR = true := State.on_flag _ _ (by decide) rfl

/-! ### JTAG (R82, R110) -/

section
variable (hreg : isMemAddr a = false)
include hreg

theorem jtagWrite_odd {data : List Byte} (h : data.length ≠ 4) : s.jtagWrite a data = s := by
  simp [State.jtagWrite, hreg, h]

theorem jtagWrite_word (b0 b1 b2 b3 : Byte) :
    s.jtagWrite a [b0, b1, b2, b3] = s.portWrite jtagInit a (b3 ++ b2 ++ b1 ++ b0) := by
  rw [← ofBytes_four]
  simp [State.jtagWrite, hreg]

theorem jtagRead_odd {n : Nat} (h : n ≠ 4) : s.jtagRead a n = s.emit (.readData [] false) := by
  simp [State.jtagRead, hreg, h]

theorem jtagRead_word : s.jtagRead a 4 = (s.portRead jtagInit a).emit
    (.readData (toBytes 4 (s.portReadWord jtagInit a).toNat) (s.portReadResp jtagInit a = rDone)) := by
  simp [State.jtagRead, hreg]

end

theorem debugResume_leaves (s : State) (c : Nat) :
    ((s.debugResume c).core c).run ≠ .halted ∧ (s.debugResume c).regs = s.regs ∧ (s.debugResume c).out = s.out ∧
      (s.debugResume c).mem = s.mem := by
  unfold State.debugResume
  split
  case isTrue =>
    refine ⟨?_, rfl, rfl, rfl⟩
    rw [State.core_setCore]
    exact fun h => nomatch h
  case isFalse hrun => exact ⟨hrun, rfl, rfl, rfl⟩

end Sys2Proof.Machine
end

section
/-!
PROOFS. The accesses of the host and of the management ports (R328 to R331, R338 to R341, R393, R110).
-/

open Sys2Proof Sys2Proof.Machine

/-- Settles O55: each port's access is one register access or one line's, and a failure is latched where its port latches it. -/
theorem hostAccesses : Obligations.HostAccesses := by
  unfold Obligations.HostAccesses
  intro s
  refine ⟨fun hdown off d p h l data be o => ?down,
    fun hup off b0 b1 b2 b3 hword => ⟨fun hdone => ?read, fun hbad => ?readFailed, fun hdone => ?write,
      fun hbad => ?writeFailed⟩,
    fun hup off data => ⟨fun hform => ?malformed, fun hlen hslot hpage => ?denied, fun hlen hslot hpage => ?rings,
      fun hother => ?zero, fun htake hpage => ?takeDenied, fun htake hpage => ?takes⟩,
    fun hup off => ⟨fun huser => ?userDenied, fun huser hpast => ?beyond, fun huser hin hpair hreach => ?counter⟩,
    fun hopen off data => ⟨fun hnone => ⟨?unmappedRead, ?unmappedWrite⟩, fun a hmap => ⟨fun hresp hgood hway => ?lineRead,
      fun hresp => congrArg Host.Outcome.next (hdmWrite_line hopen hmap data hresp)⟩⟩,
    fun hup l => ⟨fun hwait => congrArg Host.Outcome.next (snoopAnswer_unawaited hwait),
      fun e hfind => congrArg Host.Outcome.next (snoopAnswer_resumes hup hfind)⟩,
    fun a v => ⟨fun hdorm => ⟨congrArg Host.Outcome.next (i2cRead_dormant hdorm _),
        congrArg Host.Outcome.next (i2cWrite_dormant hdorm _ _)⟩,
      fun hawake => ⟨fun hdone => ?i2cRead, fun hbad => ?i2cReadFailed, fun hdone => ?i2cWrite, fun hbad => ?i2cWriteFailed⟩⟩,
    fun a n l hreg hn hlen => ⟨?oddWrite, ?oddRead⟩, fun a c b0 b1 b2 b3 hreg => ⟨?wordWrite, ?wordRead, ?resume⟩⟩
  case down =>
    obtain ⟨hbar0r, hbar0w, hbar2w, hbar2r, hbar4, hhdmr, hhdmw, hsnoop⟩ :=
      hostAccess_down hdown off.toNat d.toNat p.toNat h.toNat l.toNat data be o
    exact ⟨congrArg Host.Outcome.next hbar0r, congrArg Host.Outcome.next hbar0w, congrArg Host.Outcome.next hbar2w,
      congrArg Host.Outcome.next hbar2r, congrArg Host.Outcome.next hbar4, congrArg Host.Outcome.next hhdmr,
      congrArg Host.Outcome.next hhdmw, congrArg Host.Outcome.next hsnoop⟩
  case read => exact congrArg Host.Outcome.next (bar0Read_done hup hword hdone)
  case readFailed =>
    refine ⟨_, congrArg Host.Outcome.next (bar0Read_fails hup hword hbad), ?_, ?_⟩
    · rw [on_emit, on_barErr]
    · rw [mem_emit, mem_barErr]
  case write => exact congrArg Host.Outcome.next (bar0Write_done hup hword hdone)
  case writeFailed =>
    exact ⟨_, congrArg Host.Outcome.next (bar0Write_fails hup hword hbad), answerUr_barErr _ _ off.isLt⟩
  case malformed =>
    exact ⟨_, congrArg Host.Outcome.next (bar2Write_malformed hup hform), State.on_flagRep dbBad_countedBy _, rfl, rfl, rfl⟩
  case denied =>
    exact ⟨_, congrArg Host.Outcome.next (bar2Write_denied hup hlen hslot hpage), State.on_flagRep dbDenied_countedBy _,
      rfl, rfl, rfl⟩
  case rings => exact congrArg Host.Outcome.next (bar2Write_rings hup hlen hslot hpage)
  case zero => exact congrArg Host.Outcome.next (bar2Read_elsewhere hup hother)
  case takeDenied =>
    refine ⟨_, congrArg Host.Outcome.next (bar2Read_denied hup htake hpage), ?_, rfl, rfl, rfl⟩
    rw [on_emit, State.on_flagRep dbDenied_countedBy]
  case takes => exact congrArg Host.Outcome.next (bar2Read_takes hup htake hpage)
  case userDenied =>
    refine ⟨_, congrArg Host.Outcome.next (bar4Read_denied hup huser), ?_, rfl, rfl⟩
    rw [on_emit, State.on_congr (State.count_regs _ _ _), State.on_flagRep userDenied_countedBy]
  case beyond => exact ⟨_, congrArg Host.Outcome.next (bar4Read_beyond hup huser hpast), rfl, rfl, rfl⟩
  case counter => exact ⟨_, congrArg Host.Outcome.next (bar4Read_counter hup huser hin hpair hreach), rfl, rfl, rfl, rfl⟩
  case unmappedRead =>
    obtain ⟨hon, hmem, hout⟩ := hdmErr_leaves (s.linkAwake.count 1121 1) off.toNat rNoTarget false
    refine ⟨_, congrArg Host.Outcome.next (hdmRead_unmapped hopen hnone), ?_, ?_, ?_⟩
    · rw [on_emit, hon]
    · rw [out_emit, hout]
      rfl
    · rw [mem_emit, hmem]
      rfl
  case unmappedWrite =>
    obtain ⟨hon, hmem, -⟩ := hdmErr_leaves (s.linkAwake.count 1122 1) off.toNat rNoTarget true
    exact ⟨_, congrArg Host.Outcome.next (hdmWrite_unmapped hopen hnone data), hon, hmem⟩
  case lineRead =>
    obtain ⟨htracked, hout, hmem⟩ := trackLine_leaves (s := (s.linkAwake.count 1121 1).fresh) hway
    exact ⟨_, congrArg Host.Outcome.next (hdmRead_line hopen hmap hresp hgood), congrArg (· ++ [_]) hout, htracked, hmem⟩
  case i2cRead => exact congrArg Host.Outcome.next (i2cRead_done hawake hdone)
  case i2cReadFailed =>
    exact ⟨_, congrArg Host.Outcome.next (i2cRead_fails hawake hbad), (on_emit _ _ _).trans (on_i2cErr _)⟩
  case i2cWrite => exact congrArg Host.Outcome.next (i2cWrite_done hawake hdone)
  case i2cWriteFailed => exact ⟨_, congrArg Host.Outcome.next (i2cWrite_fails hawake hbad), on_i2cErr _⟩
  case oddWrite =>
    have hne : n.toNat ≠ 3 := fun h => hn (BitVec.eq_of_toNat_eq h)
    have hodd : (l.take (n.toNat + 1)).length ≠ 4 := by rw [List.length_take]; omega
    exact congrArg Host.Outcome.next (jtagWrite_odd hreg hodd)
  case oddRead =>
    have hne : n.toNat ≠ 3 := fun h => hn (BitVec.eq_of_toNat_eq h)
    exact congrArg Host.Outcome.next (jtagRead_odd hreg (by omega))
  case wordWrite => exact congrArg Host.Outcome.next (jtagWrite_word hreg b0 b1 b2 b3)
  case wordRead => exact congrArg Host.Outcome.next (jtagRead_word hreg)
  case resume =>
    obtain ⟨hrun, hregs, hout, hmem⟩ := debugResume_leaves (s.jtagRead a.toNat 4) c.toNat
    rw [jtagRead_word hreg] at hrun hregs hout hmem
    refine ⟨_, ?_, hrun, hregs, hout, hmem⟩
    exact congrArg (fun u => Host.Outcome.next (State.debugResume u c.toNat)) (jtagRead_word hreg)

end


section
/-!
SUPPORT. Elements of register groups and bits of mask registers: what reading one gives after a list of them was written
(R117, R122).
-/

namespace Sys2Proof.Machine

variable {k : Core} {g ew i j r x : Nat}

/-! ### The width of an element -/

/-- Elements of a width lie within one register each; a reserved type has width 0. -/
def elemWidth (ew : Nat) : Prop := ew = 0 ∨ ew ∣ 4096

theorem elemWidth_two_ewOf (e : Nat) : elemWidth (2 * ewOf e) := by
  unfold elemWidth ewOf
  split <;> decide

theorem elemWidth_ewOf (e : Nat) : elemWidth (ewOf e) :=
  (elemWidth_two_ewOf e).imp (by omega) (dvd_of_mul_left_dvd ·)

/-! ### One element -/

@[simp] theorem Core.vr_setV (k : Core) (r : Nat) (y : BitVec 4096) : (k.setV r y).vr r = y := mapGet_set_same _ _ _ _

theorem Core.vr_setV_ne (k : Core) (y : BitVec 4096) {q : Nat} (h : q ≠ r) : (k.setV r y).vr q = k.vr q :=
  mapGet_set_ne _ _ _ _ h

theorem Core.vr_setElem_ne (h : r ≠ g + ew * i / 4096) (x : Nat) : (k.setElem g ew i x).vr r = k.vr r :=
  k.vr_setV_ne _ h

/-- The bits of a register in which a field of `ew` bits at `o` is replaced. -/
theorem getLsbD_replaceField (v : BitVec 4096) (ew o x : Nat) {b : Nat} (hb : b < 4096) :
    ((v &&& ~~~ ((BitVec.ofNat 4096 (2 ^ ew - 1)) <<< o)) ||| (BitVec.ofNat 4096 (x % 2 ^ ew) <<< o)).getLsbD b =
      if o ≤ b ∧ b < o + ew then x.testBit (b - o) else v.getLsbD b := by
  have hsub : b - o < 4096 := by omega
  simp only [BitVec.getLsbD_or, BitVec.getLsbD_and, BitVec.getLsbD_not, BitVec.getLsbD_shiftLeft, BitVec.getLsbD_ofNat,
    Nat.testBit_two_pow_sub_one, Nat.testBit_mod_two_pow, hb, hsub]
  by_cases hlow : b < o
  · simp [hlow, Nat.not_le.mpr hlow]
  · by_cases hhigh : b - o < ew
    · have hin : o ≤ b ∧ b < o + ew := by omega
      simp [hlow, hhigh, hin]
    · have hout : ¬ (o ≤ b ∧ b < o + ew) := by omega
      simp [hhigh, hout]

theorem Core.getLsbD_vr_setElem (k : Core) (g ew i x : Nat) {b : Nat} (hb : b < 4096) :
    ((k.setElem g ew i x).vr (g + ew * i / 4096)).getLsbD b =
      if ew * i % 4096 ≤ b ∧ b < ew * i % 4096 + ew then x.testBit (b - ew * i % 4096)
      else (k.vr (g + ew * i / 4096)).getLsbD b := by
  rw [Core.setElem, Core.vr_setV, getLsbD_replaceField _ _ _ _ hb]

theorem Core.elem_width_zero (k : Core) (g i : Nat) : k.elem g 0 i = 0 := BitVec.toNat_of_zero_length rfl _

/-- An element does not reach past its register. -/
theorem elem_end_le (hw : ew ∣ 4096) (i : Nat) : ew * i % 4096 + ew ≤ 4096 := by
  obtain ⟨n, hn⟩ := hw
  have hpos : 0 < n := Nat.pos_of_ne_zero (by rintro rfl; omega)
  rw [hn, Nat.mul_mod_mul_left]
  exact Nat.mul_le_mul_left ew (Nat.mod_lt i hpos)

/-- Two elements of one register do not overlap. -/
theorem elem_disjoint (hw : ew ∣ 4096) (hne : j ≠ i) (hreg : ew * j / 4096 = ew * i / 4096) :
    ew * j % 4096 + ew ≤ ew * i % 4096 ∨ ew * i % 4096 + ew ≤ ew * j % 4096 := by
  obtain ⟨n, hn⟩ := hw
  have hpos : 0 < ew := Nat.pos_of_ne_zero (by rintro rfl; omega)
  rw [hn, Nat.mul_div_mul_left _ _ hpos, Nat.mul_div_mul_left _ _ hpos] at hreg
  rw [hn, Nat.mul_mod_mul_left, Nat.mul_mod_mul_left]
  have hmod : j % n ≠ i % n := fun h => hne (by rw [← Nat.div_add_mod j n, ← Nat.div_add_mod i n, hreg, h])
  obtain hlt | hgt := Nat.lt_or_gt_of_ne hmod
  · exact .inl (Nat.mul_le_mul_left ew hlt)
  · exact .inr (Nat.mul_le_mul_left ew hgt)

theorem Core.elem_setElem_same (hw : elemWidth ew) (k : Core) (g i x : Nat) :
    (k.setElem g ew i x).elem g ew i = x % 2 ^ ew := by
  obtain rfl | hw := hw
  · rw [Core.elem_width_zero, Nat.pow_zero, Nat.mod_one]
  have hend := elem_end_le hw i
  rw [Core.elem, ← BitVec.toNat_ofNat]
  refine congrArg BitVec.toNat (BitVec.eq_of_getLsbD_eq fun b hb => ?_)
  rw [BitVec.getLsbD_extractLsb', k.getLsbD_vr_setElem g ew i x (by omega), if_pos (by omega), BitVec.getLsbD_ofNat,
    Nat.add_sub_cancel_left]

theorem Core.elem_setElem_ne (hw : elemWidth ew) (hne : j ≠ i) (k : Core) (g x : Nat) :
    (k.setElem g ew i x).elem g ew j = k.elem g ew j := by
  obtain rfl | hw := hw
  · rw [Core.elem_width_zero, Core.elem_width_zero]
  by_cases hreg : ew * j / 4096 = ew * i / 4096
  · have hend := elem_end_le hw j
    have hdisj := elem_disjoint hw hne hreg
    refine congrArg BitVec.toNat (BitVec.eq_of_getLsbD_eq fun b hb => ?_)
    rw [BitVec.getLsbD_extractLsb', BitVec.getLsbD_extractLsb', hreg, k.getLsbD_vr_setElem g ew i x (by omega),
      if_neg (by omega)]
  · rw [Core.elem, Core.vr_setElem_ne (by omega), Core.elem]

/-! ### A list of elements -/

theorem Core.setElems_cons (k : Core) (g ew : Nat) (e : Nat × Nat) (l : List (Nat × Nat)) :
    k.setElems g ew (e :: l) = (k.setElem g ew e.1 e.2).setElems g ew l := rfl

theorem Core.setElems_frame (k : Core) (g ew : Nat) (l : List (Nat × Nat)) :
    k.setElems g ew l = { k with v := (k.setElems g ew l).v } := by
  induction l generalizing k with
  | nil => rfl
  | cons e l ih =>
    rw [Core.setElems_cons, ih]
    rfl

@[simp] theorem Core.setElems_pc (k : Core) (g ew : Nat) (l : List (Nat × Nat)) : (k.setElems g ew l).pc = k.pc := by
  rw [Core.setElems_frame]

@[simp] theorem Core.setElems_cr (k : Core) (g ew : Nat) (l : List (Nat × Nat)) : (k.setElems g ew l).cr = k.cr := by
  rw [Core.setElems_frame]

@[simp] theorem Core.setElems_g (k : Core) (g ew : Nat) (l : List (Nat × Nat)) : (k.setElems g ew l).g = k.g := by
  rw [Core.setElems_frame]

@[simp] theorem Core.setElems_m (k : Core) (g ew : Nat) (l : List (Nat × Nat)) : (k.setElems g ew l).m = k.m := by
  rw [Core.setElems_frame]

theorem Core.vr_setElems_ne (l : List (Nat × Nat)) (h : ∀ e ∈ l, r ≠ g + ew * e.1 / 4096) (k : Core) :
    (k.setElems g ew l).vr r = k.vr r := by
  induction l generalizing k with
  | nil => rfl
  | cons e l ih =>
    obtain ⟨he, hl⟩ := List.forall_mem_cons.mp h
    rw [Core.setElems_cons, ih hl, Core.vr_setElem_ne he]

theorem Core.elem_setElems_ne (hw : elemWidth ew) (l : List (Nat × Nat)) (h : ∀ e ∈ l, j ≠ e.1) (k : Core) :
    (k.setElems g ew l).elem g ew j = k.elem g ew j := by
  induction l generalizing k with
  | nil => rfl
  | cons e l ih =>
    obtain ⟨he, hl⟩ := List.forall_mem_cons.mp h
    rw [Core.setElems_cons, ih hl, Core.elem_setElem_ne hw he]

theorem Core.elem_setElems_mem (hw : elemWidth ew) (f : Nat → Nat) (is : List Nat) (hj : j ∈ is) (k : Core) :
    (k.setElems g ew (is.map (fun i => (i, f i)))).elem g ew j = f j % 2 ^ ew := by
  induction is generalizing k with
  | nil => exact absurd hj List.not_mem_nil
  | cons i is ih =>
    rw [List.map_cons, Core.setElems_cons]
    by_cases htail : j ∈ is
    · exact ih htail _
    · obtain rfl := (List.mem_cons.mp hj).resolve_right htail
      have hlater : ∀ e ∈ is.map (fun i => (i, f i)), j ≠ e.1 := by
        rintro e he rfl
        obtain ⟨i, hi, rfl⟩ := List.mem_map.mp he
        exact htail hi
      rw [Core.elem_setElems_ne hw _ hlater, Core.elem_setElem_same hw]

/-! ### Mask bits -/

@[simp] theorem Core.mr_setM (k : Core) (r : Nat) (y : BitVec 512) : (k.setM r y).mr r = y := mapGet_set_same _ _ _ _

theorem Core.mr_setM_ne (k : Core) (y : BitVec 512) {q : Nat} (h : q ≠ r) : (k.setM r y).mr q = k.mr q :=
  mapGet_set_ne _ _ _ _ h

/-- Bit `i` of a mask is replaced; one past the mask changes nothing. -/
theorem getLsbD_replaceBit (y : BitVec 512) (b : Bool) (i j : Nat) :
    (if b then y ||| ((1#512) <<< i) else y &&& ~~~ ((1#512) <<< i)).getLsbD j =
      if j = i ∧ j < 512 then b else y.getLsbD j := by
  by_cases hj : j < 512
  · have hbit : ((1#512) <<< i).getLsbD j = decide (j = i) := by
      rw [BitVec.getLsbD_shiftLeft, BitVec.getLsbD_one, Bool.eq_iff_iff]
      simp only [Bool.and_eq_true, Bool.not_eq_true', decide_eq_true_eq, decide_eq_false_iff_not]
      omega
    rw [apply_ite (BitVec.getLsbD · j), BitVec.getLsbD_or, BitVec.getLsbD_and, BitVec.getLsbD_not, hbit]
    simp only [hj, and_true, decide_true, Bool.true_and]
    cases b <;> by_cases hi : j = i <;> simp [hi]
  · rw [BitVec.getLsbD_of_ge _ _ (by omega), if_neg (by omega), BitVec.getLsbD_of_ge _ _ (by omega)]

/-- The bits of the mask that `Core.mMap` writes. -/
theorem Core.getLsbD_mMap (k : Core) (md : Nat) (is : List Nat) (f : Nat → Bool) (j : Nat) :
    ((k.mMap md is f).1.mr md).getLsbD j = if j ∈ is ∧ j < 512 then f j else (k.mr md).getLsbD j := by
  rw [Core.mMap, Core.mr_setM]
  generalize k.mr md = y
  induction is generalizing y with
  | nil => simp
  | cons i is ih =>
    rw [List.foldl_cons, ih, getLsbD_replaceBit]
    by_cases hi : j = i
    · subst hi
      by_cases hj : j < 512 <;> simp [hj]
    · simp [hi]

end Sys2Proof.Machine
end


section
/-!
SUPPORT. What a vector instruction of a ready core leaves (R123, R124, R137): its result, VSAT, VRESUME 0 and the pc moved on.
-/

namespace Sys2Proof.Machine

variable {s : State} {c : Nat} {k : Core}

/-! ### Legality -/

theorem Core.vBad_of_vLegal {men : Bool} {m : BitVec 3} (h : k.vLegal men m) : k.vBad men m false = false := by
  obtain ⟨hvill, hmask, hresume⟩ := h
  obtain rfl | rfl := hmask <;> simp [Core.vBad, hvill, hresume]

theorem unaligned_of_aligned {r : BitVec 5} {n : Nat} (h : aligned r n) : unaligned r n = false :=
  decide_eq_false (not_not_intro h)

theorem groupsMeet_of_apart {g n h l : Nat} (hap : apart g n h l) : groupsMeet g n h l = false := by
  unfold apart at hap
  simp only [groupsMeet, Bool.and_eq_false_iff, decide_eq_false_iff_not]
  omega

/-- What holds of the second source of VV only. -/
theorem guarded_eq_false {sc b : Bool} (h : sc = false → b = false) : (!sc && b) = false := by
  cases sc
  · exact h rfl
  · rfl

theorem any_unaligned {src : List (BitVec 5)} {n : Nat} (h : ∀ g ∈ src, aligned g n) :
    src.any (fun g => unaligned g n) = false :=
  List.any_eq_false.mpr fun g hg => by simp [unaligned_of_aligned (h g hg)]

theorem any_groupsMeet {ap : Bool} {src : List (BitVec 5)} {d n : Nat} (h : ap = true → ∀ g ∈ src, apart d n g.toNat n) :
    (ap && src.any (fun g => groupsMeet d n g.toNat n)) = false := by
  cases ap
  · rfl
  · exact List.any_eq_false.mpr fun g hg => by simp [groupsMeet_of_apart (h rfl g hg)]

theorem badMask_of_lt {r : BitVec 5} (h : r.toNat < 8) : badMask r = false := decide_eq_false (Nat.not_le.mpr h)

/-! ### Completion -/

/-- The core's registers once VSAT and VRESUME have their values (R124, R137). -/
def Core.settled (r : Core × Bool) : Core :=
  (if r.2 && (r.1.crv crVsat) = 0 then r.1.setCr crVsat 1 else r.1).setCr crVresume 0

theorem Core.settled_frame (r : Core × Bool) : Core.settled r = { r.1 with cr := (Core.settled r).cr } := by
  unfold Core.settled
  split <;> rfl

theorem Core.crv_settled_vresume (r : Core × Bool) : (Core.settled r).crv crVresume = 0 := Core.crv_setCr _ _ _

theorem Core.crv_settled_vsat (r : Core × Bool) :
    (Core.settled r).crv crVsat = if r.2 = true ∧ r.1.crv crVsat = 0 then 1 else r.1.crv crVsat := by
  rw [Core.settled, Core.crv_setCr_ne _ (by decide)]
  simp only [Bool.and_eq_true, decide_eq_true_eq]
  split
  · exact Core.crv_setCr _ _ _
  · rfl

theorem Core.crv_settled_ne {n : Nat} (hresume : n ≠ crVresume) (hsat : n ≠ crVsat) (r : Core × Bool) :
    (Core.settled r).crv n = r.1.crv n := by
  rw [Core.settled, Core.crv_setCr_ne _ hresume]
  split
  · exact Core.crv_setCr_ne _ hsat _
  · rfl

theorem onlyCore.tallied {t : State} (h : onlyCore s t c) (o n : Nat) : onlyCore s (t.tallied c o n) c :=
  (h.count _ _).mapCore _

theorem State.core_vRetire (s : State) (c beats : Nat) (r : Core × Bool) :
    (s.vRetire c beats r).core c = { Core.settled r with
        tally := ((s.vRetire c beats r).core c).tally
        pc := (Core.settled r).pc + 4
        done := ((s.vRetire c beats r).core c).done } ∧ onlyCore s (s.vRetire c beats r) c := by
  set s1 := (s.setCore c (Core.settled r)).tallied c 16 beats with hs1
  set s2 := if r.2 && (r.1.crv crVsat) = 0 then s1.tallied c 17 1 else s1 with hs2
  have hretire : s.vRetire c beats r = s2.retire c := rfl
  have h1 : s1.core c = { Core.settled r with tally := (s1.core c).tally } := by
    rw [hs1, State.core_tallied, State.core_setCore]
  have h2 : s2.core c = { Core.settled r with tally := (s2.core c).tally } := by
    rw [hs2]
    split
    · rw [State.core_tallied, h1]
    · exact h1
  have honly : onlyCore s s1 c := ((onlyCore.refl s c).setCore _).tallied _ _
  rw [hretire]
  refine ⟨?_, (onlyCore.ite (honly.tallied _ _) honly).retire⟩
  rw [State.retire, State.core_retireTo, h2]

/-- A vector instruction whose result differs from its core in g, v and mask registers alone (R137). -/
theorem State.vRetire_leaves {r : Core × Bool} (hpc : r.1.pc = (s.core c).pc) (hcr : r.1.cr = (s.core c).cr) (beats : Nat) :
    let t := s.vRetire c beats r
    vDone s t c ∧ vSat s t c r.2 ∧ (t.core c).g = r.1.g ∧ (t.core c).v = r.1.v ∧ (t.core c).m = r.1.m := by
  obtain ⟨hcore, honly⟩ := s.core_vRetire c beats r
  have hcrv : ∀ n, r.1.crv n = (s.core c).crv n := fun n => by rw [Core.crv, hcr, Core.crv]
  refine ⟨⟨?_, ?_, fun n hresume hsat => ?_, honly⟩, ?_, ?_, ?_, ?_⟩
  · rw [hcore]
    exact Core.crv_settled_vresume r
  · rw [hcore, Core.settled_frame, ← hpc]
  · rw [hcore, ← hcrv]
    exact Core.crv_settled_ne hresume hsat r
  · rw [vSat, hcore, ← hcrv]
    exact Core.crv_settled_vsat r
  all_goals rw [hcore, Core.settled_frame]

/-- The instruction of a ready core that nothing makes illegal acts (R123). -/
theorem State.vInsn_ready {c : BitVec 8} {u : Use} {bad : Bool} (h : s.ready c.toNat u) (hbad : bad = false) (beats : Nat)
    (r : Core → Core × Bool) : s.vInsn c u bad beats r = s.vRetire c.toNat beats (r (s.core c.toNat)) := by
  rw [State.vInsn, hbad]
  exact State.runInsn_ready h _ _ _

/-! ### Results -/

/-- Elements of a group. -/
theorem State.vRetire_vMap {ew : Nat} (hw : elemWidth ew) (s : State) (c beats vd : Nat) (is : List Nat) (f : Nat → Nat × Bool) :
    let t := s.vRetire c beats ((s.core c).vMap vd ew is f)
    vDone s t c ∧ vResult s t c vd ew is f := by
  set l := is.map (fun i => (i, (f i).1)) with hl
  obtain ⟨hdone, hsat, hg, hv, hm⟩ := State.vRetire_leaves (s := s) (c := c) (r := (s.core c).vMap vd ew is f)
    (Core.setElems_pc _ _ _ _) (Core.setElems_cr _ _ _ _) beats
  have hvr : ∀ q, ((s.vRetire c beats ((s.core c).vMap vd ew is f)).core c).vr q = ((s.core c).setElems vd ew l).vr q :=
    fun q => congrArg (mapGet · 0 q) hv
  have helem : ∀ i, ((s.vRetire c beats ((s.core c).vMap vd ew is f)).core c).elem vd ew i =
      ((s.core c).setElems vd ew l).elem vd ew i := fun i => by rw [Core.elem, hvr, Core.elem]
  have hmem : ∀ {e}, e ∈ l → e.1 ∈ is := fun he => by
    obtain ⟨i, hi, rfl⟩ := List.mem_map.mp he
    exact hi
  refine ⟨hdone, fun i hi => ?_, fun i hi => ?_, fun r hr => ?_, hsat, hg.trans (Core.setElems_g _ _ _ _),
    hm.trans (Core.setElems_m _ _ _ _)⟩
  · rw [helem]
    exact Core.elem_setElems_mem hw (fun i => (f i).1) is hi _
  · rw [helem]
    exact Core.elem_setElems_ne hw l (fun e he => ne_of_mem_of_not_mem (hmem he) hi |>.symm) _
  · rw [hvr]
    exact Core.vr_setElems_ne l (fun e he => hr _ (hmem he)) _

/-- Bits of a mask register. -/
theorem State.vRetire_mMap (s : State) (c beats md : Nat) (is : List Nat) (f : Nat → Bool) :
    let t := s.vRetire c beats ((s.core c).mMap md is f)
    vDone s t c ∧ mResult s t c md is f := by
  obtain ⟨hdone, hsat, hg, hv, hm⟩ := State.vRetire_leaves (s := s) (c := c) (r := (s.core c).mMap md is f) rfl rfl beats
  have hmr : ∀ q, ((s.vRetire c beats ((s.core c).mMap md is f)).core c).mr q = ((s.core c).mMap md is f).1.mr q :=
    fun q => congrArg (mapGet · 0 q) hm
  refine ⟨hdone, fun i hi hlt => ?_, fun i hi => ?_, fun r hr => ?_, hsat, hg, hv⟩
  · rw [hmr, Core.getLsbD_mMap, if_pos ⟨hi, hlt⟩]
  · rw [hmr, Core.getLsbD_mMap, if_neg (fun h => hi h.1)]
  · rw [hmr]
    exact Core.mr_setM_ne _ _ hr

/-- A g register. -/
theorem State.vRetire_setG (s : State) (c beats : Nat) (rd : BitVec 5) (x : DWord) :
    let t := s.vRetire c beats ((s.core c).setG rd.toNat x, false)
    vDone s t c ∧ (∀ r, (t.core c).gr r = if r = rd.toNat ∧ rd ≠ 0 then x else (s.core c).gr r) ∧
      (t.core c).v = (s.core c).v ∧ (t.core c).m = (s.core c).m := by
  obtain ⟨hdone, -, hg, hv, hm⟩ := State.vRetire_leaves (s := s) (c := c) (r := ((s.core c).setG rd.toNat x, false))
    (Core.setG_pc _ _ _) (Core.setG_cr _ _ _) beats
  refine ⟨hdone, fun r => ?_, hv.trans (Core.setG_v _ _ _), hm.trans (Core.setG_m _ _ _)⟩
  rw [Core.gr, hg]
  refine ((s.core c).gr_setG rd.toNat r x).trans ?_
  simp only [toNat_ne_zero]

end Sys2Proof.Machine
end


section
/-!
SUPPORT. The families of vector instructions: what each instruction of a table is over the operation that its family shares, and
what that operation leaves of a ready core (R129 to R131).
-/

namespace Sys2Proof.Machine

variable {s : State} {c : BitVec 8} {men : Bool} {m : BitVec 3}

/-! ### The tables -/

/-- The model lets the logical instructions take every type; on those of R116 it agrees with the table. -/
theorem exec_vvOps : ∀ e ∈ vvOps, ∃ types : Nat → Bool, (∀ x, e.2.1 x = true → types x = true) ∧
    ∀ (s : State) (c : BitVec 8) (sc : Bool) (vd vs1 vs2 : BitVec 5) (men : Bool) (m : BitVec 3),
      exec (e.1 c sc vd vs1 vs2 men m) s = .next (s.vBin c sc vd vs1 vs2 men m types e.2.2) := by
  unfold vvOps
  rw [List.forall_mem_append]
  constructor
  · iterate 4 refine List.forall_mem_cons.mpr ⟨⟨_, fun _ h => h, fun _ _ _ _ _ _ _ _ => rfl⟩, ?_⟩
    iterate 3 refine List.forall_mem_cons.mpr ⟨⟨fun _ => true, fun _ _ => rfl, fun _ _ _ _ _ _ _ _ => rfl⟩, ?_⟩
    iterate 4 refine List.forall_mem_cons.mpr ⟨⟨_, fun _ h => h, fun _ _ _ _ _ _ _ _ => rfl⟩, ?_⟩
    exact List.forall_mem_singleton.mpr ⟨_, fun _ h => h, fun _ _ _ _ _ _ _ _ => rfl⟩
  · iterate 3 refine List.forall_mem_cons.mpr ⟨⟨_, fun _ h => h, fun _ _ _ _ _ _ _ _ => rfl⟩, ?_⟩
    exact List.forall_mem_singleton.mpr ⟨_, fun _ h => h, fun _ _ _ _ _ _ _ _ => rfl⟩

theorem exec_vwOps : ∀ e ∈ vwOps, ∀ (s : State) (c : BitVec 8) (sc : Bool) (vd vs1 vs2 : BitVec 5) (men : Bool) (m : BitVec 3),
    exec (e.1 c sc vd vs1 vs2 men m) s = .next (s.vWide c sc vd vs1 vs2 men m e.2.1 e.2.2) := by
  unfold vwOps
  iterate 4 refine List.forall_mem_cons.mpr ⟨fun _ _ _ _ _ _ _ _ => rfl, ?_⟩
  exact List.forall_mem_singleton.mpr fun _ _ _ _ _ _ _ _ => rfl

theorem exec_vuOps : ∀ e ∈ vuOps, ∀ (s : State) (c : BitVec 8) (sc : Bool) (vd vs1 vs2 : BitVec 5) (men : Bool) (m : BitVec 3),
    exec (e.1 c sc vd vs1 vs2 men m) s = .next (s.vUn c sc vd vs1 vs2 men m e.2.1 e.2.2) := by
  unfold vuOps
  iterate 3 refine List.forall_mem_cons.mpr ⟨fun _ _ _ _ _ _ _ _ => rfl, ?_⟩
  exact List.forall_mem_singleton.mpr fun _ _ _ _ _ _ _ _ => rfl

/-- A shift whose imm8[7:6] is 0 (R130). -/
theorem vShiftImm_of_lt {imm : BitVec 8} (himm : imm.toNat < 64) (s : State) (c : BitVec 8) (vd vs1 : BitVec 5) (men : Bool)
    (m : BitVec 3) (kind : Nat) : s.vShiftImm c vd vs1 imm men m kind =
      s.vImm c vd vs1 men m false (fun x a => elShift kind x imm.toNat a) := by
  rw [State.vShiftImm, decide_eq_false (Nat.not_le.mpr himm), Nat.mod_eq_of_lt himm]

theorem exec_viOps : ∀ e ∈ viOps, ∀ (s : State) (c : BitVec 8) (vd vs1 : BitVec 5) (imm : BitVec 8) (men : Bool) (m : BitVec 3),
    (e.2.1 = true → imm.toNat < 64) →
    exec (e.1 c vd vs1 imm men m) s = .next (s.vImm c vd vs1 men m false (fun x a => e.2.2 x imm a)) := by
  unfold viOps
  refine List.forall_mem_cons.mpr ⟨fun _ _ _ _ _ _ _ _ => rfl, ?_⟩
  iterate 3 refine List.forall_mem_cons.mpr ⟨fun s c vd vs1 imm men m himm =>
    congrArg Host.Outcome.next (vShiftImm_of_lt (himm rfl) s c vd vs1 men m _), ?_⟩
  exact List.forall_mem_singleton.mpr fun s c vd vs1 imm men m himm =>
    congrArg Host.Outcome.next (vShiftImm_of_lt (himm rfl) s c vd vs1 men m _)

theorem exec_vcOps : ∀ e ∈ vcOps, ∃ types : Nat → Bool, (∀ x, e.2.1 x = true → types x = true) ∧
    ∀ (s : State) (c : BitVec 8) (d s1 s2 : BitVec 5) (men : Bool) (m : BitVec 3),
      exec (e.1 c d s1 s2 men m) s = .next (s.vCmp c d s1 s2 men m types e.2.2) := by
  unfold vcOps
  refine List.forall_mem_cons.mpr ⟨⟨fun _ => true, fun _ _ => rfl, fun _ _ _ _ _ _ _ => rfl⟩, ?_⟩
  refine List.forall_mem_cons.mpr ⟨⟨_, fun _ h => h, fun _ _ _ _ _ _ _ => rfl⟩, ?_⟩
  exact List.forall_mem_singleton.mpr ⟨_, fun _ h => h, fun _ _ _ _ _ _ _ => rfl⟩

theorem exec_vmOps : ∀ e ∈ vmOps, ∀ (s : State) (c : BitVec 8) (d s1 s2 : BitVec 5) (men : Bool) (m : BitVec 3),
    exec (e.1 c d s1 s2 men m) s = .next (s.vMaskOp c d s1 s2 men m e.2) := by
  unfold vmOps
  iterate 3 refine List.forall_mem_cons.mpr ⟨fun _ _ _ _ _ _ _ => rfl, ?_⟩
  exact List.forall_mem_singleton.mpr fun _ _ _ _ _ _ _ => rfl

theorem exec_vrOps : ∀ e ∈ vrOps, ∀ (s : State) (c : BitVec 8) (d s1 s2 : BitVec 5) (men : Bool) (m : BitVec 3),
    exec (e.1 c d s1 s2 men m) s = .next (s.vRed c d s1 s2 men m e.2.1 e.2.2) := by
  unfold vrOps
  iterate 2 refine List.forall_mem_cons.mpr ⟨fun _ _ _ _ _ _ _ => rfl, ?_⟩
  exact List.forall_mem_singleton.mpr fun _ _ _ _ _ _ _ => rfl

/-- The lowest set bit, or all ones. -/
theorem exec_vmfirst (s : State) (c : BitVec 8) (d s1 s2 : BitVec 5) (men : Bool) (m : BitVec 3) :
    exec (.vmfirst c d s1 s2 men m) s = .next (s.vMaskG c d s1 men m
      (fun _ l => (l.head?.map (fun i => BitVec.ofNat 64 i)).getD (BitVec.allOnes 64))) := by
  refine congrArg (fun f => Host.Outcome.next (s.vMaskG c d s1 men m f)) (funext₂ fun _ l => ?_)
  cases l <;> rfl

/-! ### Element by element -/

section
variable {vd vs1 vs2 : BitVec 5} {sc : Bool} {types : Nat → Bool}

theorem vBin_leaves (f : VMode → Nat → Nat → Nat → Nat × Bool) :
    let k := s.core c.toNat
    let n := k.span
    s.ready c.toNat ⟨if sc then [vs2.toNat] else [], [],
      groupRegs vs1.toNat n ++ (if sc then [] else groupRegs vs2.toNat n), groupRegs vd.toNat n⟩ →
    k.vLegal men m → types k.etype = true → aligned vd n → aligned vs1 n → (sc = false → aligned vs2 n) →
    let t := s.vBin c sc vd vs1 vs2 men m types f
    vDone s t c.toNat ∧ vResult s t c.toNat vd.toNat k.ew (k.active men m) (fun i =>
      f k.vmode (k.elem vd.toNat k.ew i) (k.elem vs1.toNat k.ew i)
        (if sc then (k.gr vs2.toNat).toNat % 2 ^ k.ew else k.elem vs2.toNat k.ew i)) := by
  dsimp only
  intro hready hlegal htype hd h1 h2
  rw [State.vBin, State.vInsn_ready hready (by
    simp [Core.vBad_of_vLegal hlegal, htype, unaligned_of_aligned hd, unaligned_of_aligned h1,
      guarded_eq_false fun h => unaligned_of_aligned (h2 h)])]
  exact s.vRetire_vMap (elemWidth_ewOf _) _ _ _ _ _

theorem vWide_leaves (f : VMode → Nat → Nat → Nat → Nat × Bool) :
    let k := s.core c.toNat
    let n := k.span
    s.ready c.toNat ⟨if sc then [vs2.toNat] else [], [],
      groupRegs vs1.toNat n ++ (if sc then [] else groupRegs vs2.toNat n), groupRegs vd.toNat (2 * n)⟩ →
    k.vLegal men m → types k.etype = true → aligned vd (2 * n) → aligned vs1 n → (sc = false → aligned vs2 n) →
    apart vd.toNat (2 * n) vs1.toNat n → (sc = false → apart vd.toNat (2 * n) vs2.toNat n) →
    let t := s.vWide c sc vd vs1 vs2 men m types f
    vDone s t c.toNat ∧ vResult s t c.toNat vd.toNat (2 * k.ew) (k.active men m) (fun i =>
      f k.vmode (k.elem vd.toNat (2 * k.ew) i) (k.elem vs1.toNat k.ew i)
        (if sc then (k.gr vs2.toNat).toNat % 2 ^ k.ew else k.elem vs2.toNat k.ew i)) := by
  dsimp only
  intro hready hlegal htype hd h1 h2 hap1 hap2
  rw [State.vWide, State.vInsn_ready hready (by
    simp [Core.vBad_of_vLegal hlegal, htype, unaligned_of_aligned hd, unaligned_of_aligned h1, groupsMeet_of_apart hap1,
      guarded_eq_false fun h => unaligned_of_aligned (h2 h), guarded_eq_false fun h => groupsMeet_of_apart (hap2 h)])]
  exact s.vRetire_vMap (elemWidth_two_ewOf _) _ _ _ _ _

theorem vUn_leaves (f : VMode → Nat → Nat × Bool) :
    let k := s.core c.toNat
    let n := k.span
    s.ready c.toNat ⟨[], [], groupRegs vs1.toNat n, groupRegs vd.toNat n⟩ →
    k.vLegal men m → types k.etype = true → aligned vd n → aligned vs1 n →
    let t := s.vUn c false vd vs1 0 men m types f
    vDone s t c.toNat ∧ vResult s t c.toNat vd.toNat k.ew (k.active men m) (fun i => f k.vmode (k.elem vs1.toNat k.ew i)) := by
  dsimp only
  intro hready hlegal htype hd h1
  rw [State.vUn, State.vInsn_ready hready (by
    simp [Core.vBad_of_vLegal hlegal, htype, unaligned_of_aligned hd, unaligned_of_aligned h1])]
  exact s.vRetire_vMap (elemWidth_ewOf _) _ _ _ _ _

theorem exec_vcvt_leaves {dst : BitVec 5} :
    let k := s.core c.toNat
    let n := k.span
    s.ready c.toNat ⟨[], [], groupRegs vs1.toNat n, groupRegs vd.toNat n⟩ →
    k.vLegal men m → cvtOk k.etype dst.toNat = true → aligned vd n → aligned vs1 n →
    ∃ t, exec (.vcvt c false vd vs1 dst men m) s = .next t ∧ vDone s t c.toNat ∧
      vResult s t c.toNat vd.toNat k.ew (k.active men m) (fun i => cvt k.rmode k.etype dst.toNat (k.elem vs1.toNat k.ew i)) := by
  dsimp only
  intro hready hlegal htype hd h1
  refine ⟨_, congrArg Host.Outcome.next (State.vInsn_ready hready ?_ _ _), s.vRetire_vMap (elemWidth_ewOf _) _ _ _ _ _⟩
  simp [Core.vBad_of_vLegal hlegal, htype, unaligned_of_aligned hd, unaligned_of_aligned h1]

theorem vNarrow_leaves {rs : List Nat} {bad : Bool} (hbad : bad = false) (amount : Core → Nat) :
    let k := s.core c.toNat
    let n := k.span
    s.ready c.toNat ⟨rs, [], groupRegs vs1.toNat (2 * n), groupRegs vd.toNat n⟩ →
    k.vLegal men m → tyNarrow k.etype = true → aligned vd n → aligned vs1 (2 * n) → apart vd.toNat n vs1.toNat (2 * n) →
    let t := s.vNarrow c rs bad vd vs1 men m amount
    vDone s t c.toNat ∧ vResult s t c.toNat vd.toNat k.ew (k.active men m)
      (fun i => elNarrow k.vmode (amount k) (k.elem vs1.toNat (2 * k.ew) i)) := by
  dsimp only
  intro hready hlegal htype hd h1 hap
  rw [State.vNarrow, State.vInsn_ready hready (by
    simp [Core.vBad_of_vLegal hlegal, hbad, htype, unaligned_of_aligned hd, unaligned_of_aligned h1, groupsMeet_of_apart hap])]
  exact s.vRetire_vMap (elemWidth_ewOf _) _ _ _ _ _

theorem vImm_leaves {bad : Bool} (hbad : bad = false) (f : VMode → Nat → Nat × Bool) :
    let k := s.core c.toNat
    let n := k.span
    s.ready c.toNat ⟨[], [], groupRegs vs1.toNat n, groupRegs vd.toNat n⟩ →
    k.vLegal men m → tyRC k.etype = true → aligned vd n → aligned vs1 n →
    let t := s.vImm c vd vs1 men m bad f
    vDone s t c.toNat ∧ vResult s t c.toNat vd.toNat k.ew (k.active men m) (fun i => f k.vmode (k.elem vs1.toNat k.ew i)) := by
  dsimp only
  intro hready hlegal htype hd h1
  have htype : (tyR (s.core c.toNat).etype || tyC (s.core c.toNat).etype) = true := htype
  rw [State.vImm, State.vInsn_ready hready (by
    simp [Core.vBad_of_vLegal hlegal, hbad, htype, unaligned_of_aligned hd, unaligned_of_aligned h1, -Bool.not_or])]
  exact s.vRetire_vMap (elemWidth_ewOf _) _ _ _ _ _

end

/-! ### Across elements -/

section
variable {d s1 s2 : BitVec 5} {types : Nat → Bool}

/-- One element is a list of one. -/
theorem Core.setElem_eq_vMap (k : Core) (g ew i : Nat) (r : Nat × Bool) :
    (k.setElem g ew i r.1, r.2) = k.vMap g ew [i] (fun _ => r) := by
  rw [Core.vMap, List.any_cons, List.any_nil, Bool.or_false]
  rfl

theorem Core.setElems_eq_vMap (k : Core) (g ew : Nat) (is : List Nat) (x : Nat → Nat) :
    (k.setElems g ew (is.map (fun i => (i, x i))), false) = k.vMap g ew is (fun i => (x i, false)) := by
  rw [Core.vMap, List.any_eq_false.mpr fun _ _ => Bool.false_ne_true]

theorem vRed_leaves (f : VMode → Nat → List Nat → Nat × Bool) :
    let k := s.core c.toNat
    let n := k.span
    s.ready c.toNat ⟨[], [], groupRegs s1.toNat n ++ groupRegs s2.toNat n, groupRegs d.toNat n⟩ →
    k.vLegal men m → types k.etype = true → aligned d n → aligned s1 n → aligned s2 n →
    let t := s.vRed c d s1 s2 men m types f
    vDone s t c.toNat ∧ vResult s t c.toNat d.toNat k.ew (if k.vcount = 0 then [] else [0]) (fun _ =>
      f k.vmode (k.elem s2.toNat k.ew 0) ((k.active men m).map (fun i => k.elem s1.toNat k.ew i))) := by
  dsimp only
  intro hready hlegal htype hd h1 h2
  rw [State.vRed, State.vInsn_ready hready (by
    simp [Core.vBad_of_vLegal hlegal, htype, unaligned_of_aligned hd, unaligned_of_aligned h1, unaligned_of_aligned h2])]
  by_cases hcount : (s.core c.toNat).vcount = 0
  · rw [if_pos hcount, if_pos hcount]
    exact s.vRetire_vMap (elemWidth_ewOf _) c.toNat _ d.toNat [] _
  · rw [if_neg hcount, if_neg hcount, Core.setElem_eq_vMap]
    exact s.vRetire_vMap (elemWidth_ewOf _) c.toNat _ d.toNat [0] _

theorem exec_vext_leaves :
    let k := s.core c.toNat
    let n := k.span
    s.ready c.toNat ⟨[s2.toNat], [d.toNat], groupRegs s1.toNat n, []⟩ → k.vLegal false 0 → aligned s1 n →
    ∃ t, exec (.vext c d s1 s2 false 0) s = .next t ∧ vDone s t c.toNat ∧
      (∀ r, (t.core c.toNat).gr r = if r = d.toNat ∧ d ≠ 0 then
        BitVec.ofInt 64 (sgn k.ew (k.elem s1.toNat k.ew ((k.gr s2.toNat).toNat % k.vlmax))) else k.gr r) ∧
      (t.core c.toNat).v = k.v ∧ (t.core c.toNat).m = k.m := by
  dsimp only
  intro hready hlegal h1
  refine ⟨_, congrArg Host.Outcome.next (State.vInsn_ready hready ?_ _ _), s.vRetire_setG _ _ _ _⟩
  rw [Core.vBad_of_vLegal hlegal, unaligned_of_aligned h1]
  rfl

theorem exec_vins_leaves :
    let k := s.core c.toNat
    let n := k.span
    s.ready c.toNat ⟨[s1.toNat, s2.toNat], [], [], groupRegs d.toNat n⟩ → k.vLegal false 0 → aligned d n →
    ∃ t, exec (.vins c d s1 s2 false 0) s = .next t ∧ vDone s t c.toNat ∧
      vResult s t c.toNat d.toNat k.ew [(k.gr s2.toNat).toNat % k.vlmax] (fun _ => ((k.gr s1.toNat).toNat, false)) := by
  dsimp only
  intro hready hlegal hd
  refine ⟨_, congrArg Host.Outcome.next (State.vInsn_ready hready ?_ _ _), ?_⟩
  · rw [Core.vBad_of_vLegal hlegal, unaligned_of_aligned hd]
    rfl
  · rw [(s.core c.toNat).setElem_eq_vMap _ _ _ ((((s.core c.toNat).gr s1.toNat).toNat, false))]
    exact s.vRetire_vMap (elemWidth_ewOf _) _ _ _ _ _

/-- A move that writes the elements `js` with the values of `x`. -/
theorem vMove_leaves {rs vs js : List Nat} {src : List (BitVec 5)} {bad ap : Bool} {is : Core → List Nat}
    {f : Core → Nat → Option Nat} {x : Nat → Nat} (hbad : bad = false) (twice : Nat) :
    let k := s.core c.toNat
    let n := k.span
    s.ready c.toNat ⟨rs, [], vs, groupRegs d.toNat n⟩ → src.flatMap (fun g => groupRegs g.toNat n) = vs →
    k.vLegal men m → aligned d n → (∀ g ∈ src, aligned g n) →
    (ap = true → ∀ g ∈ src, apart d.toNat n g.toNat n) →
    (is k).filterMap (fun i => (f k i).map (fun y => (i, y))) = js.map (fun i => (i, x i)) →
    let t := s.vMove c rs d src men m bad ap twice is f
    vDone s t c.toNat ∧ vResult s t c.toNat d.toNat k.ew js (fun i => (x i, false)) := by
  dsimp only
  intro hready hvs hlegal hd hsrc hap hf
  have halign := any_unaligned hsrc
  have hmeet := any_groupsMeet hap
  subst hvs
  rw [State.vMove, State.vInsn_ready hready (by
    simp only [Core.vBad_of_vLegal hlegal, hbad, unaligned_of_aligned hd, halign, hmeet]
    rfl), hf, Core.setElems_eq_vMap]
  exact s.vRetire_vMap (elemWidth_ewOf _) _ _ _ _ _

/-- A move with a value for every element. -/
theorem filterMap_map_some (l : List Nat) (x : Nat → Nat) :
    l.filterMap (fun i => (some (x i)).map (fun y => (i, y))) = l.map (fun i => (i, x i)) :=
  congrFun List.filterMap_eq_map' l

/-- A move with a value for the elements of a condition. -/
theorem filterMap_map_ite (l : List Nat) (p : Nat → Prop) [DecidablePred p] (x : Nat → Nat) :
    l.filterMap (fun i => (if p i then some (x i) else none).map (fun y => (i, y))) =
      (l.filter (fun i => p i)).map (fun i => (i, x i)) := by
  rw [← List.filterMap_eq_map', List.filterMap_filter]
  refine congrArg (List.filterMap · l) (funext fun i => ?_)
  by_cases h : p i <;> simp [h]

/-- With VRESUME 0 an instruction starts at its first element. -/
theorem Core.allElements_of_vLegal {k : Core} (h : k.vLegal men m) : k.span_ = List.range k.vcount := by
  obtain ⟨-, -, hresume⟩ := h
  exact List.filter_eq_self.mpr fun i _ => decide_eq_true (hresume ▸ Nat.zero_le i)

theorem vCmp_leaves (f : VMode → Nat → Nat → Bool) :
    let k := s.core c.toNat
    let n := k.span
    s.ready c.toNat ⟨[], [], groupRegs s1.toNat n ++ groupRegs s2.toNat n, []⟩ → k.vLegal men m → types k.etype = true →
    d.toNat < 8 → aligned s1 n → aligned s2 n →
    let t := s.vCmp c d s1 s2 men m types f
    vDone s t c.toNat ∧ mResult s t c.toNat d.toNat (k.active men m)
      (fun i => f k.vmode (k.elem s1.toNat k.ew i) (k.elem s2.toNat k.ew i)) := by
  dsimp only
  intro hready hlegal htype hd h1 h2
  rw [State.vCmp, State.vInsn_ready hready (by
    simp [Core.vBad_of_vLegal hlegal, badMask_of_lt hd, htype, unaligned_of_aligned h1, unaligned_of_aligned h2])]
  exact s.vRetire_mMap _ _ _ _ _

theorem vMaskOp_leaves (f : Bool → Bool → Bool) :
    let k := s.core c.toNat
    s.ready c.toNat (useG [] []) → k.vLegal false 0 → d.toNat < 8 → s1.toNat < 8 → s2.toNat < 8 →
    let t := s.vMaskOp c d s1 s2 false 0 f
    vDone s t c.toNat ∧ mResult s t c.toNat d.toNat (List.range k.vcount)
      (fun i => f ((k.mr s1.toNat).getLsbD i) ((k.mr s2.toNat).getLsbD i)) := by
  dsimp only
  intro hready hlegal hd h1 h2
  rw [State.vMaskOp, State.vInsn_ready hready (by
    rw [Core.vBad_of_vLegal hlegal, badMask_of_lt hd, badMask_of_lt h1, badMask_of_lt h2]
    rfl)]
  exact s.vRetire_mMap _ _ _ _ _

theorem vMaskG_leaves (f : Core → List Nat → DWord) :
    let k := s.core c.toNat
    s.ready c.toNat (useG [] [d.toNat]) → k.vLegal false 0 → s1.toNat < 8 →
    let t := s.vMaskG c d s1 false 0 f
    vDone s t c.toNat ∧ (∀ r, (t.core c.toNat).gr r = if r = d.toNat ∧ d ≠ 0 then
        f k ((List.range k.vcount).filter (fun i => (k.mr s1.toNat).getLsbD i)) else k.gr r) ∧
      (t.core c.toNat).v = k.v ∧ (t.core c.toNat).m = k.m := by
  dsimp only
  intro hready hlegal h1
  rw [State.vMaskG, State.vInsn_ready hready (by
    rw [Core.vBad_of_vLegal hlegal, badMask_of_lt h1]
    rfl)]
  exact s.vRetire_setG _ _ _ _

end

end Sys2Proof.Machine
end


section
/-!
SUPPORT. VMODE and VCOUNT after VSETCLAIM and VCLAIM (R117, R119 to R121).
-/

namespace Sys2Proof.Machine

variable {s : State} {k : Core}

/-! ### Bit fields -/

theorem bitsOf_toNat {w : Nat} (x : BitVec w) (hi lo : Nat) : bitsOf x.toNat hi lo = (x.extractLsb' lo (hi + 1 - lo)).toNat := rfl

/-! ### VMODE (R117, R119, R121) -/

/-- The bits of VMODE that software writes, after VSETCLAIM: the immediate and FU_DIS as before. -/
def setClaimBits (old : DWord) (mode : BitVec 9) : DWord := ((old &&& 0xF000) ||| mode.zeroExtend 64) &&& 0xF1FF

/-- VMODE with VILL. -/
def withVill (bad : Bool) (w : DWord) : DWord := if bad then w ||| 0x8000000000000000 else w

theorem setClaimBits_low (old : DWord) (mode : BitVec 9) (bad : Bool) :
    (withVill bad (setClaimBits old mode)).extractLsb' 0 9 = mode := by
  refine BitVec.eq_of_getLsbD_eq fun i hi => ?_
  cases bad <;> interval_cases i <;> simp [withVill, setClaimBits]

theorem setClaimBits_fuDis (old : DWord) (mode : BitVec 9) (bad : Bool) :
    (withVill bad (setClaimBits old mode)).extractLsb' 12 4 = old.extractLsb' 12 4 := by
  refine BitVec.eq_of_getLsbD_eq fun i hi => ?_
  cases bad <;> interval_cases i <;> simp [withVill, setClaimBits]

theorem setClaimBits_vill (old : DWord) (mode : BitVec 9) (bad : Bool) :
    (withVill bad (setClaimBits old mode)).getLsbD 63 = bad := by
  cases bad <;> simp [withVill, setClaimBits]

theorem setClaimBits_etype (old : DWord) (mode : BitVec 9) (bad : Bool) :
    bitsOf (withVill bad (setClaimBits old mode)).toNat 3 0 = mode.toNat % 16 := by
  have h := congrArg BitVec.toNat (setClaimBits_low old mode bad)
  rw [BitVec.extractLsb'_toNat, Nat.shiftRight_zero] at h
  rw [← h, bitsOf, Nat.shiftRight_zero]
  omega

theorem setClaimBits_span (old : DWord) (mode : BitVec 9) (bad : Bool) :
    bitsOf (withVill bad (setClaimBits old mode)).toNat 5 4 = mode.toNat / 16 % 4 := by
  have h := congrArg BitVec.toNat (setClaimBits_low old mode bad)
  rw [BitVec.extractLsb'_toNat, Nat.shiftRight_zero] at h
  rw [← h, bitsOf, Nat.shiftRight_eq_div_pow]
  omega

/-- The core after VSETCLAIM has written VMODE, before it claims (R121). -/
def Core.setMode (k : Core) (mode : BitVec 9) : Core := k.writeVmode ((k.crv crVmode &&& 0xF000) ||| mode.zeroExtend 64)

theorem Core.crv_setMode (k : Core) (mode : BitVec 9) : (k.setMode mode).crv crVmode =
    withVill (vill (mode.toNat % 16) (mode.toNat / 16 % 4)) (setClaimBits (k.crv crVmode) mode) := by
  rw [← setClaimBits_etype (k.crv crVmode) mode false, ← setClaimBits_span (k.crv crVmode) mode false]
  exact (Core.crv_setCr_ne _ (by decide) _).trans (Core.crv_setCr _ _ _)

theorem Core.villOn_setMode (k : Core) (mode : BitVec 9) :
    (k.setMode mode).villOn = vill (mode.toNat % 16) (mode.toNat / 16 % 4) := by
  rw [Core.villOn, Core.crv_setMode, setClaimBits_vill]

theorem Core.vlmax_setMode (k : Core) (mode : BitVec 9) :
    (k.setMode mode).vlmax = 2 ^ (mode.toNat / 16 % 4) * 4096 / ewOf (mode.toNat % 16) := by
  rw [Core.vlmax, Core.span, Core.etype, Core.crBits, Core.crBits, Core.crv_setMode, setClaimBits_span, setClaimBits_etype]

theorem Core.fuDis_setMode (k : Core) (mode : BitVec 9) : (k.setMode mode).fuDis = k.fuDis := by
  rw [Core.fuDis, Core.crBits, bitsOf_toNat, Core.crv_setMode]
  exact congrArg BitVec.toNat (setClaimBits_fuDis _ _ _)

/-- A legal VMODE holds at most 512 elements in a group (R117). -/
theorem vlmax_le_of_vill {e sp : Nat} (h : vill e sp = false) : 2 ^ sp * 4096 / ewOf e ≤ 512 := by
  rw [vill, Bool.or_eq_false_iff] at h
  exact Nat.not_lt.mp (of_decide_eq_false h.2)

/-! ### Claims (R120) -/

theorem Core.claim_setMode_le (k : Core) (mode : BitVec 9) (req : DWord) : (k.setMode mode).claim req ≤ 512 := by
  rw [Core.claim, Core.villOn_setMode, Core.vlmax_setMode]
  split
  · exact Nat.zero_le _
  · exact (Nat.min_le_right _ _).trans (vlmax_le_of_vill (Bool.eq_false_of_not_eq_true ‹_›))

theorem Core.crv_vclaim (k : Core) (rd rs1 : Nat) : (k.vclaim rd rs1).crv crVcount = BitVec.ofNat 64 (k.claim (k.gr rs1)) := by
  rw [Core.crv, Core.vclaim, Core.setG_cr]
  exact Core.crv_setCr _ _ _

theorem Core.crv_vclaim_ne {n : Nat} (h : n ≠ crVcount) (k : Core) (rd rs1 : Nat) : (k.vclaim rd rs1).crv n = k.crv n := by
  rw [Core.crv, Core.vclaim, Core.setG_cr]
  exact Core.crv_setCr_ne _ h _

theorem Core.vcount_vclaim {rs1 : Nat} (h : k.claim (k.gr rs1) ≤ 512) (rd : Nat) :
    (k.vclaim rd rs1).vcount = k.claim (k.gr rs1) := by
  rw [Core.vcount, Core.crBits, Core.crv_vclaim, bitsOf, BitVec.toNat_ofNat, Nat.shiftRight_zero]
  omega

theorem Core.gr_vclaim (k : Core) (rd : BitVec 5) (rs1 r : Nat) : (k.vclaim rd.toNat rs1).gr r =
    if r = rd.toNat ∧ rd ≠ 0 then BitVec.ofNat 64 (k.claim (k.gr rs1)) else k.gr r := by
  refine (Core.gr_setG _ _ _ _).trans ?_
  simp only [toNat_ne_zero]
  rfl

theorem Core.vclaim_frame (k : Core) (rd rs1 : Nat) :
    (k.vclaim rd rs1).pc = k.pc ∧ (k.vclaim rd rs1).v = k.v ∧ (k.vclaim rd rs1).m = k.m := by
  rw [Core.vclaim, Core.setG_pc, Core.setG_v, Core.setG_m]
  exact ⟨rfl, rfl, rfl⟩

/-- An instruction that changes control registers by `f`, then claims, and retires. -/
theorem vclaim_retires (s : State) (c rd rs1 : Nat) {f : Core → Core} (hpc : (f (s.core c)).pc = (s.core c).pc)
    (hv : (f (s.core c)).v = (s.core c).v) (hm : (f (s.core c)).m = (s.core c).m) :
    let t := (s.mapCore c (fun k => (f k).vclaim rd rs1)).retire c
    (∀ n, (t.core c).crv n = ((f (s.core c)).vclaim rd rs1).crv n) ∧
      (∀ r, (t.core c).gr r = ((f (s.core c)).vclaim rd rs1).gr r) ∧
      (t.core c).v = (s.core c).v ∧ (t.core c).m = (s.core c).m ∧ (t.core c).pc = (s.core c).pc + 4 ∧ onlyCore s t c := by
  obtain ⟨hcpc, hcv, hcm⟩ := (f (s.core c)).vclaim_frame rd rs1
  rw [State.retire, State.core_mapCore, hcpc, hpc]
  obtain ⟨hcore, honly⟩ := retireTo_mapCore s c (fun k => (f k).vclaim rd rs1) ((s.core c).pc + 4)
  refine ⟨fun n => ?_, fun r => ?_, ?_, ?_, ?_, honly⟩ <;> rw [hcore]
  · rfl
  · rfl
  · exact hcv.trans hv
  · exact hcm.trans hm

theorem exec_vclaim_ready {c : BitVec 8} {rd rs1 : BitVec 5} (h : s.ready c.toNat (useG [rs1.toNat] [rd.toNat])) :
    exec (.vclaim c rd rs1 0 0) s =
      .next ((s.mapCore c.toNat (fun k => k.vclaim rd.toNat rs1.toNat)).retire c.toNat) :=
  congrArg _ (State.runInsn_ready h _ _ _)

theorem exec_vsetclaim_ready {c : BitVec 8} {rd rs1 : BitVec 5} (h : s.ready c.toNat (useG [rs1.toNat] [rd.toNat]))
    (mode : BitVec 9) : exec (.vsetclaim c rd rs1 0 mode) s =
      .next ((s.mapCore c.toNat (fun k => (k.setMode mode).vclaim rd.toNat rs1.toNat)).retire c.toNat) :=
  congrArg _ (State.runInsn_ready h _ _ _)

end Sys2Proof.Machine
end

section
/-!
PROOFS. The vector instructions but for memory accesses (O16 to O24).
-/

open Sys2Proof Sys2Proof.Machine

/-- Settles O16: the claim stands in VCOUNT (`Core.crv_vclaim`) and rd (`Core.gr_vclaim`), and nothing else changes
(`vclaim_retires`). -/
theorem vectorClaim : Obligations.VectorClaim := by
  unfold Obligations.VectorClaim
  intro s c rd rs1 hready
  obtain ⟨hcr, hgr, hv, hm, hpc, honly⟩ := vclaim_retires s c.toNat rd.toNat rs1.toNat (f := id) rfl rfl rfl
  exact ⟨_, exec_vclaim_ready hready, (hcr _).trans (Core.crv_vclaim _ _ _), fun r => (hgr r).trans (Core.gr_vclaim _ _ _ _),
    fun r hr => (hcr r).trans (Core.crv_vclaim_ne hr _ _ _), hv, hm, hpc, honly⟩

/-- Settles O17: VMODE is the immediate under the old FU_DIS with VILL computed (`Core.crv_setMode`), and the claim is made of the
core that holds it. -/
theorem vectorSetClaim : Obligations.VectorSetClaim := by
  unfold Obligations.VectorSetClaim
  intro s c rd rs1 mode hready k
  obtain ⟨hcr, hgr, hv, hm, hpc, honly⟩ := vclaim_retires s c.toNat rd.toNat rs1.toNat (f := (Core.setMode · mode)) rfl rfl rfl
  refine ⟨_, exec_vsetclaim_ready hready mode, ?_⟩
  set t := (s.mapCore c.toNat (fun k => (k.setMode mode).vclaim rd.toNat rs1.toNat)).retire c.toNat
  have hmode : (t.core c.toNat).crv crVmode = (k.setMode mode).crv crVmode :=
    (hcr _).trans (Core.crv_vclaim_ne (by decide) _ _ _)
  have hvill : (t.core c.toNat).villOn = (k.setMode mode).villOn := congrArg (BitVec.getLsbD · 63) hmode
  have hvlmax : (t.core c.toNat).vlmax = (k.setMode mode).vlmax := by
    simp only [Core.vlmax, Core.span, Core.etype, Core.crBits, hmode]
  have hvcount : (t.core c.toNat).vcount = (k.setMode mode).claim (k.gr rs1.toNat) := by
    rw [Core.vcount, Core.crBits, hcr]
    exact Core.vcount_vclaim (k.claim_setMode_le mode _) _
  refine ⟨?_, ?_, hvill.trans (k.villOn_setMode mode), ?_, fun r => ?_, hv, hm, hpc, honly⟩
  · rw [hmode, Core.crv_setMode, setClaimBits_low]
  · rw [Core.fuDis, Core.crBits, hmode]
    exact k.fuDis_setMode mode
  · rw [hvcount, hvill, hvlmax, Core.claim]
  · rw [hgr, hvcount]
    exact Core.gr_vclaim _ _ _ _

/-- Settles O18: each row is the shared operation (`exec_vvOps`, `vBin_leaves`). -/
theorem vectorTwoOperands : Obligations.VectorTwoOperands := by
  unfold Obligations.VectorTwoOperands
  intro e he s c sc vd vs1 vs2 men m k n hready hlegal htype hd h1 h2
  obtain ⟨types, htypes, hexec⟩ := exec_vvOps e he
  exact ⟨_, hexec s c sc vd vs1 vs2 men m, vBin_leaves e.2.2 hready hlegal (htypes _ htype) hd h1 h2⟩

/-- Settles O19: each row is the shared operation (`exec_vwOps`, `vWide_leaves`). -/
theorem vectorWidening : Obligations.VectorWidening := by
  unfold Obligations.VectorWidening
  intro e he s c sc vd vs1 vs2 men m k n hready hlegal htype hd h1 h2 hap1 hap2
  exact ⟨_, exec_vwOps e he s c sc vd vs1 vs2 men m, vWide_leaves e.2.2 hready hlegal htype hd h1 h2 hap1 hap2⟩

/-- Settles O20: one operand (`exec_vuOps`, `vUn_leaves`), conversion, and narrowing by a scalar or an immediate
(`vNarrow_leaves`). -/
theorem vectorOneOperand : Obligations.VectorOneOperand := by
  unfold Obligations.VectorOneOperand
  intro s c vd vs1 men m k n hlegal hd
  refine ⟨fun h1 hready => ⟨fun e he htype => ⟨_, exec_vuOps e he s c false vd vs1 0 men m, ?unary⟩,
    fun dst htype => exec_vcvt_leaves hready hlegal htype hd h1⟩,
    fun h1 hap htype => ⟨fun rs2 hready => ⟨_, rfl, ?scalar⟩, fun imm himm hready => ⟨_, rfl, ?immediate⟩⟩⟩
  case unary => exact vUn_leaves e.2.2 hready hlegal htype hd h1
  case scalar => exact vNarrow_leaves rfl _ hready hlegal htype hd h1 hap
  case immediate =>
    rw [Nat.mod_eq_of_lt himm]
    exact vNarrow_leaves (decide_eq_false (Nat.not_le.mpr himm)) _ hready hlegal htype hd h1 hap

/-- Settles O21: the immediates (`exec_viOps`) and VSPLATI are one operation (`vImm_leaves`); VSPLAT moves the scalar to every
active element. -/
theorem vectorImmediates : Obligations.VectorImmediates := by
  unfold Obligations.VectorImmediates
  intro s c vd vs1 imm men m k n hlegal hd
  refine ⟨fun h1 htype hready => ⟨fun e he himm => ⟨_, exec_viOps e he s c vd vs1 imm men m himm, ?immediate⟩,
    fun hvs1 => ⟨_, rfl, ?splati⟩⟩, fun rs1 hready => ⟨_, rfl, ?splat⟩⟩
  case immediate => exact vImm_leaves rfl (fun x a => e.2.2 x imm a) hready hlegal htype hd h1
  case splati => exact vImm_leaves (decide_eq_false (not_not_intro hvs1)) _ hready hlegal htype hd h1
  case splat =>
    exact vMove_leaves rfl 1 hready rfl hlegal hd (List.forall_mem_nil _) (fun _ => List.forall_mem_nil _) (filterMap_map_some _ _)

/-- Settles O22: comparisons and mask logic write bits (`vCmp_leaves`, `vMaskOp_leaves`), VMPOPC and VMFIRST a g register
(`vMaskG_leaves`). -/
theorem vectorMasks : Obligations.VectorMasks := by
  unfold Obligations.VectorMasks
  refine ⟨fun e he s c d s1 s2 men m hready hlegal htype hd h1 h2 => ?compare,
    fun e he s c d s1 s2 hready hlegal hd h1 h2 =>
      ⟨_, exec_vmOps e he s c d s1 s2 false 0, vMaskOp_leaves e.2 hready hlegal hd h1 h2⟩,
    fun s c d s1 s2 hready hlegal h1 => ⟨⟨_, rfl, vMaskG_leaves _ hready hlegal h1⟩,
      ⟨_, exec_vmfirst s c d s1 s2 false 0, vMaskG_leaves _ hready hlegal h1⟩⟩⟩
  case compare =>
    obtain ⟨types, htypes, hexec⟩ := exec_vcOps e he
    exact ⟨_, hexec s c d s1 s2 men m, vCmp_leaves e.2.2 hready hlegal (htypes _ htype) hd h1 h2⟩

/-- Settles O23: reductions write element 0 or nothing (`exec_vrOps`, `vRed_leaves`); VEXT and VINS move one element. -/
theorem vectorReductions : Obligations.VectorReductions := by
  unfold Obligations.VectorReductions
  refine ⟨fun e he s c d s1 s2 men m hready hlegal htype hd h1 h2 =>
    ⟨_, exec_vrOps e he s c d s1 s2 men m, vRed_leaves e.2.2 hready hlegal htype hd h1 h2⟩,
    fun s c d s1 s2 hlegal => ⟨fun hready h1 => exec_vext_leaves hready hlegal h1,
      fun hready hd => exec_vins_leaves hready hlegal hd⟩⟩

/-- Settles O24: each is a move between groups (`vMove_leaves`) with a value for every listed element, or for VSLIDEUP for those
from the offset on. -/
theorem vectorMoves : Obligations.VectorMoves := by
  unfold Obligations.VectorMoves
  intro s c d s1 s2 men m k n x hlegal hd h1
  have hone : ∀ g ∈ [s1], aligned g n := List.forall_mem_singleton.mpr h1
  have htwo : aligned s2 n → ∀ g ∈ [s1, s2], aligned g n := fun h2 =>
    List.forall_mem_cons.mpr ⟨h1, List.forall_mem_singleton.mpr h2⟩
  have hregs : [s1, s2].flatMap (fun g => groupRegs g.toNat n) = groupRegs s1.toNat n ++ groupRegs s2.toNat n :=
    congrArg (_ ++ ·) (List.append_nil _)
  refine ⟨fun hready hap => ⟨⟨_, rfl, ?slideUp⟩, ⟨_, rfl, ?slideDown⟩⟩, fun hready => ⟨_, rfl, ?copy⟩,
    fun hready h2 => ⟨fun hap1 hap2 => ⟨_, rfl, ?permute⟩, fun hmen => ⟨_, rfl, ?select⟩⟩⟩
  case slideUp =>
    exact vMove_leaves rfl 2 hready (List.append_nil _) hlegal hd hone (fun _ => List.forall_mem_singleton.mpr hap)
      (filterMap_map_ite _ _ _)
  case slideDown =>
    exact vMove_leaves rfl 2 hready (List.append_nil _) hlegal hd hone (fun _ => List.forall_mem_singleton.mpr hap)
      (filterMap_map_some _ _)
  case copy =>
    exact vMove_leaves rfl 1 hready (List.append_nil _) hlegal hd hone (fun h => absurd h Bool.false_ne_true)
      (filterMap_map_some _ _)
  case permute =>
    exact vMove_leaves rfl 2 hready hregs hlegal hd (htwo h2)
      (fun _ => List.forall_mem_cons.mpr ⟨hap1, List.forall_mem_singleton.mpr hap2⟩) (filterMap_map_some _ _)
  case select =>
    rw [← Core.allElements_of_vLegal hlegal]
    exact vMove_leaves (congrArg (!·) hmen) 1 hready hregs hlegal hd (htwo h2) (fun h => absurd h Bool.false_ne_true)
      (filterMap_map_some _ _)

end


section
/-!
SUPPORT. The fused units: when an instruction of a ready core acts, and what its retirement leaves (R140 to R143).
-/

namespace Sys2Proof.Machine

variable {s : State} {c : Nat}

/-! ### Refusals (R143) -/

theorem State.fuBad_legal {unit : Nat} {illegal mode : Bool} (h : s.fuBad c unit false false = none) (hillegal : illegal = false)
    (hmode : mode = false) : s.fuBad c unit illegal mode = none := by
  rw [hillegal, hmode, h]

theorem rangeIf_false {b : Bool} (h : b = false) : rangeIf b = none := by rw [h]; rfl

/-- The fused instruction of a ready core that nothing refuses and that has room acts. -/
theorem State.runInsn_fused {u : Use} {bad chk : Option Trap} {wait : Bool} (h : s.ready c u) (hbad : bad = none)
    (hchk : chk = none) (hwait : wait = false) (oldest : Bool) (act : State) :
    s.runInsn c u .skip bad chk wait oldest act = act := by
  rw [hbad, hchk, hwait]
  exact State.runInsn_ready h _ _ _

/-! ### Retirement (R141) -/

/-- What a fused instruction leaves as it was in its core until it retires: the pc, the g, vector and mask registers, and VSAT. -/
def Core.fuSame (k l : Core) : Prop := l.pc = k.pc ∧ l.g = k.g ∧ l.v = k.v ∧ l.m = k.m ∧ l.crv crVsat = k.crv crVsat

theorem State.fuRetire_mapCore {f : Core → Core} (h : (s.core c).fuSame (f (s.core c))) :
    let t := (s.mapCore c f).fuRetire c
    fuDone s t c ∧ (t.core c).fres = (f (s.core c)).fres ∧ (t.core c).ilv = (f (s.core c)).ilv ∧
      (t.core c).cr = (f (s.core c)).cr := by
  obtain ⟨hpc, hg, hv, hm, hsat⟩ := h
  have honly : onlyCore s ((s.mapCore c f).fuRetire c) c := (((onlyCore.refl s c).mapCore f).tallied 18 1).retire
  have hcore : ((s.mapCore c f).fuRetire c).core c = { f (s.core c) with
      tally := (((s.mapCore c f).fuRetire c).core c).tally
      pc := (f (s.core c)).pc + 4
      done := (((s.mapCore c f).fuRetire c).core c).done } := by
    rw [State.fuRetire, State.retire, State.core_retireTo, State.core_tallied, State.core_mapCore]
  refine ⟨⟨?_, ?_, ?_, ?_, ?_, honly⟩, ?_, ?_, ?_⟩ <;> rw [hcore]
  · exact congrArg (· + 4) hpc
  · exact hg
  · exact hv
  · exact hm
  · exact hsat

/-! ### Results on their way (R141) -/

theorem Core.fuPush_same (k : Core) (r : FusedRes) : k.fuSame (k.fuPush r) := ⟨rfl, rfl, rfl, rfl, rfl⟩

theorem Core.fuG_same (k : Core) (unit rd : Nat) (v : DWord) : k.fuSame (k.fuG unit rd v) := by
  unfold Core.fuG
  split
  · exact ⟨rfl, rfl, rfl, rfl, rfl⟩
  · exact k.fuPush_same _

theorem Core.fres_fuG (k : Core) (unit : Nat) (rd : BitVec 5) (v : DWord) : (k.fuG unit rd.toNat v).fres =
    if rd = 0 then k.fres else k.fres ++ [⟨unit, false, rd.toNat, v.zeroExtend 4096, false⟩] := by
  rw [Core.fuG, apply_ite Core.fres, if_congr (not_iff_not.mp toNat_ne_zero) rfl rfl]
  rfl

theorem Core.cr_fuG (k : Core) (unit rd : Nat) (v : DWord) : (k.fuG unit rd v).cr = k.cr := by
  unfold Core.fuG
  split <;> rfl

/-- A result for a g register is on its way. -/
theorem fuG_leaves (s : State) (c unit : Nat) (rd : BitVec 5) (x : Core → DWord) :
    let k := s.core c
    let t := (s.mapCore c (fun k => k.fuG unit rd.toNat (x k))).fuRetire c
    fuDone s t c ∧
      ((t.core c).fres = if rd = 0 then k.fres else k.fres ++ [⟨unit, false, rd.toNat, (x k).zeroExtend 4096, false⟩]) ∧
      (t.core c).cr = k.cr := by
  intro k t
  obtain ⟨hdone, hfres, -, hcr⟩ := State.fuRetire_mapCore (f := fun k => k.fuG unit rd.toNat (x k)) (k.fuG_same _ _ _)
  exact ⟨hdone, hfres.trans (k.fres_fuG _ _ _), hcr.trans (k.cr_fuG _ _ _)⟩

end Sys2Proof.Machine
end

section
/-!
SUPPORT. CORR: results packed in a vector register, and the peak search (R141, R144).
-/

namespace Sys2Proof.Machine

variable {α : Type} {s : State} {k : Core}

/-! ### Fields of a packed register -/

/-- Field `j` of a register in which field `i` alone is set. -/
theorem extract_field {w j x : Nat} (hw : 0 < w) (hj : w * j + w ≤ 4096) (hx : x < 2 ^ w) (i : Nat) :
    (BitVec.ofNat 4096 x <<< (w * i)).extractLsb' (w * j) w = if j = i then BitVec.ofNat w x else 0 := by
  have hhigh : ∀ b, w ≤ b → x.testBit b = false := fun b hb =>
    Nat.testBit_lt_two_pow (hx.trans_le (Nat.pow_le_pow_right (by decide) hb))
  refine BitVec.eq_of_getLsbD_eq fun b hb => ?_
  rw [BitVec.getLsbD_extractLsb', BitVec.getLsbD_shiftLeft, BitVec.getLsbD_ofNat]
  simp only [hb, show w * j + b < 4096 by omega, show w * j + b - w * i < 4096 by omega, decide_true, Bool.true_and]
  obtain hlt | rfl | hgt := Nat.lt_trichotomy j i
  · have hle : w * (j + 1) ≤ w * i := Nat.mul_le_mul_left w hlt
    rw [Nat.mul_succ] at hle
    simp [hlt.ne, show w * j + b < w * i by omega]
  · rw [if_pos rfl, BitVec.getLsbD_ofNat]
    simp [hb]
  · have hle : w * (i + 1) ≤ w * j := Nat.mul_le_mul_left w hgt
    rw [Nat.mul_succ] at hle
    simp [hgt.ne', hhigh (w * j + b - w * i) (by omega)]

/-- Field `j` of a register into which the values of a list are packed from field `n` on. -/
theorem extract_packed {w j : Nat} (hw : 0 < w) (hj : w * j + w ≤ 4096) (f : α → Nat) (l : List α)
    (hl : ∀ a ∈ l, f a < 2 ^ w) (n : Nat) (x : BitVec 4096) :
    ((l.zipIdx n).foldl (fun x e => x ||| (BitVec.ofNat 4096 (f e.1) <<< (w * e.2))) x).extractLsb' (w * j) w =
      x.extractLsb' (w * j) w ||| if n ≤ j then BitVec.ofNat w ((l.map f).getD (j - n) 0) else 0 := by
  induction l generalizing n x with
  | nil => simp
  | cons a l ih =>
    obtain ⟨ha, hl⟩ := List.forall_mem_cons.mp hl
    rw [List.zipIdx_cons, List.foldl_cons, ih hl, BitVec.extractLsb'_or, extract_field hw hj ha, BitVec.or_assoc]
    congr 1
    obtain hlt | rfl | hgt := Nat.lt_trichotomy j n
    · simp [hlt.ne, Nat.not_le.mpr hlt, show ¬ n + 1 ≤ j by omega]
    · simp
    · obtain ⟨d, rfl⟩ := Nat.exists_eq_add_of_lt hgt
      simp [hgt.ne', show n + 1 ≤ n + d + 1 by omega, show n ≤ n + d + 1 by omega, show n + d + 1 - (n + 1) = d by omega,
        show n + d + 1 - n = d + 1 by omega]

/-- Field `j` of a register of values packed from field 0 on. -/
theorem toNat_extract_packed {w j : Nat} (hw : 0 < w) (hj : w * j + w ≤ 4096) (f : α → Nat) (l : List α)
    (hl : ∀ a ∈ l, f a < 2 ^ w) :
    ((l.zipIdx.foldl (fun x e => x ||| (BitVec.ofNat 4096 (f e.1) <<< (w * e.2))) 0).extractLsb' (w * j) w).toNat =
      (l.map f).getD j 0 := by
  rw [extract_packed hw hj f l hl]
  by_cases h : j < l.length
  · simpa [h] using Nat.mod_eq_of_lt (hl l[j] (List.getElem_mem h))
  · simp [h]

theorem getD_map_ite {β : Type} (f : α → β) (l : List α) (j : Nat) (a : α) (b : β) :
    (l.map f).getD j b = if j < l.length then f (l.getD j a) else b := by
  split <;> simp [*]

/-! ### C32 results (R144) -/

theorem toNat_emod_two_pow_lt (x : Int) (w : Nat) : (x % 2 ^ w).toNat < 2 ^ w := by
  rw [Int.toNat_lt (Int.emod_nonneg x (by positivity))]
  exact_mod_cast Int.emod_lt_of_pos x (by positivity)

theorem fin_lt (sat : Bool) (x : Int) (w : Nat) (force : Bool) : (fin sat x w force).1 < 2 ^ w := by
  unfold fin
  extract_lets lo hi bits
  split
  · exact toNat_emod_two_pow_lt _ w
  split
  · exact toNat_emod_two_pow_lt _ w
  split
  · exact toNat_emod_two_pow_lt _ w
  · exact toNat_emod_two_pow_lt _ w

theorem Core.corrOut_lt (k : Core) (x : Int × Int) : (k.corrOut x).1 < 2 ^ 64 := by
  have hre := fin_lt true (rnd x.1 k.corrK k.rmode) 32 true
  have him := fin_lt true (rnd x.2 k.corrK k.rmode) 32 true
  rw [Core.corrOut, mkC]
  omega

/-- Element `j` of CORR's vector result: the sum rounded and saturated, and 0 past the last. -/
theorem Core.extract_corr (k : Core) (l : List (Int × Int)) {j : Nat} (hj : j < 64) :
    ((packC32 (l.map (fun x => (k.corrOut x).1))).extractLsb' (64 * j) 64).toNat =
      if j < l.length then (k.corrOut (l.getD j (0, 0))).1 else 0 := by
  have hlt : ∀ x ∈ l.map (fun x => (k.corrOut x).1), x < 2 ^ 64 := List.forall_mem_map.mpr fun x _ => k.corrOut_lt x
  rw [packC32, toNat_extract_packed (w := 64) (by decide) (by omega) (fun x => x) _ hlt, List.map_id']
  exact getD_map_ite (fun x => (k.corrOut x).1) l j (0, 0) 0

theorem Core.length_ccorrSums (k : Core) (vs1 vs2 : Nat) : (k.ccorrSums vs1 vs2).length = k.corrL := by simp [Core.ccorrSums]

theorem Core.getD_ccorrSums (k : Core) (vs1 vs2 : Nat) {l : Nat} (hl : l < k.corrL) : (k.ccorrSums vs1 vs2).getD l (0, 0) =
    sumC ((List.range k.corrN).map (fun i => cprod 16 true (k.elem vs1 32 (i + l)) (k.elem vs2 32 i))) := by
  simp [Core.ccorrSums, hl]

theorem Core.length_cdespSums (k : Core) (vs1 rs2 : Nat) : (k.cdespSums vs1 rs2).length = k.corrM := by simp [Core.cdespSums]

/-- CORR's vector result is on its way. -/
theorem corrPush_leaves (s : State) (c vd : Nat) (sums : Core → List (Int × Int)) :
    let k := s.core c
    let t := (s.mapCore c (fun k => k.corrPush vd (sums k))).fuRetire c
    ∃ v sat, fuDone s t c ∧ (t.core c).fres = k.fres ++ [⟨0, true, vd, v, sat⟩] ∧
      ∀ l, l < 64 → (v.extractLsb' (64 * l) 64).toNat =
        if l < (sums k).length then (k.corrOut ((sums k).getD l (0, 0))).1 else 0 := by
  intro k t
  obtain ⟨hdone, hfres, -, -⟩ := State.fuRetire_mapCore (f := fun k => k.corrPush vd (sums k)) (k.fuPush_same _)
  exact ⟨_, _, hdone, hfres, fun l hl => k.extract_corr (sums k) hl⟩

/-! ### The peak (R144) -/

/-- The least index of a largest value. -/
def argmax (f : Nat → Nat) (n : Nat) : Nat := (List.range n).foldl (fun b i => if f b < f i then i else b) 0

theorem argmax_spec (f : Nat → Nat) (n : Nat) :
    argmax f n ≤ n - 1 ∧ (∀ i < n, f i ≤ f (argmax f n)) ∧ ∀ i < argmax f n, f i < f (argmax f n) := by
  induction n with
  | zero => exact ⟨Nat.le_refl 0, fun i hi => absurd hi (Nat.not_lt_zero i), fun i hi => absurd hi (Nat.not_lt_zero i)⟩
  | succ n ih =>
    obtain ⟨hle, hmax, hfirst⟩ := ih
    have hsucc : argmax f (n + 1) = if f (argmax f n) < f n then n else argmax f n := by
      rw [argmax, List.range_succ, List.foldl_concat]
      rfl
    rw [hsucc]
    split
    next hnew =>
      have hbelow : ∀ i < n, f i < f n := fun i hi => (hmax i hi).trans_lt hnew
      exact ⟨Nat.le_refl n, fun i hi => (Nat.lt_succ_iff_lt_or_eq.mp hi).elim (fun h => (hbelow i h).le) (fun h => h ▸ le_rfl),
        hbelow⟩
    next hold =>
      have hlast : ∀ i, i = n → f i ≤ f (argmax f n) := fun i h => by rw [h]; exact Nat.not_lt.mp hold
      exact ⟨by omega, fun i hi => (Nat.lt_succ_iff_lt_or_eq.mp hi).elim (hmax i) (hlast i), hfirst⟩

theorem Core.peak_eq (k : Core) (v : Nat) : k.peak v = argmax (k.power32 v) k.corrL := rfl

/-! ### The instructions -/

section

variable {c : BitVec 8} {d s1 s2 : BitVec 5}

theorem exec_ccorr_ready (hfu : s.fuBad c.toNat 0 false false = none) (h1 : aligned s1 4) (h2 : aligned s2 2)
    (hready : s.ready c.toNat ⟨[], [], groupRegs s1.toNat 4 ++ groupRegs s2.toNat 2, [d.toNat]⟩) (hk : k = s.core c.toNat)
    (hN : 1 ≤ k.corrN ∧ k.corrN ≤ 256) (hL : 1 ≤ k.corrL ∧ k.corrL ≤ 64) (hNL : k.corrN + k.corrL ≤ 513)
    (hK : k.corrK ≤ 47) : exec (.ccorr c d s1 s2 0) s =
      .next ((s.mapCore c.toNat (fun k => k.corrPush d.toNat (k.ccorrSums s1.toNat s2.toNat))).fuRetire c.toNat) := by
  subst hk
  refine congrArg _ (State.runInsn_fused hready (State.fuBad_legal hfu ?illegal rfl) (rangeIf_false ?range) rfl _ _)
  case illegal =>
    rw [unaligned_of_aligned h1, unaligned_of_aligned h2]
    rfl
  case range =>
    simp only [Bool.or_eq_false_iff, decide_eq_false_iff_not]
    omega

theorem exec_cdesp_ready (hfu : s.fuBad c.toNat 0 false false = none) (h1 : aligned s1 4)
    (hready : s.ready c.toNat ⟨[s2.toNat], [], groupRegs s1.toNat 4, [d.toNat]⟩) (hk : k = s.core c.toNat)
    (hSf : 1 ≤ k.corrSf ∧ k.corrSf ≤ 6) (hM : 1 ≤ k.corrM ∧ k.corrM ≤ 64) (hMS : k.corrM * 2 ^ k.corrSf ≤ 512)
    (hK : k.corrK ≤ 47) : exec (.cdesp c d s1 s2 0) s =
      .next ((s.mapCore c.toNat (fun k => k.corrPush d.toNat (k.cdespSums s1.toNat s2.toNat))).fuRetire c.toNat) := by
  subst hk
  refine congrArg _ (State.runInsn_fused hready (State.fuBad_legal hfu ?illegal rfl) (rangeIf_false ?range) rfl _ _)
  case illegal =>
    rw [unaligned_of_aligned h1]
    rfl
  case range =>
    simp only [Bool.or_eq_false_iff, decide_eq_false_iff_not]
    omega

theorem exec_cpeak_ready (hfu : s.fuBad c.toNat 0 false false = none) (hready : s.ready c.toNat ⟨[], [d.toNat], [s1.toNat], []⟩)
    (hk : k = s.core c.toNat) (hL : 1 ≤ k.corrL ∧ k.corrL ≤ 64) : exec (.cpeak c d s1 0 0) s =
      .next ((s.mapCore c.toNat (fun k => k.fuG 0 d.toNat (BitVec.ofNat 64
        (k.peak s1.toNat + k.power32 s1.toNat (k.peak s1.toNat) / 2 ^ 32 * 2 ^ 32)))).fuRetire c.toNat) := by
  subst hk
  refine congrArg _ (State.runInsn_fused hready (State.fuBad_legal hfu rfl rfl) (rangeIf_false ?range) rfl _ _)
  case range =>
    simp only [Bool.or_eq_false_iff, decide_eq_false_iff_not]
    omega

end

end Sys2Proof.Machine
end

section
/-!
SUPPORT. LFSR: what its registers hold after an instruction (R145, R146, R147).
-/

namespace Sys2Proof.Machine

variable {s : State} {c : BitVec 8} {u : Use} {k l : Core}

/-! ### Control registers of the unit -/

theorem Core.fuSame.setCr {n : Nat} (h : k.fuSame l) (hn : crVsat ≠ n) (v : DWord) : k.fuSame (l.setCr n v) := by
  obtain ⟨hpc, hg, hv, hm, hsat⟩ := h
  exact ⟨hpc, hg, hv, hm, (l.crv_setCr_ne hn v).trans hsat⟩

theorem Core.fuSame.refl (k : Core) : k.fuSame k := ⟨rfl, rfl, rfl, rfl, rfl⟩

theorem Core.crv_congr (h : l.cr = k.cr) (n : Nat) : l.crv n = k.crv n := by rw [Core.crv, h, Core.crv]

theorem Core.gold_congr (h : l.cr = k.cr) : l.gold = k.gold := by
  simp only [Core.gold, Core.crBits, Core.crv_congr h]

theorem Core.poly_congr (h : l.cr = k.cr) : l.poly = k.poly := by
  simp only [Core.poly, Core.crBits, Core.crv_congr h]

theorem Core.crcReg_congr (h : l.cr = k.cr) : l.crcReg = k.crcReg := by
  simp only [Core.crcReg, Core.poly, Core.crBits, Core.crv_congr h]

/-! ### The Gold generator (R146) -/

/-- Both registers of a Gold state are of 31 bits. -/
def goldOk (g : Nat × Nat) : Prop := g.1 < 2 ^ 31 ∧ g.2 < 2 ^ 31

theorem goldOk_goldStep {g : Nat × Nat} (h : goldOk g) : goldOk (goldStep g) := by
  obtain ⟨h1, h2⟩ := h
  simp only [goldOk, goldStep]
  omega

theorem goldSteps_zero (g : Nat × Nat) : goldSteps 0 g = g := rfl

-- with `goldSteps` folded the kernel would evaluate `goldStep` to compare the two sides
theorem goldSteps_succ (n : Nat) (g : Nat × Nat) : goldSteps (n + 1) g = goldSteps n (goldStep g) := by
  delta goldSteps
  rfl

theorem goldOk_goldSteps (n : Nat) {g : Nat × Nat} (h : goldOk g) : goldOk (goldSteps n g) := by
  induction n generalizing g with
  | zero => rwa [goldSteps_zero]
  | succ n ih =>
    rw [goldSteps_succ]
    exact ih (goldOk_goldStep h)

/-- The state that LGINIT starts from. -/
theorem goldOk_seed (x : Nat) : goldOk (1, x % 2 ^ 31) := ⟨by norm_num, Nat.mod_lt _ (by norm_num)⟩

theorem Core.goldOk_gold (k : Core) : goldOk k.gold := ⟨Nat.mod_lt _ (by decide), Nat.mod_lt _ (by decide)⟩

theorem Core.fuSame.setGold (h : k.fuSame l) (g : Nat × Nat) : k.fuSame (l.setGold g) := by
  rw [Core.setGold]
  exact h.setCr (by decide) _

theorem Core.fres_setGold (k : Core) (g : Nat × Nat) : (k.setGold g).fres = k.fres := by rw [Core.setGold, Core.setCr]

theorem Core.gold_setGold (k : Core) {g : Nat × Nat} (h : goldOk g) : (k.setGold g).gold = g := by
  obtain ⟨h1, h2⟩ := h
  rw [Core.gold, Core.crBits, Core.crBits, Core.setGold, Core.crv_setCr]
  simp only [bitsOf, BitVec.toNat_ofNat, Nat.shiftRight_eq_div_pow]
  exact Prod.ext (by omega) (by omega)

/-! ### The CRC register (R147) -/

theorem crcW_le (p : Nat) : crcW p ≤ 24 := by
  unfold crcW
  split <;> decide

theorem crcPoly_lt (p : Nat) : crcPoly p < 2 ^ crcW p := by
  unfold crcPoly
  split
  case h_6 =>
    have h : 6 ≤ crcW p := by
      unfold crcW
      split <;> decide
    exact Nat.lt_of_lt_of_le (by decide : 0x21 < 2 ^ 6) (Nat.pow_le_pow_right (by decide) h)
  all_goals decide

theorem crcStep_lt (p reg : Nat) (b : Bool) : crcStep p reg b < 2 ^ crcW p := by
  have hr : reg * 2 % 2 ^ crcW p < 2 ^ crcW p := Nat.mod_lt _ (Nat.two_pow_pos _)
  unfold crcStep
  extract_lets r
  split
  · exact Nat.xor_lt_two_pow hr (crcPoly_lt p)
  · exact hr

theorem crcFeed_lt {p reg : Nat} (h : reg < 2 ^ crcW p) (n x : Nat) : crcFeed p reg n x < 2 ^ crcW p :=
  List.foldlRecOn (motive := (· < 2 ^ crcW p)) _ _ h fun r _ _ _ => crcStep_lt p r _

theorem Core.crcReg_lt (k : Core) : k.crcReg < 2 ^ crcW k.poly := Nat.mod_lt _ (Nat.two_pow_pos _)

theorem Core.fuSame.setCrc (h : k.fuSame l) (p reg : Nat) : k.fuSame (l.setCrc p reg) := by
  rw [Core.setCrc]
  exact h.setCr (by decide) _

theorem Core.fres_setCrc (k : Core) (p reg : Nat) : (k.setCrc p reg).fres = k.fres := by rw [Core.setCrc, Core.setCr]

theorem Core.poly_setCrc (k : Core) {p : Nat} (hp : p < 6) (reg : Nat) : (k.setCrc p reg).poly = p := by
  rw [Core.poly, Core.crBits, Core.setCrc, Core.crv_setCr]
  simp only [bitsOf, BitVec.toNat_ofNat, Nat.shiftRight_eq_div_pow]
  omega

theorem Core.crcReg_setCrc (k : Core) {p reg : Nat} (hp : p < 6) (hreg : reg < 2 ^ crcW p) : (k.setCrc p reg).crcReg = reg := by
  have hlt : reg < 2 ^ 24 := hreg.trans_le (Nat.pow_le_pow_right (by decide) (crcW_le p))
  have hbits : (k.setCrc p reg).crBits crCrc 23 0 = reg := by
    rw [Core.crBits, Core.setCrc, Core.crv_setCr]
    simp only [bitsOf, BitVec.toNat_ofNat, Nat.shiftRight_eq_div_pow]
    omega
  rw [Core.crcReg, hbits, k.poly_setCrc hp, Nat.mod_eq_of_lt hreg]

/-! ### The instructions -/

theorem State.lfsrSlots_ready (h : s.ready c.toNat u) : s.lfsrSlots c.toNat = 0 := by
  obtain ⟨-, -, -, -, -, -, hawaits⟩ := h
  have hnone : s.snaps.find? (fun x => decide (x.core = c.toNat)) = none :=
    List.find?_eq_none.mpr (List.any_eq_false.mp hawaits)
  rw [State.lfsrSlots, hnone]

/-- What an instruction that changes LFSR state leaves (R145, R154). -/
theorem lfsr_leaves (hready : s.ready c.toNat u) (hfu : s.fuBad c.toNat 1 false false = none) {illegal mode range : Bool}
    (hillegal : illegal = false) (hmode : mode = false) (hrange : range = false) {f : Core → Core}
    (hf : (s.core c.toNat).fuSame (f (s.core c.toNat))) :
    let t := s.lfsr c u illegal mode range f
    fuDone s t c.toNat ∧ (t.core c.toNat).fres = (f (s.core c.toNat)).fres ∧ (t.core c.toNat).cr = (f (s.core c.toNat)).cr := by
  have hroom : decide (8 ≤ s.lfsrSlots c.toNat) = false := by rw [State.lfsrSlots_ready hready]; rfl
  rw [State.lfsr, State.runInsn_fused hready (State.fuBad_legal hfu hillegal hmode) (rangeIf_false hrange) hroom]
  obtain ⟨hdone, hfres, -, hcr⟩ := State.fuRetire_mapCore (s := s) (c := c.toNat)
    (f := fun k => { f k with lfsrs := k.lfsrs + 1 }) hf
  exact ⟨hdone, hfres, hcr⟩

/-- An instruction that sets the Gold state. -/
theorem lfsr_setGold (hready : s.ready c.toNat u) (hfu : s.fuBad c.toNat 1 false false = none) {illegal : Bool}
    (hillegal : illegal = false) {push : Core → Core} (hpush : (s.core c.toNat).fuSame (push (s.core c.toNat)))
    {g : Core → Nat × Nat} (hg : goldOk (g (s.core c.toNat))) :
    let t := s.lfsr c u illegal false false (fun k => (push k).setGold (g k))
    fuDone s t c.toNat ∧ (t.core c.toNat).fres = (push (s.core c.toNat)).fres ∧
      (t.core c.toNat).gold = g (s.core c.toNat) := by
  obtain ⟨hdone, hfres, hcr⟩ := lfsr_leaves hready hfu hillegal rfl rfl (f := fun k => (push k).setGold (g k))
    (hpush.setGold _)
  exact ⟨hdone, hfres.trans (Core.fres_setGold _ _), (Core.gold_congr hcr).trans (Core.gold_setGold _ hg)⟩

/-- An instruction that sets the CRC register. -/
theorem lfsr_setCrc (hready : s.ready c.toNat u) (hfu : s.fuBad c.toNat 1 false false = none) {illegal mode range : Bool}
    (hillegal : illegal = false) (hmode : mode = false) (hrange : range = false) {p reg : Core → Nat}
    (hp : p (s.core c.toNat) < 6) (hreg : reg (s.core c.toNat) < 2 ^ crcW (p (s.core c.toNat))) :
    let t := s.lfsr c u illegal mode range (fun k => k.setCrc (p k) (reg k))
    fuDone s t c.toNat ∧ (t.core c.toNat).fres = (s.core c.toNat).fres ∧
      (t.core c.toNat).poly = p (s.core c.toNat) ∧ (t.core c.toNat).crcReg = reg (s.core c.toNat) := by
  obtain ⟨hdone, hfres, hcr⟩ := lfsr_leaves hready hfu hillegal hmode hrange (f := fun k => k.setCrc (p k) (reg k))
    ((Core.fuSame.refl _).setCrc _ _)
  exact ⟨hdone, hfres.trans (Core.fres_setCrc _ _ _), (Core.poly_congr hcr).trans (Core.poly_setCrc _ hp _),
    (Core.crcReg_congr hcr).trans (Core.crcReg_setCrc _ hp hreg)⟩

/-- LCRCRD changes no LFSR state. -/
theorem exec_lcrcrd_ready {d : BitVec 5} (hready : s.ready c.toNat (useG [] [d.toNat]))
    (hfu : s.fuBad c.toNat 1 false false = none) (hp : (s.core c.toNat).poly < 6) : exec (.lcrcrd c d 0 0 0) s =
      .next ((s.mapCore c.toNat (fun k => k.fuG 1 d.toNat (BitVec.ofNat 64 k.crcReg))).fuRetire c.toNat) :=
  congrArg _ (State.runInsn_fused hready (State.fuBad_legal hfu rfl (decide_eq_false (Nat.not_le.mpr hp))) (rangeIf_false rfl) rfl
    _ _)

end Sys2Proof.Machine
end

section
/-!
SUPPORT. DEMAP: LLRs packed in a vector register (R148).
-/

namespace Sys2Proof.Machine

variable {α : Type} {s : State} {w : Nat}

/-! ### Lists of one length in a row -/

theorem length_flatMap_range {f : Nat → List α} {q : Nat} (hf : ∀ i, (f i).length = q) (n : Nat) :
    ((List.range n).flatMap f).length = n * q := by
  simp [List.length_flatMap, hf]

theorem getElem?_flatMap_range {f : Nat → List α} {q n i b : Nat} (hf : ∀ i, (f i).length = q) (hi : i < n) (hb : b < q) :
    ((List.range n).flatMap f)[i * q + b]? = (f i)[b]? := by
  induction n with
  | zero => exact absurd hi (Nat.not_lt_zero i)
  | succ n ih =>
    have hlen := length_flatMap_range hf n
    rw [List.range_succ, List.flatMap_append, List.flatMap_singleton]
    obtain hlt | rfl := Nat.lt_succ_iff_lt_or_eq.mp hi
    · have hle : (i + 1) * q ≤ n * q := Nat.mul_le_mul_right q hlt
      rw [Nat.succ_mul] at hle
      rw [List.getElem?_append_left (by omega), ih hlt]
    · rw [List.getElem?_append_right (by omega), hlen, Nat.add_sub_cancel_left]

/-! ### LLRs (R148) -/

/-- An LLR of `w` bits lies symmetrically about 0. -/
def llrFits (w : Nat) (x : Int) : Prop := -(2 ^ (w - 1) - 1) ≤ x ∧ x ≤ 2 ^ (w - 1) - 1

theorem llrFits_zero (w : Nat) : llrFits w 0 := by
  have hpos : (0 : Int) < 2 ^ (w - 1) := by positivity
  unfold llrFits
  omega

theorem llrFits_demapComp (f w dshift rm : Nat) (scale : Int) (n : Nat) (t : Int) :
    ∀ x ∈ demapComp f w dshift rm scale n t, llrFits w x := by
  induction n generalizing t with
  | zero => exact List.forall_mem_nil _
  | succ n ih =>
    refine List.forall_mem_cons.mpr ⟨?_, ih _⟩
    have hpos : (0 : Int) < 2 ^ (w - 1) := by positivity
    unfold llrFits
    omega

theorem llrFits_getD {l : List Int} (h : ∀ x ∈ l, llrFits w x) (i : Nat) : llrFits w (l.getD i 0) := by
  rw [List.getD_eq_getElem?_getD]
  cases hi : l[i]? with
  | none => exact llrFits_zero w
  | some x => exact h x (List.mem_of_getElem? hi)

theorem Core.length_demapSym (k : Core) (f w vs1 vs2 i : Nat) : (k.demapSym f w vs1 vs2 i).length = demapQ f := by
  simp [Core.demapSym]

theorem Core.llrFits_demapSym (k : Core) (f w vs1 vs2 i : Nat) : ∀ x ∈ k.demapSym f w vs1 vs2 i, llrFits w x := by
  refine List.forall_mem_map.mpr fun b _ => ?_
  split
  · exact llrFits_getD (llrFits_demapComp _ _ _ _ _ _ _) _
  · exact llrFits_getD (llrFits_demapComp _ _ _ _ _ _ _) _

/-- The low bits of an LLR are the LLR in two's complement. -/
theorem toInt_of_llrFits (hw : 0 < w) {x : Int} (h : llrFits w x) {y : BitVec w} (hy : y.toNat = (x % 2 ^ w).toNat) :
    y.toInt = x := by
  obtain ⟨v, rfl⟩ := Nat.exists_eq_add_of_lt hw
  obtain ⟨hlo, hhi⟩ := h
  have hnat : ((x % 2 ^ (0 + v + 1)).toNat : Int) = x % ((2 ^ (0 + v + 1) : Nat) : Int) := by
    rw [Int.toNat_of_nonneg (Int.emod_nonneg _ (by positivity))]
    push_cast
    rfl
  rw [BitVec.toInt_eq_toNat_bmod, hy, hnat, Int.emod_bmod]
  simp only [Nat.zero_add, Nat.add_sub_cancel] at hlo hhi ⊢
  refine Int.bmod_eq_of_le ?_ ?_
  all_goals
    push_cast
    rw [pow_succ]
    omega

/-- Field `i * Qm + b` of DEMAP's result. -/
theorem Core.extract_demap (k : Core) (f vs1 vs2 : Nat) {i b : Nat} (hw : 0 < w) (hi : i < k.vcount) (hb : b < demapQ f)
    (hfit : k.vcount * (demapQ f * w) ≤ 4096) :
    ((k.demapOut f w vs1 vs2).extractLsb' ((i * demapQ f + b) * w) w).toInt = (k.demapSym f w vs1 vs2 i).getD b 0 := by
  have hend : w * (i * demapQ f + b) + w ≤ 4096 := by
    have hlt : i * demapQ f + b + 1 ≤ k.vcount * demapQ f :=
      calc i * demapQ f + b + 1 ≤ (i + 1) * demapQ f := by rw [Nat.succ_mul]; omega
        _ ≤ k.vcount * demapQ f := Nat.mul_le_mul_right _ hi
    calc w * (i * demapQ f + b) + w = (i * demapQ f + b + 1) * w := by ring
      _ ≤ k.vcount * demapQ f * w := Nat.mul_le_mul_right _ hlt
      _ ≤ 4096 := by rwa [Nat.mul_assoc]
  have hsym : ((List.range k.vcount).flatMap (fun i => k.demapSym f w vs1 vs2 i))[i * demapQ f + b]? =
      (k.demapSym f w vs1 vs2 i)[b]? := getElem?_flatMap_range (fun i => k.length_demapSym f w vs1 vs2 i) hi hb
  refine toInt_of_llrFits hw (llrFits_getD (k.llrFits_demapSym f w vs1 vs2 i) b) ?_
  simp only [Core.demapOut, Nat.mul_comm _ w]
  rw [toNat_extract_packed hw hend (fun x : Int => (x % 2 ^ w).toNat) _ fun x _ => toNat_emod_two_pow_lt x w]
  rw [List.getD_eq_getElem?_getD, List.getElem?_map, hsym, List.getD_eq_getElem?_getD]
  cases (k.demapSym f w vs1 vs2 i)[b]? <;> simp

/-! ### The instruction -/

theorem exec_demap_ready {c : BitVec 8} {func : BitVec 4} {d s1 s2 : BitVec 5} {param : BitVec 7}
    (hfu : s.fuBad c.toNat 2 false false = none) (hfunc : func.toNat < 4) (hparam : param.toNat < 2) (h1 : aligned s1 4)
    (h2 : aligned s2 2) (hready : s.ready c.toNat ⟨[], [], groupRegs s1.toNat 4 ++ groupRegs s2.toNat 2, [d.toNat]⟩)
    (hw : w = if param.getLsbD 0 then 8 else 4) (hcount : 1 ≤ (s.core c.toNat).vcount)
    (hfit : (s.core c.toNat).vcount * (demapQ func.toNat * w) ≤ 4096) (hshift : (s.core c.toNat).crBits crDemap 5 0 ≤ 47) :
    exec (.demap c func d s1 s2 param) s = .next ((s.mapCore c.toNat (fun k =>
      k.fuPush ⟨2, true, d.toNat, k.demapOut func.toNat w s1.toNat s2.toNat, false⟩)).fuRetire c.toNat) := by
  subst hw
  refine congrArg _ (State.runInsn_fused hready (State.fuBad_legal hfu ?illegal (decide_eq_false (Nat.not_le.mpr hfunc)))
    (rangeIf_false ?range) rfl _ _)
  case illegal =>
    rw [unaligned_of_aligned h1, unaligned_of_aligned h2, decide_eq_false (Nat.not_le.mpr hparam)]
    exact Bool.and_false _
  case range =>
    have hpos : 0 < demapQ func.toNat * (if param.getLsbD 0 then 8 else 4) :=
      Nat.mul_pos (Nat.succ_pos _) (by split <;> decide)
    have hmost := (Nat.le_div_iff_mul_le hpos).mpr hfit
    simp only [Bool.or_eq_false_iff, decide_eq_false_iff_not]
    omega

end Sys2Proof.Machine
end

section
/-!
SUPPORT. ILV: how an instruction reaches the unit, where an operation's elements lie, and what its steps leave of memory (R149 to
R152).
-/

namespace Sys2Proof.Machine

variable {s t : State} {c n k : Nat} {o : IlvOp}

/-! ### Issue (R150, R151) -/

/-- The ILV instructions, each with its function and whether it takes BIT elements (R149). -/
def ilvOps : List ((BitVec 8 → BitVec 5 → BitVec 5 → BitVec 5 → BitVec 7 → Instr) × (Nat × Bool)) :=
  [(Instr.isel, (0, true)), (Instr.ibil, (1, true)), (Instr.idil, (2, false)), (Instr.icomb, (3, false))]

theorem exec_ilvOps : ∀ e ∈ ilvOps, ∀ (s : State) (c : BitVec 8) (d s1 s2 : BitVec 5) (param : BitVec 7),
    exec (e.1 c d s1 s2 param) s = .next (s.ilvInsn c e.2.1 e.2.2 d s1 s2 param) := by
  unfold ilvOps
  iterate 3 refine List.forall_mem_cons.mpr ⟨fun _ _ _ _ _ _ => rfl, ?_⟩
  exact List.forall_mem_singleton.mpr fun _ _ _ _ _ _ => rfl

/-- An ILV instruction whose operands R150 accepts hands over its operation while the unit has room. -/
theorem ilvInsn_leaves {c : BitVec 8} {d s1 s2 : BitVec 5} {func : Nat} {bit llr : Bool} {param : BitVec 7}
    (hparam : param = if llr then 1 else 0) (hfu : s.fuBad c.toNat 3 false false = none)
    (hready : s.ready c.toNat (useG [d.toNat, s1.toNat, s2.toNat] [])) (hroom : (s.core c.toNat).ilv.length < 2)
    (hbit : llr = true ∨ bit = true)
    (hrange : ((s.core c.toNat).ilvOp func llr d.toNat s1.toNat s2.toNat).badRange c.toNat = false) :
    let k := s.core c.toNat
    let t := s.ilvInsn c func bit d s1 s2 param
    fuDone s t c.toNat ∧ (t.core c.toNat).fres = k.fres ∧
      (t.core c.toNat).ilv = k.ilv ++ [k.ilvOp func llr d.toNat s1.toNat s2.toNat] := by
  have hllr : param.getLsbD 0 = llr := by
    subst hparam
    cases llr <;> rfl
  have hillegal : decide (2 ≤ param.toNat) = false := by
    subst hparam
    cases llr <;> rfl
  have hmode : (!llr && !bit) = false := by
    obtain rfl | rfl := hbit <;> simp
  have hfull : decide (2 ≤ (s.core c.toNat).ilv.length) = false := decide_eq_false (Nat.not_le.mpr hroom)
  unfold State.ilvInsn
  simp only [hllr, hrange, hfull, Bool.false_and, Bool.false_eq_true, if_false]
  rw [State.runInsn_fused hready (State.fuBad_legal hfu hillegal hmode) rfl rfl]
  obtain ⟨hdone, hfres, hilv, -⟩ := State.fuRetire_mapCore (s := s) (c := c.toNat)
    (f := fun k' => { k' with ilv := k'.ilv ++ [(s.core c.toNat).ilvOp func llr d.toNat s1.toNat s2.toNat] })
    ⟨rfl, rfl, rfl, rfl, rfl⟩
  exact ⟨hdone, hfres, hilv⟩

/-! ### Places (R149) -/

/-- The address that step `k` reads from. -/
def IlvOp.srcAt (o : IlvOp) (k : Nat) : Nat := ilvAddr o.llr o.src (o.place o.walk k).1

/-- The address that step `k` writes. -/
def IlvOp.dstAt (o : IlvOp) (k : Nat) : Nat := ilvAddr o.llr o.dst (o.place o.walk k).2

theorem IlvOp.walk_lt (hncb : 0 < o.ncb) (i : Nat) : o.walk.getD i 0 < o.ncb := by
  rw [List.getD_eq_getElem?_getD]
  cases hi : o.walk[i]? with
  | none => exact hncb
  | some x =>
    obtain ⟨hmem, -⟩ := List.mem_filter.mp (List.mem_of_getElem? hi)
    obtain ⟨j, -, rfl⟩ := List.mem_map.mp hmem
    exact Nat.mod_lt _ hncb

/-- Row and column of an index in a matrix that is read across the other way. -/
theorem transpose_lt {x y k : Nat} (h : k < x * y) : k % y * x + k / y < x * y := by
  have hy : 0 < y := Nat.pos_of_ne_zero (by rintro rfl; omega)
  have hdiv : k / y < x := (Nat.div_lt_iff_lt_mul hy).mpr h
  calc k % y * x + k / y < k % y * x + x := by omega
    _ = (k % y + 1) * x := (Nat.succ_mul _ _).symm
    _ ≤ y * x := Nat.mul_le_mul_right x (Nat.mod_lt k hy)
    _ = x * y := Nat.mul_comm y x

theorem IlvOp.place_dst (hfunc : o.func < 3) (w : List Nat) (k : Nat) : (o.place w k).2 = k := by
  obtain h | h | h : o.func = 0 ∨ o.func = 1 ∨ o.func = 2 := by omega
  all_goals simp only [IlvOp.place, h]

theorem IlvOp.sizes_llr (hllr : o.llr = true) :
    o.sizes = (if o.func = 0 then o.ncb else o.e, if o.func = 3 then o.ncb else o.e) := by
  simp [IlvOp.sizes, ilvBytes, hllr]

/-- The steps of an interleaver fill a matrix with Qm on one side. -/
theorem IlvOp.matrix_of_lt_steps (hfunc : o.func = 1 ∨ o.func = 2) (hk : k < o.steps) :
    k < o.e / o.qm * o.qm ∧ max 1 o.qm = o.qm ∧ max 1 (o.e / o.qm) = o.e / o.qm := by
  have hsteps : o.steps = o.e / max 1 o.qm * o.qm := by
    obtain h | h := hfunc <;> simp [IlvOp.steps, h]
  have hqm : 1 ≤ o.qm := Nat.pos_of_ne_zero fun h => by simp [hsteps, h] at hk
  rw [hsteps, max_eq_right hqm] at hk
  have hcols : 1 ≤ o.e / o.qm := Nat.pos_of_ne_zero fun h => by simp [h] at hk
  exact ⟨hk, max_eq_right hqm, max_eq_right hcols⟩

/-- The elements that an operation's steps read and write lie in its buffers. -/
theorem IlvOp.place_lt (hfunc : o.func ≤ 3) (hllr : o.llr = true) (hncb : 0 < o.ncb) (hk : k < o.steps) :
    (o.place o.walk k).1 < o.sizes.1 ∧ (o.place o.walk k).2 < o.sizes.2 := by
  have hwalk := IlvOp.walk_lt hncb
  have hmatrix : o.e / o.qm * o.qm ≤ o.e := Nat.div_mul_le_self _ _
  rw [IlvOp.sizes_llr hllr]
  obtain h | h | h | h : o.func = 0 ∨ o.func = 1 ∨ o.func = 2 ∨ o.func = 3 := by omega
  · have hk : k < o.e := by simpa [IlvOp.steps, h] using hk
    simpa [IlvOp.place, h, hk] using hwalk _
  · obtain ⟨hk, hqm, -⟩ := IlvOp.matrix_of_lt_steps (.inl h) hk
    have hread := transpose_lt hk
    simp only [IlvOp.place, h, hqm]
    exact ⟨hread.trans_le hmatrix, hk.trans_le hmatrix⟩
  · obtain ⟨hk, hqm, hcols⟩ := IlvOp.matrix_of_lt_steps (.inr h) hk
    have hread := transpose_lt (Nat.mul_comm _ _ ▸ hk : k < o.qm * (o.e / o.qm))
    simp only [IlvOp.place, h, hqm, hcols, Nat.add_comm (k / _)]
    exact ⟨hread.trans_le (Nat.mul_comm _ _ ▸ hmatrix), hk.trans_le hmatrix⟩
  · have hk : k < o.e := by simpa [IlvOp.steps, h] using hk
    simpa [IlvOp.place, h, hk] using hwalk _

/-! ### Accesses (R152) -/

theorem State.ilvFail_eq_none {a : Nat} : s.ilvFail c a = none ↔ s.vResp c a false = rDone ∧ s.badAt a = false := by
  unfold State.ilvFail
  by_cases h : s.vResp c a false = rDone
  · simp [h]
  · simp [h]

/-- What an access is answered does not depend on the bytes that memory holds. -/
theorem vResp_congr (hframe : t = { s with
    mem := t.mem
    badPar := t.badPar
    cores := t.cores }) (hrun : ∀ d, (t.core d).run = (s.core d).run) (c a : Nat) (w : Bool) :
    t.vResp c a w = s.vResp c a w := by
  have hregs : t.regs = s.regs := by rw [hframe]
  have hlive : ∀ d, t.coreLive d = s.coreLive d := fun d => by
    rw [State.coreLive, State.held, State.bit_congr hregs, hrun, State.coreLive, State.held]
  have hwindow : t.windowResp a w = s.windowResp a w := by
    have hmacro : ∀ m, t.macroSt m = s.macroSt m := fun m => by rw [hframe]; rfl
    have hbank : ∀ b, t.bankReleased b = s.bankReleased b := fun b => State.bit_congr hregs _ b
    have hhost : t.hpa? a = s.hpa? a := by rw [hframe]; rfl
    unfold State.windowResp
    split
    next => rfl
    next => rw [hlive]
    next => rfl
    next => simp only [hmacro, hbank]
    next => rw [hmacro]
    next => rw [hhost]
    next => rfl
  have haccess : t.accessResp c a w = s.accessResp c a w := by
    unfold State.accessResp
    rw [hwindow, hframe]
    rfl
  rw [State.vResp, haccess, State.vResp]

/-! ### Steps (R149) -/

/-- Step `k` writes its element. -/
def State.ilvPut (s : State) (c : Nat) (o : IlvOp) (k : Nat) : State :=
  (s.writeByte (o.dstAt k) (s.ilvValue o (o.place o.walk k).1 (o.place o.walk k).2)).mapCore c (fun l => l.dropPf (o.dstAt k) 1)

theorem ilvStep_good (hsrc : s.ilvFail c (o.srcAt k) = none) (hdst : s.ilvFail c (o.dstAt k) = none)
    (hwrite : s.vResp c (o.dstAt k) true = rDone) (n : Nat) :
    State.ilvStep c o o.walk (s, n, none) k = (s.ilvPut c o k, n + 1, none) := by
  -- the function is unfolded as a constant: unfolding it in place makes the kernel evaluate the matched term
  obtain ⟨f, hf⟩ : ∃ f, f = @State.ilvStep := ⟨_, rfl⟩
  rw [← hf]
  delta State.ilvStep at hf
  subst hf
  beta_reduce
  extract_lets t p a b
  have ha : t.ilvFail c a = none := hsrc
  have hb : (if o.func = 3 then t.ilvFail c b else none) = none := by
    split
    · exact hdst
    · rfl
  have hw : t.vResp c b true = rDone := hwrite
  rw [ha, hb, hw]
  rfl

/-- What the first `n` steps of an operation on LLRs leave: besides memory only the core's prefetch buffer has changed, a good
byte is good still, no byte outside the destination has changed, and the elements are written. -/
structure IlvDone (c : Nat) (o : IlvOp) (s t : State) (n : Nat) : Prop where
  frame : t = { s with
    mem := t.mem
    badPar := t.badPar
    cores := t.cores }
  core : t.core c = { s.core c with pf := (t.core c).pf }
  others : ∀ d, d ≠ c → t.core d = s.core d
  good : ∀ a, s.badAt a = false → t.badAt a = false
  out : ∀ a, a < o.dst ∨ o.dst + o.sizes.2 ≤ a → mapFind? t.mem a = mapFind? s.mem a
  elements : o.func < 3 → ∀ i, i < n → mapFind? t.mem (o.dst + i) = some (s.byteAt (o.src + (o.place o.walk i).1))

theorem IlvDone.zero (c : Nat) (o : IlvOp) (s : State) : IlvDone c o s s 0 where
  frame := rfl
  core := rfl
  others _ _ := rfl
  good _ h := h
  out _ _ := rfl
  elements _ i hi := absurd hi (Nat.not_lt_zero i)

theorem IlvDone.run (h : IlvDone c o s t n) (d : Nat) : (t.core d).run = (s.core d).run := by
  by_cases hd : d = c
  · rw [hd, h.core]
  · rw [h.others d hd]

theorem IlvDone.ilvFail (h : IlvDone c o s t n) {a : Nat} (ha : s.ilvFail c a = none) : t.ilvFail c a = none := by
  obtain ⟨hresp, hbad⟩ := State.ilvFail_eq_none.mp ha
  exact State.ilvFail_eq_none.mpr ⟨(vResp_congr h.frame h.run c a false).trans hresp, h.good a hbad⟩

theorem IlvDone.byteAt (h : IlvDone c o s t n) {a : Nat} (ha : a < o.dst ∨ o.dst + o.sizes.2 ≤ a) : t.byteAt a = s.byteAt a := by
  have hfree : t.freeCtr = s.freeCtr := by rw [h.frame]
  rw [State.byteAt, h.out a ha, hfree, State.byteAt]

theorem core_ilvPut (s : State) (c : Nat) (o : IlvOp) (k : Nat) :
    (s.ilvPut c o k).core c = (s.core c).dropPf (o.dstAt k) 1 := State.core_mapCore _ _ _

theorem core_ilvPut_ne {d : Nat} (h : d ≠ c) (s : State) (o : IlvOp) (k : Nat) : (s.ilvPut c o k).core d = s.core d :=
  State.core_setCore_ne _ _ h

theorem mem_ilvPut (s : State) (c : Nat) (o : IlvOp) (k : Nat) :
    (s.ilvPut c o k).mem = mapIns s.mem (o.dstAt k) (s.ilvValue o (o.place o.walk k).1 (o.place o.walk k).2) := rfl

theorem badAt_ilvPut {a : Nat} (h : s.badAt a = false) : (s.ilvPut c o k).badAt a = false := by
  change (s.writeBytes (o.dstAt k) [_]).badAt a = false
  obtain rfl | hne := eq_or_ne a (o.dstAt k)
  · exact s.badAt_writeBytes_in (i := 0) (Nat.lt_succ_self 0)
  · rw [State.badAt_writeBytes_out]
    · exact h
    · simp only [List.length_singleton]
      omega

/-- One more step of an operation on LLRs. -/
theorem IlvDone.ilvPut (h : IlvDone c o s t n) (hllr : o.llr = true) (hsrc : (o.place o.walk n).1 < o.sizes.1)
    (hdst : (o.place o.walk n).2 < o.sizes.2) (hapart : apart o.dst o.sizes.2 o.src o.sizes.1) :
    IlvDone c o s (t.ilvPut c o n) (n + 1) := by
  unfold apart at hapart
  have hat : o.dstAt n = o.dst + (o.place o.walk n).2 := by rw [IlvOp.dstAt, hllr]; rfl
  refine ⟨by rw [h.frame]; rfl, by rw [core_ilvPut, h.core]; rfl, fun d hd => by rw [core_ilvPut_ne hd, h.others d hd],
    fun a ha => badAt_ilvPut (h.good a ha), fun a ha => ?out, fun hfunc i hi => ?elements⟩
  case out =>
    rw [mem_ilvPut, mapFind_ins_ne _ _ (by omega)]
    exact h.out a ha
  case elements =>
    rw [IlvOp.place_dst hfunc] at hat
    rw [mem_ilvPut, hat]
    obtain hlt | rfl := Nat.lt_succ_iff_lt_or_eq.mp hi
    · rw [mapFind_ins_ne _ _ (by omega)]
      exact h.elements hfunc i hlt
    · have hread : t.byteAt (o.src + (o.place o.walk i).1) = s.byteAt (o.src + (o.place o.walk i).1) := h.byteAt (by omega)
      rw [mapFind_ins_same, ← hread, State.ilvValue, if_neg (by omega), hllr]
      rfl

/-- The operation that R150 accepts and whose accesses are all good runs to its end. -/
theorem ilvSteps_good (hllr : o.llr = true) (hfunc : o.func ≤ 3) (hncb : 0 < o.ncb)
    (hapart : apart o.dst o.sizes.2 o.src o.sizes.1)
    (hsrc : ∀ a, o.src ≤ a → a < o.src + o.sizes.1 → s.ilvFail c a = none)
    (hdst : ∀ a, o.dst ≤ a → a < o.dst + o.sizes.2 → s.ilvFail c a = none ∧ s.vResp c a true = rDone) (hn : n ≤ o.steps) :
    ∃ t, (List.range n).foldl (State.ilvStep c o o.walk) (s, 0, none) = (t, n, none) ∧ IlvDone c o s t n := by
  induction n with
  | zero => exact ⟨s, rfl, .zero c o s⟩
  | succ n ih =>
    obtain ⟨t, hfold, hdone⟩ := ih (Nat.le_of_succ_le hn)
    obtain ⟨hplace1, hplace2⟩ := IlvOp.place_lt hfunc hllr hncb hn
    have hsrcAt : o.srcAt n = o.src + (o.place o.walk n).1 := by rw [IlvOp.srcAt, hllr]; rfl
    have hdstAt : o.dstAt n = o.dst + (o.place o.walk n).2 := by rw [IlvOp.dstAt, hllr]; rfl
    obtain ⟨hread, hwrite⟩ := hdst (o.dstAt n) (by omega) (by omega)
    refine ⟨t.ilvPut c o n, ?_, hdone.ilvPut hllr hplace1 hplace2 hapart⟩
    rw [List.range_succ, List.foldl_concat, hfold]
    exact ilvStep_good (hdone.ilvFail (hsrc (o.srcAt n) (by omega) (by omega))) (hdone.ilvFail hread)
      ((vResp_congr hdone.frame hdone.run c _ true).trans hwrite) n

/-- What R150 accepts: a circular buffer that is not empty, and buffers that share no byte. -/
theorem IlvOp.of_badRange (h : o.badRange c = false) :
    0 < o.ncb ∧ apart o.dst o.sizes.2 o.src o.sizes.1 := by
  simp only [IlvOp.badRange, Bool.or_eq_false_iff, Bool.and_eq_false_iff, decide_eq_false_iff_not] at h
  unfold apart
  omega

/-- ILV_OPERATION_END of an operation that runs to its end (R152). -/
theorem ilvRun_good {rest : List IlvOp} (hilv : (s.core c).ilv = o :: rest) (hstores : s.storesOut c = 0)
    (hfold : (List.range o.steps).foldl (State.ilvStep c o o.walk) (s, 0, none) = (t, o.steps, none)) :
    s.ilvRun c = ({ t with freeCtr := t.freeCtr + 1 }.count (coreEvent c 21) o.steps).mapCore c (fun k =>
      { (k.setCr crIlvStat (BitVec.ofNat 64 o.steps)) with ilv := rest }) := by
  rw [State.ilvRun, hilv]
  simp only [hstores, hfold]
  rfl

/-- What ILV_OPERATION_END leaves of its core (R152). -/
theorem IlvDone.ends (h : IlvDone c o s t n) (rest : List IlvOp) (stat : DWord) :
    let u := ({ t with freeCtr := t.freeCtr + 1 }.count (coreEvent c 21) n).mapCore c (fun k =>
      { (k.setCr crIlvStat stat) with ilv := rest })
    (u.core c).ilv = rest ∧ (u.core c).crv crIlvStat = stat ∧ (u.core c).deferred = (s.core c).deferred ∧
      (u.core c).g = (s.core c).g ∧ (u.core c).v = (s.core c).v ∧ u.regs = s.regs ∧ u.mem = t.mem := by
  intro u
  have hcore : u.core c = { ((t.core c).setCr crIlvStat stat) with ilv := rest } := State.core_mapCore _ _ _
  refine ⟨by rw [hcore], ?_, ?_, ?_, ?_, ?_, rfl⟩
  · rw [hcore]
    exact Core.crv_setCr _ _ _
  · rw [hcore, h.core]
    rfl
  · rw [hcore, h.core]
    rfl
  · rw [hcore, h.core]
    rfl
  · change t.regs = s.regs
    rw [h.frame]

end Sys2Proof.Machine
end

section
/-!
SUPPORT. FUSED_RESULT: what a result's arrival leaves of its core (R141).
-/

namespace Sys2Proof.Machine

variable {s : State} {c unit : Nat} {k : Core} {r : FusedRes}

/-- A core whose register takes a result, before VSAT does. -/
def Core.fuTake (k : Core) (r : FusedRes) : Core :=
  let k1 := { k with fres := k.fres.erase r }
  if r.vec then k1.setV r.reg r.val else k1.setG r.reg (r.val.truncate 64)

theorem Core.fuTake_leaves (k : Core) (r : FusedRes) :
    (k.fuTake r).fres = k.fres.erase r ∧ (k.fuTake r).cr = k.cr ∧ (k.fuTake r).m = k.m ∧ (k.fuTake r).pc = k.pc := by
  unfold Core.fuTake
  extract_lets k1
  split
  · exact ⟨rfl, rfl, rfl, rfl⟩
  · rw [Core.setG_frame]
    exact ⟨rfl, rfl, rfl, rfl⟩

theorem Core.fuTake_vec (h : r.vec = true) (k : Core) :
    (k.fuTake r).g = k.g ∧ ∀ x, (k.fuTake r).vr x = if x = r.reg then r.val else k.vr x := by
  rw [Core.fuTake, if_pos h]
  refine ⟨rfl, fun x => ?_⟩
  split
  next hx => rw [hx, Core.vr_setV]
  next hx => exact Core.vr_setV_ne _ _ hx

theorem Core.fuTake_scalar (h : r.vec = false) (k : Core) :
    (k.fuTake r).v = k.v ∧ ∀ x, (k.fuTake r).gr x = if x = r.reg ∧ x ≠ 0 then r.val.truncate 64 else k.gr x := by
  rw [Core.fuTake, if_neg (by simp [h])]
  refine ⟨Core.setG_v _ _ _, fun x => (Core.gr_setG _ _ _ _).trans (if_congr ?_ rfl rfl)⟩
  exact and_congr_right fun hx => by rw [hx]

/-- What a result's arrival leaves of its core. -/
theorem Core.fuWrite_leaves (h : r ∈ k.fres) :
    let l := k.fuWrite r
    l.fres = k.fres.erase r ∧
      (r.vec = true → l.g = k.g ∧ ∀ x, l.vr x = if x = r.reg then r.val else k.vr x) ∧
      (r.vec = false → l.v = k.v ∧ ∀ x, l.gr x = if x = r.reg ∧ x ≠ 0 then r.val.truncate 64 else k.gr x) ∧
      l.crv crVsat = (if r.sat = true then 1 else k.crv crVsat) ∧ l.m = k.m ∧ l.pc = k.pc := by
  intro l
  have hl : l = if r.sat then (k.fuTake r).setCr crVsat 1 else k.fuTake r := if_pos (List.contains_iff_mem.mpr h)
  have hframe : l = { k.fuTake r with cr := l.cr } := by
    rw [hl]
    split <;> rfl
  have hsat : l.crv crVsat = if r.sat then 1 else (k.fuTake r).crv crVsat := by
    rw [hl]
    split
    · exact Core.crv_setCr _ _ _
    · rfl
  obtain ⟨hfres, hcr, hm, hpc⟩ := k.fuTake_leaves r
  rw [Core.crv_congr hcr] at hsat
  rw [hframe]
  exact ⟨hfres, fun hvec => Core.fuTake_vec hvec k, fun hvec => Core.fuTake_scalar hvec k, hsat, hm, hpc⟩

theorem core_fusedResult (h : (s.core c).fres.find? (fun r => r.unit = unit) = some r) :
    (s.fusedResult c unit).core c = (s.core c).fuWrite r := by
  rw [State.fusedResult, h]
  refine (State.core_mapCore _ c _).trans (congrArg (Core.fuWrite · r) ?_)
  split <;> rfl

theorem fusedResult_none (h : (s.core c).fres.find? (fun r => r.unit = unit) = none) : s.fusedResult c unit = s := by
  rw [State.fusedResult, h]

end Sys2Proof.Machine
end

section
/-!
PROOFS. The fused units (O27 to O30).
-/

open Sys2Proof Sys2Proof.Machine

/-- Settles O27: each element of the packed result is one rounded sum (`Core.extract_corr`), and the peak's fold keeps the least
index of a largest power (`argmax_spec`). -/
theorem fusedCorrelation : Obligations.FusedCorrelation := by
  unfold Obligations.FusedCorrelation
  intro s c d s1 s2 k hfu
  refine ⟨fun h1 h2 hready hN0 hN hL0 hL hNL hK => ?correlate, fun h1 hready hSf0 hSf hM0 hM hMS hK => ?despread,
    fun hready hL0 hL => ?peak⟩
  case correlate =>
    obtain ⟨v, sat, hdone, hfres, hv⟩ := corrPush_leaves s c.toNat d.toNat (fun k => k.ccorrSums s1.toNat s2.toNat)
    refine ⟨_, v, sat, exec_ccorr_ready hfu h1 h2 hready rfl ⟨hN0, hN⟩ ⟨hL0, hL⟩ hNL hK, hdone, hfres,
      fun l hl => (hv l hl).trans ?_⟩
    rw [k.length_ccorrSums]
    exact ite_congr rfl (fun h => by rw [k.getD_ccorrSums _ _ h]) (fun _ => rfl)
  case despread =>
    obtain ⟨v, sat, hdone, hfres, hv⟩ := corrPush_leaves s c.toNat d.toNat (fun k => k.cdespSums s1.toNat s2.toNat)
    refine ⟨_, v, sat, exec_cdesp_ready hfu h1 hready rfl ⟨hSf0, hSf⟩ ⟨hM0, hM⟩ hMS hK, hdone, hfres,
      fun l hl => (hv l hl).trans ?_⟩
    rw [k.length_cdespSums]
  case peak =>
    obtain ⟨hle, hmax, hfirst⟩ := argmax_spec (k.power32 s1.toNat) k.corrL
    rw [← k.peak_eq] at hle hmax hfirst
    obtain ⟨hdone, hfres, -⟩ := fuG_leaves s c.toNat 0 d (fun k => BitVec.ofNat 64
      (k.peak s1.toNat + k.power32 s1.toNat (k.peak s1.toNat) / 2 ^ 32 * 2 ^ 32))
    exact ⟨_, k.peak s1.toNat, exec_cpeak_ready hfu hready rfl ⟨hL0, hL⟩, hdone, by omega, hmax, hfirst, hfres⟩

/-- Settles O28: the Gold state stays within its 31-bit registers (`goldOk_goldSteps`) and the CRC within its width (`crcFeed_lt`),
so LFSR_GOLD and LFSR_CRC read back what was written (`lfsr_setGold`, `lfsr_setCrc`). -/
theorem fusedShiftRegisters : Obligations.FusedShiftRegisters := by
  unfold Obligations.FusedShiftRegisters
  intro s c d s1 s2 n k hfu
  refine ⟨fun hready => ⟨⟨_, rfl, ?init⟩, fun hn => ⟨_, rfl, ?crcInit⟩, fun hn hp => ⟨_, rfl, ?feedG⟩⟩,
    fun hready => ⟨fun hn => ⟨_, rfl, ?generate⟩, fun hp => ?crcRead⟩, fun hready => ⟨_, rfl, ?generateV⟩,
    fun hready hp hlo hhi => ⟨_, rfl, ?feedV⟩⟩
  case init =>
    exact lfsr_setGold hready hfu rfl (push := id) (.refl _) (g := fun k => goldSteps 1600 (1, (k.gr s1.toNat).toNat % 2 ^ 31))
      (goldOk_goldSteps _ (goldOk_seed _))
  case crcInit =>
    rw [Nat.mod_eq_of_lt (by omega : n.toNat < 8)]
    exact lfsr_setCrc hready hfu (by simpa using hn.trans (by decide)) (by simpa using hn) rfl (p := fun _ => n.toNat) hn
      (Nat.mod_lt _ (Nat.two_pow_pos _))
  case feedG =>
    rw [Nat.mod_eq_of_lt hn]
    exact lfsr_setCrc hready hfu (by simpa using hn) (by simpa using hp) rfl (p := Core.poly) hp (crcFeed_lt k.crcReg_lt _ _)
  case generate =>
    rw [Nat.mod_eq_of_lt hn]
    obtain ⟨hdone, hfres, hgold⟩ := lfsr_setGold hready hfu
      (illegal := decide (64 ≤ n.toNat) || decide ((0 : BitVec 5) ≠ 0) || decide ((0 : BitVec 5) ≠ 0)) (by simpa using hn)
      (push := fun k => k.fuG 1 d.toNat (BitVec.ofNat 64 (goldBits (n.toNat + 1) k.gold))) (k.fuG_same _ _ _)
      (g := fun k => goldSteps (n.toNat + 1) k.gold) (goldOk_goldSteps _ k.goldOk_gold)
    exact ⟨hdone, hgold, hfres.trans (k.fres_fuG _ _ _)⟩
  case crcRead =>
    obtain ⟨hdone, hfres, hcr⟩ := fuG_leaves s c.toNat 1 d (fun k => BitVec.ofNat 64 k.crcReg)
    exact ⟨_, exec_lcrcrd_ready hready hfu hp, hdone, Core.crv_congr hcr _, hfres⟩
  case generateV =>
    obtain ⟨hdone, hfres, hgold⟩ := lfsr_setGold hready hfu rfl
      (push := fun k => k.fuPush ⟨1, true, d.toNat, BitVec.ofNat 4096 (goldBits 4096 k.gold), false⟩) (k.fuPush_same _)
      (g := fun k => goldSteps 4096 k.gold) (goldOk_goldSteps _ k.goldOk_gold)
    exact ⟨hdone, hgold, hfres⟩
  case feedV =>
    have hrange : (decide ((k.gr s2.toNat).toNat = 0) || decide (4096 < (k.gr s2.toNat).toNat)) = false := by
      simp only [Bool.or_eq_false_iff, decide_eq_false_iff_not]
      omega
    exact lfsr_setCrc hready hfu rfl (by simpa using hp) hrange (p := Core.poly) hp (crcFeed_lt k.crcReg_lt _ _)

/-- Settles O29: the symbols' LLRs lie one after another (`getElem?_flatMap_range`) and each fits its field
(`Core.llrFits_demapSym`). -/
theorem fusedDemapper : Obligations.FusedDemapper := by
  unfold Obligations.FusedDemapper
  intro s c func d s1 s2 param k w hfu hfunc hparam h1 h2 hready hcount hfit hshift
  obtain ⟨hdone, hfres, -, -⟩ := State.fuRetire_mapCore (s := s) (c := c.toNat)
    (f := fun k => k.fuPush ⟨2, true, d.toNat, k.demapOut func.toNat w s1.toNat s2.toNat, false⟩) (k.fuPush_same _)
  have hw : 0 < w := by
    unfold w
    split <;> decide
  exact ⟨_, _, exec_demap_ready hfu hfunc hparam h1 h2 hready rfl hcount hfit hshift, hdone, hfres,
    fun i b hi hb => k.extract_demap _ _ _ hw hi hb hfit⟩

/-- Settles O30: an accepted operation joins the unit's (`ilvInsn_leaves`); each of its steps meets good accesses, since what
earlier steps wrote changes no answer and spoils no parity (`IlvDone.ilvFail`), and adds one element (`IlvDone.ilvPut`); a
result leaves its unit for its register (`Core.fuWrite_leaves`). -/
theorem fusedInterleaverAndResults : Obligations.FusedInterleaverAndResults := by
  unfold Obligations.FusedInterleaverAndResults
  refine ⟨fun s c d s1 s2 llr hfu hready hroom e he hbit hrange => ?issue,
    fun s c o rest hilv hstores hrange hllr hfunc hsrc hdst => ?finish, fun s c unit hunit => ?arrive⟩
  case issue =>
    exact ⟨_, exec_ilvOps e he s c d s1 s2 _, ilvInsn_leaves rfl hfu hready hroom hbit hrange⟩
  case finish =>
    obtain ⟨hncb, hapart⟩ := IlvOp.of_badRange hrange
    obtain ⟨t, hfold, hdone⟩ := ilvSteps_good hllr hfunc hncb hapart hsrc hdst (Nat.le_refl _)
    obtain ⟨hrest, hstat, hdeferred, hg, hv, hregs, hmem⟩ := hdone.ends rest (BitVec.ofNat 64 o.steps)
    refine ⟨_, rfl, ?_⟩
    rw [ilvRun_good hilv hstores hfold, hmem]
    exact ⟨hrest, hstat, hdeferred, hdone.elements, hdone.out, hg, hv, hregs⟩
  case arrive =>
    have hexec : exec (.fusedResult c unit) s = .next (s.fusedResult c.toNat unit.toNat) := if_pos (decide_eq_true hunit)
    rw [hexec]
    refine ⟨fun r hr => ⟨_, rfl, ?_⟩, fun hnone => congrArg _ (fusedResult_none hnone)⟩
    rw [core_fusedResult hr]
    exact Core.fuWrite_leaves (List.mem_of_find?_eq_some hr)

end


section
/-!
SUPPORT. What a start leaves of the holding slots, and a mill that lists one holding slot twice (R162, R178).
-/

namespace Sys2Proof.Machine

variable {s : State} {n slot e : Nat} {j : MillJob}

/-! ## A mill that is replaced -/

theorem State.foldl_put_mills (f : Nat → RF) (x : Nat → Nat) (l : List Nat) :
    ∀ s : State, (l.foldl (fun s i => s.put (f i) (x i)) s).mills = s.mills := by
  induction l with
  | nil => exact fun _ => rfl
  | cons i l ih => exact fun s => (ih _).trans (s.put_mills _ _)

@[simp] theorem State.mill_setMill (s : State) (n : Nat) (x : MillSt) : (s.setMill n x).mill n = x := by
  simp [State.mill, State.setMill, State.foldl_put_mills]

@[simp] theorem State.mill_put (s : State) (f : RF) (x n : Nat) : (s.put f x).mill n = s.mill n := by
  simp [State.mill]

@[simp] theorem State.mill_count (s : State) (i k n : Nat) : (s.count i k).mill n = s.mill n := by
  simp [State.mill]

theorem State.mill_withFreeCtr (s : State) (k n : Nat) : ({ s with freeCtr := k } : State).mill n = s.mill n := rfl

/-! ## Held jobs that no outcome of R178 ends -/

theorem mem_of_mapFind {α : Type} {x : Nat} {y : α} : ∀ {m : List (Nat × α)}, mapFind? m x = some y → (x, y) ∈ m
  | (k, v) :: m, h => by
    by_cases hk : k = x
    · obtain rfl : v = y := by simpa [mapFind?, hk] using h
      exact hk ▸ List.mem_cons_self
    · exact List.mem_cons_of_mem _ (mem_of_mapFind (by simpa [mapFind?, hk] using h))

theorem State.heldEnd_of_quiet (hquiet : ∀ x ∈ (s.mill n).held, (s.jobSquashed n x.2.desc || s.jobLate x.2.desc) = false) :
    s.heldEnd n slot = s := by
  unfold State.heldEnd
  split
  · rfl
  · next j hj =>
    obtain ⟨hsquashed, hlate⟩ := Bool.or_eq_false_iff.mp (hquiet _ (mem_of_mapFind hj))
    simp [hsquashed, hlate]

theorem State.heldCycle_of_quiet (hquiet : ∀ x ∈ (s.mill n).held, (s.jobSquashed n x.2.desc || s.jobLate x.2.desc) = false) :
    s.heldCycle n = s := by
  unfold State.heldCycle
  generalize List.range 16 = l
  induction l with
  | nil => rfl
  | cons i l ih => rw [List.foldl_cons, State.heldEnd_of_quiet hquiet, ih]

/-! ## Starts -/

/-- The start is chosen among the held jobs as STALL has left them. -/
theorem State.millStart_of_quiet (hquiet : ∀ x ∈ (s.mill n).held, (s.jobSquashed n x.2.desc || s.jobLate x.2.desc) = false)
    (hslot : (s.millStalls n).nextSlot n = some slot) (hheld : mapFind? ((s.millStalls n).mill n).held slot = some j)
    (hengine : (s.millStalls n).freeEngine n (jClass j.desc) = some e) :
    s.millStart n = (s.millStalls n).millRun n slot e j := by
  unfold State.millStart
  rw [State.heldCycle_of_quiet hquiet]
  generalize s.millStalls n = u at hslot hheld hengine ⊢
  simp only [hslot, hheld, hengine]

/-- A job that starts too late leaves its slot, and no other is touched. -/
theorem State.millRun_held_of_late (hlate : (jDlV j.desc && stampEarlier (jDeadline j.desc) s.now) = true) :
    ((s.millRun n slot e j).mill n).held = mapErase (s.mill n).held slot := by
  simp only [State.millRun, hlate, if_true, State.setRun, State.mill_setMill]
  rw [State.mill_withFreeCtr, State.mill_count, State.mill_put, State.mill_setMill]

/-! ## One slot listed twice -/

/-- A job of class `c` with DL_V and a deadline before reset's TB0: one that starts reads no input (R179). -/
def staleDesc (c : Byte) : List Byte := [c, 4] ++ List.replicate 10 0 ++ toBytes 4 0xFFFFFFFF

/-- Mill 0 with no FFT engine enabled. Slot 0 lists an FFT job, and behind it the first job of queue 5; slot 1 holds the second
job of queue 5, slot 2 a job of queue 6. -/
def twiceHeld : State :=
  { State.reset.setReg (R.MILL_ENG_EN1 0) 0 with
    mills := [(0, ⟨[(0, .ofDesc (staleDesc 5) 4 0), (0, .ofDesc (staleDesc 0) 5 1), (1, .ofDesc (staleDesc 0) 5 2),
      (2, .ofDesc (staleDesc 0) 6 3)], [], 15, 4⟩)] }

theorem twiceHeld_quiet : ∀ x ∈ (twiceHeld.mill 0).held,
    (twiceHeld.jobSquashed 0 x.2.desc || twiceHeld.jobLate x.2.desc) = false := by
  decide +kernel

/-- The job behind slot 0's is the earlier one of queue 5, and keeps slot 1's from starting. -/
theorem twiceHeld_nextSlot : twiceHeld.nextSlot 0 = some 2 := by
  decide +kernel

/-- The FFT job stalls, and with its entry replaced the one behind it is gone. -/
theorem twiceHeld_millStalls_held : ((twiceHeld.millStalls 0).mill 0).held =
    [(0, { MillJob.ofDesc (staleDesc 5) 4 0 with stalled := true }), (1, .ofDesc (staleDesc 0) 5 2),
      (2, .ofDesc (staleDesc 0) 6 3)] := by
  decide +kernel

/-- Slot 1's job is now the first of queue 5, and starts before slot 2's. -/
theorem twiceHeld_millStalls_nextSlot : (twiceHeld.millStalls 0).nextSlot 0 = some 1 := by
  decide +kernel

theorem twiceHeld_millStart_held :
    ((twiceHeld.millStart 0).mill 0).held = mapErase ((twiceHeld.millStalls 0).mill 0).held 1 := by
  rw [State.millStart_of_quiet (slot := 1) (e := 0) (j := .ofDesc (staleDesc 0) 5 2) twiceHeld_quiet
    twiceHeld_millStalls_nextSlot (by rw [twiceHeld_millStalls_held]; rfl) (by decide +kernel)]
  exact State.millRun_held_of_late (by decide +kernel)

end Sys2Proof.Machine
end

section
/-!
PROOFS. The mills (O52).
-/

open Sys2Proof Sys2Proof.Machine

/-- Refutes O52 at its clause on JOB_START, which takes a mill whose slots are listed in any way: the statement judges R162's
choice before STALL, the mill after it. In `twiceHeld` slot 0 is listed twice, and the entry behind the first is the earlier job
of queue 5. STALL replaces both entries by one, so that slot 1's job becomes the first of queue 5 and starts, and slot 2's, which
was to start, stays held. Commands list a slot by `mapIns`, once; the state is none that a run reaches. -/
theorem not_millCommands : ¬ Obligations.MillCommands := by
  unfold Obligations.MillCommands
  intro h
  obtain ⟨-, -, -, hstart, -⟩ := h twiceHeld 0 2 0
  obtain ⟨t, -, ht, -, -, -, hheld, -⟩ := hstart (.ofDesc (staleDesc 0) 6 3) twiceHeld_quiet twiceHeld_nextSlot
    (by decide +kernel) (by decide +kernel)
  obtain rfl : twiceHeld.millStart 0 = t := Host.Outcome.next.inj ht
  have hkept : mapFind? ((twiceHeld.millStart 0).mill 0).held 2 = some (.ofDesc (staleDesc 0) 6 3) := by
    rw [twiceHeld_millStart_held, mapFind_erase_ne _ (by decide), twiceHeld_millStalls_held]
    rfl
  exact Option.some_ne_none _ (hkept.symm.trans hheld)

end


section
/-!
SUPPORT. The corridor engine with nothing to do: what each of the five steps of a tick leaves then (R183), what falls due with a
tick (R184), and the table window (R208).
-/

namespace Sys2Proof.Machine

variable {s : State}

/-- A fold each of whose steps leaves the state leaves it. -/
theorem foldl_fixed_of_mem {σ α : Type} {f : σ → α → σ} {b : σ} {l : List α} (h : ∀ x ∈ l, f b x = b) : l.foldl f b = b :=
  List.foldlRecOn (motive := fun c => c = b) l f rfl fun _ hc x hx => by rw [hc, h x hx]

/-! ### Tables without errors (R287) -/

theorem State.readRec_of_noErr (h : s.ctlErr = []) (t i : Nat) : s.readRec t i = s := by simp [State.readRec, h]

theorem State.readRecs_of_noErr (h : s.ctlErr = []) (t : Nat) (l : List Nat) : s.readRecs t l = s := by simp [State.readRecs, h]

/-! ### Steps 2 to 4 with no train initialised and the input queues off -/

theorem State.trainForward_of_noInit {t : Nat} (herr : s.ctlErr = []) (htrain : s.trInit t = false) : s.trainForward t = s := by
  simp [State.trainForward, State.readRec_of_noErr herr, htrain]

theorem State.corrInput_off (s : State) (q : Nat) : s.corrInput false q = s := rfl

theorem State.predict_of_noInit (herr : s.ctlErr = []) (htrain : ∀ t, t < 1024 → s.trInit t = false) : s.predict = s := by
  unfold State.predict
  rw [State.readRecs_of_noErr herr]
  exact foldl_fixed_of_mem fun t ht => by simp [htrain t (List.mem_range.mp ht)]

/-! ### Step 5 with no cell valid and no change pending (R203 to R206) -/

theorem keyCell_eq_some {key c : Nat} (h : keyCell key = some c) : 64 ≤ c ∧ c < 80 := by
  unfold keyCell at h
  split at h
  · next hmoving =>
    obtain rfl := Option.some.inj h
    simpa [isMoving] using hmoving.2
  · cases h

/-- With no change pending, membership sees the tables as they are. -/
theorem CorrSt.asHeld_of_noPending {c : CorrSt} (h : ∀ x, 64 ≤ x → x < 80 → c.pending x = false) : c.asHeld = c := by
  suffices htbl : c.asHeld.tbl = c.tbl by
    calc c.asHeld = { c with tbl := c.asHeld.tbl } := rfl
      _ = c := by rw [htbl]
  refine foldl_fixed_of_mem fun e _ => ?_
  split
  · next x hx =>
    obtain ⟨hlo, hhi⟩ := keyCell_eq_some hx
    simp [h x hlo hhi]
  · rfl

theorem State.cellComplete_of_notPending {c : Nat} (h : wbit (s.cw 3 c 2) 26 = false) : s.cellComplete c = s := by
  simp [State.cellComplete, h]

theorem mem_movingCells {c : Nat} (h : c ∈ (List.range 16).map (64 + ·)) : 64 ≤ c ∧ c < 80 := by
  obtain ⟨i, hi, rfl⟩ := List.mem_map.mp h
  have := List.mem_range.mp hi
  omega

theorem State.membership_of_noValid (herr : s.ctlErr = [])
    (hcell : ∀ c, 64 ≤ c → c < 80 → wbit (s.cw 3 c 2) 26 = false ∧ s.cellValid c = false) :
    s.membership = { s with corr := s.corr.dropHeld } := by
  have hheld : s.corr.asHeld = s.corr := CorrSt.asHeld_of_noPending fun c hlo hhi => (hcell c hlo hhi).1
  have hcomplete : ((List.range 16).map (64 + ·)).foldl State.cellComplete s = s := foldl_fixed_of_mem fun c hc => by
    obtain ⟨hlo, hhi⟩ := mem_movingCells hc
    exact State.cellComplete_of_notPending (hcell c hlo hhi).1
  have hchange : ((List.range 16).map (64 + ·)).foldl (fun u c =>
      if s.cellValid c && !s.cellLocked c then u.cellChange c (s.resolved c) else u) s = s := foldl_fixed_of_mem fun c hc => by
    obtain ⟨hlo, hhi⟩ := mem_movingCells hc
    simp [(hcell c hlo hhi).2]
  simp only [State.membership, State.readRecs_of_noErr herr, hheld, hcomplete, hchange]
  rfl

/-! ### The five steps (R183) -/

/-- The state after step 1 of a tick: the writes of earlier amendments are in force. -/
def State.amended (s : State) : State := { s with corr := s.corr.step s.now }

/-- With nothing tracked, no input queue, no valid cell and no error in the tables, the steps after the first only drop the
earlier values that no pending change keeps any more. -/
theorem State.corrSteps_idle (herr : s.ctlErr = []) (hq0 : s.on F.CORR_INQ0_EN = false) (hq1 : s.on F.CORR_INQ1_EN = false)
    (htrain : ∀ t, t < 1024 → s.amended.trInit t = false)
    (hcell : ∀ c, 64 ≤ c → c < 80 → wbit (s.amended.cw 3 c 2) 26 = false ∧ s.amended.cellValid c = false) :
    s.corrSteps = { s with corr := s.amended.corr.dropHeld } := by
  have herr' : s.amended.ctlErr = [] := herr
  have hforward : (List.range 1024).foldl State.trainForward s.amended = s.amended := foldl_fixed_of_mem fun t ht =>
    State.trainForward_of_noInit herr' (htrain t (List.mem_range.mp ht))
  have hoff0 : s.amended.on F.CORR_INQ0_EN = false := hq0
  have hoff1 : s.amended.on F.CORR_INQ1_EN = false := hq1
  unfold State.corrSteps
  extract_lets s1 s2 s3
  have hs2 : s2 = s.amended := hforward
  have hs3 : s3 = s.amended := by
    change (s2.corrInput (s2.on F.CORR_INQ0_EN) _).corrInput (s2.on F.CORR_INQ1_EN) _ = _
    rw [hs2, hoff0, State.corrInput_off, hoff1, State.corrInput_off]
  rw [hs3, State.predict_of_noInit herr' htrain, State.membership_of_noValid herr' hcell]
  rfl

theorem CorrSt.stamp_of_mem_step_pend {c : CorrSt} {now : Word} {e : Amendment} (h : e ∈ (c.step now).pend) :
    stampEarlier e.stamp now = false := by
  simpa using (List.mem_filter.mp h).2

/-! ### When a tick is due (R184) -/

/-- A flag with its repeat count is on after it is set, however often. -/
theorem State.on_flagRepN {f rep : RF} (h : f.Beside rep) (hfits : f.lo + f.w ≤ 32) (hw : f.w = 1) (s : State) (n : Nat) :
    (s.flagRepN f rep n).on f = true :=
  (State.on_put_beside f rep h _ _).trans (s.on_flag f hfits hw)

theorem State.reg_count (s : State) (i n a : Nat) : (s.count i n).reg a = s.reg a := State.reg_congr (s.count_regs i n) a

/-- A due tick before its steps: the next tick is set, and the `k` ticks passed over are an overrun. -/
def State.startTick (s : State) (next : Word) (k : Nat) : State :=
  let s1 := (s.setReg R.CORR_TICK_NEXT next).count 520 1
  if k = 0 then s1 else (s1.flagRepN F.CORR_STAT_OVERRUN F.CORR_STAT_OVERRUN_REP k).count 521 k

section
variable (s : State) (next : Word) (k : Nat)

/-- Registers and counters apart, the steps of a due tick find the state as it was. -/
theorem State.startTick_eq : ∃ r p, s.startTick next k = { s with regs := r, perf := p } := by
  unfold State.startTick
  extract_lets
  split
  · exact ⟨_, _, rfl⟩
  · exact ⟨_, _, rfl⟩

theorem State.reg_startTick {a : Nat} (ha : a ≠ R.CORR_STAT) :
    (s.startTick next k).reg a = (s.setReg R.CORR_TICK_NEXT next).reg a := by
  unfold State.startTick
  extract_lets s1
  have hs1 : s1.reg a = (s.setReg R.CORR_TICK_NEXT next).reg a := State.reg_count _ _ _ _
  split
  · exact hs1
  · rw [State.reg_count, State.flagRepN, State.reg_put_ne _ _ _ ha, State.reg_put_ne _ _ _ ha, hs1]

theorem State.reg_startTick_next : (s.startTick next k).reg R.CORR_TICK_NEXT = next :=
  (s.reg_startTick next k (by decide)).trans (s.reg_setReg _ _)

theorem State.reg_startTick_ne {a : Nat} (hstat : a ≠ R.CORR_STAT) (hnext : a ≠ R.CORR_TICK_NEXT) :
    (s.startTick next k).reg a = s.reg a :=
  (s.reg_startTick next k hstat).trans (s.reg_setReg_ne _ hnext)

theorem State.startTick_overrun (hk : k ≠ 0) : (s.startTick next k).on F.CORR_STAT_OVERRUN = true := by
  unfold State.startTick
  extract_lets s1
  rw [if_neg hk, State.on_congr (State.count_regs _ _ _)]
  have hbeside : F.CORR_STAT_OVERRUN.Beside F.CORR_STAT_OVERRUN_REP := ⟨rfl, by decide⟩
  exact State.on_flagRepN hbeside (by decide) rfl s1 k

end

theorem State.corrTick_of_notDue (h : s.on F.CORR_CTRL_EN = false ∨ 2 ^ 31 ≤ (s.now - s.reg R.CORR_TICK_NEXT).toNat ∨
    s.pwr.dormant = true ∨ s.get F.PWR_STAT_STATE = 3) : s.corrTick = s := by
  refine if_pos ?_
  simpa only [Bool.or_eq_true, Bool.not_eq_true', decide_eq_true_eq, or_assoc] using h

section Due

variable (hen : s.on F.CORR_CTRL_EN = true) (hlate : (s.now - s.reg R.CORR_TICK_NEXT).toNat < 2 ^ 31)
  (hdormant : s.pwr.dormant = false) (hstate : s.get F.PWR_STAT_STATE ≠ 3)

include hen hlate hdormant hstate

theorem State.corrTick_of_due : s.corrTick =
    (s.startTick (s.reg R.CORR_TICK_NEXT + BitVec.ofNat 32 (250000 * ((s.now - s.reg R.CORR_TICK_NEXT).toNat / 250000 + 1)))
      ((s.now - s.reg R.CORR_TICK_NEXT).toNat / 250000)).corrSteps := by
  refine if_neg ?_
  simp only [hen, Nat.not_le.mpr hlate, hdormant, hstate, decide_false, Bool.not_true, Bool.or_false, Bool.false_eq_true,
    not_false_eq_true]

/-- What a tick leaves that is due and finds nothing to do: its registers and counters, and the tables as step 1 leaves them but
for earlier values that no pending change keeps. -/
theorem State.corrTick_idle (herr : s.ctlErr = []) (hq0 : s.on F.CORR_INQ0_EN = false) (hq1 : s.on F.CORR_INQ1_EN = false)
    (htrain : ∀ t, t < 1024 → s.amended.trInit t = false)
    (hcell : ∀ c, 64 ≤ c → c < 80 → wbit (s.amended.cw 3 c 2) 26 = false ∧ s.amended.cellValid c = false) :
    s.corrTick = { s.startTick
        (s.reg R.CORR_TICK_NEXT + BitVec.ofNat 32 (250000 * ((s.now - s.reg R.CORR_TICK_NEXT).toNat / 250000 + 1)))
        ((s.now - s.reg R.CORR_TICK_NEXT).toNat / 250000) with
      corr := s.amended.corr.dropHeld } := by
  rw [State.corrTick_of_due hen hlate hdormant hstate]
  generalize s.reg R.CORR_TICK_NEXT + _ = next
  generalize _ / 250000 = k
  have hq0' : (s.startTick next k).on F.CORR_INQ0_EN = false :=
    (State.on_of_reg (s.reg_startTick_ne next k (by decide) (by decide))).trans hq0
  have hq1' : (s.startTick next k).on F.CORR_INQ1_EN = false :=
    (State.on_of_reg (s.reg_startTick_ne next k (by decide) (by decide))).trans hq1
  have hnow : (s.startTick next k).now = s.now := s.reg_startTick_ne next k (by decide) (by decide)
  obtain ⟨r, p, heq⟩ := s.startTick_eq next k
  have hamended : (s.startTick next k).amended = { s.amended with regs := r, perf := p } := by
    rw [State.amended, hnow, heq]
    rfl
  have herr' : (s.startTick next k).ctlErr = [] := by rw [heq]; exact herr
  rw [State.corrSteps_idle herr' hq0' hq1' (by rw [hamended]; exact htrain) (by rw [hamended]; exact hcell), hamended]

end Due

/-! ### The table window (R208) -/

theorem State.corrData_on (hen : s.on F.CORR_CTRL_EN = true) (v : Word) : s.corrData v = s.flag F.CORR_STAT_WR_DENIED := by
  rw [State.corrData, if_pos hen]

theorem State.corrData_unselected (hen : s.on F.CORR_CTRL_EN = false) (hsel : s.corrSel = none) (v : Word) :
    s.corrData v = s := by
  simp [State.corrData, hen, hsel]

theorem State.corrData_selected {k i w : Nat} (hen : s.on F.CORR_CTRL_EN = false) (hsel : s.corrSel = some (k, i, w)) (v : Word) :
    s.corrData v = (s.setCw k i w v).ctlWrite (ctlTable (cKey k i w)) := by
  simp [State.corrData, hen, hsel]

/-! ### The commands -/

theorem exec_corridorTick_eq (s : State) : exec .corridorTick s = .next s.corrTick := rfl

theorem exec_corrTblData_eq (v : Word) (s : State) : exec (.corrTblData v) s = .next (s.corrData v) := rfl

end Sys2Proof.Machine
end

section
/-!
PROOFS. The corridor tick and the table window (O51).
-/

open Sys2Proof Sys2Proof.Machine

/-- Settles O51: a tick in season sets the next one and, idle, is step 1 alone (`State.corrTick_idle`); out of season it does
nothing (log entry 3), and the ticks passed over only count as an overrun (log entry 57). The table window writes the word it
selects while EN = 0. -/
theorem corridorCommands : Obligations.CorridorCommands := by
  unfold Obligations.CorridorCommands
  intro s v late z
  refine ⟨fun h => ?_, fun hen hlate hdormant hstate => ⟨_, exec_corridorTick_eq s, fun herr hq0 hq1 htrain hcell => ?_⟩,
    fun hen => ⟨_, exec_corrTblData_eq v s, ?_⟩,
    fun hen => ⟨fun hsel => ?_, fun k i w hsel => ⟨_, exec_corrTblData_eq v s, ?_⟩⟩⟩
  · rw [exec_corridorTick_eq, State.corrTick_of_notDue h]
  · rw [State.corrTick_idle hen hlate hdormant hstate herr hq0 hq1 htrain hcell]
    obtain ⟨r, p, heq⟩ := s.startTick_eq (s.reg R.CORR_TICK_NEXT + BitVec.ofNat 32 (250000 * (late / 250000 + 1))) (late / 250000)
    exact ⟨s.reg_startTick_next _ _, fun hover => s.startTick_overrun _ _ (Nat.div_pos hover (by decide)).ne', rfl, rfl,
      fun e he => CorrSt.stamp_of_mem_step_pend he, (congrArg State.mem heq :), (congrArg State.queues heq :),
      (congrArg State.flight heq :)⟩
  · rw [State.corrData_on hen]
    exact ⟨s.on_flag _ (by decide) rfl, rfl⟩
  · rw [exec_corrTblData_eq, State.corrData_unselected hen hsel]
  · rw [State.corrData_selected hen hsel]
    exact ⟨mapGet_set_same _ _ _ _, rfl, rfl, fun x hx => mapGet_set_ne _ _ _ _ hx⟩

end


section
/-!
SUPPORT. What a sieve instruction leaves that writes its status to rd and retires (R217).
-/

namespace Sys2Proof.Machine

variable {s r t : State} {v : DWord} {c rd u : Nat} {f : Sieve → Sieve}

/-- An instruction that does nothing but answer. -/
theorem gServed_retireG (s : State) (c rd : Nat) (v : DWord) :
    gServed s ((s.retireG c rd v).dropPrefetch c) c rd v := by
  obtain ⟨hgr, hpc, hcore, honly⟩ := s.retireG_spec c rd v
  unfold gServed
  rw [State.core_dropPrefetch]
  exact ⟨hgr, hpc, by rw [hcore], honly.mapCore _⟩

/-- An instruction that has changed no core before it answers. -/
theorem gTaken_retireG (hr : r.cores = s.cores) (c rd : Nat) (v : DWord) :
    gTaken s ((r.retireG c rd v).dropPrefetch c) c rd v := by
  obtain ⟨hgr, hpc, hcore, -, hothers⟩ := gServed_retireG r c rd v
  simp only [State.core_congr hr] at hgr hpc hcore hothers
  exact ⟨hgr, hpc, by rw [hcore], by rw [hcore], by rw [hcore], hothers⟩

/-- Two states with the same sieves. -/
theorem State.sieve_congr (h : t.sieves = s.sieves) (u : Nat) : t.sieve u = s.sieve u := by rw [State.sieve, h, State.sieve]

theorem sieves_mapCore (s : State) (c : Nat) (g : Core → Core) : (s.mapCore c g).sieves = s.sieves := rfl

theorem sieves_retireG (r : State) (c rd : Nat) (v : DWord) : (r.retireG c rd v).sieves = r.sieves := by
  rw [State.retireG, State.retire, State.retireTo, State.count_sieves, State.setCore_sieves, sieves_mapCore]

/-- An instruction that has changed one sieve, and the counters, before it answers. -/
theorem retireG_mapSieve (hr : r = { s.mapSieve u f with perf := r.perf }) (c rd : Nat) (v : DWord) :
    let t := (r.retireG c rd v).dropPrefetch c
    onlySieve s t u ∧ gTaken s t c rd v ∧ t.sieve u = f (s.sieve u) := by
  obtain ⟨-, -, -, heq, -⟩ := gServed_retireG r c rd v
  have hsieve : ∀ w, ((r.retireG c rd v).dropPrefetch c).sieve w = (s.mapSieve u f).sieve w := fun w =>
    State.sieve_congr (by rw [State.dropPrefetch, sieves_mapCore, sieves_retireG, hr]) w
  have hcores : r.cores = s.cores := by rw [hr]; rfl
  refine ⟨⟨?_, fun w hw => (hsieve w).trans (s.sieve_setSieve_ne _ hw)⟩, gTaken_retireG hcores c rd v,
    (hsieve u).trans (s.sieve_setSieve _ _)⟩
  rw [heq, hr]
  rfl

/-- A change that no counter counts. -/
theorem retireG_uncounted (s : State) (u : Nat) (f : Sieve → Sieve) (c rd : Nat) (v : DWord) :
    let t := ((s.mapSieve u f).retireG c rd v).dropPrefetch c
    onlySieve s t u ∧ gTaken s t c rd v ∧ t.sieve u = f (s.sieve u) :=
  retireG_mapSieve (r := s.mapSieve u f) rfl c rd v

theorem statusWord_ok (n : Nat) : statusWord 0 n = BitVec.ofNat 64 (n * 2 ^ 16) := by
  rw [statusWord, Nat.zero_add]

theorem statusWord_plain (st : Nat) : statusWord st 0 = BitVec.ofNat 64 st := by
  rw [statusWord, Nat.zero_mul, Nat.add_zero]

theorem State.ctlRead_of_noErr (h : s.ctlErr = []) (l : List Nat) : s.ctlRead l = s := by
  simp [State.ctlRead, h]

@[simp] theorem Sieve.flow_setFlow (v : Sieve) (i : Nat) (x : Flow) : (v.setFlow i x).flow i = x := mapGet_set_same _ _ _ _

theorem Sieve.flow_setFlow_ne (v : Sieve) {i j : Nat} (h : j ≠ i) (x : Flow) : (v.setFlow i x).flow j = v.flow j :=
  mapGet_set_ne _ _ _ _ h

@[simp] theorem Sieve.tok_setTok (v : Sieve) (i : Nat) (x : Tok) : (v.setTok i x).tok i = x := mapGet_set_same _ _ _ _

theorem Sieve.tok_setTok_ne (v : Sieve) {i j : Nat} (h : j ≠ i) (x : Tok) : (v.setTok i x).tok j = v.tok j :=
  mapGet_set_ne _ _ _ _ h

@[simp] theorem Sieve.thread_setThread (v : Sieve) (i : Nat) (x : Thread) : (v.setThread i x).thread i = x :=
  mapGet_set_same _ _ _ _

end Sys2Proof.Machine
end

section
/-!
SUPPORT. A TDISPATCH that meets a correctable error of control memory (R211, R283, R287).
-/

namespace Sys2Proof.Machine

variable {s : State} {c k : Nat}

/-- The read of a word with a single-bit error corrects it. -/
theorem ctlErr_ctlRead_single (h : s.ctlErr = [(k, 1)]) : (s.ctlRead [k]).ctlErr = [] := by
  simp [State.ctlRead, State.ctlWord, h, mapGet, mapFind?, mapErase]

theorem ctlErr_retireG (s : State) (c rd : Nat) (v : DWord) : (s.retireG c rd v).ctlErr = s.ctlErr := by
  rw [State.retireG, State.retire, State.retireTo, State.count_ctlErr, State.setCore_ctlErr, State.mapCore, State.setCore_ctlErr]

theorem ctlErr_mapCore (s : State) (c : Nat) (f : Core → Core) : (s.mapCore c f).ctlErr = s.ctlErr := rfl

/-- A dispatch reads the word of its thread and leaves every other word's check bits. -/
theorem ctlErr_dispatch (s : State) (c rd i : Nat) :
    (s.dispatch c rd i).ctlErr = (s.ctlRead [ctlSieve (stratumOf c) 0 i]).ctlErr := by
  simp only [State.dispatch, ctlErr_retireG, ctlErr_mapCore, State.count_ctlErr, State.mapSieve, State.setSieve_ctlErr]

theorem State.serveAll_of_noneAsking {u : Nat} (h : (s.sieve u).asking = []) : s.serveAll u = s := by
  rw [State.serveAll, h]
  rfl

theorem exec_tdispatch (s : State) (c : BitVec 8) (rd rs1 : BitVec 5) : exec (.tdispatch c rd rs1 0) s =
    .next (s.sieveInsn c (useG [rs1.toNat] [rd.toNat]) false true (s.doDispatch c.toNat rd.toNat rs1.toNat)) := rfl

theorem State.doDispatch_of_best {i : Nat} (hasking : (s.sieve (stratumOf c)).asking = [])
    (hbest : (s.sieve (stratumOf c)).best (druseOf c) = some i) (rd rs1 : Nat) : s.doDispatch c rd rs1 = s.dispatch c rd i := by
  unfold State.doDispatch
  simp only [State.serveAll_of_noneAsking hasking, hbest]

/-- Core 0 runs from a written word, and thread 0 of its sieve is READY; the word that holds the thread has one wrong bit. -/
def flippedThread : State :=
  { State.reset.setHeld 0 false with
    mem := (List.range 4).map fun (i : Nat) => (0x100040000 + i, (0 : Byte))
    sieves := [(0, { Sieve.reset with
      threads := [(0, { Thread.free with state := .ready })]
      ready := [0] })]
    ctlErr := [(ctlSieve 0 0 0, 1)] }

theorem flippedThread_ready (w : Use) (hrs : w.rs = [0] ∨ w.rs = [0, 0]) : flippedThread.ready (0 : BitVec 8).toNat w := by
  have hcore : flippedThread.core (0 : BitVec 8).toNat = Core.reset := rfl
  refine ⟨by decide, rfl, rfl, by decide, ?_, ?_, rfl⟩
  · rw [hcore, Core.notReady]
    obtain h | h := hrs <;> rw [h] <;> rfl
  · rw [hcore, Core.poisoned]
    obtain h | h := hrs <;> rw [h] <;> rfl

theorem flippedThread_kernel : (flippedThread.core (0 : BitVec 8).toNat).task = false := rfl

theorem flippedThread_noneAsking : (flippedThread.sieve (stratumOf (0 : BitVec 8).toNat)).asking = [] := rfl

theorem flippedThread_best : ((flippedThread.serveAll (stratumOf (0 : BitVec 8).toNat)).sieve
    (stratumOf (0 : BitVec 8).toNat)).best (druseOf (0 : BitVec 8).toNat) = some 0 := rfl

end Sys2Proof.Machine
end

section
/-!
PROOFS. TDISPATCH, TSPAWN and TSETPRI (O31).
-/

open Sys2Proof Sys2Proof.Machine

/-- Refutes O31 at its clause on TDISPATCH, which has no premise on control memory: a dispatch reads the word of its thread, and in
`flippedThread` that word has a single-bit error, which the read corrects and MEM_STAT records (R287). So more than cores, a sieve
and counters changes. -/
theorem not_sieveThreads : ¬ Obligations.SieveThreads := by
  unfold Obligations.SieveThreads
  intro h
  obtain ⟨hdispatch, -⟩ := h flippedThread 0 0 0 0 (flippedThread_ready _ (.inr rfl)) flippedThread_kernel
  obtain ⟨-, hserved, -⟩ := hdispatch rfl (flippedThread_ready _ (.inl rfl))
  obtain ⟨t, ht, ⟨hframe, -⟩, -⟩ := hserved 0 flippedThread_best
  rw [exec_tdispatch, State.sieveInsn_ready (k := true) (flippedThread_ready _ (.inl rfl))
    (congrArg (true && ·) flippedThread_kernel), State.doDispatch_of_best flippedThread_noneAsking flippedThread_best] at ht
  obtain rfl := Host.Outcome.next.inj ht
  have hkept := congrArg State.ctlErr hframe
  rw [State.dropPrefetch, ctlErr_mapCore, ctlErr_dispatch, ctlErr_ctlRead_single rfl] at hkept
  exact absurd hkept.symm (List.cons_ne_nil _ _)

end


section
/-!
SUPPORT. The flow instructions (R222, R223).
-/

namespace Sys2Proof.Machine

variable {s : State} {c : Nat} {a : DWord} {x : Item} {g : Item → Item}

theorem exec_fadmit (s : State) (c : BitVec 8) (rd rs1 : BitVec 5) : exec (.fadmit c rd rs1 0) s =
    .next (s.sieveInsn c (useG [rs1.toNat] [rd.toNat]) false false
      ((s.admitItem c.toNat ((s.core c.toNat).gr rs1.toNat)).2.2.retireG c.toNat rd.toNat
        (statusWord (s.admitItem c.toNat ((s.core c.toNat).gr rs1.toNat)).1
          (s.admitItem c.toNat ((s.core c.toNat).gr rs1.toNat)).2.1))) := rfl

/-- An item joins an enabled flow with room, under the next sequence number (R222). -/
theorem State.admitItem_admits (ha : a.toNat < 16384) (hen : ((s.sieve (stratumOf c)).flow a.toNat).en = true)
    (hroom : ((s.sieve (stratumOf c)).flow a.toNat).items.length < 1024) (hcount : (s.sieve (stratumOf c)).itemCount < 65536)
    (hsq : s.curSquashed c = false) :
    let f := (s.sieve (stratumOf c)).flow a.toNat
    s.admitItem c a = (0, (f.head + BitVec.ofNat 16 f.items.length).toNat,
      (s.mapSieve (stratumOf c) fun v => v.setFlow a.toNat { f with
        items := f.items ++ [⟨.admitted, druseOf c, s.curOpenTok c, 0, none⟩] }).count (sieveEvent (stratumOf c) 10) 1) := by
  have hfull : ¬(1024 ≤ ((s.sieve (stratumOf c)).flow a.toNat).items.length ∨ 65536 ≤ (s.sieve (stratumOf c)).itemCount) := by
    omega
  simp [State.admitItem, Nat.not_le.mpr ha, hen, hfull, hsq]

theorem State.admitItem_off (ha : a.toNat < 16384) (hen : ((s.sieve (stratumOf c)).flow a.toNat).en = false) :
    s.admitItem c a = (2, 0, s) := by
  simp [State.admitItem, Nat.not_le.mpr ha, hen]

/-- The flow of an operand of FRELEASE and FVOID (R223). -/
def State.flowOf (s : State) (c : Nat) (a : DWord) : Flow := (s.sieve (stratumOf c)).flow (a.toNat % 2 ^ 14)

/-- The place of its item in that flow. -/
def State.placeOf (s : State) (c : Nat) (a : DWord) : Nat := (s.flowOf c a).index (BitVec.ofNat 16 (a.toNat / 2 ^ 16))

theorem Flow.settle_admitted {f : Flow} {seq : BitVec 16} (hx : f.items[f.index seq]? = some x) (hstate : x.state = .admitted)
    (g : Item → Item) : f.settle seq g = some { f with items := f.items.set (f.index seq) (g x) } := by
  simp [Flow.settle, hx, hstate]

theorem Flow.settle_other {f : Flow} {seq : BitVec 16} (hx : ∀ x, f.items[f.index seq]? = some x → x.state ≠ .admitted)
    (g : Item → Item) : f.settle seq g = none := by
  unfold Flow.settle
  split
  next x hsome => exact if_neg (hx x hsome)
  next => rfl

/-- An operand whose reserved bits are 0. -/
theorem State.settleItem_eq (hctl : s.ctlErr = []) (ha : a.toNat < 2 ^ 32) (hzero : a.toNat / 2 ^ 14 % 4 = 0) (ev : Nat)
    (g : Item → Item) : s.settleItem c a ev g =
      match (s.flowOf c a).settle (BitVec.ofNat 16 (a.toNat / 2 ^ 16)) g with
      | some f => (0, (s.mapSieve (stratumOf c) fun v => v.setFlow (a.toNat % 2 ^ 14) f).count (sieveEvent (stratumOf c) ev) 1)
      | none => (3, s) := by
  have hbits : bitsOf a.toNat 15 14 = 0 := by
    rw [bitsOf, Nat.shiftRight_eq_div_pow]
    exact hzero
  simp only [State.settleItem, State.ctlRead_of_noErr hctl, hbits, Nat.not_le.mpr ha, State.flowOf]
  rfl

theorem State.settleItem_admitted (hctl : s.ctlErr = []) (ha : a.toNat < 2 ^ 32) (hzero : a.toNat / 2 ^ 14 % 4 = 0)
    (hx : (s.flowOf c a).items[s.placeOf c a]? = some x) (hstate : x.state = .admitted) (ev : Nat) (g : Item → Item) :
    s.settleItem c a ev g = (0, (s.mapSieve (stratumOf c) fun v => v.setFlow (a.toNat % 2 ^ 14) { s.flowOf c a with
      items := (s.flowOf c a).items.set (s.placeOf c a) (g x) }).count (sieveEvent (stratumOf c) ev) 1) := by
  rw [State.settleItem_eq hctl ha hzero, Flow.settle_admitted hx hstate]
  rfl

theorem State.settleItem_other (hctl : s.ctlErr = []) (ha : a.toNat < 2 ^ 32) (hzero : a.toNat / 2 ^ 14 % 4 = 0)
    (hx : ∀ x, (s.flowOf c a).items[s.placeOf c a]? = some x → x.state ≠ .admitted) (ev : Nat) (g : Item → Item) :
    s.settleItem c a ev g = (3, s) := by
  rw [State.settleItem_eq hctl ha hzero, Flow.settle_other hx]

/-- A squash that made the item VOID in this very cycle (R231) was one of this tick (log entry 106). -/
theorem State.squashedNow_item (h : s.squashedNow c a = true) :
    ∃ x, (s.flowOf c a).items[s.placeOf c a]? = some x ∧ x.state = .void ∧ x.sqAt = some s.time.ticks := by
  rw [State.placeOf, State.flowOf]
  unfold State.squashedNow at h
  dsimp only at h
  split at h
  next x hx =>
    simp only [Bool.and_eq_true, decide_eq_true_eq] at h
    exact ⟨x, hx, h.1.1, h.1.2⟩
  next => cases h

section
variable {c : BitVec 8} {rd rs1 rs2 : BitVec 5}

/-- FRELEASE's change of its item (R223). -/
def Item.release (payload : DWord) (x : Item) : Item := { x with state := .released, payload := payload }

/-- The status that FRELEASE answers: NOT_ADMITTED may be SQUASHED (R231). -/
def State.releaseStatus (s : State) (c : Nat) (a : DWord) (st : Nat) : Nat := if st = 3 && s.squashedNow c a then 6 else st

theorem releaseStatus_ok (s : State) (c : Nat) (a : DWord) : s.releaseStatus c a 0 = 0 := rfl

theorem releaseStatus_notAdmitted (s : State) (c : Nat) (a : DWord) : statusWord (s.releaseStatus c a 3) 0 = 3 ∨
    statusWord (s.releaseStatus c a 3) 0 = 6 ∧
      ∃ x, (s.flowOf c a).items[s.placeOf c a]? = some x ∧ x.state = .void ∧ x.sqAt = some s.time.ticks := by
  cases hnow : s.squashedNow c a with
  | false => exact .inl (by rw [State.releaseStatus, hnow]; rfl)
  | true => exact .inr ⟨by rw [State.releaseStatus, hnow]; rfl, State.squashedNow_item hnow⟩

theorem exec_frelease (s : State) (c : BitVec 8) (rd rs1 rs2 : BitVec 5) : exec (.frelease c rd rs1 rs2) s =
    .next (s.sieveInsn c (useG [rs1.toNat, rs2.toNat] [rd.toNat]) false false
      ((s.settleItem c.toNat ((s.core c.toNat).gr rs1.toNat) 11 (Item.release ((s.core c.toNat).gr rs2.toNat))).2.retireG c.toNat
        rd.toNat (statusWord (s.releaseStatus c.toNat ((s.core c.toNat).gr rs1.toNat)
          (s.settleItem c.toNat ((s.core c.toNat).gr rs1.toNat) 11 (Item.release ((s.core c.toNat).gr rs2.toNat))).1) 0))) := rfl

/-- FVOID's change of its item (R223). -/
def Item.toVoid (x : Item) : Item := { x with state := .void }

theorem exec_fvoid (s : State) (c : BitVec 8) (rd rs1 : BitVec 5) : exec (.fvoid c rd rs1 0) s =
    .next (s.sieveInsn c (useG [rs1.toNat] [rd.toNat]) false false
      ((s.settleItem c.toNat ((s.core c.toNat).gr rs1.toNat) 12 Item.toVoid).2.retireG c.toNat rd.toNat
        (statusWord (s.settleItem c.toNat ((s.core c.toNat).gr rs1.toNat) 12 Item.toVoid).1 0))) := rfl

end

/-- One flow of the sieve has been replaced, and the status is OK. -/
theorem retireG_setFlow (s : State) (c rd u i ev : Nat) (f : Flow) (v : DWord) :
    let t := (((s.mapSieve u fun v => v.setFlow i f).count ev 1).retireG c rd v).dropPrefetch c
    onlySieve s t u ∧ gTaken s t c rd v ∧ (t.sieve u).flow i = f ∧ ∀ j, j ≠ i → (t.sieve u).flow j = (s.sieve u).flow j := by
  obtain ⟨honly, htaken, hsieve⟩ :=
    retireG_mapSieve (r := (s.mapSieve u fun v => v.setFlow i f).count ev 1) rfl c rd v
  refine ⟨honly, htaken, ?_, fun j hj => ?_⟩
  · rw [hsieve, Sieve.flow_setFlow]
  · rw [hsieve, Sieve.flow_setFlow_ne _ hj]

end Sys2Proof.Machine
end

section
/-!
PROOFS. FADMIT, FRELEASE and FVOID (O33).
-/

open Sys2Proof Sys2Proof.Machine

/-- Settles O33: what each instruction does is decided by its flow and item (`State.admitItem_admits`, `State.settleItem_admitted`
and the cases beside them); one that acts replaces its flow (`retireG_setFlow`), one that is turned away only answers. -/
theorem sieveFlows : Obligations.SieveFlows := by
  unfold Obligations.SieveFlows
  intro s c rd rs1 rs2 k u v a hready2 hready
  refine ⟨fun ha hen hroom hcount hsq => ⟨_, exec_fadmit s c rd rs1, ?admitted⟩,
    fun ha hen => ⟨_, exec_fadmit s c rd rs1, ?off⟩,
    fun ha hzero hctl => ⟨fun x hx hstate =>
        ⟨⟨_, exec_frelease s c rd rs1 rs2, ?release⟩, ⟨_, exec_fvoid s c rd rs1, ?void⟩⟩,
      fun hx => ⟨?releaseNone, ⟨_, exec_fvoid s c rd rs1, ?voidNone⟩⟩⟩⟩
  case admitted =>
    rw [State.sieveInsn_ready hready rfl, State.admitItem_admits ha hen hroom hcount hsq, statusWord_ok]
    exact retireG_setFlow s c.toNat rd.toNat u _ _ _ _
  case off =>
    rw [State.sieveInsn_ready hready rfl, State.admitItem_off ha hen, statusWord_plain]
    exact gServed_retireG ..
  case release =>
    rw [State.sieveInsn_ready hready2 rfl, State.settleItem_admitted hctl ha hzero hx hstate, releaseStatus_ok, statusWord_plain]
    exact retireG_setFlow s c.toNat rd.toNat u _ _ _ _
  case void =>
    rw [State.sieveInsn_ready hready rfl, State.settleItem_admitted hctl ha hzero hx hstate, statusWord_plain]
    exact retireG_setFlow s c.toNat rd.toNat u _ _ _ _
  case releaseNone =>
    refine ⟨_, _, exec_frelease s c rd rs1 rs2, ?_, releaseStatus_notAdmitted s c.toNat (k.gr rs1.toNat)⟩
    rw [State.sieveInsn_ready hready2 rfl, State.settleItem_other hctl ha hzero hx]
    exact gServed_retireG ..
  case voidNone =>
    rw [State.sieveInsn_ready hready rfl, State.settleItem_other hctl ha hzero hx, statusWord_plain]
    exact gServed_retireG ..

end


section
/-!
SUPPORT. Tokens: their notices, their changes of state, and the token instructions (R217, R226 to R229).
-/

namespace Sys2Proof.Machine

variable {s t r w : State} {n m i u tok : Nat} {x : TokState}

/-! ### Notices (R227) -/

/-- `n` notices have been made: each is in flight and outstanding, or waits for a transaction ID of its sieve. -/
def noticesMade (s t : State) (n : Nat) : Prop :=
  s.flight <+: t.flight ∧ s.outst <+: t.outst ∧ t.flight.length + s.outst.length = s.flight.length + t.outst.length ∧
  t.outst.length + t.idWait.length = s.outst.length + s.idWait.length + n

theorem noticesMade_zero (s : State) : noticesMade s s 0 := ⟨List.prefix_rfl, List.prefix_rfl, rfl, rfl⟩

theorem noticesMade.trans (hst : noticesMade s t n) (htw : noticesMade t w m) : noticesMade s w (n + m) := by
  obtain ⟨hflight, houtst, hboth, hwait⟩ := hst
  obtain ⟨hflight', houtst', hboth', hwait'⟩ := htw
  exact ⟨hflight.trans hflight', houtst.trans houtst', by omega, by omega⟩

/-- A request leaves its NI or waits there. -/
theorem noticesMade_launch (s : State) (q : Req) (p : Packet) : noticesMade s (s.launch q p) 1 := by
  unfold State.launch
  split
  · refine ⟨List.prefix_append .., List.prefix_append .., ?_, ?_⟩
    · simp [State.launchNow, State.send]
      omega
    · simp [State.launchNow, State.send]
      omega
  · refine ⟨List.prefix_rfl, List.prefix_rfl, rfl, ?_⟩
    simp
    omega

theorem noticesMade_foldl (u tok : Nat) (x : TokState) (l : List Nat) :
    ∀ s : State, noticesMade s (l.foldl (fun s r => s.notice u tok r x) s) l.length := by
  induction l with
  | nil => exact noticesMade_zero
  | cons r l ih =>
    intro s
    rw [List.length_cons, Nat.add_comm]
    exact (noticesMade_launch ..).trans (ih _)

theorem noticesSent_broadcast (s : State) (u tok : Nat) (x : TokState) : noticesSent s (s.broadcast u tok x) :=
  noticesMade_foldl u tok x (List.range 22) s

theorem launch_keeps (s : State) (q : Req) (p : Packet) : (s.launch q p).sieves = s.sieves ∧ (s.launch q p).cores = s.cores := by
  unfold State.launch
  split <;> exact ⟨rfl, rfl⟩

theorem broadcast_sieves (s : State) (u tok : Nat) (x : TokState) : (s.broadcast u tok x).sieves = s.sieves :=
  foldl_keeps State.sieves (fun s _ => (launch_keeps s _ _).1) _ s

theorem broadcast_cores (s : State) (u tok : Nat) (x : TokState) : (s.broadcast u tok x).cores = s.cores :=
  foldl_keeps State.cores (fun s _ => (launch_keeps s _ _).2) _ s

/-! ### A token changes (R226) -/

theorem toks_foldl_freeThread (l : List Nat) (v : Sieve) : (l.foldl Sieve.freeThread v).toks = v.toks :=
  foldl_keeps (g := Sieve.freeThread) Sieve.toks (fun _ _ => rfl) l v

/-- A token's work is cleared or squashed; the tokens stay as they are. -/
theorem tok_sieveNotice (s : State) (u tok : Nat) (x : TokState) (i : Nat) :
    ((s.sieveNotice u tok x).sieve u).tok i = (s.sieve u).tok i := by
  cases x with
  | free => rfl
  | open_ => rfl
  | committed =>
    rw [State.sieveNotice, State.mapSieve, State.sieve_setSieve]
    rfl
  | squashed =>
    have hsieve : (s.sieveNotice u tok .squashed).sieve u = (s.sieve u).squashWork tok s.time.ticks := State.sieve_setSieve ..
    rw [hsieve, Sieve.tok, Sieve.squashWork, Sieve.mapItems, toks_foldl_freeThread]
    rfl

/-- Neither cores nor requests and packets differ. -/
structure QuietChange (s t : State) : Prop where
  cores : t.cores = s.cores
  flight : t.flight = s.flight
  outst : t.outst = s.outst
  idWait : t.idWait = s.idWait

theorem quietChange_mapSieve (s : State) (u : Nat) (f : Sieve → Sieve) (i n : Nat) :
    QuietChange s ((s.mapSieve u f).count i n) := ⟨rfl, rfl, rfl, rfl⟩

theorem quietChange_sieveNotice (s : State) (u tok : Nat) (x : TokState) : QuietChange s (s.sieveNotice u tok x) := by
  cases x <;> exact ⟨rfl, rfl, rfl, rfl⟩

theorem QuietChange.trans (hsr : QuietChange s r) (hrt : QuietChange r t) : QuietChange s t :=
  ⟨hrt.cores.trans hsr.cores, hrt.flight.trans hsr.flight, hrt.outst.trans hsr.outst, hrt.idWait.trans hsr.idWait⟩

/-- A token has changed, its notices have been made, and no core has changed. -/
structure TokenChanged (s t : State) (u i : Nat) (x : Tok) : Prop where
  tok : (t.sieve u).tok i = x
  notices : noticesSent s t
  cores : t.cores = s.cores

/-- Notices go out once the sieve has acted. -/
theorem QuietChange.broadcast {k : Tok} (h : QuietChange s r) (htok : (r.sieve u).tok i = k) (tok : Nat) (x : TokState) :
    TokenChanged s (r.broadcast u tok x) u i k := by
  obtain ⟨hcores, hflight, houtst, hwait⟩ := h
  have hsent := noticesSent_broadcast r u tok x
  rw [noticesSent, hflight, houtst, hwait] at hsent
  exact ⟨by rw [State.sieve_congr (broadcast_sieves ..), htok], hsent, (broadcast_cores ..).trans hcores⟩

theorem tokResolve_changes (s : State) (u i : Nat) (x : TokState) :
    TokenChanged s (s.tokResolve u i x) u i { (s.sieve u).tok i with
      state := x
      settled := false
      acks := 0
      freeN := false } := by
  refine ((quietChange_mapSieve s u _ _ _).trans (quietChange_sieveNotice ..)).broadcast ?_ _ _
  rw [tok_sieveNotice, State.sieve_congr (State.count_sieves ..), State.mapSieve, State.sieve_setSieve, Sieve.tok_setTok]

theorem tokFree_changes (s : State) (u i : Nat) : TokenChanged s (s.tokFree u i) u i ⟨.free, false, 0, 0, true⟩ := by
  refine (quietChange_mapSieve s u _ _ _).broadcast ?_ _ _
  rw [State.sieve_congr (State.count_sieves ..), State.mapSieve, State.sieve_setSieve, Sieve.tok_setTok]

/-! ### The commands of a token (R226) -/

theorem State.tokCommit_open (hctl : s.ctlErr = []) (h : ((s.sieve u).tok i).state = .open_) :
    s.tokCommit u i = (0, s.tokResolve u i .committed) := by
  simp [State.tokCommit, State.ctlRead_of_noErr hctl, h]

theorem State.tokSquash_open (hctl : s.ctlErr = []) (h : ((s.sieve u).tok i).state = .open_) :
    s.tokSquash u i = (0, s.tokResolve u i .squashed) := by
  simp [State.tokSquash, State.ctlRead_of_noErr hctl, h]

theorem State.tokRelease_open (hctl : s.ctlErr = []) (h : ((s.sieve u).tok i).state = .open_) : s.tokRelease u i = (3, s) := by
  simp [State.tokRelease, State.ctlRead_of_noErr hctl, h]

theorem State.tokRelease_settled (hctl : s.ctlErr = [])
    (h : ((s.sieve u).tok i).state = .committed ∨ ((s.sieve u).tok i).state = .squashed)
    (hsettled : ((s.sieve u).tok i).settled = true) : s.tokRelease u i = (0, s.tokFree u i) := by
  obtain h | h := h <;> simp [State.tokRelease, State.ctlRead_of_noErr hctl, h, hsettled]

/-! ### Token instructions (R217) -/

/-- The core answers what it has done to a token. -/
theorem TokenChanged.retireG {k : Tok} (h : TokenChanged s r u i k) (c rd : Nat) (v : DWord) :
    let t := (r.retireG c rd v).dropPrefetch c
    gTaken s t c rd v ∧ (t.sieve u).tok i = k ∧ noticesSent s t := by
  obtain ⟨htok, hsent, hcores⟩ := h
  obtain ⟨-, -, -, heq, -⟩ := gServed_retireG r c rd v
  have hsieves : ((r.retireG c rd v).dropPrefetch c).sieves = r.sieves := by
    rw [State.dropPrefetch, sieves_mapCore, sieves_retireG]
  refine ⟨gTaken_retireG hcores c rd v, by rw [State.sieve_congr hsieves, htok], ?_⟩
  rwa [noticesSent, (congrArg State.flight heq :), (congrArg State.outst heq :), (congrArg State.idWait heq :)]

section
variable {c : BitVec 8} {rd rs1 : BitVec 5}

/-- The token of an operand. -/
def State.tokOf (s : State) (c : BitVec 8) (rs1 : BitVec 5) : Nat := ((s.core c.toNat).gr rs1.toNat).toNat % 2 ^ 15

/-- A token instruction of a ready core whose token's stop it reaches. -/
theorem State.tokInsn_open (hready : s.ready c.toNat (useG [rs1.toNat] [rd.toNat]))
    (hopen : s.closedOnWay true (nodeOfInit c.toNat) (nodeStratum (tokStratum (s.tokOf c rs1))) = false)
    {f : Nat → Nat → Nat × State} {st code : Nat} (hf : f (tokStratum (s.tokOf c rs1)) (s.tokOf c rs1 % 4096) = (st, r))
    (hcode : tokCode ((r.sieve (tokStratum (s.tokOf c rs1))).tok (s.tokOf c rs1 % 4096)).state = code) :
    s.tokInsn c rd rs1 0 f = (r.retireG c.toNat rd.toNat (statusWord st code)).dropPrefetch c.toNat := by
  unfold State.tokOf at hopen hf hcode
  simp only [State.tokInsn, hopen, hf, hcode]
  exact State.sieveInsn_ready hready rfl

/-- One that changes the token. -/
theorem tokInsn_changes (hready : s.ready c.toNat (useG [rs1.toNat] [rd.toNat]))
    (hopen : s.closedOnWay true (nodeOfInit c.toNat) (nodeStratum (tokStratum (s.tokOf c rs1))) = false)
    {f : Nat → Nat → Nat × State} {st : Nat} (hf : f (tokStratum (s.tokOf c rs1)) (s.tokOf c rs1 % 4096) = (st, r)) {k : Tok}
    (h : TokenChanged s r (tokStratum (s.tokOf c rs1)) (s.tokOf c rs1 % 4096) k) {code : Nat} (hcode : tokCode k.state = code) :
    let t := s.tokInsn c rd rs1 0 f
    gTaken s t c.toNat rd.toNat (statusWord st code) ∧
      (t.sieve (tokStratum (s.tokOf c rs1))).tok (s.tokOf c rs1 % 4096) = k ∧ noticesSent s t := by
  rw [State.tokInsn_open hready hopen hf ((congrArg (fun k => tokCode k.state) h.tok).trans hcode)]
  exact h.retireG ..

theorem exec_topen_free {n : Nat} (h : (s.sieve (stratumOf c.toNat)).freeTok = some n) : exec (.topen c rd 0 0) s =
    .next (s.sieveInsn c (useG [] [rd.toNat]) false false
      (((s.mapSieve (stratumOf c.toNat) fun v => v.setTok n ⟨.open_, false, druseOf c.toNat, (v.tok n).acks, false⟩).count
        (sieveEvent (stratumOf c.toNat) 6) 1).retireG c.toNat rd.toNat (statusWord 0 (stratumOf c.toNat * 4096 + n)))) := by
  change execTopen c rd 0 0 s = _
  simp only [execTopen, h]
  rfl

theorem exec_topen_full (h : (s.sieve (stratumOf c.toNat)).freeTok = none) : exec (.topen c rd 0 0) s =
    .next (s.sieveInsn c (useG [] [rd.toNat]) false false (s.retireG c.toNat rd.toNat (statusWord 2 0))) := by
  change execTopen c rd 0 0 s = _
  simp only [execTopen, h]
  rfl

theorem exec_tstate_open
    (hopen : s.closedOnWay true (nodeOfInit c.toNat) (nodeStratum (tokStratum (s.tokOf c rs1))) = false) :
    let k := (s.sieve (tokStratum (s.tokOf c rs1))).tok (s.tokOf c rs1 % 4096)
    exec (.tstate c rd rs1 0) s = .next (s.sieveInsn c (useG [rs1.toNat] [rd.toNat]) false false
      (s.retireG c.toNat rd.toNat (statusWord 0 (tokCode k.state + if k.settled then 4 else 0)))) := by
  change execTstate c rd rs1 0 s = _
  unfold State.tokOf at hopen ⊢
  simp only [execTstate, hopen]
  rfl

theorem exec_tattach (s : State) (c : BitVec 8) (rd rs1 : BitVec 5) : exec (.tattach c rd rs1 0) s =
    .next (s.sieveInsn c (useG [rs1.toNat] [rd.toNat]) false false
      ((s.attach c.toNat ((s.core c.toNat).gr rs1.toNat)).2.retireG c.toNat rd.toNat
        (statusWord (s.attach c.toNat ((s.core c.toNat).gr rs1.toNat)).1 0))) := rfl

end

theorem State.attach_noThread {c : Nat} (h : s.current c = none) (a : DWord) : s.attach c a = (2, s) := by
  simp [State.attach, h]

/-- The current thread takes an OPEN token. -/
theorem State.attach_open {c : Nat} {a : DWord} (hcur : s.current c = some n) (hbit : a.getLsbD 15 = true)
    (hview : s.tokView (stratumOf c) (a.toNat % 2 ^ 15) = .open_) :
    s.attach c a = (0, s.mapSieve (stratumOf c) fun v => v.setThread n { v.thread n with
      tok := some (BitVec.ofNat 15 (a.toNat % 2 ^ 15)) }) := by
  simp only [State.attach, hcur, hbit, hview]
  rfl

end Sys2Proof.Machine
end

section
/-!
PROOFS. The token instructions (O34).
-/

open Sys2Proof Sys2Proof.Machine

/-- Settles O34: TOPEN and TATTACH change one object of the core's sieve (`retireG_mapSieve`); TCOMMIT, TSQUASH and TFREE are the
commands of the token's sieve, which change the token and send its 22 notices (`tokResolve_changes`, `tokFree_changes`). -/
theorem sieveTokens : Obligations.SieveTokens := by
  unfold Obligations.SieveTokens
  intro s c rd rs1 k u tok w i x
  refine ⟨fun hready => ⟨fun n hfree => ⟨_, exec_topen_free hfree, ?opened⟩, fun hfull => ⟨_, exec_topen_full hfull, ?full⟩⟩,
    fun hready hctl hopen => ⟨fun hstate => ⟨⟨_, rfl, ?commit⟩, ⟨_, rfl, ?squash⟩, ⟨_, rfl, ?notFreed⟩⟩,
      fun hstate hsettled => ⟨_, rfl, ?freed⟩, ⟨_, exec_tstate_open hopen, ?state⟩⟩,
    fun hready => ⟨fun hcur => ⟨_, exec_tattach s c rd rs1, ?noThread⟩,
      fun n hcur hbit hview => ⟨_, exec_tattach s c rd rs1, ?attached⟩⟩⟩
  case opened =>
    rw [State.sieveInsn_ready hready rfl, statusWord_ok]
    obtain ⟨honly, htaken, hsieve⟩ := retireG_mapSieve (s := s) (u := u)
      (r := (s.mapSieve u fun v => v.setTok n ⟨.open_, false, druseOf c.toNat, (v.tok n).acks, false⟩).count (sieveEvent u 6) 1)
      rfl c.toNat rd.toNat (BitVec.ofNat 64 ((u * 4096 + n) * 2 ^ 16))
    refine ⟨honly, htaken, ?_, fun j hj => ?_⟩
    · rw [hsieve, Sieve.tok_setTok]
    · rw [hsieve, Sieve.tok_setTok_ne _ hj]
  case full =>
    rw [State.sieveInsn_ready hready rfl, statusWord_plain]
    exact gServed_retireG ..
  case commit =>
    rw [← statusWord_ok]
    exact tokInsn_changes hready hopen (State.tokCommit_open hctl hstate) (tokResolve_changes ..) rfl
  case squash =>
    rw [← statusWord_ok]
    exact tokInsn_changes hready hopen (State.tokSquash_open hctl hstate) (tokResolve_changes ..) rfl
  case notFreed =>
    rw [State.tokInsn_open hready hopen (State.tokRelease_open hctl hstate) (code := 1) (congrArg tokCode hstate)]
    exact gServed_retireG ..
  case freed =>
    have hfreed := tokInsn_changes hready hopen (State.tokRelease_settled hctl hstate hsettled) (tokFree_changes ..)
      (code := 0) rfl
    rwa [statusWord_plain] at hfreed
  case state =>
    rw [State.sieveInsn_ready hready rfl, statusWord_ok]
    exact gServed_retireG ..
  case noThread =>
    rw [State.sieveInsn_ready hready rfl, State.attach_noThread hcur, statusWord_plain]
    exact gServed_retireG ..
  case attached =>
    rw [State.sieveInsn_ready hready rfl, State.attach_open hcur hbit hview, statusWord_plain]
    obtain ⟨honly, htaken, hsieve⟩ := retireG_uncounted s u (fun v => v.setThread n { v.thread n with
      tok := some (BitVec.ofNat 15 tok) }) c.toNat rd.toNat (BitVec.ofNat 64 0)
    exact ⟨honly, htaken, by rw [hsieve, Sieve.thread_setThread]⟩

end


section
/-!
SUPPORT. A hardware push leaves the sieves alone (R239).
-/

namespace Sys2Proof.Machine

variable {s : State} {cached ns : Bool}

theorem ite_sieves {t r : State} {p : Prop} [Decidable p] (ht : t.sieves = s.sieves) (hr : r.sieves = s.sieves) :
    (if p then t else r).sieves = s.sieves := by
  split
  · exact ht
  · exact hr

/-! ### Memory -/

theorem writeBytes_sieves (s : State) (a : Nat) (l : List Byte) : (s.writeBytes a l).sieves = s.sieves := by
  rw [State.writeBytes_eq]

theorem dcEvict_sieves (s : State) (line : Nat) : (s.dcEvict line).sieves = s.sieves := rfl

theorem dcFetch_sieves (s : State) (line : Nat) : (s.dcFetch line).sieves = s.sieves := by
  unfold State.dcFetch
  extract_lets s1 s2
  have hs1 : s1.sieves = s.sieves := ite_sieves rfl rfl
  exact ite_sieves rfl hs1

theorem hostAsk_sieves (s : State) (q : HostReq) (line : Nat) : (s.hostAsk q line).sieves = s.sieves := rfl

theorem hostAskWrite_sieves (s : State) (h n : Nat) (cached ns : Bool) : (s.hostAskWrite h n cached ns).sieves = s.sieves :=
  foldl_keeps State.sieves (fun _ _ => ite_sieves (ite_sieves rfl (hostAsk_sieves ..)) (hostAsk_sieves ..)) _ s

theorem hostWriteByte_sieves (s : State) (h : Nat) (b : Byte) (cached ns fetch : Bool) :
    (s.hostWriteByte h b cached ns fetch).sieves = s.sieves := by
  unfold State.hostWriteByte
  extract_lets s1 _ s2
  have hs1 : s1.sieves = s.sieves := ite_sieves (dcFetch_sieves ..) rfl
  have hs2 : s2.sieves = s.sieves := ite_sieves (dcEvict_sieves ..) rfl
  exact ite_sieves hs1 hs2

theorem hostPutBytes_sieves (l : List Byte) : ∀ (s : State) (h : Nat) (fetch : Bool),
    (s.hostPutBytes h cached ns fetch l).sieves = s.sieves := by
  induction l with
  | nil => exact fun _ _ _ => rfl
  | cons b l ih => exact fun s h fetch => (ih _ _ _).trans (hostWriteByte_sieves ..)

theorem hostWriteBytes_sieves (s : State) (h : Nat) (cached ns : Bool) (l : List Byte) :
    (s.hostWriteBytes h cached ns l).sieves = s.sieves :=
  (hostPutBytes_sieves ..).trans (ite_sieves rfl (s.count_sieves ..))

theorem biOne_sieves (s : State) (inv : Bool) (line : Nat) : (s.biOne inv line).sieves = s.sieves := by
  unfold State.biOne
  extract_lets s1 s2
  have hs1 : s1.sieves = s.sieves := rfl
  have hs2 : s2.sieves = s.sieves := ite_sieves ((writeBytes_sieves ..).trans hs1) hs1
  exact ite_sieves hs2 hs2

theorem engPut_sieves (s : State) (a : Nat) (l : List Byte) (ns : Bool) : (s.engPut a l ns).sieves = s.sieves := by
  rw [State.engPut]
  refine ite_sieves ?_ ((writeBytes_sieves ..).trans (foldl_keeps State.sieves (fun t x => biOne_sieves t true x) _ s))
  split
  · exact (hostWriteBytes_sieves ..).trans (hostAskWrite_sieves ..)
  · rfl

theorem rangeMiss_sieves (s : State) (a : Nat) : (s.rangeMiss a).sieves = s.sieves := ite_sieves (s.flag_sieves _) rfl

theorem engWrite_sieves (s : State) (init a : Nat) (l : List Byte) (ns : Bool) : (s.engWrite init a l ns).sieves = s.sieves :=
  foldl_keeps State.sieves (fun _ _ => ite_sieves (engPut_sieves ..) (rangeMiss_sieves ..)) _ s

/-! ### Queues -/

theorem putBit_sieves (s : State) (f : RF) (i : Nat) (b : Bool) : (s.putBit f i b).sieves = s.sieves :=
  ite_sieves (s.put_sieves _ _) (s.put_sieves _ _)

theorem msixNow_sieves (s : State) (v : Nat) : (s.msixNow v).sieves = s.sieves :=
  ite_sieves rfl (ite_sieves rfl (putBit_sieves ..))

theorem msix_sieves (s : State) (v : Nat) : (s.msix v).sieves = s.sieves :=
  ite_sieves rfl (ite_sieves (msixNow_sieves ..) rfl)

theorem sendEvent_sieves (s : State) (init strata id word : Nat) (tok : Option (BitVec 15)) :
    (s.sendEvent init strata id word tok).sieves = s.sieves := by
  rw [sendEvent_frame]

theorem qNotify_sieves (s : State) (i : Nat) (high : Bool) : (s.qNotify i high).sieves = s.sieves := by
  unfold State.qNotify
  extract_lets q s1 s2
  have hs1 : s1.sieves = s.sieves := rfl
  have hs2 : s2.sieves = s.sieves := ite_sieves ((sendEvent_sieves ..).trans hs1) hs1
  exact ite_sieves ((msix_sieves ..).trans hs2) hs2

theorem qTest_sieves (s : State) (i : Nat) : (s.qTest i).sieves = s.sieves :=
  ite_sieves rfl (ite_sieves (qNotify_sieves ..) (ite_sieves (qNotify_sieves ..) rfl))

theorem report_sieves (s : State) (r : Report) : (s.report r).sieves = s.sieves := ite_sieves rfl (State.put_sieves ..)

theorem metaErr_sieves (s : State) (i : Nat) : (s.metaErr i).sieves = s.sieves := report_sieves _ _

theorem fateEffect_sieves (s : State) (i : Nat) (x : Fate) : (s.fateEffect i x).sieves = s.sieves := by
  cases x with
  | live tok => cases tok <;> rfl
  | metaErr => exact metaErr_sieves ..
  | badToken => rfl
  | squashed => rfl

theorem hwPush_sieves (hctl : s.ctlErr = []) (i : Nat) (payload : List Byte) (tag : Nat) (tok : Option (BitVec 15))
    (stamp : Option Word) : (s.hwPush i payload tag tok stamp).sieves = s.sieves := by
  simp only [State.hwPush, State.ctlRead_of_noErr hctl]
  refine ite_sieves rfl (ite_sieves rfl ?_)
  rw [qTest_sieves, State.setQ_sieves]
  have hwritten (r : State) (h : r.sieves = s.sieves) (f : Fate) : (r.fateEffect i f).sieves = s.sieves :=
    (fateEffect_sieves ..).trans h
  refine ite_sieves ((metaErr_sieves ..).trans (hwritten _ ?_ _)) (hwritten _ ?_ _) <;>
    rw [engWrite_sieves, engWrite_sieves, State.count_sieves]

end Sys2Proof.Machine
end

section
/-!
SUPPORT. The sieve's own commands (R212, R221 to R228).
-/

namespace Sys2Proof.Machine

variable {s : State} {u i c : Nat} {x : Item} {l : List Item}

/-! ### Token commands (R226, R228) -/

theorem exec_commit (s : State) (u : BitVec 3) : exec (.commit u) s = .next (s.tokCmd u.toNat 1) := rfl

theorem exec_squash (s : State) (u : BitVec 3) : exec (.squash u) s = .next (s.tokCmd u.toNat 2) := rfl

theorem exec_free (s : State) (u : BitVec 3) : exec (.free u) s = .next (s.tokCmd u.toNat 4) := rfl

theorem tokCmd_commit (s : State) (u : Nat) : s.tokCmd u 1 = (s.tokCommit u (s.get (F.SIEVE_TOK_SEL_INDEX u))).2 := rfl

theorem tokCmd_squash (s : State) (u : Nat) : s.tokCmd u 2 = (s.tokSquash u (s.get (F.SIEVE_TOK_SEL_INDEX u))).2 := rfl

theorem tokCmd_free (s : State) (u : Nat) : s.tokCmd u 4 = (s.tokRelease u (s.get (F.SIEVE_TOK_SEL_INDEX u))).2 := rfl

theorem exec_settleIntervalEnd (s : State) (u : BitVec 3) (n : BitVec 12) :
    exec (.settleIntervalEnd u n) s = .next (s.tokSettle u.toNat n.toNat) := rfl

theorem State.tokSettle_acked (hstate : ((s.sieve u).tok i).state = .committed ∨ ((s.sieve u).tok i).state = .squashed)
    (hacks : ((s.sieve u).tok i).acks = 22) :
    s.tokSettle u i = s.setSieve u ((s.sieve u).setTok i { (s.sieve u).tok i with settled := true }) := by
  simp [State.tokSettle, hstate, hacks, State.mapSieve]

/-! ### Flows (R223 to R225) -/

theorem flowStall_countedBy (u : Nat) : (F.SIEVE_STAT_FLOW_STALL u).CountedBy (F.SIEVE_STAT_FLOW_STALL_REP u) :=
  ⟨rfl, rfl, rfl, rfl, rfl⟩

/-- A sieve's stall event is flagged and counted. -/
def State.stallNoted (s : State) (u : Nat) : State :=
  (s.flagRep (F.SIEVE_STAT_FLOW_STALL u) (F.SIEVE_STAT_FLOW_STALL_REP u)).count (sieveEvent u 13) 1

/-- The head of an enabled flow has stayed ADMITTED (R224). -/
theorem State.flowStall_admitted (hctl : s.ctlErr = []) (hitems : ((s.sieve u).flow i).items = x :: l)
    (hen : ((s.sieve u).flow i).en = true) (hage : ((s.sieve u).flow i).age ≠ 0) (hstate : x.state = .admitted)
    (hnew : ((s.sieve u).flow i).stalled = false) : s.flowStall u i =
      ((s.mapSieve u fun v => v.setFlow i { (s.sieve u).flow i with stalled := true }).stallNoted u).sendEvent (sieveInit u)
        (s.get (F.SIEVE_CFG_STALL_STRATA u)) (s.get (F.SIEVE_CFG_STALL_EVT u)) (i + ((s.sieve u).flow i).head.toNat * 2 ^ 16)
        none := by
  have hdue : (((s.sieve u).flow i).en && decide (((s.sieve u).flow i).age ≠ 0) && decide (x.state = .admitted) &&
      !((s.sieve u).flow i).stalled) = true := by simp [hen, hage, hstate, hnew]
  simp only [State.flowStall, State.ctlRead_of_noErr hctl, hitems, State.stallNoted]
  rw [if_pos hdue]

theorem sendEvent_flight (s : State) (init strata id word : Nat) (tok : Option (BitVec 15)) :
    s.flight <+: (s.sendEvent init strata id word tok).flight := by
  unfold State.sendEvent State.sendEventFrom
  refine List.foldlRecOn (motive := fun t : State => s.flight <+: t.flight) _ _ List.prefix_rfl fun t ht n _ => ?_
  split
  · exact ht.trans (List.prefix_append ..)
  · exact ht

theorem sendEvent_mem (s : State) (init strata id word : Nat) (tok : Option (BitVec 15)) :
    (s.sendEvent init strata id word tok).mem = s.mem := by
  rw [sendEvent_frame]

theorem sendEvent_regs (s : State) (init strata id word : Nat) (tok : Option (BitVec 15)) :
    (s.sendEvent init strata id word tok).regs = s.regs := sendEventFrom_regs s

theorem stallNoted_leaves (s : State) (u : Nat) :
    (s.stallNoted u).sieves = s.sieves ∧ (s.stallNoted u).on (F.SIEVE_STAT_FLOW_STALL u) = true ∧
      (s.stallNoted u).flight = s.flight ∧ (s.stallNoted u).mem = s.mem := by
  unfold State.stallNoted
  refine ⟨?_, ?_, ?_, ?_⟩
  · rw [State.count_sieves, State.flagRep_sieves]
  · rw [State.on_congr (State.count_regs ..), State.on_flagRep (flowStall_countedBy u)]
  · rw [State.count_flight, State.flagRep_flight]
  · rw [State.count_mem, State.flagRep_mem]

/-- A stall event changes its flow, is noted and sent. -/
theorem stallEvent_leaves (s : State) (u i : Nat) (f : Flow) (strata id word : Nat) :
    let t := ((s.mapSieve u fun v => v.setFlow i f).stallNoted u).sendEvent (sieveInit u) strata id word none
    (t.sieve u).flow i = f ∧ t.on (F.SIEVE_STAT_FLOW_STALL u) = true ∧ s.flight <+: t.flight ∧ t.mem = s.mem := by
  obtain ⟨hsieves, hon, hflight, hmem⟩ := stallNoted_leaves (s.mapSieve u fun v => v.setFlow i f) u
  refine ⟨?_, ?_, ?_, ?_⟩
  · rw [State.sieve_congr (sendEvent_sieves ..), State.sieve_congr hsieves, State.mapSieve, State.sieve_setSieve,
      Sieve.flow_setFlow]
  · rw [State.on_congr (sendEvent_regs ..), hon]
  · have hsent := sendEvent_flight ((s.mapSieve u fun v => v.setFlow i f).stallNoted u) (sieveInit u) strata id word none
    rwa [hflight] at hsent
  · rw [sendEvent_mem, hmem, State.mapSieve, State.setSieve_mem]

theorem Flow.passVoid_of_head {f : Flow} (hitems : f.items = x :: l) (hstate : x.state ≠ .void) : f.passVoid = f := by
  simp [Flow.passVoid, hitems, hstate]

/-- A RELEASED head is written to a queue with room (R223). -/
theorem State.flowAdvance_released (hctl : s.ctlErr = []) (hitems : ((s.sieve u).flow i).items = x :: l)
    (hstate : x.state = .released) (hen : ((s.sieve u).flow i).en = true)
    (hroom : s.pushOk ((s.sieve u).flow i).outq = true) : ∃ tok,
    s.flowAdvance u i = ((s.mapSieve u fun v => v.setFlow i ((s.sieve u).flow i)).mapSieve u fun v => v.setFlow i
      { (s.sieve u).flow i with
        head := ((s.sieve u).flow i).head + 1
        items := l
        stalled := false }).hwPush ((s.sieve u).flow i).outq (flowEntry i ((s.sieve u).flow i).head x)
          ((s.sieve u).flow i).head.toNat tok none := by
  have hpass : ((s.sieve u).flow i).passVoid = (s.sieve u).flow i :=
    Flow.passVoid_of_head hitems (by rw [hstate]; decide)
  have hroom' : (s.mapSieve u fun v => v.setFlow i ((s.sieve u).flow i)).pushOk ((s.sieve u).flow i).outq = true := hroom
  simp only [State.flowAdvance, State.ctlRead_of_noErr hctl, hpass, hitems]
  rw [if_pos (by rw [hstate, hen, hroom']; rfl)]
  exact ⟨_, rfl⟩

/-- A write of EN = 1 enables a flow whose queue has entries of 16 bytes (R225). -/
theorem State.flowCfg_enables {w : Word} (hw : w.getLsbD 18 = true)
    (hen : ((s.sieve u).flow (s.get (F.SIEVE_FLOW_SEL_FLOW u))).en = false) (hsize : (s.q (w.toNat % 2 ^ 18)).esize = 0) :
    s.flowCfg u w = s.mapSieve u fun v => v.setFlow (s.get (F.SIEVE_FLOW_SEL_FLOW u))
      ⟨w.toNat % 2 ^ 18, true, w.toNat / 2 ^ 20, 0, [], false⟩ := by
  have hbit : w.toNat.testBit 18 = true := by rwa [BitVec.testBit_toNat]
  have houtq : bitsOf w.toNat 17 0 = w.toNat % 2 ^ 18 := rfl
  have hage : bitsOf w.toNat 31 20 = w.toNat / 2 ^ 20 := by
    have := w.isLt
    rw [bitsOf, Nat.shiftRight_eq_div_pow, Nat.mod_eq_of_lt (by omega)]
  have hlow : (s.q (w.toNat % 262144)).esize = 0 := hsize
  simp [State.flowCfg, hbit, hen, houtq, hage, hlow]

theorem exec_flowStall (s : State) (u : BitVec 3) (f : BitVec 14) :
    exec (.flowStall u f) s = .next (s.flowStall u.toNat f.toNat) := rfl

theorem exec_flowHeadAdvance (s : State) (u : BitVec 3) (f : BitVec 14) :
    exec (.flowHeadAdvance u f) s = .next (s.flowAdvance u.toNat f.toNat) := rfl

theorem exec_flowEnable (s : State) (u : BitVec 3) (w : Word) : exec (.flowEnable u w) s = .next (s.flowCfg u.toNat w) := rfl

/-! ### Idle gating and waiting requests (R212, R221) -/

theorem exec_idleGate (h : s.mayGate u = true) {v : BitVec 3} (hv : v.toNat = u) :
    exec (.idleGate v) s = .next (s.setSieve u { s.sieve u with gated := true }) := by
  subst hv
  exact congrArg Host.Outcome.next (if_pos h)

theorem exec_tdispatchServed (s : State) (u : BitVec 3) : exec (.tdispatchServed u) s = .next (s.serve u.toNat) := rfl

theorem State.serve_waiting {n : Nat} (hask : (s.sieve u).asking.find? (fun c =>
      ((s.sieve u).best (druseOf c)).isSome && !s.held c && decide ((s.core c).run = .waiting)) = some c)
    (hbest : (s.sieve u).best (druseOf c) = some n) : s.serve u = s.dispatch c (s.core c).waitRd n := by
  simp only [State.serve, hask, hbest]

end Sys2Proof.Machine
end

section
/-!
PROOFS. The sieve's own commands (O36).
-/

open Sys2Proof Sys2Proof.Machine

/-- Settles O36: a token command is the outcome of R226 for the token's state, a flow command's change is the one of
`State.flowStall_admitted`, `State.flowAdvance_released` or `State.flowCfg_enables`, and a push leaves the sieves alone
(`hwPush_sieves`). -/
theorem sieveCommands : Obligations.SieveCommands := by
  unfold Obligations.SieveCommands
  intro s u hctl v i
  refine ⟨fun hstate => ⟨?commit, ?squash, ?notFreed⟩, fun hstate hsettled => ?freed, fun n hstate hacks => ?settled,
    fun hgate => exec_idleGate hgate rfl,
    fun f x l hitems hen hage hstate hnew => ⟨_, exec_flowStall s u f, ?stall⟩,
    fun f x l hitems hstate hen hroom => ⟨_, exec_flowHeadAdvance s u f, ?advance⟩,
    fun w hw hen hsize => ⟨_, exec_flowEnable s u w, ?enable⟩, fun c n hask hbest => ?served⟩
  case commit => rw [exec_commit, tokCmd_commit, State.tokCommit_open hctl hstate]
  case squash => rw [exec_squash, tokCmd_squash, State.tokSquash_open hctl hstate]
  case notFreed => rw [exec_free, tokCmd_free, State.tokRelease_open hctl hstate]
  case freed => rw [exec_free, tokCmd_free, State.tokRelease_settled hctl hstate hsettled]
  case settled => rw [exec_settleIntervalEnd, State.tokSettle_acked hstate hacks]
  case served => rw [exec_tdispatchServed, State.serve_waiting hask hbest]
  case stall =>
    rw [State.flowStall_admitted hctl hitems hen hage hstate hnew]
    exact stallEvent_leaves ..
  case advance =>
    obtain ⟨tok, heq⟩ := State.flowAdvance_released hctl hitems hstate hen hroom
    rw [heq, State.sieve_congr (hwPush_sieves _ ..)]
    · rw [State.mapSieve, State.sieve_setSieve, Sieve.flow_setFlow]
    · exact hctl
  case enable =>
    rw [State.flowCfg_enables hw hen hsize]
    exact ⟨by rw [State.mapSieve, State.sieve_setSieve, Sieve.flow_setFlow], rfl⟩

end


section
/-!
SUPPORT. Numbers as little-endian bytes, and parts of a range of memory.
-/

namespace Sys2Proof.Machine

variable {s : State} {a m n o i q : Nat} {l1 l2 : List Byte}

theorem ofBytes_toBytes (n : Nat) : ∀ x, ofBytes (toBytes n x) = x % 2 ^ (8 * n) := by
  induction n with
  | zero => exact fun x => (Nat.mod_one x).symm
  | succ n ih =>
    intro x
    have hpow : 2 ^ (8 * (n + 1)) = 256 * 2 ^ (8 * n) := by rw [Nat.mul_succ, Nat.pow_add, Nat.mul_comm]
    have hcons : toBytes (n + 1) x = BitVec.ofNat 8 x :: toBytes n (x >>> 8) := by
      rw [Nat.add_comm, ← toBytes_append]
      rfl
    calc ofBytes (toBytes (n + 1) x) = x % 256 + 256 * ofBytes (toBytes n (x >>> 8)) := by rw [hcons]; rfl
      _ = x % 256 + 256 * (x / 256 % 2 ^ (8 * n)) := by rw [ih, Nat.shiftRight_eq_div_pow]
      _ = x % 2 ^ (8 * (n + 1)) := by rw [hpow, Nat.mod_mul]

/-- The sum of the powers of two that a test accepts below `n`. -/
def maskOf (p : Nat → Bool) (n : Nat) : Nat := ((List.range n).filter p).foldl (fun x r => x + 2 ^ r) 0

theorem maskOf_succ (p : Nat → Bool) (n : Nat) : maskOf p (n + 1) = 2 ^ n * (if p n then 1 else 0) + maskOf p n := by
  rw [maskOf, List.range_succ, List.filter_append, List.foldl_append, ← maskOf]
  cases hp : p n <;> simp [hp, Nat.add_comm]

theorem maskOf_lt (p : Nat → Bool) (n : Nat) : maskOf p n < 2 ^ n := by
  induction n with
  | zero => exact Nat.one_pos
  | succ n ih =>
    rw [maskOf_succ, Nat.pow_succ]
    split <;> omega

theorem testBit_maskOf (p : Nat → Bool) {n r : Nat} (h : r < n) : (maskOf p n).testBit r = p r := by
  induction n with
  | zero => exact absurd h (Nat.not_lt_zero r)
  | succ n ih =>
    rw [maskOf_succ, Nat.testBit_two_pow_mul_add _ (maskOf_lt p n)]
    obtain hlt | rfl := Nat.lt_succ_iff_lt_or_eq.mp h
    · rw [if_pos hlt, ih hlt]
    · rw [if_neg (Nat.lt_irrefl r), Nat.sub_self]
      cases p r <;> rfl

/-- Part `i` of parts of one length. -/
theorem take_drop_flatMap_range {f : Nat → List Byte} (hf : ∀ i, (f i).length = q) (hi : i < n) (rest : List Byte) :
    (((List.range n).flatMap f ++ rest).drop (q * i)).take q = f i := by
  have hlen := length_flatMap_range hf n
  have hend : i * q + q ≤ n * q := by
    rw [← Nat.succ_mul]
    exact Nat.mul_le_mul_right q hi
  refine List.ext_getElem? fun b => ?_
  by_cases hb : b < q
  · rw [List.getElem?_take_of_lt hb, List.getElem?_drop, Nat.mul_comm, List.getElem?_append_left (by omega),
      getElem?_flatMap_range hf hi hb]
  · rw [List.getElem?_take_eq_none (Nat.not_lt.mp hb), List.getElem?_eq_none (by rw [hf]; omega)]

theorem bytesAt_length (s : State) (a n : Nat) : (s.bytesAt a n).length = n := by simp [State.bytesAt]

/-- A part of a range. -/
theorem bytesAt_part (h : o + n ≤ m) : s.bytesAt (a + o) n = ((s.bytesAt a m).drop o).take n := by
  refine List.ext_getElem (by simp [State.bytesAt]; omega) fun i _ _ => ?_
  simp [State.bytesAt, Nat.add_assoc]

theorem bytesAt_append_left (h : s.bytesAt a m = l1 ++ l2) (hn : l1.length = n) : s.bytesAt a n = l1 := by
  subst hn
  have hlen := congrArg List.length h
  rw [bytesAt_length, List.length_append] at hlen
  have hpart := bytesAt_part (s := s) (a := a) (m := m) (o := 0) (n := l1.length) (by omega)
  rw [h, List.drop_zero, List.take_left] at hpart
  exact hpart

theorem bytesAt_append_right (h : s.bytesAt a (o + n) = l1 ++ l2) (ho : l1.length = o) : s.bytesAt (a + o) n = l2 := by
  subst ho
  have hlen := congrArg List.length h
  rw [bytesAt_length, List.length_append] at hlen
  have hpart := bytesAt_part (s := s) (a := a) (Nat.le_refl (l1.length + n))
  rwa [h, List.drop_left, List.take_of_length_le (by omega)] at hpart

theorem slice_bytesAt (h : o + n ≤ m) : slice (s.bytesAt a m) o n = s.bytesAt (a + o) n := by
  refine List.map_congr_left fun i hi => ?_
  have hi := List.mem_range.mp hi
  rw [List.getD_eq_getElem _ _ (by rw [bytesAt_length]; omega)]
  simp [State.bytesAt, Nat.add_assoc]

theorem fieldAt_bytesAt (h : o + n ≤ m) : fieldAt (s.bytesAt a m) o n = ofBytes (s.bytesAt (a + o) n) := by
  rw [fieldAt, slice_bytesAt h]

theorem badAt_of_badIn (h : s.badIn a n = []) (hi : i < n) : s.badAt (a + i) = false := by
  rw [State.badIn, List.filter_eq_nil_iff] at h
  exact Bool.eq_false_iff.mpr (h _ (List.mem_map_of_mem (List.mem_range.mpr hi)))

theorem badIn_part (h : s.badIn a m = []) (ho : o + n ≤ m) : s.badIn (a + o) n = [] :=
  State.badIn_eq_nil fun i hi => by
    rw [Nat.add_assoc]
    exact badAt_of_badIn h (by omega)

end Sys2Proof.Machine
end

section
/-!
SUPPORT. An engine's write of whole lines of device memory, whose snoops stay in those lines (R340, R341).
-/

namespace Sys2Proof.Machine

variable {s t w : State} {a n x line : Nat} {l : List Byte}

/-- What a write of a range of memory leaves outside it: the bytes, the free values of unwritten ones, and the cores. -/
structure WrittenIn (s t : State) (a n : Nat) : Prop where
  mem : ∀ x, x < a ∨ a + n ≤ x → mapFind? t.mem x = mapFind? s.mem x
  freeCtr : t.freeCtr = s.freeCtr
  cores : t.cores = s.cores

theorem WrittenIn.refl (s : State) (a n : Nat) : WrittenIn s s a n := ⟨fun _ _ => rfl, rfl, rfl⟩

theorem WrittenIn.trans (hst : WrittenIn s t a n) (htw : WrittenIn t w a n) : WrittenIn s w a n :=
  ⟨fun x hx => (htw.mem x hx).trans (hst.mem x hx), htw.freeCtr.trans hst.freeCtr, htw.cores.trans hst.cores⟩

theorem WrittenIn.byteAt (h : WrittenIn s t a n) (hx : x < a ∨ a + n ≤ x) : t.byteAt x = s.byteAt x := by
  rw [State.byteAt, h.mem x hx, h.freeCtr, State.byteAt]

theorem writtenIn_writeBytes (s : State) {b : Nat} (hlo : a ≤ b) (hhi : b + l.length ≤ a + n) :
    WrittenIn s (s.writeBytes b l) a n := by
  refine ⟨fun x hx => State.find_writeBytes_out l s b x (by omega), State.writeBytes_freeCtr .., ?_⟩
  rw [State.writeBytes_eq]

/-- A snoop of a line writes that line alone. -/
theorem writtenIn_biOne (s : State) (hlo : a ≤ 64 * line) (hhi : 64 * line + 64 ≤ a + n) (inv : Bool) :
    WrittenIn s (s.biOne inv line) a n := by
  unfold State.biOne
  extract_lets s1 s2
  have hs1 : WrittenIn s s1 a n := ⟨fun _ _ => rfl, rfl, rfl⟩
  have hs2 : WrittenIn s s2 a n := by
    unfold s2
    split
    · exact hs1.trans (writtenIn_writeBytes s1 hlo (by simpa using hhi))
    · exact hs1
  split
  · exact ⟨hs2.mem, hs2.freeCtr, hs2.cores⟩
  · exact hs2

theorem writtenIn_snooped (s : State) (ha : a % 64 = 0) (hn : n % 64 = 0) (inv : Bool) : WrittenIn s (s.snooped a n inv) a n := by
  refine List.foldlRecOn (motive := fun t : State => WrittenIn s t a n) _ _ (.refl s a n) fun t ht line hline => ?_
  have htracked := (List.mem_filter.mp hline).2
  simp only [Bool.and_eq_true, decide_eq_true_eq] at htracked
  obtain ⟨⟨hlo, hhi⟩, hpos⟩ := htracked
  exact ht.trans (writtenIn_biOne t (by omega) (by omega) inv)

theorem engPut_lines (hdevice : isHostAddr a = false) (ha : a % 64 = 0) (hl : l.length % 64 = 0) :
    (s.engPut a l false).bytesAt a l.length = l ∧ WrittenIn s (s.engPut a l false) a l.length := by
  have heq : s.engPut a l false = (s.snooped a l.length true).writeBytes a l := by
    rw [State.engPut, hdevice, if_neg Bool.false_ne_true]
  rw [heq]
  exact ⟨State.bytesAt_writeBytes .., (writtenIn_snooped s ha hl true).trans (writtenIn_writeBytes _ (Nat.le_refl a) (Nat.le_refl _))⟩

end Sys2Proof.Machine
end

section
/-!
SUPPORT. CTXSV and CTXLD on a block in the own data memory (R219, R220).
-/

namespace Sys2Proof.Machine

variable {s t : State} {k : Core} {c a n r : Nat} {l : List Byte}

/-! ### The block (R219) -/

/-- The poison bits of a block. -/
def Core.poisMask (k : Core) : Nat := maskOf (fun r => (mapFind? k.pois r).isSome) 32

/-- The word that holds TPC and TSTAT.PMODE. -/
def Core.tpcWord (k : Core) : Nat := (k.crv crTpc).toNat % 2 ^ 16 + ((k.crv crTstat).toNat / 2 % 2) * 2 ^ 16

/-- What a block holds behind VRESUME. -/
def Core.ctxTail (k : Core) : List Byte := toBytes 1 ((k.crv crVsat).toNat % 2) ++ toBytes 43 0

/-- The g registers of a block; g0's place holds its 0. -/
def Core.ctxRegs (k : Core) : List Byte := (List.range 32).flatMap fun r => toBytes 8 (k.gr r).toNat

theorem Core.ctxBytes_eq (k : Core) : k.ctxBytes = k.ctxRegs ++ (toBytes 4 k.poisMask ++ (toBytes 4 k.tpcWord ++
    (toBytes 8 (k.crv crVmode).toNat ++ (toBytes 2 k.vcount ++ (toBytes 2 k.vresume ++ k.ctxTail))))) := by
  have hregs : k.ctxRegs = toBytes 8 0 ++ (List.range 31).flatMap fun r => toBytes 8 (k.gr (r + 1)).toNat := by
    rw [Core.ctxRegs, List.range_succ_eq_map, List.flatMap_cons, List.flatMap_map]
    rfl
  rw [hregs]
  simp only [Core.ctxBytes, Core.ctxTail, Core.tpcWord, Core.poisMask, maskOf, List.append_assoc]

theorem Core.ctxRegs_length (k : Core) : k.ctxRegs.length = 256 := length_flatMap_range (fun _ => toBytes_length 8 _) 32

theorem Core.ctxBytes_length (k : Core) : k.ctxBytes.length = 320 := by
  simp [Core.ctxBytes_eq, Core.ctxRegs_length, toBytes_length, Core.ctxTail]

/-- Memory that holds a core's block. -/
theorem ctxBlock_fields (h : s.bytesAt a 320 = k.ctxBytes) :
    (∀ r, 1 ≤ r → r ≤ 31 → s.bytesAt (a + 8 * r) 8 = toBytes 8 (k.gr r).toNat) ∧
    (∀ r, r < 32 → (ofBytes (s.bytesAt (a + 256) 4)).testBit r = (mapFind? k.pois r).isSome) ∧
    s.bytesAt (a + 260) 2 = toBytes 2 ((k.crv crTpc).toNat % 2 ^ 16) ∧
    s.bytesAt (a + 264) 8 = toBytes 8 (k.crv crVmode).toNat ∧
    s.bytesAt (a + 272) 2 = toBytes 2 k.vcount ∧ s.bytesAt (a + 274) 2 = toBytes 2 k.vresume := by
  rw [k.ctxBytes_eq] at h
  have hpois : s.bytesAt (a + 256) 64 = _ := bytesAt_append_right h k.ctxRegs_length
  have htpc : s.bytesAt (a + 260) 60 = _ := bytesAt_append_right (o := 4) (n := 60) hpois (toBytes_length 4 _)
  have hmode : s.bytesAt (a + 264) 56 = _ := bytesAt_append_right (o := 4) (n := 56) htpc (toBytes_length 4 _)
  have hcount : s.bytesAt (a + 272) 48 = _ := bytesAt_append_right (o := 8) (n := 48) hmode (toBytes_length 8 _)
  have hresume : s.bytesAt (a + 274) 46 = _ := bytesAt_append_right (o := 2) (n := 46) hcount (toBytes_length 2 _)
  refine ⟨fun r _ hr => ?_, fun r hr => ?_, ?_, bytesAt_append_left hmode (toBytes_length 8 _),
    bytesAt_append_left hcount (toBytes_length 2 _), bytesAt_append_left hresume (toBytes_length 2 _)⟩
  · rw [bytesAt_part (m := 320) (by omega), h, Core.ctxRegs, take_drop_flatMap_range (fun _ => toBytes_length 8 _) (by omega)]
  · rw [bytesAt_append_left hpois (toBytes_length 4 _), ofBytes_toBytes, Core.poisMask, Nat.mod_eq_of_lt (maskOf_lt _ 32)]
    exact testBit_maskOf _ hr
  · rw [← toBytes_append 2 2, List.append_assoc] at htpc
    rw [bytesAt_append_left htpc (toBytes_length 2 _), ← toBytes_mod, Core.tpcWord, Nat.add_mul_mod_self_right, Nat.mod_mod]

/-! ### CTXSV (R220) -/

theorem ownData_block (hlo : coreWin c ≤ a) (hhi : a + 320 ≤ coreWin c + 0x40000) (hn : n < 320) : ownData c (a + n) = true := by
  rw [ownData, decide_eq_true (by omega), decide_eq_true (by omega)]
  rfl

/-- Every granule of the block is answered DONE, and a read of it finds its parity good. -/
theorem ctxFail_own (hlo : coreWin c ≤ a) (hhi : a + 320 ≤ coreWin c + 0x40000) {write : Bool}
    (hgood : write = true ∨ s.badIn a 320 = []) : s.ctxFail c a write = none := by
  rw [State.ctxFail, List.find?_eq_none]
  intro e he
  obtain ⟨i, hi, rfl⟩ := List.mem_map.mp he
  have hi := List.mem_range.mp hi
  have hresp : s.vResp c (a + 64 * i) write = rDone := if_pos (ownData_block hlo hhi (by omega))
  have hread : (!write && !(s.badIn (a + 64 * i) 64).isEmpty) = false := by
    obtain hwrite | hgood := hgood
    · rw [hwrite]
      rfl
    · rw [badIn_part hgood (by omega)]
      exact Bool.and_false _
  simp [hresp, hread]

theorem ctxAddrOk_own (ha : a % 64 = 0) (hlo : coreWin c ≤ a) (hhi : a + 320 ≤ coreWin c + 0x40000) : ctxAddrOk c a = true := by
  rw [ctxAddrOk, decide_eq_true ha, decide_eq_true hlo, decide_eq_true hhi]
  rfl

/-- A context instruction of a ready core in kernel mode with an address that R219 allows and nothing older under way. -/
theorem State.ctxInsn_ready {c : BitVec 8} {rs1 : BitVec 5} (hready : s.ready c.toNat (useG [rs1.toNat] []))
    (htask : (s.core c.toNat).task = false) (haddr : ctxAddrOk c.toNat ((s.core c.toNat).gr rs1.toNat).toNat = true)
    (hfres : (s.core c.toNat).fres = []) (hstores : s.storesOut c.toNat = 0) (act : Nat → State) :
    s.ctxInsn c 0 rs1 0 act = (act ((s.core c.toNat).gr rs1.toNat).toNat).dropPrefetch c.toNat := by
  have hwait : (!(s.core c.toNat).fres.isEmpty || decide (s.storesOut c.toNat ≠ 0)) = false := by rw [hfres, hstores]; rfl
  rw [State.ctxInsn, htask, haddr, hwait]
  exact State.runInsn_ready hready _ _ _

theorem State.ctxSave_done (h : s.ctxFail c a true = none) : s.ctxSave c a =
    ((s.engPut a (s.core c).ctxBytes false).mapCore c fun k => k.dropPf a 320).retire c := by
  -- the function is unfolded as a constant: unfolding it in place makes the kernel evaluate the matched term
  obtain ⟨f, hf⟩ : ∃ f, f = @State.ctxSave := ⟨_, rfl⟩
  rw [← hf]
  delta State.ctxSave at hf
  subst hf
  beta_reduce
  rw [h]

/-- What CTXSV leaves: the block, every byte outside it, and the core but for its pc and prefetch buffer. -/
theorem ctxSave_leaves (ha : a % 64 = 0) (hc : c < 256) (hlo : coreWin c ≤ a) (hhi : a + 320 ≤ coreWin c + 0x40000) :
    let t := (s.ctxSave c a).dropPrefetch c
    t.bytesAt a 320 = (s.core c).ctxBytes ∧ (∀ x, x < a ∨ a + 320 ≤ x → t.byteAt x = s.byteAt x) ∧
      t.core c = { s.core c with
        pf := []
        pc := (s.core c).pc + 4
        done := (s.core c).done + 1 } := by
  have hdevice : isHostAddr a = false :=
    isHostAddr_core (tgtOf_eq_core_iff.mpr ⟨(Nat.add_sub_cancel' hlo).symm, hc, by omega⟩)
  have hlen := (s.core c).ctxBytes_length
  obtain ⟨hbytes, hwritten⟩ := engPut_lines (s := s) hdevice ha (l := (s.core c).ctxBytes) (by rw [hlen])
  rw [hlen] at hbytes hwritten
  obtain ⟨w, hw⟩ : ∃ w, w = s.engPut a (s.core c).ctxBytes false := ⟨_, rfl⟩
  rw [← hw] at hbytes hwritten
  rw [State.ctxSave_done (ctxFail_own hlo hhi (.inl rfl)), ← hw]
  obtain ⟨heq, -⟩ : onlyCore w (((w.mapCore c fun k => k.dropPf a 320).retire c).dropPrefetch c) c :=
    (((onlyCore.refl w c).mapCore _).retire).mapCore _
  have hbyte : ∀ x, (((w.mapCore c fun k => k.dropPf a 320).retire c).dropPrefetch c).byteAt x = w.byteAt x := fun x => by
    rw [State.byteAt, (congrArg State.mem heq :), (congrArg State.freeCtr heq :), State.byteAt]
  refine ⟨?_, fun x hx => (hbyte x).trans (hwritten.byteAt hx), ?_⟩
  · rw [State.bytesAt]
    simp only [hbyte]
    exact hbytes
  · rw [State.core_dropPrefetch, State.retire, State.core_retireTo, State.core_mapCore, State.core_congr hwritten.cores]
    rfl

/-! ### CTXLD (R112, R220) -/

/-- Only control registers differ. -/
def Core.sameButCr (k j : Core) : Prop := j = { k with cr := j.cr }

theorem Core.sameButCr.refl (k : Core) : k.sameButCr k := rfl

theorem Core.sameButCr.setCr {j : Core} (h : k.sameButCr j) (n : Nat) (v : DWord) : k.sameButCr (j.setCr n v) := by
  unfold Core.sameButCr at h ⊢
  rw [h]
  rfl

theorem Core.sameButCr.writeCr {j : Core} (h : k.sameButCr j) (n : Nat) (v : DWord) : k.sameButCr (j.writeCr n v) := by
  unfold Core.writeCr
  split
  · exact (h.setCr _ _).setCr _ _
  · split
    · exact h.setCr _ _
    · exact h.setCr _ _

/-- The control registers take a block's values, VMODE first. -/
def Core.ctxModes (k : Core) (l : List Byte) : Core :=
  let k1 := (k.writeVmode (BitVec.ofNat 64 (fieldAt l 264 8))).writeVcount (BitVec.ofNat 64 (fieldAt l 272 2 % 2 ^ 10))
  let k2 := (k1.writeCr crVresume (BitVec.ofNat 64 (fieldAt l 274 2))).writeCr crVsat (BitVec.ofNat 64 (fieldAt l 276 1))
  (k2.writeCr crTpc (BitVec.ofNat 64 (fieldAt l 260 2))).setCr crTstat
    ((k2.crv crTstat &&& ~~~ 2) ||| (if (fieldAt l 262 1).testBit 0 then 2 else 0))

theorem Core.sameButCr_ctxModes (k : Core) (l : List Byte) : k.sameButCr (k.ctxModes l) := by
  have hmode (v : DWord) : k.sameButCr (k.writeVmode v) := ((Core.sameButCr.refl k).setCr _ _).setCr _ _
  exact ((((hmode _).setCr _ _).writeCr _ _).writeCr _ _ |>.writeCr _ _).setCr _ _

/-- A g register takes a block's value, poisoned where the block says so. -/
def Core.loadReg (a : Nat) (l : List Byte) (k : Core) (r : Nat) : Core :=
  if (fieldAt l 256 4).testBit (r + 1) then
    k.setPoisoned (r + 1) (BitVec.ofNat 64 (fieldAt l (8 * (r + 1)) 8)) (BitVec.ofNat 40 (a + 8 * (r + 1)))
  else k.setG (r + 1) (BitVec.ofNat 64 (fieldAt l (8 * (r + 1)) 8))

theorem Core.ctxLoad_eq (k : Core) (a : Nat) (l : List Byte) :
    k.ctxLoad a l = (List.range 31).foldl (Core.loadReg a l) (k.ctxModes l) := rfl

/-- Only the g registers, their poison and what waits for them differ. -/
def Core.sameButG (k j : Core) : Prop :=
  j = { k with
    g := j.g
    pois := j.pois
    pend := j.pend }

theorem Core.sameButG_loadReg (a : Nat) (l : List Byte) {j : Core} (h : k.sameButG j) (r : Nat) :
    k.sameButG (Core.loadReg a l j r) := by
  unfold Core.sameButG at h ⊢
  unfold Core.loadReg
  split
  · rw [Core.setPoisoned, if_neg (Nat.succ_ne_zero r), h]
  · rw [Core.setG, if_neg (Nat.succ_ne_zero r), h]

theorem Core.sameButG_loadRegs (k : Core) (a : Nat) (l : List Byte) (rs : List Nat) :
    k.sameButG (rs.foldl (Core.loadReg a l) k) :=
  List.foldlRecOn (motive := fun j => k.sameButG j) rs _ rfl fun _ hj r _ => Core.sameButG_loadReg a l hj r

theorem Core.g_loadReg (a : Nat) (l : List Byte) (k : Core) (r : Nat) :
    (Core.loadReg a l k r).g = mapSet k.g 0 (r + 1) (BitVec.ofNat 64 (fieldAt l (8 * (r + 1)) 8)) := by
  unfold Core.loadReg
  split
  · rw [Core.setPoisoned, if_neg (Nat.succ_ne_zero r)]
  · rw [Core.setG, if_neg (Nat.succ_ne_zero r)]

theorem Core.gr_loadReg (a : Nat) (l : List Byte) (k : Core) (r x : Nat) : (Core.loadReg a l k r).gr (x + 1) =
    if x = r then BitVec.ofNat 64 (fieldAt l (8 * (r + 1)) 8) else k.gr (x + 1) := by
  rw [Core.gr, if_neg (Nat.succ_ne_zero x), Core.g_loadReg, Core.gr, if_neg (Nat.succ_ne_zero x)]
  split
  next h => rw [h, mapGet_set_same]
  next h => rw [mapGet_set_ne _ _ _ _ (by omega)]

theorem Core.pois_loadReg (a : Nat) (l : List Byte) (k : Core) (r x : Nat) : mapFind? (Core.loadReg a l k r).pois (x + 1) =
    if x = r then (if (fieldAt l 256 4).testBit (r + 1) then some (BitVec.ofNat 40 (a + 8 * (r + 1))) else none)
    else mapFind? k.pois (x + 1) := by
  unfold Core.loadReg
  split
  · rw [Core.setPoisoned, if_neg (Nat.succ_ne_zero r)]
    split
    next h => rw [h, mapFind_ins_same]
    next h => rw [mapFind_ins_ne _ _ (by omega)]
  · rw [Core.setG, if_neg (Nat.succ_ne_zero r)]
    split
    next h => rw [h, mapFind_erase_same]
    next h => rw [mapFind_erase_ne _ (by omega)]

/-- Each register that is loaded holds its value and its poison. -/
theorem Core.loadRegs_reg (k : Core) (a : Nat) (l : List Byte) {n x : Nat} (hx : x < n) :
    let j := (List.range n).foldl (Core.loadReg a l) k
    j.gr (x + 1) = BitVec.ofNat 64 (fieldAt l (8 * (x + 1)) 8) ∧ mapFind? j.pois (x + 1) =
      if (fieldAt l 256 4).testBit (x + 1) then some (BitVec.ofNat 40 (a + 8 * (x + 1))) else none := by
  induction n with
  | zero => exact absurd hx (Nat.not_lt_zero x)
  | succ n ih =>
    rw [List.range_succ, List.foldl_append, List.foldl_cons, List.foldl_nil]
    dsimp only
    rw [Core.gr_loadReg, Core.pois_loadReg]
    obtain hlt | rfl := Nat.lt_succ_iff_lt_or_eq.mp hx
    · rw [if_neg (Nat.ne_of_lt hlt), if_neg (Nat.ne_of_lt hlt)]
      exact ih hlt
    · rw [if_pos rfl, if_pos rfl]
      exact ⟨rfl, rfl⟩

/-- Only the g registers, what belongs to them, and control registers differ. -/
theorem Core.ctxLoad_keeps (k : Core) (a : Nat) (l : List Byte) :
    (k.ctxLoad a l).v = k.v ∧ (k.ctxLoad a l).m = k.m ∧ (k.ctxLoad a l).pc = k.pc := by
  have hmodes : k.ctxModes l = { k with cr := (k.ctxModes l).cr } := k.sameButCr_ctxModes l
  have hregs : k.ctxLoad a l = { k.ctxModes l with
    g := (k.ctxLoad a l).g
    pois := (k.ctxLoad a l).pois
    pend := (k.ctxLoad a l).pend } := by
    rw [k.ctxLoad_eq]
    exact (k.ctxModes l).sameButG_loadRegs a l _
  rw [hregs, hmodes]
  exact ⟨rfl, rfl, rfl⟩

theorem State.ctxRestore_done (h : s.ctxFail c a false = none) : s.ctxRestore c a =
    (s.fresh.mapCore c fun k => k.ctxLoad a (s.bytesAt a 320)).retire c := by
  -- the function is unfolded as a constant: unfolding it in place makes the kernel evaluate the matched term
  obtain ⟨f, hf⟩ : ∃ f, f = @State.ctxRestore := ⟨_, rfl⟩
  rw [← hf]
  delta State.ctxRestore at hf
  subst hf
  beta_reduce
  rw [h]

/-- What CTXLD leaves: the core with the block's context, past the instruction, and memory and registers. -/
theorem ctxRestore_leaves (hlo : coreWin c ≤ a) (hhi : a + 320 ≤ coreWin c + 0x40000) (hgood : s.badIn a 320 = []) :
    let t := (s.ctxRestore c a).dropPrefetch c
    t.core c = { (s.core c).ctxLoad a (s.bytesAt a 320) with
        pf := []
        pc := (s.core c).pc + 4
        done := ((s.core c).ctxLoad a (s.bytesAt a 320)).done + 1 } ∧ t.mem = s.mem ∧ t.regs = s.regs := by
  rw [State.ctxRestore_done (ctxFail_own hlo hhi (.inr hgood))]
  obtain ⟨heq, -⟩ : onlyCore s.fresh (((s.fresh.mapCore c fun k => k.ctxLoad a (s.bytesAt a 320)).retire c).dropPrefetch c) c :=
    (((onlyCore.refl s.fresh c).mapCore _).retire).mapCore _
  refine ⟨?_, (congrArg State.mem heq :), (congrArg State.regs heq :)⟩
  obtain ⟨-, -, hpc⟩ := (s.core c).ctxLoad_keeps a (s.bytesAt a 320)
  rw [State.core_dropPrefetch, State.retire, State.core_retireTo, State.core_mapCore, State.core_congr (s.fresh_cores), hpc]

end Sys2Proof.Machine
end

section
/-!
PROOFS. CTXSV and CTXLD (O35).
-/

open Sys2Proof Sys2Proof.Machine

/-- Settles O35: every granule of the block is the core's own and good (`ctxFail_own`), so CTXSV writes the whole block of R219
(`ctxSave_leaves`, `ctxBlock_fields`), and CTXLD takes every item of it (`ctxRestore_leaves`, `Core.loadRegs_reg`). -/
theorem contextBlocks : Obligations.ContextBlocks := by
  unfold Obligations.ContextBlocks
  intro s c rs1 k a hready htask halign hlo hhi hfres hstores
  have haddr : ctxAddrOk c.toNat a = true := ctxAddrOk_own halign hlo hhi
  refine ⟨⟨_, rfl, ?save⟩, fun hgood => ⟨_, rfl, ?load⟩⟩
  case save =>
    rw [State.ctxInsn_ready hready htask haddr hfres hstores]
    obtain ⟨hblock, hout, hcore⟩ := ctxSave_leaves halign c.isLt hlo hhi
    obtain ⟨hregs, hpois, htpc, hmode, hcount, hresume⟩ := ctxBlock_fields hblock
    exact ⟨hregs, hpois, htpc, hmode, hcount, hresume, hout, by rw [hcore], by rw [hcore], by rw [hcore]⟩
  case load =>
    rw [State.ctxInsn_ready hready htask haddr hfres hstores]
    obtain ⟨hcore, hmem, hregs⟩ := ctxRestore_leaves hlo hhi hgood
    obtain ⟨hv, hm, -⟩ := k.ctxLoad_keeps a (s.bytesAt a 320)
    have hreg (r : Nat) (hlow : 1 ≤ r) (hhigh : r ≤ 31) :
        (k.ctxLoad a (s.bytesAt a 320)).gr r = BitVec.ofNat 64 (ofBytes (s.bytesAt (a + 8 * r) 8)) ∧
          mapFind? (k.ctxLoad a (s.bytesAt a 320)).pois r =
            if (ofBytes (s.bytesAt (a + 256) 4)).testBit r then some (BitVec.ofNat 40 (a + 8 * r)) else none := by
      obtain ⟨x, rfl⟩ := Nat.exists_eq_add_of_le' hlow
      rw [k.ctxLoad_eq, ← fieldAt_bytesAt (m := 320) (by omega), ← fieldAt_bytesAt (m := 320) (by omega)]
      exact (k.ctxModes (s.bytesAt a 320)).loadRegs_reg a _ (by omega)
    refine ⟨fun r hlow hhigh => ?_, fun r hlow hhigh => ?_, ?_, ?_, ?_, hmem, hregs⟩
    · rw [hcore]
      exact (hreg r hlow hhigh).1
    · rw [hcore]
      exact (hreg r hlow hhigh).2
    · rw [hcore]
      exact hv
    · rw [hcore]
      exact hm
    · rw [hcore]

end

section
/-!
SUPPORT. The registers of a mover channel (R251), and what the ends, fetches and halts of a channel leave (R252, R257, R258).
-/

namespace Sys2Proof.Machine

variable {s t : State} {k ch a resp : Nat} {e f : RF} {d : List Byte} {write : Bool}

/-! ### Fields of a channel -/

/-- Registers of one channel at different offsets. -/
theorem chanReg_ne {x y : Nat} (h : x ≠ y) : x + 65536 * k + 64 * ch ≠ y + 65536 * k + 64 * ch := by omega

/-- The registers of a channel lie in block 3 of register space. -/
theorem chanReg_block {x : Nat} (h : chanOk k ch = true) (hx : x / 64 = 0x3001000 / 64) :
    (x + 65536 * k + 64 * ch) / 2 ^ 24 = 3 := by
  simp only [chanOk, Bool.or_eq_true, decide_eq_true_eq] at h
  omega

/-- Two fields without a common bit. -/
def RF.Apart (e f : RF) : Prop := e.a ≠ f.a ∨ e.Beside f

theorem State.get_put_of_apart (h : e.Apart f) (s : State) (x : Nat) : (s.put f x).get e = s.get e := by
  obtain haddr | hbeside := h
  · exact s.get_put_ne f e x haddr
  · exact State.get_put_beside e f hbeside s x

theorem State.get_put_fits (f : RF) (h : (f.lo + f.w).ble 32 = true) (s : State) (x : Nat) : (s.put f x).get f = x % 2 ^ f.w :=
  s.get_put f x (Nat.le_of_ble_eq_true h)

theorem chState_setChState {x : Nat} (h : x < 8) (s : State) (k ch : Nat) : (s.setChState k ch x).chState k ch = x :=
  (State.get_put_fits (F.MOVER_CH_STAT_STATE k ch) rfl s x).trans (Nat.mod_eq_of_lt h)

theorem State.chan_setChan (s : State) (k ch : Nat) (c : Chan) : (s.setChan k ch c).chan k ch = c := mapGet_set_same _ _ _ _

theorem State.chan_congr (h : t.chans = s.chans) (k ch : Nat) : t.chan k ch = s.chan k ch := by
  rw [State.chan, h, State.chan]

/-! ### Acknowledgements (R227) -/

/-- Acknowledgements change what is owed and what is in flight only. -/
theorem flushOwed_frame (s : State) (due : Owed → Bool) : s.flushOwed due = { s with
    flight := (s.flushOwed due).flight
    owed := (s.flushOwed due).owed } := by
  unfold State.flushOwed
  refine List.foldlRecOn (motive := fun t : State => t = { s with flight := t.flight, owed := t.owed }) _ _ rfl fun t ht o _ => ?_
  rw [ht]
  rfl

theorem flushOwed_flight (s : State) (due : Owed → Bool) : s.flight <+: (s.flushOwed due).flight := by
  unfold State.flushOwed
  exact List.foldlRecOn (motive := fun t : State => s.flight <+: t.flight) _ _ List.prefix_rfl fun t ht o _ =>
    ht.trans (List.prefix_append ..)

theorem moverAcks_regs (s : State) (k : Nat) : (s.moverAcks k).regs = s.regs := by rw [State.moverAcks, flushOwed_frame]

theorem moverAcks_mem (s : State) (k : Nat) : (s.moverAcks k).mem = s.mem := by rw [State.moverAcks, flushOwed_frame]

theorem moverAcks_chans (s : State) (k : Nat) : (s.moverAcks k).chans = s.chans := by rw [State.moverAcks, flushOwed_frame]

theorem moverAcks_flight (h : t.flight = s.flight) (k : Nat) : s.flight <+: (t.moverAcks k).flight := h ▸ flushOwed_flight t _

/-! ### Boundaries (R252, R258) -/

theorem chStop_regs (s : State) (k ch : Nat) : (s.chStop k ch).regs = (s.setChState k ch chIdle).regs := moverAcks_regs _ k

theorem chStop_leaves (s : State) (k ch : Nat) : (s.chStop k ch).chState k ch = chIdle ∧
    ((s.chStop k ch).chan k ch).phase = .none ∧ (s.chStop k ch).mem = s.mem ∧ s.flight <+: (s.chStop k ch).flight := by
  have hchans : (s.chStop k ch).chans =
      (s.setChan k ch { s.chan k ch with phase := .none, desc := [], squash := false }).chans := moverAcks_chans _ k
  refine ⟨(State.get_congr (chStop_regs s k ch) _).trans (chState_setChState (by decide) s k ch), ?_, moverAcks_mem _ k,
    moverAcks_flight (t := (s.setChan k ch _).setChState k ch chIdle) rfl k⟩
  rw [State.chan_congr hchans, State.chan_setChan]

theorem chFetch_regs (s : State) (k ch a : Nat) : (s.chFetch k ch a).regs = ((s.setChCur k ch a).setChState k ch chRun).regs :=
  moverAcks_regs _ k

theorem chCur_setChCur (ha : a < 2 ^ 40) (s : State) (k ch : Nat) : (s.setChCur k ch a).chCur k ch = a := by
  have hlow : (s.setChCur k ch a).get (F.MOVER_CH_CUR_LO_CUR k ch) = a % 2 ^ 32 % 2 ^ 32 :=
    (State.get_put_of_apart (.inl (chanReg_ne (by decide))) _ _).trans
      (State.get_put_fits (F.MOVER_CH_CUR_LO_CUR k ch) rfl s _)
  have hhigh : (s.setChCur k ch a).get (F.MOVER_CH_CUR_HI_CUR_HI k ch) = a / 2 ^ 32 % 2 ^ 8 :=
    State.get_put_fits (F.MOVER_CH_CUR_HI_CUR_HI k ch) rfl _ _
  rw [State.chCur, hlow, hhigh]
  omega

theorem chCur_setChState (s : State) (k ch x : Nat) : (s.setChState k ch x).chCur k ch = s.chCur k ch := by
  rw [State.chCur, State.setChState, State.get_put_of_apart (.inl (chanReg_ne (by decide))),
    State.get_put_of_apart (.inl (chanReg_ne (by decide))), State.chCur]

theorem chCur_congr (h : t.regs = s.regs) (k ch : Nat) : t.chCur k ch = s.chCur k ch := by
  rw [State.chCur, State.get_congr h, State.get_congr h, State.chCur]

theorem chFetch_leaves (ha : a < 2 ^ 40) (s : State) (k ch : Nat) : (s.chFetch k ch a).chState k ch = chRun ∧
    ((s.chFetch k ch a).chan k ch).phase = .fetch ∧ (s.chFetch k ch a).mem = s.mem ∧ (s.chFetch k ch a).chCur k ch = a := by
  have hregs := chFetch_regs s k ch a
  have hchans : (s.chFetch k ch a).chans =
      (s.setChan k ch { s.chan k ch with phase := .fetch, desc := [], squash := false }).chans := moverAcks_chans _ k
  refine ⟨(State.get_congr hregs _).trans (chState_setChState (by decide) _ k ch), ?_, moverAcks_mem _ k, ?_⟩
  · rw [State.chan_congr hchans, State.chan_setChan]
  · rw [chCur_congr hregs, chCur_setChState, chCur_setChCur ha]

/-- The fields that a boundary writes. -/
def boundaryFields (k ch : Nat) : List RF := [F.MOVER_CH_STAT_STATE k ch, F.MOVER_CH_STAT_SHADOW_VALID k ch,
  F.MOVER_CH_STAT_SHADOW_SEQ k ch, F.MOVER_CH_CUR_LO_CUR k ch, F.MOVER_CH_CUR_HI_CUR_HI k ch]

theorem chDone_boundary : ∀ f ∈ boundaryFields k ch, (F.MOVER_CH_DONE_DONE k ch).Apart f := by
  simp only [boundaryFields, List.forall_mem_cons]
  exact ⟨.inl (chanReg_ne (by decide)), .inl (chanReg_ne (by decide)), .inl (chanReg_ne (by decide)),
    .inl (chanReg_ne (by decide)), .inl (chanReg_ne (by decide)), nofun⟩

theorem badSeen_boundary : ∀ f ∈ boundaryFields k ch, (F.MOVER_CH_STAT_BAD_SEEN k ch).Apart f := by
  simp only [boundaryFields, List.forall_mem_cons]
  exact ⟨.inr ⟨rfl, rfl⟩, .inr ⟨rfl, rfl⟩, .inr ⟨rfl, rfl⟩, .inl (chanReg_ne (by decide)),
    .inl (chanReg_ne (by decide)), nofun⟩

theorem chBoundary_get (h : ∀ f ∈ boundaryFields k ch, e.Apart f) (s : State) (d : List Byte) :
    (s.chBoundary k ch d).get e = s.get e := by
  simp only [boundaryFields, List.forall_mem_cons] at h
  obtain ⟨hstate, hvalid, hseq, hlow, hhigh, -⟩ := h
  have hstop (t : State) : (t.chStop k ch).get e = t.get e :=
    (State.get_congr (chStop_regs t k ch) e).trans (State.get_put_of_apart hstate _ _)
  have hfetch (t : State) (a : Nat) : (t.chFetch k ch a).get e = t.get e :=
    (State.get_congr (chFetch_regs t k ch a) e).trans <| (State.get_put_of_apart hstate _ _).trans <|
      (State.get_put_of_apart hhigh _ _).trans (State.get_put_of_apart hlow _ _)
  unfold State.chBoundary
  split
  · exact hstop s
  split
  · split
    · exact (hfetch _ _).trans ((State.get_put_of_apart hseq _ _).trans (State.get_put_of_apart hvalid _ _))
    · exact hstop s
  · exact hfetch s _

theorem chBoundary_last (hlast : dLast d = true) (hshadow : s.on (F.MOVER_CH_STAT_SHADOW_VALID k ch) = false) :
    s.chBoundary k ch d = s.chStop k ch := by
  rw [State.chBoundary, hlast, hshadow, if_pos rfl, if_neg Bool.false_ne_true, ite_self]

/-! ### The end of a descriptor (R250) -/

/-- A descriptor's end before its boundary: it is counted, and its completion is sent. -/
def State.chCompleted (s : State) (k ch status resp : Nat) (write : Bool) : State :=
  let d := (s.chan k ch).desc
  let s1 := (s.put (F.MOVER_CH_DONE_DONE k ch) (s.get (F.MOVER_CH_DONE_DONE k ch) + 1)).count (moverEvent k 0) 1
  let s2 := if status = 6 then s1.count (moverEvent k 5) 1 else s1
  if dCpl d then
    s2.sendEvent (moverInit k) (dStrata d) (dEvent d)
      (status + resp * 2 ^ 8 + (if write then 2 ^ 11 else 0) + dTag d * 2 ^ 16)
      (if dTokV d then some (BitVec.ofNat 15 (dTok d)) else none)
  else s2

theorem chEnd_eq (s : State) (k ch status resp : Nat) (write : Bool) :
    s.chEnd k ch status resp write = (s.chCompleted k ch status resp write).chBoundary k ch (s.chan k ch).desc := rfl

theorem chCompleted_leaves (s : State) (k ch status resp : Nat) (write : Bool) :
    let t := s.chCompleted k ch status resp write
    t.regs = (s.put (F.MOVER_CH_DONE_DONE k ch) (s.get (F.MOVER_CH_DONE_DONE k ch) + 1)).regs ∧ s.flight <+: t.flight ∧
      t.mem = s.mem := by
  unfold State.chCompleted
  extract_lets d s1 s2 t
  obtain ⟨p, hs2⟩ : ∃ p, s2 = { s.put (F.MOVER_CH_DONE_DONE k ch) (s.get (F.MOVER_CH_DONE_DONE k ch) + 1) with perf := p } := by
    unfold s2
    split
    · exact ⟨_, rfl⟩
    · exact ⟨_, rfl⟩
  unfold t
  split
  · rw [sendEvent_regs, sendEvent_mem]
    have hflight := sendEvent_flight s2 (moverInit k) (dStrata d) (dEvent d)
      (status + resp * 2 ^ 8 + (if write then 2 ^ 11 else 0) + dTag d * 2 ^ 16)
      (if dTokV d then some (BitVec.ofNat 15 (dTok d)) else none)
    exact ⟨by rw [hs2], .trans (by rw [hs2]; exact List.prefix_rfl) hflight, by rw [hs2]; rfl⟩
  · rw [hs2]
    exact ⟨rfl, List.prefix_rfl, rfl⟩

theorem chEnd_done (s : State) (k ch status resp : Nat) (write : Bool) :
    (s.chEnd k ch status resp write).get (F.MOVER_CH_DONE_DONE k ch) = (s.get (F.MOVER_CH_DONE_DONE k ch) + 1) % 2 ^ 32 := by
  obtain ⟨hregs, -, -⟩ := chCompleted_leaves s k ch status resp write
  rw [chEnd_eq, chBoundary_get chDone_boundary, State.get_congr hregs]
  exact State.get_put_fits (F.MOVER_CH_DONE_DONE k ch) rfl s _

theorem chEnd_badSeen (s : State) (k ch status resp : Nat) (write : Bool) :
    (s.chEnd k ch status resp write).on (F.MOVER_CH_STAT_BAD_SEEN k ch) = s.on (F.MOVER_CH_STAT_BAD_SEEN k ch) := by
  obtain ⟨hregs, -, -⟩ := chCompleted_leaves s k ch status resp write
  refine State.on_of_get ?_
  rw [chEnd_eq, chBoundary_get badSeen_boundary, State.get_congr hregs]
  exact State.get_put_of_apart (.inl (chanReg_ne (by decide))) s _

/-- The end of a chain without a shadow chain. -/
theorem chEnd_last {status : Nat} (hlast : dLast (s.chan k ch).desc = true)
    (hshadow : s.on (F.MOVER_CH_STAT_SHADOW_VALID k ch) = false) :
    let t := s.chEnd k ch status resp write
    t.chState k ch = chIdle ∧ s.flight <+: t.flight ∧ t.mem = s.mem := by
  obtain ⟨hregs, hflight, hmem⟩ := chCompleted_leaves s k ch status resp write
  have hshadow' : (s.chCompleted k ch status resp write).on (F.MOVER_CH_STAT_SHADOW_VALID k ch) = false := by
    rw [State.on_congr hregs, ← hshadow]
    exact State.on_of_get (State.get_put_of_apart (.inl (chanReg_ne (by decide))) s _)
  rw [chEnd_eq, chBoundary_last hlast hshadow']
  obtain ⟨hstate, -, hmem', hflight'⟩ := chStop_leaves (s.chCompleted k ch status resp write) k ch
  exact ⟨hstate, hflight.trans hflight', hmem'.trans hmem⟩

/-! ### Halts (R257) -/

/-- What a halt latches in MOVER_CH_ERR_HI. -/
def haltWord (a : Nat) (write : Bool) (resp : Nat) (fetch fmt : Bool) : Word :=
  BitVec.ofNat 32 (a / 2 ^ 32 % 256 + (if write then 2 ^ 8 else 0) + resp * 2 ^ 9 + (if fetch then 2 ^ 12 else 0) +
    (if fmt then 2 ^ 13 else 0))

theorem haltWord_fields (hresp : resp < 8) (a : Nat) (write fetch fmt : Bool) (k ch : Nat) :
    fieldOf (haltWord a write resp fetch fmt) (F.MOVER_CH_ERR_HI_RESP k ch) = resp ∧
      fieldOf (haltWord a write resp fetch fmt) (F.MOVER_CH_ERR_HI_DIR k ch) = write.toNat ∧
      fieldOf (haltWord a write resp fetch fmt) (F.MOVER_CH_ERR_HI_FETCH k ch) = fetch.toNat := by
  simp only [fieldOf, haltWord, F.MOVER_CH_ERR_HI_RESP, F.MOVER_CH_ERR_HI_DIR, F.MOVER_CH_ERR_HI_FETCH, BitVec.toNat_ofNat,
    Nat.shiftRight_eq_div_pow]
  have hbit (b : Bool) (x : Nat) : (if b then x else 0) = b.toNat * x := by cases b <;> simp
  have hwrite := write.toNat_lt
  have hfetch := fetch.toNat_lt
  have hfmt := fmt.toNat_lt
  simp only [hbit]
  exact ⟨by omega, by omega, by omega⟩

theorem chHalt_leaves (hresp : resp < 8) (s : State) (k ch a : Nat) (write fetch fmt : Bool) :
    let t := s.chHalt k ch a write resp fetch fmt
    t.chState k ch = chHalted ∧ t.get (F.MOVER_CH_ERR_HI_RESP k ch) = resp ∧ t.on (F.MOVER_CH_ERR_HI_DIR k ch) = write ∧
      t.on (F.MOVER_CH_ERR_HI_FETCH k ch) = fetch ∧ t.reg (R.MOVER_CH_ERR_LO k ch) = BitVec.ofNat 32 a ∧ t.mem = s.mem := by
  intro t
  have hregs : t.regs = (((s.setReg (R.MOVER_CH_ERR_LO k ch) (BitVec.ofNat 32 a)).setReg (R.MOVER_CH_ERR_HI k ch)
      (haltWord a write resp fetch fmt)).setChState k ch chHalted).regs := rfl
  have hword : t.reg (R.MOVER_CH_ERR_HI k ch) = haltWord a write resp fetch fmt := by
    rw [State.reg_congr hregs, State.setChState, State.reg_put_ne _ _ _ (chanReg_ne (by decide)), State.reg_setReg]
  have haddr : t.reg (R.MOVER_CH_ERR_LO k ch) = BitVec.ofNat 32 a := by
    rw [State.reg_congr hregs, State.setChState, State.reg_put_ne _ _ _ (chanReg_ne (by decide)),
      State.reg_setReg_ne (a := R.MOVER_CH_ERR_HI k ch) (b := R.MOVER_CH_ERR_LO k ch) _ _ (chanReg_ne (by decide)),
      State.reg_setReg]
  have hon {e : RF} {b : Bool} (he : e.a = R.MOVER_CH_ERR_HI k ch) (hb : fieldOf (haltWord a write resp fetch fmt) e = b.toNat) :
      t.on e = b := by
    rw [State.on, State.get, he, hword, hb]
    cases b <;> rfl
  obtain ⟨hfr, hfd, hff⟩ := haltWord_fields hresp a write fetch fmt k ch
  refine ⟨(State.get_congr hregs _).trans (chState_setChState (by decide) _ k ch), ?_, hon rfl hfd, hon rfl hff, haddr, rfl⟩
  exact (congrArg (fieldOf · _) hword).trans hfr

/-! ### Refused commands (R251) -/

theorem chRefuse_leaves (s : State) (k ch : Nat) : (s.chRefuse k ch).on (F.MOVER_CH_STAT_CMD_REFUSED k ch) = true ∧
    onlyRegs s (s.chRefuse k ch) [R.MOVER_CH_STAT k ch] :=
  ⟨State.on_put (F.MOVER_CH_STAT_CMD_REFUSED k ch) rfl s 1, (onlyRegs.refl _ s).put List.mem_cons_self⟩

end Sys2Proof.Machine
end

section
/-!
SUPPORT. What leaves the registers of the movers: the queue manager's push of an entry (R239) and engines' writes (R335, R340).
-/

namespace Sys2Proof.Machine

variable {s t u : State} {i : Nat}

/-- The registers of block 3, the movers', are kept. -/
structure MoversKept (s t : State) : Prop where
  reg : ∀ a, a / 2 ^ 24 = 3 → t.reg a = s.reg a

theorem MoversKept.refl (s : State) : MoversKept s s := ⟨fun _ _ => rfl⟩

theorem MoversKept.get {e : RF} (h : MoversKept s t) (he : e.a / 2 ^ 24 = 3) : t.get e = s.get e :=
  State.get_of_reg (h.reg _ he)

theorem MoversKept.frame (h : MoversKept s t) (hregs : u.regs = t.regs) : MoversKept s u :=
  ⟨fun a ha => (State.reg_congr hregs a).trans (h.reg a ha)⟩

theorem MoversKept.count {n : Nat} (h : MoversKept s t) : MoversKept s (t.count i n) := h.frame rfl

theorem MoversKept.setReg {a : Nat} {v : Word} (h : MoversKept s t) (ha : a / 2 ^ 24 ≠ 3) : MoversKept s (t.setReg a v) :=
  ⟨fun b hb => (t.reg_setReg_ne v fun hba => ha ((congrArg (· / 2 ^ 24) hba).symm.trans hb)).trans (h.reg b hb)⟩

theorem MoversKept.put {f : RF} {x : Nat} (h : MoversKept s t) (hf : f.a / 2 ^ 24 ≠ 3) : MoversKept s (t.put f x) :=
  h.setReg hf

theorem MoversKept.flagRep {f rep : RF} (h : MoversKept s t) (hf : f.a / 2 ^ 24 ≠ 3) (hrep : rep.a / 2 ^ 24 ≠ 3) :
    MoversKept s (t.flagRep f rep) := (h.put hf).put hrep

theorem MoversKept.ite {c : Prop} [Decidable c] (ht : MoversKept s t) (hu : MoversKept s u) :
    MoversKept s (if c then t else u) := by
  split
  · exact ht
  · exact hu

theorem MoversKept.foldl {α : Type} {g : State → α → State} {xs : List α} (h : MoversKept s t)
    (hg : ∀ u x, MoversKept s u → MoversKept s (g u x)) : MoversKept s (xs.foldl g t) :=
  List.foldlRecOn xs g h fun u hu x _ => hg u x hu

theorem MoversKept.report {r : Report} (h : MoversKept s t) : MoversKept s (t.report r) :=
  ⟨fun a ha => (t.reg_report_ne r fun hlost => absurd (hlost ▸ ha) (by decide)).trans (h.reg a ha)⟩

/-! ### Control memory (R287) -/

theorem MoversKept.ctlDouble {key : Nat} {patrol : Bool} (h : MoversKept s t) : MoversKept s (t.ctlDouble key patrol) := by
  unfold State.ctlDouble
  extract_lets m s1 s2 _ s3 i q s4 s5 _
  have hs1 : MoversKept s s1 := (h.flagRep (by decide) (by decide)).count
  have hs3 : MoversKept s s3 := (hs1.setReg (by decide)).report
  have hs4 : MoversKept s s4 := hs3.count
  have hs5 : MoversKept s s5 := hs3.put (by decide)
  exact .ite (.report (hs4.frame rfl)) (.ite hs5.report hs3)

theorem MoversKept.ctlWord {key : Nat} {patrol : Bool} (h : MoversKept s t) : MoversKept s (t.ctlWord patrol key) := by
  unfold State.ctlWord
  split
  · exact h
  · exact .count (.put (f := F.MEM_STAT_CTL_SBE) (h.frame rfl) (by decide))
  · exact h.ctlDouble

theorem MoversKept.ctlRead {l : List Nat} (h : MoversKept s t) : MoversKept s (t.ctlRead l) :=
  .ite h (h.foldl fun _ _ hu => hu.ctlWord)

/-! ### Engines' writes -/

theorem hostAskWrite_regs (s : State) (h n : Nat) (cached ns : Bool) : (s.hostAskWrite h n cached ns).regs = s.regs := by
  refine foldl_keeps State.regs (fun t x => ?_) _ s
  split
  · split <;> rfl
  · rfl

theorem dcFetch_regs (s : State) (line : Nat) : (s.dcFetch line).regs = s.regs := by
  unfold State.dcFetch
  split
  · rfl
  · dsimp only
    split <;> rfl

theorem hostPutBytes_regs (cached ns : Bool) (l : List Byte) : ∀ (s : State) (h : Nat) (fetch : Bool),
    (s.hostPutBytes h cached ns fetch l).regs = s.regs := by
  induction l with
  | nil => exact fun _ _ _ => rfl
  | cons b l ih =>
    intro s h fetch
    refine (ih _ _ _).trans ?_
    unfold State.hostWriteByte
    split
    · dsimp only
      split
      · exact dcFetch_regs s _
      · rfl
    · dsimp only
      split <;> rfl

theorem hostWriteBytes_regs (s : State) (h : Nat) (cached ns : Bool) (l : List Byte) :
    (s.hostWriteBytes h cached ns l).regs = s.regs := by
  refine (hostPutBytes_regs ..).trans ?_
  split <;> rfl

theorem writeBytes_regs (s : State) (a : Nat) (l : List Byte) : (s.writeBytes a l).regs = s.regs := by
  rw [State.writeBytes_eq]

theorem biOne_regs (s : State) (inv : Bool) (line : Nat) : (s.biOne inv line).regs = s.regs := by
  unfold State.biOne
  extract_lets s1 s2
  have hs2 : s2.regs = s.regs := by
    unfold s2
    split
    · exact writeBytes_regs s1 ..
    · rfl
  split
  · exact hs2
  · exact hs2

theorem engPut_regs (s : State) (a : Nat) (l : List Byte) (ns : Bool) : (s.engPut a l ns).regs = s.regs := by
  unfold State.engPut
  split
  · split
    · exact (hostWriteBytes_regs ..).trans (hostAskWrite_regs ..)
    · rfl
  · exact (writeBytes_regs ..).trans (foldl_keeps State.regs (fun t x => biOne_regs t true x) _ s)

theorem MoversKept.rangeMiss {a : Nat} (h : MoversKept s t) : MoversKept s (t.rangeMiss a) := .ite (h.put (by decide)) h

theorem MoversKept.engWrite {init a : Nat} {l : List Byte} {ns : Bool} (h : MoversKept s t) :
    MoversKept s (t.engWrite init a l ns) :=
  h.foldl fun u _ hu => .ite (hu.frame (engPut_regs u ..)) hu.rangeMiss

/-! ### Notifications and queues (R238, R239, R243, R332) -/

theorem MoversKept.msixNow {v : Nat} (h : MoversKept s t) : MoversKept s (t.msixNow v) := by
  have hpba : (F.HOST_MSIX_PBA_PEND (v / 32)).a / 2 ^ 24 ≠ 3 := by
    simp only [F.HOST_MSIX_PBA_PEND, R.HOST_MSIX_PBA]
    omega
  have hsend : MoversKept s (t.msixSend v) := h.frame rfl
  have hpend : MoversKept s (t.putBit (F.HOST_MSIX_PBA_PEND (v / 32)) (v % 32) true) := .ite (h.put hpba) (h.put hpba)
  exact .ite hsend (.ite h hpend.count)

theorem MoversKept.msix {v : Nat} (h : MoversKept s t) : MoversKept s (t.msix v) := .ite h (.ite h.msixNow (h.frame rfl))

theorem MoversKept.qNotify {high : Bool} (h : MoversKept s t) : MoversKept s (t.qNotify i high) := by
  unfold State.qNotify
  extract_lets q s1 s2
  have hs2 : MoversKept s s2 := .ite (h.frame (sendEvent_regs s1 ..)) h.count
  exact .ite hs2.count.msix hs2

theorem MoversKept.qTest (h : MoversKept s t) : MoversKept s (t.qTest i) := by
  have hset (q : QState) : MoversKept s (t.setQ i q) := h.frame rfl
  exact .ite h (.ite (hset _).qNotify (.ite (hset _).qNotify h))

theorem MoversKept.qErr {kind : Nat} (h : MoversKept s t) : MoversKept s (t.qErr i kind) := (h.put (by decide)).put (by decide)

theorem MoversKept.metaErr (h : MoversKept s t) : MoversKept s (t.metaErr i) := by
  unfold State.metaErr
  extract_lets s1
  have hs1 : MoversKept s s1 := (h.flagRep (by decide) (by decide)).qErr.count
  exact hs1.report

theorem MoversKept.fateEffect {x : Fate} (h : MoversKept s t) : MoversKept s (t.fateEffect i x) := by
  cases x with
  | live tok => cases tok <;> exact h.frame rfl
  | metaErr => exact h.count.metaErr
  | badToken => exact (h.count.put (by decide)).qErr
  | squashed => exact h.count

theorem MoversKept.hwPush {payload : List Byte} {tag : Nat} {tok : Option (BitVec 15)} {stamp : Option Word}
    (h : MoversKept s t) : MoversKept s (t.hwPush i payload tag tok stamp) := by
  unfold State.hwPush
  extract_lets s0 q w f w1 bad s1 s2 s3
  have hs0 : MoversKept s s0 := h.ctlRead
  have hs1 : MoversKept s s1 := hs0.count.engWrite.engWrite
  have hs2 : MoversKept s s2 := hs1.fateEffect
  have hs3 : MoversKept s s3 := .ite hs2.metaErr hs2
  have hset (q : QState) : MoversKept s (s3.setQ i q) := hs3.frame rfl
  exact .ite hs0 (.ite hs0.count (hset _).qTest)

end Sys2Proof.Machine
end

section
/-!
SUPPORT. What an access is answered depends on few parts of a state (R276, R279, R334); what an engine's read and its write of
device memory leave (R285, R340).
-/

namespace Sys2Proof.Machine

variable {s t u : State} {a n init o q : Nat} {w ns : Bool} {l : List Byte}

/-! ### Answers to accesses -/

/-- What decides the answers to accesses of memory is the same: routes, stops, cores, macros and the registers but for the
movers'. -/
structure SameAccess (s t : State) : Prop where
  routes : t.routes = s.routes
  stops : t.stops = s.stops
  cores : t.cores = s.cores
  macros : t.macros = s.macros
  reg : ∀ a, a / 2 ^ 24 ≠ 3 → t.reg a = s.reg a

theorem SameAccess.get (h : SameAccess s t) {e : RF} (he : e.a / 2 ^ 24 ≠ 3) : t.get e = s.get e := State.get_of_reg (h.reg _ he)

theorem SameAccess.hpa? (h : SameAccess s t) (a : Nat) : t.hpa? a = s.hpa? a := by
  have hbase {e : RF} {r : Nat} (he : e.a = R.HOST_RNG_BASE r ∨ e.a = R.HOST_RNG_LIMIT r ∨ e.a = R.HOST_RNG_HPA_LO r ∨
      e.a = R.HOST_RNG_HPA_HI r) : t.get e = s.get e := by
    refine h.get ?_
    simp only [R.HOST_RNG_BASE, R.HOST_RNG_LIMIT, R.HOST_RNG_HPA_LO, R.HOST_RNG_HPA_HI] at he
    omega
  have hen (r : Nat) : t.get (F.HOST_RNG_BASE_EN r) = s.get (F.HOST_RNG_BASE_EN r) := hbase (.inl rfl)
  have hlow (r : Nat) : t.get (F.HOST_RNG_BASE_BASE r) = s.get (F.HOST_RNG_BASE_BASE r) := hbase (.inl rfl)
  have hlimit (r : Nat) : t.get (F.HOST_RNG_LIMIT_LIMIT r) = s.get (F.HOST_RNG_LIMIT_LIMIT r) := hbase (.inr (.inl rfl))
  have hlo (r : Nat) : t.get (F.HOST_RNG_HPA_LO_HPA r) = s.get (F.HOST_RNG_HPA_LO_HPA r) := hbase (.inr (.inr (.inl rfl)))
  have hhi (r : Nat) : t.get (F.HOST_RNG_HPA_HI_HPA_HI r) = s.get (F.HOST_RNG_HPA_HI_HPA_HI r) := hbase (.inr (.inr (.inr rfl)))
  simp only [State.hpa?, State.hostRange, State.on, hen, hlow, hlimit, hlo, hhi]

theorem SameAccess.windowResp (h : SameAccess s t) (a : Nat) (w : Bool) : t.windowResp a w = s.windowResp a w := by
  cases hhost : isHostAddr a with
  | true => simp only [State.windowResp, of_decide_eq_true hhost, h.hpa?]
  | false =>
    refine windowResp_congr hhost h.cores h.macros (fun c hc => State.bit_of_reg (h.reg _ ?_))
      fun b => State.bit_of_reg (h.reg _ (by decide))
    simp only [F.GLOBAL_CORE_HELD_HELD, R.GLOBAL_CORE_HELD]
    omega

/-- In the data class the way of an access is that of the route table (R275). -/
theorem SameAccess.closedOnWay (h : SameAccess s t) (src dst : Nat) :
    t.closedOnWay false src dst = s.closedOnWay false src dst := by
  have hstop (n : Nat) : t.stop n = s.stop n := by rw [State.stop, h.stops, State.stop]
  have hroute : t.route src dst = s.route src dst := by rw [State.route, h.routes, State.route]
  have hdis (i : Nat) : t.bit F.VEIN_BRIDGE_DIS_DIS i = s.bit F.VEIN_BRIDGE_DIS_DIS i := State.bit_of_reg (h.reg _ (by decide))
  have hbridge (n : Nat) (b : Bool) : t.bridgeOf false n b = s.bridgeOf false n b := by simp [State.bridgeOf, hdis]
  simp [State.closedOnWay, State.bridgeClosed, State.entryBridge, State.exitBridge, State.routeOf, hstop, hroute, hbridge]

theorem SameAccess.accessResp (h : SameAccess s t) (hdata : ctlAddr a = false) (init : Nat) (w : Bool) :
    t.accessResp init a w = s.accessResp init a w := by
  unfold State.accessResp
  cases nodeOfAddr a with
  | none => rfl
  | some d => simp only [State.route, h.routes, hdata, h.closedOnWay, h.windowResp]

/-- Accesses that are performed are accesses of memory. -/
theorem ctlAddr_of_done (h : s.accessResp init a w = rDone) : ctlAddr a = false := by
  rw [ctlAddr, Bool.not_eq_false', isMemAddr]
  unfold State.accessResp at h
  split at h
  · cases h
  split at h
  · cases h
  split at h
  · cases h
  unfold State.windowResp at h
  split <;> simp_all [rDone, rNoTarget]

theorem SameAccess.done (h : SameAccess s t) (hdone : s.accessResp init a w = rDone) : t.accessResp init a w = rDone :=
  (h.accessResp (ctlAddr_of_done hdone) init w).trans hdone

theorem rangeResp_done_iff : s.rangeResp init a n w = rDone ↔ ∀ b ∈ blocksOf a n, s.accessResp init b.1 w = rDone := by
  unfold State.rangeResp
  split
  next b hb =>
    have hfails := List.find?_some hb
    simp only [ne_eq, decide_eq_true_eq] at hfails
    exact ⟨fun h => absurd h hfails, fun h => h b (List.mem_of_find?_eq_some hb)⟩
  next hnone => simpa using hnone

theorem SameAccess.rangeResp_done (h : SameAccess s t) (hdone : s.rangeResp init a n w = rDone) : t.rangeResp init a n w = rDone :=
  rangeResp_done_iff.mpr fun b hb => h.done (rangeResp_done_iff.mp hdone b hb)

theorem accessResp_lt (s : State) (init a : Nat) (w : Bool) : s.accessResp init a w < 8 := by
  unfold State.accessResp
  split
  · decide
  split
  · decide
  split
  · decide
  unfold State.windowResp
  split
  all_goals (repeat' split)
  all_goals decide

theorem readResp_lt (s : State) (init a n : Nat) : s.readResp init a n < 8 := by
  have hrange : s.rangeResp init a n false < 8 := by
    unfold State.rangeResp
    split
    · exact accessResp_lt ..
    · decide
  unfold State.readResp
  split
  · exact hrange
  split
  · decide
  · decide

/-! ### Reads -/

/-- What a read changes that meets good bytes in untracked lines: what is said to the host, and the device cache. -/
structure ReadOnly (s t : State) : Prop where
  frame : t = { s with
    out := t.out
    perf := t.perf
    host := t.host
    hostMem := t.hostMem
    freeCtr := t.freeCtr }
  snoop : t.host.snoop = s.host.snoop

theorem ReadOnly.trans (hst : ReadOnly s t) (htu : ReadOnly t u) : ReadOnly s u := by
  obtain ⟨ht, hsnoop⟩ := hst
  obtain ⟨hu, hsnoop'⟩ := htu
  exact ⟨hu.trans (by rw [ht]), hsnoop'.trans hsnoop⟩

theorem ReadOnly.foldl {α : Type} {g : State → α → State} (hg : ∀ t x, ReadOnly t (g t x)) (xs : List α) (s : State) :
    ReadOnly s (xs.foldl g s) :=
  List.foldlRecOn (motive := ReadOnly s) xs g ⟨rfl, rfl⟩ fun t ht x _ => ht.trans (hg t x)

theorem ReadOnly.hostAskRead (s : State) (h n : Nat) (cached ns : Bool) : ReadOnly s (s.hostAskRead h n cached ns) := by
  refine .foldl (fun t x => ?_) _ s
  split
  · split
    · exact ⟨rfl, rfl⟩
    · exact ⟨rfl, rfl⟩
  · exact ⟨rfl, rfl⟩

theorem ReadOnly.dcFetch (s : State) (line : Nat) : ReadOnly s (s.dcFetch line) := by
  unfold State.dcFetch
  split
  · exact ⟨rfl, rfl⟩
  · dsimp only
    split
    · exact ⟨rfl, rfl⟩
    · exact ⟨rfl, rfl⟩

theorem ReadOnly.hostFetchRange (s : State) (a n : Nat) (ns : Bool) : ReadOnly s (s.hostFetchRange a n ns) := by
  refine .foldl (fun t i => ?_) _ s
  dsimp only
  split
  next h _ =>
    have hask := ReadOnly.hostAskRead t (h / 64 * 64) 64 (t.hostCached ((granules a n).1 + 64 * i) ns) ns
    split
    · exact hask.trans (.dcFetch ..)
    · exact hask.trans ⟨rfl, rfl⟩
  · exact ⟨rfl, rfl⟩

theorem snooped_untracked (h : s.trackedIn a n = []) (inv : Bool) : s.snooped a n inv = s := by
  rw [State.snooped, h]
  rfl

theorem rangeResp_of_readResp (h : s.readResp init a n = rDone) : s.rangeResp init a n false = rDone := by
  unfold State.readResp at h
  split at h
  next hne => exact absurd h hne
  next hdone => exact not_not.mp hdone

theorem ReadOnly.engReadEffect (hdone : s.readResp init a n = rDone) (hfree : s.trackedIn a n = []) (ns : Bool) :
    ReadOnly s (s.engReadEffect init a n ns) := by
  have hrange := rangeResp_of_readResp hdone
  rw [State.readResp, if_neg (not_not.mpr hrange)] at hdone
  rw [State.engReadEffect, if_neg (not_not.mpr hrange), snooped_untracked hfree]
  rw [snooped_untracked hfree] at hdone
  cases hhost : isHostAddr a with
  | true =>
    rw [if_pos rfl]
    exact (ReadOnly.hostFetchRange s a n ns).trans ⟨rfl, rfl⟩
  | false =>
    have hgood : s.badIn (granules a n).1 (granules a n).2 = [] := by
      by_contra hbad
      rw [hhost, if_pos (by simpa using hbad)] at hdone
      cases hdone
    rw [if_neg Bool.false_ne_true, State.readEffect, State.readNote_good hgood]
    exact ⟨rfl, rfl⟩

theorem report_mem (s : State) (r : Report) : (s.report r).mem = s.mem := by
  unfold State.report
  split <;> rfl

theorem readNote_mem (s : State) (init a n : Nat) (spec : Bool) : (s.readNote init a n spec).mem = s.mem := by
  unfold State.readNote
  split
  · rfl
  split
  · rfl
  split
  · rfl
  split
  · rfl
  · simp only [report_mem, State.count_mem, State.setReg_mem, State.put_mem]

/-- A read of untracked lines writes no memory. -/
theorem engReadEffect_mem (hfree : s.trackedIn a n = []) (init : Nat) (ns : Bool) : (s.engReadEffect init a n ns).mem = s.mem := by
  unfold State.engReadEffect
  split
  · unfold State.rangeMiss
    split <;> rfl
  split
  · have hfetch := (ReadOnly.hostFetchRange s a n ns).frame
    show (s.hostFetchRange a n ns).mem = s.mem
    rw [hfetch]
  · rw [snooped_untracked hfree]
    exact readNote_mem s ..

/-! ### Writes of device memory -/

theorem writeBytes_append (l₂ : List Byte) : ∀ (l₁ : List Byte) (s : State) (a : Nat),
    s.writeBytes a (l₁ ++ l₂) = (s.writeBytes a l₁).writeBytes (a + l₁.length) l₂
  | [], _, _ => rfl
  | b :: l₁, s, a => by
    rw [List.cons_append, State.writeBytes, writeBytes_append l₂ l₁, State.writeBytes, List.length_cons, Nat.add_assoc,
      Nat.add_comm 1]

theorem accessResp_writeBytes (s : State) (a : Nat) (l : List Byte) (init x : Nat) :
    (s.writeBytes a l).accessResp init x w = s.accessResp init x w := by
  rw [State.writeBytes_eq]
  rfl

/-- The piece of a range in the `i`th of its blocks. -/
def blockAt (a n i : Nat) : Option (Nat × Nat) :=
  if max a ((a / 256 + i) * 256) < min (a + n) ((a / 256 + i + 1) * 256) then
    some (max a ((a / 256 + i) * 256), min (a + n) ((a / 256 + i + 1) * 256) - max a ((a / 256 + i) * 256))
  else none

theorem blocksOf_eq (a n : Nat) : blocksOf a n = (List.range (n / 256 + 2)).filterMap (blockAt a n) := rfl

/-- How much of a range its first `m` blocks hold. -/
def blocksLen (a n m : Nat) : Nat := min n ((a / 256 + m) * 256 - a)

theorem blocksLen_succ (a n m : Nat) : (blockAt a n m = none ∧ blocksLen a n (m + 1) = blocksLen a n m) ∨
    ∃ q, blockAt a n m = some (a + blocksLen a n m, q) ∧ blocksLen a n (m + 1) = blocksLen a n m + q ∧
      a + blocksLen a n m + q ≤ a + n ∧ 0 < q := by
  unfold blockAt blocksLen
  split
  next h => exact .inr ⟨_, by congr 2; omega, by omega, by omega, by omega⟩
  next h => exact .inl ⟨rfl, by omega⟩

/-- The write of one block, after the bytes before it. -/
def State.engWriteBlock (init a : Nat) (l : List Byte) (ns : Bool) (t : State) (b : Nat × Nat) : State :=
  if t.accessResp init b.1 true = rDone then t.engPut b.1 ((l.drop (b.1 - a)).take b.2) ns
  else t.rangeMiss b.1

theorem engWrite_eq (s : State) (init a : Nat) (l : List Byte) (ns : Bool) :
    s.engWrite init a l ns = (blocksOf a l.length).foldl (State.engWriteBlock init a l ns) s := rfl

theorem trackedIn_part (h : s.trackedIn a n = []) (ho : o + q ≤ n) (hq : 0 < q) : s.trackedIn (a + o) q = [] := by
  simp only [State.trackedIn, List.filter_eq_nil_iff, Bool.and_eq_true, decide_eq_true_eq] at h ⊢
  intro x hx hin
  exact h x hx (by omega)

theorem engWriteBlock_device (hdone : s.accessResp init (a + o) true = rDone) (hdevice : isHostAddr (a + o) = false)
    (hfree : s.trackedIn a l.length = []) (hlen : o + q ≤ l.length) (hq : 0 < q) :
    State.engWriteBlock init a l ns (s.writeBytes a (l.take o)) (a + o, q) = s.writeBytes a (l.take (o + q)) := by
  have hfree' : (s.writeBytes a (l.take o)).trackedIn (a + o) ((l.drop o).take q).length = [] := by
    have hpiece : ((l.drop o).take q).length = q := by simp; omega
    rw [hpiece, State.writeBytes_eq]
    exact trackedIn_part hfree hlen hq
  have htake : (l.take o).length = o := by simp; omega
  rw [State.engWriteBlock, accessResp_writeBytes, if_pos hdone, Nat.add_sub_cancel_left, State.engPut, hdevice,
    if_neg Bool.false_ne_true, snooped_untracked hfree', List.take_add, writeBytes_append, htake]

/-- The first `m` blocks of a write store what they hold of its bytes. -/
theorem foldl_engWriteBlock (hdone : s.rangeResp init a l.length true = rDone)
    (hdevice : ∀ x, a ≤ x → x < a + l.length → isHostAddr x = false) (hfree : s.trackedIn a l.length = []) (ns : Bool) (m : Nat)
    (hm : m ≤ l.length / 256 + 2) :
    ((List.range m).filterMap (blockAt a l.length)).foldl (State.engWriteBlock init a l ns) s =
      s.writeBytes a (l.take (blocksLen a l.length m)) := by
  induction m with
  | zero =>
    rw [show blocksLen a l.length 0 = 0 by unfold blocksLen; omega]
    rfl
  | succ m ih =>
    rw [List.range_succ, List.filterMap_append, List.foldl_append, ih (by omega)]
    obtain ⟨hnone, hlen⟩ | ⟨q, hsome, hlen, hend, hq⟩ := blocksLen_succ a l.length m
    · rw [hlen]
      simp [hnone]
    · have hmem : (a + blocksLen a l.length m, q) ∈ blocksOf a l.length :=
        List.mem_filterMap.mpr ⟨m, List.mem_range.mpr hm, hsome⟩
      obtain ⟨hge, hlt⟩ := mem_blocksOf hmem
      rw [hlen, ← engWriteBlock_device (ns := ns) (rangeResp_done_iff.mp hdone _ hmem) (hdevice _ hge hlt) hfree (by omega) hq]
      simp [hsome]

/-- A write of untracked device memory that every block takes is one store. -/
theorem engWrite_device (hn : l.length = n) (hdone : s.rangeResp init a n true = rDone)
    (hdevice : ∀ x, a ≤ x → x < a + n → isHostAddr x = false) (hfree : s.trackedIn a n = []) (ns : Bool) :
    s.engWrite init a l ns = s.writeBytes a l := by
  subst hn
  rw [engWrite_eq, blocksOf_eq, foldl_engWriteBlock hdone hdevice hfree ns _ (Nat.le_refl _), List.take_of_length_le]
  unfold blocksLen
  omega

/-- What memory reads at a store's bytes, however unwritten bytes read. -/
theorem bytesAt_of_writeBytes (hn : l.length = n) (h : t.mem = (s.writeBytes a l).mem) : t.bytesAt a n = l := by
  subst hn
  refine List.ext_getElem (by simp [State.bytesAt]) fun i _ hi => ?_
  simp [State.bytesAt, State.byteAt, h, State.find_writeBytes_in l s a i hi]

end Sys2Proof.Machine
end

section
/-!
SUPPORT. A descriptor's transfer (R249): where every access reaches written device memory, its bytes are copied.
-/

namespace Sys2Proof.Machine

variable {s t : State} {k ch a b n off : Nat} {d : List Byte}

/-! ### Ranges -/

theorem isHostAddr_low (h : a < 0x8000000000) : isHostAddr a = false := by
  refine decide_eq_false fun hhost => ?_
  unfold tgtOf at hhost
  split_ifs at hhost with _ _ _ _ _ hwin
  simp only [Bool.and_eq_true, decide_eq_true_eq] at hwin
  omega

theorem tgtOf_druse_lt {x : Nat} (h : tgtOf a = .druse x off) : x < 32 := by
  unfold tgtOf at h
  split_ifs at h with _ _ hwin
  simp only [Bool.and_eq_true, decide_eq_true_eq] at hwin
  cases h
  omega

theorem tgtOf_strat_lt {x : Nat} (h : tgtOf a = .strat x off) : x < 8 := by
  unfold tgtOf at h
  split_ifs at h with _ _ _ hwin
  simp only [Bool.and_eq_true, decide_eq_true_eq] at hwin
  cases h
  omega

/-- The windows of device memory end below the host's. -/
theorem windowOf_end {w : Nat × Nat} (h : windowOf a = some w) (hdevice : isHostAddr a = false) : w.2 ≤ 0x8000000000 := by
  unfold windowOf at h
  split at h
  next hcore =>
    obtain ⟨-, hlt, -⟩ := tgtOf_eq_core_iff.mp hcore
    obtain ⟨-, hw⟩ := Option.ite_none_right_eq_some.mp h
    obtain rfl := Option.some.inj hw
    simp only [coreWin]
    omega
  next hdruse =>
    have hlt := tgtOf_druse_lt hdruse
    obtain ⟨-, hw⟩ := Option.ite_none_right_eq_some.mp h
    obtain rfl := Option.some.inj hw
    simp only [druseWin]
    omega
  next hstrat =>
    have hlt := tgtOf_strat_lt hstrat
    obtain ⟨-, hw⟩ := Option.ite_none_right_eq_some.mp h
    obtain rfl := Option.some.inj hw
    simp only [stratWin]
    omega
  next =>
    obtain rfl := Option.some.inj h
    decide
  next hhost => exact absurd hhost (of_decide_eq_false hdevice)
  next => cases h

/-- A range in one window of device memory holds no host address. -/
theorem isHostAddr_inOneWindow (hwin : inOneWindow a n = true) (hdevice : isHostAddr a = false) (hb : b < a + n) :
    isHostAddr b = false := by
  unfold inOneWindow at hwin
  split at hwin
  next w hw =>
    have hend := windowOf_end hw hdevice
    have hle := of_decide_eq_true hwin
    exact isHostAddr_low (by omega)
  next => cases hwin

theorem dLen_pos (d : List Byte) : 0 < dLen d := by
  unfold dLen
  split
  · decide
  · omega

theorem granules_pos (hn : 0 < n) (a : Nat) : granules a n = (a / 64 * 64, ((a + n - 1) / 64 + 1) * 64 - a / 64 * 64) :=
  if_neg (by omega)

/-- The whole of a range, where no granule of it is refused. -/
theorem prefixLen_whole {bad : Nat → Bool} (h : ∀ i < (granules a n).2 / 64, bad ((granules a n).1 + 64 * i) = false) :
    prefixLen a n bad = n := by
  have hnone : (List.range ((granules a n).2 / 64)).find? (fun i => bad ((granules a n).1 + 64 * i)) = none := by
    rw [List.find?_eq_none]
    intro i hi
    rw [h i (List.mem_range.mp hi)]
    exact Bool.false_ne_true
  rw [prefixLen, hnone]

/-! ### The copy -/

/-- A descriptor that moves written device memory, which no host cache holds and every access reaches, to such memory. -/
structure Copies (s : State) (k : Nat) (d : List Byte) : Prop where
  src : inOneWindow (dSrc d) (dLen d) = true
  dst : inOneWindow (dDst d) (dLen d) = true
  srcDevice : isHostAddr (dSrc d) = false
  dstDevice : isHostAddr (dDst d) = false
  srcFree : s.trackedIn (dSrc d) (dLen d) = []
  dstFree : s.trackedIn (dDst d) (dLen d) = []
  reads : ∀ a, (granules (dSrc d) (dLen d)).1 ≤ a → a < (granules (dSrc d) (dLen d)).1 + (granules (dSrc d) (dLen d)).2 →
    s.accessResp (moverInit k) a false = rDone ∧ (mapFind? s.mem a).isSome = true ∧ a ∉ s.badPar
  writes : ∀ a, dDst d / 64 * 64 ≤ a → a < dDst d + dLen d → s.accessResp (moverInit k) a true = rDone

theorem Copies.congr (h : Copies s k d) (hacc : SameAccess s t) (hmem : t.mem = s.mem) (hpar : t.badPar = s.badPar)
    (hsnoop : t.host.snoop = s.host.snoop) : Copies t k d where
  src := h.src
  dst := h.dst
  srcDevice := h.srcDevice
  dstDevice := h.dstDevice
  srcFree := by rw [State.trackedIn, hsnoop, ← State.trackedIn, h.srcFree]
  dstFree := by rw [State.trackedIn, hsnoop, ← State.trackedIn, h.dstFree]
  reads a hlo hhi := by
    obtain ⟨hdone, hwritten, hgood⟩ := h.reads a hlo hhi
    exact ⟨hacc.done hdone, hmem ▸ hwritten, hpar ▸ hgood⟩
  writes a hlo hhi := hacc.done (h.writes a hlo hhi)

theorem Copies.badIn (h : Copies s k d) (hlo : (granules (dSrc d) (dLen d)).1 ≤ a)
    (hhi : a + n ≤ (granules (dSrc d) (dLen d)).1 + (granules (dSrc d) (dLen d)).2) : s.badIn a n = [] := by
  refine State.badIn_eq_nil fun i hi => ?_
  obtain ⟨-, hwritten, hgood⟩ := h.reads (a + i) (by omega) (by omega)
  rw [State.badAt, hwritten, if_pos rfl]
  simpa using hgood

theorem Copies.srcPrefix (h : Copies s k d) :
    prefixLen (dSrc d) (dLen d) (fun g => (s.snooped (dSrc d) (dLen d) false).granResp (moverInit k) g ≠ rDone) = dLen d := by
  refine prefixLen_whole fun i hi => ?_
  obtain ⟨hdone, -, -⟩ := h.reads ((granules (dSrc d) (dLen d)).1 + 64 * i) (by omega) (by omega)
  have hgood : s.badIn ((granules (dSrc d) (dLen d)).1 + 64 * i) 64 = [] := h.badIn (by omega) (by omega)
  rw [snooped_untracked h.srcFree, State.granResp, if_neg (not_not.mpr hdone), hgood]
  simp

theorem Copies.dstPrefix (h : Copies s k d) :
    prefixLen (dDst d) (dLen d) (fun g => s.accessResp (moverInit k) g true ≠ rDone) = dLen d := by
  refine prefixLen_whole fun i hi => ?_
  have hn := dLen_pos d
  rw [granules_pos hn] at hi ⊢
  rw [h.writes _ (by omega) (by dsimp only at hi ⊢; omega)]
  rfl

theorem Copies.readResp (h : Copies s k d) : s.readResp (moverInit k) (dSrc d) (dLen d) = rDone := by
  have hn := dLen_pos d
  have hrange : s.rangeResp (moverInit k) (dSrc d) (dLen d) false = rDone := by
    refine rangeResp_done_iff.mpr fun b hb => ?_
    obtain ⟨hlo, hhi⟩ := mem_blocksOf hb
    refine (h.reads b.1 ?_ ?_).1
    · rw [granules_pos hn]
      dsimp only
      omega
    · rw [granules_pos hn]
      dsimp only
      omega
  rw [State.readResp, if_neg (not_not.mpr hrange), snooped_untracked h.srcFree, h.badIn (Nat.le_refl _) (Nat.le_refl _)]
  simp

theorem Copies.rangeResp_dst (h : Copies s k d) : s.rangeResp (moverInit k) (dDst d) (dLen d) true = rDone := by
  refine rangeResp_done_iff.mpr fun b hb => ?_
  obtain ⟨hlo, hhi⟩ := mem_blocksOf hb
  exact h.writes b.1 (by omega) hhi

theorem Copies.engBytesNs (h : Copies s k d) (ns : Bool) :
    s.engBytesNs ns (dSrc d) (dLen d) = s.bytesAt (dSrc d) (dLen d) := by
  rw [State.engBytesNs, snooped_untracked h.srcFree, State.bytesAt]
  refine List.map_congr_left fun i hi => ?_
  have hlt := List.mem_range.mp hi
  rw [State.engByteNs, isHostAddr_inOneWindow h.src h.srcDevice (by omega), if_neg Bool.false_ne_true]

/-- The bytes of a source read alike in states with one memory, as all of them are written. -/
theorem Copies.bytesAt_congr (h : Copies s k d) (hmem : t.mem = s.mem) :
    t.bytesAt (dSrc d) (dLen d) = s.bytesAt (dSrc d) (dLen d) := by
  refine List.map_congr_left fun i hi => ?_
  have hlt := List.mem_range.mp hi
  have hn := dLen_pos d
  obtain ⟨-, hwritten, -⟩ := h.reads (dSrc d + i) (by rw [granules_pos hn]; dsimp only; omega)
    (by rw [granules_pos hn]; dsimp only; omega)
  obtain ⟨x, hx⟩ := Option.isSome_iff_exists.mp hwritten
  rw [State.byteAt, State.byteAt, hmem, hx]
  rfl

theorem State.put_regs_congr (h : t.regs = s.regs) (f : RF) (x : Nat) : (t.put f x).regs = (s.put f x).regs := by
  rw [State.put_regs, State.put_regs, State.reg_congr h, h]

theorem writeBytes_queues (s : State) (a : Nat) (l : List Byte) : (s.writeBytes a l).queues = s.queues := by
  rw [State.writeBytes_eq]

theorem ReadOnly.regs (h : ReadOnly s t) : t.regs = s.regs := by rw [h.frame]

theorem ReadOnly.mem (h : ReadOnly s t) : t.mem = s.mem := by rw [h.frame]

theorem ReadOnly.badPar (h : ReadOnly s t) : t.badPar = s.badPar := by rw [h.frame]

theorem ReadOnly.queues (h : ReadOnly s t) : t.queues = s.queues := by rw [h.frame]

theorem ReadOnly.sameAccess (h : ReadOnly s t) : SameAccess s t := by
  obtain ⟨hframe, -⟩ := h
  rw [hframe]
  exact ⟨rfl, rfl, rfl, rfl, fun _ _ => rfl⟩

/-- What the transfer of a descriptor's whole leaves. -/
structure Copied (s t : State) (k ch : Nat) (d : List Byte) : Prop where
  bytes : t.bytesAt (dDst d) (dLen d) = s.bytesAt (dSrc d) (dLen d)
  rest : ∀ a, a < dDst d ∨ dDst d + dLen d ≤ a → mapFind? t.mem a = mapFind? s.mem a
  phase : (t.chan k ch).phase = .moved
  remain : t.get (F.MOVER_CH_REMAIN_REMAIN k ch) = 0
  state : t.chState k ch = s.chState k ch
  queues : t.queues = s.queues

/-- A state whose memory has taken the source's bytes by one store, with the channel behind its transfer. -/
theorem copied_setChan {r : State} {c : Chan} (hphase : c.phase = .moved)
    (hmem : t.mem = (r.writeBytes (dDst d) (s.bytesAt (dSrc d) (dLen d))).mem) (hr : r.mem = s.mem)
    (hregs : t.regs = (s.put (F.MOVER_CH_REMAIN_REMAIN k ch) 0).regs) (hqueues : t.queues = s.queues) :
    Copied s (t.setChan k ch c) k ch d := by
  have hlen := bytesAt_length s (dSrc d) (dLen d)
  have hregs' := (t.setChan_regs k ch c).trans hregs
  have hmem' := (t.setChan_mem k ch c).trans hmem
  refine ⟨bytesAt_of_writeBytes hlen hmem', fun x hx => ?_, ?_, ?_, ?_, (t.setChan_queues k ch c).trans hqueues⟩
  · rw [hmem', State.find_writeBytes_out _ _ _ _ (by rwa [hlen]), hr]
  · rw [State.chan_setChan, hphase]
  · rw [State.get_congr hregs', State.get_put_fits _ rfl]
    exact Nat.zero_mod _
  · rw [State.chState, State.get_congr hregs', State.get_put_of_apart (.inl (chanReg_ne (by decide))), State.chState]

theorem Copies.chTransfer (h : Copies s k (s.chan k ch).desc) : Copied s (s.chTransfer k ch) k ch (s.chan k ch).desc := by
  unfold State.chTransfer
  extract_lets d n init u rn wn readFails writeFails done got s1 s2 s3 s4 phase held
  have hrn : rn = n := h.srcPrefix
  have hwn : wn = n := h.dstPrefix
  have hreads : readFails = false := by simp [readFails, hrn]
  have hwrites : writeFails = false := by simp [writeFails, hwn]
  have hdone : done = n := by simp [done, hreads, hwrites]
  have hgot : got = n := by simp [got, hreads, hwrites]
  have hphase : phase = .moved := by simp [phase, hreads, hwrites]
  have hread : ReadOnly s s1 := by
    unfold s1
    rw [hgot]
    exact .engReadEffect h.readResp h.srcFree _
  have hs2 : s2 = s1.writeBytes (dDst d) (s.bytesAt (dSrc d) n) := by
    have hcopies : Copies s1 k d := h.congr hread.sameAccess hread.mem hread.badPar hread.snoop
    unfold s2
    rw [hdone, h.engBytesNs]
    exact engWrite_device (bytesAt_length ..) hcopies.rangeResp_dst
      (fun x _ hx => isHostAddr_inOneWindow h.dst h.dstDevice hx) hcopies.dstFree _
  have hregs3 : s3.regs = s.regs := (congrArg State.regs hs2).trans ((writeBytes_regs ..).trans hread.regs)
  have hqueues3 : s3.queues = s.queues := (congrArg State.queues hs2).trans ((writeBytes_queues ..).trans hread.queues)
  have hmem3 : s3.mem = (s1.writeBytes (dDst d) (s.bytesAt (dSrc d) n)).mem := (congrArg State.mem hs2 :)
  clear_value s3
  have hs4 : s4 = { s3 with freeCtr := s3.freeCtr + 1 }.put (F.MOVER_CH_REMAIN_REMAIN k ch) 0 := by
    unfold s4
    rw [hdone, Nat.sub_self]
  rw [hs4]
  exact copied_setChan hphase hmem3 hread.mem (State.put_regs_congr hregs3 _ 0) hqueues3

end Sys2Proof.Machine
end

section
/-!
SUPPORT. The commands of a mover channel and the ends of its phases (R251 to R254, R257, R258).
-/

namespace Sys2Proof.Machine

variable {s t : State} {k ch a resp : Nat} {d : List Byte} {write : Bool}

/-! ### START and STOP (R251) -/

theorem moverWork_mem (s : State) (k : Nat) : (s.moverWork k).mem = s.mem := by
  unfold State.moverWork State.ungate
  split
  · split <;> rfl
  · rfl

theorem State.get_lt (s : State) (f : RF) : s.get f < 2 ^ f.w := fieldOf_lt _ f

theorem chCur_lt (s : State) (k ch : Nat) : s.chCur k ch < 2 ^ 40 := by
  have hlow : s.get (F.MOVER_CH_CUR_LO_CUR k ch) < 2 ^ 32 := s.get_lt _
  have hhigh : s.get (F.MOVER_CH_CUR_HI_CUR_HI k ch) < 2 ^ 8 := s.get_lt _
  rw [State.chCur]
  omega

theorem chStart_idle (h : s.chState k ch = chIdle) : s.chStart k ch =
    ((s.moverWork k).setChan k ch { s.chan k ch with pace := false }).chFetch k ch
      (s.get (F.MOVER_CH_HEAD_HI_HEAD_HI k ch) * 2 ^ 32 + s.get (F.MOVER_CH_HEAD_LO_HEAD k ch) / 32 * 32) :=
  if_neg (not_not.mpr h)

theorem chStart_leaves (h : s.chState k ch = chIdle) : (s.chStart k ch).chState k ch = chRun ∧
    ((s.chStart k ch).chan k ch).phase = .fetch ∧ (s.chStart k ch).mem = s.mem ∧ (s.chStart k ch).chCur k ch =
      s.get (F.MOVER_CH_HEAD_HI_HEAD_HI k ch) * 2 ^ 32 + s.get (F.MOVER_CH_HEAD_LO_HEAD k ch) / 32 * 32 := by
  have hlow : s.get (F.MOVER_CH_HEAD_LO_HEAD k ch) < 2 ^ 32 := s.get_lt _
  have hhigh : s.get (F.MOVER_CH_HEAD_HI_HEAD_HI k ch) < 2 ^ 8 := s.get_lt _
  rw [chStart_idle h]
  obtain ⟨hstate, hphase, hmem, hcur⟩ := chFetch_leaves
    (a := s.get (F.MOVER_CH_HEAD_HI_HEAD_HI k ch) * 2 ^ 32 + s.get (F.MOVER_CH_HEAD_LO_HEAD k ch) / 32 * 32) (by omega)
    ((s.moverWork k).setChan k ch { s.chan k ch with pace := false }) k ch
  exact ⟨hstate, hphase, hmem.trans (moverWork_mem s k), hcur⟩

theorem chStart_refuses (h : s.chState k ch ≠ chIdle) : s.chStart k ch = s.chRefuse k ch := if_pos h

theorem chStopCmd_run (h : s.chState k ch = chRun) (hphase : (s.chan k ch).phase ≠ .push) :
    s.chStopCmd k ch = s.setChState k ch chStopping :=
  (if_pos h).trans (if_neg hphase)

theorem chStopCmd_waits (h : s.chState k ch = chPaused ∨ s.chState k ch = chEwait ∨ s.chState k ch = chHalted) :
    s.chStopCmd k ch = s.chStop k ch := by
  unfold State.chStopCmd
  obtain h | h | h := h <;> rw [h] <;> rfl

theorem chStopCmd_idle (h : s.chState k ch = chIdle) : s.chStopCmd k ch = s.chRefuse k ch := by
  unfold State.chStopCmd
  rw [h]
  rfl

/-! ### RETRY and SKIP (R257) -/

theorem chRetry_fetch (h : s.chState k ch = chHalted)
    (hcause : s.on (F.MOVER_CH_ERR_HI_FETCH k ch) = true ∨ s.on (F.MOVER_CH_ERR_HI_FMT k ch) = true) :
    s.chRetry k ch = s.chFetch k ch (s.chCur k ch) :=
  (if_neg (not_not.mpr h)).trans (if_pos (by simpa using hcause))

theorem chRetry_begins (h : s.chState k ch = chHalted) (hfetch : s.on (F.MOVER_CH_ERR_HI_FETCH k ch) = false)
    (hfmt : s.on (F.MOVER_CH_ERR_HI_FMT k ch) = false) : s.chRetry k ch = s.chBegin k ch :=
  (if_neg (not_not.mpr h)).trans (if_neg (by simp [hfetch, hfmt]))

theorem chRetry_refuses (h : s.chState k ch ≠ chHalted) : s.chRetry k ch = s.chRefuse k ch := if_pos h

theorem chSkip_refuses (h : s.chState k ch ≠ chHalted) : s.chSkip k ch = s.chRefuse k ch := if_pos (by simp [h])

theorem badSeen_countedBy (k ch : Nat) : (F.MOVER_CH_STAT_BAD_SEEN k ch).CountedBy (F.MOVER_CH_STAT_BAD_REP k ch) :=
  ⟨rfl, rfl, rfl, rfl, rfl⟩

/-- A marked descriptor is counted as done, and BAD_SEEN tells of it. -/
theorem chMark_leaves {fmt : Bool} (hk : chanOk k ch = true)
    (hdone : s.rangeResp (moverInit k) (s.chCur k ch + 24) 4 true = rDone) :
    (s.chMark k ch write resp fmt).on (F.MOVER_CH_STAT_BAD_SEEN k ch) = true ∧
      (s.chMark k ch write resp fmt).get (F.MOVER_CH_DONE_DONE k ch) = (s.get (F.MOVER_CH_DONE_DONE k ch) + 1) % 2 ^ 32 := by
  unfold State.chMark
  extract_lets d a r w s1
  rw [if_neg (not_not.mpr hdone), chEnd_badSeen, chEnd_done, State.on_congr (s1.count_regs ..), State.get_congr (s1.count_regs ..)]
  refine ⟨State.on_flagRep (badSeen_countedBy k ch) _, ?_⟩
  have hkept : MoversKept s (s.engWrite (moverInit k) a (toBytes 4 w) (dNs d)) := (MoversKept.refl s).engWrite
  have hflag : s1.get (F.MOVER_CH_DONE_DONE k ch) =
      (s.engWrite (moverInit k) a (toBytes 4 w) (dNs d)).get (F.MOVER_CH_DONE_DONE k ch) :=
    State.get_of_reg (State.reg_flagRep_ne (badSeen_countedBy k ch) _ (chanReg_ne (by decide)))
  rw [hflag, hkept.get (chanReg_block hk (by decide))]

theorem SameAccess.setChState (hk : chanOk k ch = true) (s : State) (x : Nat) : SameAccess s (s.setChState k ch x) :=
  ⟨rfl, rfl, rfl, rfl, fun _ ha => s.reg_put_ne (F.MOVER_CH_STAT_STATE k ch) x fun h =>
    ha (h ▸ chanReg_block hk (by decide))⟩

theorem chSkip_leaves (hk : chanOk k ch = true) (h : s.chState k ch = chHalted)
    (hfetch : s.on (F.MOVER_CH_ERR_HI_FETCH k ch) = false)
    (hdone : s.rangeResp (moverInit k) (s.chCur k ch + 24) 4 true = rDone) :
    (s.chSkip k ch).on (F.MOVER_CH_STAT_BAD_SEEN k ch) = true ∧
      (s.chSkip k ch).get (F.MOVER_CH_DONE_DONE k ch) = (s.get (F.MOVER_CH_DONE_DONE k ch) + 1) % 2 ^ 32 := by
  have hdone' : (s.setChState k ch chRun).rangeResp (moverInit k) ((s.setChState k ch chRun).chCur k ch + 24) 4 true = rDone := by
    rw [chCur_setChState]
    exact (SameAccess.setChState hk s chRun).rangeResp_done hdone
  have hget : (s.setChState k ch chRun).get (F.MOVER_CH_DONE_DONE k ch) = s.get (F.MOVER_CH_DONE_DONE k ch) :=
    State.get_put_of_apart (.inl (chanReg_ne (by decide))) s _
  rw [State.chSkip, if_neg (by simp [h, hfetch]), ← hget]
  exact chMark_leaves hk hdone'

/-! ### The shadow head (R258) -/

theorem chArm_leaves (s : State) (k ch : Nat) : (s.chArm k ch).on (F.MOVER_CH_STAT_SHADOW_VALID k ch) = true ∧
    onlyRegs s (s.chArm k ch) [R.MOVER_CH_STAT k ch] :=
  ⟨State.on_put (F.MOVER_CH_STAT_SHADOW_VALID k ch) rfl s 1, (onlyRegs.refl _ s).put List.mem_cons_self⟩

theorem chShadow_clears (s : State) (k ch : Nat) (hi : Bool) (v : Word) :
    (s.chShadow k ch hi v).on (F.MOVER_CH_STAT_SHADOW_VALID k ch) = false :=
  State.on_put (F.MOVER_CH_STAT_SHADOW_VALID k ch) rfl _ 0

theorem shadowHead_chShadow (s : State) (k ch : Nat) (v : Word) : (s.chShadow k ch false v).shadowHead k ch =
    s.get (F.MOVER_CH_SHADOW_HI_SHADOW_HI k ch) * 2 ^ 32 + v.toNat / 32 * 32 := by
  have hlow : (s.chShadow k ch false v).get (F.MOVER_CH_SHADOW_LO_SHADOW k ch) = v.toNat / 32 * 32 % 2 ^ 32 :=
    (State.get_put_of_apart (.inl (chanReg_ne (by decide))) _ 0).trans
      (State.get_put_fits (F.MOVER_CH_SHADOW_LO_SHADOW k ch) rfl s _)
  have hhigh : (s.chShadow k ch false v).get (F.MOVER_CH_SHADOW_HI_SHADOW_HI k ch) =
      s.get (F.MOVER_CH_SHADOW_HI_SHADOW_HI k ch) :=
    (State.get_put_of_apart (.inl (chanReg_ne (by decide))) _ 0).trans
      (State.get_put_of_apart (f := F.MOVER_CH_SHADOW_LO_SHADOW k ch) (.inl (chanReg_ne (by decide))) s _)
  have hv := v.isLt
  rw [State.shadowHead, hlow, hhigh]
  omega

theorem get_chShadow_high (s : State) (k ch : Nat) (v : Word) :
    (s.chShadow k ch true v).get (F.MOVER_CH_SHADOW_HI_SHADOW_HI k ch) = v.toNat % 256 :=
  ((State.get_put_of_apart (.inl (chanReg_ne (by decide))) _ 0).trans
    (State.get_put_fits (F.MOVER_CH_SHADOW_HI_SHADOW_HI k ch) rfl s _)).trans (Nat.mod_mod _ _)

/-! ### Pacing, ends and failures (R253, R254, R257) -/

theorem chPaceStep_closed (hpace : s.get (F.MOVER_CH_CFG_PACE k ch) = 1)
    (hclosed : (s.q (s.get (F.MOVER_CH_PACEQ_QID k ch))).open_ = false) : (s.chPaceStep k ch).chState k ch = chPaused := by
  unfold State.chPaceStep
  extract_lets c pace q
  have hq : q.open_ = false := hclosed
  have hp : pace = 1 := hpace
  rw [hp, hq]
  exact chState_setChState (by decide) _ k ch

theorem chDone_plain (hphase : (s.chan k ch).phase = .moved) (hsquash : (s.chan k ch).squash = false)
    (hqadv : dQadv (s.chan k ch).desc = false) : s.chDone k ch = s.chEnd k ch 0 0 false := by
  unfold State.chDone
  extract_lets c i pace
  have hc : c = s.chan k ch := rfl
  rw [if_neg (by rw [hc, hphase]; exact not_not.mpr rfl), if_neg (by rw [hc, hsquash]; decide), if_pos (by simp [hc, hqadv])]

/-- A push that its queue takes ends the descriptor (R254). -/
theorem chDrain_done (hk : chanOk k ch = true) (hsquash : (s.chan k ch).squash = false)
    (hpush : s.pushOk (s.get (F.MOVER_CH_PACEQ_QID k ch)) = true) :
    (s.chDrain k ch).get (F.MOVER_CH_DONE_DONE k ch) = (s.get (F.MOVER_CH_DONE_DONE k ch) + 1) % 2 ^ 32 := by
  unfold State.chDrain
  extract_lets c i
  have hc : c.squash = false := hsquash
  have hi : s.pushOk i = true := hpush
  rw [hc, hi, if_neg Bool.false_ne_true, if_pos rfl, chEnd_done, ((MoversKept.refl s).hwPush).get (chanReg_block hk (by decide))]

theorem chFail_halts {fmt : Bool} (hpolicy : s.on (F.MOVER_CH_CFG_POLICY k ch) = true) :
    s.chFail k ch a write resp fmt = s.chHalt k ch a write resp false fmt := if_pos hpolicy

/-! ### The fetch (R252) -/

theorem chFetched_stopping (hphase : (s.chan k ch).phase = .fetch) (hstate : s.chState k ch = chStopping) :
    s.chFetched k ch = s.chStop k ch :=
  (if_neg (not_not.mpr hphase)).trans (if_pos hstate)

theorem chFetched_failed (hphase : (s.chan k ch).phase = .fetch) (hstate : s.chState k ch ≠ chStopping)
    (hfails : s.readResp (moverInit k) (s.chCur k ch) 32 ≠ rDone) : s.chFetched k ch =
      (s.engReadEffect (moverInit k) (s.chCur k ch) 32 false).chHalt k ch (s.chCur k ch) false
        (s.readResp (moverInit k) (s.chCur k ch) 32) true false :=
  (if_neg (not_not.mpr hphase)).trans ((if_neg hstate).trans (if_pos hfails))

/-- A channel with the descriptor that it has fetched. -/
def State.chFetches (s : State) (k ch : Nat) : State :=
  (s.engReadEffect (moverInit k) (s.chCur k ch) 32 false).setChan k ch
    { (s.engReadEffect (moverInit k) (s.chCur k ch) 32 false).chan k ch with
      phase := .held
      desc := s.engBytes (s.chCur k ch) 32 }

theorem chFetched_done (hphase : (s.chan k ch).phase = .fetch) (hstate : s.chState k ch ≠ chStopping)
    (hdone : s.readResp (moverInit k) (s.chCur k ch) 32 = rDone) : s.chFetched k ch = (s.chFetches k ch).chJudge k ch :=
  (if_neg (not_not.mpr hphase)).trans ((if_neg hstate).trans (if_neg (not_not.mpr hdone)))

/-- A well-formed descriptor without token, pacing and eMark goes to its transfer. -/
theorem chJudge_begins (hd : (s.chan k ch).desc = d) (htok : dTokV d = false) (hfails : s.descFails d = false)
    (hewait : dEwait d = false) (hpace : s.get (F.MOVER_CH_CFG_PACE k ch) = 0) : s.chJudge k ch = s.chBegin k ch := by
  have hemark : s.chEmarkStep k ch = s.chBegin k ch := by
    unfold State.chEmarkStep
    extract_lets c
    exact if_pos (by simp [c, hd, hewait])
  have hpacing : s.chPaceStep k ch = s.chEmarkStep k ch := by
    unfold State.chPaceStep
    extract_lets c pace q
    exact if_pos (by simp [pace, hpace])
  unfold State.chJudge
  extract_lets e
  have he : e = d := hd
  rw [he, htok, hfails, Bool.false_and, if_neg Bool.false_ne_true, if_neg Bool.false_ne_true, hpacing, hemark]

theorem SameAccess.descFails (h : SameAccess s t) (d : List Byte) : t.descFails d = s.descFails d := by
  rw [State.descFails, h.hpa?, State.descFails]

theorem SameAccess.trans {u : State} (hst : SameAccess s t) (htu : SameAccess t u) : SameAccess s u :=
  ⟨htu.routes.trans hst.routes, htu.stops.trans hst.stops, htu.cores.trans hst.cores, htu.macros.trans hst.macros,
    fun a ha => (htu.reg a ha).trans (hst.reg a ha)⟩

/-- What a good fetch leaves. -/
structure Fetched (s t : State) (k ch : Nat) (d : List Byte) : Prop where
  desc : (t.chan k ch).desc = d
  access : SameAccess s t
  regs : t.regs = s.regs
  mem : t.mem = s.mem
  badPar : t.badPar = s.badPar
  snoop : t.host.snoop = s.host.snoop
  queues : t.queues = s.queues

theorem ReadOnly.fetched {c : Chan} (h : ReadOnly s t) (hd : c.desc = d) : Fetched s (t.setChan k ch c) k ch d :=
  ⟨by rw [State.chan_setChan, hd], h.sameAccess.trans ⟨rfl, rfl, rfl, rfl, fun _ _ => rfl⟩, h.regs, h.mem, h.badPar, h.snoop,
    h.queues⟩

theorem chFetches_leaves (hdone : s.readResp (moverInit k) (s.chCur k ch) 32 = rDone)
    (hfree : s.trackedIn (s.chCur k ch) 32 = []) : Fetched s (s.chFetches k ch) k ch (s.engBytes (s.chCur k ch) 32) :=
  ReadOnly.fetched (.engReadEffect hdone hfree false) rfl

/-- The transfer of a descriptor that copies device memory, after its fetch. -/
theorem chBegin_copies (hk : chanOk k ch = true) (hstate : s.chState k ch = chRun) (hfetched : Fetched s t k ch d)
    (hcopies : Copies s k d) : Copied s (t.chBegin k ch) k ch d := by
  obtain ⟨hdesc, haccess, -, hmem, hpar, hsnoop, hqueues⟩ := hfetched
  have hdesc' : ((t.setChState k ch chRun).chan k ch).desc = d := hdesc
  have hrun : Copies (t.setChState k ch chRun) k d := hcopies.congr (haccess.trans (.setChState hk t chRun)) hmem hpar hsnoop
  obtain ⟨hbytes, hrest, hphase, hremain, hstate', hqueues'⟩ :=
    hdesc' ▸ Copies.chTransfer (s := t.setChState k ch chRun) (ch := ch) (hdesc'.symm ▸ hrun)
  have hmem' : (t.setChState k ch chRun).mem = s.mem := hmem
  exact ⟨hbytes.trans (hcopies.bytesAt_congr hmem'), fun a ha => (hrest a ha).trans (by rw [hmem']), hphase, hremain,
    hstate'.trans ((chState_setChState (by decide) t k ch).trans hstate.symm), hqueues'.trans hqueues⟩

/-- A well-formed descriptor without token, pacing and eMark goes from its fetch to its transfer. -/
theorem chFetched_begins (hphase : (s.chan k ch).phase = .fetch) (hstate : s.chState k ch = chRun)
    (hdone : s.readResp (moverInit k) (s.chCur k ch) 32 = rDone) (hfetched : Fetched s (s.chFetches k ch) k ch d)
    (hfails : s.descFails d = false) (htok : dTokV d = false) (hewait : dEwait d = false)
    (hpace : s.get (F.MOVER_CH_CFG_PACE k ch) = 0) : s.chFetched k ch = (s.chFetches k ch).chBegin k ch := by
  rw [chFetched_done hphase (by rw [hstate]; decide) hdone]
  exact chJudge_begins hfetched.desc htok ((hfetched.access.descFails d).trans hfails) hewait
    ((State.get_congr hfetched.regs _).trans hpace)

theorem inOneWindow_of_descFails (h : s.descFails d = false) :
    inOneWindow (dSrc d) (dLen d) = true ∧ inOneWindow (dDst d) (dLen d) = true := by
  simp only [State.descFails, descBad, Bool.or_eq_false_iff, Bool.not_eq_false'] at h
  obtain ⟨⟨⟨⟨-, hsrc⟩, hdst⟩, -⟩, -⟩ := h
  exact ⟨hsrc, hdst⟩

/-- The fetch of a descriptor that copies device memory. -/
theorem chFetched_copies (hk : chanOk k ch = true) (hphase : (s.chan k ch).phase = .fetch) (hstate : s.chState k ch = chRun)
    (hdone : s.readResp (moverInit k) (s.chCur k ch) 32 = rDone) (hfree : s.trackedIn (s.chCur k ch) 32 = [])
    (hd : s.engBytes (s.chCur k ch) 32 = d) (hfails : s.descFails d = false) (htok : dTokV d = false)
    (hewait : dEwait d = false) (hpace : s.get (F.MOVER_CH_CFG_PACE k ch) = 0) (hcopies : Copies s k d) :
    Copied s (s.chFetched k ch) k ch d := by
  have hfetched : Fetched s (s.chFetches k ch) k ch d := by
    rw [← hd]
    exact chFetches_leaves hdone hfree
  rw [chFetched_begins hphase hstate hdone hfetched hfails htok hewait hpace]
  exact chBegin_copies hk hstate hfetched hcopies

end Sys2Proof.Machine
end

section
/-!
PROOFS. The mover channels (O46).
-/

open Sys2Proof Sys2Proof.Machine

/-- Settles O46: a command acts as the lemma of its state says (`chStart_leaves`, `chStopCmd_waits`, `chSkip_leaves` and their
like) and is else refused (`chRefuse_leaves`); a fetched descriptor of the copying kind begins its transfer
(`chFetched_begins`), which is a read without a note and one store (`Copies.chTransfer`). -/
theorem movers : Obligations.Movers := by
  unfold Obligations.Movers
  refine ⟨fun s k h hk => ?commands, fun s k h hk => ?copies⟩
  case commands =>
    intro st c refuses
    have hrefused {i : Instr} (hi : exec i s = .next (s.chRefuse k.toNat h.toNat)) : refuses i :=
      ⟨_, hi, chRefuse_leaves s k.toNat h.toNat⟩
    have hstart : exec (.start k h) s = .next (s.chStart k.toNat h.toNat) := if_pos hk
    have hstop : exec (.stop k h) s = .next (s.chStopCmd k.toNat h.toNat) := if_pos hk
    have hretry : exec (.retry k h) s = .next (s.chRetry k.toNat h.toNat) := if_pos hk
    have hskip : exec (.skip k h) s = .next (s.chSkip k.toNat h.toNat) := if_pos hk
    have hfetched : exec (.descriptorFetched k h) s = .next (s.chFetched k.toNat h.toNat) := if_pos hk
    have hpacing : exec (.pacingTest k h) s = .next (if s.chState k.toNat h.toNat = chPaused then
      s.chPaceStep k.toNat h.toNat else s) := if_pos hk
    refine ⟨fun hst => ⟨_, hstart, chStart_leaves hst⟩, fun hst => hrefused (chStart_refuses hst ▸ hstart),
      fun hst hphase => chStopCmd_run hst hphase ▸ hstop, fun hst => ?stopWaits, fun hst => hrefused (chStopCmd_idle hst ▸ hstop),
      fun hst hcause => ?retryFetch, fun hst hfetch => ⟨fun hfmt => chRetry_begins hst hfetch hfmt ▸ hretry,
        fun hdone => ⟨_, hskip, chSkip_leaves hk hst hfetch hdone⟩⟩,
      fun hst => ⟨hrefused (chRetry_refuses hst ▸ hretry), hrefused (chSkip_refuses hst ▸ hskip)⟩,
      ⟨_, if_pos hk, chArm_leaves s k.toNat h.toNat⟩,
      fun v => ⟨⟨_, if_pos hk, chShadow_clears s k.toNat h.toNat false v, shadowHead_chShadow s k.toNat h.toNat v⟩,
        ⟨_, if_pos hk, chShadow_clears s k.toNat h.toNat true v, get_chShadow_high s k.toNat h.toNat v⟩⟩,
      fun hphase hst => ?fetchStops, fun hphase hst hfails => ?fetchFails, fun hst => (if_neg hst ▸ hpacing :),
      fun hst => ⟨(if_pos hst ▸ hpacing :), chPaceStep_closed⟩, fun hphase hsquash hqadv hlast hshadow => ?ends,
      fun hphase hsquash hpush => ?pushes, fun w r a hphase hr hpolicy => ?fails⟩
    case stopWaits =>
      obtain ⟨hstate, hphase, hmem, -⟩ := chStop_leaves s k.toNat h.toNat
      exact ⟨_, chStopCmd_waits hst ▸ hstop, hstate, hphase, hmem⟩
    case retryFetch =>
      obtain ⟨hstate, hphase, -, hcur⟩ := chFetch_leaves (chCur_lt s k.toNat h.toNat) s k.toNat h.toNat
      exact ⟨_, chRetry_fetch hst hcause ▸ hretry, hstate, hphase, hcur⟩
    case fetchStops =>
      obtain ⟨hstate, -⟩ := chStop_leaves s k.toNat h.toNat
      exact ⟨_, chFetched_stopping hphase hst ▸ hfetched, hstate⟩
    case fetchFails =>
      obtain ⟨hstate, hresp, -, hfetch, haddr, hmem⟩ := chHalt_leaves (readResp_lt s (moverInit k.toNat) _ 32)
        (s.engReadEffect (moverInit k.toNat) (s.chCur k.toNat h.toNat) 32 false) k.toNat h.toNat (s.chCur k.toNat h.toNat) false
        true false
      exact ⟨_, chFetched_failed hphase hst hfails ▸ hfetched, hstate, hfetch, hresp, haddr,
        fun hfree => hmem.trans (engReadEffect_mem hfree ..)⟩
    case ends =>
      have hend : exec (.descriptorEnd k h) s = .next (s.chDone k.toNat h.toNat) := if_pos hk
      rw [chDone_plain hphase hsquash hqadv] at hend
      obtain ⟨hstate, hflight, hmem⟩ := chEnd_last (status := 0) (resp := 0) (write := false) hlast hshadow
      exact ⟨_, hend, hstate, hflight, hmem, chEnd_done s k.toNat h.toNat 0 0 false⟩
    case pushes =>
      have hpushes : exec (.drainPush k h) s = .next (s.chDrain k.toNat h.toNat) := (if_pos hk).trans (congrArg _ (if_pos hphase))
      exact ⟨_, hpushes, chDrain_done hk hsquash hpush⟩
    case fails =>
      have hfails : exec (.transferFailure k h) s = .next (s.chFail k.toNat h.toNat a w r false) := by
        refine (if_pos hk).trans ?_
        rw [show (s.chan k.toNat h.toNat).phase = .failed w r a from hphase]
      rw [chFail_halts hpolicy] at hfails
      obtain ⟨hstate, hresp, hdir, hfetch, haddr, hmem⟩ := chHalt_leaves hr s k.toNat h.toNat a w false false
      exact ⟨_, hfails, hstate, hresp, hdir, hfetch, haddr, hmem⟩
  case copies =>
    intro d src hphase hstate hdone hfails htok hewait hpace hsrc hdst hfree hsrcFree hdstFree hreads hwrites
    have hd : s.engBytes (s.chCur k.toNat h.toNat) 32 = d := rfl
    have hgranules : granules (dSrc d) (dLen d) = src := rfl
    clear_value src d
    subst hgranules
    obtain ⟨hsrcWin, hdstWin⟩ := inOneWindow_of_descFails hfails
    have hcopies : Copies s k.toNat d := ⟨hsrcWin, hdstWin, hsrc, hdst, hsrcFree, hdstFree, hreads, hwrites⟩
    obtain ⟨hbytes, hrest, hmoved, hremain, hrun, hqueues⟩ :=
      chFetched_copies hk hphase hstate hdone hfree hd hfails htok hewait hpace hcopies
    exact ⟨_, if_pos hk, hbytes, hrest, hmoved, hremain, hrun.trans hstate, hqueues⟩

end
